-- ==== Sys2Proof/Word.lean ====
section
/-! DEFINITION. The words of the HM256 and their plainest arithmetic: 32-bit register words (R10), 64-bit time and
counts, the stages and accumulators of the axis engines (R8, R88, R90), and the sparse tables that the state is made of.
Nothing here depends on the machine's state. -/

namespace Sys2Proof

/-- A 32-bit register, scalar or command word (R10, R88). -/
abbrev Word := BitVec 32
/-- A byte of a memory or of a frame. -/
abbrev Byte := BitVec 8
/-- A 64-bit stamp, counter or identifier (R8, R291). -/
abbrev U64 := BitVec 64

/-- The bits `lo` to `lo + n - 1` of a word, as a number. -/
def Word.bits (w : Word) (lo n : Nat) : Nat := w.toNat / 2 ^ lo % 2 ^ n

/-- One bit of a word. -/
def Word.bit (w : Word) (k : Nat) : Bool := w.getLsbD k

/-- A word with the `n`-bit field at `lo` replaced by the low bits of `v`. -/
def Word.setBits (w : Word) (lo n v : Nat) : Word :=
  BitVec.ofNat 32 (w.toNat - w.toNat / 2 ^ lo % 2 ^ n * 2 ^ lo + v % 2 ^ n * 2 ^ lo)

/-- One bit as a number. -/
def bitNat (b : Bool) : Nat := if b then 1 else 0

/-- A 64-bit value from its low and high words. -/
def join64 (lo hi : Word) : U64 := hi ++ lo

/-- The low word of a 64-bit value. -/
def lo32 (v : U64) : Word := v.setWidth 32

/-- The high word of a 64-bit value. -/
def hi32 (v : U64) : Word := (v >>> 32).setWidth 32

/-- A word as a signed number clamped to the signed 32-bit range. -/
def satWord (x : Int) : Word :=
  if x < -2147483648 then 0x80000000#32 else if 2147483647 < x then 0x7FFFFFFF#32 else BitVec.ofInt 32 x

/-- A count that saturates at `top`. -/
def satAdd (top n k : Nat) : Nat := if top < n + k then top else n + k

/-- The passage comparison of R7: `a` is later than `b`, the difference read as a signed 32-bit value. -/
def later (a b : Word) : Bool := 0 < (a - b).toInt

/-- `a` is later than `b`, or equal to it (R7). -/
def notEarlier (a b : Word) : Bool := 0 ≤ (a - b).toInt

/-- Round half up of `x / 2^s` (R9): half an LSB is added, then an arithmetic shift. -/
def shrRound (x : Int) (s : Nat) : Int := if s = 0 then x else (x + 2 ^ (s - 1)) / 2 ^ s

/-- Round half up of the quotient `n / d`, for a positive `d` (R9). -/
def divRound (n : Int) (d : Nat) : Int := if d = 0 then 0 else (2 * n + d) / (2 * d)

/-- A number clamped to the signed range of `n` bits, and whether it was clamped. -/
def satBits (n : Nat) (x : Int) : Int × Bool :=
  if x < -(2 ^ (n - 1)) then (-(2 ^ (n - 1)), true)
  else if (2 ^ (n - 1) : Int) - 1 < x then (2 ^ (n - 1) - 1, true) else (x, false)

/-- The largest natural number whose square is at most `n`, by `fuel` steps of bisection between `lo` and `hi`. -/
def isqrtAux (n : Nat) : Nat → Nat → Nat → Nat
  | 0, lo, _ => lo
  | fuel + 1, lo, hi =>
    if hi ≤ lo + 1 then lo
    else
      let mid := (lo + hi) / 2
      if mid * mid ≤ n then isqrtAux n fuel mid hi else isqrtAux n fuel lo mid

/-- The integer square root, rounded down. -/
def isqrt (n : Nat) : Nat := isqrtAux n (Nat.log2 n + 2) 0 (n + 1)

/-- Eight lanes of a vector unit (R88). -/
structure Lanes (α : Type) where
  l0 : α
  l1 : α
  l2 : α
  l3 : α
  l4 : α
  l5 : α
  l6 : α
  l7 : α
  deriving DecidableEq, Repr

namespace Lanes

/-- The same value in each lane. -/
def fill {α : Type} (a : α) : Lanes α := ⟨a, a, a, a, a, a, a, a⟩

/-- A function of each lane. -/
def map {α β : Type} (f : α → β) (v : Lanes α) : Lanes β :=
  ⟨f v.l0, f v.l1, f v.l2, f v.l3, f v.l4, f v.l5, f v.l6, f v.l7⟩

/-- A function of two vectors, lane by lane. -/
def zip {α β γ : Type} (f : α → β → γ) (v : Lanes α) (w : Lanes β) : Lanes γ :=
  ⟨f v.l0 w.l0, f v.l1 w.l1, f v.l2 w.l2, f v.l3 w.l3, f v.l4 w.l4, f v.l5 w.l5, f v.l6 w.l6, f v.l7 w.l7⟩

/-- The lanes in order. -/
def toList {α : Type} (v : Lanes α) : List α := [v.l0, v.l1, v.l2, v.l3, v.l4, v.l5, v.l6, v.l7]

/-- Lane `k` modulo 8. -/
def get {α : Type} (v : Lanes α) (k : Nat) : α :=
  match k % 8 with
  | 0 => v.l0
  | 1 => v.l1
  | 2 => v.l2
  | 3 => v.l3
  | 4 => v.l4
  | 5 => v.l5
  | 6 => v.l6
  | _ => v.l7

/-- Lane `k` modulo 8 replaced. -/
def set {α : Type} (v : Lanes α) (k : Nat) (a : α) : Lanes α :=
  match k % 8 with
  | 0 => { v with l0 := a }
  | 1 => { v with l1 := a }
  | 2 => { v with l2 := a }
  | 3 => { v with l3 := a }
  | 4 => { v with l4 := a }
  | 5 => { v with l5 := a }
  | 6 => { v with l6 := a }
  | _ => { v with l7 := a }

/-- The vector whose lane `k` is `f k`. -/
def gen {α : Type} (f : Nat → α) : Lanes α := ⟨f 0, f 1, f 2, f 3, f 4, f 5, f 6, f 7⟩

end Lanes

/-- A stage: eight Q1.23 mantissas that share one exponent (R8, R88, R90). -/
structure Stage where
  m : Lanes (BitVec 24)
  e : BitVec 8
  deriving DecidableEq, Repr

/-- An accumulator: eight 56-bit lanes that share one 9-bit exponent (R8, R88). -/
structure Acc where
  a : Lanes (BitVec 56)
  e : BitVec 9
  deriving DecidableEq, Repr

/-- The stage of zeros that a register holds before a write. -/
def Stage.zero : Stage := ⟨Lanes.fill 0, 0⟩

/-- The accumulator of zeros. -/
def Acc.zero : Acc := ⟨Lanes.fill 0, 0⟩

/-- A 256-bit memory word: the data bits of one codeword (R108). -/
abbrev Line := Lanes Word

/-- A value word's mantissa: bits [31:8], signed (R148). -/
def Word.mant (w : Word) : Int := (BitVec.ofNat 24 (w.toNat / 256)).toInt

/-- A value word's exponent: bits [7:0], signed (R148). -/
def Word.expo (w : Word) : Int := (BitVec.ofNat 8 w.toNat).toInt

/-- The value word of a mantissa and an exponent (R148). -/
def Word.ofME (m e : Int) : Word :=
  BitVec.ofNat 32 ((BitVec.ofInt 24 m).toNat * 256 + (BitVec.ofInt 8 e).toNat)

/-- A sparse table: pairs of a key and a value, keys rising, no entry at its default. -/
abbrev Tab (α : Type) := List (Nat × α)

namespace Tab

/-- The value at key `k`; an unlisted key reads as `d`. -/
def get {α : Type} (d : α) : Tab α → Nat → α
  | [], _ => d
  | (j, v) :: r, k => if k = j then v else get d r k

/-- An entry placed in order of its key. -/
def insert {α : Type} : Tab α → Nat → α → Tab α
  | [], k, v => [(k, v)]
  | (j, w) :: r, k, v =>
    if k < j then (k, v) :: (j, w) :: r
    else if k = j then (k, v) :: r
    else (j, w) :: insert r k v

/-- A table without the key `k`. -/
def erase {α : Type} : Tab α → Nat → Tab α
  | [], _ => []
  | (j, w) :: r, k => if k = j then erase r k else (j, w) :: erase r k

/-- The table with value `v` at key `k`; the default `d` is held by listing nothing. -/
def put {α : Type} [DecidableEq α] (d : α) (t : Tab α) (k : Nat) (v : α) : Tab α :=
  if v = d then erase t k else insert (erase t k) k v

/-- A function applied to every listed value. -/
def onAll {α : Type} [DecidableEq α] (d : α) (f : α → α) (t : Tab α) : Tab α :=
  (t.map (fun p => (p.1, f p.2))).filter (fun p => decide (p.2 ≠ d))

/-- Keys strictly rising, and no entry equal to the default: the one canonical form. -/
def wf {α : Type} [DecidableEq α] (d : α) : Tab α → Bool
  | [] => true
  | [(_, v)] => decide (v ≠ d)
  | (j, v) :: (k, w) :: r => decide (v ≠ d) && decide (j < k) && wf d ((k, w) :: r)

end Tab

/-- A list's element at `k`, or `d` past its end. -/
def nthD {α : Type} (d : α) : List α → Nat → α
  | [], _ => d
  | a :: _, 0 => a
  | _ :: r, k + 1 => nthD d r k

/-- A list with the element at `k` replaced; unchanged past its end. -/
def setNth {α : Type} : List α → Nat → α → List α
  | [], _, _ => []
  | _ :: r, 0, b => b :: r
  | a :: r, k + 1, b => a :: setNth r k b

/-- A number's `n` low bytes, least significant first. -/
def bytesLE : Nat → Nat → List Byte
  | 0, _ => []
  | n + 1, v => BitVec.ofNat 8 v :: bytesLE n (v / 256)

/-- The number whose bytes, least significant first, are given. -/
def natLE : List Byte → Nat
  | [] => 0
  | b :: r => b.toNat + 256 * natLE r

/-- `n` bytes of a list from offset `k`, read little-endian; absent bytes are 0. -/
def fieldLE (bs : List Byte) (k n : Nat) : Nat := natLE ((bs.drop k).take n)

end Sys2Proof
end

