-- ==== Sys2Proof/Machine/AcqTypes.lean ====
section
/-! DEFINITION. The state of the acquisition block (09_acquisition). -/

namespace Sys2Proof.Machine

/-- One trigger unit (R329-R334, R356). Positions are in 1/256 of a sample for a numeric source and in 0.25 ns units of
the time base for an EVIO source. -/
structure Trg where
  /-- the condition, once a sample has set it (R329) -/
  cond : Bool := false
  primed : Bool := false
  /-- the last fresh sample, its index and the start of its passage (R330, R333) -/
  prev : Option (Word × Nat × U64) := none
  /-- the index of the latest sample: of the present passage, or the 2.5 ns sample of an EVIO source's latest transition -/
  idx : Nat := 0
  /-- the position of the latest transition of the condition (R331 PULSE, TIMEOUT) -/
  trans : Option Nat := none
  /-- the stay that began at it has fired its timeout (R331) -/
  timedOut : Bool := false
  /-- an upward crossing of LO with no upward crossing of HI since (R331 RUNT 0) -/
  runtUp : Option Nat := none
  /-- a downward crossing of HI with no downward crossing of LO since (R331 RUNT 1) -/
  runtDown : Option Nat := none
  /-- an upward crossing of LO with no downward one since (R331 SLEW 0) -/
  slewUp : Option Nat := none
  /-- a downward crossing of HI with no upward one since (R331 SLEW 1) -/
  slewDown : Option Nat := none
  /-- TRG_COUNT (R334) -/
  count : Word := 0
  /-- TRG_STAT.FIRED (R356) -/
  fired : Bool := false
  /-- TRG_STAT.SKIPPED (R333) -/
  skipped : Nat := 0
  /-- firings of the passage in progress, and the event time of the first (R334) -/
  marks : Nat := 0
  markTime : U64 := 0
  deriving DecidableEq, Repr

/-- The states of a privileged channel (R341). -/
inductive PrivSt
  | idle
  | armed
  | triggered
  | stopped
  | faulted
  deriving DecidableEq, Repr

/-- The code of PRIV_STATE.STATE (R341). -/
def PrivSt.code : PrivSt → Nat
  | .idle => 0
  | .armed => 1
  | .triggered => 2
  | .stopped => 3
  | .faulted => 15

/-- One privileged channel (R340-R351, R357). -/
structure Priv where
  /-- PRIV_STATE.STATE (R341) -/
  st : PrivSt := .idle
  /-- PRIV_STATE.PRE_VALID (R341) -/
  preValid : Bool := false
  /-- PRIV_STATE.STOP (R357) -/
  stop : Nat := 0
  /-- PRIV_STATE.IGNORED (R341) -/
  ignored : Nat := 0
  /-- PRIV_TRIG.TRIG_SUB (R342) -/
  trigSub : Nat := 0
  /-- PRIV_PRE_HELD (R342) -/
  preHeld : Nat := 0
  /-- PRIV_POST_HELD (R342) -/
  postHeld : Nat := 0
  /-- WRITTEN since the arming (R343) -/
  written : Nat := 0
  /-- DROPPED, samples overwritten (R343) -/
  dropped : Nat := 0
  /-- the event time, 0.25 ns units (R343) -/
  evTime : U64 := 0
  /-- the trigger sample, counted from the arming (R342, R343) -/
  trigW : Nat := 0
  /-- the passage of the decision (R343) -/
  decision : Word := 0
  /-- a mask load in progress (R351) -/
  maskLoading : Bool := false
  /-- the anchor sample of the mask pass in progress (R349) -/
  maskAnchor : Option Nat := none
  /-- PRIV_MVIOL.COUNT (R350) -/
  mviol : Nat := 0
  /-- PRIV_MVIOL.FIRST (R350) -/
  mfirst : Nat := 0
  /-- PRIV_READ (R344) -/
  copied : Nat := 0
  /-- the 2.5 ns sample of RAW at which a FAST channel was armed (R340) -/
  armTick : Nat := 0
  /-- the passage of the latest numeric sample, and whether that sample is stale (R342, R349) -/
  lastPassage : Word := 0
  lastStale : Bool := false
  deriving DecidableEq, Repr

/-- The stream, and the units and channels (R335-R339). -/
structure Acq where
  /-- ACQ.STR_WR (R339) -/
  strWr : Word := 0
  /-- ACQ.STR_RD (R339) -/
  strRd : Word := 0
  /-- ACQ.STR_DROP (R339) -/
  strDrop : Word := 0
  /-- ACQ.STR_GAP (R354) -/
  strGap : Word := 0
  /-- passages without a group, and slots dropped, since the latest GAP slot (R336) -/
  gapPassages : Nat := 0
  gapSlots : Nat := 0
  /-- the queue of slots that wait for the plant port (R337) -/
  queue : List (List Byte) := []
  /-- the datagram sequence number (R337) -/
  dgram : Nat := 0
  /-- TRG0-TRG15 (R329) -/
  trgs : Tab Trg := []
  /-- privileged channels 0-3 (R340) -/
  privs : Tab Priv := []
  /-- the last fresh values of the variables in use, variable v of instance i at 64 i + v (R326) -/
  fresh : Tab Word := []
  deriving DecidableEq, Repr

end Sys2Proof.Machine
end

