-- ==== Sys2Proof/Machine/AxisTypes.lean ====
section
/-! DEFINITION. The state of one axis instance (04_control_laws) and of one profile generator and local step channel
(05_motion_profiles). The registers that a bank holds are in the register tables of the state, not here. -/

namespace Sys2Proof.Machine

/-- The states of an instance (R130). -/
inductive AxSt
  | disabled
  | auto
  | manual
  | hold
  | qstop
  | sto
  | faulted
  deriving DecidableEq, Repr

/-- The state's code in AXIS.STATUS (R130). -/
def AxSt.code : AxSt → Nat
  | .disabled => 0
  | .auto => 1
  | .manual => 2
  | .hold => 3
  | .qstop => 4
  | .sto => 5
  | .faulted => 15

/-- Enabled: every state but DISABLED and FAULTED (R130). -/
def AxSt.enabled : AxSt → Bool
  | .disabled => false
  | .faulted => false
  | _ => true

/-- A reaction with its cause: REACT 0 WARN, 1 HOLD, 2 QSTOP, 3 STO in order of severity (R144, R155). -/
structure Latch where
  react : Nat
  cause : Nat
  deriving DecidableEq, Repr

/-- A blend in progress: the passage `k` of R139 that the selector stands in, its length, and the region left. -/
structure Blend where
  k : Nat
  len : Nat
  oldRegion : Nat
  deriving DecidableEq, Repr

/-- A set load in progress (R141): region, slot, the passage it is mapped in, the converted or staged words, and the
region's new I_MAX for a retune. -/
structure SetLoad where
  region : Nat
  slot : Nat
  at_ : Word
  words : List Line
  iMax : Option Word
  deriving DecidableEq, Repr

/-- One axis instance. -/
structure Axis where
  /-- AXIS.STATUS.STATE (R130) -/
  st : AxSt := .disabled
  /-- the latched reaction and AXIS.STATUS.CAUSE (R144, R150) -/
  latched : Option Latch := none
  /-- the reactions raised in the passage in progress, applied at the next one (R132) -/
  raised : List Latch := []
  /-- AXIS.STATUS.REGION, the current region (R138, R150) -/
  region : Nat := 0
  /-- AXIS.STATUS.SEL, the active set (R92, R150) -/
  sel : Nat := 0
  /-- AXIS.STATUS.NEXT, the set blended toward (R92, R150) -/
  nxt : Nat := 0
  /-- AXIS.STATUS.W, the blend weight (R92, R150) -/
  w : Nat := 0
  /-- the blend in progress (R139, R140) -/
  blend : Option Blend := none
  /-- the region decided at the end of the latest passage, taken up at the next one (R138, R139) -/
  decided : Option Nat := none
  /-- AXIS.STATUS.LOADING and the set being loaded (R141) -/
  load : Option SetLoad := none
  /-- the slots whose sets have been loaded since ARM (R461) -/
  loaded : List Nat := []
  /-- a region's I_MAX replaced by AX_RETUNE (R120) -/
  iMax : Tab (Option Word) := []
  /-- x_p of law 1, the predicted state (R115) -/
  xp1 : List Stage := []
  /-- x_p of law 2 (R115) -/
  xp2 : List Stage := []
  /-- x_c of law 1, the corrected state of the latest passage (R115, R138) -/
  xc1 : List Stage := []
  /-- u_sat of law 1 in the latest passage (R135) -/
  uSat1 : Stage := Stage.zero
  /-- the manual output, a value word per output (R135) -/
  manual : List Word := [0, 0, 0, 0]
  /-- the first AUTO passage after MANUAL is due, with its preset (R137) -/
  firstAuto : Bool := false
  /-- the innovations of law 1 in the latest passage (R115) -/
  inn1 : Stage := Stage.zero
  /-- the innovations of law 2 in the latest passage (R115) -/
  inn2 : Stage := Stage.zero
  /-- AXIS.SUP_RESID, the filtered residual f (R142, R159) -/
  resid : Word := 0
  /-- AXIS.SUP_STATE.COUNT (R142, R156) -/
  supCount : Nat := 0
  /-- the count has reached COUNT and the trip is due (R142) -/
  tripDue : Bool := false
  /-- AXIS.SUP_STATE.TRIPS (R142, R156) -/
  trips : Nat := 0
  /-- AXIS.AGE.AGE, the largest input age (R145, R151) -/
  age : Nat := 0
  /-- AXIS.AGE.STALE_PASSAGES (R151) -/
  stalePassages : Nat := 0
  /-- AXIS.DELAY.DELAY (R129, R153) -/
  delay : Nat := 0
  /-- AXIS.DELAY.DEV (R129, R153) -/
  dev : Bool := false
  /-- AXIS.DELAY_MAX.MAX (R153) -/
  delayMax : Nat := 0
  /-- AXIS.STATUS.SAT (R123, R150) -/
  sat : Bool := false
  /-- AXIS.STATUS.WARN (R142, R150) -/
  warn : Bool := false
  /-- AXIS.STATUS.STAGED (R134, R150) -/
  staged : Bool := false
  /-- VBUS of the node's most recent fresh upstream record, in mV (R123, R126) -/
  vbus : Nat := 0
  /-- TEMP of the node's most recent fresh upstream record (R126) -/
  temp : BitVec 16 := 0
  /-- NSTAT of the node's most recent fresh upstream record (R126) -/
  nstat : BitVec 16 := 0
  /-- the model's own marker: the passage in which the instance's entries have run (R112: once per passage) -/
  ranAt : Option Word := none
  deriving DecidableEq, Repr

/-- A generator's state (R207). -/
inductive GSt
  | idle
  | run
  | home
  | stop
  | track
  deriving DecidableEq, Repr

/-- The code of GSTATE (R207). -/
def GSt.code : GSt → Nat
  | .idle => 0
  | .run => 1
  | .home => 2
  | .stop => 3
  | .track => 4

/-- The phases of a profile (R207). -/
inductive GPhase
  | rest
  | accel
  | cruise
  | decel
  deriving DecidableEq, Repr

/-- The code of PHASE (R207). -/
def GPhase.code : GPhase → Nat
  | .rest => 0
  | .accel => 1
  | .cruise => 2
  | .decel => 3

/-- A queued or executing move (R168, R169): a target in axis counts, the top speed in units of R163, BLEND, whether
its final passage has passed and its slot is still to become FREE, and its starting point in axis counts. -/
structure Move where
  target : Int
  vmax : Nat
  blend : Bool
  executing : Bool
  first : Bool
  done : Bool
  start : Int
  deriving DecidableEq, Repr

/-- Which stop a generator performs, in order of severity (R183). -/
inductive StopKind
  | limit
  | hold
  | quick
  | hard
  deriving DecidableEq, Repr

/-- The order of R183. -/
def StopKind.rank : StopKind → Nat
  | .limit => 1
  | .hold => 2
  | .quick => 3
  | .hard => 4

/-- The stages of a homing (R186-R189). -/
inductive HomeStage
  | release
  | search
  | latched
  | turning
  | failing
  deriving DecidableEq, Repr

/-- A homing in progress, or a flying reference (R186-R191). -/
structure Homing where
  method : Nat
  dir : Int
  vsearch : Nat
  homePos : Int
  range : Nat
  fly : Bool
  stage : HomeStage
  /-- the direction of the present search, and whether R188 has reversed it -/
  searchDir : Int
  reversed : Bool
  /-- the position at the start of the present search direction, in raw counts with fraction (R190) -/
  origin : Int
  /-- the home latch of SWITCH_INDEX, and the latched raw position -/
  switchLatch : Option Int
  latch : Option Int
  /-- OFFSET before the command, restored by a failure (R190) -/
  offset0 : Int
  /-- the new OFFSET is due in the next passage (R187) -/
  shiftDue : Bool
  toggles : Nat
  /-- the present search is to start from V_START -/
  first : Bool
  /-- the turn is braked by QSTOP_DEC (R188) -/
  turnQuick : Bool
  /-- the failure that ends the homing after its quick stop (R188-R190) -/
  fail : Nat
  deriving DecidableEq, Repr

/-- One switch input of a generator (R185): the accepted level, the present run of the other level, and the axis position
at the run's first sample; no level is accepted before the first sample. -/
structure SwitchIn where
  level : Bool := false
  primed : Bool := false
  /-- the level changed by an accepted edge in this passage -/
  edge : Bool := false
  run : Nat := 0
  /-- raw at the first sample of the run (R185) -/
  firstPos : Int := 0
  /-- this passage's sample is the first of its run: raw is to be latched when the passage has it (R185) -/
  begun : Bool := false
  /-- the level has become active in this passage, by an edge or as the level first sampled (R184, R185) -/
  became : Bool := false
  deriving DecidableEq, Repr

/-- The profile values of R165 in register form: V_START, V_STOP, V_BREAK, A1, A2, D2, D1, QSTOP_DEC. -/
structure ProfileRegs where
  vstart : Word := 0
  vstop : Word := 0
  vbreak : Word := 0
  a1 : Word := 0
  a2 : Word := 0
  d2 : Word := 0
  d1 : Word := 0
  qdec : Word := 0
  deriving DecidableEq, Repr

/-- One profile generator. Positions are in units of 2^-32 count (R163). -/
structure Gen where
  /-- PF_STATUS.GSTATE (R207) -/
  gst : GSt := .idle
  /-- PF_STATUS.PHASE (R207) -/
  phase : GPhase := .rest
  /-- p, the profile position in axis counts times 2^32 (R163) -/
  p : Int := 0
  /-- v, the speed magnitude (R163) -/
  v : Nat := 0
  /-- dir of the executing move (R163) -/
  dir : Int := 1
  /-- the signed speed change of the latest passage (R164) -/
  dv : Int := 0
  /-- the signed speed at the end of the latest passage (R164) -/
  vLast : Int := 0
  /-- OFFSET (R163) -/
  offset : Int := 0
  /-- the QUEUED and EXECUTING slots in order, and completed moves not yet FREE (R169) -/
  moves : List Move := []
  /-- the single deceleration of a clamped move (R176) -/
  clampDec : Option Nat := none
  /-- the reversal of R173: the move brakes to rest before it runs toward its target -/
  braking : Bool := false
  /-- the values in use while committed ones wait (R174) -/
  inUse : Option ProfileRegs := none
  /-- PF_STATUS.STAGED (R207) -/
  staged : Bool := false
  /-- PF_STATUS.HOMED (R207) -/
  homed : Bool := false
  /-- PF_STATUS.STRONG (R200) -/
  strong : Bool := false
  /-- PF_STATUS.STALL (R201) -/
  stall : Bool := false
  /-- PF_STATUS.HSTOP (R207) -/
  hstop : Bool := false
  /-- PF_STATUS.REVERSED (R173) -/
  reversed : Bool := false
  /-- PF_STATUS.DECEL_CLAMP (R176) -/
  clamped : Bool := false
  /-- PF_RESULT.HOME_RESULT (R208) -/
  homeResult : Nat := 0
  /-- PF_RESULT.TOGGLES (R208) -/
  toggles : Nat := 0
  /-- PF_RESULT.STALL_RUN (R201, R208) -/
  stallRun : Nat := 0
  /-- STALL_RUN has reached STALL_COUNT and the stall is due (R201) -/
  stallDue : Bool := false
  /-- a servo's hard stop takes the measured position of its passage as p (R179) -/
  toMeasured : Bool := false
  /-- the stop being performed (R178, R183) -/
  stop : Option StopKind := none
  /-- the homing in progress or armed (R186) -/
  homing : Option Homing := none
  /-- the chatter window of a flying reference: the raw position last seen, the changes, the travel left (R191) -/
  flyWindow : Option (Int × Nat × Nat) := none
  /-- the home, positive-limit and negative-limit inputs (R185) -/
  home : SwitchIn := {}
  limP : SwitchIn := {}
  limN : SwitchIn := {}
  /-- raw: the measured position or step count of the latest passage (R163) -/
  raw : Int := 0
  /-- a ring stepper waits for the node's count (R181) -/
  adopt : Bool := false
  /-- POS of the last record sent to a ring stepper (R181, R197) -/
  lastPos : U64 := 0
  /-- the last IDX latch seen, so that an index edge counts once (R186) -/
  lastIdx : Nat := 0
  /-- a hard stop or change to be carried into the records of this passage (R181) -/
  hstopRec : Bool := false
  /-- the model's own marker: the passage in which the generator has run -/
  ranAt : Option Word := none
  deriving DecidableEq, Repr

/-- One local step channel (R192-R196). -/
structure StepChan where
  /-- CH_CFG.ENABLED (R203) -/
  enabled : Bool := false
  /-- q: the step count times 2^48 plus the accumulator, at the latest release (R193) -/
  q : Int := 2 ^ 47
  /-- the rate word in force (R192, R193) -/
  rate : Int := 0
  /-- the rate word computed in this passage, in the idle half (R49, R193) -/
  rateNext : Option Int := none
  /-- the instant of the latest rate release on the time base (R193) -/
  relAt : U64 := 0
  /-- CH_STOP.FLAG (R205) -/
  stopFlag : Bool := false
  /-- CH_STOP.CAUSE (R205) -/
  stopCause : Nat := 0
  /-- the direction pin's sense: true after a negative rate (R195) -/
  backward : Bool := false
  /-- the direction changed at the latest release, so that DIR_SETUP runs from it (R195) -/
  turned : Bool := false
  /-- the start of the latest step pulse begun before the latest release (R195) -/
  pulseAt : Option U64 := none
  /-- CH_ENABLE with ENABLE 1 has taken effect: the STEP pin is no longer held low (R568) -/
  driven : Bool := false
  deriving DecidableEq, Repr

end Sys2Proof.Machine
end

