-- ==== Sys2Proof/Machine/FeedbackTypes.lean ====
section
/-! DEFINITION. The state of the feedback channels (06_feedback). -/

namespace Sys2Proof.Machine

/-- A channel's speed state (R224, R244). -/
inductive SpeedSt
  | standstill
  | starting
  | moving
  deriving DecidableEq, Repr

/-- The code of SPEED_STATE (R244). -/
def SpeedSt.code : SpeedSt → Nat
  | .standstill => 0
  | .starting => 1
  | .moving => 2

/-- The QERR window of a channel (R221): passages passed since it opened and the errors in it. -/
structure QWindow where
  passages : Nat
  count : Nat
  raised : Bool
  deriving DecidableEq, Repr

/-- One local incremental encoder (R216-R224). -/
structure Enc where
  /-- the filtered A and B lines (R216, R218) -/
  ab : BitVec 2 := 0
  /-- the filtered index line, after IDX_INV (R216, R222) -/
  idxLevel : Bool := false
  /-- TOTAL (R214) -/
  total : Int := 0
  /-- no edge since PORn (R224) -/
  noEdge : Bool := true
  /-- t_last (R224) -/
  tLast : U64 := 0
  /-- d_last (R224) -/
  dLast : Int := 1
  /-- v_edge as the interval in ns, 0 for none (R224) -/
  vEdge : Nat := 0
  /-- SPEED_STATE (R224, R244) -/
  spState : SpeedSt := .standstill
  /-- ENC_SPEED of the latest sample (R243) -/
  speed : Word := 0x00000080
  /-- TOTAL of the latest sample (R220) -/
  sTotal : Int := 0
  /-- the stamp of the latest sample (R220) -/
  sStamp : U64 := 0
  /-- the passage of the latest sample (R237) -/
  sPassage : Word := 0
  /-- ENC_STATE.QERR_TOTAL (R244) -/
  qerrTotal : Nat := 0
  /-- QERR errors of the passage in progress (R221) -/
  qerrNow : Nat := 0
  /-- passages since the last quadrature error (R234) -/
  qerrQuiet : Nat := 0
  /-- ENC_STATE.QERR_FLAG (R244) -/
  qerrFlag : Bool := false
  /-- the open QERR window (R221) -/
  window : Option QWindow := none
  /-- ENC_STATE.IDX_COUNT (R244) -/
  idxCount : Byte := 0
  /-- the kept index latch: TOTAL and stamp (R222) -/
  idxTotal : Int := 0
  idxStamp : U64 := 0
  /-- whether an index edge has been kept in the passage in progress (R222) -/
  idxThis : Bool := false
  /-- index edges kept since PORn, for the homing latch (R186) -/
  idxSeq : Nat := 0
  /-- the previous index edge's TOTAL, for the distance check (R223) -/
  idxPrev : Option Int := none
  /-- a reversal since the previous index edge (R223) -/
  idxReversal : Bool := false
  /-- the latched feedback fault's cause, 0 for none (R234) -/
  fault : Nat := 0
  /-- the cause has ended (R234) -/
  ended : Bool := false
  /-- a write since the last FB_COMMIT (R134) -/
  staged : Bool := false
  deriving DecidableEq, Repr

/-- One serial position sensor port (R225-R230). -/
structure Ser where
  /-- TOTAL (R214) -/
  total : Int := 0
  /-- the last accepted position, none before the first valid word (R230) -/
  last : Option Nat := none
  /-- SER_STATE.AGE (R229, R247) -/
  age : Nat := 0
  /-- k: passages since the previous accepted word (R230) -/
  since : Nat := 0
  /-- SER_SPEED (R243) -/
  speed : Word := 0x00000080
  /-- SPEED_STATE (R247) -/
  spState : SpeedSt := .standstill
  /-- SER_STATE.FAILS (R247) -/
  fails : Nat := 0
  /-- consecutive failed words (R229) -/
  failRun : Nat := 0
  /-- SER_STATE.LAST_ERR (R229, R247) -/
  lastErr : Nat := 0
  /-- the latest received word, valid or not (R237) -/
  word : U64 := 0
  /-- warnings of the Treong word format, of words with ERR too (R227) -/
  warns : Nat := 0
  /-- the passage of the latest sample (R237) -/
  sPassage : Word := 0
  /-- the stamp of the latest sample (R237) -/
  sStamp : U64 := 0
  /-- the latched feedback fault's cause (R234) -/
  fault : Nat := 0
  /-- the cause has ended (R234) -/
  ended : Bool := false
  /-- a write since the last FB_COMMIT (R134) -/
  staged : Bool := false
  deriving DecidableEq, Repr

/-- One remote feedback block (R231-R233). -/
structure Rem where
  /-- TOTAL (R214) -/
  total : Int := 0
  /-- the last accepted POS_LOW, none before the first valid block (R233) -/
  last : Option Word := none
  /-- REM_STATE.AGE (R233, R247) -/
  age : Nat := 0
  /-- passages since the previous accepted block (R230, R233) -/
  since : Nat := 0
  /-- REM_SPEED (R243) -/
  speed : Word := 0x00000080
  /-- SPEED_STATE (R247) -/
  spState : SpeedSt := .standstill
  /-- REM_STATE.SW (R247) -/
  sw : BitVec 3 := 0
  /-- the node's QERR byte in the latest block (R233) -/
  qerrLast : Byte := 0
  /-- REM_STATE.FAILS: the QERR total (R247) -/
  qerrTotal : Nat := 0
  /-- passages since the last quadrature error (R234) -/
  qerrQuiet : Nat := 0
  /-- the open QERR window (R221) -/
  window : Option QWindow := none
  /-- the index TOTAL and how many index edges have been reported (R233) -/
  idxTotal : Int := 0
  idxSeq : Nat := 0
  /-- the passage of the latest sample (R237) -/
  sPassage : Word := 0
  /-- the start of that passage (R237) -/
  sStamp : U64 := 0
  /-- the latched feedback fault's cause (R234) -/
  fault : Nat := 0
  /-- the cause has ended (R234) -/
  ended : Bool := false
  /-- a write since the last FB_COMMIT (R134) -/
  staged : Bool := false
  deriving DecidableEq, Repr

end Sys2Proof.Machine
end

