-- ==== Sys2Proof/Machine/TimeTypes.lean ====
section
/-! DEFINITION. The state of the time island and of the plant port's clock (08_time). -/

namespace Sys2Proof.Machine

/-- One comparator (R303-R305, R321). -/
structure Cmp where
  /-- CMP_TARGET (R303) -/
  target : Word := 0
  /-- CMP_PERIOD (R304) -/
  period : Word := 0
  /-- CMP_CTRL.ARM (R321) -/
  arm : Bool := false
  /-- CMP_CTRL.FIRED (R305) -/
  fired : Bool := false
  /-- CMP_CTRL.TOKEN (R305) -/
  token : Bool := false
  /-- CMP_CTRL.TRIG (R305) -/
  trig : Bool := false
  /-- CMP_CTRL.SKIP (R304) -/
  skip : Nat := 0
  /-- CMP_COUNT (R305) -/
  count : Word := 0
  deriving DecidableEq, Repr

/-- One EVIO pin (R306-R312, R322). -/
structure Evio where
  /-- EVIO_CFG.MODE (R306) -/
  mode : Nat := 0
  /-- EVIO_CFG.INV (R322) -/
  inv : Bool := false
  /-- EVIO_CFG.LATE (R307) -/
  lateCfg : Bool := false
  /-- EVIO_CFG.EDGE (R311) -/
  edge : Nat := 0
  /-- EVIO_CFG.TOKEN (R311) -/
  token : Bool := false
  /-- EVIO_CFG.FILT (R310) -/
  filt : Nat := 0
  /-- the target latch of each agent, 0 the host, 1-8 SC0-SC7 (R307) -/
  latch : Tab Word := []
  /-- the queue: targets and levels, the head first (R307) -/
  queue : List (Word × Bool) := []
  /-- the output register (R307) -/
  out : Bool := false
  /-- the driver is enabled: modes 1 and 2, from the first passage start in RUN (R306) -/
  drive : Bool := false
  /-- EVIO_STAT.LEVEL, the filtered ball level (R310, R322) -/
  level : Bool := false
  /-- EVIO_STAT.OVF (R307) -/
  ovf : Bool := false
  /-- EVIO_STAT.LATEF (R307) -/
  lateF : Bool := false
  /-- EVIO_STAT.CFG_ERR (R308) -/
  cfgErr : Bool := false
  /-- EVIO_STAT.LATE (R307) -/
  late : Nat := 0
  /-- EVIO_PSTART (R308) -/
  pstart : Word := 0
  /-- EVIO_PERIOD (R308) -/
  period : Word := 0
  /-- EVIO_PHIGH (R308) -/
  phigh : Word := 0
  /-- EVIO_PCOUNT, the pulses remaining in mode 2 (R308, R322) -/
  pcount : Word := 0
  /-- mode 2 has no end (R308) -/
  endless : Bool := false
  /-- the grid's first instant on the time base, the next rising instant, and a pending falling instant (R308) -/
  pbase : U64 := 0
  nextRise : U64 := 0
  fallAt : Option U64 := none
  /-- falling instants of earlier pulses that a backward step has left pending (R308) -/
  oldFalls : List U64 := []
  /-- RAW of the cycle in which the queue's head last fired (R307) -/
  firedAt : Option U64 := none
  deriving DecidableEq, Repr

/-- The time island (R293-R302, R318-R320). -/
structure TimeBase where
  /-- RAW (R293) -/
  raw : U64 := 0
  /-- TIME (R294) -/
  time : U64 := 0
  /-- F, the fraction of TIME (R294) -/
  frac : Word := 0
  /-- RATE, signed, in units of 2^-32 (R295) -/
  rate : Int := 0
  /-- whether the time PLL has locked, so that the counters run (R293, R294) -/
  counting : Bool := false
  /-- TIME.STATUS.SLEW (R319) -/
  slew : Bool := false
  /-- TIME.STATUS.STEP_WAIT (R319) -/
  stepWait : Bool := false
  /-- TIME.STATUS.STEPS (R319) -/
  steps : Nat := 0
  /-- TIME.CAP_WR (R311) -/
  capWr : Word := 0
  /-- TIME.CAP_RD (R311) -/
  capRd : Word := 0
  /-- TIME.CAP_LOST (R311) -/
  capLost : Word := 0
  /-- CMP0-CMP31 (R303) -/
  cmps : Tab Cmp := []
  /-- EVIO0-EVIO63 (R306) -/
  evios : Tab Evio := []
  deriving DecidableEq, Repr

/-- How a message of the plant port travels (R313, R314): Annex F with its group address, or Annex C with its group, its UDP port and
its checksum, which is 0 in event messages. -/
inductive PtpPath
  | layer2 (group : BitVec 48)
  | udp (group source : Word) (port : Nat) (checksumZero : Bool)
  deriving DecidableEq, Repr

/-- The Announce data (R313, R323): priority1, clockClass with clockAccuracy and offsetScaledLogVariance, priority2,
currentUtcOffset and its validity, timeSource. -/
structure PtpAnnounce where
  priority1 : Nat
  quality : Word
  priority2 : Nat
  utcOffset : BitVec 16
  utcValid : Bool
  timeSource : Nat
  deriving DecidableEq, Repr

/-- A message that the plant port sends (R313, R314, R316): messageType, sequenceId, the timestamp as seconds and nanoseconds,
correctionField in 2^-16 ns, domainNumber, versionPTP with minorVersionPTP, the source's clockIdentity and MAC address, the
requesting clock's identity in a response, and the Announce data. -/
structure PtpSent where
  kind : Nat
  seq : Nat
  seconds : Nat
  nanos : Nat
  correction : Int
  domain : Nat
  version : Nat × Nat
  identity : U64
  mac : BitVec 48
  requester : U64
  path : PtpPath
  announce : Option PtpAnnounce
  deriving DecidableEq, Repr

/-- The plant port as a 1588 clock (R313-R317, R324). -/
structure Plant where
  /-- PTP_STATUS.PORT_STATE (R324) -/
  portState : Nat := 3
  /-- PTP_STATUS.SYNCS (R315, R324) -/
  syncs : Nat := 0
  /-- PTP_OFFSET (R324) -/
  offset : Word := 0
  /-- PTP_DELAY, and the mean path delay in use, in ns (R324) -/
  delay : Int := 0
  /-- RATE_I of the servo (R315) -/
  rateI : Int := 0
  /-- the instant of the servo's previous update, none before the first (R315) -/
  lastUpdate : Option U64 := none
  /-- a two-step Sync that waits for its Follow_Up: sequence number and ingress stamp (R315) -/
  twoStep : Option (Nat × U64) := none
  /-- the latest Sync's leader-to-follower difference in ns, t2 - t1 (R315) -/
  t21 : Int := 0
  /-- a Delay_Req in flight: sequence number and egress stamp (R314) -/
  delayReq : Option (Nat × U64) := none
  /-- a Pdelay_Req in flight: sequence number and egress stamp, and t2, t4 of a two-step response -/
  pdelayReq : Option (Nat × U64) := none
  pdelayResp : Option (Nat × U64 × U64) := none
  /-- the sequence number of the next message sent -/
  seq : Nat := 0
  /-- the offset and interval of the servo's step in flight, in ns (R315) -/
  stepFor : Option (Int × Nat) := none
  /-- the messages sent, latest first (R314) -/
  sent : List PtpSent := []
  /-- discarded messages (R313) -/
  discards : Nat := 0
  /-- the best leader heard by Announce: priority1, quality, priority2, clock identity (R313) -/
  foreign : Option (Nat × Word × Nat × U64) := none
  /-- a write of a PLANT field since the last PTP_COMMIT (R134) -/
  staged : Bool := false
  /-- the latest stream datagram sent by the plant port (R337) -/
  datagram : List Byte := []
  /-- its source and destination addresses and its destination port (R337) -/
  datagramPath : Word × Word × Nat := (0, 0, 0)
  deriving DecidableEq, Repr

end Sys2Proof.Machine
end

