-- ==== Sys2Proof/Machine/CopyTypes.lean ====
section
/-! DEFINITION. The operands of commands that carry more than numbers: the context of a host command (R516, R519), the
fields of a Luestox instruction (R363), the fields of a 1588 message (R313), the blocks of a COPY frame (R461), and what a line shows for a run of samples (R216, R310). -/

namespace Sys2Proof.Machine

/-- The context in which a host command takes effect: its sequence, TAG, origin, whether it was forwarded, and the LOG_FULL
decision taken at its intake (R516, R519, R547, R552, R555). -/
structure Ctx where
  seq : Word
  tag : Nat
  origin : Nat
  forwarded : Bool
  logFull : Bool
  /-- the passage in which it was accepted (R516) -/
  accepted : Word
  deriving DecidableEq, Repr

/-- The fields of an instruction word below its opcode (R363). -/
structure Fields where
  d : Nat
  a : Nat
  b : Nat
  x : Nat
  m : Nat
  f : Nat
  imm : Word
  deriving DecidableEq, Repr

/-- The fields of a 1588 message that the plant port uses (R313-R315): sequence number, the two-step flag, the timestamp the
message carries in ns, its correction in 2^-16 ns, the ingress stamp, and the sender's priorities, identity and quality: clockClass
in bits [31:24], clockAccuracy in [23:16] and offsetScaledLogVariance in [15:0], as in PLANT.ANNOUNCE (R323). -/
structure PtpMsg where
  seq : Nat
  twoStep : Bool
  stamp : U64
  correction : Int
  ingress : U64
  domain : Nat
  priority1 : Nat
  priority2 : Nat
  identity : U64
  quality : Word
  deriving DecidableEq, Repr

/-- One forwarded host write or command of a BATCH (R445). -/
inductive Forward
  /-- a write of a staged BAR0 field: offset and word -/
  | reg (off : Nat) (w : Word)
  /-- a BAR2 write: fabric address and bytes -/
  | mem (addr : Nat) (bytes : List Byte)
  /-- an accepted command: its sequence, TAG, origin, the LEAD's LOG_FULL, and its 32 bytes -/
  | cmd (seq : Word) (tag : Nat) (origin : Nat) (logFull : Bool) (entry : List Byte)
  deriving DecidableEq, Repr

/-- One node's books in a LEDGER (R439): ring, node, lock code, EDGE_RUN, G, U, granted ASLOT and acyclic sequence. -/
structure LedgerNode where
  ring : Nat
  node : Nat
  lock : Nat
  edgeRun : Nat
  granted : Byte
  used : Byte
  aslot : Option Nat
  seq : Byte
  deriving DecidableEq, Repr

/-- One channel of a LOCAL or LOCAL_SER frame (R439): channel, TOTAL, speed, speed state, and for a serial channel its age
and LAST_ERR. -/
structure LocalChan where
  channel : Nat
  total : Int
  speed : Word
  spState : SpeedSt
  age : Nat
  lastErr : Nat
  deriving DecidableEq, Repr

/-- A block of state that a COPY frame installs (R461). -/
inductive CopyBlock
  /-- a committed register field of the static set -/
  | register (off : Nat) (w : Word)
  /-- words of a coefficient set -/
  | memory (addr : Nat) (bytes : List Byte)
  | axis (i : Nat) (a : Axis)
  | gen (g : Nat) (x : Gen)
  | encoder (c : Nat) (x : Enc)
  | serial (c : Nat) (x : Ser)
  | remote (i : Nat) (x : Rem)
  | evio (p : Nat) (x : Evio)
  deriving DecidableEq, Repr

/-- A level of a line and the length of its run in samples (R216, R310). -/
structure LevelRun where
  level : Bool
  run : Nat
  deriving DecidableEq, Repr

/-- The lines A and B of an encoder: the pair they show, A in bit 1, and the run of each in samples (R216-R218). -/
structure PairRun where
  ab : Nat
  runA : Nat
  runB : Nat
  deriving DecidableEq, Repr

/-- The index line of an encoder: its run, the stamp of the run's first sample, and the filtered pair AB in the clock in which the run
passes the filter (R216, R222). -/
structure IndexRun where
  ab : Nat
  line : LevelRun
  stamp : U64
  deriving DecidableEq, Repr

end Sys2Proof.Machine
end

