-- ==== Sys2Proof/Machine/GovTypes.lean ====
section
/-! DEFINITION. The state of the governor (12_energy_heat), of the safety island (14_safety) and of the rope team
(13_rope_team). Each field's comment says what it is and the rule that names it; the value after `:=` is its reset
value. -/

namespace Sys2Proof.Machine

/-- The governor (12_energy_heat). -/
structure Gov where
  /-- B, the energy bucket in nJ, signed 64-bit (R416) -/
  bucket : Int := 0
  /-- the tier chosen for the passage after the latest close's own (R417) -/
  chosen : Nat := 0
  /-- dwell: consecutive passages chosen in that tier (R417) -/
  dwell : Nat := 0
  /-- TOTAL, nJ since ARM (R424) -/
  total : U64 := 0
  /-- OPEN, nJ of the interval in progress (R424) -/
  opened : Nat := 0
  /-- TIER_ENERGY[0]-[3], nJ (R424) -/
  tierEnergy : List U64 := [0, 0, 0, 0]
  /-- GOV.STATUS.REASON (R430) -/
  reason : Nat := 0
  /-- GOV.STATUS.SENSOR_FAIL (R430) -/
  sensorFail : Bool := false
  /-- GOV.STATUS.MONITOR_FAIL (R430) -/
  monitorFail : Bool := false
  /-- GOV.STATUS.CRIT (R421, R430) -/
  crit : Bool := false
  /-- GOV.STATUS.HOT (R430) -/
  hot : Bool := false
  /-- GOV.STATUS.DEMAND (R430) -/
  demand : Nat := 0
  /-- GOV.STATUS.PEER_DEMAND (R425, R430) -/
  peerDemand : Nat := 0
  /-- GOV.STATUS.CHANGES (R430) -/
  changes : Nat := 0
  /-- GOV.POWER.PEAK, mW (R433) -/
  peak : Nat := 0
  /-- GOV.POWER.LAST, mW (R433) -/
  last : Nat := 0
  /-- GOV.COUNTS.TIER_MISS (R426, R433) -/
  tierMiss : Nat := 0
  /-- GOV.COUNTS.CRIT_PASSAGES (R421, R433) -/
  critPassages : Nat := 0
  /-- GOV.TEMP0-GOV.TEMP5: NOW, quarter degrees, signed (R434) -/
  tempNow : List Int := [0, 0, 0, 0, 0, 0]
  /-- GOV.TEMP0-GOV.TEMP5: MAX, 0x8000 (R434) -/
  tempMax : List Int := [-32768, -32768, -32768, -32768, -32768, -32768]
  /-- the sensors TS0-TS5 that have failed their check (R415) -/
  failed : List Bool := [false, false, false, false, false, false]
  /-- consecutive intervals in which each sensor read 130 degrees or more (R423) -/
  tripRun : List Nat := [0, 0, 0, 0, 0, 0]
  /-- number of the latest closed interval (R435) -/
  interval : Word := 0
  /-- passages left in which a new LEAD holds the tier it took over (R427) -/
  hold : Nat := 0
  /-- rail monitors that failed their check in the interval in progress (R415) -/
  monitors : Nat := 0
  deriving DecidableEq, Repr

/-! ### Safety island -/

/-- A safe input SIN0-SIN15 (R475-R477). -/
structure Sin where
  /-- the filtered level, 1 closed (R476, R495) -/
  level : Bool := false
  /-- consecutive samples that differ from the filtered level (R476) -/
  run : Nat := 0
  /-- a filtered level has been formed since PORn, so that an open one shows an open contact (R476, R477; log 100) -/
  formed : Bool := false
  /-- consecutive low samples before the first filtered level (R476) -/
  lows : Nat := 0
  /-- SAFE.SIN.TESTED (R477, R495) -/
  tested : Bool := false
  /-- SAFE.SIN_FAULT (R477, R495) -/
  fault : Bool := false
  /-- whether the fault came from the test source, so that three passed pulses clear it (R477) -/
  byPulse : Bool := false
  /-- a raw low sample in the off-pulse in progress of the test source (R477) -/
  low : Bool := false
  /-- consecutive off-pulses passed since the fault (R477) -/
  passes : Nat := 0
  /-- for the even input of a pair: samples for which the two filtered levels have differed (R477) -/
  differ : Nat := 0
  /-- for the even input of a pair: both contacts seen open together since the fault (R477) -/
  bothOpen : Bool := false
  /-- samples for which the filtered level has been closed (R480) -/
  closed : Nat := 0
  deriving DecidableEq, Repr

/-- A safety function F0-F31 (R478, R480). -/
structure Fn where
  /-- SAFE.FUNC.DEMAND; every function is demanded at reset (R478, R496) -/
  demand : Bool := true
  /-- SAFE.FUNC_LATCH.WAIT: latched, awaiting its reset (R480, R496) -/
  wait : Bool := false
  /-- a latched host demand of SF_DEMAND (R490) -/
  host : Bool := false
  /-- an SS1 whose SS1_TIME has passed: its targets are in STO and off (R478) -/
  expired : Bool := false
  /-- samples for which the function has been demanded (R476, R478) -/
  ran : Nat := 0
  deriving DecidableEq, Repr

/-- A safe output SOUT0-SOUT7 (R483). -/
structure Sout where
  /-- SAFE.SOUT.ON, commanded on (R495) -/
  on : Bool := false
  /-- SAFE.SOUT.READBACK, the ball's level (R495) -/
  ball : Bool := false
  /-- SAFE.SOUT.FAULT (R483, R495) -/
  fault : Bool := false
  /-- an off-pulse in progress (R483) -/
  pulse : Bool := false
  /-- samples since the commanded switch-off whose readback is still due (R483) -/
  offAge : Option Nat := none
  /-- RAW at the start of the latest off-pulse (R483) -/
  pulseFrom : U64 := 0
  deriving DecidableEq, Repr

/-- A brake channel BRK0-BRK7 (R484, R485). -/
structure Brk where
  /-- SAFE.BRK.ENERGISED (R495) -/
  on : Bool := false
  /-- SAFE.BRK.READBACK (R495) -/
  ball : Bool := false
  /-- SAFE.BRK.FAULT (R484, R495) -/
  fault : Bool := false
  /-- SAFE.BRK.BT_FAIL (R485, R495) -/
  btFail : Bool := false
  /-- samples since the commanded switch-off whose readback is still due (R483, R484) -/
  offAge : Option Nat := none
  deriving DecidableEq, Repr

/-- The step of a brake test in progress (R485). -/
inductive BtStep
  | none
  | settle
  | plus
  | minus
  deriving DecidableEq, Repr

/-- The brake test (R485, R496). -/
structure BrakeTest where
  /-- SAFE.BT.STATE (R496) -/
  state : Nat := 0
  /-- SAFE.BT.CHANNEL (R496) -/
  channel : Nat := 0
  /-- SAFE.BT.MAX_DEV (R496) -/
  maxDev : Nat := 0
  /-- the step in progress (R485) -/
  step : BtStep := .none
  /-- p0, TOTAL at the start of step 2 (R485) -/
  p0 : Int := 0
  /-- the outcome that ends the test at the next passage start: 3 FAIL, 4 ABORT (R485) -/
  ending : Nat := 0
  /-- samples since the step began (R476, R485) -/
  ran : Nat := 0
  deriving DecidableEq, Repr

/-- What the island keeps of a node (R479, R482). -/
structure SNode where
  /-- SAFE.NODE_RUN, the RUN bit last sent (R479, R497) -/
  run : Bool := false
  /-- SAFE.NODE_LOST: an upstream container lost, or STO_FAIL (R482, R497) -/
  lost : Bool := false
  /-- STO_FAIL (R482) -/
  stoFail : Bool := false
  /-- SSEQ of the last accepted upstream container (R482) -/
  sseq : Option Nat := none
  /-- consecutive passages without an accepted container (R482) -/
  misses : Nat := 0
  /-- consecutive passages with RUN = 0 and no STO_ON reported (R482) -/
  stoWait : Nat := 0
  /-- STO_ON, BRAKE_APPLIED and NODE_FAULT of the last accepted container (R481) -/
  stoOn : Bool := false
  brakeApplied : Bool := false
  nodeFault : Bool := false
  deriving DecidableEq, Repr

/-- The safety island (14_safety). -/
structure Safe where
  /-- SAFE.STATUS.STATE: 0 INIT, 1 UNCONFIRMED, 2 RUN, 15 FAILSAFE (R470, R493) -/
  state : Nat := 0
  /-- SAFE.STATUS.DIAG (R472, R493) -/
  diag : Nat := 0
  /-- SAFE.STATUS.FAULTS (R493) -/
  faults : Nat := 0
  /-- SAFE.CONTROL.LOCK (R492) -/
  lock : Bool := false
  /-- the confirmed set's bytes, if any (R488, R489) -/
  confirmed : Option (Tab Byte) := none
  /-- the set that awaits confirmation (R490) -/
  awaiting : Option (Tab Byte) := none
  /-- SAFE.CHECK (R494) -/
  check : Word := 0
  /-- SAFE.CHECK_PENDING (R494) -/
  checkPending : Word := 0
  /-- SIN0-SIN15 (R495) -/
  sins : Tab Sin := []
  /-- F0-F31 (R496) -/
  fns : Tab Fn := []
  /-- SOUT0-SOUT7 (R495) -/
  souts : Tab Sout := []
  /-- BRK0-BRK7 (R495) -/
  brks : Tab Brk := []
  /-- the nodes, ring r node n at 64 r + n - 1 (R497) -/
  nodes : Tab SNode := []
  /-- SAFE.BT (R496) -/
  bt : BrakeTest := {}
  /-- SAFE.COUNTS.DEMANDS (R497) -/
  demands : Nat := 0
  /-- SAFE.COUNTS.CONT_ERR (R497) -/
  contErr : Nat := 0
  deriving DecidableEq, Repr

/-! ### Rope team -/

/-- What the latest HEARTBEAT of another part showed (R447, R450). -/
structure Beat where
  /-- the passage of the beat; none before the first (R447) -/
  passage : Option Word := none
  /-- ROLE (R447) -/
  role : Nat := 0
  /-- FLAGS: FAULT, RESIGN, BELAY_SEEN (R447) -/
  fault : Bool := false
  resign : Bool := false
  belaySeen : Bool := false
  /-- DEMAND (R447) -/
  demand : Nat := 0
  /-- DIGEST (R447) -/
  digest : U64 := 0
  /-- SERIAL (R447) -/
  serial : Word := 0
  /-- DIAG (R447) -/
  diag : Word := 0
  /-- PARAM, TEAM and IMAGE (R447) -/
  param : Word := 0
  team : Word := 0
  image : U64 := 0
  deriving DecidableEq, Repr

/-- The rope team (13_rope_team). -/
structure Rope where
  /-- ROPE.STATUS.ROLE (R437, R465) -/
  role : Nat := 0
  /-- ROPE.STATUS.STRAP, ROLE1-ROLE0 as latched (R2, R465) -/
  strap : Nat := 0
  /-- ROPE.STATUS.ORIGIN (R440, R465) -/
  origin : Nat := 0
  /-- ROPE.STATUS.BELAY_SEEN (R465) -/
  belaySeen : Bool := false
  /-- ROPE.STATUS.PEER_SEEN (R465) -/
  peerSeen : Bool := false
  /-- ROPE.STATUS.CFG (R462, R465) -/
  cfg : Nat := 0
  /-- ROPE.STATUS.MATCH_RUN (R465) -/
  matchRun : Nat := 0
  /-- ROPE.LINK0.LOCKED, ROPE.LINK1.LOCKED (R466) -/
  locked : Bool × Bool := (false, false)
  /-- ROPE.LINK0.FLAG, ROPE.LINK1.FLAG (R466) -/
  flag : Bool × Bool := (false, false)
  /-- ROPE.LINK0.ERRORS, ROPE.LINK1.ERRORS (R466) -/
  errors : Nat × Nat := (0, 0)
  /-- ROPE.COUNTS.TAKEOVERS (R467) -/
  takeovers : Nat := 0
  /-- ROPE.COUNTS.DISMISSALS (R467) -/
  dismissals : Nat := 0
  /-- ROPE.COUNTS.DIVERGE (R467) -/
  diverge : Nat := 0
  /-- ROPE.LOST_FROM (R457, R467) -/
  lostFrom : Word := 0
  /-- ROPE.REJOIN.STAGE (R467) -/
  stage : Nat := 0
  /-- ROPE.REJOIN.LEFT (R467) -/
  left : Nat := 0
  /-- ROPE.VERDICT.ACTION (R467) -/
  action : Nat := 0
  /-- ROPE.VERDICT.REASON (R467) -/
  reason : Nat := 0
  /-- the part's own digest of the latest released passage, and that passage (R447, R468) -/
  digest : U64 := 0
  digestOf : Option Word := none
  /-- the peer's 128-bit serial as far as received (R468) -/
  peerSerial : Word := 0
  /-- the latest heartbeat received from the peer (R447) -/
  peer : Beat := {}
  /-- in a BELAY: the latest heartbeat of the LEAD-preferred and of the SECOND-preferred part (R450) -/
  beatA : Beat := {}
  beatB : Beat := {}
  /-- the passage of the latest valid BELAY heartbeat (R450, R452) -/
  belayAt : Option Word := none
  /-- whether any BELAY heartbeat has been received (R459) -/
  belayEver : Bool := false
  /-- a GRANT that names this part has been received (R459) -/
  granted : Bool := false
  /-- in a BELAY: passages in which only the SECOND-preferred part has been heard (R459) -/
  heardB : Nat := 0
  /-- in a BELAY: the part it granted leadership: 0 none, 1 LEAD-preferred, 2 SECOND-preferred (R459) -/
  grantTo : Nat := 0
  /-- the passage P of an accepted handover (R463) -/
  handover : Option Word := none
  /-- consecutive passages in which the peer has been SECOND without a DIVERGE (R463) -/
  secondRun : Nat := 0
  /-- a verdict of the passage in progress was a DIVERGE (R450, R463) -/
  diverged : Bool := false
  /-- own passages left to listen in LISTEN, then left of a back-off (R458) -/
  listen : Nat := 0
  /-- a cold-start attempt in progress (R458) -/
  attempt : Bool := false
  /-- the own header of the attempt in progress has come back intact (R458) -/
  returned : Bool := false
  /-- a header of another part has been heard in the attempt in progress (R458) -/
  conflict : Bool := false
  /-- a JOINING or JOINING-to-be part repeats and enters RUN at the next passage start (R458) -/
  joinNext : Bool := false
  /-- the role taken at the next passage start by a verdict, a guard or a missing frame (R446, R451) -/
  nextRole : Option Nat := none
  /-- the SECOND originates the next passage (R451, R452) -/
  take : Bool := false
  /-- the passage of the latest valid LEAD header on any ring (R452) -/
  leadHeader : Option Word := none
  /-- TIER_NEXT of the latest valid LEAD header (R426, R427) -/
  leadTier : Nat := 0
  /-- BATCH contents received, by tag (R445) -/
  batches : List (Word × List Forward) := []
  /-- the tag of the latest BATCH received in unbroken order (R446, R457) -/
  lastBatch : Option Word := none
  /-- host writes received by a LEAD since its previous BATCH, in order (R445) -/
  forward : List Forward := []
  /-- the passage of the latest LEDGER, LOCAL and LOCAL_SER (R446) -/
  ledgerAt : Option Word := none
  localAt : Option Word := none
  localSerAt : Option Word := none
  /-- the LEAD's EVIO levels of the latest LOCAL (R443) -/
  evio : U64 := 0
  /-- consecutive passages of equal digests in a joiner's check (R461) -/
  checkRun : Nat := 0
  /-- DIAG of the passage in progress: unit faults, uncorrectable words, overruns and misses, corrected words (R447) -/
  diagUnit : Nat := 0
  diagWord : Nat := 0
  diagMiss : Nat := 0
  diagCorr : Nat := 0
  /-- heartbeat and other frames queued, most recent last: link and bytes (R439) -/
  sent : List (Nat × List Byte) := []
  /-- the passage of the latest downstream frame of the LEAD that a SECOND has seen, by ring (R456) -/
  downSeen : Tab (Option Word) := []
  /-- passages since this part took over, while the barge window is widened (R455) -/
  widened : Nat := 0
  /-- SAMPLE records received by a BELAY for the passage in hand: peer and bytes (R449) -/
  samples : List (Nat × List Byte) := []
  /-- LEADON (R443, R567) -/
  leadon : Bool := false
  /-- the part's own passage in which the peer's latest valid heartbeat arrived (R465) -/
  peerAt : Option Word := none
  /-- a digest of the joiner's check has differed (R461) -/
  checkBad : Bool := false
  /-- the channels of the latest LOCAL and LOCAL_SER frames, installed at the ring-in horizon (R443, R444) -/
  locals : List LocalChan := []
  serLocals : List LocalChan := []
  /-- the passage of the latest VERDICT that this part has acted on (R451) -/
  verdictOf : Option Word := none
  /-- RESIGN: the LEAD leaves at the next passage start (R453) -/
  resign : Bool := false
  /-- a LEAD's latest BATCH: its tag, the host writes, then the commands (R445) -/
  batchOut : Option (Word × List Forward) := none
  /-- a LEAD's latest LEDGER: its passage and the books of every node (R439, R443) -/
  ledgerOut : Option (Word × List LedgerNode) := none
  /-- a LEAD's latest LOCAL: its passage, the encoder channels, the filtered EVIO levels (R439, R443) -/
  localOut : Option (Word × List LocalChan × U64) := none
  /-- a LEAD's latest LOCAL_SER: its passage and the serial channels (R439, R443) -/
  localSerOut : Option (Word × List LocalChan) := none
  /-- the blocks of the COPY frames that a LEAD has sent in the passage in progress (R461) -/
  copyOut : List CopyBlock := []
  /-- blocks of the rejoin in progress that a LEAD has copied (R461) -/
  copied : Nat := 0
  deriving DecidableEq, Repr

end Sys2Proof.Machine
end

