-- ==== Sys2Proof/Machine/HostTypes.lean ====
section
/-! DEFINITION. The state of the host interface (15_host_registers): faults and access errors, the command queue, the stop
table and the results, the mirror, the mailboxes, PERF; and of the store, the audit log and the access classes
(16_store_audit_access). Each field's comment says what it is and the rule that names it; the value after `:=` is its
reset value. -/

namespace Sys2Proof.Machine

/-- The start-up phases (R35). -/
inductive Phase
  | por
  | wake
  | clear
  | image
  | arm
  | listen
  | run
  | halt
  deriving DecidableEq, Repr

/-- The code of a phase (R35). -/
def Phase.code : Phase → Nat
  | .por => 0 | .wake => 1 | .clear => 2 | .image => 3 | .arm => 4 | .listen => 5 | .run => 6 | .halt => 15

/-- A fault that R23 records: its level, its kind and its identity (R526). -/
structure FaultRec where
  level : Nat
  kind : Nat
  identity : Nat
  deriving DecidableEq, Repr

/-- A command pushed and waiting, or a set flag of the stop table (R515, R517). -/
structure Push where
  /-- the push sequence (R515) -/
  seq : Word
  /-- the origin: 0 HOST, 2 DEBUG (R547) -/
  origin : Nat
  /-- the entry's 32 bytes (R518) -/
  entry : List Byte
  deriving DecidableEq, Repr

/-- A command taken, due two passages later (R516). -/
structure Taken where
  seq : Word
  origin : Nat
  /-- forwarded in a batch (R445, R555) -/
  forwarded : Bool
  /-- the LOG_FULL decision at intake (R552, R555) -/
  logFull : Bool
  /-- the passage it was accepted in (R516) -/
  accepted : Word
  /-- log entries set aside for it (R552) -/
  reserved : Nat
  /-- a command of the part itself or of the debug port, which has no result record (R315, R556) -/
  own : Bool
  entry : List Byte
  deriving DecidableEq, Repr

/-- A mailbox (R505). -/
structure Mbox where
  /-- MB_SEL.SELECTOR (R505) -/
  sel : Nat := 0
  /-- MB_STAT.VALID (R505) -/
  valid : Bool := false
  /-- MB_STAT.CODE (R505) -/
  code : Nat := 0
  /-- MB_DATA0-MB_DATA3 (R505) -/
  data : List Word := [0, 0, 0, 0]
  /-- a capture in progress (R505) -/
  busy : Bool := false
  deriving DecidableEq, Repr

/-- A PERF bandwidth monitor (R532, R534). -/
structure Bw where
  /-- PERF.BW_RATE (R534) -/
  rate : Word := 0
  /-- PERF.BW_PEAK (R534) -/
  peak : Word := 0
  /-- PERF.BW_BUSY.WINDOWS (R534) -/
  windows : Nat := 0
  /-- PERF.BW_BUSY.BUSY (R534) -/
  busy : Nat := 0
  /-- byte count of the latest window (R534) -/
  bytes : U64 := 0
  /-- the number of the latest window (R534) -/
  number : Word := 0
  /-- RAW at which the window in progress started; none before the first whole microsecond (R532) -/
  start : Option U64 := none
  deriving DecidableEq, Repr

/-- An LK or LOCK write whose audit entry is not yet durable (R551). -/
structure LkPend where
  off : Nat
  /-- the word that the register's LK and LOCK bits take -/
  word : Word
  /-- the origin (R547) -/
  origin : Nat
  deriving DecidableEq, Repr

/-- The host interface (15_host_registers). -/
structure HostIf where
  /-- GCTL.STATUS.PHASE (R35, R522) -/
  phase : Phase := .por
  /-- GCTL.STATUS.HALT_CAUSE (R522) -/
  haltCause : Nat := 0
  /-- GCTL.STATUS.UNIT_FAULT: a unit fault recorded since PORn (R522) -/
  unitFault : Bool := false
  /-- GCTL.FAULT: FLAG (R526) -/
  faultFlag : Bool := false
  /-- GCTL.FAULT: LEVEL, KIND, IDENTITY of the first fault (R526) -/
  fault : FaultRec := ⟨0, 0, 0⟩
  /-- GCTL.FAULT_COUNT (R526) -/
  faultCount : Word := 0
  /-- the first fault's passage and TIME (mailbox 0x0002) (R506) -/
  faultPassage : Word := 0
  faultTime : U64 := 0
  /-- GCTL.ACCESS_ERR: FLAG (R526) -/
  errFlag : Bool := false
  /-- GCTL.ACCESS_ERR: KIND, BAR and OFFSET of the first error (R526) -/
  errWord : Word := 0
  /-- GCTL.ACCESS_COUNT (R526) -/
  errCount : Word := 0
  /-- GCTL.PCIE.SPEED; 0 link down (R526) -/
  speed : Nat := 0
  /-- GCTL.PCIE.WIDTH (R526) -/
  width : Nat := 0
  /-- GCTL.PCIE.BME, Bus Master Enable (R526) -/
  bme : Bool := false
  /-- GCTL.PCIE.CORR (R526) -/
  corr : Nat := 0
  /-- the function is in D3hot (R501) -/
  d3 : Bool := false
  /-- the level of the PERSTn ball (R37, R566) -/
  perstn : Bool := false
  /-- GCTL.MIRROR_CTRL.SKIPPED (R510, R524) -/
  skipped : Nat := 0
  /-- mirrors written since PORn (R512) -/
  mirrors : Word := 0
  /-- RAW until which the latest mirror is being sent (R510): a step of TIME does not move it -/
  mirrorBusy : U64 := 0
  /-- host memory as the part's posted writes have left it: address and byte (R499, R509) -/
  memory : Tab Byte := []
  /-- GCTL.CMD_ENTRY0-7 (R515, R525) -/
  entry : List Word := [0, 0, 0, 0, 0, 0, 0, 0]
  /-- the command queue, oldest first, at most 256 (R515) -/
  queue : List Push := []
  /-- the stop table's set flags by place: AX_DISABLE 0-511, MV_HSTOP 512-1039, MV_QSTOP 1040-1567, CH_ENABLE 1568-1583,
  SF_DEMAND 1584-1615 (R517) -/
  stops : Tab (Option Push) := []
  /-- the commands taken and not yet due (R516) -/
  taken : List Taken := []
  /-- GCTL.CMD_STAT.LAST (R525) -/
  last : Nat := 0
  /-- GCTL.CMD_STAT.FULL (R525) -/
  full : Nat := 0
  /-- GCTL.CMD_SEQ (R525) -/
  seq : Word := 0
  /-- GCTL.CMD_TAKEN (R525) -/
  takenCount : Word := 0
  /-- GCTL.RES_COUNT (R525) -/
  resCount : Word := 0
  /-- the 64 result records of the mirror (R512) -/
  results : Tab Byte := []
  /-- the mailboxes 0-7 (R505) -/
  mboxes : Tab Mbox := []
  /-- the data of the latest read completion, and whether it was poisoned (R502, R508) -/
  readData : List Byte := []
  poisoned : Bool := false
  /-- LK and LOCK writes waiting for their entries, oldest first (R551) -/
  lkPend : List LkPend := []
  deriving DecidableEq, Repr

/-- The performance counters (R528-R534). CFG and BW_CFG lie in the register table. -/
structure Perf where
  /-- PERF.COUNT 0-127 (R534) -/
  counts : Tab Word := []
  /-- the bandwidth monitors 0-15 (R534) -/
  bws : Tab Bw := []
  /-- PERF.PCS_WR 0-7 (R534) -/
  pcs : Tab Word := []
  deriving DecidableEq, Repr

/-! ### Store, audit log, access -/

/-- An image slot's state (R546, R563). -/
structure Slot where
  /-- SLOTn.STATE: 0 EMPTY, 1 WRITING, 2 VALID, 3 REFUSED (R563) -/
  state : Nat := 0
  /-- SLOTn.CODE (R563) -/
  code : Nat := 0
  deriving DecidableEq, Repr

/-- An owner key's place (R537). -/
structure OwnerKey where
  /-- SHA-256 of the key; none while unwritten (R537) -/
  hash : Option (BitVec 256) := none
  /-- the REVOKED flag (R537) -/
  revoked : Bool := false
  deriving DecidableEq, Repr

/-- The identity and counters area of the MRAM (R537): kept across PORn. -/
structure Ident where
  /-- the 128-bit device serial (R537) -/
  serial : BitVec 128 := 0
  /-- vendor, subsystem vendor and subsystem IDs, and IDCODE (R537) -/
  vendor : Nat := 0
  subVendor : Nat := 0
  subId : Nat := 0
  idcode : Word := 0
  /-- owner key 0 and 1 (R537) -/
  key0 : OwnerKey := {}
  key1 : OwnerKey := {}
  /-- owner keys written by ST_OWNER_KEY, effective at the next PORn (R559) -/
  next0 : Option (BitVec 256) := none
  next1 : Option (BitVec 256) := none
  /-- the attestation public key (R537) -/
  attest : BitVec 256 := 0
  /-- team ID and team MAC address in force (R537) -/
  team : Word := 0
  mac : BitVec 48 := 0
  /-- team block written by ST_TEAM, effective at the next PORn (R559) -/
  nextTeam : Option (Word × BitVec 48) := none
  /-- BOOT_SLOT, BOOT_LEVEL and MIN_VERSION (R537) -/
  bootSlot : Nat := 0
  bootLevel : Nat := 0
  minVersion : Word := 0
  /-- MIN_VERSION set by ST_IMG_BOOT, effective at the next PORn (R559) -/
  nextMin : Option Word := none
  /-- counters: PORn events, boots reaching RUN, tamper events, vault erasures (R537) -/
  porns : U64 := 0
  boots : U64 := 0
  tampers : U64 := 0
  erasures : U64 := 0
  deriving DecidableEq, Repr

/-- A bank write in progress: the bank, its bytes, and the log origin (R540). -/
structure BankWrite where
  bank : Nat
  bytes : List Byte
  seq : Word
  deriving DecidableEq, Repr

/-- The store, the audit log, the VBAT domain and the debug port (16_store_audit_access). -/
structure Store where
  /-- the MRAM's slots, log and banks by MRAM byte address; an unlisted byte is 0 (R536) -/
  mram : Tab Byte := []
  /-- the identity and counters area (R537) -/
  ident : Ident := {}
  /-- STORE.CONTROL.LEVEL: BOOT_LEVEL as copied in WAKE (R545, R562) -/
  level : Nat := 0
  /-- STORE.SLOT0, STORE.SLOT1 (R563) -/
  slot0 : Slot := {}
  slot1 : Slot := {}
  /-- a parameter bank write in progress: STORE.STATUS.BUSY_PARAM (R563) -/
  busyParam : Option BankWrite := none
  /-- a safety bank write in progress: STORE.STATUS.BUSY_SAFE (R563) -/
  busySafe : Option BankWrite := none
  /-- the active parameter bank: STORE.STATUS.PARAM_BANK, PARAM_SRC (R539, R563) -/
  paramBank : Option Nat := none
  /-- the active safety bank: STORE.STATUS.SAFE_BANK (R539, R563) -/
  safeBank : Option Nat := none
  /-- whether the banks have been loaded in ARM (R541) -/
  loaded : Bool := false
  /-- STORE.STATUS.RUN_SLOT (R563) -/
  runSlot : Nat := 0
  /-- STORE.STATUS.FELL_BACK (R563) -/
  fellBack : Bool := false
  /-- STORE.STATUS.SKIPPED (R563) -/
  skipped : Nat := 0
  /-- ACCESS.LOG_WR (R561) -/
  logWr : Word := 0
  /-- ACCESS.LOG_ACK (R561) -/
  logAck : Word := 0
  /-- RESERVED of the log's books (R552) -/
  reserved : Nat := 0
  /-- ACCESS.UNRECORDED (R561) -/
  unrecorded : Word := 0
  /-- LINK of the latest entry; 0xFFFF_FFFF before entry 0 (R550) -/
  link : Word := 0xFFFFFFFF#32
  /-- ACCESS.DENIED.OFFSET (R561) -/
  denied : Nat := 0
  /-- VAULT_ERASED: the vault holds no key (R563) -/
  vaultErased : Bool := false
  /-- STORE.DEBUG.OPEN (R556, R563) -/
  debugOpen : Bool := false
  /-- an accepted opening of debug whose vault erasure runs (R556) -/
  opening : Bool := false
  /-- a DBG_REQ that waits for the next passage start (R556) -/
  dbgReq : Bool := false
  /-- the key-encryption key of the VBAT domain is present (R557) -/
  kek : Bool := true
  /-- STORE.VBAT.BAT_LOST (R557, R563) -/
  batLost : Bool := false
  /-- STORE.VBAT.TAMPER, the filtered level (R563) -/
  tamper : Bool := false
  /-- a tamper event without main power whose erasure WAKE makes up (R558) -/
  tamperDue : Bool := false
  /-- a loss of VBAT without main power that WAKE logs (R557) -/
  batDue : Bool := false
  /-- STORE.VBAT.RTC_VALID (R563) -/
  rtcValid : Bool := false
  /-- the real-time counter, as far as it has been read: between readings it grows by a free amount (R557; log 52) -/
  rtc : U64 := 0
  deriving DecidableEq, Repr

end Sys2Proof.Machine
end

