-- ==== Sys2Proof/Machine/ImageTypes.lean ====
section
/-! DEFINITION. The timetable image and the timetable's own state (02_timetable; Image and wiring of R58-R66, R112).
Each field's comment says what it is and the rule that names it; the value after `:=` is its reset value. -/

namespace Sys2Proof.Machine

/-- A byte memory: rising addresses, bytes other than 0; an unlisted address reads as 0 (R35 CLEAR, R108). -/
abbrev Mem := Tab Byte

/-! ### The timetable image (02_timetable) -/

/-- One 32-byte timetable entry (R62, R63). -/
structure Entry where
  start : Nat
  budget : Nat
  kind : Nat
  flags : Nat
  rate : Nat
  phase : Nat
  op0 : Word
  op1 : Word
  op2 : Word
  op3 : Word
  op4 : Word
  deriving DecidableEq, Repr

/-- One island's descriptor and segment in one tier (R60). -/
structure Segment where
  div : Nat
  entries : List Entry
  deriving DecidableEq, Repr

/-- One 16-byte release record (R65). -/
structure Release where
  offset : Nat
  target : Nat
  marker : Nat
  markers : Nat
  source : Nat
  words : Nat
  deriving DecidableEq, Repr

/-- One 16-byte crossing record (R66). -/
structure Crossing where
  tier : Nat
  src : Nat
  dst : Nat
  srcIndex : Nat
  dstIndex : Nat
  deriving DecidableEq, Repr

/-- How an image stores one result of its law code: normalised (R99), or at a fixed exponent (R98). -/
inductive StoreKind
  | norm
  | fixed (e : Int)
  deriving DecidableEq, Repr

/-- One matrix product of a law as the image lays it out in a coefficient set: the word offset of its first column, and
how its result is stored. Column `j` of row block `b` is the word at `off + b * columns + j`. -/
structure MatWire where
  off : Nat
  store : StoreKind
  deriving DecidableEq, Repr

/-- The layout of one law (R115, R116, R118): its sizes and its five matrices. -/
structure LawWire where
  states : Nat
  meas : Nat
  outs : Nat
  c : MatWire
  l : MatWire
  k : MatWire
  a : MatWire
  b : MatWire
  /-- How an innovation is stored. -/
  eStore : StoreKind
  /-- Per measurement entry: its source and the value word it is scaled by. -/
  src : List (Nat × Word)
  /-- The stage exponent of the measurement vector. -/
  yExp : Int
  deriving DecidableEq, Repr

/-- The preset of one output of law 1: its state, and the word and lane of its gain (R122, R137). -/
structure PresetWire where
  state : Nat
  word : Nat
  lane : Nat
  deriving DecidableEq, Repr

/-- What the image fixes for one servo instance beyond the bytes of the timetable image: its wiring (R112), its set area
(R118, R154), its law form and layout (R122), its limits per region (R120, R122) and its plausibility residuals (R142). -/
structure ServoWire where
  form : Bool
  channel : Nat
  inAddr : Nat
  recAddr : Nat
  acqAddr : Nat
  /-- Where the state record is put for the MOVE of a team's image (R448); none in an image for no team. -/
  stateAddr : Option Nat
  base : Nat
  stride : Nat
  stage : Nat
  law1 : LawWire
  law2 : Option LawWire
  presets : List (Option PresetWire)
  iMax : List Word
  uLim : List (List Word)
  residuals : List (Nat × Nat)
  /-- The stage exponents of the basic layout's words, in the order of the set's words (R121). -/
  setExps : List Int
  deriving DecidableEq, Repr

/-- What the image fixes for one ring stepper or local generator: where its upstream entry and its record lie, and the
feedback channel, if any. -/
structure StepWire where
  inAddr : Nat
  recAddr : Nat
  acqAddr : Nat
  channel : Option Nat
  deriving DecidableEq, Repr

/-- The content of a slot image that the timetable format of R57-R66 does not lay out: the wiring of R112, the blocks of
the local generators, the serial deadlines (R229) and the parameter defaults (R541). -/
structure Wiring where
  servos : List (Nat × ServoWire) := []
  steppers : List (Nat × StepWire) := []
  /-- Code offset of a block and the local step channels whose generators it runs. -/
  locals : List (Nat × List Nat) := []
  serialDeadline : List Nat := []
  /-- Parameter defaults: register offset and word (R541). -/
  defaults : List (Nat × Word) := []
  /-- The 4 KiB pages of region SRAM, by fabric address / 4096, that hold the image's segment and code areas (R392). -/
  pages : List Nat := []
  deriving DecidableEq, Repr, Inhabited

/-- A loaded timetable image: the fields of R58, the axis map, the tiers, the tables, the code section, the wiring. -/
structure Image where
  length : Nat := 0
  period : Nat := 0
  rings : Nat := 0
  team : Bool := false
  axes : Nat := 0
  nodes : List Nat := [0, 0, 0, 0]
  circ : List Nat := [0, 0, 0, 0]
  id : U64 := 0
  tool : Word := 0
  axmap : Tab Word := []
  tiers : List (List Segment) := []
  rel : List Release := []
  xing : List Crossing := []
  /-- The code section's instruction words, by byte offset / 8 (R366). -/
  code : Tab U64 := []
  codeLen : Nat := 0
  wiring : Wiring := {}
  deriving DecidableEq, Repr

/-- The shadow area's state (R73, R80). -/
inductive Shadow
  | empty
  | loading
  | ready
  | pending
  deriving DecidableEq, Repr

/-- The time island's passage and the timetable's registers (02_timetable). -/
structure Tt where
  /-- the running image: segments, release table, axis map and code (R75) -/
  running : Option Image := none
  /-- the shadow image (R73) -/
  shadow : Option Image := none
  /-- TT.STATUS.SHADOW (R80) -/
  shadowState : Shadow := .empty
  /-- the slot a TT_LOAD in progress names (R73) -/
  loadSlot : Nat := 0
  /-- the push sequence and the origin byte of that TT_LOAD, for its outcome entry (R78, R550) -/
  loadSeq : Word := 0
  loadOrigin : Nat := 0
  /-- the push sequence and the origin byte of the TT_SWAP pending, for its outcome entry (R78, R550) -/
  swapSeq : Word := 0
  swapOrigin : Nat := 0
  /-- TT.SWAP_AT.PASSAGE (R82) -/
  swapAt : Word := 0
  /-- TT.STATUS.LAST_CODE (R80) -/
  lastCode : Byte := 0
  /-- TT.LOAD_DETAIL (R83) -/
  loadDetail : Word := 0
  /-- TT.OVERRUN.COUNT (R84) -/
  ovrCount : Nat := 0
  /-- TT.OVERRUN.FLAG (R84) -/
  ovrFlag : Bool := false
  /-- TT.OVR_WHERE (R85) -/
  ovrWhere : Word := 0
  /-- TT.GATE.COUNT (R84) -/
  gateCount : Nat := 0
  /-- TT.GATE.FLAG (R84) -/
  gateFlag : Bool := false
  /-- TT.GATE_WHERE (R85) -/
  gateWhere : Word := 0
  /-- TT.STALE.COUNT (R86) -/
  staleCount : Nat := 0
  /-- TT.STALE.TARGET (R86) -/
  staleTarget : Nat := 0
  /-- TT.STALE.FLAG (R86) -/
  staleFlag : Bool := false
  /-- TT.STATUS.TIER, the tier of the passage in progress (R80) -/
  tier : Nat := 0
  /-- TT.STATUS.TIER_NEXT, the tier latched for the next passage (R54, R80) -/
  tierNext : Nat := 0
  /-- TT.TIER_PASSAGES0-3 (R87) -/
  tierPassages : List Word := [0, 0, 0, 0]
  /-- TT.PASSAGE.NUMBER, the passage in progress (R81) -/
  passage : Word := 0
  /-- whether the passage clock runs (R35, phase ARM) -/
  clockOn : Bool := false
  /-- S(N), the start of the passage in progress on the time base (R299) -/
  start : U64 := 0
  /-- the markers set in this passage (R67) -/
  markers : List Nat := []
  /-- the channels held by a RESERVE or a MOVE in this passage: island and channel (R50) -/
  reserved : List (Nat × Nat) := []
  /-- MOVE and RUN entries started and not yet complete: island and entry index (R43) -/
  openEntries : List (Nat × Nat) := []
  /-- entries started in this passage: island and entry index; each starts once in a passage (R43, R56) -/
  started : List (Nat × Nat) := []
  /-- entries skipped by a GATE miss in this passage: island and entry index (R72) -/
  skipped : List (Nat × Nat) := []
  /-- units that run no further entries in this passage: island and unit (R71) -/
  stopped : List (Nat × Nat) := []
  /-- the idle half of every double-buffered release source other than the rings' downstream records (R49) -/
  idle : Mem := []
  /-- the instances whose records the passage carries out with their previous values: their age rises by one (R71) -/
  aged : List Nat := []
  /-- the targets released in this passage (R47) -/
  released : List Nat := []
  /-- the tier the governor has chosen since the last latch (R54) -/
  tierChoice : Nat := 0
  deriving DecidableEq, Repr

end Sys2Proof.Machine
end

