-- ==== Sys2Proof/Machine/LuxTypes.lean ====
section
/-! DEFINITION. The state of a Luestox unit (10_luestox_isa, 03_engines_numerics) and of the soft plane's scheduler
(11_soft_plane). Each field's comment says what it is and the rule that names it; the value after `:=` is its reset
value. -/

namespace Sys2Proof.Machine

/-- An active LOOP: where its body starts and ends, and the iterations left, the present one included (R372). -/
structure LoopFrame where
  start : Nat
  stop : Nat
  left : Nat
  deriving DecidableEq, Repr

/-- The selector of an axis engine (R92, R368). -/
structure Selector where
  /-- BASE, the first word of the set area (R368) -/
  base : Nat := 0
  /-- STRIDE, words per set (R368) -/
  stride : Nat := 0
  /-- SEL, the set in use (R368) -/
  sel : Nat := 0
  /-- NEXT, the set blended to (R368) -/
  next : Nat := 0
  /-- W, the blend weight (R368) -/
  w : Nat := 0
  deriving DecidableEq, Repr

/-- A unit's registers: an axis engine, a DSP unit or an S-core (R88, R359, R370). -/
structure Lux where
  /-- v0-v31, the stages of an axis engine (R88, R365) -/
  vr : Tab Stage := []
  /-- acc0-acc7 of an axis engine (R88, R365) -/
  ar : Tab Acc := []
  /-- s0-s15 (R88, R359) -/
  sr : Tab Word := []
  /-- x0-x7: 13 bits on an axis engine, 15 on a DSP unit (R359, R365) -/
  xr : Tab Nat := []
  /-- p0-p7 of an S-core (R359, R365) -/
  pr : Tab Word := []
  /-- FLG: SAT, OVF, ECLAMP, ZERO (R370) -/
  flg : BitVec 4 := 0
  /-- the selector of an axis engine (R368) -/
  sel : Selector := {}
  /-- pc: the fabric byte address on an S-core (R384), the byte offset in the code section on a T unit (R366) -/
  pc : Nat := 0
  /-- the active loops, innermost first (R372) -/
  loops : List LoopFrame := []
  /-- whether the preceding instruction of the same body is a MACB or MACE, so that a co-issue may follow (R369) -/
  mac : Bool := false
  /-- whether a block runs on a T unit: started by RUN, not yet ended by END (R373) -/
  running : Bool := false
  /-- cycles that the block in progress has taken (R362) -/
  cycles : Nat := 0
  deriving DecidableEq, Repr

/-- An entry of the matching store: the token in each of the slots 0-3 (R395). -/
structure Match where
  t0 : Option Word := none
  t1 : Option Word := none
  t2 : Option Word := none
  t3 : Option Word := none
  deriving DecidableEq, Repr

/-- What the scheduler keeps for an S-core (R398, R399, R403, R405, R411). -/
structure Core where
  /-- the descriptor of the running task (CORE_STAT.TASK, STATE 1) (R411) -/
  task : Option Nat := none
  /-- the descriptors in the prefetch slots 0 and 1 (R399) -/
  pre : List Nat := []
  /-- CORE_STAT.STATE 2: out of service after an uncorrectable word (R403) -/
  out : Bool := false
  /-- CORE_STARTS.COUNT (R411) -/
  starts : Word := 0
  /-- CORE_LOAD.LOAD, permille, latched at the window's end (R405) -/
  load : Nat := 0
  /-- CORE_LOAD.FWAIT, permille, latched (R405) -/
  fwait : Nat := 0
  /-- CORE_WAIT_MAX.MAX, ns, latched (R405) -/
  waitMax : Word := 0
  /-- CORE_WAIT_MEAN.MEAN, ns, latched (R405) -/
  waitMean : Word := 0
  /-- CORE_ELIG.MAX_ELIG, latched (R405) -/
  maxElig : Nat := 0
  /-- the window in progress: the longest wait from READY to start (R405) -/
  winMax : Nat := 0
  /-- the window in progress: the sum of the waits (R405) -/
  winSum : Nat := 0
  /-- the window in progress: the tasks started (R405) -/
  winCount : Nat := 0
  /-- the window in progress: the largest number of eligible READY descriptors (R405) -/
  winElig : Nat := 0
  deriving DecidableEq, Repr

/-- The soft plane's scheduler (11_soft_plane). The descriptors themselves lie in memory (R393). -/
structure Sched where
  /-- the matching store: the entry of each descriptor that holds one (R395) -/
  entries : Tab (Option Match) := []
  /-- the sequence number last given to a READY descriptor (R397) -/
  seq : Nat := 0
  /-- the sequence number of each READY or PREFETCHED descriptor (R397) -/
  order : Tab Nat := []
  /-- the descriptors that become or are READY as a resume after a delay (R400) -/
  resume : List Nat := []
  /-- the scalar that the TDLY of a delayed descriptor names for its status (R387, R400) -/
  dlyReg : Tab Nat := []
  /-- the passage delay list: descriptor and ticks left, in order of expiry (R400) -/
  dlyPassage : List (Nat × Nat) := []
  /-- the microsecond delay list: descriptor and the microsecond of RAW at which it expires, in order of expiry (R400) -/
  dlyMicro : List (Nat × Nat) := []
  /-- SCHED.PEND_CMP (R401, R408) -/
  pendCmp : Word := 0
  /-- SCHED.PEND_EVIO0 and SCHED.PEND_EVIO1 (R401, R408) -/
  pendEvio : U64 := 0
  /-- SCHED.PEND_RING (R401, R408) -/
  pendRing : Nat := 0
  /-- SCHED.COUNTS.BP_TPOST (R407) -/
  bpTpost : Nat := 0
  /-- SCHED.COUNTS.DISCARD (R407) -/
  discard : Nat := 0
  /-- SCHED.STATUS.FAULT (R403, R407) -/
  fault : Bool := false
  /-- the cores SC0-SC7 (R411) -/
  cores : Tab Core := []
  /-- passages run of the observation window in progress (R405) -/
  window : Nat := 0
  deriving DecidableEq, Repr

end Sys2Proof.Machine
end

