-- ==== Sys2Proof/Machine/RingTypes.lean ====
section
/-! DEFINITION. The state of one Mewyn ring at the head (07_mewyn_ring). -/

namespace Sys2Proof.Machine

/-- A node's lock state (R265, R285). -/
inductive NLock
  | closed
  | trial
  | opened
  | absent
  deriving DecidableEq, Repr

/-- The code of a lock state (R285). -/
def NLock.code : NLock → Nat
  | .closed => 0
  | .trial => 1
  | .opened => 2
  | .absent => 3

/-- One received barge of the passage: the records and the container of the first accepted copy (R258, R266). -/
structure RxBarge where
  laneY : Bool
  recs : List Byte
  safe : List Byte
  offset : Int
  diverge : Bool
  deriving DecidableEq, Repr

/-- One node of a ring, as the head keeps it. -/
structure RNode where
  /-- the lock state (R265, R291 LOCK) -/
  lock : NLock := .absent
  /-- consecutive accepted TRIAL barges without EDGE (R265) -/
  joinRun : Nat := 0
  /-- consecutive passages without an accepted barge (R265) -/
  absence : Nat := 0
  /-- RING.NODE.EDGE_RUN (R264, R291) -/
  edgeRun : Nat := 0
  /-- RING.NODE.OFFSET, signed ns (R291) -/
  offset : Int := 0
  /-- RING.NODE.LANE_X and LANE_Y (R291) -/
  laneX : Bool := false
  laneY : Bool := false
  /-- accepted copies of the passage in progress -/
  nowX : Bool := false
  nowY : Bool := false
  /-- the largest offset of this passage's received copies, in tenths of ns (R264) -/
  nowOffset : Option Int := none
  /-- the first accepted copy of the passage in progress (R266) -/
  rx : Option RxBarge := none
  /-- GTOT and UTOT of the latest accepted barge (R274) -/
  gtot : Byte := 0
  utot : Byte := 0
  /-- G and U, the head's counts (R274) -/
  granted : Byte := 0
  used : Byte := 0
  /-- RXFREE and AQ of the latest accepted barge (R258) -/
  rxFree : Nat := 0
  aq : Nat := 0
  /-- consecutive evaluations with an in-flight term other than 0 (R275) -/
  inflightRun : Nat := 0
  /-- the acyclic slot granted for the next passage (R273) -/
  aslot : Option Nat := none
  /-- SEQ of the last node-to-head frame received, and of the last head-to-node frame sent (R272) -/
  upSeq : Option Byte := none
  downSeq : Byte := 0
  deriving DecidableEq, Repr

/-- A queued head-to-node acyclic frame (R272, R281). -/
structure AFrame where
  node : Nat
  proto : Nat
  payload : List Byte
  deriving DecidableEq, Repr

/-- A ring's state apart from healing (R283). -/
inductive RState
  | off
  | listen
  | run
  | conflict
  deriving DecidableEq, Repr

/-- What a member keeps of a lane's latest valid unfolded header (R257), in units of 1/16 ns: the head time less its own raw time,
and the path delay from the head; and the passage. -/
structure HeadRef where
  ahead : Int
  path : Nat
  raw : U64
  passage : Word
  deriving DecidableEq, Repr

/-- One Mewyn ring. -/
structure Ring where
  /-- RING.STATUS.STATE apart from HEALED and SPLIT (R283) -/
  st : RState := .off
  /-- block lock of the P0 and P1 receivers (R283 LANES) -/
  lock0 : Bool := false
  lock1 : Bool := false
  /-- the P0 and P1 transmitters running (R283 LANES) -/
  tx0 : Bool := false
  tx1 : Bool := false
  /-- the own receivers taken as dead (R269) -/
  dead0 : Bool := false
  dead1 : Bool := false
  /-- consecutive passages without a valid header, with one, and with an unfolded one, on each port (R269, R270) -/
  noHdr0 : Nat := 0
  noHdr1 : Nat := 0
  got0 : Nat := 0
  got1 : Nat := 0
  good0 : Nat := 0
  good1 : Nat := 0
  /-- a valid header, a valid unfolded one, and the part's own unfolded one, received on each port in the passage in progress
  (R269, R270, R290) -/
  seen0 : Bool := false
  seen1 : Bool := false
  hdr0 : Bool := false
  hdr1 : Bool := false
  own0 : Bool := false
  own1 : Bool := false
  /-- what a member keeps of the latest valid unfolded header of each port (R257) -/
  ref0 : Option HeadRef := none
  ref1 : Option HeadRef := none
  /-- the pounds of the present holes; HOLE names the latest (R269, R283) -/
  holes : List Nat := []
  /-- the passage of the latest folded header (R270) -/
  lastFold : Option Word := none
  /-- RING.EDGE0 and EDGE1 (R286) -/
  edge : U64 := 0
  /-- RING.MISS (R287) -/
  miss : Word := 0
  /-- RING.POLICE (R287) -/
  police : Word := 0
  /-- RING.CHECK (R287) -/
  check : Word := 0
  /-- RING.HEAL (R287) -/
  heal : Word := 0
  /-- copies that differed (R266) -/
  diverges : Nat := 0
  /-- RING.CREDIT.RESYNC (R288) -/
  resyncs : Nat := 0
  /-- RING.ACYC_LOST (R288) -/
  acycLost : Word := 0
  /-- RING.ARX_WR (R289) -/
  arxWr : Word := 0
  /-- RING.ARX_RD (R289) -/
  arxRd : Word := 0
  /-- RING.LOOP.LOOP_X and LOOP_Y (R290) -/
  loopX : Nat := 0xFFFF
  loopY : Nat := 0xFFFF
  /-- the nodes by number 1-64 (R265) -/
  nodes : Tab RNode := []
  /-- the end of the previous frame on each lane, in tenths of ns of the time base (R263) -/
  endX : Nat := 0
  endY : Nat := 0
  /-- the head-to-node acyclic queue, and the frames that have been entered in it (R276, R280) -/
  txq : List AFrame := []
  aqWr : Nat := 0
  /-- the node served last by the credit grants (R274) -/
  lastServed : Nat := 0
  /-- the latest pound-delay results of each port, in ns, newest first (R278) -/
  pounds0 : List Int := []
  pounds1 : List Int := []
  /-- the departure stamps of the probes in flight (R278) -/
  probe0 : Option U64 := none
  probe1 : Option U64 := none
  /-- the latest frames sent: header, downstream and acyclic, each on X and on Y, link-local, repeated (R255, R256, R267, R276,
  R278) -/
  txHeader : List Byte := []
  txHeaderY : List Byte := []
  txDownX : List Byte := []
  txDownY : List Byte := []
  txAcyclic : List Byte := []
  txAcyclicY : List Byte := []
  txLocal : List Byte := []
  txRepeat : List Byte := []
  /-- which downstream half the latest release took, per ring-buffer word (R49): the words taken from half 1 -/
  halfOne : List Nat := []
  /-- the downstream records of 52 bytes as last released, in order of entries (R267) -/
  records : List (List Byte) := []
  /-- the age of each downstream record, by entry (R49, R267) -/
  recAge : Tab Nat := []
  deriving DecidableEq, Repr

end Sys2Proof.Machine
end

