-- ==== Sys2Proof/Syntax.lean ====
section
/-! DEFINITION. The commands of the block: one constructor for each row of the spec's table of operations and events. An
agent is 0 for the host, 1 to 8 for SC0 to SC7 through RGW, and 9 for the debug port (R547). A unit is 0-63 for AE0-AE63,
64-79 for DSP0-DSP15 and 80-87 for SC0-SC7 (R359). Frames are their bytes with the CHECK, and an arrival is in tenths of a
nanosecond on the time base (R250). -/

namespace Sys2Proof

open Machine

/-- The commands. -/
inductive Instr
  -- reset, start-up, the host link
  | porn (lowNs : Nat) (straps : Nat)
  | railUndervoltage (ns : Nat)
  | armComplete (selfTest : Bool)
  | perstn (low : Bool)
  | pcieLinkDown (cause : Nat)
  | release (target : Nat)
  | run (island index : Nat)
  | move (island index : Nat)
  | moveComplete (island index : Nat)
  | gate (island index : Nat)
  | reserve (island index : Nat)
  | overrun (island index : Nat)
  | dieLinkFailure (link : Nat)
  | scrubVisit (addr symbols : Nat)
  | supervisionTrip (i : Nat)
  | stall (g : Nat)
  | setLoadComplete (i : Nat)
  | pcieLinkUp (speed width : Nat) (bme : Bool)
  -- Luestox
  | nop (u : Nat) (f : Fields)
  | end_ (u : Nat) (f : Fields)
  | loop (u : Nat) (f : Fields)
  | rdf (u : Nat) (f : Fields)
  | clrf (u : Nat) (f : Fields)
  | add (u : Nat) (f : Fields)
  | sub (u : Nat) (f : Fields)
  | adds (u : Nat) (f : Fields)
  | subs (u : Nat) (f : Fields)
  | and (u : Nat) (f : Fields)
  | or (u : Nat) (f : Fields)
  | xor (u : Nat) (f : Fields)
  | shl (u : Nat) (f : Fields)
  | shr (u : Nat) (f : Fields)
  | sar (u : Nat) (f : Fields)
  | mul (u : Nat) (f : Fields)
  | mulh (u : Nat) (f : Fields)
  | min (u : Nat) (f : Fields)
  | max (u : Nat) (f : Fields)
  | slt (u : Nat) (f : Fields)
  | sltu (u : Nat) (f : Fields)
  | addi (u : Nat) (f : Fields)
  | movi (u : Nat) (f : Fields)
  | shli (u : Nat) (f : Fields)
  | shri (u : Nat) (f : Fields)
  | sari (u : Nat) (f : Fields)
  | andi (u : Nat) (f : Fields)
  | selz (u : Nat) (f : Fields)
  | abs (u : Nat) (f : Fields)
  | div (u : Nat) (f : Fields)
  | divu (u : Nat) (f : Fields)
  | xmov (u : Nat) (f : Fields)
  | xaddi (u : Nat) (f : Fields)
  | sfromx (u : Nat) (f : Fields)
  | pmov (u : Nat) (f : Fields)
  | paddi (u : Nat) (f : Fields)
  | sfromp (u : Nat) (f : Fields)
  | ldv (u : Nat) (f : Fields)
  | stv (u : Nat) (f : Fields)
  | lds (u : Nat) (f : Fields)
  | sts (u : Nat) (f : Fields)
  | selld (u : Nat) (f : Fields)
  | macb (u : Nat) (f : Fields)
  | mace (u : Nat) (f : Fields)
  | macr (u : Nat) (f : Fields)
  | macrb (u : Nat) (f : Fields)
  | adda (u : Nat) (f : Fields)
  | mova (u : Nat) (f : Fields)
  | fixv (u : Nat) (f : Fields)
  | normv (u : Nat) (f : Fields)
  | vmov (u : Nat) (f : Fields)
  | vclamp (u : Nat) (f : Fields)
  | vcmp (u : Nat) (f : Fields)
  | vsel (u : Nat) (f : Fields)
  | vins (u : Nat) (f : Fields)
  | vext (u : Nat) (f : Fields)
  | vexp (u : Nat) (f : Fields)
  | vsete (u : Nat) (f : Fields)
  | vzero (u : Nat) (f : Fields)
  | sincos (u : Nat) (f : Fields)
  | vsqrt (u : Nat) (f : Fields)
  | vresc (u : Nat) (f : Fields)
  | vneg (u : Nat) (f : Fields)
  | biq (u : Nat) (f : Fields)
  | fir (u : Nat) (f : Fields)
  | fft (u : Nat) (f : Fields)
  | beq (u : Nat) (f : Fields)
  | bne (u : Nat) (f : Fields)
  | blt (u : Nat) (f : Fields)
  | bge (u : Nat) (f : Fields)
  | bltu (u : Nat) (f : Fields)
  | bgeu (u : Nat) (f : Fields)
  | jal (u : Nat) (f : Fields)
  | jr (u : Nat) (f : Fields)
  | ldw (u : Nat) (f : Fields)
  | stw (u : Nat) (f : Fields)
  | ldbu (u : Nat) (f : Fields)
  | stb (u : Nat) (f : Fields)
  | ldd (u : Nat) (f : Fields)
  | std (u : Nat) (f : Fields)
  | amoadd (u : Nat) (f : Fields)
  | rgr (u : Nat) (f : Fields)
  | rgw (u : Nat) (f : Fields)
  | tend (u : Nat) (f : Fields)
  | tpost (u : Nat) (f : Fields)
  | tdly (u : Nat) (f : Fields)
  | flt (u : Nat) (f : Fields)
  | illegalInstruction (u : Nat) (word : U64)
  -- host commands
  | nopCommand (c : Ctx)
  | ttLoad (c : Ctx) (slot : Nat)
  | ttSwap (c : Ctx) (p : Word)
  | ttCancel (c : Ctx)
  | axEnable (c : Ctx) (i mode : Nat)
  | axDisable (c : Ctx) (i : Nat)
  | axMode (c : Ctx) (i mode : Nat) (noPreset : Bool)
  | axCommit (c : Ctx) (i : Nat)
  | axRetune (c : Ctx) (i k : Nat)
  | axSetLoad (c : Ctx) (i k f : Nat)
  | axClear (c : Ctx) (i : Nat)
  | mvQueue (c : Ctx) (g : Nat) (target : U64) (vmax : Word) (relative blend : Bool)
  | mvChange (c : Ctx) (g : Nat) (target : U64) (vmax : Word) (chTarget chVmax : Bool)
  | mvFlush (c : Ctx) (g : Nat)
  | mvQstop (c : Ctx) (g : Nat)
  | mvHstop (c : Ctx) (g : Nat)
  | mvHome (c : Ctx) (g method dir : Nat) (vsearch : Word) (homePos : U64) (range : Word) (fly : Bool)
  | pfCommit (c : Ctx) (g : Nat)
  | chEnable (c : Ctx) (ch : Nat) (enable : Bool)
  | fbCommit (c : Ctx) (ch : Nat)
  | fbClear (c : Ctx) (ch : Nat)
  | rgCommit (c : Ctx) (r : Nat)
  | rgReopen (c : Ctx) (r n : Nat)
  | rgResync (c : Ctx) (r n : Nat)
  | rgAsend (c : Ctx) (r n proto len : Nat) (addr : Word)
  | timeStep (c : Ctx) (delta : U64)
  | timeRate (c : Ctx) (rate : Word)
  | ptpCommit (c : Ctx)
  | acqCommit (c : Ctx)
  | acqArm (c : Ctx) (ch : Nat)
  | acqDisarm (c : Ctx) (ch : Nat)
  | acqForce (c : Ctx) (ch : Nat)
  | acqRead (c : Ctx) (ch : Nat) (first count : Word) (addr : U64)
  | acqMaskLoad (c : Ctx) (ch : Nat)
  | maskLoadComplete (ch : Nat)
  | spDesc (c : Ctx) (d : Nat) (addr : Word)
  | spPost (c : Ctx) (d slot : Nat) (value : Word)
  | spDrop (c : Ctx) (d : Nat)
  | govCommit (c : Ctx)
  | ropeHandover (c : Ctx) (p : Word)
  | ropeRejoin (c : Ctx)
  | ropeDismiss (c : Ctx)
  | sfLoad (c : Ctx) (addr : Word)
  | sfConfirm (c : Ctx) (value : Word)
  | sfDemand (c : Ctx) (f : Nat)
  | sfReset (c : Ctx) (f : Nat)
  | sfBrakeTest (c : Ctx) (b : Nat)
  | stSave (c : Ctx)
  | bankWriteComplete (safe ok : Bool)
  | stImgWrite (c : Ctx) (slot : Nat) (offset addr length : Word)
  | stImgSeal (c : Ctx) (slot : Nat)
  | stImgBoot (c : Ctx) (slot ratchet level : Nat)
  | stLogRead (c : Ctx) (first count : Word) (addr : U64)
  | stLogAck (c : Ctx) (upto link : Word)
  | stDebugOpen (c : Ctx)
  | stOwnerKey (c : Ctx) (k : Nat) (addr : Word)
  | stOwnerRevoke (c : Ctx) (k : Nat)
  | stTeam (c : Ctx) (addr : Word)
  -- register and memory accesses
  | cmdPush (agent : Nat)
  | registerWrite (agent off : Nat) (w : Word)
  | narrowAccess (off : Nat) (write : Bool)
  | aliasAccess (agent off : Nat) (write : Bool) (w : Word)
  | bar2Write (addr : Nat) (bytes : List Byte) (poisoned : Bool)
  | bar2Read (addr len : Nat)
  | mailboxSelect (agent k selector : Nat)
  | mailboxCaptureComplete (k : Nat)
  | delayMaxClear (agent i : Nat)
  | govClear (agent : Nat)
  | perfClear (agent : Nat)
  | perfFreeze (agent : Nat) (freeze : Bool)
  | perfCfgWrite (agent k : Nat) (w : Word)
  | cmpArm (agent k : Nat)
  | cmpFire (k : Nat)
  | evioModeWrite (agent p mode : Nat)
  | evioQt (agent p : Nat) (target : Word)
  | evioQpush (agent p : Nat) (level : Bool)
  | evioEntryFire (p : Nat)
  | evioPeriodicEdge (p : Nat)
  | evioCapture (p : Nat) (line : LevelRun) (quarters : Nat)
  | capRdWrite (agent : Nat) (w : Word)
  | arxRdWrite (agent r : Nat) (w : Word)
  | strRdWrite (agent : Nat) (w : Word)
  | schedWindowWrite (agent : Nat) (w : Word)
  | classRightRemove (agent : Nat) (soft : Bool) (w : Word)
  | bwMonitorEnable (agent m : Nat) (w : Word)
  | bwWindowEnd (m bytes busy : Nat)
  | pcSample (core : Nat) (waiting : Bool)
  -- feedback
  | encoderEdge (c : Nat) (lines : PairRun) (stamp : U64)
  | encoderIndexEdge (c : Nat) (seen : IndexRun)
  | qerrWindowClose (ch : Nat)
  | qerrLimitReached (ch : Nat)
  | serialDeadline (port : Nat) (edge0 : Bool) (samples : List Bool)
  | serialFailLimit (port : Nat)
  -- the ring
  | passageHeader (ring port : Nat) (bytes : List Byte) (arrival : Nat)
  | coldStartHeader (ring port : Nat) (bytes : List Byte) (arrival : Nat)
  | barge (ring port : Nat) (bytes : List Byte) (arrival : Nat)
  | downstreamFrame (ring port : Nat) (bytes : List Byte) (arrival : Nat)
  | acyclicFrame (ring port : Nat) (bytes : List Byte)
  | poundProbe (ring port : Nat) (bytes : List Byte) (arrival : Nat)
  | poundProbeReply (ring port : Nat) (bytes : List Byte) (arrival : Nat)
  | poundProbeSend (ring port : Nat)
  | edgeLimitReached (ring n : Nat)
  | joinCountReached (ring n : Nat)
  | bargeAbsenceTimeout (ring n : Nat)
  | creditResync (ring n : Nat)
  | blockLockLoss (ring port : Nat)
  | headerAbsence (ring port : Nat)
  | blockLockRegained (ring port : Nat)
  | holeClear (ring : Nat)
  -- acquisition, soft plane, governor
  | triggerTimeout (t : Nat)
  | postReached (ch : Nat)
  | taskStart (core : Nat)
  | pendingTokenAccept (source : Nat)
  | delayExpiry (d : Nat)
  | measurementClose (energy : Nat) (temps : List Int)
  | sensorFail (k : Nat)
  | preValid (ch : Nat)
  -- the rope team
  | heartbeat (link : Nat) (bytes : List Byte)
  | batch (link : Nat) (ok : Bool) (tag : Word) (items : List Forward)
  | ledger (link : Nat) (ok : Bool) (passage : Word) (books : List LedgerNode)
  | local_ (link : Nat) (ok : Bool) (passage : Word) (chans : List LocalChan) (evio : U64)
  | localSer (link : Nat) (ok : Bool) (passage : Word) (chans : List LocalChan)
  | sample (link : Nat) (bytes : List Byte)
  | verdict (link : Nat) (ok : Bool) (passage : Word) (action reason : Nat)
  | evioFrame (link : Nat) (ok : Bool) (p reg : Nat) (w target : Word)
  | grant (link : Nat) (ok : Bool) (serial : Word)
  | copy (link : Nat) (ok : Bool) (block : CopyBlock) (left : Nat)
  | batchMissing (kind : Nat)
  | secondDownstreamFallback (ring : Nat)
  | ropeLinkLockLoss (link : Nat)
  | ropeLinkLockRegained (link : Nat)
  -- the safety island
  | safetySample (sins souts brks : Nat) (currents : List Nat)
  | discrepancyTimeout (k : Nat)
  | ss1TimeExpiry (f : Nat)
  | offPulse (j : Nat) (low : Bool)
  | offPulseEnd (j : Nat) (high : Bool)
  | containerLoss (ring n : Nat)
  | stoFail (ring n : Nat)
  | safetyDiagFault (diag : Nat)
  -- VBAT and the plant port
  | tamper (powered : Bool)
  | sync (m : PtpMsg)
  | followUp (m : PtpMsg)
  | delayReq (m : PtpMsg)
  | delayResp (m : PtpMsg)
  | pdelayReq (m : PtpMsg)
  | pdelayResp (m : PtpMsg)
  | pdelayRespFollowUp (m : PtpMsg)
  | announce (m : PtpMsg)
  -- events without an operand
  | wakeComplete
  | clearComplete
  | imageComplete
  | passageStart
  | tierLatch
  | ttLoadComplete
  | swap
  | handover
  | brakeTestSettleExpiry
  | brakeTestHoldExpiry
  | dbgReq
  | lkWrite
  | schedWindowEnd
  | ringInHorizon
  | thermalTrip
  | belayDecision
  | belayGrant
  | takeover
  | silenceTakeover
  | leadIsolation
  | coldStartAttempt
  | rejoinCheckComplete
  | vbatLoss
  | vaultEraseComplete
  | ptpDiscardedMessage
  | ptpSyncInterval
  | vsafe24Undervoltage
  | delayReqInterval
  | announceReceiptTimeout
  deriving DecidableEq, Repr

end Sys2Proof
end

