-- ==== Sys2Proof/Machine/State.lean ====
section
/-! DEFINITION. The state of the HM256, its faults and refusals, and the state after power-on. Every part is plain data.
Each field's comment says what it is and the rule that names it; the value after `:=` is its reset value. -/

namespace Sys2Proof.Machine

/-- The register fields that commands and writes change, by BAR0 offset. -/
structure Regs where
  /-- the committed word of every implemented register: its RW, LK and LOCK bits, and the values in use of its staged
  fields (R11, R134) -/
  cfg : Tab Word := []
  /-- the staged copy of every register with staged fields; none where nothing is staged (R134) -/
  stg : Tab (Option Word) := []
  deriving DecidableEq, Repr

/-- Latched faults (R20-R24). -/
structure Faults where
  /-- the units with a latched unit fault, by identity (R20, R526) -/
  units : List Nat := []
  /-- the faulted clusters (R20, R21) -/
  clusters : List Nat := []
  /-- the faulted clusters that a single part holds in island reset (R21) -/
  held : List Nat := []
  /-- GCTL.STATUS.PKG_FAULT: a package fault is latched (R21, R522) -/
  pkg : Bool := false
  /-- the faults flagged in the passage in progress, in the order flagged, recorded at the next passage start (R23) -/
  flagged : List FaultRec := []
  /-- a cluster or package fault flagged in the passage in progress, on which R21 acts in the next one -/
  reactDue : Bool := false
  deriving DecidableEq, Repr

/-- The state of the machine. -/
structure State where
  /-- the commands that wait, first in, first out: the model's own field -/
  pending : List Instr := []
  /-- the registers (R8-R13) -/
  regs : Regs := {}
  /-- the timetable (02_timetable) -/
  tt : Tt := {}
  /-- latched faults (01_architecture) -/
  faults : Faults := {}
  /-- the time island (08_time) -/
  time : TimeBase := {}
  /-- the plant port (08_time) -/
  plant : Plant := {}
  /-- the axis instances 0-511 (04_control_laws) -/
  axes : Tab Axis := []
  /-- the profile generators 0-527 (05_motion_profiles) -/
  gens : Tab Gen := []
  /-- the local step channels 0-15 (05_motion_profiles) -/
  chans : Tab StepChan := []
  /-- the local encoders 0-15 (06_feedback) -/
  encs : Tab Enc := []
  /-- the serial ports 0-7 (06_feedback) -/
  sers : Tab Ser := []
  /-- the remote feedback blocks 0-511 (06_feedback) -/
  rems : Tab Rem := []
  /-- the rings A-D (07_mewyn_ring) -/
  rings : Tab Ring := []
  /-- the acquisition block (09_acquisition) -/
  acq : Acq := {}
  /-- the Luestox units: 0-63 AE, 64-79 DSP, 80-87 S-cores (10_luestox_isa) -/
  units : Tab Lux := []
  /-- the soft plane's scheduler (11_soft_plane) -/
  sched : Sched := {}
  /-- the governor (12_energy_heat) -/
  gov : Gov := {}
  /-- the rope team (13_rope_team) -/
  rope : Rope := {}
  /-- the safety island (14_safety) -/
  safe : Safe := {}
  /-- the host interface (15_host_registers) -/
  host : HostIf := {}
  /-- the performance counters (15_host_registers) -/
  perf : Perf := {}
  /-- the store, the audit log and the access classes (16_store_audit_access) -/
  store : Store := {}
  /-- the SRAMs by fabric address; an unlisted byte is 0 (R64) -/
  mem : Mem := []
  /-- the 256-bit words of the SRAMs that do not decode, by their fabric address (R109, R110) -/
  bad : List Nat := []
  /-- the words of `bad` in a ring buffer whose port fault has been raised (R586) -/
  badSeen : List Nat := []
  /-- how many byte symbols of an SRAM word are wrong and still corrected at every read, 1 to 4, by the word's fabric address
  (R109, R111) -/
  wrong : Tab Nat := []
  /-- the next unused free value: the model's own field (log 1) -/
  freeCtr : Nat := 0
  deriving DecidableEq, Repr

/-- Why a command stops the model. -/
inductive Fault
  /-- An access to an address that the spec says does not exist; raised by no command at present (safe). -/
  | noSuchAddress
  deriving DecidableEq, Repr

/-- Why a command is refused. -/
inductive Refusal
  /-- A command that the model gives no meaning: raised by no arm at present (safe). -/
  | notModelled (mnemonic : String)
  deriving DecidableEq, Repr

/-- The machine right after reset: PORn low, phase POR, nothing waiting (R35). -/
def State.reset : State := {}

end Sys2Proof.Machine
end

