-- ==== Sys2Proof/Decode.lean ====
section
/-! DEFINITION. The command that a word spells. The spec's table gives no row any bits (its patterns are empty), so no word
spells a command. -/

namespace Sys2Proof

/-- The command that the `nbits` low bits of `w` spell: none, since no row of the table has bits (log 59). -/
def decodeTableWord (_nbits _w : Nat) : Option Instr := none

end Sys2Proof
end

