-- ==== Sys2Proof/Machine/Numerics.lean ====
section
/-! DEFINITION. The arithmetic of the axis engines and the DSP units: selector blending (R93), products and accumulation
(R95-R97), the fixed and the normalising store (R98-R100), biquad and FIR sections (R103, R104), transforms (R105, R106),
and the value words of the registers (R148). All of it is integer arithmetic. -/

namespace Sys2Proof.Machine

/-- The arithmetic events of R101. -/
structure Events where
  sat : Bool := false
  ovf : Bool := false
  eclamp : Bool := false
  zero : Bool := false
  deriving DecidableEq, Repr

/-- No event. -/
def Events.none : Events := {}

/-- Events of either. -/
def Events.or (a b : Events) : Events :=
  ⟨a.sat || b.sat, a.ovf || b.ovf, a.eclamp || b.eclamp, a.zero || b.zero⟩

/-- A mantissa from an integer in range. -/
def mant (x : Int) : BitVec 24 := BitVec.ofInt 24 x

/-- Saturation to 24 bits, the event being SAT. -/
def sat24 (x : Int) : BitVec 24 × Bool := let r := satBits 24 x; (mant r.1, r.2)

/-- Two words blended lane by lane with weight `w` (R93); `sameSet` says that NEXT equals SEL. -/
def blend (a b : Stage) (w : Nat) (sameSet : Bool) : Stage :=
  if sameSet || w == 0 then a
  else
    let ea := a.e.toInt
    let eb := b.e.toInt
    let e := max ea eb
    let align (x e' : Int) : Int := if 24 ≤ e - e' then 0 else shrRound x (e - e').toNat
    ⟨Lanes.zip (fun x y =>
        let ma := align x.toInt ea
        let mb := align y.toInt eb
        mant (ma + (w * (mb - ma) + 128) / 256)) a.m b.m,
      BitVec.ofInt 8 e⟩

/-- A sum saturated to an accumulator lane (R97). -/
def satAcc (x : Int) : BitVec 56 × Bool := let r := satBits 56 x; (BitVec.ofInt 56 r.1, r.2)

/-- Every lane's accumulation of an exact product or addend `p` at exponent `ep`, with the alignment of R96. -/
def accAdd (acc : Acc) (p : Lanes Int) (ep : Int) : Acc × Events :=
  let g := ep - acc.e.toInt
  let lanes := Lanes.zip (fun (x : BitVec 56) (y : Int) =>
    if g < 0 then satAcc (x.toInt + shrRound y (-g).toNat)
    else satAcc (shrRound x.toInt g.toNat + y)) acc.a p
  (⟨lanes.map (·.1), if 0 < g then BitVec.ofInt 9 ep else acc.e⟩,
    { ovf := lanes.toList.any (·.2) })

/-- A MAC that clears its accumulator (R96). -/
def accClear (p : Lanes Int) (ep : Int) : Acc := ⟨p.map (BitVec.ofInt 56 ·), BitVec.ofInt 9 ep⟩

/-- The exact product of two mantissas (R95). -/
def prod (x y : BitVec 24) : Int := x.toInt * y.toInt

/-- A lane shifted by `s`: right with round half up, or left exactly (R98, R99). -/
def shiftLane (a : Int) (s : Int) : Int := if 0 < s then shrRound a s.toNat else a * 2 ^ (-s).toNat

/-- The store to a fixed exponent (R98). -/
def storeFixed (acc : Acc) (et : BitVec 8) : Stage × Events :=
  let s := et.toInt - acc.e.toInt + 23
  let r := acc.a.map (fun x => sat24 (shiftLane x.toInt s))
  (⟨r.map (·.1), et⟩, { sat := r.toList.any (·.2) })

/-- The number of redundant sign bits of an integer seen in `n` bits: the bits below the sign that equal it. -/
def signCount (n : Nat) (x : Int) : Nat :=
  let m := if x < 0 then (-x - 1).toNat else x.toNat
  if m = 0 then n - 1 else n - 2 - Nat.log2 m

/-- The normalising store (R99, R100). -/
def storeNorm (acc : Acc) : Stage × Events :=
  let xs := acc.a.map (·.toInt)
  if xs.toList.all (· == 0) then (⟨Lanes.fill 0, BitVec.ofInt 8 (-128)⟩, { zero := true })
  else
    let rmin := xs.toList.foldl (fun r x => min r (signCount 56 x)) 55
    let s0 : Int := 32 - rmin
    let s := if xs.toList.any (fun x => shiftLane x s0 == 2 ^ 23) then s0 + 1 else s0
    let e := acc.e.toInt + s - 23
    if 127 < e then
      (⟨xs.map (fun x => mant (if x < 0 then -(2 ^ 23) else 2 ^ 23 - 1)), 127#8⟩, { sat := true, eclamp := true })
    else if e < -128 then
      (⟨xs.map (fun x => mant (shiftLane x (s + (-128 - e)))), BitVec.ofInt 8 (-128)⟩, { eclamp := true })
    else (⟨xs.map (fun x => mant (shiftLane x s)), BitVec.ofInt 8 e⟩, .none)

/-- A real number `n / d * 2^k` (with `d` positive) as a value word: a 24-bit mantissa at the smallest exponent at which
it fits, rounded half up (R224, R148); 0 is 0x0000_0080. -/
def normWord (n : Int) (d : Nat) (k : Int) : Word :=
  if n = 0 then 0x00000080#32
  else
    let step (e : Int) : Int :=
      -- m = n / d * 2^(k + 23 - e)
      let t := k + 23 - e
      if 0 ≤ t then divRound (n * 2 ^ t.toNat) d else divRound n (d * 2 ^ (-t).toNat)
    let fits (m : Int) : Bool := -(2 ^ 23) ≤ m && m ≤ 2 ^ 23 - 1
    let size : Int := (Nat.log2 (n.natAbs / d + 1) : Int)
    let base : Int := if n.natAbs < d then -(Nat.log2 (d / n.natAbs) : Int) else size
    let e0 := k + base - 2
    let pick (c : List Int) : Int := (c.find? (fun e => fits (step e))).getD (e0 + 4)
    let e := pick [e0, e0 + 1, e0 + 2, e0 + 3]
    if 127 < e then Word.ofME (if n < 0 then -(2 ^ 23) else 2 ^ 23 - 1) 127
    else if e < -128 then Word.ofME (step (-128)) (-128)
    else Word.ofME (step e) e

/-- The number that a value word stands for times `2^k`, rounded half up (R9, R148, R163). -/
def vwScale (w : Word) (num den : Nat) (k : Int) : Int :=
  let t := w.expo - 23 + k
  if 0 ≤ t then divRound (w.mant * num * 2 ^ t.toNat) den else divRound (w.mant * num) (den * 2 ^ (-t).toNat)

/-- Value words compared as numbers: `a < b` (R148). -/
def vwLt (a b : Word) : Bool :=
  let e := min a.expo b.expo
  decide (a.mant * 2 ^ (a.expo - e).toNat < b.mant * 2 ^ (b.expo - e).toNat)

/-- `a ≤ b` for value words. -/
def vwLe (a b : Word) : Bool := !(vwLt b a)

/-- The sign test of a value word: 0, positive or negative. -/
def vwSign (w : Word) : Int := if w.mant = 0 then 0 else if w.mant < 0 then -1 else 1

/-- The exact sum of two value words, as a numerator at a power of two. -/
def vwSum (a b : Word) : Int × Int :=
  let e := min a.expo b.expo
  (a.mant * 2 ^ (a.expo - e).toNat + b.mant * 2 ^ (b.expo - e).toNat, e - 23)

/-- The exact comparison `a + b ≤ c` or `<` of value words, for thresholds with a hysteresis (R138). -/
def vwSumLe (a b c : Word) : Bool :=
  let s := vwSum a b
  let t := c.expo - 23
  let e := min s.2 t
  decide (s.1 * 2 ^ (s.2 - e).toNat ≤ c.mant * 2 ^ (t - e).toNat)

/-- A value word negated exactly; the most negative mantissa takes the next exponent. -/
def vwNeg (w : Word) : Word :=
  if w.mant = -(2 ^ 23) then Word.ofME (2 ^ 22) (w.expo + 1) else Word.ofME (-w.mant) w.expo

/-- A value word's magnitude. -/
def vwAbs (w : Word) : Word := if w.mant < 0 then vwNeg w else w

/-- A number stored at the exponent `e` (R98): value `n * 2^k`, saturated. -/
def storeWord (n : Int) (k e : Int) : Word × Bool :=
  let t := k + 23 - e
  let m := if 0 ≤ t then n * 2 ^ t.toNat else shrRound n (-t).toNat
  let r := satBits 24 m
  (Word.ofME r.1 e, r.2)

/-! ### DSP filters -/

/-- One biquad section on one lane (R103): coefficients b0 b1 b2 c1 c2, the shift, the states x1 x2 y1 y2 and the input. -/
def biquad (b0 b1 b2 c1 c2 : BitVec 24) (k : Nat) (x x1 x2 y1 y2 : BitVec 24) : BitVec 24 × Bool :=
  let acc := prod b0 x + prod b1 x1 + prod b2 x2 + prod c1 y1 + prod c2 y2
  sat24 (shrRound acc (23 - k))

/-- One FIR output on one lane: every tap in one accumulator, stored with shift 0 (R104). -/
def fir : List (BitVec 24 × BitVec 24) → Int → Int
  | [], acc => acc
  | (c, x) :: r, acc => fir r (acc + prod c x)

/-! ### Transforms -/

/-- A complex point of a transform. -/
structure Cpx where
  re : Int
  im : Int
  deriving DecidableEq, Repr

/-- Component sums of complex points. -/
def Cpx.add (a b : Cpx) : Cpx := ⟨a.re + b.re, a.im + b.im⟩
/-- Component differences. -/
def Cpx.sub (a b : Cpx) : Cpx := ⟨a.re - b.re, a.im - b.im⟩
/-- A point multiplied by j. -/
def Cpx.mulJ (a : Cpx) : Cpx := ⟨-a.im, a.re⟩
/-- A point multiplied by -j. -/
def Cpx.mulNJ (a : Cpx) : Cpx := ⟨a.im, -a.re⟩
/-- The exact product with a twiddle: Q2.46 components (R105). -/
def Cpx.mul (a w : Cpx) : Cpx := ⟨a.re * w.re - a.im * w.im, a.re * w.im + a.im * w.re⟩
/-- A point with unit weight W^0 at Q2.46. -/
def Cpx.up (a : Cpx) : Cpx := ⟨a.re * 2 ^ 23, a.im * 2 ^ 23⟩

/-- The multiplication by a twiddle of index `k` out of `n`: W^0 exact, others by the table (R105). -/
def twMul (tw : List Cpx) (a : Cpx) (k : Nat) : Cpx :=
  if k = 0 then a.up else a.mul (nthD ⟨0, 0⟩ tw k)

/-- A butterfly output rounded to 24 bits once (R105). -/
def bfOut (a : Cpx) : Cpx × Bool :=
  let r := satBits 24 (shrRound a.re 23)
  let i := satBits 24 (shrRound a.im 23)
  (⟨r.1, i.1⟩, r.2 || i.2)

/-- The shift before a stage: `max(0, G - r)` over every component (R106). -/
def stageShift (pts : List Cpx) (g : Nat) : Nat :=
  let r := pts.foldl (fun r p => min r (min (signCount 24 p.re) (signCount 24 p.im))) 23
  g - r

/-- Every component shifted right with round half up. -/
def shiftPts (pts : List Cpx) (s : Nat) : List Cpx := pts.map (fun p => ⟨shrRound p.re s, shrRound p.im s⟩)

/-- A decimation-in-time sub-transform combined from two halves: outputs k and k + h. -/
def radix2 (tw : List Cpx) (step : Nat) (a b : List Cpx) : List (Cpx × Bool) :=
  let pairs := a.zip b
  let t := pairs.mapIdx (fun k p => (p.1.up, twMul tw p.2 (k * step)))
  t.map (fun p => bfOut (p.1.add p.2)) ++ t.map (fun p => bfOut (p.1.sub p.2))

/-- Four sub-transforms combined: outputs k, k + h, k + 2h, k + 3h, the direction giving the sign of j. -/
def radix4 (tw : List Cpx) (step : Nat) (inverse : Bool) (a b c d : List Cpx) : List (Cpx × Bool) :=
  let rows := (a.zip b).zip (c.zip d)
  let t := rows.mapIdx (fun k r =>
    (r.1.1.up, twMul tw r.1.2 (k * step), twMul tw r.2.1 (2 * k * step), twMul tw r.2.2 (3 * k * step)))
  let rot (x : Cpx) : Cpx := if inverse then x.mulJ else x.mulNJ
  let o0 := t.map (fun (a, b, c, d) => bfOut ((a.add c).add (b.add d)))
  let o1 := t.map (fun (a, b, c, d) => bfOut ((a.sub c).add (rot (b.sub d))))
  let o2 := t.map (fun (a, b, c, d) => bfOut ((a.add c).sub (b.add d)))
  let o3 := t.map (fun (a, b, c, d) => bfOut ((a.sub c).sub (rot (b.sub d))))
  o0 ++ o1 ++ o2 ++ o3

/-- Groups of `n` consecutive elements, at most `k` groups. -/
def groups {α : Type} (n : Nat) : Nat → List α → List (List α)
  | 0, _ => []
  | k + 1, l => l.take n :: groups n k (l.drop n)

/-- The four-way groups of sub-transforms. -/
def quads {α : Type} : List (List α) → List (List α × List α × List α × List α)
  | a :: b :: c :: d :: r => (a, b, c, d) :: quads r
  | _ => []

/-- The two-way groups of sub-transforms. -/
def duos {α : Type} : List (List α) → List (List α × List α)
  | a :: b :: r => (a, b) :: duos r
  | _ => []

/-- One stage: the input shifted, the butterflies, and the events (R105, R106). -/
def fftStage (n : Nat) (tw : List Cpx) (inverse r2 : Bool) (h : Nat) (pts : List Cpx) (e : Int) (sat : Bool) :
    List Cpx × Int × Bool :=
  let sh := stageShift pts (if r2 then 2 else 3)
  let x := shiftPts pts sh
  let subs := groups h (n / h) x
  let out := if r2 then (duos subs).flatMap (fun (a, b) => radix2 tw (n / (2 * h)) a b)
    else (quads subs).flatMap (fun (a, b, c, d) => radix4 tw (n / (4 * h)) inverse a b c d)
  (out.map (·.1), e + sh, sat || out.any (·.2))

/-- The radix-4 stages, `k` of them, from sub-transforms of length `h`. -/
def fftStages (n : Nat) (tw : List Cpx) (inverse : Bool) : Nat → Nat → List Cpx → Int → Bool → List Cpx × Int × Bool
  | 0, _, pts, e, sat => (pts, e, sat)
  | k + 1, h, pts, e, sat =>
    let r := fftStage n tw inverse false h pts e sat
    fftStages n tw inverse k (4 * h) r.1 r.2.1 r.2.2

/-- The base-4 digits of `x`, `q` of them, in reverse order above `acc`. -/
def digitRev : Nat → Nat → Nat → Nat
  | 0, _, acc => acc
  | q + 1, x, acc => digitRev q (x / 4) (acc * 4 + x % 4)

/-- The index of the input point read into place `j`: the base-4 digits of the place reversed; with an odd number of
bits the place's lowest bit is the index's highest digit, the radix-2 stage being first (R105). -/
def readIndex (q : Nat) (odd : Bool) (j : Nat) : Nat :=
  if odd then digitRev q (j / 2) 0 + j % 2 * 4 ^ q else digitRev q j 0

/-- A complex transform of `2^p` points in natural order (R105, R106): the points, the block exponent, and whether a
butterfly output saturated. `tw` lists the twiddles W^0 to W^(N-1) of the direction. -/
def transform (p : Nat) (inverse : Bool) (tw : List Cpx) (pts : List Cpx) (e : Int) : List Cpx × Int × Bool :=
  let n := 2 ^ p
  let q := p / 2
  let odd := p % 2 == 1
  let start := (List.range n).map (fun j => nthD ⟨0, 0⟩ pts (readIndex q odd j))
  if odd then
    let r := fftStage n tw inverse true 1 start e false
    fftStages n tw inverse q 2 r.1 r.2.1 r.2.2
  else fftStages n tw inverse q 1 start e false

/-- The square root of `num / den` rounded half up (R9). -/
def rootRound (num den : Nat) : Nat := (isqrt (4 * num / den) + 1) / 2

/-- The square root of `num / den` rounded half up is the whole of `2^64 / √3` here: the factor of the Clarke transform. -/
def invSqrt3 : Nat := rootRound (2 ^ 128) 3

end Sys2Proof.Machine
end

