-- ==== Sys2Proof/Machine/Feedback.lean ====
section
/-! DEFINITION. The feedback channels as functions of their own state and their registers (R214-R234): edge decoding,
the speed state, the index latch and its check, the serial word and its CRC-8, the remote block, the QERR window. -/

namespace Sys2Proof.Machine

/-- The filter of a line (R216, R217): a level held for `run` samples passes when they are more than FILT_N; a shorter run leaves the
output as it was. -/
def filtered (filt : Nat) (old level : Bool) (run : Nat) : Bool := if filt < run then level else old

/-- The filtered pair AB after runs of the two lines that began in one clock (R216): `runA` and `runB` samples at the levels `ab`. -/
def filteredAB (filt : Nat) (old ab : BitVec 2) (runA runB : Nat) : BitVec 2 :=
  BitVec.ofNat 2 (2 * bitNat (filtered filt (old.getLsbD 1) (ab.getLsbD 1) runA) +
    bitNat (filtered filt (old.getLsbD 0) (ab.getLsbD 0) runB))

/-- The place of a pair AB in the forward sequence 00, 10, 11, 01 (R218). -/
def abPlace (ab : BitVec 2) : Nat :=
  match ab.toNat with
  | 0 => 0
  | 2 => 1
  | 3 => 2
  | _ => 3

/-- A change of AB as counts: +1, -1, or none for a change of both lines; `rev` exchanges the senses (R218). -/
def decodeAB (old new : BitVec 2) (rev : Bool) : Option Int :=
  let d := (abPlace new + 4 - abPlace old) % 4
  match d with
  | 1 => some (if rev then -1 else 1)
  | 3 => some (if rev then 1 else -1)
  | _ => none

/-- The speed state at an edge (R224): `still` in ns. -/
def Enc.edge (c : Enc) (t : U64) (d : Int) (still : Nat) : Enc :=
  let gap := (t - c.tLast).toNat
  let c := { c with idxReversal := c.idxReversal || (!c.noEdge && d != c.dLast) }
  if c.noEdge ∨ still ≤ gap ∨ d ≠ c.dLast then
    { c with spState := .starting, vEdge := 0, tLast := t, dLast := d, noEdge := false, total := c.total + d }
  else { c with spState := .moving, vEdge := gap, tLast := t, dLast := d, total := c.total + d }

/-- A filtered change of A or B in one clock (R218). -/
def Enc.abChange (c : Enc) (ab : BitVec 2) (t : U64) (rev : Bool) (still : Nat) : Enc :=
  if ab = c.ab then c
  else
    match decodeAB c.ab ab rev with
    | some d => { (c.edge t d still) with ab := ab }
    | none =>
      { c with ab := ab, qerrTotal := satAdd 0xFFFF c.qerrTotal 1, qerrNow := c.qerrNow + 1, qerrFlag := true }

/-- The speed word of `d * 10^9 / ns` counts per second (R224, R148). -/
def speedWord (d : Int) (ns : Nat) : Word := if ns = 0 then 0x00000080#32 else normWord (d * 10 ^ 9) ns 0

/-- The speed reported at a sample (R224). -/
def Enc.speedAt (c : Enc) (ts : U64) (still : Nat) : SpeedSt × Word :=
  let gap := (ts - c.tLast).toNat
  if c.noEdge ∨ still ≤ gap then (.standstill, 0x00000080#32)
  else if c.spState = .starting then (.starting, 0x00000080#32)
  else if c.vEdge = 0 then (c.spState, 0x00000080#32)
  else (c.spState, speedWord c.dLast (max c.vEdge gap))

/-- The QERR window advanced by one passage with `k` new errors (R221). -/
def windowStep (w : Option QWindow) (k : Nat) : Option QWindow :=
  match w with
  | none => if 0 < k then some ⟨1, k, false⟩ else none
  | some x => some { x with passages := x.passages + 1, count := x.count + k }

/-- The latch of a passage (R220, R221): the sample, and the passage's errors into the window. -/
def Enc.latch (c : Enc) (ts : U64) (passage : Word) (still : Nat) (qWindow : Nat) : Enc :=
  let sp := c.speedAt ts still
  let quiet := if 0 < c.qerrNow then 0 else c.qerrQuiet + 1
  { c with
    sTotal := c.total, sStamp := ts, sPassage := passage, spState := sp.1, speed := sp.2
    window := windowStep c.window c.qerrNow
    qerrNow := 0
    qerrQuiet := quiet
    ended := if c.fault == 1 then decide (qWindow ≤ quiet) else c.ended
    idxThis := false }

/-- A feedback fault latched with its cause; a later cause replaces the reported one (R234). -/
def Enc.raise (c : Enc) (cause : Nat) : Enc := { c with fault := cause, ended := false }

/-- A rising filtered index edge (R222, R223), after the A or B edge of its clock. -/
def Enc.index (c : Enc) (t : U64) (check : Bool) (cpr tol : Nat) : Enc :=
  let c1 := { c with
    idxCount := c.idxCount + 1
    idxTotal := if c.idxThis then c.idxTotal else c.total
    idxStamp := if c.idxThis then c.idxStamp else t
    idxSeq := if c.idxThis then c.idxSeq else c.idxSeq + 1
    idxThis := true
    idxPrev := some c.total
    idxReversal := false }
  match c.idxPrev with
  | none => c1
  | some prev =>
    if !check || c.idxReversal then c1
    else
      let d := (c.total - prev).natAbs
      let off := if cpr ≤ d then d - cpr else cpr - d
      if tol < off then c1.raise 2
      else { c1 with ended := c1.ended || c1.fault == 2 }

/-- POS of a total: TOTAL mod CPR (R214); a CPR of 0, which no commit accepts, leaves the total. -/
def posOf (total : Int) (cpr : Nat) : Nat := if cpr = 0 then total.natAbs else (total % cpr).toNat

/-- WRAPS of a total: the floor of TOTAL / CPR (R214). -/
def wrapsOf (total : Int) (cpr : Nat) : Int := if cpr = 0 then 0 else total / cpr

/-- One bit shifted into the CRC-8 of R228. -/
def crc8Bit (c : BitVec 8) (b : Bool) : BitVec 8 :=
  let top := c.getLsbD 7 ^^ b
  let s := c <<< 1
  if top then s ^^^ 0x07#8 else s

/-- The CRC-8 of the `n` low bits of a number, most significant first (R228). -/
def crc8 (v : Nat) : Nat → BitVec 8 → BitVec 8
  | 0, c => c
  | n + 1, c => crc8 v n (crc8Bit c (v.testBit n))

/-- A Gray-coded number of `n` bits converted to binary. -/
def grayToBin (g : Nat) : Nat → Nat
  | 0 => g
  | n + 1 => grayToBin (g ^^^ (g >>> (2 ^ n))) n

/-- What a serial word gives: a failure by its LAST_ERR number (R229), or the position with the warning bit. -/
inductive SerialWord
  | fail (err : Nat) (warn : Bool)
  | pos (p : Nat) (warn : Bool)
  deriving DecidableEq, Repr

/-- The number of samples, the first most significant. -/
def samplesNat (l : List Bool) : Nat := l.foldl (fun n b => 2 * n + bitNat b) 0

/-- The place of the start bit: how many samples that read 0 come before the first that reads 1 (R227). -/
def startBit : List Bool → Option Nat
  | [] => none
  | b :: r => if b then some 0 else (startBit r).map (· + 1)

/-- The word that a port has received by its hand-over (R225-R227, R229): `edge0` is SDATA at falling edge 0, `samples` are those at
edges 1 and on, taken SAMPLE_DLY after each; the first edge lies `first` ns after passage start. None for a timeout: incomplete at
`deadline` ns, SDATA low at edge 0 in SSI, or no start bit by START_TO. -/
def serialReceived (cfg clk : Word) (deadline first : Nat) (edge0 : Bool) (samples : List Bool) : Option Nat :=
  let p := (clk.bits 0 10 + 1) * 10
  let complete (edge : Nat) : Bool := decide (edge ≤ samples.length) && decide (first + edge * p + clk.bits 24 8 * 5 ≤ deadline)
  if cfg.bit 31 then
    match startBit samples with
    | none => none
    | some k =>
      if k + 1 ≤ cfg.bits 0 4 ∧ complete (k + 49) = true then some (samplesNat ((samples.drop (k + 1)).take 48)) else none
  else
    let n := cfg.bits 22 6
    if edge0 && complete n then some (samplesNat (samples.take n)) else none

/-- A received word read by its format (R226, R227), its first sample the most significant of BITS (SSI) or of 48; none for a
timeout. -/
def serialWord (cfg : Word) (word : Option Nat) : SerialWord :=
  match word with
  | none => .fail 1 false
  | some bits =>
    let posBits := cfg.bits 16 6
    if cfg.bit 31 then
      if (crc8 (bits / 256) 40 0).toNat ≠ bits % 256 then .fail 2 false
      else if bits.testBit 15 then .fail 3 (bits.testBit 14)
      else .pos (bits / 2 ^ 16 % 2 ^ posBits) (bits.testBit 14)
    else
      let n := cfg.bits 22 6
      let sample (k : Nat) : Bool := bits.testBit (n - 1 - k)
      if cfg.bit 28 && (sample (cfg.bits 4 6) == cfg.bit 29) then .fail 3 false
      else
        let raw := bits / 2 ^ (n - cfg.bits 10 6 - posBits) % 2 ^ posBits
        .pos (if cfg.bit 30 then grayToBin raw 6 else raw) false

/-- The level of SCLK `dt` ns after falling edge 0, for a word whose last sample is at edge `n` (R225): it falls at each whole period of
`p` ns, rises at each half period, and stays high after the last sample, `dly` ns after edge `n`. -/
def sclkLevel (p dly n dt : Nat) : Bool := decide (n * p + dly < dt) || decide (p ≤ 2 * (dt % p))

/-- A difference modulo 2^r read as a signed value (R230). -/
def signedDiff (r : Nat) (x : Int) : Int :=
  let m := x % 2 ^ r
  if m < 2 ^ (r - 1) then m else m - 2 ^ r

/-- A failed serial word (R229). -/
def Ser.fail (c : Ser) (err : Nat) : Ser :=
  { c with age := satAdd 15 c.age 1, fails := satAdd 0xFFFF c.fails 1, failRun := c.failRun + 1, lastErr := err,
           since := c.since + 1 }

/-- A word handed over at DEADLINE (R229, R230): `ns` is the passage period. -/
def Ser.hand (c : Ser) (w : SerialWord) (posBits jump ns : Nat) (ts : U64) (passage : Word) : Ser :=
  let c := { c with sPassage := passage, sStamp := ts }
  match w with
  | .fail e warn => ({ c with warns := c.warns + bitNat warn }).fail e
  | .pos p warn =>
    let c := { c with warns := c.warns + bitNat warn }
    match c.last with
    | none =>
      { c with total := p, last := some p, age := 0, since := 0, failRun := 0, speed := 0x00000080#32,
               spState := .standstill, ended := c.ended || c.fault == 3 }
    | some l =>
      let d := signedDiff posBits ((p : Int) - l)
      if jump < d.natAbs then c.fail 4
      else
        { c with total := c.total + d, last := some p, age := 0, since := 0, failRun := 0
                 speed := normWord (d * 10 ^ 9) ((c.since + 1) * ns) 0
                 spState := if d = 0 then .standstill else .moving
                 ended := c.ended || c.fault == 3 }

/-- The speed of a fresh remote block in MODE 0 (R233). -/
def remEdgeSpeed (tLast tPrev flags still : Nat) : SpeedSt × Word :=
  if still ≤ tLast then (.standstill, 0x00000080#32)
  else if !(flags.testBit 4) || decide (still ≤ tPrev) then (.starting, 0x00000080#32)
  else (.moving, speedWord (if flags.testBit 5 then -1 else 1) (max tPrev tLast))

/-- The QERR count of a passage: into the window, the total and the passages without an error (R221, R233, R234). -/
def Rem.errors (c : Rem) (k qWindow : Nat) : Rem :=
  let quiet := if 0 < k then 0 else c.qerrQuiet + 1
  { c with
    qerrTotal := satAdd 0xFFFF c.qerrTotal k
    qerrQuiet := quiet
    window := windowStep c.window k
    ended := if c.fault == 1 then decide (qWindow ≤ quiet) else c.ended }

/-- A passage of a remote channel without a fresh record: the record's age (R233). -/
def Rem.stale (c : Rem) (age qWindow : Nat) (passage : Word) (start : U64) : Rem :=
  { (c.errors 0 qWindow) with age := age, since := c.since + 1, sPassage := passage, sStamp := start }

/-- A fresh 16-byte feedback block (R231, R233): `still` in ns, `diff` for MODE 1, `ns` the passage period. The QERR difference
counts in every fresh block after the first valid one (log 11). -/
def Rem.block (c0 : Rem) (blk : List Byte) (diff : Bool) (still ns qWindow : Nat) (passage : Word) (start : U64) : Rem :=
  let flags := fieldLE blk 15 1
  let q := BitVec.ofNat 8 (fieldLE blk 14 1)
  let errs := if c0.last.isNone then 0 else (q - c0.qerrLast).toNat
  let c := { (c0.errors errs qWindow) with sPassage := passage, sStamp := start, qerrLast := q }
  if !(flags.testBit 7) || flags.testBit 6 then
    { c with age := satAdd 15 c.age 1, since := c.since + 1, fault := 4, ended := false }
  else
    let posLow := BitVec.ofNat 32 (fieldLE blk 0 4)
    let delta : Int := match c.last with
      | none => 0
      | some l => (posLow - l).toInt
    let total := if c.last.isNone then posLow.toInt else c.total + delta
    let sp : SpeedSt × Word :=
      if diff then
        if c.last.isNone || delta == 0 then (.standstill, 0x00000080#32)
        else (.moving, normWord (delta * 10 ^ 9) ((c.since + 1) * ns) 0)
      else remEdgeSpeed (fieldLE blk 4 4) (fieldLE blk 8 4) flags still
    let idx := flags.testBit 3
    let idxDelta := signedDiff 16 ((fieldLE blk 12 2 : Int) - (posLow.toNat % 2 ^ 16 : Nat))
    { c with
      total := total, last := some posLow, age := 0, since := 0, speed := sp.2, spState := sp.1
      sw := BitVec.ofNat 3 flags
      idxTotal := if idx then total + idxDelta else c.idxTotal
      idxSeq := if idx then c.idxSeq + 1 else c.idxSeq
      ended := c.ended || c.fault == 4 }

end Sys2Proof.Machine
end

