-- ==== Sys2Proof/Config.lean ====
section
/-! DEFINITION. What an implementation fixes and the free values: constants without a body, of which no proof can see a
value (notes/assumptions/1, 2). -/

namespace Sys2Proof

/-- The free values: what the spec leaves open, one for each step that needs one (log 1). A value is taken at the state's
counter `freeCtr`, which advances, so no two uses share one. -/
opaque Config.free : Nat → U64

/-- The content of a slot image that the timetable format does not lay out: wiring, block layouts, serial deadlines (log 2;
R112, R121, R229). -/
opaque Config.imageWiring : List Byte → Machine.Wiring

/-- SHA-256 (R537, R544), taken as a function without stated properties (log 3). -/
opaque Config.sha256 : List Byte → BitVec 256

/-- Ed25519 verification of a signature by a public key over bytes (R543, R544), without stated properties (log 3). -/
opaque Config.verifies : (key : List Byte) → (message : List Byte) → (signature : List Byte) → Bool

/-- The Ed25519 signature of bytes under the attestation key pair with a public key (R553), without stated properties
(log 3). -/
opaque Config.sign : (key : BitVec 256) → (message : List Byte) → List Byte

/-- Whether a state record's outputs are those that the BELAY computes from it (R450): the record's word 17 has no layout in
the spec (log 4). -/
opaque Config.reproduces : (record : List Byte) → Bool

/-- Bits [127:32] of the serial of the rope peer whose bits [31:0] are given: no rope frame carries them (R447, R468; log
20). -/
opaque Config.peerSerialHigh : Word → BitVec 96

/-- The strap preference that a rope peer's heartbeat shows (R462): no field of its 52 bytes is laid out for it (R447; log
49). -/
opaque Config.strapShown : (heartbeat : List Byte) → Nat

/-- How far the sine and the cosine of the frame stages lie from the rounded true values (R114: within 2 LSB of Q1.23), by the
angle in units of 2^-32 of a turn; only its remainder by 3 is used (log 116). -/
opaque Config.frameSlip : Nat → Nat × Nat

/-- The uncertainty in ns of a member's clock a number of raw ns after its latest valid header (R257; log 123). -/
opaque Config.clockUncertainty : Nat → Nat

/-- Byte `j` of the 288-byte entry of a queued head-to-node frame, of a node, a PROTO and a payload (R280; log 122). -/
opaque Config.queuedByte : (node proto : Nat) → (payload : List (BitVec 8)) → (j : Nat) → BitVec 8

end Sys2Proof
end

