-- ==== Sys2Proof/Machine/Trig.lean ====
section
/-! DEFINITION. The fixed tables of the units: sine at 128 fraction bits by its power series, the quarter-wave table and
the SINCOS interpolation of R382, and the twiddles of R105. -/

namespace Sys2Proof.Machine

/-- The whole part of π times 2^128. -/
def piFix : Nat := 1069028584064966747859680373161870783301

/-- The terms of the sine series: `term` is the present term at 128 fraction bits, `x2` the squared argument. -/
def sinSeries (x2 : Int) : Nat → Nat → Int → Int → Int
  | 0, _, _, acc => acc
  | fuel + 1, k, term, acc =>
    let next := -(term * x2) / (2 ^ 128 * ((k + 1) * (k + 2)))
    sinSeries x2 fuel (k + 2) next (acc + next)

/-- The sine of `num / den` of a quarter turn, at 128 fraction bits, for `num ≤ den`. -/
def sinQuarter (num den : Nat) : Int :=
  let x : Int := (piFix * num / (2 * den) : Nat)
  sinSeries (x * x / 2 ^ 128) 24 1 x x

/-- The sine of `num / den` of a turn at `bits` fraction bits, rounded half up (R105, R382). -/
def sinTurn (num den bits : Nat) : Int :=
  let n := num % den
  let quad := 4 * n / den
  let rest := 4 * n % den
  let v := match quad with
    | 0 => sinQuarter rest den
    | 1 => sinQuarter (den - rest) den
    | 2 => -(sinQuarter rest den)
    | _ => -(sinQuarter (den - rest) den)
  shrRound v (128 - bits)

/-- The quarter-wave table of R382: `T[j] = 2^22 sin(π j / 2048)` rounded half up. -/
def quarterTable (j : Nat) : Int := if j = 1024 then 2 ^ 22 else sinTurn j 4096 22

/-- The interpolated quarter wave `S(y)` of R382, for `y` up to 2^30. -/
def quarterWave (y : Nat) : Int :=
  let j : Nat := y / 2 ^ 20
  let f : Nat := y % 2 ^ 20
  if 1024 ≤ j then quarterTable 1024
  else
    let t := quarterTable j
    t + ((quarterTable (j + 1) - t) * f + 2 ^ 19) / 2 ^ 20

/-- The sine and cosine of `a` times 2^-32 of a turn, in units of 2^-22 (R382). -/
def sinCos (a : Word) : Int × Int :=
  let b := a.toNat % 2 ^ 30
  let s := quarterWave b
  let c := quarterWave (2 ^ 30 - b)
  match a.toNat / 2 ^ 30 with
  | 0 => (s, c)
  | 1 => (c, -s)
  | 2 => (-s, -c)
  | _ => (-c, s)

/-- The twiddles W^0 to W^(N-1): exp of minus (forward) or plus (inverse) j 2π k / N at 23 fraction bits (R105). -/
def twiddles (n : Nat) (inverse : Bool) : List Cpx :=
  (List.range n).map (fun k =>
    let s := sinTurn k n 23
    ⟨sinTurn (k + n / 4) n 23, if inverse then s else sinTurn (n - k) n 23⟩)

end Sys2Proof.Machine
end

