-- ==== Sys2Proof/Machine/Law.lean ====
section
/-! DEFINITION. The control law of a servo instance as functions of its operands (R113-R137): the matrix products through
the coefficient reader, the innovations and their masking, the limits, the frames and the preset. -/

namespace Sys2Proof.Machine

/-- An exact real `n / d * 2^k`, with `d` positive: an input of the law before it is scaled into its stage. -/
structure Exact where
  n : Int
  d : Nat
  k : Int
  deriving DecidableEq, Repr

/-- The real of a value word (R148). -/
def Exact.ofWord (w : Word) : Exact := ⟨w.mant, 1, w.expo - 23⟩

/-- An exact product. -/
def Exact.mul (a b : Exact) : Exact := ⟨a.n * b.n, a.d * b.d, a.k + b.k⟩

/-- A real at a stage exponent, rounded half up and saturated (R9, R98). -/
def Exact.store (x : Exact) (e : Int) : BitVec 24 × Bool :=
  let t := x.k + 23 - e
  sat24 (if 0 ≤ t then divRound (x.n * 2 ^ t.toNat) x.d else divRound x.n (x.d * 2 ^ (-t).toNat))

/-- A stage's lane as a real. -/
def stageLane (s : Stage) (k : Nat) : Exact := ⟨(s.m.get k).toInt, 1, s.e.toInt - 23⟩

/-- A stage's lane as a value word (R148). -/
def stageWord (s : Stage) (k : Nat) : Word := Word.ofME (s.m.get k).toInt s.e.toInt

/-- A store of the image's kind (R98, R99). -/
def storeAs : StoreKind → Acc → Stage × Events
  | .norm, a => storeNorm a
  | .fixed e, a => storeFixed a (BitVec.ofInt 8 e)

/-- The block `b` of a state vector; absent blocks are zero. -/
def vecBlock (x : List Stage) (b : Nat) : Stage := nthD Stage.zero x b

/-- Columns `j` and on of a matrix product accumulated: a coefficient word times one broadcast lane each (R95, R96). -/
def matColumns (coef : Nat → Stage) (base : Nat) (x : List Stage) : Nat → Nat → Option Acc → Option Acc
  | 0, _, acc => acc
  | n + 1, j, acc =>
    let c := coef (base + j)
    let b := vecBlock x (j / 8)
    let p := c.m.map (fun m => prod m (b.m.get j))
    let ep := c.e.toInt + b.e.toInt
    let acc' := match acc with
      | none => accClear p ep
      | some a => (accAdd a p ep).1
    matColumns coef base x n (j + 1) (some acc')

/-- Row block `rb` of a product with `cols` columns, added to what stands in the accumulator. -/
def matRow (coef : Nat → Stage) (w : MatWire) (cols rb : Nat) (x : List Stage) (acc : Option Acc) : Option Acc :=
  matColumns coef (w.off + rb * cols) x cols 0 acc

/-- The accumulator, or the cleared one. -/
def accOr (a : Option Acc) : Acc := a.getD Acc.zero

/-- A stage added exactly to an accumulator (R379, ADDA). -/
def addStage (a : Option Acc) (s : Stage) : Acc :=
  let p := s.m.map (fun m => m.toInt * 2 ^ 23)
  match a with
  | none => accClear p s.e.toInt
  | some x => (accAdd x p s.e.toInt).1

/-- An accumulator negated, lane by lane, with saturation (R97). -/
def negAcc (a : Acc) : Acc := { a with a := a.a.map (fun x => (satAcc (-x.toInt)).1) }

/-- A product's row blocks stored as stages. -/
def matVec (coef : Nat → Stage) (w : MatWire) (rows cols : Nat) (x : List Stage) : List Stage :=
  (List.range ((rows + 7) / 8)).map (fun rb => (storeAs w.store (accOr (matRow coef w cols rb x none))).1)

/-- The innovations: `y - C x_p`, with the entries of age 1 or more, and those beyond the law's, at 0 (R115, R117). -/
def innovations (coef : Nat → Stage) (w : LawWire) (xp : List Stage) (y : Stage) (ages : List Nat) : Stage :=
  let yhat := (storeAs w.c.store (accOr (matRow coef w.c w.states 0 xp none))).1
  let acc := addStage (some (negAcc (addStage none yhat))) y
  let e := (storeAs w.eStore acc).1
  { e with m := Lanes.gen (fun j => if j < w.meas ∧ nthD 1 ages j = 0 then e.m.get j else 0) }

/-- The corrected state `x_p + L e` (R115). -/
def corrected (coef : Nat → Stage) (w : LawWire) (xp : List Stage) (e : Stage) : List Stage :=
  (List.range ((w.states + 7) / 8)).map (fun rb =>
    (storeAs w.l.store (accOr (matRow coef w.l w.meas rb [e] (some (addStage none (vecBlock xp rb)))))).1)

/-- The output `-K x_c` (R115). -/
def lawOutput (coef : Nat → Stage) (w : LawWire) (xc : List Stage) : Stage :=
  (storeAs w.k.store (negAcc (accOr (matRow coef w.k w.states 0 xc none)))).1

/-- The prediction `A x_c + B u_sat` (R115). -/
def predicted (coef : Nat → Stage) (w : LawWire) (xc : List Stage) (u : Stage) : List Stage :=
  (List.range ((w.states + 7) / 8)).map (fun rb =>
    (storeAs w.a.store (accOr (matRow coef w.b w.outs rb [u] (matRow coef w.a w.states rb xc none)))).1)

/-- A stage of value words at one exponent (R98). -/
def stageOf (e : Int) (ws : List Word) : Stage :=
  ⟨Lanes.gen (fun j => match ws[j]? with
    | some w => ((Exact.ofWord w).store e).1
    | none => 0), BitVec.ofInt 8 e⟩

/-- A lane clamped to plus or minus a limit, both mantissas at one exponent. -/
def clampLane (m lim : Int) : Int × Bool :=
  if lim < m then (lim, true) else if m < -lim then (-lim, true) else (m, false)

/-- Limit 1 on the outputs that do not drive the voltages: each clamped to its limit (R120, R122, R136). -/
def clampOutputs (u : Stage) (lims : List (Option Word)) : Stage × Bool :=
  let r := Lanes.gen (fun j => match nthD none lims j with
    | some w => clampLane (u.m.get j).toInt ((Exact.ofWord (vwAbs w)).store u.e.toInt).1.toInt
    | none => ((u.m.get j).toInt, false))
  ({ u with m := r.map (fun x => mant x.1) }, r.toList.any (·.2))

/-- The voltage circle of R123 on lanes 0 (v_d) and 1 (v_q): `V_max = MOD_LIMIT * 0.001 * VBUS / √3`, VBUS in mV. -/
def voltageCircle (u : Stage) (modLimit vbus : Nat) : Stage × Bool :=
  -- the squares are in units of the stage's LSB, over the denominator 3 * 10^12
  let t := 2 * (23 - u.e.toInt)
  let x := modLimit * vbus
  let den0 : Nat := 3 * 10 ^ 12
  let num := if 0 ≤ t then x * x * 2 ^ t.toNat else x * x
  let den := if 0 ≤ t then den0 else den0 * 2 ^ (-t).toNat
  let vd := clampLane (u.m.get 0).toInt (rootRound num den)
  let lim := rootRound (num - vd.1.natAbs * vd.1.natAbs * den) den
  let vq := clampLane (u.m.get 1).toInt lim
  ({ u with m := (u.m.set 0 (mant vd.1)).set 1 (mant vq.1) }, vd.2 || vq.2)

/-- The electrical angle of R114 in units of 2^-32 of a turn. -/
def elecAngle (pos cpr polePairs ofs : Nat) : Word :=
  BitVec.ofInt 32 (divRound ((pos * polePairs * 2 ^ 32 : Nat) : Int) cpr + ((ofs * 2 ^ 8 : Nat) : Int))

/-- The advance of the angle by the electrical speed over the delay (R112, R129): a value word in counts/s, ns, and the
counts of a revolution. -/
def angleAdvance (speed : Word) (polePairs delay cpr : Nat) : Word :=
  BitVec.ofInt 32 (vwScale speed (polePairs * delay) (cpr * 10 ^ 9) 32)

/-- The sine and cosine of the frame stages, in units of 2^-23 (R114): the true values rounded, and moved by at most one LSB, which
keeps them within 2 LSB; how they are moved is free (log 116). -/
def frameSinCos (angle : Word) : Int × Int :=
  let a := angle.toNat
  let slip := Config.frameSlip a
  (sinTurn a (2 ^ 32) 23 + ((slip.1 % 3 : Nat) - 1), sinTurn (a + 2 ^ 30) (2 ^ 32) 23 + ((slip.2 % 3 : Nat) - 1))

/-- Clarke and Park on the phase currents, as exact reals in A (R114): `i_d` and `i_q` from the Q1.23 fractions of I_FS. -/
def parkCurrents (ia ib : Int) (iFs : Word) (angle : Word) : Exact × Exact :=
  let sc := frameSinCos angle
  let alpha := ia * 2 ^ 64
  let beta := (ia + 2 * ib) * invSqrt3
  let fs : Exact := Exact.ofWord iFs
  let up (n : Int) : Exact := (⟨n, 1, -64 - 23 - 23⟩ : Exact).mul fs
  (up (alpha * sc.2 + beta * sc.1), up (beta * sc.2 - alpha * sc.1))

/-- The inverse Park transform of lanes 0 and 1, as fractions of V_FS in Q1.23 (R112, R125); `noScale` answers for a full
scale of 0, for which the spec states no fraction. -/
def invPark (u : Stage) (vFs : Word) (angle : Word) (noScale : BitVec 24 × BitVec 24) : BitVec 24 × BitVec 24 :=
  let sc := frameSinCos angle
  let d := (u.m.get 0).toInt
  let q := (u.m.get 1).toInt
  let frac (n : Int) (none' : BitVec 24) : BitVec 24 :=
    -- n * 2^(e - 23 - 23) / V_FS, at 23 fraction bits
    if vFs.mant ≤ 0 then none'
    else ((⟨n, vFs.mant.toNat, u.e.toInt - 23 - 23 - (vFs.expo - 23)⟩ : Exact).store 0).1
  (frac (d * sc.2 - q * sc.1) noScale.1, frac (d * sc.1 + q * sc.2) noScale.2)

/-- The preset of R137: each output's preset state moved so that the output equals the manual one. -/
def presetStates (coef : Nat → Stage) (ps : List (Option PresetWire)) (man : List Word) (u : Stage) :
    Nat → List Stage → List Stage
  | 0, xc => xc
  | n + 1, xc =>
    let xc' := presetStates coef ps man u n xc
    match nthD none ps n with
    | none => xc'
    | some w =>
      let blk := vecBlock xc' (w.state / 8)
      let e := blk.e.toInt
      let d := vwSum (nthD 0 man n) (vwNeg (stageWord u n))
      let g := stageLane (coef w.word) w.lane
      let add := (⟨d.1, 1, d.2⟩ : Exact).mul g
      -- the old mantissa and the correction on one power of two, rounded once at the block's exponent
      let k := min add.k (e - 23)
      let total := (blk.m.get w.state).toInt * 2 ^ (e - 23 - k).toNat + add.n * 2 ^ (add.k - k).toNat
      let m := ((⟨total, 1, k⟩ : Exact).store e).1
      setNth xc' (w.state / 8) { blk with m := blk.m.set w.state m }

/-- The filtered residual: `f + (|r| - f) * 2^-SHIFT` at the exponent of the threshold, rounded half up (R142). -/
def filterResidual (f r thresh : Word) (shift : Nat) : Word :=
  let d := vwSum (vwAbs r) (vwNeg f)
  let fe := f.expo - 23
  let k := min (d.2 - shift) fe
  let n := d.1 * 2 ^ (d.2 - shift - k).toNat + f.mant * 2 ^ (fe - k).toNat
  (storeWord n k thresh.expo).1

/-- The fixed application instant of R128: the first update instant of R124 at or after the ring-out horizon plus the
node's set-up time. -/
def applyInstant (period updates horizon setup : Nat) : Nat :=
  let t := horizon + setup
  ((List.range updates).map (fun k => k * period / updates)).foldr (fun x best => if t ≤ x then x else best) period

end Sys2Proof.Machine
end

