-- ==== Sys2Proof/Machine/AcqOps.lean ====
section
/-! DEFINITION. The acquisition block's own rules as functions: sample types and crossings (R327-R330), the trigger kinds
(R331, R332), slots (R336), the privileged record (R341-R343). -/

namespace Sys2Proof.Machine

/-- Whether a variable is a value word; the others are signed integers (R327). -/
def varIsValue (v : Nat) : Bool := !(v == 0 || v == 2 || v == 0xD || v == 0xE || v == 0xF)

/-- Whether an instance's kind produces a variable (R327). -/
def varAllowed (v kind : Nat) : Bool :=
  if kind = 1 then decide (v ≤ 0x27)
  else if kind = 2 then decide (v ≤ 3) || v == 0xD || v == 0xE || v == 0xF
  else false

/-- A sample or a threshold as an exact real (R327, R329). -/
def sampleReal (v : Nat) (w : Word) : Exact := if varIsValue v then Exact.ofWord w else ⟨w.toInt, 1, 0⟩

/-- Two exact reals with denominator 1 on one power of two. -/
def commonPair (a b : Exact) : Int × Int :=
  let k := min a.k b.k
  (a.n * 2 ^ (a.k - k).toNat, b.n * 2 ^ (b.k - k).toNat)

/-- `a < b` (R329). -/
def realLt (a b : Exact) : Bool := let p := commonPair a b; decide (p.1 < p.2)

/-- A threshold crossing between two samples: upward, its k of R330. -/
structure CrossAt where
  hi : Bool
  up : Bool
  k : Nat
  deriving DecidableEq, Repr

/-- The crossing of one threshold (R329, R330). -/
def crossing (hi : Bool) (l s0 s1 : Exact) : Option CrossAt :=
  let m := min l.k (min s0.k s1.k)
  let n (x : Exact) : Int := x.n * 2 ^ (x.k - m).toNat
  let a := n s0
  let b := n s1
  let t := n l
  if a < t ∧ t ≤ b then some ⟨hi, true, (divRound ((t - a) * 256) (b - a).toNat).toNat⟩
  else if t ≤ a ∧ b < t then some ⟨hi, false, (divRound ((a - t) * 256) (a - b).toNat).toNat⟩
  else none

/-- The crossings of an interval in order of time: LO before HI when rising, HI before LO when falling (R330). -/
def crossings (hi lo s0 s1 : Exact) : List CrossAt :=
  let h := crossing true hi s0 s1
  let l := crossing false lo s0 s1
  match h, l with
  | none, none => []
  | some x, none => [x]
  | none, some y => [y]
  | some x, some y => if x.up then [y, x] else [x, y]

/-- COND on a width (R331). -/
def condTest (cond w w1 w2 : Nat) : Bool :=
  match cond with
  | 0 => decide (w < w1)
  | 1 => decide (w1 < w)
  | 2 => decide (w1 ≤ w ∧ w ≤ w2)
  | 3 => decide (w < w1 ∨ w2 < w)
  | _ => true

/-- The settings of a trigger unit (R356). -/
structure TrgCfg where
  kind : Nat
  srcKind : Nat
  dir : Nat
  cond : Nat
  mark : Bool
  inv : Bool
  sel : Nat
  inst : Nat
  hi : Word
  lo : Word
  w1 : Nat
  w2 : Nat
  deriving DecidableEq, Repr

/-- Whether a transition to `active` at position `pos` fires an EDGE or a PULSE unit (R331). -/
def transitionFires (c : TrgCfg) (t : Trg) (active : Bool) (pos : Nat) : Bool :=
  match c.kind with
  | 0 => c.dir == 2 || (c.dir == 0) == active
  | 1 => match t.trans with
    | some p => ((c.dir == 0) == !active) && condTest c.cond (pos - p) c.w1 c.w2
    | none => false
  | _ => false

/-- A change of the level of an EVIO source (R329, R331): `tick` is its 2.5 ns sample on RAW, which the width of a pulse is
measured in, and `at'` its stamp in quarters of ns. -/
def Trg.levelChange (c : TrgCfg) (t : Trg) (active : Bool) (tick at' : Nat) : Trg × Bool :=
  if t.primed && t.cond == active then (t, false)
  else
    let fire := transitionFires c { t with trans := t.trans.map (fun _ => t.idx) } active tick
    ({ t with cond := active, primed := true, trans := some at', idx := tick, timedOut := false }, fire)

/-- One crossing taken by a numeric unit (R331): the unit, and whether it fires. -/
def Trg.cross (c : TrgCfg) (t : Trg) (x : CrossAt) (pos : Nat) : Trg × Bool :=
  let test (p : Option Nat) : Bool := match p with
    | some q => condTest c.cond (pos - q) c.w1 c.w2
    | none => false
  match x.hi, x.up with
  | false, true => ({ t with runtUp := some pos, slewUp := some pos }, false)
  | true, false => ({ t with runtDown := some pos, slewDown := some pos }, false)
  | true, true =>
    let fire := (c.kind == 2 && c.dir == 1 && test t.runtDown) || (c.kind == 4 && c.dir == 0 && test t.slewUp) ||
      (!t.cond && transitionFires c t true pos)
    let t := if t.cond then t else { t with cond := true, trans := some pos, timedOut := false }
    ({ t with runtUp := none, runtDown := none, slewDown := none }, fire)
  | false, false =>
    let fire := (c.kind == 2 && c.dir == 0 && test t.runtUp) || (c.kind == 4 && c.dir == 1 && test t.slewDown) ||
      (t.cond && transitionFires c t false pos)
    let t := if !t.cond then t else { t with cond := false, trans := some pos, timedOut := false }
    ({ t with runtUp := none, runtDown := none, slewUp := none }, fire)

/-- The crossings of one interval taken in order; the event times of the firings, in 0.25 ns units (R332). -/
def Trg.crossAll (c : TrgCfg) (i0 gap period : Nat) (s0 : U64) : List CrossAt → Trg → Trg × List U64
  | [], t => (t, [])
  | x :: r, t =>
    let pos := i0 * 256 + x.k * gap
    let y := t.cross c x pos
    let time := s0 * 4 + BitVec.ofInt 64 (divRound ((x.k * gap * period * 4 : Nat) : Int) 256)
    let z := Trg.crossAll c i0 gap period s0 r y.1
    (z.1, if y.2 then time :: z.2 else z.2)

/-- One numeric sample of a unit (R329-R333): the sample, whether it is stale, and the start of its passage. -/
def Trg.sample (c : TrgCfg) (t : Trg) (w : Word) (stale : Bool) (start : U64) (period : Nat) : Trg × List U64 :=
  let t := { t with idx := t.idx + 1 }
  if stale then ({ t with skipped := satAdd 0xFFFF t.skipped 1 }, [])
  else
    let s1 := sampleReal c.sel w
    let here := some (w, t.idx, start)
    match t.prev with
    | none => ({ t with prev := here, primed := true, cond := !realLt s1 (sampleReal c.sel c.hi) }, [])
    | some (w0, i0, st0) =>
      let r := Trg.crossAll c i0 (t.idx - i0) period st0
        (crossings (sampleReal c.sel c.hi) (sampleReal c.sel c.lo) (sampleReal c.sel w0) s1) t
      ({ r.1 with prev := here }, r.2)

/-- A firing entered into a unit (R334). -/
def Trg.fire (t : Trg) (mark : Bool) (time : U64) : Trg :=
  { t with count := t.count + 1, fired := true
           marks := if mark then t.marks + 1 else t.marks
           markTime := if mark && t.marks == 0 then time else t.markTime }

/-- Sample, mark and GAP slots (R336). -/
def sampleSlot (ch : Nat) (stale : Bool) (passage : Word) (value : Word) : List Byte :=
  [1, BitVec.ofNat 8 ch, BitVec.ofNat 8 (bitNat stale), 0] ++ bytesLE 4 passage.toNat ++ bytesLE 4 value.toNat ++ bytesLE 4 0
def markSlot (unit n : Nat) (passage : Word) (time : U64) : List Byte :=
  [2, BitVec.ofNat 8 unit] ++ bytesLE 2 (min 65535 n) ++ bytesLE 4 passage.toNat ++ bytesLE 8 time.toNat
def gapSlot (passage : Word) (passages slots : Nat) : List Byte :=
  [3, 0, 0, 0] ++ bytesLE 4 passage.toNat ++ bytesLE 4 passages ++ bytesLE 4 slots

/-- FILL (R339). -/
def Acq.fill (a : Acq) : Nat := (a.strWr - a.strRd - a.strDrop).toNat

/-- The samples a channel holds (R343). -/
def Priv.held (p : Priv) : Nat := p.written - p.dropped

/-- The books after `n` samples are written into a record of `len` (R343). -/
def Priv.wrote (p : Priv) (len n : Nat) : Priv :=
  let w := p.written + n
  { p with written := w, dropped := if len < w then w - len else 0
           postHeld := if p.st = .triggered then w - p.trigW else p.postHeld }

/-- Whether a channel takes another sample: armed, or triggered with POST not reached (R341, R342). -/
def Priv.writing (p : Priv) (post : Nat) : Bool :=
  match p.st with
  | .armed => true
  | .triggered => decide (p.written < p.trigW + post)
  | _ => false

/-- A stop with its cause (R342, R350, R357): PRE_HELD becomes the smallest of PRE, the samples before the trigger
sample, and LEN - POST_HELD. -/
def Priv.halt (p : Priv) (cause pre len : Nat) : Priv :=
  { p with st := .stopped, stop := cause, preHeld := min pre (min p.trigW (len - p.postHeld)) }

/-- A trigger accepted (R342): the trigger sample, TRIG_SUB, the event time and the passage of the decision. -/
def Priv.trigger (p : Priv) (w sub : Nat) (time : U64) (passage : Word) : Priv :=
  { p with st := .triggered, trigW := w, trigSub := sub, evTime := time, decision := passage, postHeld := p.written - w }

/-- The capacity in samples and the multiple of LEN for a mode (R340). -/
def modeLimits (mode : Nat) : Nat × Nat :=
  match mode with
  | 0 => (262144, 8)
  | 1 => (8388608, 256)
  | _ => (1048576, 32)

end Sys2Proof.Machine
end

