-- ==== Sys2Proof/Machine/Access.lean ====
section
/-! DEFINITION. Reading and writing the parts of the state by number: registers, memory words, axis instances, generators,
channels; and the running image's figures (period, mapping). -/

namespace Sys2Proof.Machine

/-! ### Registers -/

/-- The committed word of the register at a BAR0 offset. -/
def State.cfgW (s : State) (off : Nat) : Word := Tab.get 0 s.regs.cfg off

/-- The staged copy of a register: the committed word where nothing is staged (R134). -/
def State.stgW (s : State) (off : Nat) : Word := (Tab.get none s.regs.stg off).getD (s.cfgW off)

/-- The committed word written. -/
def State.setCfg (s : State) (off : Nat) (w : Word) : State :=
  { s with regs := { s.regs with cfg := Tab.put 0 s.regs.cfg off w } }

/-- The staged copy written. -/
def State.setStg (s : State) (off : Nat) (w : Word) : State :=
  { s with regs := { s.regs with stg := Tab.put none s.regs.stg off (some w) } }

/-- Staged copies committed, register by register: the copy becomes the value in use (R134). -/
def State.commitRegs (s : State) : List Nat → State
  | [] => s
  | o :: r =>
    let s1 := s.setCfg o (s.stgW o)
    State.commitRegs { s1 with regs := { s1.regs with stg := Tab.erase s1.regs.stg o } } r

/-! ### Memory -/

/-- The one canonical form of a memory: addresses strictly rising, and no byte 0, which an unlisted address reads as. -/
def Memory.wf (m : Mem) : Bool := Tab.wf 0 m

/-- The three memories, the SRAMs, MRAM and the host memory that the part has written, are in their one canonical form. -/
def State.memoryOk (s : State) : Bool := Memory.wf s.mem && Memory.wf s.store.mram && Memory.wf s.host.memory

/-- One byte of the fabric's memory (R64); an unlisted byte is 0. -/
def Mem.byte (m : Mem) (a : Nat) : Byte := Tab.get 0 m a

/-- One byte stored. -/
def Mem.setByte (m : Mem) (a : Nat) (b : Byte) : Mem := Tab.put 0 m a b

/-- `n` bytes from address `a`. -/
def Mem.bytes (m : Mem) (a : Nat) : Nat → List Byte
  | 0 => []
  | n + 1 => m.byte a :: Mem.bytes m (a + 1) n

/-- Bytes stored from address `a`. -/
def Mem.setBytes (m : Mem) (a : Nat) : List Byte → Mem
  | [] => m
  | b :: r => Mem.setBytes (m.setByte a b) (a + 1) r

/-- A little-endian 32-bit word. -/
def Mem.word (m : Mem) (a : Nat) : Word :=
  m.byte (a + 3) ++ m.byte (a + 2) ++ m.byte (a + 1) ++ m.byte a

/-- A little-endian 32-bit word stored. -/
def Mem.setWord (m : Mem) (a : Nat) (w : Word) : Mem :=
  (((m.setByte a (w.extractLsb' 0 8)).setByte (a + 1) (w.extractLsb' 8 8)).setByte
    (a + 2) (w.extractLsb' 16 8)).setByte (a + 3) (w.extractLsb' 24 8)

/-- A 256-bit memory word (R108), lane `k` at byte `4 k` (R90). -/
def Mem.line (m : Mem) (a : Nat) : Line :=
  Lanes.gen (fun k => m.word (a + 4 * k))

/-- A 256-bit memory word stored. -/
def Mem.setLine (m : Mem) (a : Nat) (l : Line) : Mem :=
  let m := ((m.setWord a l.l0).setWord (a + 4) l.l1).setWord (a + 8) l.l2
  let m := ((m.setWord (a + 12) l.l3).setWord (a + 16) l.l4).setWord (a + 20) l.l5
  (m.setWord (a + 24) l.l6).setWord (a + 28) l.l7

/-- The stage that a memory word holds: the mantissas in bits [31:8], the exponent of lane 0 (R90). -/
def stageOfLine (l : Line) : Stage := ⟨l.map (fun w => w.extractLsb' 8 24), l.l0.extractLsb' 0 8⟩

/-- The memory word of a stage: the exponent in all eight exponent bytes (R90). -/
def lineOfStage (s : Stage) : Line := s.m.map (fun m => m ++ s.e)

/-- The bytes of a memory word (R90). -/
def lineBytes (l : Line) : List Byte := l.toList.flatMap (fun w => bytesLE 4 w.toNat)

/-- The fabric address of word `w` of engine `n`'s operand memory (R64). -/
def opAddr (n w : Nat) : Nat := n * 0x40000 + 32 * w

/-! ### The parts by number -/

def State.axis (s : State) (i : Nat) : Axis := Tab.get {} s.axes i
def State.setAxis (s : State) (i : Nat) (a : Axis) : State := { s with axes := Tab.put {} s.axes i a }
def State.gen (s : State) (g : Nat) : Gen := Tab.get {} s.gens g
def State.setGen (s : State) (g : Nat) (x : Gen) : State := { s with gens := Tab.put {} s.gens g x }
def State.chan (s : State) (c : Nat) : StepChan := Tab.get {} s.chans c
def State.setChan (s : State) (c : Nat) (x : StepChan) : State := { s with chans := Tab.put {} s.chans c x }
def State.enc (s : State) (c : Nat) : Enc := Tab.get {} s.encs c
def State.setEnc (s : State) (c : Nat) (x : Enc) : State := { s with encs := Tab.put {} s.encs c x }
def State.ser (s : State) (c : Nat) : Ser := Tab.get {} s.sers c
def State.setSer (s : State) (c : Nat) (x : Ser) : State := { s with sers := Tab.put {} s.sers c x }
def State.rem (s : State) (c : Nat) : Rem := Tab.get {} s.rems c
def State.setRem (s : State) (c : Nat) (x : Rem) : State := { s with rems := Tab.put {} s.rems c x }

/-! ### The running image -/

/-- The image that the islands run; before ARM an image of nothing. -/
def State.image (s : State) : Image := s.tt.running.getD {}

/-- The period of a period code in ns (R39). -/
def periodOf (code : Nat) : Nat := 15625 * 2 ^ code

/-- The passage period in ns of the running image (R39). -/
def State.periodNs (s : State) : Nat := periodOf s.image.period

/-- The ring-in horizon, ring release point and ring-out horizon in ns (R41). -/
def ringPoints (code : Nat) : Nat × Nat × Nat :=
  if code = 0 then (4000, 6500, 11000) else if code = 1 then (6000, 10000, 16000) else (8000, 14000, 22000)

/-- The number of instances that an engine carries and that a node carries at a period (R39). -/
def perAe (code : Nat) : Nat := if code = 0 then 2 else if code = 1 then 4 else 8
def perNode (code : Nat) : Nat := if code ≤ 1 then 1 else 2

/-- The axis map's word of an instance (R59). -/
def State.mapWord (s : State) (i : Nat) : Word := Tab.get 0 s.image.axmap i

/-- Whether an instance is mapped (R59). -/
def State.mapped (s : State) (i : Nat) : Bool := (s.mapWord i).bit 31 && decide (i < 512)

/-- The instance's kind: 1 servo, 2 ring stepper, 0 unmapped (R59). -/
def State.kindOf (s : State) (i : Nat) : Nat := if s.mapped i then (s.mapWord i).bits 0 8 else 0

/-- The instance's engine, cluster, ring and node (R19, R59). -/
def State.aeOf (s : State) (i : Nat) : Nat := (s.mapWord i).bits 16 6
def State.clusterOf (s : State) (i : Nat) : Nat := s.aeOf i / 4
def State.ringOf (s : State) (i : Nat) : Nat := (s.mapWord i).bits 28 2
def State.nodeOf (s : State) (i : Nat) : Nat := (s.mapWord i).bits 22 6 + 1

/-- A law's sizes and measurement entries fixed, each entry by its source in its own unit. -/
def LawWire.sized (l : LawWire) (states outs : Nat) (src : List Nat) : LawWire :=
  { l with states := states, meas := src.length, outs := outs, src := src.map (fun k => (k, 0x40000001#32)) }

/-- A law within the sizes that a law may have (R116): at most 24 states, 8 measurement entries and `outs` outputs. -/
def LawWire.within (l : LawWire) (outs : Nat) : LawWire :=
  let src := l.src.take 8
  { l with states := min 24 l.states, meas := min src.length l.meas, outs := min outs l.outs, src := src }

/-- A set area within the fields that report it (R154): BASE a word of operand memory, STRIDE 1 to 512. -/
def ServoWire.within (w : ServoWire) : ServoWire :=
  { w with
    base := w.base % 8192
    stride := max 1 (min 512 w.stride)
    law1 := w.law1.within 4
    law2 := w.law2.map (·.within 2) }

/-- A wiring with the sizes and the measurements of the basic layout, where it has that form (R119): the position error, the
speed, the speed and current feed-forward; the currents and the limited output of law 1. The preset of output 0 is on z_v
(R120). -/
def ServoWire.laidOut (w : ServoWire) : ServoWire :=
  if w.form then w
  else
    { w with
      law1 := w.law1.sized 5 1 [0, 1, 2, 3]
      law2 := w.law2.map (·.sized 5 2 [4, 5, 16])
      presets := w.presets.map (Option.map (fun p => { p with state := 4 })) }

/-- The wiring of a servo instance, within the sizes of R116 and R154 (R112, R119). -/
def State.servoWire (s : State) (i : Nat) : Option ServoWire :=
  (s.image.wiring.servos.find? (fun p => p.1 == i)).map (·.2.within.laidOut)

/-- The wiring of a stepper instance. -/
def State.stepWire (s : State) (i : Nat) : Option StepWire :=
  (s.image.wiring.steppers.find? (fun p => p.1 == i)).map (·.2)

/-- The instances of a word list, in order: every mapped instance (R59). -/
def State.instances (s : State) : List Nat := (s.image.axmap.filter (fun p => p.2.bit 31)).map (·.1)

/-- A function of the state repeated over a list, in order. -/
def State.forEach (s : State) (f : State → Nat → State) (l : List Nat) : State := l.foldl f s

/-- A fresh free value: the counter that the opaque values are taken at is advanced. -/
def State.tick (s : State) : Nat × State := (s.freeCtr, { s with freeCtr := s.freeCtr + 1 })

/-! ### Feedback by channel code (R213) -/

/-- BAR0 offsets of the pages. -/
def axOff (i o : Nat) : Nat := 0x100000 + 0x400 * i + o
def pfOff (g o : Nat) : Nat := 0x74000 + 0x40 * g + o
def chOff (c o : Nat) : Nat := 0x70100 + 0x10 * c + o
def encOff (c o : Nat) : Nat := 0x61000 + 0x40 * c + o
def serOff (c o : Nat) : Nat := 0x62000 + 0x40 * c + o
def remOff (i o : Nat) : Nat := 0x64000 + 0x20 * i + o

/-- What a channel delivers once a passage: TOTAL, age and speed (R213). -/
structure Sample where
  total : Int
  age : Nat
  speed : Word
  cpr : Nat
  deriving DecidableEq, Repr

/-- The latest sample of a feedback channel (R213, R220). -/
def State.sample (s : State) (ch : Nat) : Sample :=
  if ch < 16 then
    let c := s.enc ch
    ⟨c.sTotal, 0, c.speed, (s.cfgW (encOff ch 0x04)).toNat⟩
  else if ch < 24 then
    let c := s.ser (ch - 16)
    ⟨c.total, c.age, c.speed, (s.cfgW (serOff (ch - 16) 0x0C)).toNat⟩
  else
    let c := s.rem (ch - 512)
    ⟨c.total, c.age, c.speed, (s.cfgW (remOff (ch - 512) 0x04)).toNat⟩

/-- The cause of the fault latched in a channel, 0 for none (R234). -/
def State.fbFault (s : State) (ch : Nat) : Nat :=
  if ch < 16 then (s.enc ch).fault else if ch < 24 then (s.ser (ch - 16)).fault else (s.rem (ch - 512)).fault

/-! ### The words of the SRAM (R109, R110) -/

/-- The 256-bit word of an address. -/
def wordOf (a : Nat) : Nat := a / 32 * 32

/-- Whether the word of an address does not decode. -/
def State.undecodable (s : State) (a : Nat) : Bool := s.bad.contains (wordOf a)

/-- The wrong byte symbols of the word of an address that a read corrects (R109). -/
def State.wrongAt (s : State) (a : Nat) : Nat := Tab.get 0 s.wrong (wordOf a)

/-- The words from one address to another, both included. -/
def wordsOf (a n : Nat) : List Nat := (List.range ((a + n - 1) / 32 + 1 - a / 32)).map (fun k => wordOf a + 32 * k)

/-- A store: bytes written, and the words they lie in decode again (R110: until it is written). A store of some bytes of a word
that does not decode merges them with the word's old bytes, and no read fault is raised for the merge (DESIGN CHOICE, log
102: the spec states neither). -/
def State.store' (s : State) (a : Nat) (bs : List Byte) : State :=
  let ws := wordsOf a bs.length
  { s with mem := s.mem.setBytes a bs
           bad := if s.bad.isEmpty then s.bad else s.bad.filter (fun w => !ws.contains w)
           badSeen := if s.badSeen.isEmpty then s.badSeen else s.badSeen.filter (fun w => !ws.contains w)
           wrong := if s.wrong.isEmpty then s.wrong else s.wrong.filter (fun p => !ws.contains p.1) }

end Sys2Proof.Machine
end

