-- ==== Sys2Proof/Machine/Profile.lean ====
section
/-! DEFINITION. The profile generator as functions of its own state and its profile values (R163-R194): the ramp rules,
one passage of a move, stops, homing, the rate word and the stepper position. -/

namespace Sys2Proof.Machine

/-- The profile values in the units of R163. -/
structure Profile where
  vstart : Nat
  vstop : Nat
  vbreak : Nat
  a1 : Nat
  a2 : Nat
  d2 : Nat
  d1 : Nat
  qdec : Nat
  deriving DecidableEq, Repr

/-- A speed of a value word in units of 2^-32 count per passage of `ns` nanoseconds (R163). -/
def speedUnits (w : Word) (ns : Nat) : Int := vwScale w ns (10 ^ 9) 32

/-- An acceleration of a value word in units of 2^-32 count per passage squared (R163). -/
def accelUnits (w : Word) (ns : Nat) : Int := vwScale w (ns * ns) (10 ^ 18) 32

/-- The profile values of a page converted (R163). -/
def ProfileRegs.units (r : ProfileRegs) (ns : Nat) : Profile :=
  ⟨(speedUnits r.vstart ns).toNat, (speedUnits r.vstop ns).toNat, (speedUnits r.vbreak ns).toNat,
    (accelUnits r.a1 ns).toNat, (accelUnits r.a2 ns).toNat, (accelUnits r.d2 ns).toNat,
    (accelUnits r.d1 ns).toNat, (accelUnits r.qdec ns).toNat⟩

/-- One count, in the units of positions. -/
def oneCount : Int := 2 ^ 32

/-- The largest speed from which `vj` can still be reached over `r` (R166). -/
def Profile.allow (f : Profile) (r vj : Nat) : Nat :=
  if f.vbreak ≤ vj then isqrt (vj * vj + 2 * f.d2 * r)
  else
    let rb := (f.vbreak * f.vbreak - vj * vj) / (2 * f.d1)
    if r ≤ rb then isqrt (vj * vj + 2 * f.d1 * r) else isqrt (f.vbreak * f.vbreak + 2 * f.d2 * (r - rb))

/-- The distance needed from speed `v` down to `vj` with D2 and D1 (R166, R173, R176). -/
def Profile.stopDist (f : Profile) (v vj : Nat) : Nat :=
  if v ≤ vj then 0
  else if f.vbreak ≤ vj then (v * v - vj * vj) / (2 * f.d2)
  else if v ≤ f.vbreak then (v * v - vj * vj) / (2 * f.d1)
  else (f.vbreak * f.vbreak - vj * vj) / (2 * f.d1) + (v * v - f.vbreak * f.vbreak) / (2 * f.d2)

/-- The deceleration of the ramp rules at speed `v` (R166). -/
def Profile.dec (f : Profile) (v : Nat) : Nat := if f.vbreak ≤ v then f.d2 else f.d1

/-- The acceleration of the ramp rules at speed `v` (R166). -/
def Profile.acc (f : Profile) (v : Nat) : Nat := if v < f.vbreak then f.a1 else f.a2

/-- The sign of a distance, the present direction standing for a distance of 0. -/
def dirOf (old d : Int) : Int := if 0 < d then 1 else if d < 0 then -1 else old

/-- A position target in units. -/
def tgt (m : Move) : Int := m.target * oneCount

/-- The executing move that has not passed its final passage, and the moves after it. -/
def Gen.current (g : Gen) : Option Move := g.moves.find? (fun m => m.executing && !m.done)

/-- The QUEUED moves in order. -/
def Gen.queued (g : Gen) : List Move := g.moves.filter (fun m => !m.executing)

/-- The number of QUEUED slots (R169). -/
def Gen.nQueued (g : Gen) : Nat := g.queued.length

/-- The number of EXECUTING slots (R169). -/
def Gen.nExec (g : Gen) : Nat := (g.moves.filter (·.executing)).length

/-- The number of FREE slots (R169). -/
def Gen.nFree (g : Gen) : Nat := 16 - g.nQueued - g.nExec

/-- Whether the move after the executing one blends into it: BLEND, a length of its own, and the same direction; a move of zero
length, which has no direction, is followed by none (R170; log 11). -/
def Gen.blends (g : Gen) (m n : Move) : Bool :=
  n.blend && decide (0 < g.dir * (n.target - m.target)) && !(m.first && decide (tgt m = g.p))

/-- The joint speed of the executing move (R166, R170). -/
def Gen.joint (f : Profile) (g : Gen) (m : Move) : Nat :=
  match g.queued with
  | [] => f.vstop
  | n :: _ =>
    if g.blends m n then min m.vmax (min n.vmax (f.allow (tgt n - tgt m).natAbs f.vstop)) else f.vstop

/-- The next queued move becomes EXECUTING, from rest; values that waited for it take effect (R169, R174). -/
def Gen.startNext (g : Gen) : Gen :=
  match g.queued with
  | [] => g
  | n :: r =>
    { g with
      moves := { n with executing := true, first := true, start := (g.p + 2 ^ 31) / oneCount } :: r
      dir := dirOf g.dir (tgt n - g.p)
      v := 0
      phase := .rest
      clampDec := none
      braking := false
      inUse := none
      gst := .run }

/-- The start of a passage: slots of completed moves become FREE, and the next move becomes EXECUTING (R167, R169). -/
def Gen.roll (g : Gen) : Gen :=
  let ended := g.moves.any (·.done)
  let g := { g with moves := g.moves.filter (fun m => !m.done) }
  let g := if ended && g.current.isNone then { g with v := 0, phase := .rest } else g
  if (g.gst = .idle ∨ g.gst = .run) ∧ g.current.isNone then
    match g.queued with
    | [] => if g.gst = .run then { g with gst := .idle } else g
    | _ :: _ => g.startNext
  else g

/-- The executing move changed by a function. -/
def Gen.mapCurrent (g : Gen) (h : Move → Move) : Gen :=
  { g with moves := g.moves.map (fun m => if m.executing && !m.done then h m else m) }

/-- The next speed of a move (R166): the new phase and speed from the allowed speed `va`. -/
def nextSpeed (f : Profile) (g : Gen) (m : Move) (va : Nat) : GPhase × Nat :=
  if m.first then
    let vn := min f.vstart (min m.vmax va)
    (if vn = m.vmax then .cruise else .accel, vn)
  else if g.phase = .decel ∨ va < g.v then
    let vn := min g.v va
    (.decel, if m.vmax < g.v then min vn (max m.vmax (g.v - f.dec g.v)) else vn)
  else if m.vmax < g.v then (g.phase, max m.vmax (g.v - f.dec g.v))
  else
    let vn := min (g.v + f.acc g.v) (min m.vmax va)
    (if vn = m.vmax then .cruise else .accel, vn)

/-- One passage of a braking reversal: D2 and D1 through V_STOP, then the same move from V_START (R173). -/
def Gen.brakeStep (f : Profile) (g : Gen) (m : Move) : Gen :=
  let v' := g.v - f.dec g.v
  let v := if v' ≤ f.vstop then 0 else v'
  let p := g.p + g.dir * v
  if v = 0 then
    { (g.mapCurrent (fun m => { m with first := true })) with
      p := p, v := 0, phase := .rest, braking := false, reversed := true, dir := dirOf g.dir (tgt m - p) }
  else { g with p := p, v := v, phase := .decel }

/-- The final passage of a move, at speed `vn`: the position on the target, and the rest of the increment carried into a
blended successor, which goes on at the joint speed `vj`, or at `vn` where the move ends before it has reached that (R167, R170;
log 11). -/
def Gen.finish (g : Gen) (m : Move) (vn vj : Nat) (phase : GPhase) : Gen :=
  let g0 := { g with p := tgt m, clampDec := none, phase := phase,
                     moves := g.moves.map (fun x => if x.executing && !x.done then { x with done := true } else x) }
  match g.queued with
  | [] => g0
  | n :: r =>
    if g.blends m n then
      { g0 with
        p := tgt m + g.dir * min (vn - (tgt m - g.p).natAbs) (tgt n - tgt m).natAbs
        v := min vn vj
        phase := .accel
        inUse := none
        moves := { m with done := true } :: { n with executing := true, first := false, start := m.target } :: r }
    else g0

/-- One passage of a generator in RUN (R166). -/
def Gen.moveStep (f : Profile) (g : Gen) (m : Move) : Gen :=
  if g.braking then g.brakeStep f m
  else
    let r := (tgt m - g.p).natAbs
    let vj := g.joint f m
    let va := match g.clampDec with
      | some dc => isqrt (vj * vj + 2 * dc * r)
      | none => f.allow r vj
    let s := nextSpeed f g m va
    if r ≤ s.2 then g.finish m s.2 vj s.1
    else
      { (g.mapCurrent (fun m => { m with first := false })) with p := g.p + g.dir * s.2, v := s.2, phase := s.1 }

/-- Whether the executing move can no longer reach its joint speed in the remaining distance with the values `f` (R171, R176). -/
def Gen.tooFar (f : Profile) (g : Gen) : Bool :=
  match g.current with
  | none => false
  | some m =>
    let r := (tgt m - g.p).natAbs
    let vj := g.joint f m
    decide (g.gst = .run) && !g.braking && g.clampDec.isNone && decide (r ≠ 0) && decide (vj < g.v) && decide (r < f.stopDist g.v vj)

/-- The clamped deceleration of R176: the single one that ends the executing move on its target, at its joint speed by `f`. -/
def Gen.clamp (f : Profile) (g : Gen) : Gen :=
  match g.current with
  | none => g
  | some m =>
    let r := (tgt m - g.p).natAbs
    let vj := g.joint f m
    { g with
      clampDec := some ((g.v * g.v - vj * vj + 2 * r - 1) / (2 * r))
      phase := .decel
      clamped := true }

/-- New values for a generator whose values in use have been `used` (R176): where its move can no longer end on target with the new
ones, it takes the clamped deceleration, and they wait for the next move. -/
def Gen.revalue (new used : ProfileRegs) (ns : Nat) (g : Gen) : Gen :=
  if g.tooFar (new.units ns) then ({ g with inUse := some used }).clamp (used.units ns) else g

/-- Every QUEUED and EXECUTING slot freed (R177). -/
def Gen.flush (g : Gen) : Gen := { g with moves := [], clampDec := none, braking := false }

/-- One passage of a stop: the speed falls by the stop's deceleration and through V_STOP to 0 (R177, R178). -/
def Gen.stopStep (f : Profile) (g : Gen) (kind : StopKind) : Gen :=
  let d := match kind with
    | .hold => f.dec g.v
    | _ => f.qdec
  let v' := g.v - d
  let v := if v' ≤ f.vstop then 0 else v'
  let g' := { g with p := g.p + g.dir * v, v := v }
  if v = 0 then { g' with gst := .idle, phase := .rest, stop := none } else { g' with phase := .decel }

/-- A homing ended by anything but success (R190): HOMED cleared, the result set, OFFSET as it was before. -/
def Gen.homeAbort (g : Gen) (code : Nat) : Gen :=
  match g.homing with
  | none => g
  | some h =>
    let delta := h.offset0 - g.offset
    { g with homing := none, homed := false, homeResult := code, toggles := min 255 h.toggles
             offset := h.offset0, p := g.p + delta * oneCount }

/-- A soft stop asked of a generator (R178, R183, R184): a less severe one never replaces a more severe one. -/
def Gen.askStop (g : Gen) (kind : StopKind) : Gen :=
  if g.gst = .track then g
  else
    let busy : Bool := match g.stop with
      | some k => decide (kind.rank ≤ k.rank) && decide (g.gst = .stop)
      | none => false
    if busy then g
    else
      let g := (g.homeAbort 0x33).flush
      { g with gst := .stop, stop := some kind }

/-- The new OFFSET and the shifted profile of a latch (R187, R191): `OFFSET := HOME_POS - raw_latch`. -/
def Gen.applyLatch (g : Gen) (homePos rawLatch : Int) (shiftTarget : Bool) : Gen :=
  let delta := homePos - rawLatch - g.offset
  let g := { g with offset := g.offset + delta, p := g.p + delta * oneCount }
  if shiftTarget then g.mapCurrent (fun m => { m with target := m.target + delta, start := m.start + delta }) else g

/-- The position of a search in raw units. -/
def Gen.rawUnits (g : Gen) : Int := g.p - g.offset * oneCount

/-- A failed homing, which ends after a quick stop from the next passage on (R188-R190). -/
def Gen.homeFailed (g : Gen) (h : Homing) (code : Nat) : Gen := { g with homing := some { h with stage := .failing, fail := code } }

/-- A search's motion: from V_START, with A1 and A2, at most the search speed (R186); one that has travelled HOME_RANGE fails
(R190). -/
def Gen.searchMove (f : Profile) (g : Gen) (h : Homing) (dir : Int) : Gen :=
  let v := if h.first then min f.vstart h.vsearch else min (g.v + f.acc g.v) h.vsearch
  let g := { g with dir := dir, v := v, p := g.p + dir * v, phase := if v = h.vsearch then .cruise else .accel,
                    homing := some { h with first := false } }
  if h.range * oneCount ≤ ((g.rawUnits - h.origin).natAbs : Int) then g.homeFailed { h with first := false } 0x32 else g

/-- A braking passage of homing: true when the axis is at rest. -/
def Gen.homeBrake (f : Profile) (g : Gen) (quick : Bool) : Gen :=
  let v' := g.v - (if quick then f.qdec else f.dec g.v)
  let v := if v' ≤ f.vstop then 0 else v'
  { g with v := v, p := g.p + g.dir * v, phase := if v = 0 then .rest else .decel }

/-- One passage of the quick stop that ends a failed homing: at rest the failure is its result (R188-R190). -/
def Gen.failStep (f : Profile) (g : Gen) (h : Homing) : Gen :=
  let g' := g.homeBrake f true
  if g'.v = 0 then { (g'.homeAbort h.fail) with gst := .idle } else g'

/-- A homing that fails before it has moved in this passage: the quick stop begins at once (R188, R189). -/
def Gen.homeFail (f : Profile) (g : Gen) (h : Homing) (code : Nat) : Gen := (g.homeFailed h code).failStep f { h with fail := code }

/-- What a homing sees in one passage: an index edge's raw position, if one was latched, and the inputs' new edges. -/
structure HomeEvents where
  index : Option Int
  deriving DecidableEq, Repr

/-- The home or limit latch of a search in this passage, in raw counts (R186): an index edge that the passage of the search's
start reports came before it. -/
def homeLatch (g : Gen) (h : Homing) (edge : Option Int) : Option Int × Option Int :=
  let index := if h.first then none else edge
  let homeRise := g.home.edge && g.home.level
  let sw := if homeRise then some g.home.firstPos else none
  match h.method with
  | 1 => (sw, none)
  | 2 =>
    let sl := match h.switchLatch with
      | some x => some x
      | none => sw
    match sl, index with
    | some s, some i => (if 0 < h.searchDir * (i - s) then some i else none, sl)
    | _, _ => (none, sl)
  | 3 => (index, none)
  | 4 =>
    let l := if 0 < h.dir then g.limP else g.limN
    (if l.edge && l.level then some l.firstPos else none, none)
  | _ => (none, none)

/-- One passage of a homing (R186-R190). -/
def Gen.homeStep (f : Profile) (g : Gen) (h0 : Homing) (index : Option Int) : Gen :=
  let h := { h0 with toggles := h0.toggles + bitNat g.home.edge }
  let g := { g with toggles := min 255 h.toggles, homing := some h }
  -- the new OFFSET applies in the passage after the latch
  let (g, h) := match h.shiftDue, h.latch with
    | true, some l => (g.applyLatch h.homePos l false, { h with shiftDue := false })
    | _, _ => (g, h)
  let g := { g with homing := some h }
  if 3 < h.toggles ∧ h.stage ≠ .failing then g.homeFail f h 0x31
  else
    let limHit := (if 0 < h.searchDir then g.limP else g.limN)
    let hit := limHit.edge && limHit.level
    match h.stage with
    | .release =>
      let against := -h.searchDir
      let back := if 0 < against then g.limP else g.limN
      if back.edge && back.level then
        if h.reversed then g.homeFail f h 0x30
        else { (g.homeBrake f true) with
               homing := some { h with stage := .turning, reversed := true, turnQuick := true } }
      else if !g.home.level then
        { (g.homeBrake f false) with homing := some { h with stage := .turning, turnQuick := false } }
      else g.searchMove f h against
    | .search =>
      let l := homeLatch g h index
      let h := { h with switchLatch := l.2 }
      match l.1 with
      | some x =>
        { (g.homeBrake f (h.method == 4)) with
          homing := some { h with stage := .latched, latch := some x, shiftDue := true } }
      | none =>
        if hit && h.method != 4 || hit && h.searchDir != h.dir then
          if h.reversed then g.homeFail f h 0x30
          else { (g.homeBrake f true) with
                 homing := some { h with stage := .turning, reversed := true, turnQuick := true,
                                         searchDir := -h.searchDir } }
        else g.searchMove f h h.searchDir
    | .latched =>
      let g' := g.homeBrake f (h.method == 4)
      if g'.v = 0 ∧ !h.shiftDue then
        { g' with homing := none, homed := true, homeResult := 0, gst := .idle }
      else { g' with homing := some h }
    | .failing => g.failStep f h
    | .turning =>
      let g' := g.homeBrake f h.turnQuick
      if g'.v = 0 then
        { g' with homing := some { h with stage := .search, first := true, origin := g'.rawUnits } }
      else { g' with homing := some h }

/-- One passage of an armed flying reference or of its chatter window (R191). -/
def Gen.flyStep (g : Gen) (index : Option Int) : Gen :=
  let g := match g.homing with
    | some h =>
      if !h.fly then g
      else match h.shiftDue, h.latch with
        | true, some l =>
          { (g.applyLatch h.homePos l true) with
            homing := none, homed := true, homeResult := 0,
            flyWindow := some (l, 0, h.range) }
        | _, _ =>
          let l := (homeLatch g h index).1
          match l with
          | some x => { g with homing := some { h with latch := some x, shiftDue := true } }
          | none => { g with homing := some { h with first := false } }
    | none => g
  match g.flyWindow with
  | none => g
  | some (last, n, left) =>
    let n := n + bitNat g.home.edge
    let gone := (g.raw - last).natAbs
    if 3 < n then { g with flyWindow := none, homed := false, homeResult := 0x31, toggles := min 255 n }
    else if left ≤ gone then { g with flyWindow := none, toggles := min 255 n }
    else { g with flyWindow := some (g.raw, n, left - gone), toggles := min 255 n }

/-- STRONG with its hysteresis on the profile speed (R200). -/
def Gen.strongStep (g : Gen) (vs vh : Nat) : Gen :=
  { g with strong := if vs + vh ≤ g.v then true else if g.v + vh < vs then false else g.strong }

/-- What a passage of a generator begins with: the measured position that a hard stop takes (R179), and a queued move that starts
from rest (R169). -/
def Gen.begin_ (g : Gen) : Gen :=
  let g := if g.toMeasured then { g with p := (g.raw + g.offset) * oneCount, toMeasured := false } else g
  if (g.gst = .idle ∨ g.gst = .run) ∧ g.current.isNone ∧ g.moves.any (·.done) = false then g.startNext else g

/-- Whether the generator moves in this passage: it has a speed, or a move that starts. -/
def Gen.moving (g : Gen) : Bool :=
  decide (0 < g.v) || (match g.current with
    | some m => decide (tgt m ≠ g.p)
    | none => false)

/-- A limit stop (R184): outside homing a limit input becomes active on the side towards which the axis moves. -/
def Gen.limitStop (g : Gen) : Gen :=
  let lim := if 0 < g.dir then g.limP else g.limN
  if g.gst != .home && g.gst != .track && g.moving && lim.became && lim.level then g.askStop .limit else g

/-- One passage of a generator after `begin_` (R166, R177): in TRACK it follows the axis position, in whole counts. -/
def Gen.passage (f : Profile) (g0 : Gen) (index : Option Int) : Gen :=
  let g := match g0.gst with
    | .track => { g0 with p := (g0.raw + g0.offset) * oneCount, v := 0, phase := .rest }
    | .home =>
      match g0.homing with
      | some h => g0.homeStep f h index
      | none => { g0 with gst := .idle }
    | .stop =>
      match g0.stop with
      | some k => g0.stopStep f k
      | none => { g0 with gst := .idle, v := 0, phase := .rest }
    | .idle | .run =>
      match g0.current with
      | some m => g0.moveStep f m
      | none => g0
  { g with dv := g.dir * g.v - g0.vLast, vLast := g.dir * g.v }

/-- The largest rate magnitude of a channel: 2^48 / max(40, 2 WIDTH) (R195). -/
def rateLimit (width : Nat) : Nat := 2 ^ 48 / max 40 (2 * width)

/-- The rate word and the phase it leads to (R193): `C` clocks of 5 ns a passage, truncated toward zero and limited. -/
def rateWord (p offset q : Int) (clocks width : Nat) : Int × Int :=
  let target := (p - offset * oneCount) * 2 ^ 16 + 2 ^ 47
  let d := target - q
  let r := Int.tdiv d clocks
  let lim : Int := rateLimit width
  let rate := if lim < r then lim else if r < -lim then -lim else r
  (rate, q + rate * clocks)

/-! ### Step pulses (R192, R194, R195) -/

/-- The steps emitted in the first `clocks` clocks after a release, at phase `q` and rate word `rate` (R192, R194). -/
def stepsBy (q rate : Int) (clocks : Nat) : Nat := ((q + rate * clocks) / 2 ^ 48 - q / 2 ^ 48).natAbs

/-- The clock after the release at which the `k`-th step is due: that of its carry or borrow (R192). -/
def stepDue (q rate : Int) (k : Nat) : Nat :=
  if 0 < rate then ((2 ^ 48 * (q / 2 ^ 48 + k) - q + rate - 1) / rate).toNat
  else if rate < 0 then ((q - 2 ^ 48 * (q / 2 ^ 48 - k + 1)) / -rate).toNat + 1
  else 0

/-- The pulses begun in the first `clocks` clocks after a release (R195): where DIR changed at it, `setup` clocks hold back the
steps that are due within them, which follow one another by `gap` clocks. -/
def pulsesBy (q rate : Int) (setup : Option Nat) (gap clocks : Nat) : Nat :=
  let n := stepsBy q rate clocks
  match setup with
  | none => n
  | some d => if stepsBy q rate d = 0 then n else if clocks < d then 0 else min n ((clocks - d) / gap + 1)

/-- The clock at which the pulse of the `n`-th step goes out, `n` from 1 (R195). -/
def pulseClock (q rate : Int) (setup : Option Nat) (gap n : Nat) : Nat :=
  let t := stepDue q rate n
  match setup with
  | none => t
  | some d => if stepDue q rate 1 ≤ d then max t (d + (n - 1) * gap) else t

/-- POS of a ring stepper's record: `(p - OFFSET + 0.5)` modulo 2^32 steps, Q32.32 (R197). -/
def stepperPos (p offset : Int) : U64 := BitVec.ofInt 64 (p - offset * oneCount + 2 ^ 31)

/-- One sample of a switch input (R185): a new level is accepted after FILT + 1 consecutive samples. -/
def SwitchIn.sample (w : SwitchIn) (lvl : Bool) (filt : Nat) : SwitchIn :=
  if !w.primed then { level := lvl, primed := true, became := lvl }
  else if lvl == w.level then { w with run := 0, edge := false, begun := false, became := false }
  else
    let v := { w with begun := w.run == 0 }
    if filt + 1 ≤ w.run + 1 then { v with level := lvl, run := 0, edge := true, became := lvl }
    else { v with run := w.run + 1, edge := false, became := false }

/-- The position of the passage's sample latched, where that sample began a run (R185): raw of the passage. -/
def SwitchIn.settle (w : SwitchIn) (raw : Int) : SwitchIn :=
  if w.begun then { w with firstPos := raw, begun := false } else w

end Sys2Proof.Machine
end

