-- ==== Sys2Proof/Machine/SafeSet.lean ====
section
/-! DEFINITION. The safety-parameter set in the island's hand: the fields of R488, and what a brake test asks of law 1
(R485). -/

namespace Sys2Proof.Machine

/-- The set that the island uses: in UNCONFIRMED the one that awaits confirmation, otherwise the confirmed one (R478, R481). -/
def Safe.rules (x : Safe) : Tab Byte := if x.state = 1 then x.awaiting.getD [] else x.confirmed.getD []

/-- A field of a set, little-endian (R488). -/
def setField (t : Tab Byte) (o n : Nat) : Nat := natLE ((List.range n).map (fun k => Tab.get 0 t (o + k)))

/-- An input's record (R488): FILT in 0.1 ms, MODE, DISC in ms, test source, KIND. -/
structure SinRule where
  filt : Nat
  mode : Nat
  disc : Nat
  source : Nat
  guard : Bool
  deriving DecidableEq, Repr

def sinRule (t : Tab Byte) (k : Nat) : SinRule :=
  let o := 0x20 + 8 * k
  ⟨setField t o 1, setField t (o + 1) 1, setField t (o + 2) 2, setField t (o + 4) 1, setField t (o + 5) 1 == 1⟩

/-- An output's record (R488): MODE, PULSE in 10 µs, PHASE in ms. -/
structure SoutRule where
  used : Bool
  pulse : Nat
  phase : Nat
  deriving DecidableEq, Repr

def soutRule (t : Tab Byte) (j : Nat) : SoutRule :=
  let o := 0xA0 + 8 * j
  ⟨setField t o 1 == 1, setField t (o + 1) 1, setField t (o + 2) 1⟩

/-- A brake's record (R488). -/
structure BrkRule where
  used : Bool
  inst : Nat
  iMin : Nat
  iMax : Nat
  btCurrent : Nat
  btHold : Nat
  btSettle : Nat
  btDir : Nat
  btTol : Nat
  deriving DecidableEq, Repr

def brkRule (t : Tab Byte) (b : Nat) : BrkRule :=
  let o := 0xE0 + 16 * b
  ⟨setField t o 1 == 1, setField t (o + 1) 2, setField t (o + 4) 2, setField t (o + 6) 2, setField t (o + 8) 2,
    setField t (o + 10) 2, setField t (o + 12) 1, setField t (o + 13) 1, setField t (o + 14) 2⟩

/-- A function's record (R488). -/
structure FnRule where
  sins : Nat
  kind : Nat
  reset : Nat
  ss1 : Nat
  souts : Nat
  brks : Nat
  rings : Nat
  first : Nat
  last : Nat
  resetSin : Nat
  steps : Nat
  deriving DecidableEq, Repr

def fnRule (t : Tab Byte) (f : Nat) : FnRule :=
  let o := 0x160 + 16 * f
  ⟨setField t o 2, setField t (o + 2) 1, setField t (o + 3) 1, setField t (o + 4) 2, setField t (o + 6) 1,
    setField t (o + 7) 1, setField t (o + 8) 1 % 16, setField t (o + 9) 1, setField t (o + 10) 1, setField t (o + 11) 1,
    setField t (o + 12) 2⟩

/-- LEVEL and SWD of a set (R488). -/
def setLevel (t : Tab Byte) : Nat := setField t 0x0C 1 % 2
def setSwd (t : Tab Byte) : Nat := setField t 0x0D 1

/-- The connection key of a node (R488). -/
def setKey (t : Tab Byte) (r n : Nat) : Nat := setField t (0x360 + 4 * (64 * r + n - 1)) 4

/-- What a brake test in step 2 or 3 puts in place of output 0 of an instance's law 1, in A (R485). -/
def State.brakeOverride (s : State) (i : Nat) : Option Exact :=
  let r := brkRule s.safe.rules s.safe.bt.channel
  if r.inst ≠ i then none
  else match s.safe.bt.step with
    | .plus => some ⟨r.btCurrent, 1000, 0⟩
    | .minus => some ⟨-(r.btCurrent : Int), 1000, 0⟩
    | _ => none

end Sys2Proof.Machine
end

