-- ==== Sys2Proof/Machine/AxisOps.lean ====
section
/-! DEFINITION. Axis instances: entering a state and the generator's following of it (R130, R177), reactions (R132, R144),
the selector's passage (R139), one passage of a servo (R112-R145), set loads (R141), and the staged page (R134). -/

namespace Sys2Proof.Machine

/-- Which refusals of R16 a command meets, AUTH and LOG_FULL apart. -/
structure Refusals where
  locked : Bool := false
  notPresent : Bool := false
  faulted : Bool := false
  length : Bool := false
  range : Bool := false
  illegal : Bool := false
  mismatch : Bool := false
  stale : Bool := false
  backpressure : Bool := false
  deriving DecidableEq, Repr

/-! ### The registers of a page -/

def State.axCfg (s : State) (i o : Nat) : Word := s.cfgW (axOff i o)
def State.axStg (s : State) (i o : Nat) : Word := s.stgW (axOff i o)

/-- The offsets of an axis page's staged registers (R149-R160). -/
def axisStagedOffs : List Nat :=
  [0x00, 0x08, 0x0C, 0x20, 0x24, 0x30, 0x34, 0x38, 0x3C] ++ (List.range 15).map (fun k => 0x40 + 4 * k) ++
    [0x80, 0x84, 0x88, 0x8C, 0x90, 0x94, 0x98] ++ (List.range 128).map (fun k => 0x200 + 4 * k)

/-- MAP[k] of a pair of map registers (R158). -/
def mapOf (m0 m1 : Word) (k : Nat) : Nat := if k < 8 then m0.bits (4 * k) 4 else m1.bits (4 * (k - 8)) 4

/-- MAP[k] in use. -/
def State.axMap (s : State) (i k : Nat) : Nat := mapOf (s.axCfg i 0x38) (s.axCfg i 0x3C) k

/-- MAP[k] replaced, in use and in the staged copy (R141): a value staged there and not yet committed gives way, the other regions' staged
values stay (DESIGN CHOICE, log 113). -/
def State.setAxMap (s : State) (i k f : Nat) : State :=
  let o := if k < 8 then axOff i 0x38 else axOff i 0x3C
  let put (w : Word) : Word := w.setBits (4 * (k % 8)) 4 f
  let s1 := s.setCfg o (put (s.cfgW o))
  match Tab.get none s.regs.stg o with
  | some w => s1.setStg o (put w)
  | none => s1

/-- REGIONS, and BLEND (R157). -/
def State.axRegions (s : State) (i : Nat) : Nat := (s.axCfg i 0x30).bits 16 5
def State.axBlend (s : State) (i : Nat) : Nat := (s.axCfg i 0x30).bits 24 8

/-! ### States -/

/-- The generator of an instance follows its new state (R177, R181). -/
def followState (st : AxSt) (stepper : Bool) (g : Gen) : Gen :=
  let track (g : Gen) : Gen := { (g.flush) with gst := .track, v := 0, phase := .rest, stop := none }
  let g := g.homeAbort 0x33
  match st with
  | .faulted => g
  | .auto =>
    match g.gst with
    | .track | .home => { g with gst := .idle, v := 0, phase := .rest }
    | .stop => if g.v = 0 then { g with gst := .idle, phase := .rest, stop := none } else g
    | _ => g
  | .manual => track g
  | .disabled | .sto =>
    let g := track g
    if stepper then { g with homed := false, hstop := true, adopt := true, hstopRec := true } else g
  | .hold =>
    let g := if g.gst = .track then { g with gst := .idle, v := 0, phase := .rest } else g
    (g.flush).askStop .hold
  | .qstop =>
    let g := if g.gst = .track then { g with gst := .idle, v := 0, phase := .rest } else g
    (g.flush).askStop .quick

/-- An instance enters a state, its generator with it (R130, R177). -/
def State.enterAx (s : State) (i : Nat) (st : AxSt) : State :=
  let s1 := s.setAxis i { s.axis i with st := st }
  s1.setGen i (followState st (s.kindOf i == 2) (s1.gen i))

/-- The state that a reaction leads to, from an enabled state (R130, R131). -/
def reactState : Nat → AxSt
  | 1 => .hold
  | 2 => .qstop
  | _ => .sto

/-- Whether the cause of a latched reaction has ended (R147): the residual, the age, the feedback fault; a package fault
never. -/
def State.causeEnded (s : State) (i cause : Nat) : Bool :=
  let a := s.axis i
  match cause with
  | 1 => vwLe a.resid (s.axCfg i 0x24)
  | 2 => decide (a.age ≤ (s.axCfg i 0x08).bits 4 4)
  | 3 => match s.servoWire i, (s.stepWire i).bind (·.channel) with
    | some w, _ => s.fbFault w.channel == 0
    | none, some ch => s.fbFault ch == 0
    | none, none => true
  | _ => false

/-- One raised reaction applied: it replaces a latched one only when it is more severe (R144). -/
def State.applyReaction (s : State) (i : Nat) (l : Latch) : State :=
  let a := s.axis i
  let stronger := match a.latched with
    | none => true
    | some x => decide (x.react < l.react)
  match a.st with
  | .disabled | .faulted => s
  | _ =>
    if !stronger then s
    else
      let fromManual := decide (a.st = .manual) && (l.react == 1 || l.react == 2)
      let s1 := s.setAxis i { a with latched := some l, firstAuto := a.firstAuto || fromManual }
      if l.react = 0 then s1 else s1.enterAx i (reactState l.react)

/-- The most severe of a list of raised reactions first (R132). -/
def bySeverity (ls : List Latch) : List Latch :=
  (ls.filter (·.react == 3)) ++ (ls.filter (·.react == 2)) ++ (ls.filter (·.react == 1)) ++ (ls.filter (·.react == 0))

/-- The reactions raised in the previous passage, and the end of a latched WARN (R132, R142). -/
def State.applyReactions (s : State) (i : Nat) : State :=
  let a := s.axis i
  let s0 := match a.latched with
    | some l => if l.react = 0 ∧ s.causeEnded i l.cause then s.setAxis i { a with latched := none } else s
    | none => s
  let s1 := (bySeverity a.raised).foldl (fun s l => s.applyReaction i l) s0
  s1.setAxis i { s1.axis i with raised := [] }

/-- A reaction raised in this passage; the next one applies it. -/
def State.raise (s : State) (i : Nat) (l : Latch) : State :=
  let a := s.axis i
  s.setAxis i { a with raised := a.raised ++ [l] }

/-- REACT of SUP_CFG (R155). -/
def State.axReact (s : State) (i : Nat) : Nat := (s.axCfg i 0x20).bits 24 2

/-- A feedback fault raises REACT in every instance that the channel feeds (R146); none is raised in DISABLED (R131). -/
def State.raiseFeedback (s : State) (ch : Nat) : State :=
  ((s.image.wiring.servos.filter (fun p => p.2.channel == ch)).map (·.1) ++
    (s.image.wiring.steppers.filter (fun p => p.2.channel == some ch)).map (·.1)).foldl
    (fun s i => if (s.axis i).st = .disabled then s else s.raise i ⟨s.axReact i, 3⟩) s

/-! ### The selector -/

/-- The selector outside a blend: on the set of the current region (R139); a region that REGIONS no longer has gives way to
region 0 (log 98). -/
def State.settleSelector (s : State) (i : Nat) : State :=
  let a := s.axis i
  if a.blend.isSome || a.decided.isSome then s
  else
    let r := if a.region < s.axRegions i then a.region else 0
    s.setAxis i { a with region := r, sel := s.axMap i r, nxt := s.axMap i r, w := 0 }

/-- SEL, NEXT and W of the passage that begins (R139). -/
def State.advanceSelector (s : State) (i : Nat) : State :=
  let a := s.axis i
  match a.decided with
  | some n =>
    let b := s.axBlend i
    let f := s.axMap i n
    if b ≤ 1 then
      s.setAxis i { a with decided := none, region := n, sel := f, nxt := f, w := 0, blend := none }
    else
      s.setAxis i { a with decided := none, region := n, sel := s.axMap i a.region, nxt := f, w := 256 / b
                           blend := some ⟨1, b, a.region⟩ }
  | none =>
    match a.blend with
    | none => s.settleSelector i
    | some b =>
      if b.len ≤ b.k + 1 then
        s.setAxis i { a with sel := a.nxt, w := 0, blend := none }
      else
        s.setAxis i { a with w := 256 * (b.k + 1) / b.len, blend := some { b with k := b.k + 1 } }

/-- The coefficient word at offset `o` of the instance's sets, through the selector (R92, R93). -/
def State.coefficient (s : State) (i : Nat) (w : ServoWire) (o : Nat) : Stage :=
  let a := s.axis i
  let rd (set : Nat) : Stage :=
    stageOfLine (s.mem.line (opAddr (s.aeOf i) (w.base + set * w.stride + o)))
  blend (rd a.sel) (rd a.nxt) a.w (a.sel == a.nxt)

/-- The region whose limits limit 1 uses: the one whose set SEL names (R120). -/
def Axis.limitRegion (a : Axis) : Nat := match a.blend with
  | some b => b.oldRegion
  | none => a.region

/-- The region that contains a scheduling variable (R138). -/
def State.regionOf (s : State) (i : Nat) (sigma : Word) : Nat :=
  ((List.range (s.axRegions i)).filter (fun k => k == 0 || vwLe (s.axCfg i (0x40 + 4 * (k - 1))) sigma)).foldl max 0

/-- The evaluation of the schedule at the end of a passage (R138). -/
def State.evaluateSchedule (s : State) (i : Nat) (sigma : Word) : State :=
  let a := s.axis i
  if a.blend.isSome ∨ a.load.isSome ∨ a.decided.isSome then s
  else
    let c := a.region
    let hyst := s.axCfg i 0x34
    let bound (k : Nat) : Word := s.axCfg i (0x40 + 4 * (k - 1))
    -- sigma < b_c - HYST, that is sigma + HYST < b_c
    let below : Bool := decide (0 < c) &&
      (let t := vwSum sigma hyst
       let b := bound c
       let k := min t.2 (b.expo - 23)
       decide (t.1 * 2 ^ (t.2 - k).toNat < b.mant * 2 ^ (b.expo - 23 - k).toNat))
    let above : Bool := decide (c + 1 < s.axRegions i) && vwSumLe (bound (c + 1)) hyst sigma
    if below || above then
      let n := s.regionOf i sigma
      if n = c then s else s.setAxis i { a with decided := some n }
    else s

/-! ### One passage of a servo -/

/-- The inputs that a servo's passage takes in: the upstream payload, its age, the channel's sample and the profile. -/
structure ServoInput where
  payload : List Byte
  age : Nat
  sample : Sample
  posErr : Int
  genV : Int
  genDv : Int
  angle : Word
  deriving DecidableEq, Repr

/-- Radians in a count of a channel (R119, R164): two pi, to 2^-120 (log 98), over CPR. -/
def radians (cpr : Nat) : Exact := ⟨8351785813007552717653752915327115495, cpr, -120⟩

/-- The profile speed in counts/s, with its sign (R164). -/
def genSpeed (inp : ServoInput) (ns : Nat) : Exact := ⟨inp.genV * 10 ^ 9, ns, -32⟩

/-- A measurement entry's real value before its scale (R113, R119, R164), by source number: 0 position error in rad, 1 measured
speed and 2 speed feed-forward in rad/s, 3 current feed-forward in A, 4 i_d, 5 i_q, 6 bus voltage, 16 and on the outputs of
law 1. -/
def measure (inp : ServoInput) (ns : Nat) (iFs ka : Word) (u1 : Stage) (src : Nat) : Exact :=
  let cur := parkCurrents (BitVec.ofNat 32 (fieldLE inp.payload 0 4)).toInt
    (BitVec.ofNat 32 (fieldLE inp.payload 4 4)).toInt iFs inp.angle
  match src with
  | 0 => (⟨inp.posErr, 1, 0⟩ : Exact).mul (radians inp.sample.cpr)
  | 1 => (Exact.ofWord inp.sample.speed).mul (radians inp.sample.cpr)
  | 2 => (genSpeed inp ns).mul (radians inp.sample.cpr)
  | 3 => (⟨inp.genDv * 10 ^ 18, ns * ns, -32⟩ : Exact).mul (Exact.ofWord ka)
  | 4 => cur.1
  | 5 => cur.2
  | 6 => ⟨fieldLE inp.payload 8 4, 1000, 0⟩
  | n => stageLane u1 (n - 16)

/-- The age of a measurement entry's source (R117): the channel's, the record's, or 0. -/
def measureAge (inp : ServoInput) (src : Nat) : Nat :=
  match src with
  | 0 | 1 => inp.sample.age
  | 4 | 5 | 6 => inp.age
  | _ => 0

/-- The measurement vector of a law at its stage exponent (R113). -/
def measureVec (w : LawWire) (inp : ServoInput) (ns : Nat) (iFs ka : Word) (u1 : Stage) : Stage :=
  ⟨Lanes.gen (fun j => match w.src[j]? with
    | some (src, scale) => (((measure inp ns iFs ka u1 src).mul (Exact.ofWord scale)).store w.yExp).1
    | none => 0), BitVec.ofInt 8 w.yExp⟩

/-- The ages of a law's measurement entries. -/
def measureAges (w : LawWire) (inp : ServoInput) : List Nat := w.src.map (fun p => measureAge inp p.1)

/-- The number of update instants a passage has (R124, R152). -/
def updatesOf (timing : Word) : Nat := match timing.bits 0 2 with
  | 0 => 1
  | 1 => 2
  | _ => 4

/-- The APPLY instant of an instance at the basic level (R128). -/
def State.applyAt (s : State) (i : Nat) : Nat :=
  let t := s.axCfg i 0x0C
  applyInstant s.periodNs (updatesOf t) (ringPoints s.image.period).2.2 (t.bits 8 8 * 10)

/-- The report of the node's application instant (R129): it speaks of the reference of the passage before, and is used only where the
instance ran in that passage, as it released no reference in any other (DESIGN CHOICE, log 111). DELAY takes the low 24 bits,
which its field has (R153). -/
def State.delayReport (s : State) (i : Nat) (inp : ServoInput) : State :=
  let a := s.axis i
  let nstat := fieldLE inp.payload 32 2
  if inp.age ≠ 0 ∨ nstat.testBit 4 ∨ a.ranAt ≠ some (s.tt.passage - 1) then s
  else
    let applied := fieldLE inp.payload 28 4
    let expert := (s.axCfg i 0x00).bit 0
    let d := if expert then applied % 2 ^ 24 else s.applyAt i
    s.setAxis i { a with
      delay := d
      dev := a.dev || (!expert && applied != s.applyAt i)
      delayMax := max a.delayMax d }

/-- The 32-byte downstream servo payload (R125). -/
def servoPayload (va vb : BitVec 24) (enable fixed : Bool) (apply : Nat) : List Byte :=
  bytesLE 4 (va.signExtend 32).toNat ++ bytesLE 4 (vb.signExtend 32).toNat ++
    [BitVec.ofNat 8 (bitNat enable + 2 * bitNat fixed), 0, 0, 0] ++ bytesLE 4 apply ++ bytesLE 16 0

/-- The supervision of one evaluation (R142): the filtered residual, the count, and whether a trip is due. -/
def superviseWith (a : Axis) (r thresh : Word) (shift count : Nat) : Axis :=
  let f := filterResidual a.resid r thresh shift
  let beyond := vwLt thresh f
  let n := if beyond then satAdd 255 a.supCount 1 else 0
  { a with resid := f, warn := beyond, supCount := n,
           tripDue := a.tripDue || (decide (n = count) && decide (a.supCount ≠ count)) }

/-- The residual that SRC names, among the innovations; none for a plausibility residual (R142). -/
def Axis.residualOf (a : Axis) (src : Nat) : Option Word :=
  if src < 8 then some (stageWord a.inn1 src)
  else if src < 16 then some (stageWord a.inn2 (src - 8))
  else none

/-- The reaction to a feedback fault of the instance's channel, in each passage in which it stands (R146). -/
def State.feedbackCheck (s : State) (i ch : Nat) : State :=
  if s.fbFault ch ≠ 0 ∧ (s.axis i).st ≠ .disabled then s.raise i ⟨s.axReact i, 3⟩ else s

/-- The reaction to the input age of a passage (R145). -/
def State.ageCheck (s : State) (i age : Nat) : State :=
  let a := s.axis i
  let s1 := s.setAxis i { a with age := age, stalePassages := if 0 < age then satAdd 0xFFFF a.stalePassages 1 else a.stalePassages }
  if (s.axCfg i 0x08).bits 4 4 < age ∧ a.st ≠ .disabled then s1.raise i ⟨s.axReact i, 2⟩ else s1

/-- The limits of law 1's outputs in the region whose set SEL names (R120, R122). -/
def State.law1Limits (s : State) (i : Nat) (w : ServoWire) : List (Option Word) :=
  let r := (s.axis i).limitRegion
  if w.form then (nthD [] w.uLim r).map some
  else [some ((Tab.get none (s.axis i).iMax r).getD (nthD 0 w.iMax r))]

/-- An exact real as a value word (R148). -/
def Exact.word (x : Exact) : Word := normWord x.n x.d x.k

/-- The 192 bytes of an acquisition record (R326): the passage number, zeros, and one word for each variable. -/
def acqRecordBytes (passage : Word) (vars : List Word) : List Byte :=
  bytesLE 4 passage.toNat ++ bytesLE 28 0 ++ vars.flatMap (fun w => bytesLE 4 w.toNat)

/-- The variables that a servo's passage produces (R327), in the order of their codes: the inputs, the applied voltages `v`
of the last limit, and what the passage has left in the instance. -/
def State.servoVars (s : State) (i : Nat) (inp : ServoInput) (v : Stage) : List Word :=
  let a := s.axis i
  let m (src : Nat) : Word :=
    (measure inp s.periodNs (s.axCfg i 0x94) (s.cfgW (pfOff i 0x2C)) Stage.zero src).word
  [BitVec.ofInt 32 inp.sample.total, inp.sample.speed, BitVec.ofInt 32 inp.posErr, (genSpeed inp s.periodNs).word, m 4, m 5, stageWord v 0,
    stageWord v 1] ++ (List.range 4).map (stageWord a.uSat1) ++
  [a.resid, BitVec.ofNat 32 a.vbus, a.temp.signExtend 32, BitVec.ofNat 32 a.age] ++
  (List.range 24).map (fun j => stageWord (vecBlock a.xc1 (j / 8)) (j % 8))

/-- The word that SELLD loads for an instance's selector (R368); the bits that SELLD ignores are free. -/
def State.selectorLine (s : State) (i : Nat) (w : ServoWire) : Line :=
  let a := s.axis i
  Lanes.gen (fun k =>
    let x : Word := (Config.free (s.freeCtr + k)).setWidth 32
    match k with
    | 0 => x.setBits 0 13 w.base
    | 1 => x.setBits 0 10 w.stride
    | 2 => ((x.setBits 0 4 a.sel).setBits 4 4 a.nxt).setBits 8 8 a.w
    | _ => x)

/-- The 20 words of a state record (R448): `old` is the instance at the start of the passage, `rec32` its downstream payload.
Word 17, which has no bit layout, is free (log 7). -/
def State.stateRecordBytes (s : State) (i : Nat) (w : ServoWire) (inp : ServoInput) (old : Axis) (rec32 : List Byte) :
    List Byte :=
  let a := s.axis i
  let y (l : LawWire) (u : Stage) : Stage := measureVec l inp s.periodNs (s.axCfg i 0x94) (s.cfgW (pfOff i 0x2C)) u
  let ages (l : LawWire) : List Nat := ((measureAges l inp) ++ List.replicate 8 0).take 8
  let nibbles := ages w.law1 ++ (match w.law2 with
    | some l => ages l
    | none => List.replicate 8 0)
  let stages := [y w.law1 Stage.zero, match w.law2 with
    | some l => y l a.uSat1
    | none => Stage.zero]
  let blocks (x : List Stage) : List Stage := (List.range 3).map (vecBlock x)
  let bytes (x : List Stage) : List Byte := x.flatMap (fun v => lineBytes (lineOfStage v))
  bytesLE 2 i ++ [BitVec.ofNat 8 a.st.code, BitVec.ofNat 8 a.age] ++ bytesLE 4 s.tt.passage.toNat ++
    bytesLE 8 (nibbles.foldr (fun n acc => n + 16 * acc) 0) ++ bytesLE 16 0 ++
    bytes (stages ++ blocks old.xp1 ++ blocks old.xp2) ++ lineBytes (s.selectorLine i w) ++
    bytes (blocks a.xp1 ++ blocks a.xp2) ++ rec32 ++
    (List.range 4).flatMap (fun k => bytesLE 8 (Config.free (s.freeCtr + 8 + k)).toNat) ++ bytesLE 64 0

/-- The records that a servo's passage leaves for the image's MOVEs: for the acquisition block (R326) and, in a team, for the
rope (R448). -/
def State.servoRecords (s : State) (i : Nat) (w : ServoWire) (inp : ServoInput) (v : Stage) (old : Axis) (rec32 : List Byte) :
    State :=
  let s1 := s.store' w.acqAddr (acqRecordBytes s.tt.passage (s.servoVars i inp v))
  match w.stateAddr with
  | some x => ({ s1 with freeCtr := s1.freeCtr + 12 }).store' x (s.stateRecordBytes i w inp old rec32)
  | none => s1

/-- A state in which law 1 drives the outputs (R130): the preset of R137 belongs to the first such passage. -/
def AxSt.automatic : AxSt → Bool
  | .auto | .hold | .qstop => true
  | _ => false

/-- Both laws, the limits and the output frame of one passage (R112, R115): the instance, the limited voltages of the last
law, and the two voltages of its output frame. -/
def State.runLaws (s : State) (i : Nat) (w : ServoWire) (inp : ServoInput) (noScale : BitVec 24 × BitVec 24) :
    Axis × Stage × BitVec 24 × BitVec 24 :=
  let a := s.axis i
  let coef := s.coefficient i w
  let ns := s.periodNs
  let iFs := s.axCfg i 0x94
  let ka := s.cfgW (pfOff i 0x2C)
  let off := decide (a.st = .disabled ∨ a.st = .sto)
  let modLimit := (s.axCfg i 0x0C).bits 16 10
  -- law 1
  let y1 := measureVec w.law1 inp ns iFs ka Stage.zero
  let e1 := innovations coef w.law1 a.xp1 y1 (measureAges w.law1 inp)
  let xc1 := corrected coef w.law1 a.xp1 e1
  let u1a := lawOutput coef w.law1 xc1
  let xc1 := if a.firstAuto ∧ a.st.automatic then presetStates coef w.presets a.manual u1a w.law1.outs xc1 else xc1
  let u1b := if a.st = .manual then stageOf u1a.e.toInt a.manual else lawOutput coef w.law1 xc1
  let u1b := match s.brakeOverride i with
    | some x => { u1b with m := u1b.m.set 0 (x.store u1b.e.toInt).1 }
    | none => u1b
  let u1c := if off then { u1b with m := Lanes.fill 0 } else u1b
  let circle (u : Stage) : Stage × Bool := voltageCircle u modLimit a.vbus
  let lim1 := if w.law2.isSome then clampOutputs u1c (s.law1Limits i w)
    else
      let c := clampOutputs u1c (none :: none :: (s.law1Limits i w).drop 2)
      let v := circle c.1
      (v.1, c.2 || v.2)
  let u1 := lim1.1
  let a1 := { a with xp1 := predicted coef w.law1 xc1 u1, xc1 := xc1, inn1 := e1, uSat1 := u1, firstAuto := false,
                     sat := lim1.2 }
  -- law 2
  let r2 : Axis × Stage := match w.law2 with
    | none => (a1, u1)
    | some w2 =>
      let y2 := measureVec w2 inp ns iFs ka u1
      let e2 := innovations coef w2 a.xp2 y2 (measureAges w2 inp)
      let xc2 := corrected coef w2 a.xp2 e2
      let u2a := lawOutput coef w2 xc2
      let u2b := if off then { u2a with m := Lanes.fill 0 } else u2a
      let v := circle u2b
      ({ a1 with xp2 := predicted coef w2 xc2 v.1, inn2 := e2, sat := a1.sat || v.2 }, v.1)
  let polePairs := (s.axCfg i 0x90).bits 0 8
  let delay := if (s.axCfg i 0x00).bit 0 then a.delay else s.applyAt i
  let angle := inp.angle + angleAdvance inp.sample.speed polePairs delay inp.sample.cpr
  let v := invPark r2.2 (s.axCfg i 0x98) angle noScale
  (r2.1, r2.2, v.1, v.2)

/-- The scheduling variable of a passage (R138). -/
def State.sigma (s : State) (i : Nat) (w : ServoWire) (inp : ServoInput) : Word :=
  let cfg := s.axCfg i 0x30
  let v := cfg.bits 0 6
  let a := s.axis i
  let raw := if v < 8 then
      stageWord (measureVec w.law1 inp s.periodNs (s.axCfg i 0x94) (s.cfgW (pfOff i 0x2C)) Stage.zero) v
    else stageWord (vecBlock a.xc1 ((v - 8) / 8)) ((v - 8) % 8)
  if cfg.bit 7 then vwAbs raw else raw

/-- What the input stage takes in (R112-R114). -/
def State.servoInput (s : State) (i : Nat) (w : ServoWire) : ServoInput :=
  let payload := s.mem.bytes w.inAddr 48
  let smp := s.sample w.channel
  let g := s.gen i
  let motor := s.axCfg i 0x90
  let axisPos := smp.total + g.offset
  let diff := g.p / oneCount - axisPos
  let lim : Int := 2 ^ 31 - 1
  let err := if lim < diff then lim else if diff < -lim then -lim else diff
  ⟨payload, fieldLE payload 36 1 % 16, smp, err, g.dir * g.v, g.dv,
    elecAngle (if smp.cpr = 0 then 0 else (smp.total % smp.cpr).toNat) smp.cpr (motor.bits 0 8) (motor.bits 8 24)⟩

/-- One passage of a servo instance (R112), once in a passage and in every state but FAULTED. -/
def State.servoPassage (s : State) (i : Nat) (noScale : BitVec 24 × BitVec 24) : State :=
  match s.servoWire i with
  | none => s
  | some w =>
    let a := s.axis i
    if a.st = .faulted ∨ a.ranAt = some s.tt.passage then s
    else
      let inp := s.servoInput i w
      let s := if inp.age = 0 then
          s.setAxis i { a with vbus := fieldLE inp.payload 8 4
                               nstat := BitVec.ofNat 16 (fieldLE inp.payload 32 2)
                               temp := BitVec.ofNat 16 (fieldLE inp.payload 34 2) }
        else s
      let s := s.delayReport i inp
      let r := s.runLaws i w inp noScale
      let ctl := s.axCfg i 0x00
      let rec32 := servoPayload r.2.2.1 r.2.2.2 (match a.st with
        | .disabled | .sto => false
        | _ => true) (!ctl.bit 0) (s.applyAt i)
      let s := (s.setAxis i { r.1 with ranAt := some s.tt.passage }).store' w.recAddr rec32
      -- supervision
      let sup := s.axCfg i 0x20
      let s := match (s.axis i).residualOf (sup.bits 0 5) with
        | some x => s.setAxis i (superviseWith (s.axis i) x (s.axCfg i 0x24) (sup.bits 8 4) (sup.bits 16 8))
        | none => s
      let ages := measureAges w.law1 inp ++ (match w.law2 with
        | some w2 => measureAges w2 inp
        | none => [])
      let s := (s.ageCheck i (ages.foldl max 0)).feedbackCheck i w.channel
      let s := s.servoRecords i w inp r.2.1 a rec32
      s.evaluateSchedule i (s.sigma i w inp)

/-- A plausibility residual evaluated in a passage in which the model's entry runs (R142, R143). -/
def State.plausibility (s : State) (i : Nat) : State :=
  match s.servoWire i with
  | none => s
  | some w =>
    let sup := s.axCfg i 0x20
    match w.residuals[sup.bits 0 5 - 16]? with
    | none => s
    | some (word, lane) =>
      if sup.bits 0 5 < 16 then s
      else
        let x := stageWord (stageOfLine (s.mem.line (opAddr (s.aeOf i) word))) lane
        s.setAxis i (superviseWith (s.axis i) x (s.axCfg i 0x24) (sup.bits 8 4) (sup.bits 16 8))

/-! ### Retuning -/

/-- One non-zero entry of the basic layout: the matrix's word offset, columns, row, column and value (R120). -/
structure SetEntry where
  word : Nat
  lane : Nat
  value : Exact
  deriving DecidableEq, Repr

/-- `1 - x` for an exact real. -/
def Exact.oneMinus (x : Exact) : Exact :=
  if 0 ≤ x.k then ⟨x.d - x.n * 2 ^ x.k.toNat, x.d, 0⟩
  else ⟨x.d * 2 ^ (-x.k).toNat - x.n, x.d, x.k⟩

/-- A negated real. -/
def Exact.neg (x : Exact) : Exact := { x with n := -x.n }

/-- The quotient by a positive value word. -/
def Exact.quot (x : Exact) (w : Word) : Exact := ⟨x.n, x.d * w.mant.toNat, x.k - (w.expo - 23)⟩

/-- One cell of a matrix as a set entry. -/
def cell (m : MatWire) (cols r j : Nat) (v : Exact) : SetEntry := ⟨m.off + r / 8 * cols + j, r % 8, v⟩

/-- The non-zero entries of R120 for a cascade row of value words KP KV TN KC_D TC_D KC_Q TC_Q. -/
def cascadeEntries (w : ServoWire) (row : List Word) (ns : Nat) : List SetEntry :=
  let kp := Exact.ofWord (nthD 0 row 0)
  let kvw := nthD 0 row 1
  let kv := Exact.ofWord kvw
  let tn := nthD 0 row 2
  let kcd := Exact.ofWord (nthD 0 row 3)
  let kcq := Exact.ofWord (nthD 0 row 5)
  let t : Exact := ⟨ns, 10 ^ 9, 0⟩
  let one : Exact := ⟨1, 1, 0⟩
  let l1 := w.law1
  let law1 : List SetEntry :=
    (List.range 4).map (fun j => cell l1.c l1.states j j one) ++
    (List.range 4).map (fun j => cell l1.l l1.meas j j one) ++
    [cell l1.k l1.states 0 0 (kp.mul kv).neg, cell l1.k l1.states 0 1 kv, cell l1.k l1.states 0 2 kv.neg,
     cell l1.k l1.states 0 3 one.neg, cell l1.k l1.states 0 4 kv.neg,
     cell l1.a l1.states 0 0 one, cell l1.a l1.states 0 1 t.neg, cell l1.a l1.states 0 2 t,
     cell l1.a l1.states 1 1 one, cell l1.a l1.states 2 2 one, cell l1.a l1.states 3 3 one,
     cell l1.a l1.states 4 4 (t.quot tn).oneMinus, cell l1.a l1.states 4 3 ((t.quot tn).quot kvw).neg,
     cell l1.b l1.outs 4 0 ((t.quot tn).quot kvw)]
  let preset : List SetEntry := match nthD none w.presets 0 with
    | some p => [⟨p.word, p.lane, one.quot kvw⟩]
    | none => []
  let law2 : List SetEntry := match w.law2 with
    | none => []
    | some l2 =>
      let tcd := nthD 0 row 4
      let tcq := nthD 0 row 6
      (List.range 3).map (fun j => cell l2.c l2.states j j one) ++
      (List.range 3).map (fun j => cell l2.l l2.meas j j one) ++
      [cell l2.k l2.states 0 0 kcd, cell l2.k l2.states 0 3 kcd.neg,
       cell l2.k l2.states 1 1 kcq, cell l2.k l2.states 1 2 kcq.neg, cell l2.k l2.states 1 4 kcq.neg,
       cell l2.a l2.states 0 0 one, cell l2.a l2.states 1 1 one, cell l2.a l2.states 2 2 one,
       cell l2.a l2.states 3 3 (t.quot tcd).oneMinus, cell l2.a l2.states 4 4 (t.quot tcq).oneMinus,
       cell l2.b l2.outs 3 0 ((t.quot tcd).quot (nthD 0 row 3)),
       cell l2.b l2.outs 4 1 ((t.quot tcq).quot (nthD 0 row 5))]
  law1 ++ preset ++ law2

/-- The stage exponent that the image assigns to a word of the set (R121). -/
def setExp (w : ServoWire) (o : Nat) : Int := nthD 0 w.setExps o

/-- The converted set: STRIDE words (R120, R121). -/
def cascadeSet (w : ServoWire) (entries : List SetEntry) : List Line :=
  (List.range w.stride).map (fun o =>
    let e := setExp w o
    let st : Stage := ⟨Lanes.gen (fun k =>
      match entries.find? (fun x => x.word == o && x.lane == k) with
      | some x => (x.value.store e).1
      | none => 0), BitVec.ofInt 8 e⟩
    lineOfStage st)

/-- Whether an entry of a conversion would saturate (R121). -/
def cascadeSaturates (w : ServoWire) (entries : List SetEntry) : Bool :=
  entries.any (fun x => (x.value.store (setExp w x.word)).2)

/-- A time in passages compared: `x ≥ 2 T` for a value word x in seconds (R121). -/
def atLeastTwoT (x : Word) (ns : Nat) : Bool :=
  -- x * 10^9 ≥ 2 ns
  let t := x.expo - 23
  if 0 ≤ t then decide ((2 * ns : Int) ≤ x.mant * 10 ^ 9 * 2 ^ t.toNat)
  else decide ((2 * ns : Int) * 2 ^ (-t).toNat ≤ x.mant * 10 ^ 9)

/-- Whether a cascade row is in range (R121). -/
def cascadeInRange (row : List Word) (ns : Nat) : Bool :=
  let at_ (k : Nat) : Word := nthD 0 row k
  decide (0 ≤ (at_ 0).mant) && decide (0 < (at_ 1).mant) && decide (0 < (at_ 3).mant) && decide (0 < (at_ 5).mant) &&
    decide (0 < (at_ 7).mant) && atLeastTwoT (at_ 2) ns && atLeastTwoT (at_ 4) ns && atLeastTwoT (at_ 6) ns

/-- The committed cascade row of a region (R159). -/
def State.cascadeRow (s : State) (i k : Nat) : List Word :=
  (List.range 8).map (fun x => s.axCfg i (0x200 + 32 * k + 4 * x))

/-- The slots that the mapped regions of an instance use (R141). -/
def State.usedSlots (s : State) (i : Nat) : List Nat := (List.range (s.axRegions i)).map (s.axMap i)

/-- The slot an AX_RETUNE of region `k` loads: MAP[k], or for the current region the lowest unmapped slot (R141). -/
def State.retuneSlot (s : State) (i k : Nat) : Option Nat :=
  if k = (s.axis i).region then (List.range 16).find? (fun f => !(s.usedSlots i).contains f) else some (s.axMap i k)

/-- Whether AX_SET_LOAD may load slot `f` for region `k` (R141). -/
def State.slotSuits (s : State) (i k f : Nat) : Bool :=
  !(s.usedSlots i).contains f || (s.axMap i k == f && k != (s.axis i).region)

/-- The start of a set load (R141): the copy is put into use 64 passages later. -/
def State.startLoad (s : State) (i k f : Nat) (words : List Line) (iMax : Option Word) : State :=
  s.setAxis i { s.axis i with load := some ⟨k, f, s.tt.passage + 64, words, iMax⟩ }

/-- The words of a set stored into slot `f` of the engine's operand memory. -/
def State.storeSet (s : State) (ae base stride f : Nat) : List Line → Nat → State
  | [], _ => s
  | l :: r, n =>
    State.storeSet (s.store' (opAddr ae (base + f * stride + n)) (lineBytes l)) ae base stride f r (n + 1)

/-- The completion of a set load (R141): the slot holds the set, the region is mapped to it, and a blend begins when the
region is the current one. -/
def State.finishLoad (s : State) (i : Nat) (w : ServoWire) (l : SetLoad) : State :=
  let old := s.axMap i l.region
  let s := s.storeSet (s.aeOf i) w.base w.stride l.slot l.words 0
  let s := s.setAxMap i l.region l.slot
  let a := s.axis i
  let a := { a with load := none, loaded := if a.loaded.contains l.slot then a.loaded else a.loaded ++ [l.slot], iMax := match l.iMax with
    | some v => Tab.put none a.iMax l.region (some v)
    | none => a.iMax }
  if l.region ≠ a.region then s.setAxis i a
  else
    let b := s.axBlend i
    if b ≤ 1 then s.setAxis i { a with sel := l.slot, nxt := l.slot, w := 0 }
    else s.setAxis i { a with sel := old, nxt := l.slot, w := 256 / b, blend := some ⟨1, b, l.region⟩ }

/-! ### The commit of a page -/

/-- Value words in strictly ascending order. -/
def ascending : List Word → Bool
  | a :: b :: r => vwLt a b && ascending (b :: r)
  | _ => true

/-- Whether no two of a list are equal. -/
def allDistinct : List Nat → Bool
  | [] => true
  | a :: r => !r.contains a && allDistinct r

/-- Whether SRC names a residual that the instance has (R134, R142). An instance without laws, which evaluates none, takes every value of
the field that its level allows (DESIGN CHOICE, log 115). -/
def srcNamed (wire : Option ServoWire) (expert : Bool) (src : Nat) : Bool :=
  match wire with
  | none => decide (src < 16) || (expert && decide (src < 20))
  | some w =>
    if src < 8 then decide (src < w.law1.meas)
    else if src < 16 then (match w.law2 with
      | some l2 => decide (src - 8 < l2.meas)
      | none => false)
    else expert && decide (src < 20) && decide (src - 16 < w.residuals.length)

/-- Whether VAR names a measurement entry or state of law 1 (R134, R138); an instance without laws takes every value of the field
(DESIGN CHOICE, log 115). -/
def varNamed (wire : Option ServoWire) (v : Nat) : Bool :=
  decide (v < 32) && (match wire with
    | none => true
    | some w => if v < 8 then decide (v < w.law1.meas) else decide (v - 8 < w.law1.states))

/-- Whether a staged axis page is in range (R134, R138, R142, R145, R152-R160). -/
def State.axPageInRange (s : State) (i : Nat) (wire : Option ServoWire) : Bool :=
  let st (o : Nat) : Word := s.axStg i o
  let sched := st 0x30
  let regions := sched.bits 16 5
  let sup := st 0x20
  let bounds := (List.range (regions - 1)).map (fun k => st (0x40 + 4 * k))
  decide ((st 0x08).bits 4 4 ≤ 14) &&
    decide (500 ≤ (st 0x0C).bits 16 10 ∧ (st 0x0C).bits 16 10 ≤ 1000) && (st 0x0C).bits 0 2 != 3 &&
    decide (1 ≤ sup.bits 16 8) && decide (sup.bits 8 4 ≤ 8) &&
    srcNamed wire ((st 0x00).bit 3) (sup.bits 0 5) && decide (1 ≤ regions ∧ regions ≤ 16) && varNamed wire (sched.bits 0 6) &&
    decide (0 ≤ (st 0x34).mant) && ascending bounds &&
    allDistinct ((List.range regions).map (mapOf (st 0x38) (st 0x3C))) && decide (1 ≤ (st 0x90).bits 0 8)

/-- Whether a staged page changes a field that an enabled instance may not change (R134). -/
def State.axPageFixedChange (s : State) (i : Nat) : Bool :=
  let diff (o lo n : Nat) : Bool := (s.axStg i o).bits lo n != (s.axCfg i o).bits lo n
  diff 0x00 0 1 || diff 0x0C 0 2 || diff 0x0C 8 8 || diff 0x30 16 5 || diff 0x38 0 32 || diff 0x3C 0 32 ||
    diff 0x90 0 32 || diff 0x94 0 32 || diff 0x98 0 32

/-- The manual output after a commit: at the basic level only newly staged values change it (R135). A word staged again with the value
in use is not new, and the transfer level in use before the commit decides (DESIGN CHOICE, log 114). -/
def State.commitManual (s : State) (i : Nat) : List Word :=
  let a := s.axis i
  (List.range 4).map (fun j =>
    let o := 0x80 + 4 * j
    if (s.axCfg i 0x00).bit 2 ∨ s.axStg i o ≠ s.axCfg i o then s.axStg i o else nthD 0 a.manual j)

end Sys2Proof.Machine
end

