-- ==== Sys2Proof/Machine/AxisCmds.lean ====
section
/-! DEFINITION. What the axis commands (R133-R141, R147), the profile commands (R168-R191) and the feedback commands
(R235, R236) check and do, as the refusals they meet and the state they leave. `held`, `released`, `blocked` are the
safety island's answers (R38, R147, R478). -/

namespace Sys2Proof.Machine

/-! ### Swaps and instances -/

/-- Whether two images differ in more than entries, tiers, release table and code (R74). -/
def sameMap (a b : Image) : Bool :=
  a.axmap == b.axmap && a.nodes == b.nodes && a.rings == b.rings && a.circ == b.circ

/-- Whether a swap between two images requires an instance to be disabled (R74). -/
def swapNeeds (a b : Image) (expert : Bool) (i : Nat) : Bool :=
  if a.period ≠ b.period then true
  else if sameMap a b then false
  else if !expert then true
  else
    let wa := Tab.get 0 a.axmap i
    let wb := Tab.get 0 b.axmap i
    let changed (r : Nat) : Bool := nthD 0 a.nodes r != nthD 0 b.nodes r || nthD 0 a.circ r != nthD 0 b.circ r ||
      a.rings.testBit r != b.rings.testBit r
    wa != wb || (wa.bit 31 && changed (wa.bits 28 2)) || (wb.bit 31 && changed (wb.bits 28 2))

/-- TT.CONTROL.LEVEL (R79). -/
def State.ttExpert (s : State) : Bool := (s.cfgW 0x10000).bit 0

/-- Whether a pending swap requires an instance to be disabled (R74). -/
def State.swapForbids (s : State) (i : Nat) : Bool :=
  match s.tt.shadowState, s.tt.shadow with
  | .pending, some b => swapNeeds s.image b s.ttExpert i
  | _, _ => false

/-! ### Axis commands -/

/-- Whether an axis number names no mapped instance, and whether its instance is FAULTED. -/
def State.axAbsent (s : State) (i : Nat) : Bool := !(s.mapped i)
def State.axFaulted (s : State) (i : Nat) : Bool := decide ((s.axis i).st = .faulted)

/-- AX_ENABLE (R133, R135). -/
def cmdAxEnable (held : Bool) (i mode : Nat) (s : State) : Refusals × State :=
  let a := s.axis i
  ({ notPresent := s.axAbsent i, faulted := s.axFaulted i, range := decide (1 < mode)
     illegal := decide (a.st ≠ .disabled) || held || s.faults.pkg || s.swapForbids i },
   if mode = 1 then
     (s.setAxis i { a with manual := (List.range 4).map (fun j => s.axCfg i (0x80 + 4 * j)) }).enterAx i .manual
   else s.enterAx i .auto)

/-- AX_DISABLE (R130, R133): it leaves HOLD, QSTOP and STO, and their reaction is latched no longer, since AX_CLEAR is refused in
DISABLED (DESIGN CHOICE, log 112). A latched WARN stays (R144). -/
def cmdAxDisable (i : Nat) (s : State) : Refusals × State :=
  let a := s.axis i
  let keep := match a.latched with
    | some l => if l.react = 0 then some l else none
    | none => none
  ({ notPresent := s.axAbsent i, faulted := s.axFaulted i },
   if a.st = .disabled then s else (s.setAxis i { a with latched := keep }).enterAx i .disabled)

/-- AX_MODE (R133, R135, R137): an instance without laws has no output without a preset. -/
def cmdAxMode (i mode noPreset : Nat) (s : State) : Refusals × State :=
  let a := s.axis i
  let expert := (s.axCfg i 0x00).bit 2
  let presets := match s.servoWire i with
    | some w => (List.range w.law1.outs).all (fun j => (nthD none w.presets j).isSome)
    | none => true
  ({ notPresent := s.axAbsent i, faulted := s.axFaulted i, range := decide (1 < mode) || decide (1 < noPreset)
     illegal := !(decide (a.st = .auto) || decide (a.st = .manual)) || (noPreset == 1 && !expert) ||
       (mode == 0 && decide (a.st = .manual) && !presets && noPreset == 0) },
   if mode = 1 then
     if a.st = .manual then s
     else
       let man := if expert then (List.range 4).map (fun j => s.axCfg i (0x80 + 4 * j))
         else (List.range 4).map (stageWord a.uSat1)
       (s.setAxis i { a with manual := man }).enterAx i .manual
   else if a.st = .auto then s
   else (s.setAxis i { a with firstAuto := noPreset == 0 }).enterAx i .auto)

/-- AX_COMMIT (R134). -/
def cmdAxCommit (i : Nat) (s : State) : Refusals × State :=
  let a := s.axis i
  let lockSet := (s.axCfg i 0x00).bit 31
  ({ notPresent := s.axAbsent i, faulted := s.axFaulted i
     locked := lockSet && (s.axStg i 0x00).bits 0 4 != (s.axCfg i 0x00).bits 0 4
     range := !s.axPageInRange i (s.servoWire i)
     illegal := a.st.enabled && s.axPageFixedChange i },
   let man := if a.st = .manual then s.commitManual i else a.manual
   let s1 := s.commitRegs (axisStagedOffs.map (axOff i))
   (s1.setAxis i { a with manual := man, staged := false }).settleSelector i)

/-- Whether a set load for region `k` into slot `f` is refused (R141). -/
def State.loadRefused (s : State) (i : Nat) (slot : Option Nat) : Bool :=
  let a := s.axis i
  a.blend.isSome || a.load.isSome || a.decided.isSome ||
    (match slot with
     | none => true
     | some f => f == a.sel || f == a.nxt)

/-- AX_RETUNE (R120, R121, R133, R141). -/
def cmdAxRetune (i k : Nat) (s : State) : Refusals × State :=
  let row := s.cascadeRow i k
  match s.servoWire i with
  | none => ({ notPresent := s.axAbsent i, faulted := s.axFaulted i, range := decide (s.axRegions i ≤ k)
               illegal := true }, s)
  | some w =>
    let entries := cascadeEntries w row s.periodNs
    ({ notPresent := s.axAbsent i, faulted := s.axFaulted i
       range := decide (s.axRegions i ≤ k) || !cascadeInRange row s.periodNs || cascadeSaturates w entries
       illegal := w.form || (s.axCfg i 0x00).bit 1 || s.loadRefused i (s.retuneSlot i k) },
     match s.retuneSlot i k with
     | some f => s.startLoad i k f (cascadeSet w entries) (some (nthD 0 row 7))
     | none => s)

/-- The words of the staging area of an instance (R141, R154). -/
def State.stagingSet (s : State) (w : ServoWire) : List Line :=
  (List.range w.stride).map (fun n => s.mem.line (w.stage + 32 * n))

/-- AX_SET_LOAD (R133, R141). -/
def cmdAxSetLoad (i k f : Nat) (s : State) : Refusals × State :=
  match s.servoWire i with
  | none => ({ notPresent := s.axAbsent i, faulted := s.axFaulted i
               range := decide (s.axRegions i ≤ k) || decide (15 < f), illegal := true }, s)
  | some w =>
    ({ notPresent := s.axAbsent i, faulted := s.axFaulted i
       range := decide (s.axRegions i ≤ k) || decide (15 < f)
       illegal := !(s.axCfg i 0x00).bit 1 ||
         s.loadRefused i (if s.slotSuits i k f then some f else none) },
     s.startLoad i k f (s.stagingSet w) none)

/-- AX_CLEAR (R147, R479): `released` says that the safety island reports the instance's STO as released; a reaction of the
island itself, CAUSE 0, has ended then. -/
def cmdAxClear (released : Bool) (i : Nat) (s : State) : Refusals × State :=
  let a := s.axis i
  let ended := match a.latched with
    | some l => if l.cause = 0 then released else s.causeEnded i l.cause
    | none => true
  let next : AxSt := if a.st = .sto then .disabled else .auto
  ({ notPresent := s.axAbsent i, faulted := s.axFaulted i
     illegal := !(decide (a.st = .hold) || decide (a.st = .qstop) || decide (a.st = .sto)) || !ended ||
       (decide (a.st = .sto) && !released) },
   (s.setAxis i { a with latched := none, supCount := 0 }).enterAx i next)

/-- SUPERVISION_TRIP (R142): the due trip raises REACT with CAUSE 1; none is raised in DISABLED (R131). -/
def State.supervisionTrip (s : State) (i : Nat) : State :=
  let a := s.axis i
  if !a.tripDue then s
  else
    let s1 := s.setAxis i { a with tripDue := false, trips := satAdd 0xFFFF a.trips 1 }
    if a.st = .disabled then s.setAxis i { a with tripDue := false } else s1.raise i ⟨s.axReact i, 1⟩

/-! ### Profile generators -/

/-- The profile values of a page as committed (R165, R209). -/
def State.profileRegs (s : State) (g : Nat) : ProfileRegs :=
  let r (o : Nat) : Word := s.cfgW (pfOff g o)
  ⟨r 0x0C, r 0x10, r 0x14, r 0x18, r 0x1C, r 0x20, r 0x24, r 0x28⟩

/-- The values in use of a generator `x` of page `g`: those that wait for the next move left aside (R174). -/
def State.valuesOf (s : State) (g : Nat) (x : Gen) : ProfileRegs := x.inUse.getD (s.profileRegs g)

/-- The values in use, in the units of R163. -/
def State.profile (s : State) (g : Nat) : Profile := (s.valuesOf g (s.gen g)).units s.periodNs

/-- Whether the MV commands of a generator are refused (R177, R181): its instance is in MANUAL, or a ring stepper waits for the
node's count. -/
def State.mvBarred (s : State) (g : Nat) : Bool := (decide (g < 512) && decide ((s.axis g).st = .manual)) || (s.gen g).adopt

/-- Whether a generator does not exist (R162). -/
def State.genAbsent (s : State) (g : Nat) : Bool := if g < 512 then !(s.mapped g) else decide (528 ≤ g)

/-- Whether a generator is that of a FAULTED instance (R172). -/
def State.genFaulted (s : State) (g : Nat) : Bool := decide (g < 512) && s.axFaulted g

/-- Whether the generator's axis is in control: AUTO, or an enabled channel (R172). -/
def State.genActive (s : State) (g : Nat) : Bool :=
  if g < 512 then decide ((s.axis g).st = .auto) else (s.chan (g - 512)).enabled

/-- WIDTH of a generator's channel (R203). -/
def State.width (s : State) (g : Nat) : Nat := (s.cfgW (chOff (g - 512) 0)).bits 24 8

/-- The rate limit of a local channel exceeded by a speed word (R168, R195). -/
def State.overRate (s : State) (g : Nat) (v : Word) : Bool :=
  decide (512 ≤ g) &&
    (let lim := max 40 (2 * s.width g)
     let t := v.expo - 23
     if 0 ≤ t then decide ((200000000 : Int) < v.mant * lim * 2 ^ t.toNat)
     else decide ((200000000 : Int) * 2 ^ (-t).toNat < v.mant * lim))

/-- A V_MAX refused by R168. -/
def State.vmaxBad (s : State) (g : Nat) (v : Word) : Bool :=
  decide (v.mant ≤ 0) || vwLt v (s.cfgW (pfOff g 0x0C)) || vwLt v (s.cfgW (pfOff g 0x10)) || s.overRate g v

/-- A whole count from a profile position, rounded half up (R168). -/
def wholeCount (p : Int) : Int := (p + 2 ^ 31) / oneCount

/-- The starting point of the next queued move, in counts (R168). -/
def Gen.startPoint (g : Gen) : Int :=
  match g.moves.getLast? with
  | some m => m.target
  | none => wholeCount g.p

/-- The starting point of the executing move, in counts (R168, R173). -/
def Gen.moveStart (g : Gen) : Int :=
  match g.current with
  | some m => m.start
  | none => wholeCount g.p

/-- Whether a direction heads into an active limit (R184). -/
def Gen.intoLimit (g : Gen) (d : Int) : Bool :=
  (decide (0 < d) && g.limP.level) || (decide (d < 0) && g.limN.level)

/-- MV_QUEUE (R168-R172, R184). -/
def cmdMvQueue (g : Nat) (target : Int) (vmax : Word) (relative blendIn : Bool) (s : State) : Refusals × State :=
  let x := s.gen g
  let start := x.startPoint
  let t := if relative then start + target else target
  ({ notPresent := s.genAbsent g, faulted := s.genFaulted g
     range := decide ((2 : Int) ^ 47 ≤ ((t - start).natAbs : Int)) || s.vmaxBad g vmax
     illegal := !(decide (x.gst = .idle) || decide (x.gst = .run)) || !s.genActive g || s.mvBarred g ||
       x.intoLimit (t - start)
     backpressure := decide (x.nFree = 0) },
   let m : Move := ⟨t, (speedUnits vmax s.periodNs).toNat, blendIn, false, true, false, start⟩
   s.setGen g { x with moves := x.moves ++ [m] })

/-- MV_CHANGE (R168, R173, R184): the distance of R168 counts from the starting point of the executing move. -/
def cmdMvChange (g : Nat) (target : Int) (vmax : Word) (chTarget chVmax : Bool) (s : State) : Refusals × State :=
  let x := s.gen g
  let f := s.profile g
  let expert := (s.cfgW (pfOff g 0)).bit 0
  let behind := decide (x.dir * (target * oneCount - x.p) < (f.stopDist x.v f.vstop : Int))
  let dirTo := target * oneCount - x.p
  let start := x.moveStart
  ({ notPresent := s.genAbsent g, faulted := s.genFaulted g
     range := (chTarget && decide ((2 : Int) ^ 47 ≤ ((target - start).natAbs : Int))) ||
       (chVmax && s.vmaxBad g vmax)
     illegal := decide (x.gst ≠ .run) || x.current.isNone || s.mvBarred g ||
       (chTarget && (x.intoLimit dirTo || (behind && !expert))) },
   let x1 := if chVmax then x.mapCurrent (fun m => { m with vmax := (speedUnits vmax s.periodNs).toNat }) else x
   s.setGen g (if chTarget then
       { (x1.mapCurrent (fun m => { m with target := target })) with braking := behind }
     else x1))

/-- The QUEUED slots freed (R171): a move that was to blend into one of them ends at V_STOP, with the clamped deceleration where it
could not otherwise. -/
def Gen.flushQueue (f : Profile) (x : Gen) : Gen :=
  let y := { x with moves := x.moves.filter (·.executing) }
  match x.current with
  | some m => if x.joint f m ≠ f.vstop ∧ y.tooFar f = true then y.clamp f else y
  | none => y

/-- MV_FLUSH (R171). -/
def cmdMvFlush (g : Nat) (s : State) : Refusals × State :=
  let x := s.gen g
  ({ notPresent := s.genAbsent g, faulted := s.genFaulted g, illegal := decide (x.gst = .home) || s.mvBarred g },
   s.setGen g (x.flushQueue (s.profile g)))

/-- MV_QSTOP (R177, R178, R181). -/
def cmdMvQstop (g : Nat) (s : State) : Refusals × State :=
  ({ notPresent := s.genAbsent g, faulted := s.genFaulted g, illegal := s.mvBarred g }, s.setGen g ((s.gen g).askStop .quick))

/-- The clocks of 5 ns since the latest rate release, by the present time (R192). -/
def State.chanClocks (s : State) (c : Nat) : Nat := (s.time.time - (s.chan c).relAt).toNat / 5

/-- The phase that a channel holds now: its phase at the release and the rate since (R192, R193). -/
def State.chanPhase (s : State) (c : Nat) : Int := (s.chan c).q + (s.chan c).rate * s.chanClocks c

/-- The step count of a channel: the integer part of its phase (R194, R204). -/
def State.chanCount (s : State) (c : Nat) : Int := s.chanPhase c / 2 ^ 48

/-- DIR_SETUP of a channel where it runs from the latest release (R195, R203), and the least distance of two delayed pulses. -/
def State.setupOf (s : State) (c : Nat) : Option Nat :=
  if (s.chan c).turned then some ((s.cfgW (chOff c 0)).bits 16 8) else none
def State.pulseGap (s : State) (c : Nat) : Nat := max 40 (2 * s.width (512 + c))

/-- The pulses that a channel has begun since the latest release (R195). -/
def State.newPulses (s : State) (c : Nat) : Nat :=
  pulsesBy (s.chan c).q (s.chan c).rate (s.setupOf c) (s.pulseGap c) (s.chanClocks c)

/-- The count of the pulses that a channel has begun, with their signs (R182, R195): the step count without the steps that
DIR_SETUP still holds back. -/
def State.chanPulses (s : State) (c : Nat) : Int :=
  (s.chan c).q / 2 ^ 48 + (if (s.chan c).rate < 0 then -1 else 1) * s.newPulses c

/-- The start of the latest pulse that a channel has begun (R195): a clock after its step goes out. -/
def State.lastPulse (s : State) (c : Nat) : Option U64 :=
  let x := s.chan c
  let n := s.newPulses c
  if n = 0 then x.pulseAt
  else some (x.relAt + BitVec.ofNat 64 (5 * (pulseClock x.q x.rate (s.setupOf c) (s.pulseGap c) n + 1)))

/-- The stop of a local channel's pulses (R180, R190, R196): a homing ends with HOME_ABORT. -/
def State.stopChannel (s : State) (c cause : Nat) : State :=
  let n := s.chanPulses c
  let ch := s.chan c
  let x := (s.gen (512 + c)).homeAbort 0x33
  let s1 := s.setChan c { ch with q := n * 2 ^ 48 + 2 ^ 47, rate := 0, rateNext := none, relAt := s.time.time
                                  stopFlag := true, stopCause := cause, turned := false, pulseAt := s.lastPulse c }
  s1.setGen (512 + c) { (x.flush) with
    p := (n + x.offset) * oneCount, v := 0, raw := n, homed := false, hstop := true, phase := .rest, stop := none
    gst := if x.gst = .track then .track else .idle }

/-- MV_HSTOP (R177, R179-R181): a servo takes the measured position of the passage as its profile position. -/
def cmdMvHstop (g : Nat) (s : State) : Refusals × State :=
  let x := ((s.gen g).homeAbort 0x33).flush
  let atRest (x : Gen) : Gen := { x with v := 0, phase := .rest, stop := none, hstop := true
                                         gst := if x.gst = .track then .track else .idle }
  ({ notPresent := s.genAbsent g, faulted := s.genFaulted g, illegal := s.mvBarred g },
   if 512 ≤ g then s.stopChannel (g - 512) 1
   else if s.kindOf g = 2 then s.setGen g { atRest x with homed := false, adopt := true, hstopRec := true }
   else s.setGen g { atRest x with toMeasured := true })

/-- The feedback channel of a generator's axis. -/
def State.genChannel (s : State) (g : Nat) : Option Nat :=
  if 512 ≤ g then none
  else if s.kindOf g = 1 then (s.servoWire g).map (·.channel)
  else (s.stepWire g).bind (·.channel)

/-- Whether a channel is an incremental one that reports index edges: an encoder, or a remote block in MODE 0 (R186). -/
def State.incremental (s : State) (ch : Nat) : Bool :=
  decide (ch < 16) || (decide (512 ≤ ch) && !(s.cfgW (remOff (ch - 512) 0)).bit 31)

/-- Whether a homing method is allowed on a generator (R186). -/
def State.methodAllowed (s : State) (g method dir : Nat) : Bool :=
  match method with
  | 0 | 1 => true
  | 2 | 3 => s.kindOf g == 1 && (match s.genChannel g with
      | some ch => s.incremental ch
      | none => false)
  | 4 =>
    let sw := s.cfgW (pfOff g 0x30)
    (if dir = 0 then sw.bits 8 8 else sw.bits 16 8) != 0xFF
  | _ => false

/-- MV_HOME (R186-R191): a flying reference that is armed gives way to the new homing (DESIGN CHOICE, log 118). -/
def cmdMvHome (g method dir : Nat) (vsearch : Word) (homePos : Int) (range : Nat) (fly : Bool) (s : State) :
    Refusals × State :=
  let x := s.gen g
  let expert := (s.cfgW (pfOff g 0)).bit 1
  let d : Int := if dir = 0 then 1 else -1
  ({ notPresent := s.genAbsent g, faulted := s.genFaulted g
     range := decide (4 < method) || !s.methodAllowed g method dir || decide (1 < dir) ||
       (fly && !(method == 1 || method == 3)) ||
       (method != 0 && (decide (vsearch.mant ≤ 0) || s.overRate g vsearch)) ||
       decide (range = 0) || decide (2 ^ 31 ≤ range)
     illegal := s.mvBarred g || (!fly && decide (x.gst ≠ .idle)) || (fly && !expert) ||
       (fly && !(decide (x.gst = .idle) || decide (x.gst = .run))) },
   if method = 0 then
     s.setGen g { (x.applyLatch homePos x.raw false) with homed := true, homeResult := 0, homing := none, flyWindow := none
                                                          toggles := 0 }
   else
     let h : Homing :=
       { method := method, dir := d, vsearch := (speedUnits vsearch s.periodNs).toNat, homePos := homePos
         range := range, fly := fly, stage := if x.home.level && (method == 1 || method == 2) then .release else .search
         searchDir := d, reversed := false, origin := x.rawUnits, switchLatch := none, latch := none
         offset0 := x.offset, shiftDue := false, toggles := 0, first := true, turnQuick := false, fail := 0 }
     s.setGen g { x with homing := some h, flyWindow := none, toggles := 0, gst := if fly then x.gst else .home })

/-- The offsets of a generator page's staged registers (R206-R211). -/
def genStagedOffs (g : Nat) : List Nat :=
  ([0x00, 0x0C, 0x10, 0x14, 0x18, 0x1C, 0x20, 0x24, 0x28, 0x2C, 0x30, 0x34, 0x38, 0x3C].map (pfOff g)) ++
    (if 512 ≤ g then [chOff (g - 512) 0] else [])

/-- Whether a switch source code is one of R185, for a local channel or not (R175). -/
def sourceOk (code : Nat) (isLocal : Bool) : Bool :=
  decide (code < 0x50) || (decide (0x80 ≤ code ∧ code ≤ 0x82) && !isLocal) || code == 0xFF

/-- Whether a generator's staged page is in range (R175, R206, R211). -/
def State.genPageInRange (s : State) (g : Nat) : Bool :=
  let st (o : Nat) : Word := s.stgW (pfOff g o)
  let loc := decide (512 ≤ g)
  ([0x0C, 0x10, 0x14, 0x34, 0x38].all (fun o => decide (0 ≤ (st o).mant))) &&
    ([0x18, 0x1C, 0x20, 0x24, 0x28].all (fun o => decide (0 < (st o).mant))) &&
    vwLe (st 0x38) (st 0x34) && (st 0).bits 4 2 != 3 &&
    sourceOk ((st 0x30).bits 0 8) loc && sourceOk ((st 0x30).bits 8 8) loc && sourceOk ((st 0x30).bits 16 8) loc &&
    (st 0x3C).bits 8 8 != 0 && decide ((st 0x3C).bits 16 8 ≤ (st 0x3C).bits 24 8) &&
    (!loc || (s.stgW (chOff (g - 512) 0)).bits 24 8 != 0)

/-- The switch inputs after a commit that changes PF_SWITCH: one with a new source, INV or FILT takes its next sample without an
edge (R185). -/
def Gen.resetSwitches (x : Gen) (old new : Word) : Gen :=
  let re (src inv : Nat) (w : SwitchIn) : SwitchIn :=
    if old.bits 24 4 != new.bits 24 4 || old.bits src 8 != new.bits src 8 || old.bit inv != new.bit inv then
      { w with primed := false, run := 0, edge := false, became := false }
    else w
  { x with home := re 0 28 x.home, limP := re 8 29 x.limP, limN := re 16 30 x.limN }

/-- Whether two sets of profile values need different distances to stop (R166, R176). -/
def ProfileRegs.slows (a b : ProfileRegs) : Bool := a.vstop != b.vstop || a.vbreak != b.vbreak || a.d2 != b.d2 || a.d1 != b.d1

/-- The values of a commit at a generator (R174, R176): at the basic level they wait in the deceleration ramp, and at every level as
long as a clamped move runs. -/
def Gen.commitValues (new used : ProfileRegs) (ns : Nat) (basic : Bool) (x : Gen) : Gen :=
  let waits := decide (x.gst = .run) && x.current.isSome && ((basic && decide (x.phase = .decel)) || x.clampDec.isSome)
  if waits then { x with inUse := some used }
  else
    let y := { x with inUse := none }
    if used.slows new then y.revalue new used ns else y

/-- PF_COMMIT (R174-R176, R190). -/
def cmdPfCommit (g : Nat) (s : State) : Refusals × State :=
  let x := s.gen g
  let ctl := pfOff g 0
  ({ notPresent := s.genAbsent g, faulted := s.genFaulted g
     locked := (s.cfgW ctl).bit 31 && (s.stgW ctl).bits 0 2 != (s.cfgW ctl).bits 0 2
     range := !s.genPageInRange g
     illegal := (decide (x.gst = .home) && s.stgW (pfOff g 0x30) != s.cfgW (pfOff g 0x30)) ||
       (decide (512 ≤ g) && (s.chan (g - 512)).enabled &&
         s.stgW (chOff (g - 512) 0) != s.cfgW (chOff (g - 512) 0)) },
   let basic := !(s.cfgW ctl).bit 0
   let used := s.valuesOf g x
   let s1 := s.commitRegs (genStagedOffs g)
   let x1 := x.resetSwitches (s.cfgW (pfOff g 0x30)) (s1.cfgW (pfOff g 0x30))
   let x2 := if x1.homing.isSome then
       let y := x1.homeAbort 0x33
       if x1.gst = .home then { y with gst := .stop, stop := some .quick } else y
     else x1
   s1.setGen g { (x2.commitValues (s1.profileRegs g) used s.periodNs basic) with staged := false })

/-- CH_ENABLE (R172, R180, R568): `blocked` says that a safety function holds the channel (R478). -/
def cmdChEnable (blocked : Bool) (c : Nat) (enable : Bool) (s : State) : Refusals × State :=
  let ch := s.chan c
  ({ notPresent := decide (16 ≤ c), illegal := enable && (ch.enabled || blocked) },
   if enable then
     let s1 := s.setChan c { ch with enabled := true, driven := true }
     s1.setGen (512 + c) { s1.gen (512 + c) with gst := .idle, v := 0, phase := .rest }
   else
     let s2 := (s.setChan c { ch with enabled := false }).stopChannel c 2
     s2.setGen (512 + c) { s2.gen (512 + c) with gst := .track })

/-- The stall of a ring stepper (R201), where the count has reached STALL_COUNT. -/
def State.stallNow (s : State) (g : Nat) : State :=
  let x := s.gen g
  if !x.stallDue then s
  else
    let react := (s.cfgW (pfOff g 0)).bits 4 2
    let homing := x.gst == .home
    let s1 := s.setGen g { x with stall := true, homed := false, stallDue := false }
    let s2 := if react = 2 then (cmdMvHstop g s1).2
      else if react = 1 ∨ homing then (cmdMvQstop g s1).2
      else s1
    s2.setGen g { s2.gen g with stall := true, homed := false }

/-! ### Feedback commands -/

/-- Whether a channel code names no channel (R213). -/
def State.chAbsent (s : State) (ch : Nat) : Bool :=
  if ch < 24 then false else if 512 ≤ ch ∧ ch < 1024 then !(s.mapped (ch - 512)) else true

/-- The staged registers of a channel's page (R240-R247). -/
def fbStagedOffs (ch : Nat) : List Nat :=
  if ch < 16 then [0x00, 0x04, 0x08, 0x0C].map (encOff ch)
  else if ch < 24 then [0x00, 0x04, 0x08, 0x0C].map (serOff (ch - 16))
  else [0x00, 0x04, 0x08].map (remOff (ch - 512))

/-- CPR, STANDSTILL_TIME and the QERR configuration in range (R241-R243). -/
def cprOk (w : Word) : Bool := decide (2 ≤ w.toNat ∧ w.toNat ≤ 2 ^ 30)
def stillOk (w : Word) : Bool := decide (1 ≤ w.bits 0 20 ∧ w.bits 0 20 ≤ 1000000)
def qerrOk (w : Word) : Bool := w.bits 16 16 != 0 && w.bits 0 8 != 0

/-- The latest completion of a serial word in ns after passage start (R226, R227). -/
def serialLatest (cfg clk : Word) : Nat :=
  let p := (clk.bits 0 10 + 1) * 10
  let n := if cfg.bit 31 then cfg.bits 0 4 + 48 else cfg.bits 22 6
  15 + n * p + clk.bits 24 8 * 5

/-- Whether a serial port's staged page is in range (R225-R230, R245, R246). -/
def serialOk (cfg clk lim cpr : Word) (deadline : Nat) : Bool :=
  let posBits := cfg.bits 16 6
  let treong := cfg.bit 31
  decide (9 ≤ clk.bits 0 10 ∧ clk.bits 0 10 ≤ 999) && decide (8 ≤ posBits ∧ posBits ≤ 32) &&
    (if treong then decide (1 ≤ cfg.bits 0 4)
     else decide (8 ≤ cfg.bits 22 6 ∧ cfg.bits 22 6 ≤ 48) &&
       decide (cfg.bits 10 6 + posBits ≤ cfg.bits 22 6) &&
       decide (cfg.bits 4 6 < cfg.bits 22 6)) &&
    decide (1 ≤ lim.bits 28 4) && decide (1 ≤ lim.bits 0 28 ∧ lim.bits 0 28 ≤ 2 ^ (posBits - 1) - 1) && cprOk cpr &&
    decide (serialLatest cfg clk ≤ deadline * 10)

/-- Whether a channel's staged page is in range. -/
def State.fbPageOk (s : State) (ch : Nat) : Bool :=
  if ch < 16 then
    cprOk (s.stgW (encOff ch 0x04)) && stillOk (s.stgW (encOff ch 0x08)) && qerrOk (s.stgW (encOff ch 0x0C))
  else if ch < 24 then
    let c := ch - 16
    serialOk (s.stgW (serOff c 0)) (s.stgW (serOff c 4)) (s.stgW (serOff c 8)) (s.stgW (serOff c 0xC))
      (nthD 0 s.image.wiring.serialDeadline c)
  else
    let i := ch - 512
    stillOk (s.stgW (remOff i 0)) && cprOk (s.stgW (remOff i 4)) && qerrOk (s.stgW (remOff i 8))

/-- Whether a channel feeds an enabled instance (R236). -/
def State.fbFeedsEnabled (s : State) (ch : Nat) : Bool :=
  s.image.wiring.servos.any (fun p => p.2.channel == ch && (s.axis p.1).st.enabled) ||
    s.image.wiring.steppers.any (fun p => p.2.channel == some ch && (s.axis p.1).st.enabled)

/-- The changes that no level allows on a channel that feeds an enabled instance: CPR, the sense, the format (R236). -/
def State.fbSenseChange (s : State) (ch : Nat) : Bool :=
  let diff (o lo n : Nat) : Bool := (s.stgW o).bits lo n != (s.cfgW o).bits lo n
  if ch < 16 then diff (encOff ch 4) 0 32 || diff (encOff ch 0) 16 1
  else if ch < 24 then
    let c := ch - 16
    diff (serOff c 0xC) 0 32 || diff (serOff c 0) 31 1 || diff (serOff c 0) 30 1 || diff (serOff c 0) 16 6 ||
      diff (serOff c 0) 10 6
  else diff (remOff (ch - 512) 4) 0 32 || diff (remOff (ch - 512) 0) 31 1

/-- Any change of a channel's page. -/
def State.fbAnyChange (s : State) (ch : Nat) : Bool := (fbStagedOffs ch).any (fun o => s.stgW o != s.cfgW o)

/-- The STAGED mark of a channel's page cleared. -/
def State.fbUnstage (s : State) (ch : Nat) : State :=
  if ch < 16 then s.setEnc ch { s.enc ch with staged := false }
  else if ch < 24 then s.setSer (ch - 16) { s.ser (ch - 16) with staged := false }
  else s.setRem (ch - 512) { s.rem (ch - 512) with staged := false }

/-- FB_COMMIT (R235, R236). -/
def cmdFbCommit (ch : Nat) (s : State) : Refusals × State :=
  let expert := (s.cfgW 0x60000).bit 0
  ({ notPresent := s.chAbsent ch, range := !s.fbPageOk ch
     illegal := s.fbFeedsEnabled ch && (s.fbSenseChange ch || (!expert && s.fbAnyChange ch)) },
   (s.commitRegs (fbStagedOffs ch)).fbUnstage ch)

/-- Whether the cause of a channel's latched fault has ended (R234). -/
def State.fbEnded (s : State) (ch : Nat) : Bool :=
  if ch < 16 then (s.enc ch).ended else if ch < 24 then (s.ser (ch - 16)).ended else (s.rem (ch - 512)).ended

/-- FB_CLEAR (R235). -/
def cmdFbClear (ch : Nat) (s : State) : Refusals × State :=
  ({ notPresent := s.chAbsent ch, illegal := s.fbFault ch == 0 || !s.fbEnded ch },
   if ch < 16 then s.setEnc ch { s.enc ch with fault := 0, ended := false }
   else if ch < 24 then s.setSer (ch - 16) { s.ser (ch - 16) with fault := 0, ended := false }
   else s.setRem (ch - 512) { s.rem (ch - 512) with fault := 0, ended := false })

/-- A feedback fault of a channel: latched with its cause, and raised in the instances it feeds (R234, R146). -/
def State.fbRaise (s : State) (ch cause : Nat) : State :=
  let s1 := if ch < 16 then s.setEnc ch ((s.enc ch).raise cause)
    else if ch < 24 then s.setSer (ch - 16) { s.ser (ch - 16) with fault := cause, ended := false }
    else s.setRem (ch - 512) { s.rem (ch - 512) with fault := cause, ended := false }
  s1.raiseFeedback ch

end Sys2Proof.Machine
end

