-- ==== Sys2Proof/Machine/Crc.lean ====
section
/-! DEFINITION. The check codes: the reflected 32-bit CRCs of R250 (CRC-32C) and R277 (the safety container), and the
64-bit CRC of the team digest (R448). -/

namespace Sys2Proof.Machine

/-- `k` steps of a reflected CRC of width `n` with the reflected polynomial `p`. -/
def crcSteps {n : Nat} (p : BitVec n) : Nat → BitVec n → BitVec n
  | 0, c => c
  | k + 1, c => crcSteps p k (if c.getLsbD 0 then (c >>> 1) ^^^ p else c >>> 1)

/-- A reflected CRC continued over bytes, from the register `c`. -/
def crcBytes {n : Nat} (p : BitVec n) : List Byte → BitVec n → BitVec n
  | [], c => c
  | b :: r, c => crcBytes p r (crcSteps p 8 (c ^^^ b.setWidth n))

/-- CRC-32C: polynomial 0x1EDC_6F41 reflected, initial value and final XOR all ones (R250). -/
def crc32c (bs : List Byte) : Word := crcBytes 0x82F63B78#32 bs 0xFFFFFFFF#32 ^^^ 0xFFFFFFFF#32

/-- The safety container's CRC-32, polynomial 0xF4AC_FB13 reflected, with the connection key as initial value (R277). -/
def crcSafe (key : Word) (bs : List Byte) : Word := crcBytes 0xC8DF352F#32 bs key ^^^ 0xFFFFFFFF#32

/-- Whether a frame ends in the CRC-32C of the bytes before it, least significant byte first (R250). -/
def frameOk (bs : List Byte) : Bool :=
  decide (4 ≤ bs.length) &&
    (let n := bs.length - 4
     crc32c (bs.take n) == BitVec.ofNat 32 (fieldLE bs n 4))

/-- A frame with its CRC-32C appended. -/
def withCheck (bs : List Byte) : List Byte := bs ++ bytesLE 4 (crc32c bs).toNat

end Sys2Proof.Machine
end

