-- ==== Sys2Proof/Machine/TimeOps.lean ====
section
/-! DEFINITION. The time island's own rules as functions: the passing of cycles (R293, R294), the passage grid (R297,
R299), comparators (R303, R304), the EVIO queue and periodic output (R306-R308), the servo (R315). -/

namespace Sys2Proof.Machine

/-- What TIME:F gains in one cycle of the time island (R294). -/
def TimeBase.gain (t : TimeBase) : Int := 2 ^ 32 + t.rate

/-- `n` cycles of the time island pass (R293, R294). -/
def TimeBase.cycles (t : TimeBase) (n : Nat) : TimeBase :=
  let total : Int := t.time.toNat * 2 ^ 32 + t.frac.toNat + n * t.gain
  { t with
    raw := t.raw + BitVec.ofNat 64 n
    time := BitVec.ofInt 64 (total / 2 ^ 32)
    frac := BitVec.ofInt 32 total }

/-- The number of cycles until TIME reaches an instant: 0 when it has (R299). -/
def TimeBase.cyclesTo (t : TimeBase) (target : U64) : Nat :=
  let d := (target - t.time).toInt
  if d ≤ 0 then 0
  else ((d * 2 ^ 32 - t.frac.toNat + t.gain - 1) / t.gain).toNat

/-- The time island in the first cycle in which TIME has reached an instant (R299, R303). -/
def TimeBase.advance (t : TimeBase) (target : U64) : TimeBase :=
  if t.counting then t.cycles (t.cyclesTo target) else t

/-- A step of TIME by a signed amount (R296). -/
def TimeBase.step (t : TimeBase) (d : Int) : TimeBase := { t with time := t.time + BitVec.ofInt 64 d }

/-- The start of the passage after the one that starts at `start`, on the grid of a period and a PHASE (R297, R299). -/
def nextStart (start : U64) (period phase : Nat) : U64 :=
  start + BitVec.ofNat 64 (period + (((phase : Int) - start.toNat) % period).toNat)

/-- The start of the first passage of a new period: at or after the old end, on the new grid (R75). -/
def swapStart (start : U64) (oldPeriod newPeriod phase : Nat) : U64 :=
  let t := start + BitVec.ofNat 64 oldPeriod
  t + BitVec.ofNat 64 (((phase : Int) - t.toNat) % newPeriod).toNat

/-- Whether a 32-bit target is due (R303). -/
def dueAt (time : U64) (target : Word) : Bool := decide (0 ≤ (lo32 time - target).toInt)

/-- The instant on the time base at which a 32-bit target comes due, now for one that is due (R303). -/
def dueInstant (time : U64) (target : Word) : U64 :=
  let d := (lo32 time - target).toInt
  if 0 ≤ d then time else time + BitVec.ofInt 64 (-d)

/-- A comparator's firing at a time (R304, R305). -/
def Cmp.fire (c : Cmp) (time : U64) : Cmp :=
  let c := { c with fired := true, count := c.count + 1 }
  if c.period = 0 then { c with arm := false }
  else
    let t1 := c.target + c.period
    let late := (lo32 time - t1).toInt
    if late < 0 then { c with target := t1 }
    else
      let k := late.toNat / c.period.toNat + 1
      { c with target := t1 + BitVec.ofNat 32 (k * c.period.toNat), skip := satAdd 0xFFFF c.skip k }

/-- A write of PERIOD: 1 to 99, or 2^31 and more, are ignored (R304). -/
def periodOk (w : Word) : Bool := w == 0 || decide (100 ≤ w.toNat ∧ w.toNat < 2 ^ 31)

/-- A push into the queue of a pin in mode 1 (R307): the agent's latched target with the written level. -/
def Evio.push (e : Evio) (agent : Nat) (level : Bool) (time : U64) : Evio :=
  if e.mode ≠ 1 then e
  else if 16 ≤ e.queue.length then { e with ovf := true }
  else
    let t := Tab.get 0 e.latch agent
    if dueAt time t then
      let e := { e with late := satAdd 0xFFFF e.late 1, lateF := true }
      if e.lateCfg then e else { e with queue := e.queue ++ [(t, level)] }
    else { e with queue := e.queue ++ [(t, level)] }

/-- Whether a push was accepted into the queue (R309). -/
def Evio.accepts (e : Evio) (agent : Nat) (time : U64) : Bool :=
  e.mode == 1 && decide (e.queue.length < 16) && !(e.lateCfg && dueAt time (Tab.get 0 e.latch agent))

/-- Pending outputs discarded when mode 1 or 2 is left (R306). -/
def Evio.discard (e : Evio) : Evio := { e with queue := [], fallAt := none, oldFalls := [], nextRise := 0, pbase := 0 }

/-- The first instant of the grid from `base` that is not yet due (R308). -/
def firstRise (base : U64) (period : Nat) (time : U64) : U64 :=
  let d := (time - base).toInt
  if d < 0 ∨ period = 0 then base else base + BitVec.ofNat 64 ((d.toNat / period + 1) * period)

/-- Entering mode 2 (R308): refused with CFG_ERR for values out of range. -/
def Evio.enterPeriodic (e : Evio) (time : U64) : Evio :=
  if e.period.toNat < 8 ∨ e.phigh.toNat < 4 ∨ e.period.toNat - 4 < e.phigh.toNat then { e with cfgErr := true }
  else
    let base := time + BitVec.ofInt 64 (-(lo32 time - e.pstart).toInt)
    { e.discard with mode := 2, pbase := base, nextRise := firstRise base e.period.toNat time, endless := e.pcount == 0 }

/-- A write of EVIO_CFG (R306, R322): the mode changes at once, the other fields take their values. -/
def Evio.writeCfg (e : Evio) (w : Word) (time : U64) : Evio :=
  let e := { e with inv := w.bit 29, lateCfg := w.bit 28, edge := w.bits 26 2, token := w.bit 25, filt := w.bits 16 8 }
  let m := w.bits 30 2
  if m = 3 ∨ m = e.mode then e
  else if m = 2 then e.enterPeriodic time
  else if m = 1 then { e.discard with mode := 1 }
  else { e.discard with mode := 0, drive := false }

/-- The head entry fires in the cycle of a RAW count: the output register takes LEVEL XOR INV (R307). -/
def Evio.fireHead (e : Evio) (raw : U64) : Evio :=
  match e.queue with
  | [] => e
  | (_, l) :: r => { e with queue := r, out := l ^^ e.inv, firedAt := some raw }

/-- The earlier of two instants on the time base. -/
def earlier (a b : U64) : U64 := if (b - a).toInt < 0 then b else a

/-- The next pending falling instant of a periodic output (R308). -/
def Evio.nextFall (e : Evio) : Option U64 :=
  match e.fallAt, e.oldFalls with
  | none, [] => none
  | none, f :: r => some (r.foldl earlier f)
  | some f, r => some (r.foldl earlier f)

/-- Whether the next edge of a periodic output is a rise (R308): one is left, and no fall is due before it. -/
def Evio.risesNext (e : Evio) : Bool :=
  match e.nextFall with
  | none => true
  | some f => (e.endless || e.pcount != 0) && decide ((e.nextRise - f).toInt < 0)

/-- The next instant of a periodic output (R308): a rise, or a pending fall. -/
def Evio.nextEdge (e : Evio) : U64 := if e.risesNext then e.nextRise else e.nextFall.getD e.nextRise

/-- A rising or falling instant of a periodic output (R308). -/
def Evio.periodicEdge (e : Evio) : Evio :=
  if e.risesNext then
    { e with out := !e.inv, fallAt := some (e.nextRise + e.phigh.setWidth 64), oldFalls := e.fallAt.toList ++ e.oldFalls
             nextRise := e.nextRise + e.period.setWidth 64
             pcount := if e.endless then e.pcount else e.pcount - 1 }
  else
    let e1 := { e with out := e.inv, fallAt := if e.fallAt == e.nextFall then none else e.fallAt
                       oldFalls := if e.fallAt == e.nextFall then e.oldFalls else e.oldFalls.erase (e.nextFall.getD 0) }
    if !e.endless && e.pcount == 0 && e1.nextFall.isNone then { e1 with mode := 1 } else e1

/-- A periodic output after a step of TIME: its next rise is the first of its grid not yet due (R308). -/
def Evio.afterStep (e : Evio) (time : U64) : Evio :=
  if e.mode = 2 then { e with nextRise := firstRise e.pbase e.period.toNat time } else e

/-- Whether an output is pending: queued entries or a periodic output (R296). -/
def Evio.pendingOutput (e : Evio) : Bool := !e.queue.isEmpty || e.mode == 2

/-- EVIO_CFG as it reads (R322). -/
def Evio.cfgWord (e : Evio) : Word :=
  BitVec.ofNat 32 (e.mode * 2 ^ 30 + bitNat e.inv * 2 ^ 29 + bitNat e.lateCfg * 2 ^ 28 + e.edge * 2 ^ 26 +
    bitNat e.token * 2 ^ 25 + e.filt * 2 ^ 16)

/-- EVIO_STAT as it reads (R322). -/
def Evio.statWord (e : Evio) : Word :=
  BitVec.ofNat 32 (e.queue.length * 2 ^ 27 + bitNat e.level * 2 ^ 26 + bitNat e.ovf * 2 ^ 25 + bitNat e.lateF * 2 ^ 24 +
    bitNat e.cfgErr * 2 ^ 23 + e.late)

/-- CMP_CTRL as it reads (R321). -/
def Cmp.ctrlWord (c : Cmp) : Word :=
  BitVec.ofNat 32 (bitNat c.arm * 2 ^ 31 + bitNat c.fired * 2 ^ 30 + bitNat c.token * 2 ^ 29 + bitNat c.trig * 2 ^ 28 +
    c.skip)

/-- The largest RATE magnitude (R295). -/
def rateMax : Int := 4294967

/-- The servo's new RATE_I and RATE for an offset and an interval in ns (R315), and whether the clamp acted. -/
def servoRates (rateI o : Int) (tau ki kp : Nat) : Int × Int × Bool :=
  let corr (sh : Nat) : Int := divRound (-(o * 2 ^ 32)) (2 ^ sh * tau)
  let ri := rateI + corr ki
  let r := ri + corr kp
  let c := if rateMax < r then rateMax else if r < -rateMax then -rateMax else r
  (ri, c, decide (c ≠ r))

end Sys2Proof.Machine
end

