-- ==== Sys2Proof/Machine/Ops.lean ====
section
/-! DEFINITION. The named operations that every chapter's commands share: posted writes to the host, the audit log
(R550-R552), faults and access errors (R20-R24, R526), access classes (R548), and a host command's check, effect, log
entries and result (R16, R519, R551). -/

namespace Sys2Proof.Machine

/-! ### Status codes, origins, rights -/

/-- The status codes of R15. -/
def codeOk : Nat := 0x00
def codeIllegal : Nat := 0x01
def codeRange : Nat := 0x02
def codeLength : Nat := 0x03
def codeLocked : Nat := 0x04
def codeBackpressure : Nat := 0x05
def codeLogFull : Nat := 0x06
def codeAuth : Nat := 0x07
def codeNotPresent : Nat := 0x08
def codeMismatch : Nat := 0x09
def codeStale : Nat := 0x0A
def codeFaulted : Nat := 0x0B
/-- DISCARDED (R501). -/
def codeDiscarded : Nat := 0x0C

/-- The origins of R547. -/
def originHost : Nat := 0
def originPlant : Nat := 1
def originDebug : Nat := 2
def originSelf : Nat := 3
def originSafe : Nat := 4
def originPeer : Nat := 5
def originBoot : Nat := 6

/-- The code that a refused command reports: the first of R16's order; none where no check fails. -/
def refusalCode (auth logFull : Bool) (r : Refusals) : Option Nat :=
  if auth then some codeAuth
  else if r.locked then some codeLocked
  else if r.notPresent then some codeNotPresent
  else if r.faulted then some codeFaulted
  else if r.length then some codeLength
  else if r.range then some codeRange
  else if r.illegal then some codeIllegal
  else if r.mismatch then some codeMismatch
  else if r.stale then some codeStale
  else if logFull then some codeLogFull
  else if r.backpressure then some codeBackpressure
  else none

/-- The rights of an origin (R547-R549): the host's and the soft plane's classes; debug has every right but SAFETY and
AUDIT; the others need none. The soft plane's class reads 0 at the basic level. -/
def State.rights (s : State) (origin : Nat) : Nat :=
  match origin with
  | 0 => (s.cfgW 0x1004).bits 0 9
  | 2 => 0x19F
  | 3 => if (s.cfgW 0x1000).bit 0 then (s.cfgW 0x1008).bits 0 9 else 0
  | _ => 0x1FF

/-- Whether an origin lacks a right; a command that needs none names none (R548). -/
def State.lacks (s : State) (origin : Nat) (right : Option Nat) : Bool :=
  match right with
  | none => false
  | some k => !(s.rights origin).testBit k

/-! ### Host memory -/

/-- Whether posted writes reach the host (R501, R510). -/
def State.dmaUp (s : State) : Bool := s.host.speed != 0 && s.host.bme && !s.host.d3

/-- Bytes written to host memory, as the model records it. -/
def hostBytes (m : Tab Byte) (a : Nat) : List Byte → Tab Byte
  | [] => m
  | b :: r => hostBytes (Tab.put 0 m a b) (a + 1) r

/-- A posted write to the host, skipped while the endpoint cannot send (R501). -/
def State.dma (s : State) (a : Nat) (bs : List Byte) : State :=
  if s.dmaUp then { s with host := { s.host with memory := hostBytes s.host.memory a bs } } else s

/-! ### The audit log -/

/-- HELD and FREE of the log (R552). -/
def Store.held (x : Store) : Nat := (x.logWr - x.logAck).toNat
def Store.freeEntries (x : Store) : Nat := 65536 - x.reserved - x.held

/-- An entry's bytes 0 to 27 (R550). -/
def entryBytes (seq passage : Word) (time : U64) (origin kind code status : Nat) (subject value : Word) : List Byte :=
  bytesLE 4 seq.toNat ++ bytesLE 4 passage.toNat ++ bytesLE 8 time.toNat ++
    [BitVec.ofNat 8 origin, BitVec.ofNat 8 kind, BitVec.ofNat 8 code, BitVec.ofNat 8 status] ++
    bytesLE 4 subject.toNat ++ bytesLE 4 value.toNat

/-- An entry appended to the chain (R550): its LINK covers the previous LINK and its bytes 0 to 27. -/
def Store.append (x : Store) (passage : Word) (time : U64) (origin kind code status : Nat) (subject value : Word) : Store :=
  let body := entryBytes x.logWr passage time origin kind code status subject value
  let link := crc32c (bytesLE 4 x.link.toNat ++ body)
  { x with mram := hostBytes x.mram (0x400000 + 32 * (x.logWr.toNat % 65536)) (body ++ bytesLE 4 link.toNat)
           logWr := x.logWr + 1
           link := link }

/-- Whether an entry may draw on the reserve of 1024 (R552): KIND 4, and the origins SAFE, SELF and BOOT. -/
def fromReserve (origin kind : Nat) : Bool := kind == 4 || origin == originSelf || origin == originSafe || origin == originBoot

/-- An entry that nothing set aside: written from FREE, or lost and counted (R552). -/
def State.logNow (s : State) (passage : Word) (origin kind code status : Nat) (subject value : Word) : State :=
  if (if fromReserve origin kind then 0 else 1024) < s.store.freeEntries then
    { s with store := s.store.append passage s.time.time origin kind code status subject value }
  else { s with store := { s.store with unrecorded := s.store.unrecorded + 1 } }

/-- An entry that was set aside at intake, when there is one; otherwise as any other entry (R552, R555). -/
def State.logReserved (s : State) (passage : Word) (origin kind code status : Nat) (subject value : Word) : State :=
  if 0 < s.store.reserved then
    let x := { s.store with reserved := s.store.reserved - 1 }
    { s with store := x.append passage s.time.time origin kind code status subject value }
  else s.logNow passage origin kind code status subject value

/-- An event of the part itself in the passage in progress. -/
def State.logEvent (s : State) (origin kind code : Nat) (subject value : Nat) : State :=
  s.logNow s.tt.passage origin kind code 0 (BitVec.ofNat 32 subject) (BitVec.ofNat 32 value)

/-! ### Access errors and faults -/

/-- An access error recorded (R526): the first one while FLAG is clear; every one is counted. -/
def State.accessError (s : State) (kind : Nat) (bar2 : Bool) (off : Nat) : State :=
  let w := BitVec.ofNat 32 (kind * 2 ^ 28 + bitNat bar2 * 2 ^ 27 + off % 2 ^ 26)
  let h := s.host
  { s with host := { h with errCount := h.errCount + 1
                            errFlag := true
                            errWord := if h.errFlag then h.errWord else w } }

/-- A fault entered in GCTL and in the log with origin SELF (R23, R526). -/
def State.recordFault (s : State) (f : FaultRec) : State :=
  let h := s.host
  let s := { s with host := { h with faultCount := h.faultCount + 1
                                     unitFault := h.unitFault || f.level == 0
                                     faultFlag := true
                                     fault := if h.faultFlag then h.fault else f
                                     faultPassage := if h.faultFlag then h.faultPassage else s.tt.passage
                                     faultTime := if h.faultFlag then h.faultTime else s.time.time } }
  s.logEvent originSelf 4 f.kind (f.level * 2 ^ 16 + f.identity) 0

/-- The place of a fault in the order of R23: level, then identity. -/
def FaultRec.rank (f : FaultRec) : Nat := f.level * 65536 + f.identity

/-- A fault put in its place among those of one passage (R23). -/
def insertFault (f : FaultRec) : List FaultRec → List FaultRec
  | [] => [f]
  | g :: r => if f.rank < g.rank then f :: g :: r else g :: insertFault f r

/-- A fault flagged in this passage; it is recorded at the end of the passage in the order of R23. While no passage clock runs it is
recorded at once. -/
def State.flag (s : State) (level kind identity : Nat) : State :=
  let d := s.rope
  let s1 : State := { s with
    rope := { d with diagUnit := if level = 0 then satAdd 255 d.diagUnit 1 else d.diagUnit
                     diagWord := if level = 0 ∧ kind = 1 then satAdd 255 d.diagWord 1 else d.diagWord
                     diagMiss := if level = 0 ∧ (kind = 2 ∨ kind = 4) then satAdd 255 d.diagMiss 1 else d.diagMiss } }
  if s.tt.clockOn then { s1 with faults := { s1.faults with flagged := insertFault ⟨level, kind, identity⟩ s1.faults.flagged } }
  else s1.recordFault ⟨level, kind, identity⟩

/-- Every fault flagged so far recorded (R23). -/
def State.recordFaults (s : State) : State :=
  { (s.faults.flagged.foldl (fun s f => s.recordFault f) s) with faults := { s.faults with flagged := [] } }

/-- A number joined to a list without repeats. -/
def addNew (k : Nat) (l : List Nat) : List Nat := if l.contains k then l else l ++ [k]

/-- The ring transmitters started or stopped on every ring in use (R36, R283 LANES). -/
def State.ringTx (s : State) (on : Bool) : State :=
  { s with rings := (List.range 4).foldl (fun t k =>
      if s.image.rings.testBit k then Tab.put {} t k { Tab.get {} t k with tx0 := on, tx1 := on } else t) s.rings }

/-- A package fault (R21): latched, a pending swap cancelled (R75), and a halt during start-up (R35). -/
def State.packageFault (s : State) (kind : Nat) : State :=
  let s := s.flag 4 kind 0xD000
  let s := { s with faults := { s.faults with pkg := true, reactDue := true } }
  let s := if s.tt.shadowState = .pending then
      { s with tt := { s.tt with shadowState := .ready, lastCode := BitVec.ofNat 8 codeFaulted } }.logNow
        s.tt.passage originSelf 2 0x11 codeFaulted s.tt.swapSeq s.tt.swapAt
    else s
  match s.host.phase with
  | .run | .halt => s
  | _ => { (s.recordFaults.ringTx false) with host := { (s.recordFaults).host with phase := .halt, haltCause := 2 } }

/-- Clusters faulted (R20, R21): each recorded, and a package fault with them. -/
def State.faultClusters (s : State) (kind : Nat) (ks : List Nat) : State :=
  let s := ks.foldl (fun s k => { (s.flag 1 kind (0xB000 + k)) with
      faults := { (s.flag 1 kind (0xB000 + k)).faults with clusters := addNew k s.faults.clusters } }) s
  s.packageFault kind

/-- A unit fault: identity and kind (R20, R24, R526). Axis engines, DSP units and sequencers fault their cluster; a region
channel its clusters; an I-die channel, a die link and the safety island the package; the others are contained. -/
def State.unitFault (s : State) (kind identity : Nat) : State :=
  let s := s.flag 0 kind identity
  let s := { s with faults := { s.faults with units := addNew identity s.faults.units } }
  let k := identity % 4096
  match identity / 4096 with
  | 0x0 => s.faultClusters kind [k / 4]
  | 0x1 => s.faultClusters kind [k]
  | 0x5 => s.faultClusters kind [k]
  | 0x9 | 0xA => s.packageFault kind
  | 0xE => if 0x10 ≤ k ∧ k < 0x14 then s.faultClusters kind ((List.range 4).map (fun j => 4 * (k - 0x10) + j))
    else s.packageFault kind
  | _ => s

/-- The identity of a Luestox unit (R526). -/
def unitIdentity (u : Nat) : Nat := if u < 64 then u else if u < 80 then 0x1000 + (u - 64) else 0x2000 + (u - 80)

/-- Whether the part drives its local outputs (R36, R309, R443). -/
def State.drives (s : State) : Bool := decide (s.host.phase = .run) && (s.rope.role == 1 || s.rope.role == 2)

/-! ### Results -/

/-- A result record of 16 bytes (R519). -/
def resultBytes (seq : Word) (tag opc status : Nat) (detail passage : Word) : List Byte :=
  bytesLE 4 seq.toNat ++ bytesLE 2 tag ++ [BitVec.ofNat 8 opc, BitVec.ofNat 8 status] ++ bytesLE 4 detail.toNat ++
    bytesLE 4 passage.toNat

/-- A result placed in the result table and among the mirror's latest 64 (R512, R519). -/
def State.result (s : State) (seq : Word) (tag opc status : Nat) (detail passage : Word) : State :=
  let rec16 := resultBytes seq tag opc status detail passage
  let h := s.host
  { (s.store' (0x03604000 + 16 * (seq.toNat % 256)) rec16) with
           host := { h with results := hostBytes h.results (16 * (h.resCount.toNat % 64)) rec16
                            resCount := h.resCount + 1 } }

/-! ### A host command -/

/-- Whether the part's role refuses a command taken from its own queue (R445). -/
def State.roleForbids (s : State) (opc : Nat) : Bool :=
  match s.rope.role with
  | 1 | 2 => false
  | 3 | 4 => true
  | 0 => if s.rope.strap = 1 ∨ s.rope.strap = 2 then !(opc == 0x00 || (decide (0xE0 ≤ opc) && decide (opc ≤ 0xE9)) ||
      opc == 0xD0 || opc == 0xD1) else false
  | 7 => !(opc == 0x00 || (decide (0xE0 ≤ opc) && decide (opc ≤ 0xE9)) || opc == 0xD0 || opc == 0xD1 || opc == 0xB0)
  | _ => !(opc == 0x00 || (decide (0xE0 ≤ opc) && decide (opc ≤ 0xE9)) || opc == 0xD0 || opc == 0xD1)

/-- What R16, R519 and R551 need to know of a command. -/
structure CmdInfo where
  opc : Nat
  /-- the right it needs, if any (R548) -/
  right : Option Nat
  /-- whether it is logged -/
  logged : Bool
  /-- entry bytes 4-7, the VALUE of its log entries (R550) -/
  word1 : Word
  deriving DecidableEq, Repr

/-- The origin byte of a log entry: FORWARDED in bit 7 (R550). -/
def Ctx.originByte (c : Ctx) : Nat := c.origin + 128 * bitNat c.forwarded

/-- What a command answers: its refusals, its DETAIL, the state it leaves, and a status other than OK that it reports although it
has acted (R546: a slot that fails its authentication). -/
structure Answer where
  refusals : Refusals
  detail : Word
  state : State
  status : Nat := codeOk

/-- The log entries set aside for a logged command at its intake (R552): two, or what is free. -/
def State.setAside (s : State) (c : Ctx) (i : CmdInfo) : Nat × State :=
  let n := if i.logged && !c.logFull then min 2 s.store.freeEntries else 0
  (n, { s with store := { s.store with reserved := s.store.reserved + n } })

/-- The intent entry of a logged command (R551), for the passage in which the change is made; `aside` entries were set aside
for it. -/
def State.intent (s : State) (c : Ctx) (i : CmdInfo) (effect : Word) (aside : Nat) : State :=
  if i.logged && !c.logFull then
    if 1 ≤ aside then s.logReserved effect c.originByte 1 i.opc 0xFF c.seq i.word1
    else s.logNow effect c.originByte 1 i.opc 0xFF c.seq i.word1
  else s

/-- A command's check and effect in the passage in which it is due (R16, R132, R445): nothing is applied when a check
fails. -/
def State.judge (s : State) (c : Ctx) (i : CmdInfo) (core : State → Answer) : Nat × Word × State :=
  let a := core s
  let r := { a.refusals with illegal := a.refusals.illegal || (!c.forwarded && s.roleForbids i.opc) }
  match refusalCode (!c.forwarded && s.lacks c.origin i.right) c.logFull r with
  | none => (a.status, a.detail, a.state)
  | some code =>
    let pointed := code == codeRange || code == codeLength || code == codeNotPresent
    (code, if pointed then a.detail else 0, s)

/-- The outcome of a command logged (R551): an unused outcome entry returns to FREE (R552). A refusal with ILLEGAL_IN_STATE is
logged also for a command that is not (R4). -/
def State.logOutcome (s : State) (c : Ctx) (i : CmdInfo) (aside code : Nat) : State :=
  if i.logged then
    if code = codeOk then (if aside = 2 then { s with store := { s.store with reserved := s.store.reserved - 1 } } else s)
    else if !c.logFull && aside == 2 then s.logReserved s.tt.passage c.originByte 2 i.opc code c.seq i.word1
    else s.logNow s.tt.passage c.originByte 2 i.opc code c.seq i.word1
  else if code = codeIllegal then s.logNow s.tt.passage c.originByte 2 i.opc code c.seq i.word1
  else s

/-- A command judged and its outcome logged. -/
def State.settle (s : State) (c : Ctx) (i : CmdInfo) (core : State → Answer) (aside : Nat) : Nat × Word × State :=
  let j := s.judge c i core
  (j.1, j.2.1, j.2.2.logOutcome c i aside j.1)

/-- A command in the passage in which it takes effect: judged, its outcome logged, its result written (R16, R519, R551). -/
def State.finish (s : State) (c : Ctx) (i : CmdInfo) (core : State → Answer) (aside : Nat) : State :=
  let j := s.settle c i core aside
  j.2.2.result c.seq c.tag i.opc j.1 j.2.1 s.tt.passage

/-- A host command taken by itself: the entries it needs are set aside, its intent is logged, and it takes effect (R551,
R552). -/
def State.command (s : State) (c : Ctx) (i : CmdInfo) (core : State → Answer) : State :=
  let a := s.setAside c i
  (a.2.intent c i s.tt.passage a.1).finish c i core a.1

/-- An answer without a DETAIL. -/
def answer (r : Refusals × State) : Answer := { refusals := r.1, detail := 0, state := r.2 }

/-- An answer whose DETAIL, when a refusal points to an argument, is a byte offset of the entry (R519). -/
def answerAt (detail : Nat) (r : Refusals × State) : Answer :=
  { refusals := r.1, detail := if r.1 = {} then 0 else BitVec.ofNat 32 detail, state := r.2 }

/-! ### Uncorrectable words of the I-die (R110, R347, R403) -/

/-- What an uncorrectable word of I-die memory faults when it is not the ring's (R110, R403): the acquisition port, the
scheduler, or the host port. -/
def idieUnit (a : Nat) : Nat :=
  if a < 0x03400000 ∨ (0x03620000 ≤ a ∧ a < 0x03680000) then 0x6000
  else if 0x036C0000 ≤ a ∧ a < 0x036E8000 then 0x8000
  else 0x7000

/-- An uncorrectable word of the acquisition port (R347): in a channel's buffer the channel is FAULTED too. -/
def State.acqWordFault (s : State) (a : Nat) : State :=
  if 0x03000000 ≤ a ∧ a < 0x03400000 then
    let b := (a - 0x03000000) / 0x100000
    { s with acq := { s.acq with privs := Tab.put {} s.acq.privs b { Tab.get {} s.acq.privs b with st := .faulted, stop := 4 } } }
  else s

/-- A fault of the unit that reads an uncorrectable word of the I-die memory (R110, R347, R403). -/
def State.idieFault (s : State) (a : Nat) : State :=
  let s := (s.unitFault 1 (idieUnit a)).acqWordFault a
  if idieUnit a = 0x8000 then { s with sched := { s.sched with fault := true } } else s

end Sys2Proof.Machine
end

