-- ==== Sys2Proof/Machine/GovOps.lean ====
section
/-! DEFINITION. The governor (12_energy_heat): its settings in use (R417, R418, R430-R432), the bucket (R416), the choice
rule (R417, R425-R427), and what the close of a measurement interval records (R414, R421-R424). -/

namespace Sys2Proof.Machine

/-- An event of the part that the log's codes do not name (R550): KIND 4 with CODE 8, SUBJECT the BAR0 offset of the register
that shows it, VALUE a detail (log 16). -/
def State.logOther (s : State) (origin off value : Nat) : State := s.logEvent origin 4 8 off value

/-- The settings of the choice rule (R417): LOW, HIGH and DWELL are fixed at the basic level (R418); temperatures in quarter
degrees. -/
structure GovCfg where
  capEn : Bool
  ecap : Int
  depth : Int
  low : Nat
  high : Nat
  dwellMin : Nat
  tierMin : Nat
  tierMax : Nat
  tHigh : Int
  tHyst : Int
  tCrit : Int
  deriving DecidableEq, Repr

/-- E_cap and D of a CAP register and a period in ns (R416): 125 × CAP × P nJ, P in µs, rounded half up (R9; log 17). -/
def energyCap (cap : Word) (ns : Nat) : Int := divRound (cap.bits 0 8 * ns) 8
def energyDepth (cap : Word) (ns : Nat) : Int := energyCap cap ns * 2 ^ cap.bits 16 5

/-- The settings in use. -/
def State.govCfg (s : State) : GovCfg :=
  let cap := s.cfgW 0x20008
  let bounds := s.cfgW 0x2000C
  let therm := s.cfgW 0x20010
  let tune := s.cfgW 0x20014
  let expert := (s.cfgW 0x20000).bit 0
  { capEn := cap.bit 31, ecap := energyCap cap s.periodNs, depth := energyDepth cap s.periodNs
    low := if expert then tune.bits 24 8 else 64, high := if expert then tune.bits 16 8 else 192
    dwellMin := if expert then tune.bits 0 8 else 64
    tierMin := bounds.bits 0 2, tierMax := bounds.bits 4 2
    tHigh := 4 * therm.bits 16 8, tHyst := 4 * therm.bits 0 4, tCrit := 4 * therm.bits 24 8 }

/-- The choice of R417: the tier, and the reason that R430 gives for a change. -/
def chooseTier (c : GovCfg) (b tmax : Int) (t dwell : Nat) (peer : Option Nat) : Nat × Nat :=
  let t' : Int := t
  let w1 : Int × Nat :=
    if c.capEn && decide (b * 256 < c.depth * c.low) then (t' + 1, 1)
    else if !c.capEn || decide (c.depth * c.high < b * 256) then (t' - 1, 2)
    else (t', 0)
  let w2 := if c.tHigh ≤ tmax then (t' + 1, 3)
    else if c.tHigh - c.tHyst < tmax ∧ w1.1 < t' then (t', 0) else w1
  let w3 := if dwell < c.dwellMin then (t', 0) else w2
  let bounded : Int := max (c.tierMin : Int) (min (c.tierMax : Int) w3.1)
  let w4 := if bounded = w3.1 then w3 else (bounded, 5)
  let w5 := if c.tCrit ≤ tmax then ((3 : Int), 4) else w4
  let w6 := match peer with
    | some p => if w5.1 < p then ((p : Int), 6) else w5
    | none => w5
  ((max 0 (min 3 w6.1)).toNat, w6.2)

/-- The bucket after an interval of energy `e` (R416). -/
def bucketStep (c : GovCfg) (b e : Int) : Int := if c.capEn then max (min c.depth (b + c.ecap - e)) (-c.depth) else b

/-- The readings of an interval (R415): a failed sensor reads 0x7FFF. -/
def readings (failed : List Bool) (temps : List Int) : List Int :=
  (List.range 6).map (fun k => if nthD false failed k then 32767 else nthD 0 temps k)

/-- T_max (R414, R415): a failed sensor counts as exactly T_HIGH. -/
def tMax (tHigh : Int) (failed : List Bool) (temps : List Int) : Int :=
  (List.range 6).foldl (fun m k => max m (if nthD false failed k then tHigh else nthD 0 temps k))
    (if nthD false failed 0 then tHigh else nthD 0 temps 0)

/-- Mean power of an interval in mW (R433), in 16 bits. -/
def meanPower (e ns : Nat) : Nat := min 0xFFFF (divRound ((e * 1000 : Nat) : Int) ns).toNat

/-- The books, temperatures and power of a closed interval (R414, R415, R421, R423, R424, R433). -/
def Gov.closeBooks (g : Gov) (c : GovCfg) (e ns tier : Nat) (temps : List Int) (number : Word) : Gov :=
  let r := readings g.failed temps
  let tm := tMax c.tHigh g.failed temps
  let crit := decide (c.tCrit ≤ tm)
  let p := meanPower e ns
  { g with
    bucket := bucketStep c g.bucket e
    total := g.total + BitVec.ofNat 64 e
    opened := 0
    tierEnergy := setNth g.tierEnergy tier (nthD 0 g.tierEnergy tier + BitVec.ofNat 64 e)
    interval := number
    monitors := 0
    tempNow := r
    tempMax := (List.range 6).map (fun k =>
      if nthD false g.failed k then nthD (-32768) g.tempMax k else max (nthD (-32768) g.tempMax k) (nthD 0 r k))
    tripRun := (List.range 6).map (fun k =>
      if !nthD false g.failed k && decide (520 ≤ nthD 0 temps k) then satAdd 16 (nthD 0 g.tripRun k) 1 else 0)
    crit := crit
    hot := decide (c.tHigh ≤ tm)
    critPassages := if crit then satAdd 0xFFFF g.critPassages 1 else g.critPassages
    last := p
    peak := max g.peak p }

/-- The tier of the passage after the present one for a member that follows a LEAD (R426): TIER_NEXT of the header of the
present passage, or the present tier. -/
def State.followedTier (s : State) : Nat :=
  if s.rope.leadHeader = some s.tt.passage then s.rope.leadTier else s.tt.tier

/-- Whether the part follows a LEAD's tier: a SECOND, and a joiner that computes as one (R426, R461). -/
def State.followsTier (s : State) : Bool := s.rope.role == 3 || s.rope.role == 4

/-- The tier that the time island latches for the next passage (R54, R426): the governor's choice, or the LEAD's. -/
def State.latchedTier (s : State) : Nat := if s.followsTier then s.followedTier else s.tt.tierChoice

/-- The close of an interval (R414-R427): its books, its choice for the passage after the next, this part's demand. -/
def State.closeInterval (s : State) (energy : Nat) (temps : List Int) : State :=
  let c := s.govCfg
  let g := s.gov
  let e := energy + g.monitors * 28 * s.periodNs
  let g1 := g.closeBooks c e s.periodNs s.tt.tier temps s.tt.passage
  let tm := tMax c.tHigh g.failed temps
  let s1 := if g1.crit && !g.crit then s.logOther originSelf 0x20004 (2 ^ 25) else s
  let t := if s.followsTier then s.followedTier else g.chosen
  let own := chooseTier c g1.bucket tm t g.dwell none
  let full := chooseTier c g1.bucket tm t g.dwell (if s.rope.role = 2 then some g.peerDemand else none)
  let pick : Nat × Nat := if 3 ≤ g.hold then (t, 0) else if s.followsTier then (t, 0) else full
  { s1 with
    gov := { g1 with demand := own.1
                     chosen := pick.1
                     dwell := if pick.1 = g.chosen then g.dwell + 1 else 1
                     reason := if pick.1 = t then g.reason else pick.2 }
    tt := { s1.tt with tierChoice := g.chosen } }

/-- GOV_COMMIT's range checks (R428, R430-R433). -/
def State.govInRange (s : State) : Bool :=
  let cap := s.stgW 0x20008
  let bounds := s.stgW 0x2000C
  let therm := s.stgW 0x20010
  let tune := s.stgW 0x20014
  let top := if (s.cfgW 0x20000).bit 0 then 125 else 115
  decide (cap.bits 16 5 ≤ 20) && decide (40 ≤ cap.bits 0 8) &&
    decide (bounds.bits 0 2 ≤ bounds.bits 4 2) &&
    decide (85 ≤ therm.bits 24 8 ∧ therm.bits 24 8 ≤ top) && decide (60 ≤ therm.bits 16 8 ∧ therm.bits 16 8 ≤ 124) &&
    decide (therm.bits 16 8 < therm.bits 24 8) && decide (1 ≤ therm.bits 0 4) &&
    decide (1 ≤ tune.bits 24 8 ∧ tune.bits 24 8 ≤ 254) && decide (tune.bits 24 8 < tune.bits 16 8) &&
    decide (2 ≤ tune.bits 0 8)

/-- GOV_COMMIT (R416, R428). -/
def cmdGovCommit (s : State) : Refusals × State :=
  let old := s.cfgW 0x20008
  let s1 := s.commitRegs [0x20008, 0x2000C, 0x20010, 0x20014]
  let new := s1.cfgW 0x20008
  let d := energyDepth new s.periodNs
  let b := s1.gov.bucket
  let b1 := if new.bits 0 8 ≠ old.bits 0 8 ∨ new.bits 16 5 ≠ old.bits 16 5 then min b d else b
  let b2 := if new.bit 31 && !old.bit 31 then d else b1
  ({ range := !s.govInRange }, { s1 with gov := { s1.gov with bucket := b2 } })

/-- GOV.CONTROL.CLEAR (R429). -/
def State.govClear (s : State) : State :=
  { s with gov := { s.gov with tempMax := [-32768, -32768, -32768, -32768, -32768, -32768], peak := 0 } }

end Sys2Proof.Machine
end

