-- ==== Sys2Proof/Machine/RegMask.lean ====
section
/-! DEFINITION. The register map (R503): which fields of a BAR0 register are written how (R11, the register tables of every
chapter), which are staged (R134), which reset from the parameter bank, and which LOCK bit governs a register (R12). -/

namespace Sys2Proof.Machine

/-- The fields of a register by their access type (R11). Plain RW fields that lie outside the register table (comparators,
EVIO pins, read counts, PERF.COUNT, mailboxes) are not here. -/
structure Mask where
  /-- RW fields held in the register table -/
  rw : Word := 0
  /-- LK fields -/
  lk : Word := 0
  /-- whether the RW and LK fields are staged (R134) -/
  staged : Bool := false
  /-- a LOCK bit 31 (R12) -/
  lock : Bool := false
  /-- fields whose reset value is "Bank" -/
  bank : Word := 0
  deriving DecidableEq, Repr

/-- A register of staged RW fields with bank values. -/
def Mask.stagedRw (w : Word) : Mask := { rw := w, staged := true, bank := w }

/-- A CONTROL register: LOCK, and a LEVEL of type LK with a bank value. -/
def Mask.control : Mask := { lk := 1, lock := true, bank := 1 }

/-- A register that holds nothing in the register table. -/
def Mask.none' : Mask := {}

/-- The masks of an axis page by offset (R149-R161). -/
def axisMask (o : Nat) : Option Mask :=
  match o with
  | 0x00 => some { lk := 0xF, staged := true, lock := true, bank := 0xF }
  | 0x04 | 0x10 | 0x14 | 0x18 | 0x1C | 0x28 | 0x2C => some Mask.none'
  | 0x08 => some (.stagedRw 0xF0)
  | 0x0C => some (.stagedRw 0x03FFFF03)
  | 0x20 => some (.stagedRw 0x03FF0F1F)
  | 0x24 | 0x34 | 0x38 | 0x3C | 0x80 | 0x84 | 0x88 | 0x8C | 0x90 | 0x94 | 0x98 => some (.stagedRw 0xFFFFFFFF)
  | 0x30 => some (.stagedRw 0xFF1F00BF)
  | _ =>
    if o % 4 ≠ 0 then none
    else if 0x40 ≤ o ∧ o < 0x7C then some (.stagedRw 0xFFFFFFFF)
    else if 0x200 ≤ o ∧ o < 0x400 then some (.stagedRw 0xFFFFFFFF)
    else none

/-- The masks of a generator page (R206-R211). -/
def genMask (o : Nat) : Option Mask :=
  match o with
  | 0x00 => some { rw := 0x30, lk := 0x3, staged := true, lock := true, bank := 0x33 }
  | 0x04 | 0x08 => some Mask.none'
  | 0x0C | 0x10 | 0x14 | 0x18 | 0x1C | 0x20 | 0x24 | 0x28 | 0x2C | 0x34 | 0x38 => some (.stagedRw 0xFFFFFFFF)
  | 0x30 => some (.stagedRw 0x7FFFFFFF)
  | 0x3C => some (.stagedRw 0xFFFFFF00)
  | _ => none

/-- STEP (R202-R205). -/
def stepMask (o : Nat) : Option Mask :=
  if o = 0 then some Mask.none'
  else if 0x100 ≤ o ∧ o < 0x200 then
    match o % 0x10 with
    | 0 => some (.stagedRw 0xFFFF0006)
    | 4 | 8 => some Mask.none'
    | _ => none
  else if 0x4000 ≤ o ∧ o < 0x4000 + 0x40 * 528 then genMask (o % 0x40)
  else none

/-- FBK (R238-R248). -/
def fbkMask (o : Nat) : Option Mask :=
  if o = 0 then some Mask.control
  else if o = 4 then some Mask.none'
  else if 0x1000 ≤ o ∧ o < 0x1400 then
    match o % 0x40 with
    | 0x00 => some (.stagedRw 0xFF07FFFF)
    | 0x04 => some (.stagedRw 0xFFFFFFFF)
    | 0x08 => some (.stagedRw 0x000FFFFF)
    | 0x0C => some (.stagedRw 0xFFFF00FF)
    | 0x10 | 0x14 | 0x18 | 0x1C => some Mask.none'
    | _ => none
  else if 0x2000 ≤ o ∧ o < 0x2200 then
    match o % 0x40 with
    | 0x00 => some (.stagedRw 0xFFFFFFFF)
    | 0x04 => some (.stagedRw 0xFF0003FF)
    | 0x08 | 0x0C => some (.stagedRw 0xFFFFFFFF)
    | 0x10 | 0x14 | 0x18 | 0x1C | 0x20 => some Mask.none'
    | _ => none
  else if 0x4000 ≤ o ∧ o < 0x8000 then
    match o % 0x20 with
    | 0x00 => some (.stagedRw 0x800FFFFF)
    | 0x04 => some (.stagedRw 0xFFFFFFFF)
    | 0x08 => some (.stagedRw 0xFFFF00FF)
    | 0x0C | 0x10 | 0x14 | 0x18 => some Mask.none'
    | _ => none
  else none

/-- TT (R79-R87). -/
def ttMask (o : Nat) : Option Mask :=
  match o with
  | 0x00 => some { lk := 1, lock := true }
  | 0x04 | 0x08 | 0x0C | 0x10 | 0x14 | 0x18 | 0x1C | 0x20 | 0x24 | 0x30 | 0x34 | 0x38 | 0x3C => some Mask.none'
  | _ => none

/-- GOV (R429-R436). -/
def govMask (o : Nat) : Option Mask :=
  match o with
  | 0x00 => some Mask.control
  | 0x08 => some (.stagedRw 0x801F00FF)
  | 0x0C => some (.stagedRw 0x33)
  | 0x10 => some (.stagedRw 0xFFFF000F)
  | 0x14 => some (.stagedRw 0xFFFF00FF)
  | 0x04 | 0x18 | 0x20 | 0x24 | 0x28 | 0x2C | 0x30 | 0x34 | 0x40 => some Mask.none'
  | _ => none

/-- SCHED (R406-R413). -/
def schedMask (o : Nat) : Option Mask :=
  match o with
  | 0x00 => some Mask.control
  | 0x08 => some { rw := 0xFFFF, bank := 0xFFFF }
  | 0x04 | 0x0C | 0x10 | 0x14 | 0x18 | 0x1C => some Mask.none'
  | _ =>
    if o % 4 ≠ 0 then none
    else if 0x100 ≤ o ∧ o < 0x180 then some Mask.none'
    else if 0x200 ≤ o ∧ o < 0x390 then some { lk := 0x3FFF, bank := 0x3FFF }
    else if 0x400 ≤ o ∧ o < 0x500 then (if o % 0x20 ≤ 0x14 then some Mask.none' else none)
    else none

/-- A ring's page (R282-R292). -/
def ringMask (o : Nat) : Option Mask :=
  match o with
  | 0x00 => some Mask.control
  | 0x08 => some (.stagedRw 0xFFFFFF7F)
  | 0x04 | 0x10 | 0x14 | 0x18 | 0x1C | 0x20 | 0x24 | 0x30 | 0x34 | 0x38 | 0x3C | 0x44 | 0x48 | 0x50 | 0x54 | 0x58 =>
    some Mask.none'
  | _ => if o % 4 = 0 ∧ 0x100 ≤ o ∧ o < 0x200 then some Mask.none' else none

/-- TIME (R318-R322). -/
def timeMask (o : Nat) : Option Mask :=
  match o with
  | 0x00 => some Mask.control
  | 0x10 => some { bank := 0xFFFFF }
  | 0x04 | 0x08 | 0x0C | 0x20 | 0x24 | 0x28 => some Mask.none'
  | _ =>
    if o % 4 ≠ 0 then none
    else if 0x100 ≤ o ∧ o < 0x300 then some Mask.none'
    else if 0x1000 ≤ o ∧ o < 0x1800 then some Mask.none'
    else none

/-- ACQ (R353-R358). -/
def acqMask (o : Nat) : Option Mask :=
  match o with
  | 0x00 => some Mask.control
  | 0x10 => some (.stagedRw 0xC01FFFFF)
  | 0x14 | 0x18 | 0x1C => some (.stagedRw 0xFFFFFFFF)
  | 0x20 | 0x24 | 0x28 | 0x2C => some Mask.none'
  | _ =>
    if o % 4 ≠ 0 then none
    else if 0x100 ≤ o ∧ o < 0x200 then some (.stagedRw 0xF9FF003F)
    else if 0x400 ≤ o ∧ o < 0x600 then
      match o % 0x20 with
      | 0x00 => some (.stagedRw 0xFFF00000)
      | 0x04 => some (.stagedRw 0x01FF003F)
      | 0x08 | 0x0C | 0x10 | 0x14 => some (.stagedRw 0xFFFFFFFF)
      | _ => some Mask.none'
    else if 0x800 ≤ o ∧ o < 0x900 then
      match o % 0x40 with
      | 0x00 => some (.stagedRw 0xFF000000)
      | 0x04 => some (.stagedRw 0x01FF003F)
      | 0x08 | 0x0C | 0x10 => some (.stagedRw 0x00FFFFFF)
      | 0x28 => some (.stagedRw 0xFF001FFF)
      | 0x14 | 0x18 | 0x1C | 0x20 | 0x2C | 0x30 => some Mask.none'
      | _ => none
    else none

/-- ROPE (R464-R468). -/
def ropeMask (o : Nat) : Option Mask :=
  match o with
  | 0x00 => some Mask.control
  | 0x04 | 0x08 | 0x0C | 0x10 | 0x14 | 0x18 | 0x1C => some Mask.none'
  | _ => none

/-- SAFE (R492-R498): no field is written by register writes. -/
def safeMask (o : Nat) : Option Mask :=
  if o = 0 then some { lk := 1 }
  else if o % 4 = 0 ∧ (o ≤ 0x28 ∨ (0x40 ≤ o ∧ o ≤ 0x80)) then some Mask.none' else none

/-- PERF (R534, R535). -/
def perfMask (o : Nat) : Option Mask :=
  if o = 0 then some { rw := 4, lk := 1, lock := true, bank := 1 }
  else if o % 4 ≠ 0 then none
  else if 0x100 ≤ o ∧ o < 0x300 then some { rw := 0xC0FFFFFF }
  else if 0x400 ≤ o ∧ o < 0x600 then some Mask.none'
  else if 0x800 ≤ o ∧ o < 0x900 then
    (if o % 0x10 = 0 then some { rw := 0xEFFFFFFF } else some Mask.none')
  else if 0xA00 ≤ o ∧ o < 0xA80 then
    match o % 0x10 with
    | 0 => some { rw := 0x8000FFFF }
    | 4 => some Mask.none'
    | _ => none
  else none

/-- STORE (R562, R563). -/
def storeMask (o : Nat) : Option Mask :=
  match o with
  | 0x00 => some { lock := true }
  | 0x04 | 0x08 | 0x0C | 0x10 | 0x14 => some Mask.none'
  | _ => none

/-- PLANT (R323-R325). -/
def plantMask (o : Nat) : Option Mask :=
  match o with
  | 0x00 => some (.stagedRw 0xFFFF)
  | 0x04 | 0x08 | 0x0C => some (.stagedRw 0xFFFFFFFF)
  | 0x10 => some (.stagedRw 0xFFFFFF01)
  | 0x100 => some (.stagedRw 0xFFFFFFFF)
  | 0x104 => some (.stagedRw 0xFFFF0F0F)
  | 0x108 => some (.stagedRw 0xFFFFFFFF)
  | 0x10C | 0x110 | 0x114 => some Mask.none'
  | _ => none

/-- GCTL (R521-R527). -/
def gctlMask (o : Nat) : Option Mask :=
  match o with
  | 0x08 => some Mask.control
  | 0x10 => some { rw := 0x80000000 }
  | 0x14 => some { rw := 0xFFFFF000 }
  | 0x18 => some { rw := 0xFFFFFFFF }
  | 0x00 | 0x04 | 0x40 | 0x44 | 0x48 | 0x4C | 0x50 | 0x60 | 0x64 | 0x68 | 0x6C | 0x70 => some Mask.none'
  | _ => if o % 4 = 0 ∧ 0x20 ≤ o ∧ o < 0x40 then some Mask.none' else none

/-- ACCESS (R560, R561). -/
def accessMask (o : Nat) : Option Mask :=
  match o with
  | 0x00 => some Mask.control
  | 0x04 | 0x08 => some { bank := 0x1FF }
  | 0x0C | 0x10 | 0x14 | 0x18 | 0x1C => some Mask.none'
  | _ => none

/-- The register at a BAR0 offset: its mask, or none where the location is reserved or unimplemented (R13, R503). -/
def maskOf (off : Nat) : Option Mask :=
  if 0x100000 ≤ off then
    (if off < 0x180000 then axisMask (off % 0x400) else none)
  else
    let o := off % 0x10000
    match off / 0x10000 with
    | 0x0 =>
      if o < 0x1000 then gctlMask o
      else if o < 0x2000 then accessMask (o - 0x1000)
      else if o < 0x2100 then (if o % 4 = 0 ∧ o % 0x20 ≤ 0x14 then some Mask.none' else none)
      else none
    | 0x1 => ttMask o
    | 0x2 => govMask o
    | 0x3 => schedMask o
    | 0x4 => ringMask (o % 0x4000)
    | 0x5 => timeMask o
    | 0x6 => fbkMask o
    | 0x7 => stepMask o
    | 0x8 => acqMask o
    | 0x9 => ropeMask o
    | 0xA => safeMask o
    | 0xB => perfMask o
    | 0xC => storeMask o
    | 0xD => plantMask o
    | _ => none

/-- The register that holds the LOCK bit of a register's block (R12). -/
def lockOf (off : Nat) : Nat :=
  if 0x100000 ≤ off then off / 0x400 * 0x400
  else if 0x74000 ≤ off ∧ off < 0x80000 then off / 0x40 * 0x40
  else if off < 0x1000 then 0x08
  else if off < 0x10000 then 0x1000
  else if 0x40000 ≤ off ∧ off < 0x50000 then off / 0x4000 * 0x4000
  else off / 0x10000 * 0x10000

/-- Whether a register's block is locked: the safety island sets its own LOCK (R492). -/
def State.lockedAt (s : State) (off : Nat) : Bool :=
  if lockOf off = 0xA0000 then s.safe.lock else (s.cfgW (lockOf off)).bit 31

/-- The staged mark of the page or block of a staged register (R134). -/
def State.markStaged (s : State) (off : Nat) : State :=
  if 0x100000 ≤ off then
    let i := (off - 0x100000) / 0x400
    s.setAxis i { s.axis i with staged := true }
  else if 0x74000 ≤ off ∧ off < 0x80000 then
    let g := (off - 0x74000) / 0x40
    s.setGen g { s.gen g with staged := true }
  else if 0x70100 ≤ off ∧ off < 0x70200 then
    let g := 512 + (off - 0x70100) / 0x10
    s.setGen g { s.gen g with staged := true }
  else if 0x61000 ≤ off ∧ off < 0x61400 then
    let c := (off - 0x61000) / 0x40
    s.setEnc c { s.enc c with staged := true }
  else if 0x62000 ≤ off ∧ off < 0x62200 then
    let c := (off - 0x62000) / 0x40
    s.setSer c { s.ser c with staged := true }
  else if 0x64000 ≤ off ∧ off < 0x68000 then
    let i := (off - 0x64000) / 0x20
    s.setRem i { s.rem i with staged := true }
  else if 0xD0000 ≤ off ∧ off < 0xE0000 then { s with plant := { s.plant with staged := true } }
  else s

end Sys2Proof.Machine
end

