-- ==== Sys2Proof/Machine/RingOps.lean ====
section
/-! DEFINITION. A ring's own rules as functions: slots and offsets (R254, R259, R263), barges (R258, R263), the horizon's
node updates (R264-R266), the credit books (R274, R275), holes (R269), pound delays (R278). Times are in tenths of a
nanosecond where the slot pitch needs them. -/

namespace Sys2Proof.Machine

/-- T_E, P_up, the slot pitch in tenths of ns, AS and AE of a period code (R254). -/
structure Zones where
  te : Nat
  pup : Nat
  pitch10 : Nat
  acycStart : Nat
  acycEnd : Nat
  deriving DecidableEq, Repr

/-- The zone figures of R254. -/
def zones (code period : Nat) : Zones :=
  if code = 0 then ⟨150, 2198, 512, 13500, 15125⟩
  else if code = 1 then ⟨500, 2548, 512, 18500, 30750⟩
  else ⟨850, 2898, 768, 25000, period - 500⟩

/-- The number of acyclic slots of a lane (R273). -/
def acyclicSlots (z : Zones) : Nat := min 64 ((10 * (z.acycEnd - z.acycStart) - 2176) / 2304 + 1)

/-- The head arrival instant of node `k`'s barge on a lane, in tenths of ns from passage start (R259). -/
def slotInstant (z : Zones) (n k : Nat) (laneY : Bool) : Nat :=
  10 * z.pup + (if laneY then k - 1 else n - k) * z.pitch10

/-- A barge's offset in tenths of ns (R263): arrival, expected instant, and the end of the previous frame on the lane. -/
def bargeOffset (arrival expected prevEnd : Nat) : Int :=
  if arrival < expected then (arrival : Int) - expected else (arrival : Int) - max expected prevEnd

/-- A length in blocks of 8 bytes with start and terminate, as tenths of ns on the lane: 54 bytes are 7 blocks, 90 bytes
12 blocks, at 6.4 ns a block (R258). -/
def frameTenths (bytes : Nat) : Nat := (bytes + 8) / 8 * 64

/-- Ring and lane fields of a frame's RL byte (R255, R258). -/
def rlRing (b : Byte) : Nat := b.toNat / 64
def rlLaneY (b : Byte) : Bool := b.getLsbD 5

/-- Whether a barge has the length its TWO bit says (R258). -/
def bargeLength (bs : List Byte) : Bool :=
  bs.length == (if (nthD 0 bs 1).getLsbD 0 then 90 else 54)

/-- A node's update when a copy of its barge has arrived at a receiver (R263): `ok` says that the copy is accepted. -/
def RNode.copy (x : RNode) (laneY ok : Bool) (off : Int) (bs : List Byte) : RNode :=
  let two := (nthD 0 bs 1).getLsbD 0
  let recs := (bs.drop 14).take (if two then 72 else 36)
  let larger := match x.nowOffset with
    | some o => if o.natAbs < off.natAbs then off else o
    | none => off
  let x := { x with nowOffset := some larger }
  if !ok then x
  else
    let rx := match x.rx with
      | none => { laneY := laneY, recs := recs, safe := (bs.drop 6).take 8, offset := off, diverge := false }
      | some r => { r with diverge := r.diverge || (r.recs != recs) }
    { x with
      nowX := x.nowX || !laneY, nowY := x.nowY || laneY, rx := some rx
      gtot := nthD 0 bs 4, utot := nthD 0 bs 5
      rxFree := (nthD 0 bs 3).toNat / 16, aq := (nthD 0 bs 3).toNat % 16 }

/-- Whether the passage's offset is an EDGE: more than half the guard (R264). -/
def RNode.edgeNow (x : RNode) (guard : Nat) : Bool := match x.nowOffset with
  | some o => decide (5 * guard < o.natAbs)
  | none => false

/-- An offset in ns for the register, saturating (R291): tenths rounded half up. -/
def offsetNs (o : Int) : Int :=
  let n := divRound o 10
  if 32767 < n then 32767 else if n < -32767 then -32767 else n

/-- The in-flight terms of a node: granted and not yet seen, sent and not yet received (R274). -/
def RNode.inflightDown (x : RNode) : Nat := (x.granted - x.gtot).toNat
def RNode.inflightUp (x : RNode) : Nat := (x.utot - x.used).toNat
/-- Credits held at the node, and outstanding ones (R274). -/
def RNode.held (x : RNode) : Nat := (x.gtot - x.utot).toNat
def RNode.outstanding (x : RNode) : Nat := (x.granted - x.used).toNat

/-- A node at the ring-in horizon: the lane flags, the EDGE count, the runs of TRIAL and of absence, the in-flight
evaluation; the passage's marks are cleared (R264-R266, R275). -/
def RNode.horizon (x : RNode) (guard : Nat) : RNode :=
  let got := x.nowOffset.isSome
  let acc := x.nowX || x.nowY
  let edge := x.edgeNow guard
  { x with
    laneX := x.nowX, laneY := x.nowY, nowX := false, nowY := false, rx := none, nowOffset := none
    offset := match x.nowOffset with
      | some o => offsetNs o
      | none => x.offset
    edgeRun := if got then (if edge then satAdd 255 x.edgeRun 1 else 0) else x.edgeRun
    joinRun := if decide (x.lock = .trial) && acc && !edge then x.joinRun + 1 else 0
    absence := if acc then 0 else x.absence + 1
    inflightRun := if x.inflightDown ≠ 0 ∨ x.inflightUp ≠ 0 then x.inflightRun + 1 else 0 }

/-- A node's books resynchronised (R275): the frames given up. -/
def RNode.resync (x : RNode) : RNode × Nat :=
  ({ x with granted := x.gtot, used := x.utot, inflightRun := 0 }, x.inflightUp)

/-- The outstanding credits of a ring (R274). -/
def Ring.outstanding (r : Ring) : Nat := r.nodes.foldl (fun n p => n + p.2.outstanding) 0

/-- The free credits (R274). -/
def Ring.free (r : Ring) (pool : Nat) : Nat := pool - r.outstanding

/-- A node by number. -/
def Ring.node (r : Ring) (k : Nat) : RNode := Tab.get {} r.nodes k
def Ring.setNode (r : Ring) (k : Nat) (x : RNode) : Ring := { r with nodes := Tab.put {} r.nodes k x }

/-- The nodes in turn, starting after the one served last (R274). -/
def turnOrder (n last : Nat) : List Nat := (List.range n).map (fun j => (last + j) % n + 1)

/-- The grants of credits to the nodes in turn (R274): from Free, to at most AQ - held, at most 4 a node, each only while the receive
queue has at least one more free entry than there are outstanding credits. -/
def grantCredits (pool : Nat) : List Nat → Ring → Ring
  | [], r => r
  | k :: rest, r =>
    let x := r.node k
    let queueFree := 512 - (r.arxWr - r.arxRd).toNat
    let room := queueFree - r.outstanding
    let want := min (min (x.aq - x.held) 4) (min (r.free pool) room)
    if x.lock = .opened ∧ 0 < want then
      grantCredits pool rest
        { (r.setNode k { x with granted := x.granted + BitVec.ofNat 8 want }) with lastServed := k }
    else grantCredits pool rest r

/-- The acyclic slots of the next passage, one at most to each node that holds a credit and a frame (R274). -/
def grantSlots (slots : Nat) : List Nat → Nat → Ring → Ring
  | [], _, r => r
  | k :: rest, s, r =>
    let x := r.node k
    if decide (x.lock = .opened) && decide (0 < x.held) && decide (0 < x.aq) && decide (s < slots) then
      grantSlots slots rest (s + 1) (r.setNode k { x with aslot := some s })
    else grantSlots slots rest s (r.setNode k { x with aslot := none })

/-- The pound that a folded header names (R269): on X the one after the member it reached, on Y the one before it, with
`members` the number of members besides the head. -/
def holeOf (laneY : Bool) (hops members : Nat) : Nat := if laneY then members - hops - 1 else hops + 1

/-- A frame repeated out of the other port (R251): not into a pound taken as dead (R269). -/
def Ring.repeats (x : Ring) (port : Nat) (bs : List Byte) : Ring :=
  if (if port = 0 then x.dead1 else x.dead0) then x else { x with txRepeat := bs }

/-- A hole taken up: the count of HEAL rises on entry into HEALED and into SPLIT (R269, R287). -/
def Ring.addHole (r : Ring) (p : Nat) : Ring :=
  if r.holes.contains p then r
  else { r with holes := p :: r.holes, heal := if r.holes.length < 2 then r.heal + 1 else r.heal }

/-- The code of RING.STATUS.STATE (R283). -/
def Ring.stateCode (r : Ring) : Nat := match r.st with
  | .off => 0
  | .listen => 1
  | .conflict => 14
  | .run => if r.holes.isEmpty then 2 else if r.holes.length = 1 then 3 else 4

/-- The number of nodes in OPEN (R283). -/
def Ring.openCount (r : Ring) : Nat := (r.nodes.filter (fun p => p.2.lock == .opened)).length

/-- The mean of the last 8 pound delays (R278), rounded half up. -/
def poundMean (l : List Int) : Int := divRound (l.foldl (· + ·) 0) l.length

/-- A result pushed among the last 8. -/
def pushResult (l : List Int) (x : Int) : List Int := (x :: l).take 8

/-- The pound delay of a reply (R278): `((T4 - T1) - (T3 - T2)) / 2`, rounded half up. -/
def poundDelay (t1 t2 t3 t4 : U64) : Int := divRound ((t4 - t1).toInt - (t3 - t2).toInt) 2

/-- The LOCK words of R285. -/
def Ring.lockWord (r : Ring) (m : Nat) : Word :=
  BitVec.ofNat 32 ((List.range 16).foldl (fun acc j => acc + (r.node (16 * m + j + 1)).lock.code * 4 ^ j) 0)

/-- A passage header or cold-start header (R255), its CHECK with it. -/
def headerBytes (ftype ring : Nat) (laneY folded team origin healed : Bool) (rank period tierNext : Nat) (passage : Word)
    (dep : U64) (tag : Word) (nodes xpos ypos guard : Nat) : List Byte :=
  withCheck ([BitVec.ofNat 8 ftype, BitVec.ofNat 8 (ring * 64 + 32 * bitNat laneY + 16 * bitNat folded),
    BitVec.ofNat 8 (bitNat team + 2 * bitNat origin + 4 * bitNat healed + 8 * rank),
    BitVec.ofNat 8 (16 * period + tierNext)] ++ bytesLE 4 passage.toNat ++ bytesLE 8 dep.toNat ++ bytesLE 4 0 ++
    bytesLE 4 tag.toNat ++ [BitVec.ofNat 8 nodes, 0, BitVec.ofNat 8 (xpos + 16 * ypos), BitVec.ofNat 8 guard])

/-- A header repeated by a member (R256): CORR grown by the residence time and the incoming pound's delay, in units of
1/16 ns, HOPS by one, CHECK computed anew. -/
def repeatHeader (bs : List Byte) (residence16 pound : Nat) : List Byte :=
  let corr := fieldLE bs 16 4 + residence16 + 16 * pound
  withCheck (bs.take 16 ++ bytesLE 4 corr ++ (bs.drop 20).take 5 ++
    [nthD 0 bs 25 + 1] ++ (bs.drop 26).take 2)

/-- A header turned back at a hole (R269): FOLDED set, HOPS as on arrival, CHECK computed anew. -/
def foldHeader (bs : List Byte) : List Byte :=
  withCheck ([nthD 0 bs 0, nthD 0 bs 1 ||| 0x10#8] ++ (bs.drop 2).take 26)

/-- The head time that a header gives at the arrival of its first block (R257), in units of 1/16 ns: DEP_TIME, CORR and the delay
of the incoming pound. -/
def headTime16 (bs : List Byte) (pound : Int) : Int := 16 * (fieldLE bs 8 8 : Int) + fieldLE bs 16 4 + 16 * pound

/-- D_up of a lane (R257): the path of the other lane's latest header; P0 receives lane Y. -/
def Ring.dUp (x : Ring) (laneY : Bool) : Option Nat := (if laneY then x.ref1 else x.ref0).map (·.path)

/-- A member's time-error estimate in 1/16 ns (R257): half the difference of the lanes' head times, or the clock's own uncertainty
since the latest header, whichever is larger. -/
def Ring.timeError (x : Ring) (raw : U64) : Nat :=
  let since (h : HeadRef) : Nat := 16 * Config.clockUncertainty (raw - h.raw).toNat
  match x.ref0, x.ref1 with
  | some y, some z => max ((y.ahead - z.ahead).natAbs / 2) (min (since y) (since z))
  | some y, none => since y
  | none, some z => since z
  | none, none => 0

/-- A downstream record of 52 bytes (R267). -/
def recordBytes (node age slot kind : Nat) (lock : NLock) (aslot : Option Nat) (payload safe : List Byte)
    (gtot : Byte) : List Byte :=
  withCheck ([BitVec.ofNat 8 node, BitVec.ofNat 8 (16 * age + 8 * slot + kind),
    BitVec.ofNat 8 (match lock with
      | .absent => 0
      | l => l.code), BitVec.ofNat 8 (aslot.getD 0xFF)] ++
    payload ++ safe ++ [gtot, 0, 0, 0])

/-- A head-to-node acyclic frame (R272). -/
def acyclicBytes (ring node seq proto : Nat) (laneY : Bool) (payload : List Byte) : List Byte :=
  withCheck ([0x31#8, BitVec.ofNat 8 (ring * 64 + 32 * bitNat laneY), BitVec.ofNat 8 node, BitVec.ofNat 8 seq,
    BitVec.ofNat 8 proto] ++ bytesLE 2 payload.length ++ [0#8] ++ payload)

end Sys2Proof.Machine
end

