-- ==== Sys2Proof/Machine/PerfOps.lean ====
section
/-! DEFINITION. The performance counters (R528-R531): an event counted, chains, and the events of which the model keeps no
number. -/

namespace Sys2Proof.Machine

/-- CFG of counter `k` (R534). -/
def State.perfCfg (s : State) (k : Nat) : Word := s.cfgW (0xB0100 + 4 * k)

/-- Whether the counters run: FREEZE is 0 (R534). -/
def State.perfRuns (s : State) : Bool := !(s.cfgW 0xB0000).bit 2

/-- Whether any counter is on. -/
def State.perfOn (s : State) : Bool :=
  s.perfRuns && s.regs.cfg.any (fun p => decide (0xB0100 ≤ p.1 ∧ p.1 < 0xB0300) && p.2.bit 31)

/-- `n` added to counter `k`, and its wraps to the next counter while CHAIN is 1 (R529); `fuel` counters at most. -/
def State.bump (s : State) : Nat → Nat → Nat → State
  | 0, _, _ => s
  | fuel + 1, k, n =>
    if n = 0 ∨ 128 ≤ k then s
    else
      let c := (Tab.get 0 s.perf.counts k).toNat + n
      let s1 := { s with perf := { s.perf with counts := Tab.put 0 s.perf.counts k (BitVec.ofNat 32 c) } }
      if (s1.perfCfg k).bit 30 && decide (k < 127) then State.bump s1 fuel (k + 1) (c / 2 ^ 32) else s1

/-- Whether counter `k` counts its own event: on, and not counting the carries of the counter before it (R529). -/
def State.countsOwn (s : State) (k : Nat) : Bool :=
  (s.perfCfg k).bit 31 && (k == 0 || !(s.perfCfg (k - 1)).bit 30)

/-- The counters with an event and a unit, by the registers that are set. -/
def State.countersOf (s : State) (event unit : Nat) : List Nat :=
  (s.regs.cfg.filter (fun p => decide (0xB0100 ≤ p.1 ∧ p.1 < 0xB0300) && p.2.bits 0 16 == event && p.2.bits 16 8 == unit &&
    s.countsOwn ((p.1 - 0xB0100) / 4))).map (fun p => (p.1 - 0xB0100) / 4)

/-- `n` events of a unit counted (R528). -/
def State.count (s : State) (event unit n : Nat) : State :=
  if s.perfRuns then (s.countersOf event unit).foldl (fun s k => s.bump 128 k n) s else s

/-- Events of which the model keeps no number: cycles of waits and of S-cores, blocks, words, TLPs and accesses on ports
(log 23). -/
def uncounted (event : Nat) : Bool :=
  [0x0300, 0x0302, 0x0400, 0x0600, 0x0700, 0x0800, 0x0801, 0x0804].contains event

/-- Every counter of such an event grows by a free amount (log 23). -/
def State.countFree (s : State) : State :=
  if !s.perfOn then s
  else
    (s.regs.cfg.filter (fun p => decide (0xB0100 ≤ p.1 ∧ p.1 < 0xB0300) && uncounted (p.2.bits 0 16) &&
      s.countsOwn ((p.1 - 0xB0100) / 4))).foldl (fun s p =>
        let t := s.tick
        t.2.bump 128 ((p.1 - 0xB0100) / 4) ((Config.free t.1).toNat % 2 ^ 32)) s

end Sys2Proof.Machine
end

