-- ==== Sys2Proof/Machine/SchedOps.lean ====
section
/-! DEFINITION. The soft plane's scheduler (11_soft_plane): descriptors in memory (R393), the memory that S-cores may reach
(R392), tokens (R395), ready order and prefetch (R397-R399), task starts and ends (R394, R403), delays (R400). -/

namespace Sys2Proof.Machine

/-! ### Memory open to the soft plane -/

/-- Whether a MOVE entry touches the 4 KiB page `pg` (R63, R392): one of its blocks reads or writes in it. -/
def Entry.touches (e : Entry) (pg : Nat) : Bool :=
  e.kind == 2 &&
    (let words := e.op2.bits 0 13
     let hit (a stride : Nat) : Bool := (List.range (e.op2.bits 16 5)).any (fun i =>
       decide (a + 32 * stride * i < 4096 * (pg + 1)) && decide (4096 * pg < a + 32 * stride * i + 32 * words))
     hit e.op0.toNat (e.op3.bits 0 16) || hit e.op1.toNat (e.op4.bits 0 16))

/-- Whether an image uses a page of region SRAM: segment and code areas, and MOVE entries of any tier (R392). -/
def Image.usesPage (im : Image) (pg : Nat) : Bool :=
  im.wiring.pages.contains pg || im.tiers.any (fun t => t.any (fun g => g.entries.any (fun e => e.touches pg)))

/-- Whether the timetable of either image uses a page of region SRAM (R110, R392). -/
def State.pageUsed (s : State) (pg : Nat) : Bool :=
  (match s.tt.running with
   | some im => im.usesPage pg
   | none => false) ||
  (match s.tt.shadow with
   | some im => im.usesPage pg
   | none => false)

/-- Region SRAM (R64). -/
def inRegion (a : Nat) : Bool := decide (0x02000000 ≤ a ∧ a < 0x02800000)

/-- Region SRAM that the soft plane may use (R392). -/
def State.regionOpen (s : State) (a : Nat) : Bool :=
  inRegion a && decide (a % 0x200000 < 0x1FF000) && !(s.pageUsed (a / 4096))

/-- The soft-plane area (R392). -/
def inSoftArea (a : Nat) : Bool := decide (0x03680000 ≤ a ∧ a < 0x036C0000)

/-- The matching store, whose layout the spec does not give (R392). -/
def inMatching (a : Nat) : Bool := decide (0x036E0000 ≤ a ∧ a < 0x036E8000)

/-- The ring buffers (R64, R280). -/
def inRings (a : Nat) : Bool := decide (0x03400000 ≤ a ∧ a < 0x03600000)

/-- What an S-core may write (R392). -/
def State.softWrites (s : State) (a : Nat) : Bool := s.regionOpen a || inSoftArea a

/-- What an S-core may read (R392): also the receive queues, the capture queue, the acquisition records, the descriptor
table and the matching store. -/
def State.softReads (s : State) (a : Nat) : Bool :=
  s.softWrites a ||
  (inRings a && decide (0x10000 ≤ a % 0x80000 ∧ a % 0x80000 < 0x38000)) ||
  decide (0x03600000 ≤ a ∧ a < 0x03604000) ||
  decide (0x03620000 ≤ a ∧ a < 0x03638000) ||
  decide (0x036C0000 ≤ a ∧ a < 0x036E8000)

/-! ### Descriptors -/

/-- The address of a descriptor (R393). -/
def descAddr (d : Nat) : Nat := 0x036C0000 + 32 * d

/-- A word of a descriptor. -/
def State.descWord (s : State) (d o : Nat) : Word := s.mem.word (descAddr d + o)
/-- A byte of a descriptor. -/
def State.descByte (s : State) (d o : Nat) : Nat := (s.mem.byte (descAddr d + o)).toNat
/-- PRIO, CORES, NTOK, VALID and STATE of a descriptor (R393). -/
def State.descPrio (s : State) (d : Nat) : Nat := s.descByte d 16 % 32
def State.descCores (s : State) (d : Nat) : Nat := s.descByte d 17
def State.descNtok (s : State) (d : Nat) : Nat := s.descByte d 18 % 8
def State.descState (s : State) (d : Nat) : Nat := s.descByte d 20 % 8

/-- The codes of STATE (R393). -/
def dInvalid : Nat := 0
def dIdle : Nat := 1
def dReady : Nat := 2
def dPrefetched : Nat := 3
def dRunning : Nat := 4
def dDelayed : Nat := 5

/-- STATE written (R393). -/
def State.setDescState (s : State) (d st : Nat) : State :=
  s.store' (descAddr d + 20) [BitVec.ofNat 8 st]

/-! ### The books -/

/-- A core by number. -/
def State.core (s : State) (c : Nat) : Core := Tab.get {} s.sched.cores c
def State.setCore (s : State) (c : Nat) (x : Core) : State :=
  { s with sched := { s.sched with cores := Tab.put {} s.sched.cores c x } }

/-- The entry of a descriptor in the matching store (R395). -/
def State.entry (s : State) (d : Nat) : Option Match := Tab.get none s.sched.entries d
def State.setEntry (s : State) (d : Nat) (m : Option Match) : State :=
  { s with sched := { s.sched with entries := Tab.put none s.sched.entries d m } }

/-- Slot `j` of an entry. -/
def Match.slot (m : Match) (j : Nat) : Option Word :=
  match j with
  | 0 => m.t0
  | 1 => m.t1
  | 2 => m.t2
  | _ => m.t3

/-- Slot `j` filled or emptied. -/
def Match.setSlot (m : Match) (j : Nat) (v : Option Word) : Match :=
  match j with
  | 0 => { m with t0 := v }
  | 1 => { m with t1 := v }
  | 2 => { m with t2 := v }
  | _ => { m with t3 := v }

/-- Whether slots 0 to NTOK - 1 are filled (R395). -/
def Match.complete (m : Match) (ntok : Nat) : Bool := (List.range ntok).all (fun j => (m.slot j).isSome)

/-- The FREE entries (R402). -/
def State.freeMatches (s : State) : Nat := 1024 - s.sched.entries.length

/-- Tokens counted in DISCARD (R395, R407). -/
def State.discardTokens (s : State) (n : Nat) : State :=
  { s with sched := { s.sched with discard := satAdd 0xFFFF s.sched.discard n } }

/-! ### Ready order and prefetch -/

/-- Whether READY descriptor `d` comes before `e` (R398): the higher priority, then the lower sequence number. -/
def State.before (s : State) (d e : Nat) : Bool :=
  decide (s.descPrio d < s.descPrio e) ||
    (s.descPrio d == s.descPrio e && decide (Tab.get 0 s.sched.order d < Tab.get 0 s.sched.order e))

/-- The first descriptor of a list by the order of R398. -/
def State.firstOf (s : State) : List Nat → Option Nat
  | [] => none
  | d :: r => match s.firstOf r with
    | none => some d
    | some e => if s.before d e then some d else some e

/-- The READY descriptors that a core may run (R398). -/
def State.eligible (s : State) (c : Nat) : List Nat :=
  (s.sched.order.map (·.1)).filter (fun d => s.descState d == dReady && (s.descCores d).testBit c)

/-- A descriptor placed among a core's prefetch slots in the order of R398. -/
def State.placeSlot (s : State) (d : Nat) : List Nat → List Nat
  | [] => [d]
  | e :: r => if s.before d e then d :: e :: r else e :: s.placeSlot d r

/-- One step of a running core's prefetch (R399): an empty slot takes the first eligible READY descriptor; a descriptor of
strictly higher priority than the last slot's sends that one back to its place. -/
def State.prefetchOne (s : State) (c : Nat) : State :=
  let x := s.core c
  match s.firstOf (s.eligible c), x.pre.reverse with
  | none, _ => s
  | some d, last :: rest =>
    if s.descPrio d < s.descPrio last then
      let s := (s.setDescState last dReady).setDescState d dPrefetched
      s.setCore c { x with pre := s.placeSlot d rest.reverse }
    else if x.pre.length < 2 then
      (s.setDescState d dPrefetched).setCore c { x with pre := s.placeSlot d x.pre }
    else s
  | some d, [] => (s.setDescState d dPrefetched).setCore c { x with pre := [d] }

/-- The prefetch slots of every core that runs a task filled, lower-numbered cores first (R398, R399). -/
def State.prefetch (s : State) : State :=
  if s.sched.fault then s
  else (List.range 8).foldl (fun s c =>
    if (s.core c).task.isSome && !(s.core c).out then ((s.prefetchOne c).prefetchOne c).prefetchOne c else s) s

/-- A descriptor becomes READY with a new number (R397), as a resume or not; READY_AT is RAW (R393). -/
def State.makeReady (s : State) (d : Nat) (resume : Bool) : State :=
  let n := s.sched.seq + 1
  let s := (s.setDescState d dReady)
  let s := s.store' (descAddr d + 28) (bytesLE 4 (lo32 s.time.raw).toNat)
  let s := { s with sched := { s.sched with seq := n, order := Tab.put 0 s.sched.order d n
                                            resume := if resume then addNew d s.sched.resume else s.sched.resume } }
  let s := (List.range 8).foldl (fun s c =>
    s.setCore c { (s.core c) with winElig := max (s.core c).winElig (s.eligible c).length }) s
  s.prefetch

/-- A COMPLETE entry of an IDLE descriptor makes it READY (R395). -/
def State.checkComplete (s : State) (d : Nat) : State :=
  match s.entry d with
  | some m => if s.descState d == dIdle && m.complete (s.descNtok d) then s.makeReady d false else s
  | none => s

/-! ### Tokens -/

/-- What became of a token (R395): taken, discarded, or refused. -/
inductive TokenRes
  | taken
  | discarded
  | refused
  deriving DecidableEq, Repr

/-- The scheduler reads a descriptor (R403): a word that does not decode is a unit fault of the scheduler. -/
def State.readDesc (s : State) (d : Nat) : State := if s.undecodable (descAddr d) then s.idieFault (descAddr d) else s

/-- A token for slot `j` of descriptor `d` (R395): a faulted scheduler refuses it (R403). -/
def State.token (s0 : State) (d j : Nat) (v : Word) : State × TokenRes :=
  let s := s0.readDesc d
  if s.sched.fault then (s, .refused)
  else if s.descState d = dInvalid ∨ s.descNtok d ≤ j then (s.discardTokens 1, .discarded)
  else match s.entry d with
    | none =>
      if s.freeMatches = 0 then (s, .refused)
      else (((s.setEntry d (some (({} : Match).setSlot j (some v)))).checkComplete d), .taken)
    | some m =>
      if m.complete (s.descNtok d) || (m.slot j).isSome then (s, .refused)
      else ((s.setEntry d (some (m.setSlot j (some v)))).checkComplete d, .taken)

/-- Sources of tokens with a pending flag (R401): comparators 0-31, EVIO pins 32-95, rings 96-99; the route of each (R410)
and the count that its token carries. -/
def sourceRoute (k : Nat) : Nat :=
  if k < 32 then 0x30200 + 4 * k else if k < 96 then 0x30280 + 4 * (k - 32) else 0x30380 + 4 * (k - 96)

/-- The count that a source's token carries at its acceptance (R401). -/
def State.sourceCount (s : State) (k : Nat) : Word :=
  if k < 32 then (Tab.get {} s.time.cmps k).count else if k < 96 then s.time.capWr
  else (Tab.get {} s.rings (k - 96)).arxWr

/-- Whether a source has a pending token (R408). -/
def State.sourcePending (s : State) (k : Nat) : Bool :=
  if k < 32 then s.sched.pendCmp.bit k else if k < 96 then s.sched.pendEvio.getLsbD (k - 32)
  else s.sched.pendRing.testBit (k - 96)

/-- A source's pending flag written (R401). -/
def State.setPending (s : State) (k : Nat) (b : Bool) : State :=
  let w := s.sched
  let put {n : Nat} (x : BitVec n) (j : Nat) : BitVec n :=
    if b then x ||| (1#n <<< j) else x &&& ~~~(1#n <<< j)
  if k < 32 then { s with sched := { w with pendCmp := put w.pendCmp k } }
  else if k < 96 then { s with sched := { w with pendEvio := put w.pendEvio (k - 32) } }
  else { s with sched := { w with pendRing := (put (BitVec.ofNat 4 w.pendRing) (k - 96)).toNat } }

/-- A token offered by a hardware source (R401, R410): a refused one stays pending. -/
def State.offer (s : State) (k : Nat) : State :=
  let route := s.cfgW (sourceRoute k)
  let r := s.token (route.bits 0 12) (route.bits 12 2) (s.sourceCount k)
  r.1.setPending k (r.2 == .refused)

/-! ### Tasks -/

/-- A unit by number. -/
def State.lux (s : State) (u : Nat) : Lux := Tab.get {} s.units u
def State.setLux (s : State) (u : Nat) (x : Lux) : State := { s with units := Tab.put {} s.units u x }

/-- The descriptors that a core may start (R398): READY ones, and those in the prefetch slots of any core. -/
def State.startable (s : State) (c : Nat) : List Nat :=
  (s.sched.order.map (·.1)).filter (fun d => s.descCores d |>.testBit c)

/-- A descriptor taken out of every prefetch slot and ready list (R398). -/
def State.takeReady (s : State) (d : Nat) : State :=
  { s with sched := { s.sched with
      order := Tab.erase s.sched.order d
      cores := (List.range 8).foldl (fun t c =>
        Tab.put {} t c { (Tab.get {} t c) with pre := (Tab.get {} t c).pre.filter (· != d) }) s.sched.cores } }

/-- A table of registers from a list of words, from number `k` on. -/
def regsFrom : Nat → List Word → Tab Word
  | _, [] => []
  | k, w :: r => if w = 0 then regsFrom (k + 1) r else (k, w) :: regsFrom (k + 1) r

/-- The registers with which a task starts (R394). -/
def State.startRegs (s : State) (d : Nat) (x : Lux) : Lux :=
  let m := (s.entry d).getD {}
  let n := s.descNtok d
  let tok (j : Nat) : Word := if j < n then (m.slot j).getD 0 else 0
  { x with sr := regsFrom 0 [BitVec.ofNat 32 d, tok 0, tok 1, tok 2, tok 3, s.descWord d 8, s.tt.passage]
           pr := regsFrom 0 [s.descWord d 4, s.descWord d 12]
           pc := (s.descWord d 0).toNat, loops := [], mac := false }

/-- The registers with which a delayed task continues (R400): restored from CTX, with OK in the scalar that its TDLY
names. -/
def State.resumeRegs (s : State) (d : Nat) (x : Lux) : Lux :=
  let ctx := (s.descWord d 12).toNat
  let word (k : Nat) : Word := s.mem.word (ctx + 4 * k)
  let sr := regsFrom 0 ((List.range 16).map word)
  { x with sr := Tab.put 0 sr (Tab.get 0 s.sched.dlyReg d) 0
           pr := regsFrom 0 ((List.range 8).map (fun k => word (16 + k)))
           pc := (word 24).toNat, loops := [], mac := false }

/-- The registers of a core that takes up a task: those saved at its delay, or those of a start, which consumes its entry (R394,
R398, R400). -/
def State.loadTask (s : State) (c d : Nat) : State :=
  let x := s.lux (80 + c)
  if s.sched.resume.contains d then s.setLux (80 + c) (s.resumeRegs d x)
  else (s.setLux (80 + c) (s.startRegs d x)).setEntry d none

/-- A descriptor goes RUNNING on a core (R393): STATE, CORE and STARTS are written. -/
def State.setRunning (s : State) (c d : Nat) : State :=
  let n := s.descWord d 24 + 1
  (((s.takeReady d).setDescState d dRunning).store' (descAddr d + 21) [BitVec.ofNat 8 c]).store' (descAddr d + 24) (bytesLE 4 n.toNat)

/-- A task runs on a core from now on, with its wait entered in the core's window (R405). -/
def State.runTask (s : State) (c d : Nat) : State :=
  let wait := (lo32 s.time.raw - s.descWord d 28).toNat
  let t := (s.loadTask c d).setRunning c d
  let x := t.core c
  (({ t with sched := { t.sched with resume := t.sched.resume.filter (· != d), dlyReg := Tab.erase t.sched.dlyReg d } }.setCore c
    { x with task := some d, starts := x.starts + 1, winMax := max x.winMax wait, winSum := x.winSum + wait
             winCount := x.winCount + 1 }).count 0x0303 c 1).prefetch

/-- A core starts its next task (R394, R398): nothing when it runs one, is out of service, or has none to start; a descriptor that
does not decode faults the scheduler instead (R403). -/
def State.startTask (s : State) (c : Nat) : State :=
  let x := s.core c
  if x.task.isSome || x.out || s.sched.fault || decide (8 ≤ c) then s
  else match s.firstOf (s.startable c) with
    | none => s
    | some d => if s.undecodable (descAddr d) then s.readDesc d else s.runTask c d

/-- A core's task ends: its descriptor is IDLE, and a COMPLETE entry makes it READY again (R395, R403). -/
def State.endTask (s : State) (c : Nat) : State :=
  match (s.core c).task with
  | none => s
  | some d => ((s.setCore c { (s.core c) with task := none }).setDescState d dIdle).checkComplete d

/-- A core leaves service (R403): its prefetched descriptors return to READY in their places. -/
def State.coreOut (s : State) (c : Nat) : State :=
  let x := s.core c
  let s := x.pre.foldl (fun s d => s.setDescState d dReady) s
  (s.setCore c { x with out := true, pre := [] }).prefetch

/-- A delay placed among those of its list, after those that expire no later (R400). -/
def insertDelay (d n : Nat) : List (Nat × Nat) → List (Nat × Nat)
  | [] => [(d, n)]
  | (e, m) :: r => if n < m then (d, n) :: (e, m) :: r else (e, m) :: insertDelay d n r

/-- A task suspended (R387, R400): its context saved, its descriptor DELAYED. -/
def State.delayTask (s : State) (c d dreg n : Nat) (micro : Bool) (next : Nat) : State :=
  let x := s.lux (80 + c)
  let ctx := (s.descWord d 12).toNat
  let bytes := ((List.range 16).map (fun k => Tab.get 0 x.sr k)).flatMap (fun w => bytesLE 4 w.toNat) ++
    ((List.range 8).map (fun k => Tab.get 0 x.pr k)).flatMap (fun w => bytesLE 4 w.toNat) ++ bytesLE 4 next ++
    bytesLE 28 0
  let s := s.store' ctx bytes
  let s := { s with
    sched := { s.sched with
      dlyReg := Tab.put 0 s.sched.dlyReg d dreg
      dlyPassage := if micro then s.sched.dlyPassage else insertDelay d n s.sched.dlyPassage
      dlyMicro := if micro then insertDelay d (s.time.raw.toNat / 1000 + n) s.sched.dlyMicro else s.sched.dlyMicro } }
  (s.setCore c { (s.core c) with task := none }).setDescState d dDelayed

/-- The passage list's tick at a passage start (R400). -/
def Sched.tick (x : Sched) : Sched := { x with dlyPassage := x.dlyPassage.map (fun p => (p.1, p.2 - 1)) }

/-- A delayed descriptor taken off its list. -/
def Sched.undelay (x : Sched) (d : Nat) : Sched :=
  { x with dlyPassage := x.dlyPassage.filter (fun p => p.1 != d), dlyMicro := x.dlyMicro.filter (fun p => p.1 != d) }

/-- The window of R405 closed: each core latches its figures; LOAD and FWAIT are free permille values, since the model keeps
no cycles of the S-cores (log 12). -/
def State.closeWindow (s : State) : State :=
  (List.range 8).foldl (fun s c =>
    let x := s.core c
    let t := s.tick
    let load := (Config.free t.1).toNat % 1001
    let t2 := t.2.tick
    let fwait := (Config.free t2.1).toNat % 1001
    t2.2.setCore c { x with load := load, fwait := fwait
                            waitMax := BitVec.ofNat 32 (min 0xFFFFFFFF x.winMax)
                            waitMean := BitVec.ofNat 32 (divRound (x.winSum : Int) x.winCount).toNat
                            maxElig := x.winElig, winMax := 0, winSum := 0, winCount := 0
                            winElig := (s.eligible c).length })
    { s with sched := { s.sched with window := 0 } }

/-- A new window begun (R405). -/
def State.openWindow (s : State) : State :=
  (List.range 8).foldl (fun s c =>
    s.setCore c { (s.core c) with winMax := 0, winSum := 0, winCount := 0, winElig := (s.eligible c).length })
    { s with sched := { s.sched with window := 0 } }

/-! ### The books of R402 -/

/-- The descriptors in a state. -/
def State.countDesc (s : State) (st : Nat) : Nat :=
  ((List.range 4096).filter (fun d => s.descState d == st)).length

/-- COMPLETE and PARTIAL entries (R402). -/
def State.completeMatches (s : State) : Nat :=
  (s.sched.entries.filter (fun p => match p.2 with
    | some m => m.complete (s.descNtok p.1)
    | none => false)).length

end Sys2Proof.Machine
end

