-- ==== Sys2Proof/Machine/RegRead.lean ====
section
/-! DEFINITION. What a BAR0 register reads (R11, R13, R134): the stored bits of its RW, LK and LOCK fields, the staged copy of
staged ones, and the fields that other parts of the state hold. -/

namespace Sys2Proof.Machine

/-- A word packed from values and the bit each starts at. -/
def pack (l : List (Nat × Nat)) : Word := BitVec.ofNat 32 (l.foldl (fun n p => n + p.1 * 2 ^ p.2) 0)

/-- `n` flags as a number, flag `k` at bit `k`. -/
def flagsNat (n : Nat) (p : Nat → Bool) : Nat := (List.range n).foldl (fun a k => a + bitNat (p k) * 2 ^ k) 0

/-- A signed number in `n` bits. -/
def signedNat (n : Nat) (x : Int) : Nat := (x % 2 ^ n).toNat

/-- An axis page (R149-R160). -/
def State.axisWord (s : State) (i o : Nat) : Word :=
  let a := s.axis i
  match o with
  | 0x04 => pack [(a.st.code, 28), ((a.latched.map (·.cause)).getD 0, 25),
      (bitNat ((s.servoWire i).map (·.form) == some true), 24), (a.w, 16), (a.nxt, 12), (a.sel, 8), (a.region, 4),
      (bitNat a.load.isSome, 3), (bitNat a.staged, 2), (bitNat a.sat, 1), (bitNat a.warn, 0)]
  | 0x08 => pack [(a.stalePassages, 16), (a.age, 0)]
  | 0x10 => pack [(bitNat a.dev, 31), (a.delay % 2 ^ 24, 0)]
  | 0x14 => pack [(a.delayMax % 2 ^ 24, 0)]
  | 0x18 => match s.servoWire i with
    | some w => pack [(w.base, 16), (w.stride, 0)]
    | none => 0
  | 0x1C => match s.servoWire i with
    | some w => BitVec.ofNat 32 w.stage
    | none => 0
  | 0x28 => pack [(a.trips, 16), (a.supCount, 0)]
  | 0x2C => a.resid
  | _ => 0

/-- STEP (R202-R211). -/
def State.stepWord (s : State) (o : Nat) : Word :=
  if o = 0 then pack [(flagsNat 16 (fun c => (s.chan c).rate != 0), 0)]
  else if o < 0x200 then
    let c := (o - 0x100) / 0x10
    let x := s.chan c
    match o % 0x10 with
    | 0 => pack [(bitNat x.enabled, 0)]
    | 4 => BitVec.ofInt 32 (s.chanCount c)
    | 8 => pack [(bitNat x.stopFlag, 31), (x.stopCause, 0)]
    | _ => 0
  else
    let x := s.gen ((o - 0x4000) / 0x40)
    match o % 0x40 with
    | 0x04 => pack [(x.gst.code, 28), (x.phase.code, 26), (x.nFree, 21), (x.nQueued, 16), (x.nExec, 14),
        (bitNat x.staged, 13), (bitNat x.inUse.isSome, 12), (bitNat x.homed, 11), (bitNat x.strong, 10),
        (bitNat x.limN.level, 9), (bitNat x.limP.level, 8), (bitNat x.stall, 3), (bitNat x.hstop, 2),
        (bitNat x.reversed, 1), (bitNat x.clamped, 0)]
    | 0x08 => pack [(x.homeResult, 24), (x.toggles, 8), (x.stallRun, 0)]
    | _ => 0

/-- FBK (R238-R247). -/
def State.fbkWord (s : State) (o : Nat) : Word :=
  if o = 4 then pack [(flagsNat 24 (fun c => s.fbFault c != 0), 0)]
  else if 0x1000 ≤ o ∧ o < 0x1400 then
    let c := (o - 0x1000) / 0x40
    let x := s.enc c
    let cpr := (s.cfgW (encOff c 4)).toNat
    match o % 0x40 with
    | 0x10 => BitVec.ofNat 32 (posOf x.total cpr)
    | 0x14 => BitVec.ofInt 32 (wrapsOf x.total cpr)
    | 0x18 => x.speed
    | 0x1C => pack [(x.spState.code, 30), (bitNat (x.fault != 0), 29), (x.fault, 26), (bitNat x.qerrFlag, 24),
        (x.idxCount.toNat, 16), (x.qerrTotal, 0)]
    | _ => 0
  else if 0x2000 ≤ o ∧ o < 0x2200 then
    let c := (o - 0x2000) / 0x40
    let x := s.ser c
    let cpr := (s.cfgW (serOff c 0xC)).toNat
    match o % 0x40 with
    | 0x10 => BitVec.ofNat 32 (posOf x.total cpr)
    | 0x14 => BitVec.ofInt 32 (wrapsOf x.total cpr)
    | 0x18 => x.speed
    | 0x1C => pack [(x.age, 28), (x.spState.code, 26), (bitNat (x.fault != 0), 25), (x.fault, 22), (x.lastErr, 19),
        (x.fails, 0)]
    | 0x20 => pack [(nthD 0 s.image.wiring.serialDeadline c % 2 ^ 16, 0)]
    | _ => 0
  else if 0x4000 ≤ o then
    let i := (o - 0x4000) / 0x20
    let x := s.rem i
    let cpr := (s.cfgW (remOff i 4)).toNat
    match o % 0x20 with
    | 0x0C => BitVec.ofNat 32 (posOf x.total cpr)
    | 0x10 => BitVec.ofInt 32 (wrapsOf x.total cpr)
    | 0x14 => x.speed
    | 0x18 => pack [(x.age, 28), (x.spState.code, 26), (bitNat (x.fault != 0), 25), (x.fault, 22), (x.sw.toNat, 16),
        (x.qerrTotal, 0)]
    | _ => 0
  else 0

/-- TT (R80-R87). -/
def State.ttWord (s : State) (o : Nat) : Word :=
  let t := s.tt
  match o with
  | 0x04 => pack [(t.lastCode.toNat, 24), (match t.shadowState with
      | .empty => 0
      | .loading => 1
      | .ready => 2
      | .pending => 3, 16), (t.tierNext, 10), (t.tier, 8), (s.image.period, 0)]
  | 0x08 => t.passage
  | 0x0C => t.swapAt
  | 0x10 => t.loadDetail
  | 0x14 => pack [(t.ovrCount, 16), (bitNat t.ovrFlag, 0)]
  | 0x18 => t.ovrWhere
  | 0x1C => pack [(t.gateCount, 16), (bitNat t.gateFlag, 0)]
  | 0x20 => t.gateWhere
  | 0x24 => pack [(t.staleCount, 16), (t.staleTarget, 8), (bitNat t.staleFlag, 0)]
  | 0x30 | 0x34 | 0x38 | 0x3C => nthD 0 t.tierPassages ((o - 0x30) / 4)
  | _ => 0

/-- GOV (R430-R434). -/
def State.govWord (s : State) (o : Nat) : Word :=
  let g := s.gov
  let c := s.govCfg
  match o with
  | 0x04 => pack [(g.reason, 28), (bitNat g.sensorFail, 27), (bitNat g.monitorFail, 26), (bitNat g.crit, 25),
      (bitNat g.hot, 24), (bitNat (decide (g.bucket * 256 < c.depth * c.low)), 23), (g.demand, 21),
      (if s.rope.role = 2 then g.peerDemand else 0, 19), (g.changes, 0)]
  | 0x18 => pack [(g.peak, 16), (g.last, 0)]
  | 0x40 => pack [(g.tierMiss, 16), (g.critPassages, 0)]
  | 0x20 | 0x24 | 0x28 | 0x2C | 0x30 | 0x34 =>
    let k := (o - 0x20) / 4
    pack [(signedNat 16 (nthD 0 g.tempMax k), 16), (signedNat 16 (nthD 0 g.tempNow k), 0)]
  | _ => 0

/-- SCHED (R407-R411). -/
def State.schedWord (s : State) (o : Nat) : Word :=
  let x := s.sched
  if o = 0x04 then pack [(bitNat x.fault, 31), (flagsNat 8 (fun c => (s.core c).out), 16)]
  else if o = 0x0C then pack [(x.bpTpost, 16), (x.discard, 0)]
  else if o = 0x10 then x.pendCmp
  else if o = 0x14 then lo32 x.pendEvio
  else if o = 0x18 then hi32 x.pendEvio
  else if o = 0x1C then BitVec.ofNat 32 x.pendRing
  else if 0x100 ≤ o ∧ o < 0x180 then
    BitVec.ofNat 32 (x.order.filter (fun p => s.descState p.1 == dReady && s.descPrio p.1 == (o - 0x100) / 4)).length
  else if 0x400 ≤ o ∧ o < 0x500 then
    let n := (o - 0x400) / 0x20
    let c := s.core n
    match o % 0x20 with
    | 0x00 => pack [(if c.out then 2 else bitNat c.task.isSome, 30), (c.pre.length, 28), (c.task.getD 0, 0)]
    | 0x04 => pack [(c.fwait, 16), (c.load, 0)]
    | 0x08 => c.waitMax
    | 0x0C => c.waitMean
    | 0x10 => c.starts
    | 0x14 => pack [(c.maxElig, 16), ((s.eligible n).length, 0)]
    | _ => 0
  else 0

/-- A ring by number. -/
def State.ring (s : State) (r : Nat) : Ring := Tab.get {} s.rings r
def State.setRing (s : State) (r : Nat) (x : Ring) : State := { s with rings := Tab.put {} s.rings r x }

/-- The base of a ring's buffer (R64, R280). -/
def ringBase (r : Nat) : Nat := 0x03400000 + 0x80000 * r

/-- The largest age of a node's upstream entries; 0xF while its lock is absent (R280, R291). -/
def State.nodeAge (s : State) (r k : Nat) : Nat :=
  if ((s.ring r).node k).lock = .absent then 15
  else
    let n := perNode s.image.period
    (List.range n).foldl (fun m j =>
      max m ((s.mem.byte (ringBase r + 48 * ((k - 1) * n + j) + 36)).toNat % 16)) 0

/-- A ring's page (R283-R291). -/
def State.ringWord (s : State) (r o : Nat) : Word :=
  let x := s.ring r
  match o with
  | 0x04 => pack [(x.stateCode, 28), (bitNat x.lock0 + 2 * bitNat x.lock1 + 4 * bitNat x.tx0 + 8 * bitNat x.tx1, 24),
      (match x.holes with
        | h :: _ => h
        | [] => 0xFF, 16), (x.openCount, 8), (nthD 0 s.image.nodes r, 0)]
  | 0x10 | 0x14 | 0x18 | 0x1C => x.lockWord ((o - 0x10) / 4)
  | 0x20 => lo32 x.edge
  | 0x24 => hi32 x.edge
  | 0x30 => x.miss
  | 0x34 => x.police
  | 0x38 => x.check
  | 0x3C => x.heal
  | 0x44 => pack [(x.free ((s.cfgW (0x40008 + 0x4000 * r)).bits 0 7) % 256, 24), (x.outstanding % 256, 16), (x.resyncs, 0)]
  | 0x48 => x.acycLost
  | 0x50 => x.arxWr
  | 0x54 => x.arxRd
  | 0x58 => pack [(x.loopX, 16), (x.loopY, 0)]
  | _ =>
    if 0x100 ≤ o then
      let k := (o - 0x100) / 4 + 1
      let n := x.node k
      pack [(signedNat 16 n.offset, 16), (n.edgeRun, 8), (s.nodeAge r k, 4), (bitNat n.laneY, 3), (bitNat n.laneX, 2),
        (n.lock.code, 0)]
    else 0

/-- A comparator and an EVIO pin by number. -/
def State.cmp (s : State) (k : Nat) : Cmp := Tab.get {} s.time.cmps k
def State.setCmp (s : State) (k : Nat) (x : Cmp) : State :=
  { s with time := { s.time with cmps := Tab.put {} s.time.cmps k x } }
def State.evio (s : State) (p : Nat) : Evio := Tab.get {} s.time.evios p
def State.setEvio (s : State) (p : Nat) (x : Evio) : State :=
  { s with time := { s.time with evios := Tab.put {} s.time.evios p x } }

/-- TIME (R319-R322). -/
def State.timeWord (s : State) (o : Nat) : Word :=
  let t := s.time
  if o = 0x04 then pack [(bitNat s.tt.clockOn, 31), (bitNat t.slew, 30), (bitNat t.stepWait, 29), (t.steps, 0)]
  else if o = 0x08 then lo32 t.time
  else if o = 0x0C then BitVec.ofInt 32 t.rate
  else if o = 0x10 then s.cfgW 0x50010 &&& 0xFFFFF
  else if o = 0x20 then t.capWr
  else if o = 0x24 then t.capRd
  else if o = 0x28 then t.capLost
  else if 0x100 ≤ o ∧ o < 0x300 then
    let c := s.cmp ((o - 0x100) / 0x10)
    match o % 0x10 with
    | 0 => c.target
    | 4 => c.period
    | 8 => c.ctrlWord
    | _ => c.count
  else if 0x1000 ≤ o then
    let e := s.evio ((o - 0x1000) / 0x20)
    match o % 0x20 with
    | 0x00 => e.cfgWord
    | 0x0C => e.statWord
    | 0x10 => e.pstart
    | 0x14 => e.period
    | 0x18 => e.phigh
    | 0x1C => e.pcount
    | _ => 0
  else 0

/-- A trigger unit and a privileged channel by number. -/
def State.trg (s : State) (u : Nat) : Trg := Tab.get {} s.acq.trgs u
def State.setTrg (s : State) (u : Nat) (x : Trg) : State :=
  { s with acq := { s.acq with trgs := Tab.put {} s.acq.trgs u x } }
def State.priv (s : State) (b : Nat) : Priv := Tab.get {} s.acq.privs b
def State.setPriv (s : State) (b : Nat) (x : Priv) : State :=
  { s with acq := { s.acq with privs := Tab.put {} s.acq.privs b x } }

/-- ACQ (R354-R357). -/
def State.acqWord (s : State) (o : Nat) : Word :=
  let a := s.acq
  if o = 0x20 then a.strWr
  else if o = 0x24 then a.strRd
  else if o = 0x28 then a.strDrop
  else if o = 0x2C then a.strGap
  else if 0x400 ≤ o ∧ o < 0x600 then
    let t := s.trg ((o - 0x400) / 0x20)
    match o % 0x20 with
    | 0x18 => t.count
    | 0x1C => pack [(bitNat t.fired, 31), (t.skipped, 0)]
    | _ => 0
  else if 0x800 ≤ o then
    let p := s.priv ((o - 0x800) / 0x40)
    match o % 0x40 with
    | 0x14 => pack [(p.st.code, 28), (bitNat p.preValid, 27), (p.stop, 24), (p.ignored, 0)]
    | 0x18 => pack [(p.trigSub, 16)]
    | 0x1C => pack [(p.preHeld, 0)]
    | 0x20 => pack [(p.postHeld, 0)]
    | 0x2C => pack [(p.mviol, 16), (p.mfirst, 0)]
    | 0x30 => BitVec.ofNat 32 p.copied
    | _ => 0
  else 0

/-- ROPE (R465-R467). -/
def State.ropeWord (s : State) (o : Nat) : Word :=
  let r := s.rope
  match o with
  | 0x04 => pack [(r.role, 28), (r.strap, 26), (r.origin, 25), (bitNat r.belaySeen, 24), (bitNat r.peerSeen, 23),
      (r.cfg, 16), (r.matchRun, 0)]
  | 0x08 => pack [(bitNat r.locked.1, 31), (bitNat r.flag.1, 30), (r.errors.1, 0)]
  | 0x0C => pack [(bitNat r.locked.2, 31), (bitNat r.flag.2, 30), (r.errors.2, 0)]
  | 0x10 => pack [(r.takeovers, 24), (r.dismissals, 16), (r.diverge, 0)]
  | 0x14 => r.lostFrom
  | 0x18 => pack [(r.stage, 28), (r.left, 0)]
  | 0x1C => pack [(r.action, 24), (r.reason, 16)]
  | _ => 0

/-- What the safety island keeps by number. -/
def Safe.sin (x : Safe) (k : Nat) : Sin := Tab.get {} x.sins k
def Safe.fn (x : Safe) (f : Nat) : Fn := Tab.get {} x.fns f
def Safe.sout (x : Safe) (j : Nat) : Sout := Tab.get {} x.souts j
def Safe.brk (x : Safe) (b : Nat) : Brk := Tab.get {} x.brks b
def Safe.node (x : Safe) (r n : Nat) : SNode := Tab.get {} x.nodes (64 * r + n - 1)

/-- SAFE (R492-R497). -/
def State.safeWord (s : State) (o : Nat) : Word :=
  let x := s.safe
  if o = 0 then pack [(bitNat x.lock, 31), (match x.confirmed with
      | some b => (Tab.get 0 b 12).toNat % 2
      | none => (s.cfgW 0xA0000).bits 0 1, 0)]
  else if o = 0x04 then pack [(x.state, 28), (bitNat x.awaiting.isSome, 27), (x.diag, 16), (x.faults, 0)]
  else if o = 0x08 then (if x.state = 1 then 0 else x.check)
  else if o = 0x0C then x.checkPending
  else if o = 0x10 then pack [(flagsNat 16 (fun k => (x.sin k).tested), 16), (flagsNat 16 (fun k => (x.sin k).level), 0)]
  else if o = 0x14 then pack [(flagsNat 16 (fun k => (x.sin k).fault), 0)]
  else if o = 0x18 then pack [(flagsNat 8 (fun k => (x.sout k).fault), 16), (flagsNat 8 (fun k => (x.sout k).ball), 8),
    (flagsNat 8 (fun k => (x.sout k).on), 0)]
  else if o = 0x1C then pack [(flagsNat 8 (fun k => (x.brk k).btFail), 24), (flagsNat 8 (fun k => (x.brk k).fault), 16),
    (flagsNat 8 (fun k => (x.brk k).ball), 8), (flagsNat 8 (fun k => (x.brk k).on), 0)]
  else if o = 0x20 then pack [(flagsNat 32 (fun k => (x.fn k).demand), 0)]
  else if o = 0x24 then pack [(flagsNat 32 (fun k => (x.fn k).wait), 0)]
  else if o = 0x28 then pack [(x.bt.state, 28), (x.bt.channel, 24), (x.bt.maxDev, 0)]
  else if 0x40 ≤ o ∧ o < 0x60 then
    pack [(flagsNat 32 (fun j => (x.node ((o - 0x40) / 8) (32 * (o / 4 % 2) + j + 1)).run), 0)]
  else if 0x60 ≤ o ∧ o < 0x80 then
    pack [(flagsNat 32 (fun j => (x.node ((o - 0x60) / 8) (32 * (o / 4 % 2) + j + 1)).lost), 0)]
  else if o = 0x80 then pack [(x.demands, 16), (x.contErr, 0)]
  else 0

/-- A bandwidth monitor by number. -/
def State.bw (s : State) (m : Nat) : Bw := Tab.get {} s.perf.bws m
def State.setBw (s : State) (m : Nat) (x : Bw) : State :=
  { s with perf := { s.perf with bws := Tab.put {} s.perf.bws m x } }

/-- PERF (R534). -/
def State.perfWord (s : State) (o : Nat) : Word :=
  if 0x400 ≤ o ∧ o < 0x600 then Tab.get 0 s.perf.counts ((o - 0x400) / 4)
  else if 0x800 ≤ o ∧ o < 0x900 then
    let b := s.bw ((o - 0x800) / 0x10)
    match o % 0x10 with
    | 4 => b.rate
    | 8 => b.peak
    | 0xC => pack [(b.windows, 16), (b.busy, 0)]
    | _ => 0
  else if 0xA00 ≤ o ∧ o % 0x10 = 4 then Tab.get 0 s.perf.pcs ((o - 0xA00) / 0x10)
  else 0

/-- STORE (R562, R563). -/
def State.storeWord (s : State) (o : Nat) : Word :=
  let x := s.store
  let d := x.ident
  match o with
  | 0x00 => pack [(x.level, 0)]
  | 0x04 => pack [(bitNat x.busyParam.isSome, 31), (bitNat x.busySafe.isSome, 30), (x.paramBank.getD 0, 29),
      (x.safeBank.getD 0, 28), (bitNat (x.loaded && x.paramBank.isNone), 27), (x.runSlot, 26), (d.bootSlot, 25),
      (bitNat x.fellBack, 24), (x.skipped, 0)]
  | 0x08 => pack [(x.slot0.state, 28), (x.slot0.code, 20)]
  | 0x0C => pack [(x.slot1.state, 28), (x.slot1.code, 20)]
  | 0x10 => pack [(bitNat x.batLost, 31), (bitNat x.tamper, 30), (bitNat x.rtcValid, 29),
      (min 0xFFFF d.tampers.toNat, 0)]
  | 0x14 => pack [(bitNat x.debugOpen, 31), (bitNat x.vaultErased, 30)]
  | _ => 0

/-- PLANT (R324). -/
def State.plantWord (s : State) (o : Nat) : Word :=
  match o with
  | 0x10C => pack [(s.plant.portState, 28), (s.plant.syncs, 0)]
  | 0x110 => s.plant.offset
  | 0x114 => BitVec.ofInt 32 s.plant.delay
  | _ => 0

/-- A mailbox by number. -/
def State.mbox (s : State) (k : Nat) : Mbox := Tab.get {} s.host.mboxes k
def State.setMbox (s : State) (k : Nat) (x : Mbox) : State :=
  { s with host := { s.host with mboxes := Tab.put {} s.host.mboxes k x } }

/-- GCTL (R521-R526). -/
def State.gctlWord (s : State) (o : Nat) : Word :=
  let h := s.host
  match o with
  | 0x00 => 0x02560101#32
  | 0x04 => pack [(h.haltCause, 24), (bitNat s.faults.pkg, 23), (bitNat (!s.faults.clusters.isEmpty), 22),
      (bitNat h.unitFault, 21), (bitNat h.errFlag, 20), (h.phase.code, 0)]
  | 0x10 => pack [(h.skipped, 0)]
  | 0x44 => pack [(h.last, 24), (h.full, 0)]
  | 0x48 => h.seq
  | 0x4C => h.takenCount
  | 0x50 => h.resCount
  | 0x60 => pack [(bitNat h.faultFlag, 31), (h.fault.level, 28), (h.fault.kind, 24), (h.fault.identity, 0)]
  | 0x64 => h.faultCount
  | 0x68 => pack [(bitNat h.errFlag, 31)] ||| h.errWord
  | 0x6C => h.errCount
  | 0x70 => pack [(h.speed, 28), (h.width, 24), (bitNat h.bme, 23), (h.corr, 0)]
  | _ => 0

/-- ACCESS (R561). -/
def State.accessWord (s : State) (o : Nat) : Word :=
  let x := s.store
  match o with
  | 0x04 => s.cfgW 0x1004 &&& 0x1FF
  | 0x08 => if (s.cfgW 0x1000).bit 0 then s.cfgW 0x1008 &&& 0x1FF else 0
  | 0x0C => x.logWr
  | 0x10 => x.logAck
  | 0x14 => pack [(bitNat (decide (x.freeEntries < 1026)), 31), (x.freeEntries, 0)]
  | 0x18 => BitVec.ofNat 32 x.denied
  | 0x1C => x.unrecorded
  | _ => 0

/-- MBOX (R505). -/
def State.mboxWord (s : State) (k o : Nat) : Word :=
  let m := s.mbox k
  match o with
  | 0x00 => BitVec.ofNat 32 m.sel
  | 0x04 => pack [(bitNat m.valid, 31), (m.code, 0)]
  | _ => if m.valid then nthD 0 m.data ((o - 8) / 4) else 0

/-- The fields of a register that the register table does not hold. -/
def State.roWord (s : State) (off : Nat) : Word :=
  if 0x100000 ≤ off then s.axisWord ((off - 0x100000) / 0x400) (off % 0x400)
  else
    let o := off % 0x10000
    match off / 0x10000 with
    | 0x0 =>
      if o < 0x1000 then s.gctlWord o
      else if o < 0x2000 then s.accessWord (o - 0x1000)
      else s.mboxWord ((o - 0x2000) / 0x20) (o % 0x20)
    | 0x1 => s.ttWord o
    | 0x2 => s.govWord o
    | 0x3 => s.schedWord o
    | 0x4 => s.ringWord (o / 0x4000) (o % 0x4000)
    | 0x5 => s.timeWord o
    | 0x6 => s.fbkWord o
    | 0x7 => s.stepWord o
    | 0x8 => s.acqWord o
    | 0x9 => s.ropeWord o
    | 0xA => s.safeWord o
    | 0xB => s.perfWord o
    | 0xC => s.storeWord o
    | 0xD => s.plantWord o
    | _ => 0

/-- What a register reads (R11, R134): the staged copy of staged fields, the value of the others; a reserved location reads 0
(R13). -/
def State.readReg (s : State) (off : Nat) : Word :=
  match maskOf off with
  | none => 0
  | some m =>
    let fields := m.rw ||| m.lk
    let lock : Word := if m.lock then 0x80000000#32 else 0
    ((if m.staged then s.stgW off else s.cfgW off) &&& fields) ||| (s.cfgW off &&& lock) ||| s.roWord off

end Sys2Proof.Machine
end

