-- ==== Sys2Proof/Machine/Mailbox.lean ====
section
/-! DEFINITION. What a mailbox captures for each selector (R14, R506): the words are those of the instant of the selector
write (R505; log 18). -/

namespace Sys2Proof.Machine

/-- The two words of a 64-bit value. -/
def words64 (v : U64) : List Word := [lo32 v, hi32 v]

/-- The two words of a signed number, as 64 bits. -/
def wordsInt (x : Int) : List Word := words64 (BitVec.ofInt 64 x)

/-- The target that a generator's mailbox shows: that of the executing move, or of the earlier one in the joint passage of a
blend (R169, R237). -/
def Gen.shownTarget (g : Gen) : Option Int := ((g.moves.filter (·.executing)).head?).map (·.target)

/-- STEP: 0x1000-0x1A0F. -/
def State.captureStep (s : State) (sel : Nat) : Option (List Word) :=
  let g := sel % 0x400
  if 528 ≤ g ∨ s.genAbsent g then none
  else
    let x := s.gen g
    match sel / 0x400 with
    | 4 => some (wordsInt (x.p / oneCount) ++ [0, 0])
    | 5 => some (wordsInt x.offset ++ [0, 0])
    | _ => x.shownTarget.map (fun t => wordsInt t ++ [0, 0])

/-- FBK (R237). -/
def State.captureFbk (s : State) (sel : Nat) : Option (List Word) :=
  let c := sel % 0x100
  match sel / 0x100 with
  | 0x20 =>
    if c < 16 then
      let n := (s.cfgW (encOff c 4)).toNat
      let t := (s.enc c).total
      some ([BitVec.ofNat 32 (posOf t n), 0] ++ wordsInt (wrapsOf t n))
    else if c < 24 then
      let n := (s.cfgW (serOff (c - 16) 0xC)).toNat
      let t := (s.ser (c - 16)).total
      some ([BitVec.ofNat 32 (posOf t n), 0] ++ wordsInt (wrapsOf t n))
    else none
  | 0x21 =>
    if c < 16 then
      let x := s.enc c
      some (wordsInt x.sTotal ++ [lo32 x.sStamp, x.sPassage])
    else if c < 24 then
      let x := s.ser (c - 16)
      some (wordsInt x.total ++ [lo32 x.sStamp, x.sPassage])
    else none
  | 0x22 => if c < 16 then some (wordsInt (s.enc c).idxTotal ++ words64 (s.enc c).idxStamp) else none
  | 0x24 | 0x25 =>
    let i := sel - 0x2400
    if s.mapped i then
      let x := s.rem i
      some (wordsInt x.total ++ [lo32 x.sStamp, x.sPassage])
    else none
  | 0x26 => if c < 8 then some (words64 (s.ser c).word ++ [0, 0]) else none
  | _ => none

/-- The 16 bytes of a 256-bit number from byte `k`, as words. -/
def words128 (v : Nat) : List Word := (List.range 4).map (fun j => BitVec.ofNat 32 (v / 2 ^ (32 * j)))

/-- A little-endian word of the MRAM. -/
def Store.mramWord (x : Store) (a : Nat) : Word :=
  BitVec.ofNat 32 (natLE ((List.range 4).map (fun k => Tab.get 0 x.mram (a + k))))

/-- Bytes 16 `k` to 16 `k` + 15 of a hash as it is written, most significant first. -/
def hashWords (h : BitVec 256) (k : Nat) : List Word :=
  (List.range 4).map (fun j => BitVec.ofNat 32 (natLE ((List.range 4).map (fun b =>
    h.extractLsb' (8 * (31 - (16 * k + 4 * j + b))) 8))))

/-- STORE (R564). -/
def State.captureStore (s : State) (sel : Nat) : Option (List Word) :=
  let x := s.store
  let d := x.ident
  match sel with
  | 0x0C00 => some [x.logWr, x.logAck, BitVec.ofNat 32 x.reserved, BitVec.ofNat 32 x.freeEntries]
  | 0x0C02 => some (hashWords d.attest 0)
  | 0x0C03 => some (hashWords d.attest 1)
  | 0x0C04 | 0x0C05 => some (hashWords (d.key0.hash.getD 0) (sel - 0x0C04))
  | 0x0C06 | 0x0C07 => some (hashWords (d.key1.hash.getD 0) (sel - 0x0C06))
  | 0x0C08 | 0x0C09 =>
    let b := 0x200000 * (sel - 0x0C08)
    some [x.mramWord (b + 0x10), x.mramWord (b + 0x14), x.mramWord (b + 0x0C), x.mramWord (b + 0x08)]
  | 0x0C0A => some [d.minVersion, lo32 d.porns, lo32 d.boots, lo32 d.erasures]
  | _ => none

/-- What a selector captures (R506): none where it is not implemented or its target is absent. OPEN of the energy books is
what the monitors have integrated so far: a free amount more than at the latest capture of the interval (log 19). -/
def State.capture (s : State) (sel : Nat) : Option (List Word) × State :=
  if sel = 0x0200 then
    let t := s.tick
    let o := s.gov.opened + (Config.free t.1).toNat % 2 ^ 24
    let n := { t.2 with gov := { t.2.gov with opened := o } }
    (some (words64 s.gov.total ++ [BitVec.ofNat 32 o, s.gov.interval]), n)
  else if sel = 0x0C01 then
    let t := s.tick
    let c := s.store.rtc + (Config.free t.1).setWidth 64
    (some (words64 c ++ words64 s.time.raw), { t.2 with store := { t.2.store with rtc := c } })
  else
    (if 0x1000 ≤ sel ∧ sel < 0x1C00 then s.captureStep sel
     else if 0x2000 ≤ sel ∧ sel < 0x2800 then s.captureFbk sel
     else if 0x0C00 ≤ sel ∧ sel < 0x0D00 then s.captureStore sel
     else if 0x0B00 ≤ sel ∧ sel < 0x0B7F then
       let k := sel - 0x0B00
       some [Tab.get 0 s.perf.counts k, Tab.get 0 s.perf.counts (k + 1), lo32 s.time.raw, 0]
     else if 0x0B80 ≤ sel ∧ sel < 0x0B90 then
       let b := s.bw (sel - 0x0B80)
       some (words64 b.bytes ++ [b.number, 0])
     else if 0x0810 ≤ sel ∧ sel < 0x0814 then
       let b := sel - 0x0810
       let p := s.priv b
       let len := (s.cfgW (0x80808 + 0x40 * b)).bits 0 24
       some (words64 p.evTime ++ [BitVec.ofNat 32 (if len = 0 then 0 else p.trigW % len), p.decision])
     else if 0x0820 ≤ sel ∧ sel < 0x0824 then
       let p := s.priv (sel - 0x0820)
       some [BitVec.ofNat 32 p.written, BitVec.ofNat 32 p.dropped, BitVec.ofNat 32 p.held, 0]
     else
       match sel with
       | 0x0001 => some (words128 s.store.ident.serial.toNat)
       | 0x0002 => some [s.host.faultPassage, lo32 s.host.faultTime, hi32 s.host.faultTime, s.host.faultCount]
       | 0x0101 => some (words64 s.image.id ++ [0, 0])
       | 0x0102 => some (words64 ((s.tt.shadow.map (·.id)).getD 0) ++ [0, 0])
       | 0x0201 => some (wordsInt s.gov.bucket ++ [BitVec.ofInt 32 s.govCfg.ecap, 0])
       | 0x0202 | 0x0203 | 0x0204 | 0x0205 => some (words64 (nthD 0 s.gov.tierEnergy (sel - 0x0202)) ++ [0, 0])
       | 0x0300 =>
         let c := s.completeMatches
         some [BitVec.ofNat 32 s.freeMatches, BitVec.ofNat 32 (s.sched.entries.length - c), BitVec.ofNat 32 c, 0]
       | 0x0301 => some [BitVec.ofNat 32 (s.countDesc dInvalid), BitVec.ofNat 32 (s.countDesc dIdle),
           BitVec.ofNat 32 (s.countDesc dReady), BitVec.ofNat 32 (s.countDesc dDelayed)]
       | 0x0302 => some [BitVec.ofNat 32 (s.countDesc dPrefetched), BitVec.ofNat 32 (s.countDesc dRunning), 0, 0]
       | 0x0500 => some (words64 s.time.time ++ words64 s.time.raw)
       | 0x0501 => some (words64 (s.time.time - s.time.raw) ++ [BitVec.ofInt 32 s.time.rate, s.time.frac])
       | 0x0502 => some (words64 s.tt.start ++ [s.tt.passage, 0])
       | 0x0800 =>
         let a := s.acq
         some [a.strWr, a.strRd, a.strDrop, BitVec.ofNat 32 a.fill]
       | 0x0900 => some (words64 s.rope.digest ++
           words64 (if s.rope.peer.passage = s.rope.digestOf then s.rope.peer.digest else 0))
       | 0x0901 => 
         let h := Config.peerSerialHigh s.rope.peerSerial
         some [s.rope.peerSerial, h.extractLsb' 0 32, h.extractLsb' 32 32, h.extractLsb' 64 32]
       | _ => none, s)

/-- A write of MB_SEL (R505): VALID clears and a capture starts; a capture in progress is abandoned. -/
def State.selectMailbox (s : State) (k sel : Nat) : State :=
  let c := s.capture sel
  c.2.setMbox k { sel := sel, valid := false, busy := true
                  code := if c.1.isSome then codeOk else codeNotPresent
                  data := c.1.getD [0, 0, 0, 0] }

/-- The capture completes (R505). -/
def State.completeCapture (s : State) (k : Nat) : State :=
  let m := s.mbox k
  if m.busy then s.setMbox k { m with busy := false, valid := true } else s

end Sys2Proof.Machine
end

