-- ==== Sys2Proof/Machine/RegWrite.lean ====
section
/-! DEFINITION. Writes of BAR0 registers (R11, R12, R134, R504, R548, R551, R552) by the host (agent 0), SC0-SC7 through RGW
(agents 1-8) and the debug port (agent 9). -/

namespace Sys2Proof.Machine

/-- The origin of an agent's writes (R547). -/
def agentOrigin (agent : Nat) : Nat := if agent = 0 then originHost else if agent = 9 then originDebug else originSelf

/-- Whether an agent is an S-core. -/
def isSoft (agent : Nat) : Bool := decide (1 ≤ agent ∧ agent ≤ 8)

/-- The W1C bits of a register (R11). -/
def w1cOf (off : Nat) : Word :=
  if 0x100000 ≤ off then (if off % 0x400 = 0x10 then 0x80000000 else 0)
  else if 0x74000 ≤ off ∧ off < 0x80000 then (if off % 0x40 = 4 then 0xF else 0)
  else if 0x70100 ≤ off ∧ off < 0x70200 then (if off % 0x10 = 8 then 0x80000000 else 0)
  else if 0x61000 ≤ off ∧ off < 0x61400 then (if off % 0x40 = 0x1C then 0x01000000 else 0)
  else if 0x51000 ≤ off ∧ off < 0x51800 then (if off % 0x20 = 0xC then 0x03800000 else 0)
  else if 0x50100 ≤ off ∧ off < 0x50300 then (if off % 0x10 = 8 then 0x40000000 else 0)
  else if 0x40000 ≤ off ∧ off < 0x50000 then (if off % 0x4000 = 0x20 ∨ off % 0x4000 = 0x24 then 0xFFFFFFFF else 0)
  else if 0x80400 ≤ off ∧ off < 0x80600 then (if off % 0x20 = 0x1C then 0x80000000 else 0)
  else
    match off with
    | 0x10014 | 0x1001C | 0x10024 => 1
    | 0x00060 | 0x00068 => 0x80000000
    | 0x90008 | 0x9000C => 0x40000000
    | 0x01004 | 0x01008 => 0x1FF
    | _ => 0

/-- A write of 1 to the flags of a register that exists once (R11). -/
def State.clearPlain (s : State) (off : Nat) (w : Word) : State :=
  match off with
  | 0x10014 => { s with tt := { s.tt with ovrFlag := false } }
  | 0x1001C => { s with tt := { s.tt with gateFlag := false } }
  | 0x10024 => { s with tt := { s.tt with staleFlag := false } }
  | 0x00060 => { s with host := { s.host with faultFlag := false } }
  | 0x00068 => { s with host := { s.host with errFlag := false } }
  | 0x90008 => { s with rope := { s.rope with flag := (false, s.rope.flag.2) } }
  | 0x9000C => { s with rope := { s.rope with flag := (s.rope.flag.1, false) } }
  | _ => s.setCfg off (s.cfgW off &&& ~~~(w &&& 0x1FF))

/-- The flags of a register that a write of ones clears. -/
def State.clearFlags (s : State) (off : Nat) (w : Word) : State :=
  if w &&& w1cOf off = 0 then s
  else if 0x100000 ≤ off then
    let i := (off - 0x100000) / 0x400
    s.setAxis i { s.axis i with dev := false }
  else if 0x74000 ≤ off ∧ off < 0x80000 then
    let g := (off - 0x74000) / 0x40
    let x := s.gen g
    s.setGen g { x with stall := x.stall && !w.bit 3, hstop := x.hstop && !w.bit 2, reversed := x.reversed && !w.bit 1
                        clamped := x.clamped && !w.bit 0 }
  else if 0x70100 ≤ off ∧ off < 0x70200 then
    let c := (off - 0x70100) / 0x10
    s.setChan c { s.chan c with stopFlag := false }
  else if 0x61000 ≤ off ∧ off < 0x61400 then
    let c := (off - 0x61000) / 0x40
    s.setEnc c { s.enc c with qerrFlag := false }
  else if 0x51000 ≤ off ∧ off < 0x51800 then
    let p := (off - 0x51000) / 0x20
    let e := s.evio p
    s.setEvio p { e with ovf := e.ovf && !w.bit 25, lateF := e.lateF && !w.bit 24, cfgErr := e.cfgErr && !w.bit 23 }
  else if 0x50100 ≤ off ∧ off < 0x50300 then
    let k := (off - 0x50100) / 0x10
    s.setCmp k { s.cmp k with fired := false }
  else if 0x40000 ≤ off ∧ off < 0x50000 then
    let r := (off - 0x40000) / 0x4000
    let x := s.ring r
    let m : U64 := if off % 0x4000 = 0x20 then join64 w 0 else join64 0 w
    s.setRing r { x with edge := x.edge &&& ~~~m }
  else if 0x80400 ≤ off ∧ off < 0x80600 then
    let u := (off - 0x80400) / 0x20
    s.setTrg u { s.trg u with fired := false }
  else s.clearPlain off w

/-! ### PERF settings (R530-R534) -/

/-- Whether a pair of event and unit is defined (R531). -/
def perfEventOk (event unit : Nat) : Bool :=
  let c := event / 256
  let e := event % 256
  match c with
  | 1 => decide (unit < 64 ∧ e ≤ 4)
  | 2 => decide (unit < 16) && (e == 0 || e == 2 || e == 4)
  | 3 => decide (unit < 8 ∧ e ≤ 4)
  | 4 => decide (unit < 8 ∧ e ≤ 4)
  | 5 => decide (unit < 2 ∧ e ≤ 2)
  | 6 => decide (unit < 6 ∧ e ≤ 1)
  | 7 => (decide (unit < 0x0B) || decide (0x10 ≤ unit ∧ unit < 0x16) || decide (0x40 ≤ unit ∧ unit < 0xA5)) && decide (e ≤ 2)
  | 8 => unit == 0 && decide (e ≤ 4)
  | 9 => unit == 0 && decide (e ≤ 2)
  | _ => false

/-- Whether a port code is defined (R532). -/
def portOk (p : Nat) : Bool := decide (p < 0x0B) || decide (0x10 ≤ p ∧ p < 0x16) || decide (0x40 ≤ p ∧ p < 0xA5)

/-- Whether a write of plain RW fields is taken (R405, R523, R530-R534). -/
def State.plainOk (s : State) (off : Nat) (w : Word) : Bool :=
  if off = 0x14 ∨ off = 0x18 then (s.cfgW 0x08).bit 0 || !(s.cfgW 0x10).bit 31
  else if off = 0x30008 then w.bits 0 16 != 0
  else if 0xB0100 ≤ off ∧ off < 0xB0300 then
    perfEventOk (w.bits 0 16) (w.bits 16 8) && ((s.cfgW 0xB0000).bit 0 || !(s.cfgW off).bit 31 || !w.bit 31)
  else if 0xB0800 ≤ off ∧ off < 0xB0900 then
    portOk (w.bits 20 8) && w.bits 29 2 != 3 && decide (1 ≤ w.bits 0 20 ∧ w.bits 0 20 ≤ 1000000)
  else if 0xB0A00 ≤ off ∧ off < 0xB0A80 then decide (256 ≤ w.bits 0 16)
  else true

/-- What a taken write of plain RW fields starts (R405, R532). -/
def State.plainEffect (s : State) (off : Nat) (w : Word) : State :=
  if off = 0x30008 then s.openWindow
  else if 0xB0800 ≤ off ∧ off < 0xB0900 then
    let m := (off - 0xB0800) / 0x10
    let b := s.bw m
    if w.bit 31 then
      s.setBw m { b with peak := 0, start := some (BitVec.ofNat 64 ((s.time.raw.toNat / 1000 + 1) * 1000)) }
    else s.setBw m { b with start := none }
  else s

/-! ### Registers whose fields lie elsewhere -/

/-- An EVIO frame of a LEAD to its SECOND (R309, R439): a configuration write of a pin's register, or an accepted push with
its target (log 21). -/
def State.sendEvio (s : State) (p reg : Nat) (push : Bool) (w target : Word) : State :=
  if s.rope.role = 2 then
    { s with rope := { s.rope with sent := s.rope.sent ++
      [(0, withCheck ([0x56#8, BitVec.ofNat 8 p, BitVec.ofNat 8 (bitNat push), BitVec.ofNat 8 reg] ++ bytesLE 4 w.toNat ++
        bytesLE 4 target.toNat))] } }.count 0x0501 0 1
  else s

/-- A write of a pin's registers (R306-R308, R322). -/
def State.writeEvio (s : State) (agent p o : Nat) (w : Word) : State :=
  let e := s.evio p
  match o with
  | 0x00 =>
    let e1 := e.writeCfg w s.time.time
    (s.setEvio p { e1 with drive := if e1.mode = 0 then false else e1.drive || s.drives }).sendEvio p o false w 0
  | 0x04 => s.setEvio p { e with latch := Tab.put 0 e.latch agent w }
  | 0x08 =>
    let t := Tab.get 0 e.latch agent
    let s1 := s.setEvio p (e.push agent (w.bit 0) s.time.time)
    if e.accepts agent s.time.time then s1.sendEvio p o true w t else s1
  | 0x10 => (s.setEvio p { e with pstart := w }).sendEvio p o false w 0
  | 0x14 => (s.setEvio p { e with period := w }).sendEvio p o false w 0
  | 0x18 => (s.setEvio p { e with phigh := w }).sendEvio p o false w 0
  | 0x1C => (s.setEvio p { e with pcount := w, endless := w == 0 }).sendEvio p o false w 0
  | _ => s

/-- A write of a comparator's registers (R303, R304, R321). -/
def State.writeCmp (s : State) (k o : Nat) (w : Word) : State :=
  let c := s.cmp k
  match o with
  | 0x0 => if c.arm then s else s.setCmp k { c with target := w }
  | 0x4 => if c.arm || !periodOk w then s else s.setCmp k { c with period := w }
  | 0x8 => s.setCmp k { c with arm := w.bit 31, token := w.bit 29, trig := w.bit 28 }
  | _ => s

/-- The capacity of the stream queue in slots (R337, R339). -/
def State.streamCap (s : State) : Nat :=
  let c := s.cfgW 0x80010
  if c.bits 30 2 = 1 then 2 ^ c.bits 16 5 / 16 else 65536

/-- The W1P bits of a register acted on (R153, R429, R534). -/
def State.pulse (s : State) (off : Nat) (w : Word) : State :=
  if 0x100000 ≤ off ∧ off % 0x400 = 0x14 then
    let i := (off - 0x100000) / 0x400
    if w.bit 31 then s.setAxis i { s.axis i with delayMax := 0 } else s
  else if off = 0x20000 then (if w.bit 1 then s.govClear else s)
  else if off = 0xB0000 then (if w.bit 1 then { s with perf := { s.perf with counts := [] } } else s)
  else s

/-- Fields of a register that lie outside the register table, written (R289, R311, R339, R505, R515, R525, R534). The push
of a command is the caller's. -/
def State.writeOther (s : State) (agent off : Nat) (w : Word) : State :=
  if 0x20 ≤ off ∧ off < 0x40 then { s with host := { s.host with entry := setNth s.host.entry ((off - 0x20) / 4) w } }
  else if 0x2000 ≤ off ∧ off < 0x2100 then
    (if off % 0x20 = 0 then s.selectMailbox ((off - 0x2000) / 0x20) (w.bits 0 16) else s)
  else if 0x40000 ≤ off ∧ off < 0x50000 ∧ off % 0x4000 = 0x54 then
    let r := (off - 0x40000) / 0x4000
    let x := s.ring r
    if (x.arxWr - w).toNat ≤ 512 then s.setRing r { x with arxRd := w } else s
  else if off = 0x50024 then
    (if (s.time.capWr - w).toNat ≤ 1024 then { s with time := { s.time with capRd := w } } else s)
  else if 0x50100 ≤ off ∧ off < 0x50300 then s.writeCmp ((off - 0x50100) / 0x10) (off % 0x10) w
  else if 0x51000 ≤ off ∧ off < 0x51800 then s.writeEvio agent ((off - 0x51000) / 0x20) (off % 0x20) w
  else if off = 0x80024 then
    let fill := (s.acq.strWr - w - s.acq.strDrop).toNat
    if (s.cfgW 0x80010).bits 30 2 ≠ 2 ∧ fill ≤ s.streamCap then { s with acq := { s.acq with strRd := w } } else s
  else if 0xB0400 ≤ off ∧ off < 0xB0600 then
    { s with perf := { s.perf with counts := Tab.put 0 s.perf.counts ((off - 0xB0400) / 4) w } }
  else s

/-! ### The pipeline of a write -/

/-- A write refused for want of a right or of log entries (R548, R552). -/
def State.deny (s : State) (off : Nat) : State := { s with store := { s.store with denied := off } }

/-- What a write of an LK or LOCK field would change: the LK bits, and whether LOCK is set. LEVEL of SAFE reads from the confirmed
set (R492). -/
def State.lkChange (s : State) (off : Nat) (m : Mask) (w : Word) : Bool :=
  ((w ^^^ (if m.staged then s.stgW off else if off = 0xA0000 then s.safeWord 0 else s.cfgW off)) &&& m.lk) != 0
def State.lockSet (s : State) (off : Nat) (m : Mask) (w : Word) : Bool := m.lock && w.bit 31 && !(s.cfgW off).bit 31

/-- Whether a write lacks a right that it needs (R548): SETTINGS for staged fields, LEVEL for LK and LOCK, AUDIT for
ACCESS. -/
def State.writeLacks (s : State) (origin off : Nat) (m : Mask) (w : Word) : Bool :=
  (m.staged && s.lacks origin (some 1)) ||
    ((s.lkChange off m w || s.lockSet off m w) && s.lacks origin (some 2)) ||
    (decide (0x1000 ≤ off ∧ off < 0x2000) && s.lacks origin (some 6))

/-- The LK and LOCK fields of a write that are not staged, and LOCK bits (R11, R12, R551, R552): queued for their audit entry;
ignored where the log is short. -/
def State.writeLk (s : State) (agent off : Nat) (m : Mask) (w : Word) (locked : Bool) : State :=
  let lk := !m.staged && s.lkChange off m w && !locked
  let lock := s.lockSet off m w
  if !lk && !lock then s
  else if s.store.freeEntries < 1026 then s.deny off
  else
    let keep := s.cfgW off &&& m.lk
    let word := (if m.staged || locked then keep else w &&& m.lk) ||| (if lock then 0x80000000 else s.cfgW off &&& 0x80000000)
    { s with host := { s.host with lkPend := s.host.lkPend ++ [⟨off, word, agentOrigin agent⟩] } }

/-- The staged fields of a write (R134); LK fields of a locked block keep their value. -/
def State.writeStaged (s : State) (agent off : Nat) (m : Mask) (w : Word) (locked : Bool) : State :=
  if !m.staged then s
  else
    let old := s.stgW off
    let bits := if locked then m.rw else m.rw ||| m.lk
    let s1 := (s.setStg off ((old &&& ~~~bits) ||| (w &&& bits))).markStaged off
    if agent = 0 ∧ s.rope.role = 2 then
      { s1 with rope := { s1.rope with forward := s1.rope.forward ++ [.reg off w] } }
    else s1

/-- The plain RW fields of a write that the register table holds. -/
def State.writePlain (s : State) (off : Nat) (m : Mask) (w : Word) : State :=
  if m.staged || m.rw == 0 || !s.plainOk off w then s
  else (s.setCfg off ((s.cfgW off &&& ~~~m.rw) ||| (w &&& m.rw))).plainEffect off w

/-- Registers that an S-core may not reach (R385, R505, R515): a REGISTER fault. -/
def softBarred (off : Nat) : Bool :=
  decide (0x100000 ≤ off) || decide (0x20 ≤ off ∧ off < 0x44) || decide (0x2000 ≤ off ∧ off < 0x20C0)

/-- Mailboxes 6 and 7, which the host may not reach (R505). -/
def hostBarred (off : Nat) : Bool := decide (0x20C0 ≤ off ∧ off < 0x2100)

/-- A write of a register by an agent, and whether it is a REGISTER fault of an S-core (R385, R388). -/
def State.writeReg (s : State) (agent off : Nat) (w : Word) : State × Bool :=
  if isSoft agent && softBarred off then (s, true)
  else if !isSoft agent && hostBarred off then (s.accessError 5 false off, false)
  else match maskOf off with
  | none => (s, false)
  | some m =>
    if s.writeLacks (agentOrigin agent) off m w then (if isSoft agent then (s, true) else (s.deny off, false))
    else
      let locked := s.lockedAt off
      let s1 := if locked && s.lkChange off m w && decide (agent ≤ 8) then s.accessError 6 false off else s
      let s2 := (((s1.writeLk agent off m w locked).writeStaged agent off m w locked).writePlain off m w)
      (((s2.clearFlags off w).pulse off w).writeOther agent off w, false)

/-- A read of a register by an agent: the word, what it does, and whether it is a REGISTER fault. -/
def State.readBy (s : State) (agent off : Nat) : Word × State × Bool :=
  if isSoft agent && (decide (0x100000 ≤ off) || decide (0x2000 ≤ off ∧ off < 0x20C0)) then (0, s, true)
  else if !isSoft agent && hostBarred off then (0, s.accessError 5 false off, false)
  else (s.readReg off, s, false)

/-! ### Aliases (R504) -/

/-- The register and the bit of an alias. -/
def aliasOff (off : Nat) : Nat := (off - 0x2000000) / 128 * 4
def aliasBit (off : Nat) : Nat := off % 128 / 4

/-- The present value of a register as an agent's write through an alias finds it (R504): of a register that reads 0, the word it
keeps, which is an entry word (R515) or the agent's own latch of a pin (R307). -/
def State.presentWord (s : State) (agent r : Nat) : Word :=
  if 0x20 ≤ r ∧ r < 0x40 then nthD 0 s.host.entry ((r - 0x20) / 4)
  else if 0x51000 ≤ r ∧ r < 0x51800 ∧ r % 0x20 = 4 then Tab.get 0 (s.evio ((r - 0x51000) / 0x20)).latch agent
  else s.readReg r

/-- The word that a write through an alias gives its register: its present value with one bit replaced, other W1C and W1P bits
0. -/
def State.aliasWord (s : State) (agent off : Nat) (v : Bool) : Word :=
  let r := aliasOff off
  let b := aliasBit off
  let now := s.presentWord agent r &&& ~~~(w1cOf r)
  if v then now ||| (1#32 <<< b) else now &&& ~~~(1#32 <<< b)

/-- Whether the machine answers an agent's access: the host once PORn has risen, the debug port while debug is open. -/
def State.answers (s : State) (agent : Nat) : Bool :=
  decide (s.host.phase ≠ .por) && (agent != 9 || s.store.debugOpen)

/-- A pending LK or LOCK write applied, its entry being durable (R11, R12, R551): a block that has been locked meanwhile keeps
its LK fields, and LOCK is never cleared. -/
def State.applyLk (s : State) (p : LkPend) : State :=
  match maskOf p.off with
  | none => s
  | some m =>
    let old := s.cfgW p.off
    let lk := if m.staged || s.lockedAt p.off then old &&& m.lk else p.word &&& m.lk
    let lock : Word := (old ||| p.word) &&& 0x80000000
    let new := (old &&& ~~~(m.lk ||| 0x80000000)) ||| lk ||| (if m.lock then lock else 0)
    let s1 := (s.logNow s.tt.passage p.origin 3 0 codeOk (BitVec.ofNat 32 p.off) new).setCfg p.off new
    match Tab.get none s1.regs.stg p.off with
    | some w => s1.setStg p.off (w ||| (if m.lock then lock else 0))
    | none => s1

end Sys2Proof.Machine
end

