-- ==== Sys2Proof/Machine/GenOps.lean ====
section
/-! DEFINITION. A profile generator in its passage (R162-R201): its raw position, its switch inputs, a limit stop, the step of
its profile, the count of a stall, and the record or rate word that it produces. -/

namespace Sys2Proof.Machine

/-- The level of a switch source (R185): an EVIO input, the index input of an encoder, a switch bit of the node's feedback
block; none reads 0. A SECOND or joiner takes the LEAD's EVIO levels (R443). -/
def State.switchLevel (s : State) (g code : Nat) : Bool :=
  if code < 0x40 then
    (if s.rope.role = 3 ∨ s.rope.role = 4 then s.rope.evio.getLsbD code else (Tab.get {} s.time.evios code).level)
  else if code < 0x50 then (s.enc (code - 0x40)).idxLevel
  else if 0x80 ≤ code ∧ code < 0x83 then (s.rem g).sw.getLsbD (code - 0x80)
  else false

/-- The step count of a local channel at the passage start, the raw of its generator in that passage (R163, R185). -/
def State.sampleCount (s : State) (c : Nat) : State := s.setGen (512 + c) { s.gen (512 + c) with raw := s.chanCount c }

/-- The three switch inputs of a generator sampled at passage start (R185). -/
def State.sampleSwitches (s : State) (g : Nat) : State :=
  let w := s.cfgW (pfOff g 0x30)
  let x := s.gen g
  let one (i : SwitchIn) (code inv : Nat) : SwitchIn :=
    if code = 0xFF then { i with level := false, edge := false, run := 0, begun := false, became := false }
    else i.sample (s.switchLevel g code ^^ w.bit inv) (w.bits 24 4)
  s.setGen g { x with home := one x.home (w.bits 0 8) 28, limP := one x.limP (w.bits 8 8) 29,
                      limN := one x.limN (w.bits 16 8) 30 }

/-- The upstream record that a ring stepper reads: its payload and its age (R198, R280). -/
def State.stepperIn (s : State) (g : Nat) : Option (List Byte × Nat) :=
  (s.stepWire g).map (fun w => (s.mem.bytes w.inAddr 36, (s.mem.byte (w.inAddr + 36)).toNat % 16))

/-- raw of the passage (R163): the measured position of a servo, the node's count, or the step count that a local channel had at
the passage start. -/
def State.genRaw (s : State) (g : Nat) : Int :=
  if 512 ≤ g then (s.gen g).raw
  else if s.kindOf g = 2 then
    match s.stepperIn g with
    | some (p, 0) => (s.gen g).raw + (BitVec.ofNat 32 (fieldLE p 0 4) - BitVec.ofInt 32 (s.gen g).raw).toInt
    | _ => (s.gen g).raw
  else match s.servoWire g with
    | some w => (s.sample w.channel).total
    | none => (s.gen g).raw

/-- The index edge that the passage latched on the axis's channel (R186, R222, R233): the count of the edges seen, and the raw
position of the latest one. -/
def State.genIndex (s : State) (g : Nat) : Option (Nat × Int) :=
  match s.genChannel g with
  | none => none
  | some ch =>
    if !s.incremental ch then none
    else if ch < 16 then some ((s.enc ch).idxSeq, (s.enc ch).idxTotal)
    else some ((s.rem (ch - 512)).idxSeq, (s.rem (ch - 512)).idxTotal)

/-- Whether the generator follows its axis: the instance is DISABLED, MANUAL or in STO, or the channel is disabled (R177). -/
def State.genTracks (s : State) (g : Nat) : Bool :=
  if 512 ≤ g then !(s.chan (g - 512)).enabled
  else match (s.axis g).st with
    | .disabled | .manual | .sto => true
    | _ => false

/-- The count of a stall after a fresh report (R201): the stall is due when it reaches `limit`, STALL_COUNT. -/
def Gen.stallCount (g : Gen) (demand limit : Nat) : Gen :=
  let busy := (g.gst == .run || g.gst == .home || g.gst == .stop) && decide (0 < g.v)
  let n := if busy && demand == 255 then satAdd 255 g.stallRun 1 else 0
  { g with stallRun := n, stallDue := g.stallDue || (decide (g.stallRun < limit) && decide (limit ≤ n)) }

/-- The downstream stepper payload (R181, R197). -/
def stepperPayload (pos : U64) (enable strong hstop : Bool) (ceil base : Nat) : List Byte :=
  bytesLE 8 pos.toNat ++ [BitVec.ofNat 8 (bitNat enable + 2 * bitNat strong + 4 * bitNat hstop), BitVec.ofNat 8 ceil,
    BitVec.ofNat 8 base] ++ bytesLE 21 0

/-- What a fresh report of a ring stepper changes before its step: a count adopted after a stop, the stall count (R181,
R201). -/
def Gen.report (g : Gen) (demand limit : Nat) : Gen :=
  let g := g.stallCount demand limit
  if g.adopt && !g.hstopRec then { g with adopt := false, p := (g.raw + g.offset) * oneCount } else g

/-- The step of a generator and its output (R166, R193, R197, R200), once in a passage; a FAULTED instance's does not run
(R177). -/
def State.genPassage (s : State) (g : Nat) : State :=
  if s.genAbsent g || (s.gen g).ranAt == some s.tt.passage || s.genFaulted g then s
  else
    let x := s.gen g
    let idx := s.genIndex g
    let raw := s.genRaw g
    let x := { x with raw := raw, ranAt := some s.tt.passage
                      home := x.home.settle raw, limP := x.limP.settle raw, limN := x.limN.settle raw
                      gst := if s.genTracks g then .track else x.gst
                      lastIdx := match idx with
                        | some (n, _) => n
                        | none => x.lastIdx }
    let edge := match idx with
      | some (n, r) => if n = (s.gen g).lastIdx then none else some r
      | none => none
    let stepper := decide (g < 512) && s.kindOf g == 2
    let x := match (if stepper then s.stepperIn g else none) with
      | some (p, 0) => x.report ((nthD 0 p 4).toNat) ((s.cfgW (pfOff g 0x3C)).bits 8 8)
      | _ => x
    let x := (x.flyStep edge).begin_.limitStop
    let used := s.valuesOf g x
    let y := x.passage (used.units s.periodNs) edge
    -- values that waited for a blended move take effect as it starts (R174, R176)
    let x := if x.inUse.isSome ∧ y.inUse = none then y.revalue (s.profileRegs g) used s.periodNs else y
    if 512 ≤ g then
      let c := g - 512
      let ch := s.chan c
      let due := match s.image.rel.find? (fun r => r.target == 8) with
        | some r => s.tt.start + BitVec.ofNat 64 r.offset
        | none => s.time.time
      let q := ch.q + ch.rate * ((due - ch.relAt).toNat / 5 : Nat)
      let r := rateWord x.p x.offset q (s.periodNs / 5) (s.width g)
      (s.setGen g x).setChan c { ch with rateNext := some r.1 }
    else if stepper then
      let w := s.cfgW (pfOff g 0x3C)
      let x := x.strongStep (speedUnits (s.cfgW (pfOff g 0x34)) s.periodNs).toNat
        (speedUnits (s.cfgW (pfOff g 0x38)) s.periodNs).toNat
      let hold := x.adopt || x.hstopRec
      let pos := if hold then x.lastPos else stepperPos x.p x.offset
      let rec32 := stepperPayload pos (match (s.axis g).st with
        | .disabled | .sto => false
        | _ => true) x.strong hold (w.bits 24 8) (w.bits 16 8)
      let s1 := s.setGen g { x with lastPos := pos, hstopRec := false }
      match s.stepWire g with
      | some wire => s1.store' wire.recAddr rec32
      | none => s1
    else s.setGen g x

/-- The variables that a stepper's passage produces (R327), 0 for those of a servo only: the TOTAL and the speed of its feedback
channel or, without one, the step count and a free value; the error against the step count, clamped as R113's; a free value for the
temperature, which no stepper payload carries (R198; log 6). -/
def State.stepperVars (s : State) (i : Nat) : List Word :=
  let a := s.axis i
  let g := s.gen i
  let ch := (s.stepWire i).bind (·.channel)
  let total : Int := match ch with
    | some c => (s.sample c).total
    | none => g.raw
  let speed : Word := match ch with
    | some c => (s.sample c).speed
    | none => (Config.free s.freeCtr).setWidth 32
  let diff := g.p / oneCount - (g.raw + g.offset)
  let lim : Int := 2 ^ 31 - 1
  let err := if lim < diff then lim else if diff < -lim then -lim else diff
  [BitVec.ofInt 32 total, speed, BitVec.ofInt 32 err,
    (⟨g.dir * g.v * 10 ^ 9, s.periodNs, -32⟩ : Exact).word] ++ List.replicate 9 0 ++
  [BitVec.ofNat 32 a.vbus, (Config.free (s.freeCtr + 1)).setWidth 32, BitVec.ofNat 32 a.age] ++ List.replicate 24 0

/-- The acquisition record of a stepper, which the image's MOVE carries to the I-die (R326). -/
def State.stepperRecord (s : State) (i : Nat) : State :=
  match s.stepWire i with
  | some w =>
    let t := s.tick.2.tick.2
    t.store' w.acqAddr (acqRecordBytes s.tt.passage (s.stepperVars i))
  | none => s

/-- One passage of a ring stepper instance (R131, R145, R198): its generator, the node's report, and its input age. -/
def State.stepperPassage (s : State) (i : Nat) : State :=
  let a := s.axis i
  if a.st = .faulted ∨ a.ranAt = some s.tt.passage then s
  else
    match s.stepperIn i with
    | none => s.genPassage i
    | some (p, age) =>
      let a := if age = 0 then { a with vbus := fieldLE p 8 4, nstat := BitVec.ofNat 16 (fieldLE p 6 2) } else a
      let s1 := s.setAxis i { a with ranAt := some s.tt.passage }
      let s2 := match (s.stepWire i).bind (·.channel) with
        | some ch => ((s1.genPassage i).ageCheck i (max age (s.sample ch).age)).feedbackCheck i ch
        | none => (s1.genPassage i).ageCheck i age
      s2.stepperRecord i

end Sys2Proof.Machine
end

