-- ==== Sys2Proof/Machine/Loader.lean ====
section
/-! DEFINITION. The timetable image: its parser (R57-R66) and the loader's eight checks in their order (R68). Bytes are
given as a function of their offset. Times are in twelfths of a nanosecond, in which every clock of R25 that has a divisor is
whole. -/

namespace Sys2Proof.Machine

/-- A little-endian number of `n` bytes at an offset. -/
def leAt (b : Nat → Byte) (o : Nat) : Nat → Nat
  | 0 => 0
  | n + 1 => (b o).toNat + 256 * leAt b (o + 1) n

/-- A 32-bit word at an offset. -/
def wordAt (b : Nat → Byte) (o : Nat) : Word := BitVec.ofNat 32 (leAt b o 4)

/-- The bytes from an offset. -/
def bytesAt (b : Nat → Byte) (o : Nat) : Nat → List Byte
  | 0 => []
  | n + 1 => b o :: bytesAt b (o + 1) n

/-- An entry (R62). -/
def parseEntry (b : Nat → Byte) (o : Nat) : Entry :=
  { start := leAt b o 4, budget := leAt b (o + 4) 4, kind := leAt b (o + 8) 1, flags := leAt b (o + 9) 1
    rate := leAt b (o + 10) 1, phase := leAt b (o + 11) 1, op0 := wordAt b (o + 12), op1 := wordAt b (o + 16)
    op2 := wordAt b (o + 20), op3 := wordAt b (o + 24), op4 := wordAt b (o + 28) }

/-- The segment of an island in a tier's record (R60): its descriptor lies at `o`. -/
def parseSegment (b : Nat → Byte) (o : Nat) : Segment :=
  let off := leAt b (o + 4) 4
  { div := leAt b o 1, entries := (List.range (leAt b (o + 2) 2)).map (fun i => parseEntry b (off + 32 * i)) }

/-- A release record (R65). -/
def parseRelease (b : Nat → Byte) (o : Nat) : Release :=
  { offset := leAt b o 4, target := leAt b (o + 4) 1, marker := leAt b (o + 5) 1, markers := leAt b (o + 6) 1
    source := leAt b (o + 8) 4, words := leAt b (o + 12) 4 % 8192 }

/-- A crossing record (R66). -/
def parseCrossing (b : Nat → Byte) (o : Nat) : Crossing :=
  { tier := leAt b o 1, src := leAt b (o + 1) 1, dst := leAt b (o + 2) 1, srcIndex := leAt b (o + 4) 4
    dstIndex := leAt b (o + 8) 4 }

/-- A table of non-zero words by index (R59, R366). -/
def parseTable {α : Type} (f : Nat → α) (zero : α → Bool) (n : Nat) : List (Nat × α) :=
  ((List.range n).map (fun i => (i, f i))).filter (fun p => !zero p.2)

/-- The image that the bytes hold (R58-R66, R366), with its wiring. -/
def parseImage (b : Nat → Byte) (w : Wiring) : Image :=
  let tiers := leAt b 0x30 4
  let codeLen := leAt b 0x44 4
  { length := leAt b 8 4, period := leAt b 0x0C 1, rings := leAt b 0x0E 1 % 16, team := leAt b 0x0F 1 % 2 == 1
    axes := leAt b 0x10 2, nodes := (List.range 4).map (fun r => leAt b (0x12 + r) 1)
    circ := (List.range 4).map (fun r => leAt b (0x18 + 2 * r) 2), id := BitVec.ofNat 64 (leAt b 0x20 8)
    tool := wordAt b 0x28
    axmap := parseTable (fun i => wordAt b (leAt b 0x34 4 + 4 * i)) (· == 0) 512
    tiers := (List.range 4).map (fun t => (List.range 28).map (fun k => parseSegment b (tiers + 512 * t + 0x10 + 16 * k)))
    rel := (List.range (leAt b 0x48 2)).map (fun i => parseRelease b (leAt b 0x38 4 + 16 * i))
    xing := (List.range (leAt b 0x4A 2)).map (fun i => parseCrossing b (leAt b 0x3C 4 + 16 * i))
    code := parseTable (fun i => BitVec.ofNat 64 (leAt b (leAt b 0x40 4 + 8 * i) 8)) (· == 0) (codeLen / 8)
    codeLen := codeLen, wiring := w }

/-- A refused load: its code and LOAD_DETAIL (R68, R83). -/
structure LoadFail where
  code : Nat
  detail : Word
  deriving DecidableEq, Repr

/-- The local codes of R68. -/
def codeContract : Nat := 0x20
def codeFormat : Nat := 0x21

/-- LOAD_DETAIL (R83). -/
def loadDetail (check tier island index : Nat) : Word :=
  BitVec.ofNat 32 (check * 2 ^ 28 + tier % 4 * 2 ^ 26 + island % 256 * 2 ^ 16 + min index 0xFFFF)

/-- A refusal by a check where no tier, island or index applies. -/
def failAt (code check : Nat) : LoadFail := ⟨code, loadDetail check 0 0 0xFFFF⟩

/-- A refusal that names an entry. -/
def failEntry (code check t k i : Nat) : LoadFail := ⟨code, loadDetail check t k i⟩

/-- A check: a refusal unless the condition holds. -/
def must (ok : Bool) (f : LoadFail) : Option LoadFail := if ok then none else some f

/-- The first refusal of a list of checks. -/
def firstFail : List (Option LoadFail) → Option LoadFail
  | [] => none
  | some f :: _ => some f
  | none :: r => firstFail r

/-- A check of every entry of every segment, in order of tier, island and index. -/
def Image.everyEntry (im : Image) (f : Nat → Nat → Segment → Nat → Entry → Option LoadFail) : Option LoadFail :=
  firstFail (im.tiers.mapIdx (fun t segs => firstFail (segs.mapIdx (fun k g =>
    firstFail (g.entries.mapIdx (fun i e => f t k g i e))))))

/-- A segment of the image. -/
def Image.seg (im : Image) (t k : Nat) : Segment := nthD ⟨1, []⟩ (nthD [] im.tiers t) k

/-! ### Islands, clocks and paths (R61, R25, R44) -/

/-- The clock of an island in twelfths of ns at divisor 1 (R25): 1.0 GHz, 800 MHz for the fabrics, 1.2 GHz for the S-cores. -/
def baseClock (k : Nat) : Nat :=
  if k < 0x10 then 12 else if k < 0x14 then 15 else if k < 0x18 then 10 else if k = 0x1B then 15 else 12

/-- The clock of an island in a tier, in twelfths of ns (R53); 0 for a gated cluster, whose clock does not run. -/
def Image.clock (im : Image) (t k : Nat) : Nat := if 0x1C ≤ k then 12 else baseClock k * (im.seg t k).div

/-- The die of an island: 0 K0, 1 K1, 2 I. -/
def dieOf (k : Nat) : Nat :=
  if k < 0x10 then k / 8 else if k < 0x18 then k % 4 / 2 else 2

/-- The fabric through which an island is reached. -/
def fabricOf (k : Nat) : Nat := if k < 0x10 then 0x10 + k / 4 else if k < 0x14 then k else 0x1B

/-- The island of the memory at a fabric address (R64). -/
def memIsland (a : Nat) : Nat :=
  if a < 0x01000000 then a / 0x100000 else if a < 0x02000000 then (a - 0x01000000) / 0x100000
  else if a < 0x03000000 then 0x10 + (a - 0x02000000) / 0x200000 % 4 else 0x1B

/-- One hop of a data path (R44). -/
inductive Hop
  | link
  | to (k : Nat)
  deriving DecidableEq, Repr

/-- The hops from one island to another (R44). -/
def hops (a b : Nat) : List Hop :=
  if a = b then [] else
    let fa := fabricOf a
    let fb := fabricOf b
    (if a = fa then [] else [.to fa]) ++
    (if fa = fb then [] else if dieOf fa = dieOf fb then [.to fb] else [.link]) ++
    (if b = fb then [] else [.to b])

/-- The delay of a path in a tier, in twelfths of ns (R44). -/
def Image.delay (im : Image) (t : Nat) (hs : List Hop) : Nat :=
  hs.foldl (fun n h => n + match h with
    | .link => 144
    | .to k => 3 * im.clock t k) 0

/-! ### Check 1: form (R57, R58) -/

/-- Whether the bytes from `o` are 0. -/
def zeros (b : Nat → Byte) (o n : Nat) : Bool := (bytesAt b o n).all (· == 0)

/-- The kinds that an island may hold (R61). -/
def kindAllowed (k kind : Nat) : Bool :=
  if k < 0x10 then decide (1 ≤ kind ∧ kind ≤ 3)
  else if k < 0x14 ∨ k = 0x1B then decide (2 ≤ kind ∧ kind ≤ 4)
  else if 0x18 ≤ k ∧ k ≤ 0x1A then kind == 4 else false

/-- Whether the operand bits that R63 does not list are 0. -/
def Entry.reservedOk (e : Entry) : Bool :=
  e.flags < 32 && e.rate < 8 &&
  (match e.kind with
   | 1 => decide (e.op1.toNat < 8) && decide (e.op2.toNat < 65536) && e.op3 == 0 && e.op4 == 0
   | 2 => (e.op2 &&& 0x3FE0E000#32) == 0 && (e.op3 &&& 0x00FF0000#32) == 0 && decide (e.op4.toNat < 65536)
   | 3 => decide (e.op0.toNat < 256) && decide (e.op1.toNat < 8) && e.op2 == 0 && e.op3 == 0 && e.op4 == 0
   | _ => decide (e.op0.toNat < 256) && decide (e.op1.toNat < 4) && e.op2 == 0 && e.op3 == 0 && e.op4 == 0)

/-- The targets of R65. -/
def targetKnown (t : Nat) : Bool := decide (t < 4) || t == 0x08 || t == 0x0A || t == 0x0B || t == 0x0C

/-- Check 1 (R68): constants, alignment, offsets inside LENGTH, reserved bytes, kinds, and CHECK. -/
def check1 (b : Nat → Byte) (im : Image) : Option LoadFail :=
  let f := failAt codeFormat 1
  let inside (o n : Nat) : Bool := o % 32 == 0 && decide (o + n ≤ im.length)
  firstFail [
    must (leAt b 0 4 == 0x54545141 && leAt b 4 2 == 1 && leAt b 6 2 == 128 && leAt b 0x0D 1 == 4) f,
    must (decide (leAt b 0x0E 1 < 16) && decide (leAt b 0x0F 1 < 2) && zeros b 0x16 2 && zeros b 0x2C 4 && zeros b 0x4C 48) f,
    must (inside (leAt b 0x30 4) 2048 && inside (leAt b 0x34 4) 2048 && inside (leAt b 0x38 4) (16 * leAt b 0x48 2) &&
      inside (leAt b 0x3C 4) (16 * leAt b 0x4A 2) && inside (leAt b 0x40 4) im.codeLen) f,
    firstFail ((List.range 4).map (fun t =>
      let o := leAt b 0x30 4 + 512 * t
      firstFail [
        must (leAt b o 1 == t && zeros b (o + 1) 15 && zeros b (o + 0x1D0) 48) (failEntry codeFormat 1 t 0 0xFFFF),
        firstFail ((List.range 28).map (fun k =>
          let d := o + 0x10 + 16 * k
          must (zeros b (d + 1) 1 && zeros b (d + 8) 8 &&
            (if leAt b (d + 2) 2 = 0 then leAt b (d + 4) 4 == 0 else inside (leAt b (d + 4) 4) (32 * leAt b (d + 2) 2)))
            (failEntry codeFormat 1 t k 0xFFFF)))])),
    firstFail (im.rel.mapIdx (fun i r =>
      let o := leAt b 0x38 4 + 16 * i
      must (zeros b (o + 7) 1 && decide (leAt b (o + 12) 4 < 8192) && targetKnown r.target) (failEntry codeFormat 1 0 0x1C i))),
    firstFail (im.xing.mapIdx (fun i x =>
      let o := leAt b 0x3C 4 + 16 * i
      must (zeros b (o + 3) 1 && zeros b (o + 12) 4) (failEntry codeFormat 1 x.tier x.dst i))),
    must (im.axmap.all (fun p => p.2.bit 31 && !p.2.bit 30 && p.2.bits 8 5 == 0 && (p.2.bits 0 8 == 1 || p.2.bits 0 8 == 2))) f,
    im.everyEntry (fun t k _ i e => must (kindAllowed k e.kind && e.reservedOk) (failEntry codeFormat 1 t k i)),
    must (crc32c (bytesAt b 0 0x7C ++ bytesLE 4 0 ++ bytesAt b 0x80 (im.length - 0x80)) == wordAt b 0x7C)
      (failAt codeMismatch 1)]

/-! ### Check 2: lengths -/

/-- The entries of an island over all tiers. -/
def Image.entryCount (im : Image) (k : Nat) : Nat := im.tiers.foldl (fun n t => n + (nthD ⟨1, []⟩ t k).entries.length) 0

/-- Check 2 (R68). -/
def check2 (im : Image) : Option LoadFail :=
  let f := failAt codeLength 2
  let region (g : Nat) : Nat := (List.range 4).foldl (fun n j => n + im.entryCount (4 * g + j)) (im.entryCount (0x10 + g) +
    im.entryCount (0x14 + g))
  firstFail [
    must (im.length % 32 == 0 && decide (im.length ≤ 1048576)) f,
    must ((List.range 4).all (fun g => decide (region g ≤ 8192))) f,
    must (decide ((List.range 4).foldl (fun n j => n + im.entryCount (0x18 + j)) 0 ≤ 4096)) f,
    must (decide (im.rel.length ≤ 32) && decide (im.xing.length ≤ 4096)) f,
    im.everyEntry (fun t k _ i e =>
      must (e.kind != 2 || decide (e.op2.bits 0 13 * e.op2.bits 16 5 ≤ 4096)) (failEntry codeLength 2 t k i))]

/-! ### Check 3: ranges -/

/-- The end of the memory that holds a fabric address (R64); 0 where there is none. The I-die SRAM is taken as the three memories
that R64's table lists: a block may run from one acquisition buffer or ring buffer into the next, and not from the acquisition
buffers into the ring buffers or from there into the host buffers (DESIGN CHOICE, log 103). -/
def memEnd (a : Nat) : Nat :=
  if a < 0x01000000 then (a / 0x40000 + 1) * 0x40000
  else if a < 0x02000000 then (a / 0x100000 + 1) * 0x100000
  else if a < 0x02800000 then (a / 0x200000 + 1) * 0x200000
  else if a < 0x03000000 then 0
  else if a < 0x03400000 then 0x03400000
  else if a < 0x03600000 then 0x03600000
  else if a < 0x03800000 then 0x03800000
  else 0

/-- Whether every block of one end of a MOVE lies in its memory (R64). -/
def blocksOk (a stride words blocks : Nat) : Bool :=
  a % 32 == 0 && (List.range blocks).all (fun i =>
    decide (a + 32 * stride * i + 32 * words ≤ memEnd (a + 32 * stride * i)))

/-- Whether a MOVE has an end in its issuer's own memories (R63): a cluster's operand memories and cluster SRAM; for a region
fabric, `memory of its own region` is taken as the region SRAM alone (DESIGN CHOICE, log 104). -/
def Entry.ownEnd (e : Entry) (k : Nat) : Bool := memIsland e.op0.toNat == k || memIsland e.op1.toNat == k

/-- The channel of the fabric `f` that a transfer to or from die `d` uses (R63): 0 local; 1 and 2 the links, which are those to
the I-die and DL2 at a region fabric, those to K0 and K1 at the I-die fabric. -/
def fabricChannel (f d : Nat) : Nat :=
  if d = dieOf f then 0 else if f = 0x1B then d + 1 else if d = 2 then 1 else 2

/-- Whether a fabric MOVE names the channel that its transfer uses (R63): that of the die of the end that is not the issuer's
own. -/
def Entry.channelUsed (e : Entry) (k : Nat) : Bool :=
  let far := if memIsland e.op0.toNat = k then memIsland e.op1.toNat else memIsland e.op0.toNat
  !e.ownEnd k || e.op2.bits 30 2 == fabricChannel k (dieOf far)

/-- An entry's ranges (R62, R63). -/
def Image.entryRange (im : Image) (k : Nat) (e : Entry) : Bool :=
  decide (1 ≤ e.budget) && decide (e.phase < 2 ^ e.rate) &&
  (match e.kind with
   | 1 => e.op0.toNat % 8 == 0 && decide (e.op0.toNat < im.codeLen) && decide (e.op1.toNat ≤ 4) &&
       (decide (e.op2.toNat < 512) || e.op2.toNat == 0xFFFF)
   | 2 => decide (1 ≤ e.op2.bits 16 5 ∧ e.op2.bits 16 5 ≤ 16) && decide (1 ≤ e.op2.bits 0 13 ∧ e.op2.bits 0 13 ≤ 4096) &&
       (if k < 0x10 then e.op2.bits 30 2 == 0 else decide (e.op2.bits 30 2 ≤ 2) && e.channelUsed k) &&
       blocksOk e.op0.toNat (e.op3.bits 0 16) (e.op2.bits 0 13) (e.op2.bits 16 5) &&
       blocksOk e.op1.toNat (e.op4.bits 0 16) (e.op2.bits 0 13) (e.op2.bits 16 5)
   | 3 => e.op0.toNat != 0xFF && (if k < 0x10 then decide (e.op1.toNat ≤ 4) || e.op1.toNat == 7 else e.op1.toNat == 7) &&
       e.budget == 1
   | _ => decide (e.op0.toNat < 0x1C) && (if 0x18 ≤ k ∧ k ≤ 0x1A then decide (e.op1.toNat < 2) else decide (e.op1.toNat ≤ 2)))

/-- The axis map's rules (R39, R59). -/
def Image.mapOk (im : Image) : Bool :=
  let p := im.period
  let slots := im.axmap.map (fun q => q.2.bits 13 9)
  let nodeOf (q : Nat × Word) : Nat := q.2.bits 22 8
  im.axmap.all (fun q =>
    im.rings.testBit (q.2.bits 28 2) && decide (q.2.bits 22 6 < nthD 0 im.nodes (q.2.bits 28 2)) &&
    decide (q.2.bits 13 3 < perAe p) &&
    decide ((im.axmap.filter (fun r => nodeOf r == nodeOf q)).length ≤ perNode p)) &&
  slots.all (fun x => decide (slots.count x = 1)) &&
  im.axmap.length == im.axes && decide (im.axes ≤ (if p = 0 then 128 else if p = 1 then 256 else 512))

/-- The divisors' range (R61). -/
def divOk (k d : Nat) : Bool :=
  if k < 0x10 then decide (d ≤ 4) else if 0x14 ≤ k ∧ k < 0x18 then decide (1 ≤ d ∧ d ≤ 4) else d == 1

/-- A release record's ranges (R65). -/
def Image.releaseRange (im : Image) (r : Release) : Bool :=
  decide (r.offset < periodOf im.period) &&
  (if r.target = 0x0A ∨ r.target = 0x0B then r.marker == 0xFF && r.markers == 0 && r.source == 0 && r.words == 0
   else decide (r.marker < 0xFF) && decide (1 ≤ r.markers ∧ r.markers ≤ 16) && decide (r.marker + r.markers ≤ 0xFF) &&
     r.source % 32 == 0 && decide (r.source + 32 * r.words ≤ memEnd r.source))

/-- A crossing record's ranges (R66). -/
def Image.crossingRange (im : Image) (x : Crossing) : Bool :=
  decide (x.tier < 4) && (decide (x.src < 0x1C) || x.src == 0x1D) && decide (x.dst ≤ 0x1C) &&
  (if x.src = 0x1D then im.rings.testBit x.srcIndex && decide (x.srcIndex < 4)
   else decide (x.srcIndex < (im.seg x.tier x.src).entries.length)) &&
  (if x.dst = 0x1C then decide (x.dstIndex < im.rel.length)
   else decide (x.dstIndex < (im.seg x.tier x.dst).entries.length))

/-- Check 3 (R68). -/
def check3 (im : Image) : Option LoadFail :=
  let f := failAt codeRange 3
  firstFail [
    must (decide (im.period ≤ 6)) f,
    must im.mapOk f,
    must ((List.range 4).all (fun r =>
      let n := nthD 0 im.nodes r
      let c := nthD 0 im.circ r
      decide (c ≤ 400) && decide (n ≤ (if im.period = 0 then 32 else 64)) &&
      (im.rings.testBit r || (n == 0 && c == 0)))) f,
    firstFail (im.tiers.mapIdx (fun t segs => firstFail (segs.mapIdx (fun k g =>
      must (divOk k g.div) (failEntry codeRange 3 t k 0xFFFF))))),
    im.everyEntry (fun t k _ i e => must (im.entryRange k e) (failEntry codeRange 3 t k i)),
    firstFail (im.rel.mapIdx (fun i r => must (im.releaseRange r) (failEntry codeRange 3 0 0x1C i))),
    firstFail (im.xing.mapIdx (fun i x => must (im.crossingRange x) (failEntry codeRange 3 x.tier x.dst i)))]

/-! ### Check 4: placement (R43, R55, R63) -/

/-- Whether two entries run in one passage (R56). -/
def Entry.meets (a b : Entry) : Bool := let m := 2 ^ (min a.rate b.rate); a.phase % m == b.phase % m

/-- What an entry holds (R43): its unit for a RUN, its channel for a MOVE or a RESERVE; a GATE holds nothing. -/
def Entry.holds (e : Entry) : Option (Bool × Nat) :=
  match e.kind with
  | 1 => some (false, e.op1.toNat)
  | 2 => some (true, e.op2.bits 30 2)
  | 4 => some (true, e.op1.toNat)
  | _ => none

/-- Whether an entry overlaps one of the later ones of its segment on one unit or channel (R43). -/
def Entry.overlaps (e : Entry) (later : List Entry) : Bool :=
  later.any (fun x => x.holds.isSome && x.holds == e.holds && x.meets e && decide (x.start < e.start + e.budget))

/-- The fabrics with their channel, and the die-link directions, that the data of one end of a MOVE passes (R63): from island
`a` to the island `b` of the memory; `out` says that the data goes from `a` to `b`. -/
def passes (a b : Nat) (out : Bool) : List (Nat × Nat) :=
  if a = b then [] else
    let fa := fabricOf a
    let fb := fabricOf b
    let da := dieOf fa
    let db := dieOf fb
    let link := if da = 2 ∨ db = 2 then 0x18 + min da db else 0x1A
    let target := if out then db else da
    (if fa = a then [] else [(fa, fabricChannel fa db)]) ++
    (if da = db then [] else [(link, if link = 0x1A then (if target = 1 then 0 else 1) else (if target = 2 then 0 else 1))]) ++
    (if fb = fa then [] else [(fb, fabricChannel fb da)])

/-- Whether a RESERVE covers a MOVE of island `k` in a fabric or a link direction (R68). -/
def Image.covered (im : Image) (t k : Nat) (e : Entry) (p : Nat × Nat) : Bool :=
  (im.seg t p.1).entries.any (fun r =>
    r.kind == 4 && r.op0.toNat == k && r.op1.toNat == p.2 && decide (r.rate ≤ e.rate) && r.meets e &&
    decide (r.start * im.clock t p.1 ≤ e.start * im.clock t k) &&
    decide ((e.start + e.budget) * im.clock t k ≤ (r.start + r.budget) * im.clock t p.1))

/-- The islands of the memories that the blocks of one end of a MOVE lie in (R63). -/
def moveIslands (a stride blocks : Nat) : List Nat :=
  ((List.range blocks).map (fun i => memIsland (a + 32 * stride * i))).dedup

/-- The fabrics and link directions that the data of a MOVE of island `k` passes through, whichever block it is in (R63, R68). -/
def Entry.way (e : Entry) (k : Nat) : List (Nat × Nat) :=
  (moveIslands e.op0.toNat (e.op3.bits 0 16) (e.op2.bits 16 5)).flatMap (fun b => passes k b false) ++
    (moveIslands e.op1.toNat (e.op4.bits 0 16) (e.op2.bits 16 5)).flatMap (fun b => passes k b true)

/-- Whether an entry starts within the passage and completes 32 ns before its end (R55, R62); one of a gated cluster, whose clock
does not run, never completes (DEDUCED, log 105). -/
def Image.fitsPassage (im : Image) (t k : Nat) (e : Entry) : Bool :=
  let c := im.clock t k
  decide (0 < c) && decide ((e.start + e.budget + 3) * c + 384 ≤ 12 * periodOf im.period)

/-- Check 4 (R68). -/
def check4 (im : Image) : Option LoadFail :=
  firstFail (im.tiers.mapIdx (fun t segs => firstFail (segs.mapIdx (fun k g =>
    firstFail (g.entries.mapIdx (fun i e =>
      let later := g.entries.drop (i + 1)
      must ((match later with
          | n :: _ => decide (e.start ≤ n.start)
          | [] => true) &&
        !e.overlaps later &&
        im.fitsPassage t k e &&
        (e.kind != 2 || (decide (e.op2.bits 0 13 * e.op2.bits 16 5 + 8 ≤ e.budget) && e.ownEnd k &&
          (e.way k).all (im.covered t k e))))
        (failEntry codeContract 4 t k i)))))))

/-! ### Check 5: crossings (R45, R46) -/

/-- The latest completion of a crossing's producer (R45) and the path of its data. -/
def Image.crossingOk (im : Image) (x : Crossing) : Bool :=
  let t := x.tier
  let e := (im.seg t x.src).entries[x.srcIndex]?
  let from_ : Nat × List Hop :=
    if x.src = 0x1D then (12 * (ringPoints im.period).1, .to 0x1B :: hops 0x1B x.dst)
    else match e with
      | none => (0, [])
      | some p =>
        let via := if p.kind = 2 then memIsland p.op1.toNat else x.src
        ((p.start + p.budget + 3) * im.clock t x.src, hops x.src via ++ hops via x.dst)
  let ready := from_.1 + im.delay t from_.2
  if x.dst = 0x1C then match im.rel[x.dstIndex]? with
    | some r => decide (ready + 96 ≤ 12 * r.offset)
    | none => false
  else match (im.seg t x.dst).entries[x.dstIndex]? with
    | some c => decide (ready ≤ (c.start + 2) * im.clock t x.dst)
    | none => false

/-- Check 5 (R68). -/
def check5 (im : Image) : Option LoadFail :=
  firstFail (im.xing.map (fun x => must (im.crossingOk x) (failEntry codeContract 5 x.tier x.dst x.dstIndex)))

/-! ### Check 6: releases (R48, R447) -/

/-- The MOVE entries of a tier that set a marker (R67). -/
def Image.setters (im : Image) (t m : Nat) : Nat :=
  (nthD [] im.tiers t).foldl (fun n g => n + (g.entries.filter (fun e => e.kind == 2 && e.op3.bits 24 8 == m)).length) 0

/-- Check 6 (R68). -/
def check6 (im : Image) : Option LoadFail :=
  let point := (ringPoints im.period).2.1
  firstFail [
    firstFail (im.rel.mapIdx (fun i r => must
      (decide ((im.rel.filter (fun q => q.target == r.target)).length = 1) &&
        (decide (4 ≤ r.target) || (r.offset == point && im.rings.testBit r.target)) &&
        (r.marker == 0xFF || (List.range 4).all (fun t => (List.range r.markers).all (fun j =>
          im.setters t (r.marker + j) == 1))))
      (failEntry codeContract 6 0 0x1C i))),
    must (!im.team || im.rel.any (fun r => r.target == 0x0B && decide (point + 100 ≤ r.offset ∧ r.offset ≤ point + 500)))
      (failAt codeContract 6)]

/-! ### Check 7: tiers (R52, R53) -/

/-- Whether an entry is of every tier: LOOP, SAFE or PRIV (R52). -/
def Entry.kept (e : Entry) : Bool := e.flags % 8 != 0

/-- Whether a tier runs an entry of its class (R52): tier 0 every entry; below it LOOP, SAFE and PRIV, and EXTRA, in tiers 2 and 3
only at a rate exponent of 2 or more; no other STREAM entry. -/
def Entry.runsIn (e : Entry) (t : Nat) : Bool :=
  t == 0 || e.kept || (e.flags.testBit 4 && !e.flags.testBit 3 && (t == 1 || decide (2 ≤ e.rate)))

/-- How often an entry stands in a segment, but for start and budget (R52). -/
def Entry.times (e : Entry) (g : Segment) : Nat :=
  (g.entries.filter (fun x => { x with start := 0, budget := 0 } == { e with start := 0, budget := 0 })).length

/-- Whether a cluster is mapped (R53). -/
def Image.clusterMapped (im : Image) (k : Nat) : Bool :=
  im.axmap.any (fun p => p.2.bits 16 6 / 4 == k) ||
  im.tiers.any (fun t => (nthD ⟨1, []⟩ t k).entries.any (fun e => e.flags % 4 != 0))

/-- Check 7 (R68). -/
def check7 (im : Image) : Option LoadFail :=
  firstFail (im.tiers.mapIdx (fun t segs => firstFail (segs.mapIdx (fun k g =>
    firstFail [
      must ((t != 0 || g.div == 1) &&
        (t == 0 || decide ((im.seg (t - 1) k).div ≤ g.div) || g.div == 0) &&
        (decide (0x10 ≤ k) || (if g.div = 0 then t == 3 && !im.clusterMapped k else t != 3 || im.clusterMapped k)) &&
        (t != 3 || decide (k < 0x14 ∨ 0x18 ≤ k) || decide (2 ≤ g.div)))
        (failEntry codeContract 7 t k 0xFFFF),
      firstFail ((im.seg 0 k).entries.mapIdx (fun i e =>
        must (!e.runsIn t || e.times g == e.times (im.seg 0 k)) (failEntry codeContract 7 t k i))),
      firstFail (g.entries.mapIdx (fun i e =>
        must (e.flags != 0 && e.runsIn t && e.times g == e.times (im.seg 0 k)) (failEntry codeContract 7 t k i)))]))))

/-! ### Check 8: slack (R51) -/

/-- Whether an entry runs in a passage (R56). -/
def Entry.active (e : Entry) (n : Nat) : Bool := n % 2 ^ e.rate == e.phase

/-- The memory port of a fabric address (R51): AE n at n, cluster SRAM at 80 + k, region SRAM at 96 + g, the I-die SRAM at 100. -/
def memPort (a : Nat) : Nat :=
  if a < 0x01000000 then a / 0x40000 else if a < 0x02000000 then 80 + (a - 0x01000000) / 0x100000
  else if a < 0x03000000 then 96 + (a - 0x02000000) / 0x200000 else 100

/-- The memory ports that an entry holds (R51): an engine's operand port and the DSP port of a RUN, at 64 + k for cluster k, the
ports at both ends of a MOVE. -/
def Entry.ports (e : Entry) (k : Nat) : List Nat :=
  match e.kind with
  | 1 => [if e.op1.toNat = 4 then 64 + k else 4 * k + e.op1.toNat]
  | 2 => (List.range (e.op2.bits 16 5)).flatMap (fun i =>
      [memPort (e.op0.toNat + 32 * e.op3.bits 0 16 * i), memPort (e.op1.toNat + 32 * e.op4.bits 0 16 * i)])
  | _ => []

/-- The clock of a port (R20, R25), in twelfths of ns: a cluster's for its ports, the fabric's for the others. -/
def Image.portClock (im : Image) (t p : Nat) : Nat :=
  if p < 64 then im.clock t (p / 4) else if p < 80 then im.clock t (p - 64) else if p < 96 then im.clock t (p - 80)
  else if p < 100 then im.clock t (p - 96 + 0x10) else im.clock t 0x1B

/-- The busy intervals of a port in passage `n` of a tier, shifted by `base`, in twelfths of ns. -/
def Image.busy (im : Image) (t p n base : Nat) : List (Nat × Nat) :=
  ((nthD [] im.tiers t).mapIdx (fun k g => (g.entries.filter (fun e => e.active n && (e.ports k).contains p)).map (fun e =>
    (base + e.start * im.clock t k, base + (e.start + e.budget) * im.clock t k)))).flatten

/-- An interval put in order of its start. -/
def insertInterval (x : Nat × Nat) : List (Nat × Nat) → List (Nat × Nat)
  | [] => [x]
  | y :: r => if x.1 < y.1 then x :: y :: r else y :: insertInterval x r

/-- Whether no stretch without a free interval of `gap` is longer than the limit less two such intervals (R51): `lo` and `hi`
bound the stretch in hand. -/
def stretches (gap limit lo hi : Nat) : List (Nat × Nat) → Bool
  | [] => decide (hi - lo + 2 * gap ≤ limit)
  | x :: r =>
    if hi + gap ≤ x.1 then decide (hi - lo + 2 * gap ≤ limit) && stretches gap limit x.1 (max hi x.2) r
    else stretches gap limit lo (max hi x.2) r

/-- The port rule of R51 over a passage and the one after it. -/
def Image.portOk (im : Image) (t p n : Nat) : Bool :=
  let xs := (im.busy t p n 0 ++ im.busy t p (n + 1) (12 * periodOf im.period)).foldl (fun l x => insertInterval x l) []
  match xs with
  | [] => true
  | x :: r => stretches (8 * im.portClock t p) 48000 x.1 x.2 r

/-- The channel rule of R51: at least one eighth of a fabric channel's or link direction's cycles unreserved. -/
def Image.channelOk (im : Image) (t k c n : Nat) : Bool :=
  let used := ((im.seg t k).entries.filter (fun e => e.active n && e.holds == some (true, c))).foldl
    (fun m e => m + e.budget) 0
  decide (8 * used * im.clock t k ≤ 7 * 12 * periodOf im.period)

/-- Check 8 (R68): over the 128 passages of the longest rate. A memory port belongs to no island of R61 alone, so a failure of the port
rule names ISLAND 0 (DESIGN CHOICE, log 106). -/
def check8 (im : Image) : Option LoadFail :=
  firstFail ((List.range 4).map (fun t => firstFail ((List.range 128).map (fun n => firstFail [
    firstFail ([0x10, 0x11, 0x12, 0x13, 0x18, 0x19, 0x1A, 0x1B].map (fun k =>
      must ((List.range 3).all (fun c => im.channelOk t k c n)) (failEntry codeContract 8 t k 0xFFFF))),
    must ((List.range 101).all (fun p => im.portOk t p n)) (failEntry codeContract 8 t 0 0xFFFF)]))))

/-- The loader's checks of an image in their order (R68). -/
def loaderChecks (b : Nat → Byte) (im : Image) : Option LoadFail :=
  firstFail [check1 b im, check2 im, check3 im, check4 im, check5 im, check6 im, check7 im, check8 im]

end Sys2Proof.Machine
end

