-- ==== Sys2Proof/Machine/EntryOps.lean ====
section
/-! DEFINITION. Timetable entries at run time: which entry a tier's segment holds (R60, R62), whether it runs (R56, R71,
R72), its unit (R20, R63), an aborted entry (R71), the words that do not decode (R110, R586). -/

namespace Sys2Proof.Machine

/-- An entry of the running image in the tier of the passage (R60). -/
def State.entryAt (s : State) (k i : Nat) : Option Entry := (s.image.seg s.tt.tier k).entries[i]?

/-- UNIT of an entry as `OVR_WHERE` and `GATE_WHERE` give it (R63, R85). -/
def Entry.unitCode (e : Entry) : Nat := if e.kind = 1 then e.op1.toNat else 0xF

/-- The identity of a unit of an island (R526): an engine, a DSP unit, a cluster sequencer, a fabric channel. -/
def islandUnit (k unit : Nat) : Nat :=
  if 0x10 ≤ k then 0xE000 + k
  else if unit < 4 then 4 * k + unit
  else if unit = 4 then 0x1000 + k
  else 0x5000 + k

/-- The marker of a MOVE, if it names one (R63). -/
def Entry.marker (e : Entry) : Option Nat :=
  if e.kind = 2 ∧ e.op3.bits 24 8 ≠ 0xFF then some (e.op3.bits 24 8) else none

/-- Whether an entry's island is held in reset after a cluster fault (R21). -/
def State.islandHeld (s : State) (k : Nat) : Bool := decide (k < 16) && s.faults.held.contains k

/-- The unit that an entry occupies, as the books of R71 keep it: an engine or DSP unit by its UNIT, the sequencer of a cluster as
15, and 16 plus the channel for an entry on a fabric or a link, each channel being a unit of its own (R24); a fabric's GATE
counts with the entry after it. -/
def State.entryUnit (s : State) (k i : Nat) (e : Entry) : Nat :=
  let channel (x : Entry) : Nat := if x.kind = 2 then x.op2.bits 30 2 else x.op1.bits 0 2
  if e.kind = 1 then e.op1.toNat
  else if k < 0x10 then 15
  else if e.kind = 3 then match s.entryAt k (i + 1) with
    | some n => 16 + channel n
    | none => 16
  else 16 + channel e

/-- Whether an entry starts in this passage: the machine runs a timetable, the entry's rate and phase fit (R56), it was not
skipped (R72), its unit runs on (R71), its cluster is neither held in reset (R21) nor gated in the tier (R53), and it has not
started. -/
def State.entryRuns (s : State) (k i : Nat) (e : Entry) : Bool :=
  s.tt.clockOn && e.active s.tt.passage.toNat && !s.tt.skipped.contains (k, i) &&
    !s.tt.stopped.contains (k, s.entryUnit k i e) && !s.tt.started.contains (k, i) && !s.islandHeld k &&
    decide (0 < (s.image.seg s.tt.tier k).div)

/-- The place that a WHERE register holds (R85). -/
def whereWord (k unit tier i : Nat) : Word :=
  BitVec.ofNat 32 (k % 256 * 2 ^ 24 + unit % 16 * 2 ^ 20 + tier % 4 * 2 ^ 18 + i % 65536)

/-- The instances whose records an entry produces: its axis instance (R63). -/
def Entry.instances (e : Entry) : List Nat := if e.kind = 1 ∧ e.op2.toNat < 512 then [e.op2.toNat] else []

/-- The output records of an aborted or skipped entry: carried out as before, their age raised by one (R71). -/
def State.ageOutputs (s : State) (e : Entry) : State :=
  { s with tt := { s.tt with aged := s.tt.aged ++ e.instances } }

/-- A pair joined to a list without repeats. -/
def addPair (p : Nat × Nat) (l : List (Nat × Nat)) : List (Nat × Nat) := if l.contains p then l else l ++ [p]

/-- The books of an overrun, or of an entry treated as one (R71, R110, R374): aborted, counted, and its unit stopped for the
passage. -/
def State.abortBooks (s : State) (k i : Nat) : State :=
  match s.entryAt k i with
  | none => s
  | some e =>
    let t := s.tt
    { s with tt := { t with
      openEntries := t.openEntries.filter (· != (k, i))
      stopped := addPair (k, s.entryUnit k i e) t.stopped
      ovrCount := satAdd 0xFFFF t.ovrCount 1
      ovrFlag := true
      ovrWhere := if t.ovrFlag then t.ovrWhere else whereWord k e.unitCode t.tier i
      aged := t.aged ++ e.instances } }

/-- An overrun, or an entry treated as one: its books, and its unit faulted with `kind` (R71, R374). -/
def State.abortEntry (s : State) (k i kind : Nat) : State :=
  match s.entryAt k i with
  | none => s
  | some e => (s.abortBooks k i).unitFault kind (islandUnit k e.unitCode)

/-- The open RUN entry of a unit of a cluster, if there is one. -/
def State.openRun (s : State) (k unit : Nat) : Option Nat :=
  (s.tt.openEntries.find? (fun p => p.1 == k && (match s.entryAt k p.2 with
    | some e => e.kind == 1 && e.op1.toNat == unit
    | none => false))).map (·.2)

/-- A T unit that executes no further instruction in the passage (R374): its open RUN is treated as an overrun, and the unit
is faulted with `kind`. -/
def State.stopUnit (s : State) (u kind : Nat) : State :=
  let k := if u < 64 then u / 4 else u - 64
  let unit := if u < 64 then u % 4 else 4
  match s.openRun k unit with
  | some i => s.abortEntry k i kind
  | none =>
    let t := s.unitFault kind (unitIdentity u)
    { t with tt := { t.tt with stopped := addPair (k, unit) t.tt.stopped } }

/-- Whether a T unit is stopped for the rest of the passage (R71, R374). -/
def State.unitStopped (s : State) (u : Nat) : Bool :=
  s.tt.stopped.contains (if u < 64 then (u / 4, u % 4) else (u - 64, 4)) || s.islandHeld (if u < 64 then u / 4 else u - 64)

/-! ### Words that do not decode (R109, R110) -/

/-- The port code of a memory (R64, R532); none where there is none. -/
def memoryPort (a : Nat) : Option Nat :=
  if a < 0x01000000 then some (0x40 + a / 0x40000)
  else if a < 0x02000000 then some (0x80 + (a - 0x01000000) / 0x100000)
  else if a < 0x02800000 then some (0xA0 + (a - 0x02000000) / 0x200000)
  else if 0x03000000 ≤ a ∧ a < 0x03800000 then some 0xA4
  else none

/-- One corrected word counted: in DIAG (R447), at its memory's port, and where its reader counts corrections (R531). -/
def State.correctOne (s : State) (reader : Option (Nat × Nat)) (w : Nat) : State :=
  let s1 := { s with rope := { s.rope with diagCorr := satAdd 255 s.rope.diagCorr 1 } }
  let s2 := match memoryPort w with
    | some p => s1.count 0x0701 p 1
    | none => s1
  match reader with
  | some e => s2.count e.1 e.2 1
  | none => s2

/-- A read of words by a reader (R20, R109): each word that the decoder corrects is counted once, and nothing is written
back. -/
def State.correct (s : State) (reader : Option (Nat × Nat)) (ws : List Nat) : State :=
  if s.wrong.isEmpty then s
  else (ws.filter (fun w => s.wrongAt w != 0 && !s.bad.contains w)).foldl (fun s w => s.correctOne reader w) s

/-- A word carried over die links and corrected at the receiving end of the first (R34), where it is counted; `links` gives the
link-and-direction units of R531 on its way. Over no link, its memory's port counts it. -/
def State.correctMove (s : State) (links : List Nat) (w : Nat) : State :=
  if s.wrongAt w = 0 ∨ s.bad.contains w = true then s
  else match links with
    | [] => s.correctOne none w
    | l :: _ => ({ s with rope := { s.rope with diagCorr := satAdd 255 s.rope.diagCorr 1 } }).count 0x0601 l 1

/-- The ring of a ring-buffer address (R64). -/
def ringOfAddr (a : Nat) : Nat := (a - 0x03400000) / 0x80000

/-- The first read that finds a ring-buffer word uncorrectable raises the fault of the ring's port (R586): the identity's port
is P0, since the rule names one port of the ring (log 13). -/
def State.ringWordSeen (s : State) (w : Nat) : State :=
  if s.badSeen.contains w then s
  else { (s.unitFault 1 (0x3000 + 2 * ringOfAddr w)) with badSeen := w :: s.badSeen }

/-- Reads of ring-buffer words by any reader (R586). -/
def State.seeRingWords (s : State) (ws : List Nat) : State :=
  (ws.filter (fun w => inRings w && s.bad.contains w)).foldl (fun s w => s.ringWordSeen w) s

end Sys2Proof.Machine
end

