-- ==== Sys2Proof/Machine/SafeOps.lean ====
section
/-! DEFINITION. The safety island's evaluation (R475-R485): its inputs, functions, outputs and brakes, what it holds an instance
for, and the containers that it sends and accepts (R277, R481, R482). A sample is taken every 10 µs, so 100 samples make a
millisecond (R476). -/

namespace Sys2Proof.Machine

def Safe.setSin (x : Safe) (k : Nat) (v : Sin) : Safe := { x with sins := Tab.put {} x.sins k v }
def Safe.setFn (x : Safe) (f : Nat) (v : Fn) : Safe := { x with fns := Tab.put {} x.fns f v }
def Safe.setSout (x : Safe) (j : Nat) (v : Sout) : Safe := { x with souts := Tab.put {} x.souts j v }
def Safe.setBrk (x : Safe) (b : Nat) (v : Brk) : Safe := { x with brks := Tab.put {} x.brks b v }
def Safe.setNode (x : Safe) (r n : Nat) (v : SNode) : Safe := { x with nodes := Tab.put {} x.nodes (64 * r + n - 1) v }

/-- A fault of an input, output, brake or node counted (R493). -/
def Safe.addFault (x : Safe) : Safe := { x with faults := satAdd 0xFFFF x.faults 1 }

/-! ### Inputs (R475-R477) -/

/-- The record that an input follows: its own, or for the odd input of a pair that of its even partner (R488). -/
def pairBase (t : Tab Byte) (k : Nat) : Nat := if k % 2 = 1 ∧ (sinRule t (k - 1)).mode = 2 then k - 1 else k

/-- Whether an input is one contact of a pair. -/
def inPair (t : Tab Byte) (k : Nat) : Bool := (sinRule t (pairBase t k)).mode == 2

/-- One raw sample of an input (R476): its filtered level, how long it has been closed, and a low sample during an off-pulse of
its test source (R477). -/
def Sin.sample (s : Sin) (filt : Nat) (raw pulse : Bool) : Sin :=
  let flip := raw != s.level && decide (10 * filt ≤ s.run + 1)
  let level := if flip then raw else s.level
  let lows := if raw || s.formed then 0 else s.lows + 1
  { s with level := level, formed := s.formed || flip || (!raw && decide (10 * filt ≤ lows)), lows := lows
           run := if raw == s.level || flip then 0 else s.run + 1
           closed := if level then satAdd 1000000 s.closed 1 else 0
           low := s.low || (!raw && pulse) }

/-- A single GUARD input is tested once its level, formed since PORn, has been open (R477). -/
def Sin.test (s : Sin) (guard : Bool) : Sin := { s with tested := s.tested || (guard && s.formed && !s.level) }

/-- A pair after a sample (R477): how long its contacts have differed, its start-up test, and the end of a discrepancy fault
once both contacts have been seen open together and then closed together. -/
def pairStep (guard : Bool) (a b : Sin) : Sin × Sin :=
  let open' := !a.level && !b.level
  let shut := a.level && b.level
  let bothOpen := a.fault && !a.byPulse && (a.bothOpen || open')
  let clear := a.fault && !a.byPulse && a.bothOpen && shut
  let tested := a.tested || (guard && open' && a.formed && b.formed)
  ({ a with differ := if a.level != b.level then a.differ + 1 else 0, bothOpen := bothOpen && !clear
            fault := a.fault && !clear, tested := tested },
   { b with fault := b.fault && (!clear || b.byPulse), tested := tested })

/-- Whether the output that tests an input is in its off-pulse (R477, R483). -/
def Safe.pulsing (x : Safe) (source : Nat) : Bool := decide (source < 8) && (x.sout source).pulse

/-- Every input sampled (R476, R477); `raw` holds the levels of the SIN balls. -/
def Safe.sampleInputs (x : Safe) (t : Tab Byte) (raw : Nat) : Safe :=
  let one (x : Safe) (k : Nat) : Safe :=
    let r := sinRule t (pairBase t k)
    let v := (x.sin k).sample r.filt (raw.testBit k) (x.pulsing r.source)
    x.setSin k (if inPair t k then v else v.test r.guard)
  let pair (x : Safe) (j : Nat) : Safe :=
    let k := 2 * j
    if inPair t k then
      let z := pairStep (sinRule t k).guard (x.sin k) (x.sin (k + 1))
      (x.setSin k z.1).setSin (k + 1) z.2
    else x
  (List.range 8).foldl pair ((List.range 16).foldl one x)

/-- An input is open (R475, R477): its level, its partner's in a pair, or a latched input fault. -/
def Safe.isOpen (x : Safe) (t : Tab Byte) (k : Nat) : Bool :=
  let one (j : Nat) : Bool := !(x.sin j).level || (x.sin j).fault
  if inPair t k then one (pairBase t k) || one (pairBase t k + 1) else one k

/-- A GUARD input that has not passed its start-up test (R477). -/
def Safe.untested (x : Safe) (t : Tab Byte) (k : Nat) : Bool := (sinRule t (pairBase t k)).guard && !(x.sin k).tested

/-- An input fault latched (R477, R493). -/
def Safe.sinFault (x : Safe) (k : Nat) (byPulse : Bool) : Safe :=
  let v := x.sin k
  if v.fault then x.setSin k { v with passes := 0 }
  else (x.setSin k { v with fault := true, byPulse := byPulse, passes := 0, bothOpen := false }).addFault

/-! ### Functions (R478, R480) -/

/-- Whether inputs demand a function: an open input, an untested GUARD input, or a failed output that it names (R478, R483). -/
def Safe.inputDemand (x : Safe) (t : Tab Byte) (f : Nat) : Bool :=
  let r := fnRule t f
  (List.range 16).any (fun k => r.sins.testBit k && (x.isOpen t k || x.untested t k)) ||
    (List.range 8).any (fun j => r.souts.testBit j && (x.sout j).fault)

/-- Whether an SS1 function's quick stop still runs, its time not having passed (R478). -/
def Safe.quick (x : Safe) (t : Tab Byte) (f : Nat) : Bool := (fnRule t f).kind == 2 && !(x.fn f).expired

/-- Whether a function acts with safe torque off on its targets (R478). -/
def Safe.acts (x : Safe) (t : Tab Byte) (f : Nat) : Bool := (x.fn f).demand && (fnRule t f).kind != 0 && !x.quick t f

/-- Every function demanded, as outside RUN (R470): each then awaits its release by R480; a latched host demand stays (R490). -/
def Safe.demandAll (x : Safe) : Safe :=
  { x with fns := (x.fns.filter (fun p => p.2.host)).map (fun p => (p.1, { host := true })) }

/-- A function released (R480). -/
def Fn.release (_ : Fn) : Fn := { demand := false, wait := false, host := false, expired := false, ran := 0 }

/-- One function in an evaluation cycle (R478, R480); `pressed` says that its reset button was released after a press of 100 ms
to 5 s. -/
def Safe.evalFn (x : Safe) (t : Tab Byte) (pressed : Bool) (f : Nat) : Safe :=
  let r := fnRule t f
  let v := x.fn f
  if r.kind = 0 then x.setFn f v.release
  else
    let inputs := x.inputDemand t f
    if inputs || v.host && !pressed then
      let x1 := x.setFn f { v with demand := true, wait := !inputs }
      if v.demand then x1
      else { x1 with demands := satAdd 0xFFFF x1.demands 1
                     bt := if x1.bt.step = .none then x1.bt else { x1.bt with ending := 4 } }
    else if !v.demand then x
    else if r.reset = 2 ∨ pressed then x.setFn f v.release
    else x.setFn f { v with wait := true }

/-- Whether the reset button of a function has just been released after 100 ms to 5 s (R480): `old` is the island before the
sample. -/
def resetPressed (old x : Safe) (t : Tab Byte) (f : Nat) : Bool :=
  let k := (fnRule t f).resetSin
  decide (k < 16) && (old.sin k).level && !(x.sin k).level && decide (10000 ≤ (old.sin k).closed) &&
    decide ((old.sin k).closed ≤ 500000)

/-- The samples for which a function has been demanded, counted (R478). -/
def Safe.countRan (x old : Safe) (f : Nat) : Safe :=
  let v := x.fn f
  x.setFn f { v with ran := if v.demand && (old.fn f).demand then satAdd 1000000 v.ran 1 else 0 }

/-- Every function evaluated, in RUN (R470, R478). -/
def Safe.evaluate (x : Safe) (old : Safe) : Safe :=
  if x.state ≠ 2 then x
  else (List.range 32).foldl (fun y f => (y.evalFn x.rules (resetPressed old x x.rules f) f).countRan old f) x

/-! ### Outputs and brakes (R483, R484, R486) -/

/-- Whether the part's phase and role let the island drive its outputs (R36, R486): in RUN, and not in NONE, STANDBY, OUT and
CFG_FAULT. -/
def State.safeDrives (s : State) : Bool :=
  s.host.phase == .run && !(s.rope.role == 0 || s.rope.role == 5 || s.rope.role == 6 || s.rope.role == 15)

/-- Whether SOUT `j` is to be on: the island runs, the output is used and sound, and no function that names it acts. -/
def State.soutWanted (s : State) (j : Nat) : Bool :=
  let x := s.safe
  x.state == 2 && s.safeDrives && (soutRule x.rules j).used && !(x.sout j).fault &&
    !(List.range 32).any (fun f => x.acts x.rules f && (fnRule x.rules f).souts.testBit j)

/-- Whether a function's record covers a node (R478). -/
def covers (r : FnRule) (ring n : Nat) : Bool :=
  r.kind != 0 && r.rings.testBit ring && decide (r.first ≤ n) && decide (n ≤ r.last)

/-- Whether a node with STO_FAIL has its brakes applied through a channel: a function that covers the node names it (R482). -/
def Safe.stoFailed (x : Safe) (b : Nat) : Bool := (List.range 32).any (fun f =>
  let r := fnRule x.rules f
  r.brks.testBit b && x.nodes.any (fun p => p.2.stoFail && covers r (p.1 / 64) (p.1 % 64 + 1)))

/-- Whether BRK `b` is to be energised (R482, R484, R485). -/
def State.brkWanted (s : State) (b : Nat) : Bool :=
  let x := s.safe
  let r := brkRule x.rules b
  let a := s.axis r.inst
  x.state == 2 && s.safeDrives && r.used && !(x.brk b).fault && !x.stoFailed b &&
    !(List.range 32).any (fun f => x.acts x.rules f && (fnRule x.rules f).brks.testBit b) &&
    a.st.enabled && decide (a.st ≠ .sto) && !(x.bt.step != .none && x.bt.channel == b)

/-- Outputs and brakes switched; a switch-off starts the wait for its readback (R483). -/
def State.switchOutputs (s : State) : State :=
  let s := (List.range 8).foldl (fun s j =>
    let v := s.safe.sout j
    let w := s.soutWanted j
    if v.on == w then s
    else { s with safe := s.safe.setSout j { v with on := w, pulse := v.pulse && w, offAge := if w then none else some 0 } }) s
  (List.range 8).foldl (fun s b =>
    let v := s.safe.brk b
    let w := s.brkWanted b
    if v.on == w then s
    else { s with safe := s.safe.setBrk b { v with on := w, offAge := if w then none else some 0 } }) s

/-- An output fault (R483): the output stays off. -/
def Safe.soutFault (x : Safe) (j : Nat) : Safe :=
  let v := x.sout j
  if v.fault then x else (x.setSout j { v with fault := true, on := false, pulse := false, offAge := none }).addFault

/-- A brake fault (R484). -/
def Safe.brkFault (x : Safe) (b : Nat) : Safe :=
  let v := x.brk b
  if v.fault then x else (x.setBrk b { v with fault := true, on := false, offAge := none }).addFault

/-- The readback of a sample (R483): the balls' levels, and a switch-off whose ball is not low within 500 µs. -/
def Safe.readback (x : Safe) (souts brks : Nat) : Safe :=
  let x := (List.range 8).foldl (fun x j =>
    let v := x.sout j
    let up := souts.testBit j
    match v.offAge with
    | none => x.setSout j { v with ball := up }
    | some n =>
      if !up then x.setSout j { v with ball := up, offAge := none }
      else if 50 ≤ n + 1 then (x.setSout j { v with ball := up }).soutFault j
      else x.setSout j { v with ball := up, offAge := some (n + 1) }) x
  (List.range 8).foldl (fun x b =>
    let v := x.brk b
    let up := brks.testBit b
    match v.offAge with
    | none => x.setBrk b { v with ball := up }
    | some n =>
      if !up then x.setBrk b { v with ball := up, offAge := none }
      else if 50 ≤ n + 1 then (x.setBrk b { v with ball := up }).brkFault b
      else x.setBrk b { v with ball := up, offAge := some (n + 1) }) x

/-- The current check of the brakes whose current the sample gives, in mA (R484; log 28). -/
def Safe.currentCheck (x : Safe) (t : Tab Byte) (currents : List Nat) : Safe :=
  (List.range (min 8 currents.length)).foldl (fun x b =>
    let r := brkRule t b
    let i := nthD 0 currents b
    let bad := if (x.brk b).on then decide (i < r.iMin ∨ r.iMax < i) else decide (10 < i)
    if r.used && bad then x.brkFault b else x) x

/-- One sample and evaluation of the island (R476): inputs, functions, readbacks, brake currents, outputs. -/
def State.safetySample (s : State) (sins souts brks : Nat) (currents : List Nat) : State :=
  if s.safe.state = 0 then s
  else
    let t := s.safe.rules
    let old := s.safe
    let x := (old.sampleInputs t sins).readback souts brks
    let x := (x.currentCheck t currents).evaluate old
    let x := { x with bt := { x.bt with ran := satAdd 10000000 x.bt.ran 1 } }
    ({ s with safe := x }).switchOutputs

/-! ### What the island holds an instance for (R479) -/

/-- The instances on a node. -/
def State.onNode (s : State) (r n : Nat) : List Nat := s.instances.filter (fun i => s.ringOf i == r && s.nodeOf i == n)

/-- Whether a brake channel with a fault, or one that has failed its test, belongs to an instance. -/
def Safe.brakeHolds (x : Safe) (i : Nat) (disabled : Bool) : Bool :=
  (List.range 8).any (fun b => (brkRule x.rules b).used && (brkRule x.rules b).inst == i &&
    ((x.brk b).fault || ((x.brk b).btFail && disabled)))

/-- Whether a safety cause other than its own STO holds an instance (R470, R479, R484, R485). -/
def State.safetyHolds (s : State) (i : Nat) : Bool :=
  let x := s.safe
  let ring := s.ringOf i
  let n := s.nodeOf i
  x.state != 2 || (x.node ring n).lost || x.brakeHolds i ((s.axis i).st == .disabled) ||
    (s.onNode ring n).any (fun j => s.faults.clusters.contains (s.clusterOf j)) ||
    (List.range 32).any (fun f => (x.fn f).demand && covers (fnRule x.rules f) ring n)

/-- The reaction that the island asks of an instance for the passage that begins (R478, R479): STO, or the quick stop of an
SS1. -/
def State.safetyReact (s : State) (i : Nat) : Option Nat :=
  let x := s.safe
  let ring := s.ringOf i
  let n := s.nodeOf i
  let hit (p : Nat → Bool) : Bool := (List.range 32).any (fun f => covers (fnRule x.rules f) ring n && p f)
  if x.state ≠ 2 ∨ (x.node ring n).lost ∨ x.brakeHolds i false ∨ hit (x.acts x.rules) then some 3
  else if hit (fun f => (x.fn f).demand) then some 2
  else none

/-- The reactions of the island raised at a passage start, with CAUSE 0 (R479), and the step channels that demanded functions
stop (R478). -/
def State.safetyReactions (s : State) : State :=
  let s := s.instances.foldl (fun s i =>
    if !(s.axis i).st.enabled then s
    else match s.safetyReact i with
      | some r => if r = 3 ∧ (s.axis i).st = .sto then s
        else if r = 2 ∧ (decide ((s.axis i).st = .qstop) || decide ((s.axis i).st = .sto)) then s
        else s.raise i ⟨r, 0⟩
      | none => s) s
  (List.range 16).foldl (fun s c =>
    let g := s.gen (512 + c)
    let busy := (s.chan c).rate != 0 || (s.chan c).rateNext.getD 0 != 0 || !g.moves.isEmpty || g.gst == .run || g.gst == .stop ||
      g.gst == .home
    if busy && (List.range 32).any (fun f => (s.safe.fn f).demand &&
        (fnRule s.safe.rules f).kind != 0 && (fnRule s.safe.rules f).steps.testBit c) then (cmdMvHstop (512 + c) s).2
    else s) s

/-- Whether a demanded function names a step channel (R478); outside RUN every function is demanded (R470). -/
def State.safetyBlocks (s : State) (c : Nat) : Bool :=
  (List.range 32).any (fun f => (s.safe.fn f).demand && (fnRule s.safe.rules f).kind != 0 &&
    (fnRule s.safe.rules f).steps.testBit c)

/-! ### Containers (R277, R481, R482) -/

/-- The RUN bit of a node (R470, R479): a cluster fault covers an instance once R21 acts on it, in the passage after it was flagged and
in the part that R21 has stop. -/
def State.nodeRun (s : State) (r n : Nat) : Bool :=
  let x := s.safe
  x.state == 2 && !(x.node r n).lost &&
    !(List.range 32).any (fun f => x.acts x.rules f && covers (fnRule x.rules f) r n) &&
    (s.onNode r n).all (fun i => decide ((s.axis i).st ≠ .sto) && !x.brakeHolds i ((s.axis i).st == .disabled) &&
      !s.faults.held.contains (s.clusterOf i))

/-- The lowest-numbered demanded function that covers a node, or 0xFF (R481). -/
def State.coveringFn (s : State) (r n : Nat) : Nat :=
  ((List.range 32).find? (fun f => (s.safe.fn f).demand && covers (fnRule s.safe.rules f) r n)).getD 0xFF

/-- Whether the island holds a set to key containers with (R481). -/
def Safe.keyed (x : Safe) : Bool := match x.state with
  | 0 => false
  | 1 => x.awaiting.isSome
  | _ => x.confirmed.isSome

/-- A container's 8 bytes (R277). -/
def container (key sdata seq r n : Nat) : List Byte :=
  let head := bytesLE 2 sdata ++ [BitVec.ofNat 8 seq, BitVec.ofNat 8 (64 * r + (n - 1))]
  head ++ bytesLE 4 (crcSafe (BitVec.ofNat 32 key) head).toNat

/-- The downstream container of a node in a passage (R481); zeros while the island holds no key. BRAKE follows RUN for a node
with an enabled instance that is not in STO (log 27). -/
def State.downContainer (s : State) (r n : Nat) : List Byte :=
  if !s.safe.keyed then bytesLE 8 0
  else
    let run := s.nodeRun r n
    let brake := run && (s.onNode r n).any (fun i => (s.axis i).st.enabled)
    let ss1 := s.safe.state == 2 && (List.range 32).any (fun f => (s.safe.fn f).demand && s.safe.quick s.safe.rules f &&
      covers (fnRule s.safe.rules f) r n)
    container (setKey s.safe.rules r n)
      (bitNat run + 2 * bitNat brake + 4 * bitNat ss1 + 256 * s.coveringFn r n) (s.tt.passage.toNat % 256) r n

/-- Whether the island watches a node: it holds a key, the ring has the node, and a function covers it (R481, R482). -/
def State.watches (s : State) (r n : Nat) : Bool :=
  s.safe.keyed && decide (1 ≤ n) && decide (n ≤ nthD 0 s.image.nodes r) &&
    (List.range 32).any (fun f => covers (fnRule s.safe.rules f) r n)

/-- Whether an upstream container is accepted (R482). -/
def State.upOk (s : State) (r n : Nat) (c : List Byte) : Bool :=
  let t := s.safe.rules
  let seq := (nthD 0 c 2).toNat
  fieldLE c 4 4 == (crcSafe (BitVec.ofNat 32 (setKey t r n)) (c.take 4)).toNat &&
    nthD 0 c 3 == BitVec.ofNat 8 (64 * r + (n - 1)) &&
    (match (s.safe.node r n).sseq with
     | none => true
     | some last => decide (1 ≤ (seq + 256 - last) % 256) && decide ((seq + 256 - last) % 256 ≤ setSwd t))

/-- A node's upstream container of a passage, or its absence (R266, R277, R482): the latch of a loss and STO_FAIL are raised by
their own events. -/
def State.upContainer (s : State) (r n : Nat) (c : Option (List Byte)) : State :=
  if !s.watches r n then s
  else
    let x := s.safe
    let v := x.node r n
    let ok := match c with
      | some b => s.upOk r n b
      | none => false
    match ok, c with
    | true, some b =>
      let d := nthD 0 b 0
      let sto := d.getLsbD 0
      { s with safe := x.setNode r n { v with
          sseq := some (nthD 0 b 2).toNat, misses := 0, stoOn := sto, brakeApplied := d.getLsbD 1, nodeFault := d.getLsbD 2
          lost := v.lost && !sto, stoFail := v.stoFail && !sto, stoWait := if v.run || sto then 0 else v.stoWait + 1 } }
    | _, _ =>
      let x := if c.isSome then { x with contErr := satAdd 0xFFFF x.contErr 1 } else x
      { s with safe := x.setNode r n { v with misses := v.misses + 1, stoWait := if v.run then 0 else v.stoWait + 1 } }

/-! ### Sets (R488, R489) -/

/-- CRC-32 of R489 over a set, with CONFIRM read as 0. -/
def checkValue (t : Tab Byte) : Word :=
  let bs := (List.range 0x760).map (fun k => if 8 ≤ k ∧ k < 12 then 0 else Tab.get 0 t k)
  crcBytes 0xEDB88320#32 bs 0xFFFFFFFF#32 ^^^ 0xFFFFFFFF#32

/-- Whether bytes of a set are all 0. -/
def zeroField (t : Tab Byte) (o n : Nat) : Bool := (List.range n).all (fun k => Tab.get 0 t (o + k) == 0)

/-- Whether every field of a set lies within R488, R474 and R480; `ns` is the passage period. -/
def setInRange (t : Tab Byte) (ns : Nat) : Bool :=
  let level := setLevel t
  let sinOk (k : Nat) : Bool :=
    let o := 0x20 + 8 * k
    let r := sinRule t k
    if k % 2 = 1 ∧ (sinRule t (k - 1)).mode = 2 then true
    else
      (r.mode == 0 || (decide (5 ≤ r.filt ∧ r.filt ≤ 200) && (r.mode == 1 || (r.mode == 2 && decide (k % 2 = 0) &&
        decide (1 ≤ r.disc ∧ r.disc ≤ 1000))))) &&
        (decide (r.source < 8) || r.source == 0xFF || r.mode == 0) && decide (setField t (o + 5) 1 ≤ 1) && zeroField t (o + 6) 2
  let soutOk (j : Nat) : Bool :=
    let o := 0xA0 + 8 * j
    decide (setField t o 1 ≤ 1) && zeroField t (o + 3) 5 &&
      (setField t o 1 == 0 || (decide (10 ≤ setField t (o + 1) 1 ∧ setField t (o + 1) 1 ≤ 30) && decide (setField t (o + 2) 1 ≤ 19)))
  let brkOk (b : Nat) : Bool :=
    let o := 0xE0 + 16 * b
    let r := brkRule t b
    decide (setField t o 1 ≤ 1) && zeroField t (o + 3) 1 &&
      (setField t o 1 == 0 || (decide (r.inst < 512) && decide (10 ≤ r.btSettle) && decide (r.btDir ≤ 2)))
  let fnOk (f : Nat) : Bool :=
    let o := 0x160 + 16 * f
    let r := fnRule t f
    decide (r.kind ≤ 2) && zeroField t (o + 14) 2 &&
      (r.kind == 0 || (decide (r.reset ≤ 2) && !(r.reset == 2 && level == 0) && decide (r.ss1 ≤ 10000) &&
        decide (setField t (o + 8) 1 < 16) && (decide (r.resetSin < 16) || r.resetSin == 0xFF)))
  (List.range 4).all (fun k => Tab.get 0 t k == nthD 0 [0x53#8, 0x41#8, 0x46#8, 0x50#8] k) &&
    setField t 4 2 == 1 && decide (setField t 0x0C 1 ≤ 1) && decide (1 ≤ setSwd t ∧ setSwd t ≤ 15) && zeroField t 0x0E 18 &&
    decide ((setSwd t + 1) * ns ≤ 4000000) &&
    (List.range 16).all sinOk && (List.range 8).all soutOk && (List.range 8).all brkOk && (List.range 32).all fnOk

/-- The bytes of a set as a table. -/
def setOfBytes (bs : List Byte) : Tab Byte :=
  ((List.range bs.length).filter (fun k => nthD 0 bs k != 0)).map (fun k => (k, nthD 0 bs k))

end Sys2Proof.Machine
end

