-- ==== Sys2Proof/Machine/RingSend.lean ====
section
/-! DEFINITION. The release of a ring's downstream records (R47-R49, R267, R276, R586): which half each record takes, its age,
its container, and the frames that a head sends. -/

namespace Sys2Proof.Machine

/-- The instance in a slot of a node (R59): of two on one node, the lower-numbered one has slot 0. -/
def State.slotInst (s : State) (r n slot : Nat) : Option Nat := (s.onNode r n)[slot]?

/-- Whether a MOVE entry writes the 256-bit word at an address (R63). -/
def Entry.writes (e : Entry) (a : Nat) : Bool :=
  e.kind == 2 && (List.range (e.op2.bits 16 5)).any (fun j =>
    decide (e.op1.toNat + 32 * e.op4.bits 0 16 * j ≤ a) &&
    decide (a < e.op1.toNat + 32 * e.op4.bits 0 16 * j + 32 * e.op2.bits 0 13))

/-- The entries of a tier, every island's. -/
def Image.tierEntries (im : Image) (t : Nat) : List Entry := (nthD [] im.tiers t).flatMap (·.entries)

/-- Whether a word of a release source comes from its new half (R49): one of the release's markers is that of a MOVE that
writes the word, and it is set. A word that no MOVE with one of the release's markers writes comes from the previous half, so that
the release counts as stale (DESIGN CHOICE, log 107). -/
def State.handedOver (s : State) (rel : Release) (a : Nat) : Bool :=
  (s.image.tierEntries s.tt.tier).any (fun e => e.writes a && (match e.marker with
    | some m => decide (rel.marker ≤ m) && decide (m < rel.marker + rel.markers) && s.tt.markers.contains m
    | none => false))

/-- The release record of a target (R65). -/
def State.relOf (s : State) (target : Nat) : Option Release := s.image.rel.find? (fun r => r.target == target)

/-- A release counted as stale (R49, R86). -/
def State.countStale (s : State) (target : Nat) : State :=
  let t := s.tt
  { s with tt := { t with staleCount := satAdd 0xFFFF t.staleCount 1, staleFlag := true
                          staleTarget := target } }.count 0x0902 0 1

/-- A half of a downstream record's word: R280 places a ring's release source, and the model reads it there whatever SOURCE and
WORDS the release record gives (DESIGN CHOICE, log 120). -/
def halfAddr (r e : Nat) (one : Bool) : Nat := ringBase r + (if one then 0x3000 else 0x2000) + 32 * e

/-- What a release makes of one record (R49, R586): its bytes 4-35, its age, whether it came from half 1 and whether from a
previous half. -/
structure Picked where
  payload : List Byte
  age : Nat
  one : Bool
  stale : Bool
  deriving DecidableEq, Repr

/-- The choice of a record's half and age (R49, R71, R177, R586). -/
def State.pickRecord (s : State) (r e i : Nat) (rel : Release) : Picked :=
  let x := s.ring r
  let was := x.halfOne.contains e
  let fresh := s.handedOver rel (halfAddr r e false)
  let one := if fresh then !was else was
  let old := Tab.get 0 x.recAge e
  let bad1 := s.undecodable (halfAddr r e one)
  let bad2 := s.undecodable (halfAddr r e (!one))
  if bad1 && bad2 then ⟨bytesLE 32 0, 15, one, true⟩
  else
    let from' := if bad1 then !one else one
    let raised := !fresh || bad1 || s.tt.aged.contains i || decide ((s.axis i).st = .faulted)
    ⟨s.mem.bytes (halfAddr r e from') 32, if raised then satAdd 15 old 1 else 0, one, !fresh || bad1⟩

/-- One downstream record released (R267): the record of 52 bytes. Its half is read, and the other one where that word does not decode
(R586). -/
def State.releaseOne (s : State) (r n slot : Nat) (rel : Release) : State :=
  let x := s.ring r
  let node := x.node n
  let e := (n - 1) * perNode s.image.period + slot
  let safe := if slot = 0 then s.downContainer r n else bytesLE 8 0
  match s.slotInst r n slot with
  | none =>
    s.setRing r { x with records := x.records ++ [recordBytes n 0 slot 0 node.lock node.aslot (bytesLE 32 0) safe node.granted] }
  | some i =>
    let p := s.pickRecord r e i rel
    let first := wordOf (halfAddr r e p.one)
    let s := s.seeRingWords (if s.bad.contains first then [first, wordOf (halfAddr r e (!p.one))] else [first])
    let x := s.ring r
    s.setRing r { x with
      records := x.records ++ [recordBytes n p.age slot (s.kindOf i) node.lock node.aslot p.payload safe node.granted]
      recAge := Tab.put 0 x.recAge e p.age
      halfOne := if p.one then addNew e x.halfOne else x.halfOne.filter (· != e) }

/-- Whether a record of the release comes from a previous half (R49): slots without an instance never count. -/
def State.ringStale (s : State) (r : Nat) (rel : Release) : Bool :=
  (List.range (nthD 0 s.image.nodes r)).any (fun j => (List.range (perNode s.image.period)).any (fun slot =>
    match s.slotInst r (j + 1) slot with
    | none => false
    | some i => (s.pickRecord r (j * perNode s.image.period + slot) i rel).stale))

/-- Whether this part heads a ring: in RUN, in role SINGLE or LEAD, with the ring running (R251, R440). -/
def State.heads (s : State) (r : Nat) : Bool := s.drives && (s.ring r).st == .run

/-- A downstream frame on a lane (R267): on X the nodes from the last to the first, on Y from the first to the last. -/
def downFrame (r count : Nat) (passage : Word) (laneY : Bool) (perN : Nat) (recs : List (List Byte)) : List Byte :=
  let n := if perN = 0 then 0 else recs.length / perN
  let order := if laneY then recs
    else (List.range n).flatMap (fun j => (recs.drop (perN * (n - 1 - j))).take perN)
  [0x20#8, BitVec.ofNat 8 (64 * r + 32 * bitNat laneY), BitVec.ofNat 8 count, 0] ++ bytesLE 4 passage.toNat ++ order.flatten

/-- The downstream frames sent on both lanes. -/
def State.sendDown (s : State) (r : Nat) : State :=
  let x := s.ring r
  let f (y : Bool) := downFrame r x.records.length s.tt.passage y (perNode s.image.period) x.records
  s.setRing r { x with txDownX := f false, txDownY := f true }

/-- The head's acyclic frame after its downstream frame, on both lanes (R276): the queue's first, to a node whose latest RXFREE is
above 0. -/
def State.sendAcyclic (s : State) (r : Nat) : State :=
  let x := s.ring r
  match x.txq with
  | [] => s
  | f :: rest =>
    let n := x.node f.node
    if n.rxFree = 0 then s
    else
      let seq := n.downSeq + 1
      let frame (y : Bool) := acyclicBytes r f.node seq.toNat f.proto y f.payload
      s.setRing r { (x.setNode f.node { n with downSeq := seq }) with txq := rest, txAcyclic := frame false, txAcyclicY := frame true }

/-- The release of a ring (R47, R267): its records, the RUN bits sent, a stale release, and a head's frames. -/
def State.releaseRing (s : State) (r : Nat) (rel : Release) : State :=
  let stale := s.ringStale r rel
  let n := nthD 0 s.image.nodes r
  let s := s.setRing r { s.ring r with records := [] }
  let s := (List.range n).foldl (fun s j => (List.range (perNode s.image.period)).foldl (fun s slot =>
    s.releaseOne r (j + 1) slot rel) s) s
  let s := (List.range n).foldl (fun s j =>
    let v := s.safe.node r (j + 1)
    { s with safe := s.safe.setNode r (j + 1) { v with run := s.nodeRun r (j + 1) } }) s
  let s := if stale then s.countStale r else s
  if s.heads r then (s.sendDown r).sendAcyclic r else s

/-- The release of the local rate words (R65, R193, R196): channel `c`'s word lies in word `c * WORDS / 16` of the source
(log 29); a channel whose word comes from the previous half stops. -/
def State.releaseRates (s : State) (rel : Release) : State :=
  let fresh (c : Nat) : Bool := s.handedOver rel (rel.source + 32 * (c * rel.words / 16))
  let stale := (List.range 16).any (fun c => !fresh c)
  let s := (List.range 16).foldl (fun s c =>
    let x := s.chan c
    if !fresh c then s.stopChannel c 3
    else
      let rate := x.rateNext.getD x.rate
      let back := if rate < 0 then true else if 0 < rate then false else x.backward
      s.setChan c { x with q := s.chanPhase c, relAt := s.time.time, rate := rate, rateNext := none
                           backward := back, turned := back != x.backward, pulseAt := s.lastPulse c }) s
  if stale then s.countStale 8 else s

end Sys2Proof.Machine
end

