-- ==== Sys2Proof/Machine/RingRows.lean ====
section
/-! DEFINITION. What a ring's receivers and transmitters do (R250-R280): headers, barges, acyclic frames, pound probes, the
ring-in horizon, lock states, credits and healing. -/

namespace Sys2Proof.Machine

/-! ### Settings and parties -/

/-- POOL, JOIN_COUNT, EDGE_LIMIT and GUARD in use (R284). -/
def State.ringPool (s : State) (r : Nat) : Nat := (s.cfgW (0x40008 + 0x4000 * r)).bits 0 7
def State.joinCount (s : State) (r : Nat) : Nat := (s.cfgW (0x40008 + 0x4000 * r)).bits 8 8
def State.edgeLimit (s : State) (r : Nat) : Nat := (s.cfgW (0x40008 + 0x4000 * r)).bits 16 8
def State.guard (s : State) (r : Nat) : Nat := (s.cfgW (0x40008 + 0x4000 * r)).bits 24 8

/-- The nodes of a ring in use (R58, R265). -/
def State.nNodes (s : State) (r : Nat) : Nat := if r < 4 ∧ s.image.rings.testBit r then nthD 0 s.image.nodes r else 0

/-- Whether a ring is in use (R58). -/
def State.ringInUse (s : State) (r : Nat) : Bool := decide (r < 4) && s.image.rings.testBit r

/-- The part's own HEAD_TAG (R255). -/
def State.ownTag (s : State) : Nat := s.store.ident.serial.toNat % 2 ^ 32

/-- Whether the part belongs to a team by its straps (R2). -/
def State.team (s : State) : Bool := s.rope.strap == 1 || s.rope.strap == 2

/-- Whether a HEAD_TAG is the team peer's: known once a heartbeat has come (R279, R447; log 30). -/
def State.isPeer (s : State) (tag : Nat) : Bool := s.team && s.rope.peer.passage.isSome && s.rope.peerSerial.toNat == tag

/-- Whether a part that receives on a ring looks at frames there: from LISTEN on (R36), not as BELAY or in CFG_FAULT (R437). -/
def State.ringListens (s : State) : Bool :=
  (s.host.phase == .listen || s.host.phase == .run) && s.rope.role != 7 && s.rope.role != 15

/-- Whether the part is a member that repeats (R437). -/
def State.isMember (s : State) : Bool := decide (3 ≤ s.rope.role ∧ s.rope.role ≤ 6)

/-- Every axis instance DISABLED and every local step channel disabled (R445). -/
def State.holdDisabled (s : State) : State :=
  let s1 := s.instances.foldl (fun s i => if (s.axis i).st.enabled then (cmdAxDisable i s).2 else s) s
  (List.range 16).foldl (fun s c => if (s.chan c).enabled then (cmdChEnable false c false s).2 else s) s1

/-- The pin drivers for the part's present role and phase (R36, R306, R309, R443): pins in modes 1 and 2 are driven by a SINGLE or
LEAD part in RUN. -/
def State.driveEvios (s : State) : State :=
  { s with time := { s.time with evios := Tab.onAll {} (fun e =>
      { e with drive := s.drives && (e.mode == 1 || e.mode == 2) }) s.time.evios } }

/-- A role taken (R437): LEADON and the local outputs follow it (R443); a part in STANDBY, OUT, BELAY or CFG_FAULT holds its
instances and channels disabled (R445). -/
def State.takeRole (s : State) (role : Nat) : State :=
  let s1 := { s with rope := { s.rope with role := role, leadon := role == 1 || role == 2 } }
  let s2 := if 5 ≤ role then s1.holdDisabled else s1
  s2.driveEvios.switchOutputs

/-- A configuration fault (R462): the part is silent until PORn. -/
def State.cfgFault (s : State) (code : Nat) : State :=
  if s.rope.role = 15 then s
  else ({ s with rope := { s.rope with cfg := code } }.takeRole 15 |>.ringTx false).logOther originSelf 0x90004 code

/-- TIME brought to an arrival given in tenths of a nanosecond. -/
def State.until (s : State) (arrival : Nat) : State :=
  { s with time := s.time.advance (BitVec.ofNat 64 (arrival / 10)) }

/-- A frame counted at a port (R531). -/
def State.portCount (s : State) (event r port : Nat) : State := s.count event (2 * r + port) 1

/-- A frame that fails CHECK at a receiver (R287). -/
def State.badCheck (s : State) (r port : Nat) : State :=
  (s.setRing r { s.ring r with check := (s.ring r).check + 1 }).portCount 0x0402 r port

/-- The end of a frame on a port's lane (R263): P0 receives Y, P1 receives X (R251). -/
def Ring.frameEnd (x : Ring) (port arrival len : Nat) : Ring :=
  if port = 0 then { x with endY := arrival + frameTenths len } else { x with endX := arrival + frameTenths len }

/-! ### Headers (R255, R256, R269, R279, R458) -/

/-- A hole named by a folded header of the part's own (R269). -/
def State.folded (s : State) (r : Nat) (bs : List Byte) : State :=
  let x := s.ring r
  let members := s.nNodes r + bitNat s.image.team
  let p := holeOf (rlLaneY (nthD 0 bs 1)) (nthD 0 bs 25).toNat members
  s.setRing r { x.addHole p with lastFold := some s.tt.passage }

/-- A valid header has come in on a port in this passage, folded or not (R269). -/
def Ring.headerSeen (x : Ring) (port : Nat) : Ring := if port = 0 then { x with seen0 := true } else { x with seen1 := true }

/-- A valid header of the part's own that has come round (R269, R290, R458): LOOP counts from its DEP_TIME. -/
def State.ownHeader (s : State) (r port arrival : Nat) (bs : List Byte) (cold : Bool) : State :=
  let s := if s.rope.attempt && cold then { s with rope := { s.rope with returned := true } } else s
  if (nthD 0 bs 1).getLsbD 4 then (if cold then s else s.folded r bs)
  else
    let x := s.ring r
    let t := min 0xFFFF (BitVec.ofNat 64 (arrival / 10) - BitVec.ofNat 64 (fieldLE bs 8 8)).toNat
    s.setRing r (if port = 0 then { x with hdr0 := true, own0 := true, loopY := t } else { x with hdr1 := true, own1 := true, loopX := t })

/-- The mean pound delay of a port in ns (R278). -/
def Ring.pound (x : Ring) (port : Nat) : Int := poundMean (if port = 0 then x.pounds0 else x.pounds1)

/-- The plant port's own instants moved with TIME (R315): the interval since an update or a message is none the longer for a step. -/
def Plant.shift (p : Plant) (v : U64) : Plant :=
  { p with lastUpdate := p.lastUpdate.map (· + v), twoStep := p.twoStep.map (fun x => (x.1, x.2 + v))
           delayReq := p.delayReq.map (fun x => (x.1, x.2 + v)), pdelayReq := p.pdelayReq.map (fun x => (x.1, x.2 + v))
           pdelayResp := p.pdelayResp.map (fun x => (x.1, x.2.1, x.2.2 + v)) }

/-- TIME moved by a step (R294, R296), and with it the instants that the model keeps of what has run since: releases and pulses of the
step channels, the plant port's (log 38). -/
def State.shiftTime (s : State) (d : Int) : State :=
  let v := BitVec.ofInt 64 d
  { s with
    time := s.time.step d
    chans := Tab.onAll {} (fun c => { c with relAt := c.relAt + v, pulseAt := c.pulseAt.map (· + v) }) s.chans
    plant := s.plant.shift v }

/-- What a member keeps of a valid unfolded header for its time-error estimate and its D_up (R257). -/
def State.keepHeader (s : State) (r port : Nat) (bs : List Byte) : State :=
  let x := s.ring r
  let d := x.pound port
  let h : HeadRef := {
    ahead := headTime16 bs d - 16 * s.time.raw.toNat
    path := ((fieldLE bs 16 4 : Int) + 16 * d).toNat
    raw := s.time.raw
    passage := BitVec.ofNat 32 (fieldLE bs 4 4) }
  s.setRing r (if port = 0 then { x with ref0 := some h } else { x with ref1 := some h })

/-- A member's clock and numbering locked to a header of its head (R257, R300): TIME is stepped to the head time at the arrival,
rounded half up (R9), and the passage is that of the header (log 31). -/
def State.lockToHead (s : State) (r port : Nat) (bs : List Byte) : State :=
  let dep := BitVec.ofNat 64 (fieldLE bs 8 8)
  let t := BitVec.ofInt 64 (divRound (headTime16 bs ((s.ring r).pound port)) 16)
  let p := s.periodNs
  let off := (dep.toNat + p - (s.cfgW 0x50010).bits 0 20 % p) % p
  let start := if off * 2 < p then dep - BitVec.ofNat 64 off else dep + BitVec.ofNat 64 (p - off)
  let s1 := s.shiftTime (t - s.time.time).toInt
  { s1 with tt := { s1.tt with passage := BitVec.ofNat 32 (fieldLE bs 4 4), start := start } }

/-- A valid header of the peer's at a member (R251, R256, R269, R426, R462): repeated with CORR and HOPS brought up, or turned
back before a dead pound. The residence time is free, at most 48 ns (R260). -/
def State.memberHeader (s : State) (r port : Nat) (bs : List Byte) (cold : Bool) : State :=
  let x := s.ring r
  let isFolded := (nthD 0 bs 1).getLsbD 4
  let otherDead := if port = 0 then x.dead1 else x.dead0
  let t := s.tick
  let x1 := if isFolded then x.repeats port bs
    else if otherDead then { x with txRepeat := foldHeader bs }
    else x.repeats port (repeatHeader bs ((Config.free t.1).toNat % 769) (x.pound port).toNat)
  let s := t.2.setRing r { x1 with hdr0 := x.hdr0 || (port == 0 && !isFolded), hdr1 := x.hdr1 || (port == 1 && !isFolded) }
  if isFolded || cold then s
  else
    let origin := bitNat ((nthD 0 bs 2).getLsbD 1)
    let first := rlLaneY (nthD 0 bs 1) == decide (origin = 1)
    let s := { s with rope := { s.rope with origin := origin } }
    let s := if s.rope.role = 3 ∨ s.rope.role = 4 then
        { s with rope := { s.rope with leadHeader := some (BitVec.ofNat 32 (fieldLE bs 4 4))
                                       leadTier := (nthD 0 bs 3).toNat % 4 } }
      else s
    let s := (s.keepHeader r port bs).lockToHead r port bs
    if first && nthD 0 bs 25 != 0 then s.cfgFault 5 else s

/-- A valid header of the team peer's (R451, R458, R460). -/
def State.peerHeader (s : State) (r port : Nat) (bs : List Byte) (cold : Bool) : State :=
  let s := if s.rope.attempt then { s with rope := { s.rope with conflict := true } } else s
  if s.host.phase = .listen then
    if s.rope.strap = 2 then { s with rope := { s.rope with joinNext := true, nextRole := some 4 } }
    else if cold then s
    else { s with rope := { s.rope with joinNext := true, nextRole := some 5 } }
  else if s.rope.role = 2 then
    if !cold && bitNat ((nthD 0 bs 2).getLsbD 1) != s.rope.origin then
      { s with rope := { s.rope with nextRole := some 6 } }
    else s
  else if s.isMember then s.memberHeader r port bs cold
  else s

/-- A header of a part that is neither this one nor its peer: CONFLICT (R279, R462). A team part that has not yet heard its peer
cannot tell, and only its cold-start attempt fails (log 30). -/
def State.foreignHeader (s : State) (r : Nat) : State :=
  let s := if s.rope.attempt then { s with rope := { s.rope with conflict := true } } else s
  if s.team && s.rope.peer.passage.isNone then s
  else (s.setRing r { s.ring r with st := .conflict }).cfgFault 1

/-- A passage header or cold-start header received (R255, R279). -/
def State.header (s : State) (r port : Nat) (bs : List Byte) (arrival : Nat) (cold : Bool) : State :=
  if !s.ringListens || !s.ringInUse r || decide (2 ≤ port) then s
  else
    let s := (s.until arrival).portCount 0x0401 r port
    let s := s.setRing r ((s.ring r).frameEnd port arrival 32)
    if bs.length != 32 || !frameOk bs then s.badCheck r port
    else if nthD 0 bs 0 != (if cold then 2 else 1) || rlRing (nthD 0 bs 1) != r then s
    else
      let s := s.setRing r ((s.ring r).headerSeen port)
      let tag := fieldLE bs 20 4
      if tag = s.ownTag then s.ownHeader r port arrival bs cold
      else if s.isPeer tag then s.peerHeader r port bs cold
      else s.foreignHeader r

/-! ### Barges (R258, R263, R441, R442) -/

/-- The lane on which barges pass the SECOND first is Y when ORIGIN is 0, X when it is 1 (R440). -/
def State.secondLane (s : State) : Bool := s.rope.origin == 0

/-- The SECOND's delay to the LEAD on its lane (R442): its pound probe and its forwarding latency, for which 48 ns stands in
(R260; log 34), in ns. -/
def State.delta (s : State) (r : Nat) : Int := (s.ring r).pound (if s.rope.origin = 0 then 0 else 1) + 48

/-- Whether this part polices the copies of a lane (R442): every one outside a team or where no SECOND or joiner stands before it
(log 121), else its own lane's. -/
def State.polices (s : State) (laneY : Bool) : Bool :=
  !s.image.team || s.rope.role == 1 ||
    (if s.rope.role = 2 then laneY != s.secondLane || (s.rope.peer.role != 3 && s.rope.peer.role != 4) else laneY == s.secondLane)

/-- Whether this part passes on the frames that travel to the head and come in on a port (R251, R441): a member those on the SECOND's
lane, a LEAD those on its own lane, to the SECOND. P0 receives lane Y. -/
def State.carries (s : State) (port : Nat) : Bool :=
  let laneY := decide (port = 0)
  if s.rope.role = 2 then s.image.team && laneY != s.secondLane else s.isMember && laneY == s.secondLane

/-- A frame on its way to the head passed on (R251, R269, R441). -/
def State.carry (s : State) (r port : Nat) (bs : List Byte) : State :=
  if s.carries port then s.setRing r ((s.ring r).repeats port bs) else s

/-- Whether a barge copy lies in its window (R263, R455): within G of its instant, or in a new LEAD's first two passages also of
the instant at which it would have seen the copy as SECOND. -/
def State.inWindow (s : State) (r : Nat) (off : Int) : Bool :=
  let g : Int := 10 * s.guard r
  (decide (-g ≤ off) && decide (off ≤ g)) ||
    (decide (0 < s.rope.widened) && (let o := off + 10 * s.delta r
      decide (-g ≤ o) && decide (o ≤ g)))

/-- A valid copy of node `n`'s barge taken into the node's books; in a team the SECOND's lane takes precedence (R442). -/
def State.takeCopy (s : State) (r n : Nat) (laneY ok : Bool) (off : Int) (bs : List Byte) : State :=
  let x := s.ring r
  let v := (x.node n).copy laneY ok off bs
  let v := match ok && s.image.team && laneY == s.secondLane, v.rx with
    | true, some rx =>
      let two := (nthD 0 bs 1).getLsbD 0
      { v with rx := some { rx with laneY := laneY, recs := (bs.drop 14).take (if two then 72 else 36)
                                    safe := (bs.drop 6).take 8, offset := off } }
    | _, _ => v
  s.setRing r (x.setNode n v)

/-- A barge received at a port (R258, R263): policed and passed on by a part with ring books (R442), passed on intact by a part in
STANDBY or OUT and by a joiner without books (R251; log 121). -/
def State.barge (s : State) (r port : Nat) (bs : List Byte) (arrival : Nat) : State :=
  let takes := s.host.phase == .run && decide (1 ≤ s.rope.role ∧ s.rope.role ≤ 6)
  if !takes || !s.ringInUse r || decide (2 ≤ port) then s
  else if 5 ≤ s.rope.role then
    let s := (s.until arrival).portCount 0x0401 r port
    let s := s.setRing r ((s.ring r).frameEnd port arrival bs.length)
    if frameOk bs then s.carry r port bs else s
  else
    let s := (s.until arrival).portCount 0x0401 r port
    let x := s.ring r
    let laneY := decide (port = 0)
    let prev := if laneY then x.endY else x.endX
    let s := s.setRing r (x.frameEnd port arrival bs.length)
    let reject (s : State) : State :=
      (s.setRing r { s.ring r with police := (s.ring r).police + 1 }).portCount 0x0404 r port
    if !frameOk bs then reject (s.badCheck r port)
    else
      let n := (nthD 0 bs 2).toNat
      let rl := nthD 0 bs 1
      if !bargeLength bs || nthD 0 bs 0 != 0x10 || rlRing rl != r || rlLaneY rl != laneY || n == 0 || decide (s.nNodes r < n) then
        reject s
      else
        let z := zones s.image.period s.periodNs
        let due := 10 * s.tt.start.toNat + slotInstant z (s.nNodes r) n laneY
        let due := if s.rope.role = 3 ∨ s.rope.role = 4 then (due - 10 * s.delta r).toNat else due
        let off := bargeOffset arrival due prev
        let lock := (s.ring r).node n |>.lock
        let trial := rl.getLsbD 4
        let state := (trial && lock == .trial) || (!trial && lock == .opened)
        let ok := state && (!s.polices laneY || s.inWindow r off)
        let s := s.takeCopy r n laneY ok off bs
        let s := if ok || (decide (s.rope.role = 4) && decide (lock = .absent)) then s.carry r port bs else s
        if ok then s.portCount 0x0403 r port else reject s

/-! ### The ring-in horizon (R266, R274, R275) -/

/-- The address of an upstream entry (R280). -/
def upAddr (r e : Nat) : Nat := ringBase r + 48 * e

/-- An upstream entry of 48 bytes (R280). -/
def upEntry (rec' : List Byte) (age : Nat) (laneY diverge : Bool) (off : Int) : List Byte :=
  rec' ++ [BitVec.ofNat 8 (age + 16 * bitNat laneY + 32 * bitNat diverge), 0, 0, 0] ++
    bytesLE 4 (BitVec.ofInt 32 off).toNat ++ bytesLE 4 0

/-- The age of an upstream entry. -/
def State.upAge (s : State) (r e : Nat) : Nat := (s.mem.byte (upAddr r e + 36)).toNat % 16

/-- One upstream entry at the horizon (R266, R586): `hit` gives the words that did not decode when the horizon came. A barge without a
record for the slot leaves it as one that did not come. -/
def State.upEntryStep (s : State) (hit : List Nat) (r n slot : Nat) : State :=
  let e := (n - 1) * perNode s.image.period + slot
  let a := upAddr r e
  let v := (s.ring r).node n
  let inst := s.slotInst r n slot
  match (if v.lock = .opened then v.rx.filter (fun rx => decide (36 * slot + 36 ≤ rx.recs.length)) else none) with
  | some rx => s.store' a (upEntry ((rx.recs.drop (36 * slot)).take 36) 0 rx.laneY rx.diverge (divRound rx.offset 10))
  | none =>
    let s1 := if inst.isSome then s.setRing r { s.ring r with miss := (s.ring r).miss + 1 } else s
    if (wordsOf a 48).any (fun w => hit.contains w) then
      (s1.seeRingWords (wordsOf a 48)).store' a (upEntry (bytesLE 36 0) 15 false false 0)
    else
      let old := (s.mem.byte (a + 36)).toNat
      s1.store' a (s.mem.bytes a 36 ++ [BitVec.ofNat 8 (old / 16 * 16 + satAdd 15 (old % 16) 1)] ++ s.mem.bytes (a + 37) 11)

/-- The remote feedback block of an instance at the horizon (R231, R233). -/
def State.remoteStep (s : State) (r n slot i : Nat) : State :=
  let e := (n - 1) * perNode s.image.period + slot
  let age := s.upAge r e
  let x := s.rem i
  if 0 < age then s.setRem i (x.stale age ((s.cfgW (remOff i 0x08)).bits 16 16) s.tt.passage s.tt.start)
  else
    let cfg := s.cfgW (remOff i 0)
    let still := cfg.bits 0 20 * 1000
    let blk := s.mem.bytes (upAddr r e + 12) 16
    let y := x.block blk (cfg.bit 31) still s.periodNs ((s.cfgW (remOff i 0x08)).bits 16 16) s.tt.passage s.tt.start
    let s1 := s.setRem i y
    let flags := nthD 0 blk 15
    if !flags.getLsbD 7 || flags.getLsbD 6 then s1.fbRaise (512 + i) 4 else s1

/-- The lock books of a node at the horizon (R264, R265): a SECOND closes no ring edge (R443), so it keeps the states it had. -/
def State.horizonBooks (s : State) (r n : Nat) (v : RNode) (guard : Nat) : State :=
  let y := v.horizon guard
  if s.rope.role = 3 ∨ s.rope.role = 4 then
    s.setRing r ((s.ring r).setNode n { y with lock := v.lock, edgeRun := v.edgeRun, joinRun := v.joinRun, absence := v.absence
                                               inflightRun := v.inflightRun })
  else
    let x := (s.ring r).setNode n y
    s.setRing r { x with edge := if v.edgeNow guard then x.edge ||| (1#64 <<< (n - 1)) else x.edge }

/-- A divergence counted (R263, R265). -/
def State.seeDiverge (s : State) (r : Nat) (used : Option RxBarge) : State :=
  match used with
  | some rx => if rx.diverge then s.setRing r { s.ring r with diverges := (s.ring r).diverges + 1 } else s
  | none => s

/-- The upstream entries of a node, then its safety container, then the remote feedback blocks (R266). -/
def State.horizonData (s : State) (hit : List Nat) (r n : Nat) (used : Option RxBarge) : State :=
  let slots := List.range (perNode s.image.period)
  let s := slots.foldl (fun s slot => s.upEntryStep hit r n slot) s
  let s := s.upContainer r n (used.map (·.safe))
  slots.foldl (fun s slot => match s.slotInst r n slot with
    | some i => s.remoteStep r n slot i
    | none => s) s

/-- A node at the horizon: its entries, its containers, its feedback, and at a head its lock books (R264-R266). A new LEAD
uses no guard for its first two passages (R455). -/
def State.nodeHorizon (s : State) (hit : List Nat) (r n : Nat) : State :=
  let v := (s.ring r).node n
  let used := if v.lock = .opened then v.rx else none
  let s := (s.seeDiverge r used).horizonData hit r n used
  s.horizonBooks r n v (if 0 < s.rope.widened then 65535 else s.guard r)

/-- The grants of a head at the horizon (R274). -/
def State.grants (s : State) (r : Nat) : State :=
  let x := s.ring r
  let order := turnOrder (s.nNodes r) x.lastServed
  let x := grantCredits (s.ringPool r) order x
  let slots := acyclicSlots (zones s.image.period s.periodNs)
  s.setRing r (grantSlots slots (turnOrder (s.nNodes r) x.lastServed) 0 x)

/-- A rope frame queued whose bytes the spec does not lay out: its FTYPE stands for it (log 32). -/
def State.queueFrame (s : State) (link : Nat) (bs : List Byte) : State :=
  { s with rope := { s.rope with sent := s.rope.sent ++ [(link, bs)] } }.count 0x0501 link 1

/-- One encoder channel of a LOCAL frame installed in place of the own sample (R443). -/
def State.installLocal (s : State) (c : LocalChan) : State :=
  if 16 ≤ c.channel then s
  else s.setEnc c.channel { (s.enc c.channel) with sTotal := c.total, speed := c.speed, spState := c.spState
                                                   sPassage := s.tt.passage, sStamp := s.tt.start }

/-- One serial channel of a LOCAL_SER frame installed in place of the own result (R443). -/
def State.installSerial (s : State) (c : LocalChan) : State :=
  if 8 ≤ c.channel then s
  else s.setSer c.channel { (s.ser c.channel) with total := c.total, speed := c.speed, spState := c.spState, age := c.age
                                                   lastErr := c.lastErr, sPassage := s.tt.passage, sStamp := s.tt.start }

/-- The generators of a part: those of the mapped instances and the local ones. -/
def State.generators (s : State) : List Nat := s.instances ++ (List.range 16).map (512 + ·)

/-- The LEAD's local data of the passage installed at the ring-in horizon of a SECOND or joiner (R443, R444), and the switch
inputs of its generators sampled from it (R185). -/
def State.installLocals (s : State) : State :=
  let r := s.rope
  let s1 := if r.localAt = some s.tt.passage then r.locals.foldl (fun s c => s.installLocal c) s else s
  let s2 := if r.localSerAt = some s.tt.passage then r.serLocals.foldl (fun s c => s.installSerial c) s1 else s1
  s2.generators.foldl (fun s g => s.sampleSwitches g) s2

/-- The ring books that a LEDGER carries (R439, R443). -/
def State.ledgerBooks (s : State) : List LedgerNode :=
  (List.range 4).flatMap (fun r => (List.range (s.nNodes r)).map (fun j =>
    let v := (s.ring r).node (j + 1)
    { ring := r, node := j + 1, lock := v.lock.code, edgeRun := v.edgeRun, granted := v.granted, used := v.used, aslot := v.aslot
      seq := v.downSeq }))

/-- A LEAD's LEDGER after the ring-in horizon (R439). -/
def State.sendLedger (s : State) : State :=
  ({ s with rope := { s.rope with ledgerOut := some (s.tt.passage, s.ledgerBooks) } }).queueFrame 0 [0x52]

/-- RING_IN_HORIZON (R41, R266, R274, R439, R444). -/
def State.ringInHorizon (s : State) : State :=
  if !s.tt.clockOn || s.host.phase != .run then s
  else
    let at' := s.tt.start + BitVec.ofNat 64 (ringPoints s.image.period).1
    let s : State := { s with time := s.time.advance at' }
    let hit := s.bad
    let s : State := (List.range 4).foldl (fun s r =>
      if !s.ringInUse r then s
      else
        let s := (List.range (s.nNodes r)).foldl (fun s j => s.nodeHorizon hit r (j + 1)) s
        if s.rope.role = 1 ∨ s.rope.role = 2 then s.grants r else s) s
    if s.rope.role = 2 then s.sendLedger
    else if s.rope.role = 3 ∨ s.rope.role = 4 then s.installLocals
    else s

/-! ### Lock states and credits (R264, R265, R275) -/

/-- Whether this part keeps the ring books (R443). -/
def State.keepsBooks (s : State) : Bool := s.rope.role == 1 || s.rope.role == 2

/-- EDGE_LIMIT_REACHED (R264). -/
def State.edgeLimitReached (s : State) (r n : Nat) : State :=
  let v := (s.ring r).node n
  if s.keepsBooks && decide (v.lock = .opened) && decide (s.edgeLimit r ≤ v.edgeRun) then
    s.setRing r ((s.ring r).setNode n { v with lock := .closed })
  else s

/-- JOIN_COUNT_REACHED (R265, R274): the books start from the node's own counts. -/
def State.joinCountReached (s : State) (r n : Nat) : State :=
  let v := (s.ring r).node n
  if s.keepsBooks && decide (v.lock = .trial) && decide (s.joinCount r ≤ v.joinRun) then
    s.setRing r ((s.ring r).setNode n { v with lock := .opened, joinRun := 0, granted := v.gtot, used := v.utot, absence := 0
                                               inflightRun := 0 })
  else s

/-- BARGE_ABSENCE_TIMEOUT (R265). -/
def State.bargeAbsence (s : State) (r n : Nat) : State :=
  let v := (s.ring r).node n
  if s.keepsBooks && decide (v.lock = .opened) && decide (16 ≤ v.absence) then
    s.setRing r ((s.ring r).setNode n { v with lock := .trial, joinRun := 0 })
  else s

/-- A node's books resynchronised (R275). -/
def State.resyncNode (s : State) (r n : Nat) : State :=
  let x := s.ring r
  let y := (x.node n).resync
  s.setRing r { (x.setNode n y.1) with acycLost := x.acycLost + BitVec.ofNat 32 y.2, resyncs := satAdd 0xFFFF x.resyncs 1 }

/-- CREDIT_RESYNC (R275). -/
def State.creditResync (s : State) (r n : Nat) : State :=
  if s.keepsBooks && decide (2 ≤ ((s.ring r).node n).inflightRun) then s.resyncNode r n else s

/-! ### Acyclic frames and downstream frames (R268, R272, R456) -/

/-- An acyclic frame passed on (R251, R441): a member passes the head's own on either lane, and those to the head as `carry` has it. -/
def State.passAcyclic (s : State) (r port : Nat) (bs : List Byte) : State :=
  if nthD 0 bs 0 = 0x31 then (if s.isMember then s.setRing r ((s.ring r).repeats port bs) else s)
  else if nthD 0 bs 0 = 0x30 then s.carry r port bs
  else s

/-- ACYCLIC_FRAME (R251, R272, R274, R280): passed on, and a node-to-head frame entered in the receive queue; a copy whose sequence has
come already is discarded. -/
def State.acyclicFrame (s : State) (r port : Nat) (bs : List Byte) : State :=
  let takes := s.host.phase == .run && decide (1 ≤ s.rope.role ∧ s.rope.role ≤ 6)
  if !takes || !s.ringInUse r || decide (2 ≤ port) then s
  else
    let s := s.portCount 0x0401 r port
    if !frameOk bs then (if 5 ≤ s.rope.role then s else s.badCheck r port)
    else if 5 ≤ s.rope.role then s.passAcyclic r port bs
    else
      let s := s.passAcyclic r port bs
      let n := (nthD 0 bs 2).toNat
      let seq := nthD 0 bs 3
      let len := fieldLE bs 5 2
      let x := s.ring r
      let v := x.node n
      if nthD 0 bs 0 != 0x30 || decide (256 < len) || bs.length != len + 12 || n == 0 || decide (s.nNodes r < n) ||
          rlRing (nthD 0 bs 1) != r || v.upSeq == some seq || decide (512 ≤ (x.arxWr - x.arxRd).toNat) then s
      else
        let entry := [BitVec.ofNat 8 n, nthD 0 bs 4] ++ bytesLE 2 len ++ [seq, BitVec.ofNat 8 (bitNat (decide (port = 0))), 0, 0] ++
          bytesLE 8 s.time.time.toNat ++ bytesLE 16 0 ++ (bs.drop 8).take len
        let s := s.store' (ringBase r + 0x10000 + 320 * (x.arxWr.toNat % 512)) entry
        let s := s.setRing r { (x.setNode n { v with upSeq := some seq, used := if s.keepsBooks then v.used + 1 else v.used })
          with arxWr := x.arxWr + 1 }
        s.offer (96 + r)

/-- DOWNSTREAM_FRAME (R251, R268, R456): repeated by a member; a SECOND notes that its LEAD has sent it. -/
def State.downstreamFrame (s : State) (r port : Nat) (bs : List Byte) (arrival : Nat) : State :=
  if !s.isMember || s.host.phase != .run || !s.ringInUse r || decide (2 ≤ port) then s
  else
    let s := (s.until arrival).portCount 0x0401 r port
    let x := (s.ring r).frameEnd port arrival bs.length
    if nthD 0 bs 0 != 0x20 || rlRing (nthD 0 bs 1) != r then s.setRing r x
    else
      let s := s.setRing r (x.repeats port bs)
      if s.rope.role = 3 then { s with rope := { s.rope with
        downSeen := Tab.put none s.rope.downSeen r (some (BitVec.ofNat 32 (fieldLE bs 4 4))) } } else s

/-! ### Pound probes (R278) -/

/-- Whether the part sends on its ports: a head or a member in RUN (R279). -/
def State.ringSends (s : State) : Bool := s.host.phase == .run && decide (1 ≤ s.rope.role ∧ s.rope.role ≤ 6)

/-- POUND_PROBE_SEND (R278): a probe that carries T1. The places of T1, T2 and T3 are the model's (log 33). -/
def State.probeSend (s : State) (r port : Nat) : State :=
  if !s.ringSends || !s.ringInUse r || decide (2 ≤ port) then s
  else
    let x := s.ring r
    let t1 := s.time.time
    let frame := withCheck ([0x40#8, BitVec.ofNat 8 (64 * r), 0, 0, 0, 0, 0, 0] ++ bytesLE 8 t1.toNat ++ bytesLE 12 0)
    s.setRing r (if port = 0 then { x with probe0 := some t1, txLocal := frame } else { x with probe1 := some t1, txLocal := frame })

/-- POUND_PROBE (R278): answered with T1, the arrival stamp T2 and the departure stamp T3. -/
def State.probe (s : State) (r port : Nat) (bs : List Byte) (arrival : Nat) : State :=
  if !s.ringSends || !s.ringInUse r || decide (2 ≤ port) then s
  else
    let s := (s.until arrival).portCount 0x0401 r port
    if bs.length != 32 || !frameOk bs then s.badCheck r port
    else if nthD 0 bs 0 != 0x40 then s
    else
      let reply := withCheck ([0x41#8, BitVec.ofNat 8 (64 * r), 0, 0, 0, 0, 0, 0] ++ (bs.drop 8).take 8 ++
        bytesLE 8 (arrival / 10) ++ bytesLE 8 s.time.time.toNat ++ bytesLE 4 0)
      s.setRing r { s.ring r with txLocal := reply }

/-- POUND_PROBE_REPLY (R278): the pound delay among the last 8 results. -/
def State.probeReply (s : State) (r port : Nat) (bs : List Byte) (arrival : Nat) : State :=
  if !s.ringSends || !s.ringInUse r || decide (2 ≤ port) then s
  else
    let s := (s.until arrival).portCount 0x0401 r port
    if bs.length != 40 || !frameOk bs then s.badCheck r port
    else if nthD 0 bs 0 != 0x41 then s
    else
      let x := s.ring r
      let t1 := BitVec.ofNat 64 (fieldLE bs 8 8)
      let d := poundDelay t1 (BitVec.ofNat 64 (fieldLE bs 16 8)) (BitVec.ofNat 64 (fieldLE bs 24 8)) (BitVec.ofNat 64 (arrival / 10))
      if (if port = 0 then x.probe0 else x.probe1) ≠ some t1 then s
      else s.setRing r (if port = 0 then { x with probe0 := none, pounds0 := pushResult x.pounds0 d }
        else { x with probe1 := none, pounds1 := pushResult x.pounds1 d })

/-! ### Healing (R269, R270) -/

/-- The pound that a head's port faces (R251, R252): pound 0 at P0, the last one at P1. -/
def State.ownPound (s : State) (r port : Nat) : Nat := if port = 0 then 0 else s.nNodes r + bitNat s.image.team

/-- A port's incoming fibre taken as dead (R269): a head names its own pound as the hole. -/
def State.fibreDead (s : State) (r port : Nat) : State :=
  let x := s.ring r
  let x := if port = 0 then { x with dead0 := true } else { x with dead1 := true }
  s.setRing r (if s.heads r then x.addHole (s.ownPound r port) else x)

/-- BLOCK_LOCK_LOSS (R269). -/
def State.blockLockLoss (s : State) (r port : Nat) : State :=
  if decide (4 ≤ r) || decide (2 ≤ port) then s
  else
    let x := s.ring r
    let s := s.setRing r (if port = 0 then { x with lock0 := false, good0 := 0 } else { x with lock1 := false, good1 := 0 })
    if s.ringSends && s.ringInUse r then s.fibreDead r port else s

/-- HEADER_ABSENCE (R269): 2 passages without a valid header on a port while the other port brings them. -/
def State.headerAbsence (s : State) (r port : Nat) : State :=
  let x := s.ring r
  if decide (4 ≤ r) || decide (2 ≤ port) || !s.ringSends then s
  else
    let absent := if port = 0 then decide (2 ≤ x.noHdr0) && decide (2 ≤ x.got1) else decide (2 ≤ x.noHdr1) && decide (2 ≤ x.got0)
    if absent then s.fibreDead r port else s

/-- BLOCK_LOCK_REGAINED (R269, R270): block lock at link-up or after a loss; the folding ends at the passage start after two passages
with valid headers (`Ring.passageEnd`). -/
def State.blockLockRegained (s : State) (r port : Nat) : State :=
  if decide (4 ≤ r) || decide (2 ≤ port) then s
  else
    let x := s.ring r
    s.setRing r (if port = 0 then { x with lock0 := true } else { x with lock1 := true })

/-- HOLE_CLEAR (R270): no folded header has come for 2 passages, and no own receiver is dead. -/
def State.holeClear (s : State) (r : Nat) : State :=
  let x := s.ring r
  let quiet := match x.lastFold with
    | some p => decide (2 ≤ (s.tt.passage - p).toNat)
    | none => true
  if quiet && !x.dead0 && !x.dead1 then s.setRing r { x with holes := [], lastFold := none } else s

/-! ### The rows -/

def execPassageHeader (r port : Nat) (bs : List Byte) (arrival : Nat) (s : State) : Host.Outcome State Fault Refusal :=
  .next (s.header r port bs arrival false)
def execColdStartHeader (r port : Nat) (bs : List Byte) (arrival : Nat) (s : State) : Host.Outcome State Fault Refusal :=
  .next (s.header r port bs arrival true)
def execBarge (r port : Nat) (bs : List Byte) (arrival : Nat) (s : State) : Host.Outcome State Fault Refusal :=
  .next (s.barge r port bs arrival)
def execDownstreamFrame (r port : Nat) (bs : List Byte) (arrival : Nat) (s : State) : Host.Outcome State Fault Refusal :=
  .next (s.downstreamFrame r port bs arrival)
def execAcyclicFrame (r port : Nat) (bs : List Byte) (s : State) : Host.Outcome State Fault Refusal :=
  .next (s.acyclicFrame r port bs)
def execPoundProbe (r port : Nat) (bs : List Byte) (arrival : Nat) (s : State) : Host.Outcome State Fault Refusal :=
  .next (s.probe r port bs arrival)
def execPoundProbeReply (r port : Nat) (bs : List Byte) (arrival : Nat) (s : State) : Host.Outcome State Fault Refusal :=
  .next (s.probeReply r port bs arrival)
def execPoundProbeSend (r port : Nat) (s : State) : Host.Outcome State Fault Refusal := .next (s.probeSend r port)
def execRingInHorizon (s : State) : Host.Outcome State Fault Refusal := .next s.ringInHorizon
def execEdgeLimitReached (r n : Nat) (s : State) : Host.Outcome State Fault Refusal := .next (s.edgeLimitReached r n)
def execJoinCountReached (r n : Nat) (s : State) : Host.Outcome State Fault Refusal := .next (s.joinCountReached r n)
def execBargeAbsenceTimeout (r n : Nat) (s : State) : Host.Outcome State Fault Refusal := .next (s.bargeAbsence r n)
def execCreditResync (r n : Nat) (s : State) : Host.Outcome State Fault Refusal := .next (s.creditResync r n)
def execBlockLockLoss (r port : Nat) (s : State) : Host.Outcome State Fault Refusal := .next (s.blockLockLoss r port)
def execHeaderAbsence (r port : Nat) (s : State) : Host.Outcome State Fault Refusal := .next (s.headerAbsence r port)
def execBlockLockRegained (r port : Nat) (s : State) : Host.Outcome State Fault Refusal := .next (s.blockLockRegained r port)
def execHoleClear (r : Nat) (s : State) : Host.Outcome State Fault Refusal := .next (s.holeClear r)

end Sys2Proof.Machine
end

