-- ==== Sys2Proof/Machine/CmdOps.lean ====
section
/-! DEFINITION. The timetable commands (R73-R78), the ring commands (R281), the time commands (R317) and the soft-plane
commands (R404): what they refuse, and the state they leave. -/

namespace Sys2Proof.Machine

/-- An answer whose DETAIL, for NOT_PRESENT, LENGTH and RANGE, is the byte offset of the offending argument (R519); 0 where no
argument of the entry is at fault (log 35). -/
def pointAt (np len rng : Nat) (r : Refusals × State) : Answer :=
  { refusals := r.1, state := r.2
    detail := BitVec.ofNat 32 (if r.1.notPresent then np else if r.1.length then len else if r.1.range then rng else 0) }

/-- Whether any instance or local step channel is enabled (R296, R488, R545, R556). -/
def State.anyEnabled (s : State) : Bool := s.axes.any (fun p => p.2.st.enabled) || s.chans.any (fun p => p.2.enabled)

/-! ### The timetable -/

/-- A slot's record (R546, R563). -/
def Store.slot (x : Store) (n : Nat) : Slot := if n = 0 then x.slot0 else x.slot1
def Store.setSlot (x : Store) (n : Nat) (v : Slot) : Store := if n = 0 then { x with slot0 := v } else { x with slot1 := v }

/-- TT_LOAD (R73). -/
def cmdTtLoad (c : Ctx) (slot : Nat) (s : State) : Refusals × State :=
  let st := (s.store.slot slot).state
  ({ notPresent := decide (1 < slot) || st == 0
     illegal := decide (s.tt.shadowState = .loading) || decide (s.tt.shadowState = .pending) || st != 2 },
   { s with tt := { s.tt with shadowState := .loading, shadow := none, loadSlot := slot, loadDetail := 0, loadSeq := c.seq
                              loadOrigin := c.originByte } })

/-- Whether the level and the present axis states allow the swap (R74): a FAULTED instance is disabled for it (R130). -/
def State.swapAllowed (s : State) : Bool :=
  match s.tt.shadow with
  | none => false
  | some b => s.axes.all (fun p => !p.2.st.enabled || !swapNeeds s.image b s.ttExpert p.1)

/-- Whether the part is one of two that compute in step (R443, R460). -/
def State.twoParts (s : State) : Bool :=
  s.rope.role == 3 || s.rope.role == 4 || (s.rope.role == 2 && (s.rope.peer.role == 3 || s.rope.peer.role == 4))

/-- TT_SWAP (R74, R77). The peer's shadow IMAGE_ID comes in no frame: it is a free value (log 36). LAST_CODE tells of outcomes of loads,
swaps and cancels (R80): neither the arming of a swap nor a refused TT_LOAD, TT_SWAP or TT_CANCEL changes it (DESIGN CHOICE, log
110). -/
def cmdTtSwap (c : Ctx) (p : Word) (s : State) : Refusals × State :=
  let d := (p - c.accepted).toInt
  let t := s.tick
  let other := Config.free t.1
  ({ range := decide (d < 4) || decide (16777216 ≤ d)
     illegal := decide (s.tt.shadowState ≠ .ready) || !s.swapAllowed
     mismatch := s.twoParts && (match s.tt.shadow with
       | some b => b.id != other
       | none => false) },
   let s := if s.twoParts then t.2 else s
   { s with tt := { s.tt with shadowState := .pending, swapAt := p, swapSeq := c.seq, swapOrigin := c.originByte } })

/-- TT_CANCEL (R76). The cancelled swap is logged (R78) as the outcome of this command, with the swap's passage as VALUE (DESIGN
CHOICE, log 109). -/
def cmdTtCancel (c : Ctx) (s : State) : Refusals × State :=
  ({ illegal := decide (s.tt.shadowState ≠ .pending) || decide ((s.tt.swapAt - c.accepted).toInt < 4) },
   ({ s with tt := { s.tt with shadowState := .ready, lastCode := 0 } }).logNow s.tt.passage c.originByte 2 0x12 codeOk c.seq
     s.tt.swapAt)

/-! ### Rings -/

/-- Whether an instance of a list is enabled. -/
def State.enabledIn (s : State) (l : List Nat) : Bool := l.any (fun i => (s.axis i).st.enabled)

/-- RING.CFG in range (R284). -/
def ringCfgOk (w : Word) : Bool :=
  decide (64 ≤ w.bits 24 8 ∧ w.bits 24 8 ≤ 128) && w.bits 16 8 != 0 && w.bits 8 8 != 0 && decide (w.bits 0 7 ≤ 64)

/-- RING.CONTROL.LEVEL (R282). -/
def State.ringExpert (s : State) (r : Nat) : Bool := (s.cfgW (0x40000 + 0x4000 * r)).bit 0

/-- RG_COMMIT (R281). -/
def cmdRgCommit (r : Nat) (s : State) : Refusals × State :=
  ({ notPresent := decide (4 ≤ r), range := !ringCfgOk (s.stgW (0x40008 + 0x4000 * r))
     illegal := !s.ringExpert r && s.enabledIn (s.instances.filter (fun i => s.ringOf i == r)) },
   s.commitRegs [0x40008 + 0x4000 * r])

/-- RG_REOPEN (R265, R281). -/
def cmdRgReopen (r n : Nat) (s : State) : Refusals × State :=
  let v := (s.ring r).node n
  ({ notPresent := decide (4 ≤ r) || n == 0 || decide (s.nNodes r < n)
     illegal := decide (v.lock ≠ .closed) || (!s.ringExpert r && s.enabledIn (s.onNode r n)) },
   s.setRing r ((s.ring r).setNode n { v with lock := .trial, joinRun := 0 }))

/-- RG_RESYNC (R275, R281). -/
def cmdRgResync (r n : Nat) (s : State) : Refusals × State :=
  ({ notPresent := decide (4 ≤ r) || (n != 0xFF && (n == 0 || decide (s.nNodes r < n)))
     illegal := decide ((s.ring r).st ≠ .run) },
   if n = 0xFF then (List.range (s.nNodes r)).foldl (fun s j => s.resyncNode r (j + 1)) s else s.resyncNode r n)

/-- Whether a range of bytes lies in the host and stream buffers (R64). -/
def inHostBuffers (a n : Nat) : Bool := decide (0x03600000 ≤ a ∧ a + n ≤ 0x03800000)

/-- Bytes that a command reads from the host and stream buffers; an uncorrectable word among them faults the host port and
reads as 0 (R110, R508; log 37). -/
def State.fetchBytes (s : State) (a n : Nat) : List Byte × State :=
  let ws := (wordsOf a n).filter (fun w => s.bad.contains w)
  if n = 0 ∨ ws.isEmpty then (s.mem.bytes a n, if n = 0 then s else s.correct none (wordsOf a n))
  else ((List.range n).map (fun j => if s.undecodable (a + j) then 0 else s.mem.byte (a + j)), ws.foldl (fun s w => s.idieFault w) s)

/-- RG_ASEND (R276, R280, R281): the frame is entered in the queue and, in turn, in one of the 64 entries of the ring buffer, whose
layout is not given (log 122). -/
def cmdRgAsend (r n proto len : Nat) (addr : Word) (s : State) : Refusals × State :=
  let x := s.ring r
  let v := x.node n
  ({ notPresent := decide (4 ≤ r) || n == 0 || decide (s.nNodes r < n)
     length := decide (256 < len), range := !inHostBuffers addr.toNat len
     illegal := decide (v.lock ≠ .opened), backpressure := decide (64 ≤ x.txq.length) || v.rxFree == 0 },
   let b := s.fetchBytes addr.toNat len
   (b.2.setRing r { b.2.ring r with txq := x.txq ++ [⟨n, proto, b.1⟩], aqWr := x.aqWr + 1 }).store'
     (ringBase r + 0x4000 + 288 * (x.aqWr % 64)) ((List.range 288).map (Config.queuedByte n proto b.1)))

/-! ### Time -/

/-- Whether anything is scheduled on TIME (R296): an armed comparator, an EVIO output entry or a periodic output. -/
def State.scheduled (s : State) : Bool := s.time.cmps.any (fun p => p.2.arm) || s.time.evios.any (fun p => p.2.pendingOutput)

/-- Whether a step is allowed (R296). -/
def State.stepAllowed (s : State) (d : Int) : Bool :=
  let whole := decide (d % s.periodNs = 0)
  if (s.cfgW 0x50000).bit 0 then whole || !s.anyEnabled else !s.anyEnabled && !s.scheduled

/-- A step of TIME (R296, R308): the start of the passage moves with it. -/
def State.stepTime (s : State) (d : Int) : State :=
  let s1 := s.shiftTime d
  { s1 with
    time := { s1.time with steps := satAdd 0xFFFF s1.time.steps 1
                           evios := Tab.onAll {} (fun e => e.afterStep s1.time.time) s1.time.evios }
    tt := { s1.tt with start := s1.tt.start + BitVec.ofInt 64 d } }

/-- TIME_STEP (R296, R297). -/
def cmdTimeStep (delta : U64) (s : State) : Refusals × State :=
  let d := delta.toInt
  ({ range := decide ((2 : Int) ^ 62 ≤ (d.natAbs : Int)), illegal := !s.stepAllowed d }, s.stepTime d)

/-- Whether the plant port follows a leader (R315, R324): it is in SLAVE. -/
def State.follower (s : State) : Bool := s.plant.portState == 9

/-- TIME_RATE (R295, R317). -/
def cmdTimeRate (rate : Word) (s : State) : Refusals × State :=
  ({ range := decide (rateMax < rate.toInt) || decide (rate.toInt < -rateMax), illegal := s.follower },
   { s with time := { s.time with rate := rate.toInt } })

/-- The staged registers of the plant port (R323, R324). -/
def plantStagedOffs : List Nat := [0xD0000, 0xD0004, 0xD0008, 0xD000C, 0xD0010, 0xD0100, 0xD0104, 0xD0108]

/-- One plant register's fields in range (R323, R324). -/
def plantFieldOk (off : Nat) (w : Word) : Bool :=
  match off with
  | 0xD0000 => !w.bit 8
  | 0xD0100 => (w.bits 24 4 == 0 || decide (9 ≤ w.bits 24 4)) && decide (w.bits 16 8 ≤ 127)
  | 0xD0104 => w.bits 16 16 != 0
  | _ => true

/-- The plant port's page in range (R323, R324): KI_SH at least KP_SH. -/
def State.plantOk (s : State) : Bool :=
  plantStagedOffs.all (fun o => plantFieldOk o (s.stgW o)) &&
    decide ((s.stgW 0xD0104).bits 8 4 ≤ (s.stgW 0xD0104).bits 0 4)

/-- The port state that a ROLE starts in (R313; log 39): DISABLED, MASTER, LISTENING. -/
def rolePortState (role : Nat) : Nat := if role = 0 then 3 else if role = 1 then 6 else 4

/-- PTP_COMMIT (R317). -/
def cmdPtpCommit (s : State) : Refusals × State :=
  let diff (o lo n : Nat) : Bool := (s.stgW o).bits lo n != (s.cfgW o).bits lo n
  let guarded := diff 0xD0100 28 4 || diff 0xD0100 16 8 || diff 0xD0000 0 16 || diff 0xD0004 0 32 || diff 0xD0008 0 32
  let s1 := s.commitRegs plantStagedOffs
  ({ range := !s.plantOk, illegal := guarded && s.plant.portState != 3 },
   { s1 with plant := { s1.plant with
       staged := false
       portState := if diff 0xD0100 30 2 then rolePortState ((s1.cfgW 0xD0100).bits 30 2) else s1.plant.portState } })

/-! ### The soft plane -/

/-- The tokens held in an entry's slots from `n` on. -/
def Match.tokensFrom (m : Match) (n : Nat) : Nat := ((List.range 4).filter (fun j => decide (n ≤ j) && (m.slot j).isSome)).length

/-- An entry with its slots from `n` on emptied; no entry once none is left (R404). -/
def Match.cut (m : Match) (n : Nat) : Option Match :=
  let x := (List.range 4).foldl (fun m j => if n ≤ j then m.setSlot j none else m) m
  if x = {} then none else some x

/-- Whether a region-SRAM address range is permitted to the soft plane (R392, R393). -/
def State.rangeOpen (s : State) (a n : Nat) : Bool := s.regionOpen a && s.regionOpen (a + n - 1)

/-- A staged descriptor's fields in range (R393): `b` gives its bytes. -/
def State.descOk (s : State) (b : List Byte) : Bool :=
  let entry := fieldLE b 0 4
  let ctx := fieldLE b 12 4
  let ctrl := fieldLE b 18 1
  decide (entry % 8 = 0) && s.rangeOpen entry 8 && decide (ctx % 128 = 0) && (ctx == 0 || s.rangeOpen ctx 128) &&
    decide (fieldLE b 16 1 < 32) && fieldLE b 17 1 != 0 && decide (1 ≤ ctrl % 8 ∧ ctrl % 8 ≤ 4) && ctrl / 8 % 16 == 0 &&
    fieldLE b 19 1 == 0

/-- A descriptor removed from its list, its entry discarded (R404). -/
def State.dropDesc (s : State) (d : Nat) : State :=
  let n := match s.entry d with
    | some m => m.tokensFrom 0
    | none => 0
  let s := ((s.takeReady d).setEntry d none).discardTokens n
  let x := s.sched.undelay d
  { s with sched := { x with resume := x.resume.filter (· != d) } }

/-- Whether the soft-plane commands are refused with FAULTED (R403): the scheduler has faulted, or the descriptor does not decode
(log 126). -/
def State.schedFaulted (s : State) (d : Nat) : Bool := s.sched.fault || s.undecodable (descAddr d)

/-- SP_DESC (R393, R404). -/
def cmdSpDesc (d : Nat) (addr : Word) (s : State) : Refusals × State :=
  let b := s.fetchBytes addr.toNat 32
  let st := s.descState d
  let easy := st == dInvalid || (st == dIdle && (s.entry d).isNone)
  let expert := (s.cfgW 0x30000).bit 0
  let valid := (fieldLE b.1 18 1).testBit 7
  let ntok := fieldLE b.1 18 1 % 8
  ({ notPresent := decide (4096 ≤ d), faulted := s.schedFaulted d
     range := decide (addr.toNat % 32 ≠ 0) || !inSoftArea addr.toNat || !s.descOk b.1
     illegal := !easy && (!expert || st == dPrefetched || st == dRunning) },
   let s1 := b.2.store' (descAddr d) (b.1.take 20)
   if !valid then (s1.dropDesc d).setDescState d dInvalid
   else if st = dInvalid then s1.setDescState d dIdle
   else
     let s2 := match s1.entry d with
       | some m => (s1.setEntry d (m.cut ntok)).discardTokens (m.tokensFrom ntok)
       | none => s1
     (s2.checkComplete d).prefetch)

/-- SP_POST (R395, R404). -/
def cmdSpPost (d slot : Nat) (value : Word) (s : State) : Refusals × State :=
  let r := s.token d slot value
  ({ notPresent := decide (4096 ≤ d) || s.descState d == dInvalid, faulted := s.schedFaulted d
     range := decide (s.descNtok d ≤ slot)
     backpressure := r.2 == .refused }, r.1)

/-- SP_DROP (R404). -/
def cmdSpDrop (d : Nat) (s : State) : Refusals × State :=
  let m := s.entry d
  let ok := match m with
    | some m => !m.complete (s.descNtok d)
    | none => false
  let n := match m with
    | some m => m.tokensFrom 0
    | none => 0
  ({ notPresent := decide (4096 ≤ d), faulted := s.schedFaulted d, illegal := !ok }, (s.setEntry d none).discardTokens n)

end Sys2Proof.Machine
end

