-- ==== Sys2Proof/Machine/CmdAcq.lean ====
section
/-! DEFINITION. The acquisition block as it runs in the state (R326-R351): its settings, the privileged channels' buffers and
triggers, and the acquisition commands (R352). -/

namespace Sys2Proof.Machine

/-! ### Settings -/

/-- The settings of a trigger unit, committed or staged, by the reader of a register (R356). -/
def trgCfgOf (w : Nat → Word) (u : Nat) : TrgCfg :=
  let r (o : Nat) : Word := w (0x80400 + 0x20 * u + o)
  { kind := (r 0).bits 29 3, srcKind := (r 0).bits 27 2, dir := (r 0).bits 25 2, cond := (r 0).bits 22 3
    mark := (r 0).bit 21, inv := (r 0).bit 20, sel := (r 4).bits 0 6, inst := (r 4).bits 16 9
    hi := r 8, lo := r 0xC, w1 := (r 0x10).toNat, w2 := (r 0x14).toNat }

/-- The settings of a trigger unit in use. -/
def State.trgCfg (s : State) (u : Nat) : TrgCfg := trgCfgOf s.cfgW u

/-- The settings of a privileged channel (R357). -/
structure PrivCfg where
  mode : Nat
  early : Bool
  trg : Nat
  inst : Nat
  sel : Nat
  len : Nat
  pre : Nat
  post : Nat
  maskEn : Bool
  maskAct : Nat
  maskTrg : Nat
  maskN : Nat
  deriving DecidableEq, Repr

/-- The settings of a privileged channel by the reader of a register. -/
def privCfgOf (w : Nat → Word) (b : Nat) : PrivCfg :=
  let r (o : Nat) : Word := w (0x80800 + 0x40 * b + o)
  { mode := (r 0).bits 30 2, early := (r 0).bit 29, trg := (r 0).bits 24 5, inst := (r 4).bits 16 9, sel := (r 4).bits 0 6
    len := (r 8).bits 0 24, pre := (r 0xC).bits 0 24, post := (r 0x10).bits 0 24, maskEn := (r 0x28).bit 31
    maskAct := (r 0x28).bits 29 2, maskTrg := (r 0x28).bits 24 5, maskN := (r 0x28).bits 0 13 }

/-- The settings of a privileged channel in use. -/
def State.privCfg (s : State) (b : Nat) : PrivCfg := privCfgOf s.cfgW b

/-- Whether an instance produces a variable (R327). -/
def State.produces (s : State) (i v : Nat) : Bool := s.mapped i && varAllowed v (s.kindOf i)

/-- A trigger unit's settings in range (R327, R331, R356). -/
def State.trgOk (s : State) (c : TrgCfg) : Bool :=
  let pairs : Bool := match c.kind with
    | 0 => true
    | 1 | 3 => c.srcKind != 2
    | 2 | 4 => c.srcKind == 0
    | _ => false
  let dirs := if c.kind = 0 ∨ c.kind = 3 then decide (c.dir < 3) else decide (c.dir < 2)
  c.srcKind != 3 && pairs && dirs && decide (c.cond ≤ 4) && !(c.kind == 4 && c.cond == 4) &&
    (match c.srcKind with
     | 0 => s.produces c.inst c.sel && !realLt (sampleReal c.sel c.hi) (sampleReal c.sel c.lo)
     | 2 => decide (c.sel < 32)
     | _ => true) &&
    !((c.cond == 2 || c.cond == 3) && decide (c.w2 < c.w1))

/-- A privileged channel's settings in range but for R340's LENGTH rule (R340, R357). -/
def State.privOk (s : State) (c : PrivCfg) : Bool :=
  let lim := modeLimits c.mode
  c.mode != 3 && decide (16 ≤ c.len ∧ c.len ≤ lim.1) && decide (c.len % lim.2 = 0) && c.post != 0 &&
    (decide (c.trg < 16) || c.trg == 0x1F) &&
    (match c.mode with
     | 0 => s.produces c.inst c.sel
     | 2 => decide (c.sel < 8)
     | _ => true) &&
    !(c.maskEn && c.mode != 0) && c.maskAct != 3 && decide (c.maskTrg < 16) && decide (1 ≤ c.maskN ∧ c.maskN ≤ 4096)

/-- The stream's settings in range (R354). -/
def streamOk (cfg baseLo : Word) : Bool :=
  cfg.bits 30 2 != 3 && decide (16 ≤ cfg.bits 16 5 ∧ cfg.bits 16 5 ≤ 26) && baseLo.bits 0 12 == 0

/-- The staged registers of ACQ (R354-R357). -/
def acqStagedOffs : List Nat :=
  [0x80010, 0x80014, 0x80018, 0x8001C] ++ (List.range 64).map (fun c => 0x80100 + 4 * c) ++
    (List.range 16).flatMap (fun u => [0, 4, 8, 0xC, 0x10, 0x14].map (fun o => 0x80400 + 0x20 * u + o)) ++
    (List.range 4).flatMap (fun b => [0, 4, 8, 0xC, 0x10, 0x28].map (fun o => 0x80800 + 0x40 * b + o))

/-- Whether a staged page is in range (R327, R331, R340, R354-R357). A stream channel that is off selects nothing (log 40). -/
def State.acqInRange (s : State) : Bool :=
  streamOk (s.stgW 0x80010) (s.stgW 0x80014) &&
    (List.range 64).all (fun c =>
      let w := s.stgW (0x80100 + 4 * c)
      !w.bit 31 || varAllowed (w.bits 0 6) (s.kindOf (w.bits 16 9))) &&
    (List.range 16).all (fun u => s.trgOk (trgCfgOf s.stgW u)) && (List.range 4).all (fun b => s.privOk (privCfgOf s.stgW b))

/-! ### Sample indices -/

/-- The 2.5 ns samples of RAW that have passed (R328, R340). -/
def State.fastTicks (s : State) : Nat := s.time.raw.toNat * 2 / 5

/-- The fabric address of an acquisition buffer (R64). -/
def acqBase (b : Nat) : Nat := 0x03000000 + 0x100000 * b

/-- The sample that a FAST channel takes from the pins at present (R340): a bit, or a byte of eight pins. -/
def State.fastSample (s : State) (c : PrivCfg) : Nat :=
  if c.mode = 1 then bitNat (s.evio c.sel).level
  else (List.range 8).foldl (fun n j => n + bitNat (s.evio (8 * c.sel + j)).level * 2 ^ j) 0

/-- Sample `w` of a channel stored (R340): 4 bytes, a bit of a byte with the lowest position in bit 0 (log 41), or a byte. -/
def State.putSample (s : State) (b : Nat) (c : PrivCfg) (w v : Nat) : State :=
  let p := w % c.len
  match c.mode with
  | 0 => s.store' (acqBase b + 4 * p) (bytesLE 4 v)
  | 1 =>
    let a := acqBase b + p / 8
    let old := (s.mem.byte a).toNat
    let new := old - old / 2 ^ (p % 8) % 2 * 2 ^ (p % 8) + v % 2 * 2 ^ (p % 8)
    s.store' a [BitVec.ofNat 8 new]
  | _ => s.store' (acqBase b + p) [BitVec.ofNat 8 v]

/-- Sample `w` of a channel as it lies in its buffer. -/
def State.getSample (s : State) (b : Nat) (c : PrivCfg) (w : Nat) : Nat :=
  let p := w % c.len
  match c.mode with
  | 0 => (s.mem.word (acqBase b + 4 * p)).toNat
  | 1 => (s.mem.byte (acqBase b + p / 8)).toNat / 2 ^ (p % 8) % 2
  | _ => (s.mem.byte (acqBase b + p)).toNat

/-- The address of the byte in which sample `w` begins. -/
def sampleAddr (b : Nat) (c : PrivCfg) (w : Nat) : Nat :=
  let p := w % c.len
  acqBase b + (if c.mode = 0 then 4 * p else if c.mode = 1 then p / 8 else p)

/-- The samples of a FAST channel up to the present, taken from the pins as they have stood since the latest change
(R340-R342): a triggered channel takes none past POST. -/
def State.fillFast (s : State) (b : Nat) : State :=
  let p := s.priv b
  let c := s.privCfg b
  if c.mode = 0 ∨ c.len = 0 ∨ !(p.st = .armed ∨ p.st = .triggered) then s
  else
    let now := s.fastTicks - p.armTick
    let target := if p.st = .triggered then min now (p.trigW + c.post) else now
    let v := s.fastSample c
    let n := target - p.written
    let s := (List.range n).foldl (fun s j => s.putSample b c (p.written + j) v) s
    s.setPriv b (p.wrote c.len n)

/-- Every FAST channel brought up to the present. -/
def State.fillAll (s : State) : State := (List.range 4).foldl (fun s b => s.fillFast b) s

/-! ### Triggers of a privileged channel (R341, R342) -/

/-- The index, counted from the arming, of the numeric sample of passage `n` (R340). -/
def Priv.indexOf (p : Priv) (n : Word) : Nat := ((p.written : Int) + (n - p.lastPassage).toInt - 1).toNat

/-- The index of the first 2.5 ns sample at or after an event time in quarters of ns (R342). -/
def State.fastIndex (s : State) (p : Priv) (t : U64) : Nat :=
  let back := ((s.time.time * 4) - t).toInt
  (((s.fastTicks - p.armTick : Nat) : Int) - back / 10).toNat

/-- A trigger offered to a channel (R341, R342), ignored before PRE samples are held unless EARLY is 1: the event time in
quarters of ns, and for a NUMERIC channel the passage of the trigger sample and TRIG_SUB. -/
def State.triggerPriv (s : State) (b : Nat) (t : U64) (n : Word) (sub : Nat) : State :=
  let p := s.priv b
  let c := s.privCfg b
  if p.st ≠ .armed then s
  else if !p.preValid && decide (p.held < c.pre) && !c.early then s.setPriv b { p with ignored := satAdd 0xFFFF p.ignored 1 }
  else if c.mode = 0 then s.setPriv b (p.trigger (p.indexOf n) sub t s.tt.passage)
  else s.setPriv b (p.trigger (s.fastIndex p t) 0 t s.tt.passage)

/-- A mask pass begun (R349): its anchor is the trigger sample of passage `n`. -/
def State.anchorMask (s : State) (b : Nat) (n : Word) : State :=
  let p := s.priv b
  if (s.privCfg b).maskEn ∧ (p.st = .armed ∨ p.st = .triggered) then s.setPriv b { p with maskAnchor := some (p.indexOf n) } else s

/-- A firing of a unit (R334): counted, marked, offered to the channels that name the unit, and an anchor of masks. No marks
are made in a tier that sheds STREAM (R338). -/
def State.fireUnit (s : State) (u : Nat) (t : U64) (n : Word) (sub : Nat) : State :=
  let s := s.setTrg u ((s.trg u).fire ((s.trgCfg u).mark && s.tt.tier == 0) t)
  (List.range 4).foldl (fun s b =>
    let c := s.privCfg b
    let s := if c.trg = u then s.triggerPriv b t n sub else s
    if c.maskTrg = u then s.anchorMask b n else s) s

/-- Passage and TRIG_SUB of an event that a numeric unit decides at the sample of a passage with start `start` (R330, R342). -/
def numericPlace (n : Word) (start t : U64) (period : Nat) : Word × Nat :=
  let d := (start * 4 - t).toInt.toNat
  let q := (d - 1) / (4 * period)
  (n - BitVec.ofNat 32 q, (256 - divRound (((d - q * 4 * period) * 256 : Nat) : Int) (4 * period)).toNat)

/-- A firing by an EVIO pin or a comparator at an event time of the passage in progress or of the one before (R342). -/
def State.fireNow (s : State) (u : Nat) (t : U64) : State :=
  let d := (t - s.tt.start * 4).toInt
  let p : Int := 4 * s.periodNs
  let sub (x : Int) : Nat := (divRound (x * 256) (4 * s.periodNs)).toNat
  if d < 0 then s.fireUnit u t s.tt.passage (sub (d + p)) else s.fireUnit u t (s.tt.passage + 1) (sub d)

/-! ### Commands (R344-R352) -/

/-- A trigger unit that takes its condition afresh (R329, R346). -/
def State.refreshTrg (s : State) (u : Nat) : State :=
  let t := s.trg u
  let c := s.trgCfg u
  let lvl := decide (c.srcKind = 1) && ((s.evio c.sel).level ^^ c.inv)
  s.setTrg u { ({} : Trg) with count := t.count, fired := t.fired, skipped := t.skipped, marks := t.marks
                               markTime := t.markTime, idx := t.idx, primed := decide (c.srcKind = 1), cond := lvl }

/-- The queue of the stream emptied (R338): every slot it held is dropped. -/
def Acq.emptied (a : Acq) : Acq := { a with strDrop := a.strWr - a.strRd, queue := [], gapSlots := a.gapSlots + a.fill }

/-- Whether a commit changes a field that R345 guards: MODE, SRC, LEN, PRE, POST, TRG. -/
def PrivCfg.guarded (a b : PrivCfg) : Bool :=
  a.mode != b.mode || a.inst != b.inst || a.sel != b.sel || a.len != b.len || a.pre != b.pre || a.post != b.post || a.trg != b.trg

/-- An armed channel begun afresh (R341, R345). -/
def Priv.restart (p : Priv) (tick : Nat) (passage : Word) : Priv :=
  { p with written := 0, dropped := 0, preValid := false, armTick := tick, lastPassage := passage - 1, maskAnchor := none }

/-- ACQ_COMMIT (R345, R346, R352). -/
def cmdAcqCommit (s : State) : Refusals × State :=
  let expert := (s.cfgW 0x80000).bit 0
  let changes (b : Nat) : Bool := (privCfgOf s.stgW b).guarded (s.privCfg b)
  let path := (s.stgW 0x80010).bits 16 16 != (s.cfgW 0x80010).bits 16 16 || s.stgW 0x80014 != s.cfgW 0x80014 ||
    s.stgW 0x80018 != s.cfgW 0x80018
  ({ notPresent := (List.range 64).any (fun c => (s.stgW (0x80100 + 4 * c)).bit 31 &&
       !s.mapped ((s.stgW (0x80100 + 4 * c)).bits 16 9))
     length := (List.range 4).any (fun b => let c := privCfgOf s.stgW b
       decide (c.len < c.pre + c.post))
     range := !s.acqInRange
     illegal := (List.range 4).any (fun b => changes b &&
       (decide ((s.priv b).st = .triggered) || (decide ((s.priv b).st = .armed) && !expert))) },
   let units := (List.range 16).filter (fun u => decide (trgCfgOf s.stgW u ≠ s.trgCfg u))
   let armed := (List.range 4).filter (fun b => changes b && decide ((s.priv b).st = .armed))
   let s1 := s.fillAll.commitRegs acqStagedOffs
   let s2 := armed.foldl (fun s b => s.setPriv b ((s.priv b).restart s.fastTicks s.tt.passage)) s1
   let s3 := units.foldl (fun s u => s.refreshTrg u) s2
   if path then { s3 with acq := s3.acq.emptied } else s3)

/-- ACQ_ARM (R329, R341, R351): the units that the channel names take their condition afresh. -/
def cmdAcqArm (b : Nat) (s : State) : Refusals × State :=
  let p := s.priv b
  let c := s.privCfg b
  ({ notPresent := decide (4 ≤ b), illegal := decide (p.st = .armed) || decide (p.st = .triggered) || p.maskLoading },
   let s1 := s.setPriv b ((({ ({} : Priv) with st := .armed, copied := p.copied }) : Priv).restart s.fastTicks s.tt.passage)
   let s2 := if c.trg < 16 then s1.refreshTrg c.trg else s1
   if c.maskEn && c.maskTrg != c.trg then s2.refreshTrg c.maskTrg else s2)

/-- ACQ_DISARM (R341). -/
def cmdAcqDisarm (b : Nat) (s : State) : Refusals × State :=
  let s1 := s.fillFast b
  ({ notPresent := decide (4 ≤ b) }, s1.setPriv b { s1.priv b with st := .idle, stop := 3 })

/-- ACQ_FORCE (R342): the event time is the start of the passage; in NUMERIC mode the trigger sample is that of the passage,
at the end of its interval (log 42). -/
def cmdAcqForce (b : Nat) (s : State) : Refusals × State :=
  ({ notPresent := decide (4 ≤ b), illegal := decide ((s.priv b).st ≠ .armed) },
   (s.fillFast b).triggerPriv b (s.tt.start * 4) s.tt.passage 256)

/-- Samples packed for the host: 4 bytes, 8 samples to a byte, or a byte each. -/
def packSamples (mode : Nat) : Nat → List Nat → List Byte
  | 0, _ => []
  | fuel + 1, l => match l with
    | [] => []
    | v :: r =>
      if mode = 0 then bytesLE 4 v ++ packSamples mode fuel r
      else if mode = 1 then
        BitVec.ofNat 8 (((l.take 8).zipIdx).foldl (fun n p => n + p.1 * 2 ^ p.2) 0) :: packSamples mode fuel (l.drop 8)
      else BitVec.ofNat 8 v :: packSamples mode fuel r

/-- A privileged channel that meets an uncorrectable word (R347). -/
def State.faultPriv (s : State) (b : Nat) : State :=
  let s := s.unitFault 1 0x6000
  s.setPriv b { s.priv b with st := .faulted, stop := 4 }

/-- ACQ_READ (R344, R347). -/
def coreAcqRead (b : Nat) (first count : Word) (addr : U64) (s : State) : Answer :=
  let p := s.priv b
  let c := s.privCfg b
  let f := first.toInt
  let n := if -(p.preHeld : Int) ≤ f ∧ f < p.postHeld then min count.toNat ((p.postHeld : Int) - f).toNat else 0
  let at' (j : Nat) : Nat := ((p.trigW : Int) + f + j).toNat
  let good := ((List.range n).takeWhile (fun j => !s.undecodable (sampleAddr b c (at' j)))).length
  let bytes := packSamples c.mode (n + 1) ((List.range good).map (fun j => s.getSample b c (at' j)))
  let r : Refusals :=
    { notPresent := decide (4 ≤ b), length := decide (c.len < count.toNat)
      range := decide (c.mode = 1) && (decide (f % 8 ≠ 0) || decide (count.toNat % 8 ≠ 0))
      illegal := decide (p.st ≠ .stopped) }
  let s1 := (s.setPriv b { p with copied := good }).dma addr.toNat bytes
  let s2 := if good < n then s1.faultPriv b else s1
  let detail := if r.notPresent then 4 else if r.length then 12 else if r.range then (if f % 8 ≠ 0 then 8 else 12) else good
  { refusals := r, detail := BitVec.ofNat 32 detail, state := s2 }

/-- Mask areas: staging and active (R351). -/
def maskStage (b : Nat) : Nat := 0x03660000 + 0x8000 * b
def maskActive (b : Nat) : Nat := 0x03640000 + 0x8000 * b

/-- ACQ_MASK_LOAD (R351). A point that does not decode is not judged (R347; log 125). -/
def cmdAcqMaskLoad (b : Nat) (s : State) : Refusals × State :=
  let p := s.priv b
  let c := s.privCfg b
  let bad := (List.range c.maskN).any (fun j =>
    !s.undecodable (maskStage b + 8 * j) &&
      realLt (sampleReal c.sel (s.mem.word (maskStage b + 8 * j + 4))) (sampleReal c.sel (s.mem.word (maskStage b + 8 * j))))
  ({ notPresent := decide (4 ≤ b), range := bad
     illegal := decide (p.st = .armed) || decide (p.st = .triggered) || p.maskLoading },
   s.setPriv b { p with maskLoading := true })

end Sys2Proof.Machine
end

