-- ==== Sys2Proof/Machine/StoreOps.lean ====
section
/-! DEFINITION. The store (16_store_audit_access): the two-bank stores (R538-R542), the bank fields with their ranges (R541,
R544), slot images, their authentication and their loading (R543-R545). -/

namespace Sys2Proof.Machine

/-! ### Bank fields -/

/-- The registers that may hold bank fields (R541, R542): every block's, and the pages of the mapped instances. -/
def State.bankOffs (s : State) : List Nat :=
  let inst := s.instances
  let axis (i : Nat) : List Nat := ((List.range 256).map (fun j => axOff i (4 * j)))
  let gen (g : Nat) : List Nat := (List.range 16).map (fun j => pfOff g (4 * j))
  [0x08, 0x1000, 0x1004, 0x1008, 0x20000, 0x20008, 0x2000C, 0x20010, 0x20014, 0x30000, 0x30008] ++
    (List.range 100).map (fun k => 0x30200 + 4 * k) ++
    (List.range 4).flatMap (fun r => [0x40000 + 0x4000 * r, 0x40008 + 0x4000 * r]) ++ [0x50000, 0x50010, 0x60000] ++
    (List.range 16).flatMap (fun c => [0x00, 0x04, 0x08, 0x0C].map (encOff c)) ++
    (List.range 8).flatMap (fun c => [0x00, 0x04, 0x08, 0x0C].map (serOff c)) ++
    (List.range 512).flatMap (fun i => [0x00, 0x04, 0x08].map (remOff i)) ++
    (List.range 16).map (fun c => chOff c 0) ++ (inst ++ (List.range 16).map (512 + ·)).flatMap gen ++
    [0x80000] ++ acqStagedOffs ++ [0x90000, 0xB0000] ++ plantStagedOffs ++ inst.flatMap axis

/-- The bank bits of a register. -/
def bankBits (off : Nat) : Word := match maskOf off with
  | some m => m.bank
  | none => 0

/-- Whether an offset lies in an axis page or generator page of an instance that the image does not map (R541, R544). -/
def State.unmappedPage (s : State) (off : Nat) : Bool :=
  if 0x100000 ≤ off then !s.mapped ((off - 0x100000) / 0x400)
  else if 0x74000 ≤ off ∧ off < 0x74000 + 0x40 * 512 then !s.mapped ((off - 0x74000) / 0x40)
  else false

/-- An axis page's field in range, judged alone (R134, R149-R160). -/
def axisFieldOk (o : Nat) (w : Word) : Bool :=
  match o with
  | 0x08 => decide (w.bits 4 4 ≤ 14)
  | 0x0C => decide (500 ≤ w.bits 16 10 ∧ w.bits 16 10 ≤ 1000) && w.bits 0 2 != 3
  | 0x20 => decide (1 ≤ w.bits 16 8) && decide (w.bits 8 4 ≤ 8) && decide (w.bits 0 5 < 20)
  | 0x30 => decide (1 ≤ w.bits 16 5 ∧ w.bits 16 5 ≤ 16) && decide (w.bits 0 6 < 32)
  | 0x34 => decide (0 ≤ w.mant)
  | 0x90 => decide (1 ≤ w.bits 0 8)
  | _ => true

/-- A generator page's field in range, judged alone (R175, R206-R211). -/
def genFieldOk (isLocal : Bool) (o : Nat) (w : Word) : Bool :=
  match o with
  | 0x00 => w.bits 4 2 != 3
  | 0x0C | 0x10 | 0x14 | 0x34 | 0x38 => decide (0 ≤ w.mant)
  | 0x18 | 0x1C | 0x20 | 0x24 | 0x28 => decide (0 < w.mant)
  | 0x30 => sourceOk (w.bits 0 8) isLocal && sourceOk (w.bits 8 8) isLocal && sourceOk (w.bits 16 8) isLocal
  | 0x3C => w.bits 8 8 != 0
  | _ => true

/-- A feedback page's field in range, judged alone (R240-R247). -/
def fbkFieldOk (off : Nat) (w : Word) : Bool :=
  if 0x61000 ≤ off ∧ off < 0x61400 then
    match off % 0x40 with
    | 0x04 => cprOk w
    | 0x08 => stillOk w
    | 0x0C => qerrOk w
    | _ => true
  else if 0x62000 ≤ off ∧ off < 0x62200 then
    match off % 0x40 with
    | 0x00 => decide (8 ≤ w.bits 16 6 ∧ w.bits 16 6 ≤ 32) &&
        (if w.bit 31 then decide (1 ≤ w.bits 0 4) else decide (8 ≤ w.bits 22 6 ∧ w.bits 22 6 ≤ 48))
    | 0x04 => decide (9 ≤ w.bits 0 10 ∧ w.bits 0 10 ≤ 999)
    | 0x08 => decide (1 ≤ w.bits 28 4) && decide (1 ≤ w.bits 0 28)
    | 0x0C => cprOk w
    | _ => true
  else if 0x64000 ≤ off ∧ off < 0x68000 then
    match off % 0x20 with
    | 0x00 => stillOk w
    | 0x04 => cprOk w
    | 0x08 => qerrOk w
    | _ => true
  else true

/-- A governor field in range, judged alone (R430-R433). -/
def govFieldOk (off : Nat) (w : Word) : Bool :=
  match off with
  | 0x20008 => decide (w.bits 16 5 ≤ 20) && decide (40 ≤ w.bits 0 8)
  | 0x20010 => decide (85 ≤ w.bits 24 8 ∧ w.bits 24 8 ≤ 125) && decide (60 ≤ w.bits 16 8 ∧ w.bits 16 8 ≤ 124) &&
      decide (1 ≤ w.bits 0 4)
  | 0x20014 => decide (1 ≤ w.bits 24 8 ∧ w.bits 24 8 ≤ 254) && decide (2 ≤ w.bits 0 8)
  | _ => true

/-- An acquisition field in range, judged alone (R331, R340, R354-R357). -/
def acqFieldOk (off : Nat) (w : Word) : Bool :=
  if off = 0x80010 then streamOk w 0
  else if off = 0x80014 then w.bits 0 12 == 0
  else if 0x80400 ≤ off ∧ off < 0x80600 then
    (if off % 0x20 = 0 then decide (w.bits 29 3 < 5) && w.bits 27 2 != 3 && decide (w.bits 22 3 ≤ 4) && w.bits 25 2 != 3 else true)
  else if 0x80800 ≤ off ∧ off < 0x80900 then
    match off % 0x40 with
    | 0x00 => w.bits 30 2 != 3 && (decide (w.bits 24 5 < 16) || w.bits 24 5 == 0x1F)
    | 0x08 => decide (16 ≤ w.bits 0 24 ∧ w.bits 0 24 ≤ 8388608)
    | 0x10 => w.bits 0 24 != 0
    | 0x28 => w.bits 29 2 != 3 && decide (w.bits 24 5 < 16) && decide (1 ≤ w.bits 0 13 ∧ w.bits 0 13 ≤ 4096)
    | _ => true
  else true

/-- Whether a bank field accepts a value, judged alone (R541, R544). -/
def fieldOk (off : Nat) (w : Word) : Bool :=
  if 0x100000 ≤ off then axisFieldOk (off % 0x400) w
  else if 0x74000 ≤ off ∧ off < 0x80000 then genFieldOk (decide (512 ≤ (off - 0x74000) / 0x40)) (off % 0x40) w
  else if 0x70100 ≤ off ∧ off < 0x70200 then w.bits 24 8 != 0
  else if 0x60000 ≤ off ∧ off < 0x70000 then fbkFieldOk off w
  else if 0x20000 ≤ off ∧ off < 0x30000 then govFieldOk off w
  else if 0x40000 ≤ off ∧ off < 0x50000 ∧ off % 0x4000 = 8 then ringCfgOk w
  else if 0x80000 ≤ off ∧ off < 0x90000 then acqFieldOk off w
  else if 0xD0000 ≤ off ∧ off < 0xE0000 then plantFieldOk off w
  else if off = 0x30008 then w.bits 0 16 != 0
  else true

/-- The pages and blocks that a commit checks across several fields: their staged registers, and whether they hold (R541). -/
def State.bankGroups (s : State) : List (List Nat × Bool) :=
  let gens := s.instances ++ (List.range 16).map (512 + ·)
  (s.instances.map (fun i => (axisStagedOffs.map (axOff i), s.axPageInRange i (s.servoWire i)))) ++
    gens.map (fun g => (genStagedOffs g, s.genPageInRange g)) ++
    (List.range 24).map (fun ch => (fbStagedOffs ch, s.fbPageOk ch)) ++
    (List.range 512).map (fun i => (fbStagedOffs (512 + i), s.fbPageOk (512 + i))) ++
    [([0x20008, 0x2000C, 0x20010, 0x20014], s.govInRange), (acqStagedOffs, s.acqInRange), (plantStagedOffs, s.plantOk)]

/-- A record applied: the bank bits of its register take the value, the others keep theirs. -/
def State.applyRecord (s : State) (off : Nat) (w : Word) : State :=
  let b := bankBits off
  s.setCfg off ((s.cfgW off &&& ~~~b) ||| (w &&& b))

/-- A record's test (R541): its offset names a bank field of a page that exists, and the field takes its value. -/
def State.recordOk (s : State) (p : Nat × Word) : Bool := bankBits p.1 != 0 && !s.unmappedPage p.1 && fieldOk p.1 p.2

/-! ### Banks (R538-R540) -/

/-- The MRAM address of a bank: `safe` selects the safety-parameter pair (R536). -/
def bankAddr (safe : Bool) (k : Nat) : Nat := if safe then 0x680000 + 0x10000 * k else 0x600000 + 0x40000 * k

/-- MAGIC of a bank (R538). -/
def bankMagic (safe : Bool) : List Byte := if safe then [0x48, 0x4D, 0x53, 0x42] else [0x48, 0x4D, 0x50, 0x42]

/-- MRAM bytes. -/
def Store.bytes (x : Store) (a n : Nat) : List Byte := (List.range n).map (fun j => Tab.get 0 x.mram (a + j))
def Store.word (x : Store) (a : Nat) : Word := BitVec.ofNat 32 (natLE (x.bytes a 4))

/-- The CHECK of a bank's bytes (R538): bytes 0x1C-0x1F read as 0. -/
def bankCheck (bs : List Byte) : Word := crc32c (bs.take 0x1C ++ bytesLE 4 0 ++ bs.drop 0x20)

/-- A valid bank (R539). -/
def Store.bankValid (x : Store) (safe : Bool) (k : Nat) : Bool :=
  let a := bankAddr safe k
  let len := (x.word (a + 8)).toNat
  let count := (x.word (a + 0x10)).toNat
  x.bytes a 4 == bankMagic safe && natLE (x.bytes (a + 4) 2) == 1 &&
    (if safe then len == 0x780 && count == 1 else decide (count ≤ 32764) && len == 32 + 8 * count) &&
    x.word (a + 0x1C) == bankCheck (x.bytes a len)

/-- The active bank of a pair (R539). -/
def Store.activeBank (x : Store) (safe : Bool) : Option Nat :=
  let seq (k : Nat) : Word := x.word (bankAddr safe k + 0xC)
  match x.bankValid safe 0, x.bankValid safe 1 with
  | true, true =>
    let d := (seq 1 - seq 0).toInt
    if 0 < d then some 1 else some 0
  | true, false => some 0
  | false, true => some 1
  | false, false => none

/-- The records of a parameter bank or of a parameter-defaults section. -/
def recordsAt (b : Nat → Byte) (o n : Nat) : List (Nat × Word) :=
  (List.range n).map (fun j => (leAt b (o + 8 * j) 4, wordAt b (o + 8 * j + 4)))

/-- The bytes of a bank written with a body (R538, R540): SEQ one above the active bank's, or 1. -/
def Store.bankBytes (x : Store) (safe : Bool) (active : Option Nat) (id : U64) (count : Nat) (body : List Byte) : List Byte × Word :=
  let seq : Word := match active with
    | some k => x.word (bankAddr safe k + 0xC) + 1
    | none => 1
  let head := bankMagic safe ++ bytesLE 2 1 ++ bytesLE 2 0 ++ bytesLE 4 (32 + body.length) ++ bytesLE 4 seq.toNat ++
    bytesLE 4 count ++ bytesLE 8 id.toNat
  (head ++ bytesLE 4 (bankCheck (head ++ bytesLE 4 0 ++ body)).toNat ++ body, seq)

/-- A bank write started (R540): it goes to the bank that is not active. -/
def State.startBank (s : State) (safe : Bool) (count : Nat) (body : List Byte) : State :=
  let active := if safe then s.store.safeBank else s.store.paramBank
  let b := s.store.bankBytes safe active s.image.id count body
  let w : BankWrite := ⟨match active with
    | some 0 => 1
    | _ => 0, b.1, b.2⟩
  { s with store := if safe then { s.store with busySafe := some w } else { s.store with busyParam := some w } }

/-- The records that ST_SAVE writes (R542): every bank field's committed value. -/
def State.saveRecords (s : State) : List (Nat × Word) :=
  (s.bankOffs.filter (fun o => bankBits o != 0)).map (fun o => (o, s.cfgW o &&& bankBits o))

/-! ### Slot images (R543, R544) -/

/-- A slot's bytes. -/
def Store.slotByte (x : Store) (n o : Nat) : Byte := Tab.get 0 x.mram (0x200000 * n + o)

/-- The fields of a slot's header (R543). -/
structure SlotHead where
  magic : List Byte
  format : Nat
  length : Nat
  version : Word
  id : U64
  tt : Nat × Nat
  scode : Nat × Nat
  param : Nat × Nat
  key : List Byte
  padOk : Bool
  deriving DecidableEq, Repr

/-- A slot's header read. -/
def Store.slotHead (x : Store) (n : Nat) : SlotHead :=
  let b := x.slotByte n
  let two (o : Nat) : Nat × Nat := (leAt b o 4, leAt b (o + 4) 4)
  { magic := bytesAt b 0 4, format := leAt b 4 2, length := leAt b 8 4, version := wordAt b 0xC, id := BitVec.ofNat 64 (leAt b 0x10 8)
    tt := two 0x18, scode := two 0x20, param := two 0x28, key := bytesAt b 0x40 32
    padOk := zeros b 6 2 && zeros b 0x30 16 && zeros b 0x60 32 }

/-- The blocks of a soft-plane code section (R543): fabric address and bytes, each block padded to 32 bytes. -/
def codeBlocks (b : Nat → Byte) (stop : Nat) : Nat → Nat → List (Nat × List Byte)
  | 0, _ => []
  | fuel + 1, o =>
    if stop ≤ o then []
    else
      let n := leAt b (o + 4) 4
      (leAt b o 4, bytesAt b (o + 8) n) :: codeBlocks b stop fuel (o + (8 + n + 31) / 32 * 32)

/-- The soft-plane code blocks of a slot. -/
def Store.softCode (x : Store) (n : Nat) : List (Nat × List Byte) :=
  let h := x.slotHead n
  codeBlocks (x.slotByte n) (h.scode.1 + h.scode.2) (h.scode.2 / 32 + 1) h.scode.1

/-- The parameter-defaults records of a slot (R543). -/
def Store.defaults (x : Store) (n : Nat) : List (Nat × Word) :=
  let h := x.slotHead n
  recordsAt (x.slotByte n) h.param.1 (h.param.2 / 8)

/-- The timetable image of a slot, its wiring with the slot's defaults (R541, log 2). -/
def Store.slotImage (x : Store) (n : Nat) : Image :=
  let h := x.slotHead n
  let w := Config.imageWiring (bytesAt (x.slotByte n) 0 h.length)
  parseImage (fun o => x.slotByte n (h.tt.1 + o)) { w with defaults := x.defaults n }

/-- Whether a section lies inside LENGTH - 64 at a multiple of 32 (R543). -/
def SlotHead.sectionOk (h : SlotHead) (p : Nat × Nat) : Bool := decide (p.1 % 32 = 0) && decide (p.1 + p.2 + 64 ≤ h.length)

/-- Whether soft-plane code lies in region SRAM that an image leaves to the soft plane (R392, R543). -/
def codeAllowed (im : Image) (p : Nat × List Byte) : Bool :=
  let last := p.1 + p.2.length - 1
  p.2.isEmpty || (inRegion p.1 && inRegion last && decide (last % 0x200000 < 0x1FF000) && decide (p.1 / 0x200000 = last / 0x200000) &&
    (List.range (last / 4096 + 1 - p.1 / 4096)).all (fun j => !im.usesPage (p.1 / 4096 + j)))

/-- Step 1 of R544: the header's constants and offsets, and the places of the soft-plane code. -/
def Store.headOk (x : Store) (n : Nat) : Bool :=
  let h := x.slotHead n
  h.magic == [0x48, 0x4D, 0x49, 0x47] && h.format == 1 && h.padOk && decide (h.length ≤ 2097152) && decide (h.length % 32 = 0) &&
    decide (192 ≤ h.length) && h.sectionOk h.tt && h.sectionOk h.scode && h.sectionOk h.param && h.id == (x.slotImage n).id &&
    (x.softCode n).all (codeAllowed (x.slotImage n))

/-- Whether an owner key's place matches a public key (R544): present and not revoked. -/
def OwnerKey.accepts (k : OwnerKey) (key : List Byte) : Bool := k.hash == some (Config.sha256 key) && !k.revoked

/-- Step 6 of R544: the parameter defaults, and the pages and blocks of which they hold a record (log 8). -/
def State.defaultsOk (s : State) (im : Image) (records : List (Nat × Word)) : Bool :=
  let blank := { s with regs := {}, tt := { s.tt with running := some im } }
  let judged := records.filter (fun p => !blank.unmappedPage p.1)
  let full := judged.foldl (fun s p => s.applyRecord p.1 p.2) blank
  judged.all (fun p => bankBits p.1 != 0 && fieldOk p.1 p.2) &&
    (judged.isEmpty || full.bankGroups.all (fun g => g.2 || !(judged.any (fun p => g.1.contains p.1))))

/-- The authentication of a slot (R544): the refusal of its first failing step; a step that is no check of R68 names CHECK 0, and
no index (R83). -/
def State.authenticate (s : State) (n : Nat) : Option LoadFail :=
  let x := s.store
  let h := x.slotHead n
  let im := x.slotImage n
  let auth : LoadFail := failAt codeAuth 0
  if !x.headOk n then some auth
  else if !(x.ident.key0.accepts h.key || x.ident.key1.accepts h.key) then some auth
  else if !Config.verifies h.key (bytesAt (x.slotByte n) 0 (h.length - 64)) (bytesAt (x.slotByte n) (h.length - 64) 64) then some auth
  else if h.version < x.ident.minVersion then some auth
  else match loaderChecks (fun o => x.slotByte n (h.tt.1 + o)) im with
    | some f => some f
    | none => if s.defaultsOk im (x.defaults n) then none else some (failAt codeRange 0)

end Sys2Proof.Machine
end

