-- ==== Sys2Proof/Machine/CmdSafe.lean ====
section
/-! DEFINITION. The safety commands (R490) and the steps of the brake test (R485). -/

namespace Sys2Proof.Machine

/-- SF_LOAD (R474, R488-R490): an accepted set replaces one that awaits confirmation, and the island is UNCONFIRMED, with every
function demanded (R470). -/
def coreSfLoad (addr : Word) (s : State) : Answer :=
  let a := addr.toNat
  let inside := decide (a % 32 = 0) && inHostBuffers a 0x760
  let b := s.fetchBytes a 0x760
  let t := setOfBytes b.1
  let len := decide (setField t 6 2 ≠ 0x760)
  let x := s.safe
  let r : Refusals := { length := inside && len, range := !inside || !setInRange t s.periodNs
                        illegal := s.anyEnabled || x.state == 15 }
  { refusals := r
    detail := if r = {} then 0 else 4
    state := { b.2 with safe := { x.demandAll with state := 1, awaiting := some t, checkPending := checkValue t } }.switchOutputs }

/-- A set with its CONFIRM field (R488, R489). -/
def withConfirm (t : Tab Byte) (w : Word) : Tab Byte := hostBytes t 8 (bytesLE 4 w.toNat)

/-- The bytes of a set. -/
def setBytes (t : Tab Byte) : List Byte := (List.range 0x760).map (fun k => Tab.get 0 t k)

/-- SF_CONFIRM (R489, R490, R542): the set goes to the next safety bank, and the island runs with it; refused while a write of that
pair runs. -/
def coreSfConfirm (value : Word) (s : State) : Answer :=
  let x := s.safe
  let t := withConfirm (x.awaiting.getD []) value
  answer
    ({ illegal := x.awaiting.isNone || x.state != 1 || s.store.busySafe.isSome, mismatch := value != x.checkPending },
     ({ s with safe := { x with state := 2, confirmed := some t, awaiting := none, check := value } }).startBank true 1 (setBytes t))

/-- SF_DEMAND (R478, R490): the host demand is latched, and in RUN the function is evaluated at once. -/
def coreSfDemand (f : Nat) (s : State) : Answer :=
  let x := s.safe
  let y := x.setFn f { x.fn f with host := true }
  let z := if y.state = 2 then y.evalFn y.rules false f else y
  answerAt 4 ({ range := decide (31 < f) || (fnRule x.rules f).kind == 0 }, ({ s with safe := z }).switchOutputs)

/-- SF_RESET (R480, R490). -/
def coreSfReset (f : Nat) (s : State) : Answer :=
  let x := s.safe
  let r := fnRule x.rules f
  answerAt 4
    ({ range := decide (31 < f)
       illegal := x.state != 2 || !(x.fn f).wait || r.reset != 1 || x.inputDemand x.rules f },
     ({ s with safe := x.setFn f (x.fn f).release }).switchOutputs)

/-- SF_BRAKE_TEST (R485, R490): step 1. -/
def coreSfBrakeTest (b : Nat) (s : State) : Answer :=
  let x := s.safe
  let r := brkRule x.rules b
  answerAt 4
    ({ notPresent := decide (7 < b) || !r.used
       illegal := decide ((s.axis r.inst).st ≠ .auto) || decide ((s.gen r.inst).gst ≠ .idle) || s.safetyHolds r.inst ||
         !s.nodeRun (s.ringOf r.inst) (s.nodeOf r.inst) || x.bt.step != .none || (r.btDir != 0 && setLevel x.rules == 0) },
     ({ s with safe := { x with bt := { state := 1, channel := b, step := .settle } } }).switchOutputs)

/-! ### The brake test's steps -/

/-- The brake channel under test, by its record. -/
def State.btRule (s : State) : BrkRule := brkRule s.safe.rules s.safe.bt.channel

/-- TOTAL of the tested instance's feedback (R485). -/
def State.btTotal (s : State) : Int := match s.servoWire s.btRule.inst with
  | some w => (s.sample w.channel).total
  | none => 0

/-- Step 4 (R485): output 0 returns to the law with the preset of R137, the brake is energised where no demand forbids it, and
the outcome is logged with origin SAFE; a FAIL latches BT_FAIL. -/
def State.btFinish (s : State) (outcome : Nat) : State :=
  let x := s.safe
  let i := s.btRule.inst
  let a := s.axis i
  let s1 := if a.st = .auto ∧ x.bt.step ≠ .settle then
      s.setAxis i { a with firstAuto := true, manual := (List.range 4).map (stageWord a.uSat1) } else s
  let v := x.brk x.bt.channel
  let y := if outcome = 3 then x.setBrk x.bt.channel { v with btFail := true } else x
  (({ s1 with safe := { y with bt := { y.bt with state := outcome, step := .none, ending := 0 } } }).switchOutputs).logOther
    originSafe 0xA0028 (outcome * 2 ^ 8 + x.bt.channel)

/-- BRAKE_TEST_SETTLE_EXPIRY (R485): BT_SETTLE ms after step 1, step 2, or step 3 with BT_DIR 2. -/
def State.btSettle (s : State) : State :=
  if s.safe.bt.step ≠ .settle ∨ s.safe.bt.ran < 100 * s.btRule.btSettle then s
  else
    let bt := s.safe.bt
    { s with safe := { s.safe with bt := { bt with ran := 0, p0 := s.btTotal, step := if s.btRule.btDir = 2 then .minus else .plus } } }

/-- BRAKE_TEST_HOLD_EXPIRY (R485): BT_HOLD ms into a step, step 3, omitted with BT_DIR 1, or step 4. -/
def State.btHold (s : State) : State :=
  if s.safe.bt.ran < 100 * s.btRule.btHold then s
  else match s.safe.bt.step with
  | .plus =>
    if s.btRule.btDir = 1 then s.btFinish 2
    else { s with safe := { s.safe with bt := { s.safe.bt with ran := 0, step := .minus } } }
  | .minus => s.btFinish 2
  | _ => s

/-- The comparison of a passage of steps 2 and 3 (R485): MAX_DEV, and a deviation above BT_TOL fails the test. -/
def State.btCompare (s : State) : State :=
  let bt := s.safe.bt
  if bt.step = .plus ∨ bt.step = .minus then
    let d := (s.btTotal - bt.p0).natAbs
    { s with safe := { s.safe with bt := { bt with
        maxDev := max bt.maxDev (min d 0xFFFFFF)
        ending := if bt.ending = 0 ∧ s.btRule.btTol < d then 3 else bt.ending } } }
  else s

/-- The test at a passage start (R485): an outcome of the passage before ends it; an instance that has left AUTO aborts it. -/
def State.btStart (s : State) : State :=
  let bt := s.safe.bt
  if bt.step = .none then s
  else if decide ((s.axis s.btRule.inst).st ≠ .auto) then s.btFinish 4
  else if bt.ending ≠ 0 then s.btFinish bt.ending
  else s

/-- BRAKE_TEST_SETTLE_EXPIRY. -/
def execBrakeTestSettleExpiry (s : State) : Host.Outcome State Fault Refusal := .next s.btSettle
/-- BRAKE_TEST_HOLD_EXPIRY. -/
def execBrakeTestHoldExpiry (s : State) : Host.Outcome State Fault Refusal := .next s.btHold

end Sys2Proof.Machine
end

