-- ==== Sys2Proof/Machine/CmdRope.lean ====
section
/-! DEFINITION. The rope commands (R463). -/

namespace Sys2Proof.Machine

/-- Whether the peer is in step as SECOND, and whether it is a joiner (R463). -/
def State.hasSecond (s : State) : Bool := s.rope.role == 2 && s.rope.peerSeen && s.rope.peer.role == 3
def State.hasJoiner (s : State) : Bool := s.rope.role == 2 && s.rope.peerSeen && s.rope.peer.role == 4

/-- Whether a BELAY is healthy (R463): its heartbeat of the latest passage was valid. -/
def State.belayHealthy (s : State) : Bool := s.rope.belaySeen

/-- ROPE_HANDOVER (R463). In the SECOND, which applies it forwarded, the peer is the LEAD. -/
def cmdRopeHandover (c : Ctx) (p : Word) (s : State) : Refusals × State :=
  let d := (p - c.accepted).toInt
  let r := s.rope
  let second := s.hasSecond || r.role == 3
  let run := if r.role = 3 then r.matchRun else r.secondRun
  ({ range := decide (d < 4) || decide (16777216 ≤ d)
     illegal := !second || (!(s.cfgW 0x90000).bit 0 && !(s.belayHealthy && decide (1024 ≤ run))) && !c.forwarded },
   { s with rope := { r with handover := some p } })

/-- ROPE_REJOIN (R460, R463): the LEAD begins to copy; the STANDBY peer becomes JOINING. -/
def cmdRopeRejoin (c : Ctx) (s : State) : Refusals × State :=
  let r := s.rope
  let lead := r.role == 2 && r.peer.role == 5
  ({ illegal := !(lead || (c.forwarded && r.role == 5)), mismatch := decide (r.peer.image ≠ s.image.id) },
   if r.role = 5 then { s with rope := { r with stage := 1, checkRun := 0 } }.takeRole 4
   else { s with rope := { r with stage := 1, checkRun := 0, copied := 0 } })

/-- ROPE_DISMISS (R463): the SECOND or joiner becomes STANDBY. -/
def cmdRopeDismiss (c : Ctx) (s : State) : Refusals × State :=
  let r := s.rope
  let other := s.hasSecond || s.hasJoiner
  ({ illegal := !(other || (c.forwarded && (r.role == 3 || r.role == 4))) },
   if r.role = 3 ∨ r.role = 4 then
     { s with rope := { r with stage := 0, handover := none, dismissals := satAdd 255 r.dismissals 1 } }.takeRole 5
   else { s with rope := { r with stage := 0, handover := none, dismissals := satAdd 255 r.dismissals 1 } })

end Sys2Proof.Machine
end

