-- ==== Sys2Proof/Machine/CmdStore.lean ====
section
/-! DEFINITION. The store, audit and access commands (R542-R546, R553-R559). -/

namespace Sys2Proof.Machine

/-- An entry of a store event (R550): KIND 5. -/
def State.logStore (s : State) (origin code status : Nat) (subject value : Nat) : State :=
  s.logNow s.tt.passage origin 5 code status (BitVec.ofNat 32 subject) (BitVec.ofNat 32 value)

/-- Whether an object lies in the general staging area (R507). -/
def inStaging (a n : Nat) : Bool := decide (0x036E8000 ≤ a ∧ a + n ≤ 0x036F8000)

/-- ST_SAVE (R542, R559): a record for every bank field; more than a bank holds is LENGTH (log 43). -/
def coreStSave (s : State) : Answer :=
  let rs := s.saveRecords
  answer ({ length := decide (32764 < rs.length), illegal := s.store.busyParam.isSome },
    s.startBank false rs.length (rs.flatMap (fun p => bytesLE 4 p.1 ++ bytesLE 4 p.2.toNat)))

/-- Whether the basic boot level refuses a slot command (R545). -/
def State.slotHeld (s : State) : Bool := s.store.level == 0 && s.anyEnabled

/-- ST_IMG_WRITE (R546, R559). -/
def coreStImgWrite (slot : Nat) (offset addr length : Word) (s : State) : Answer :=
  let x := s.store
  let o := offset.toNat
  let n := length.toNat
  let a := addr.toNat
  let b := s.fetchBytes a n
  let long := decide (65536 < n) || decide (2097152 < o + n)
  let badLen := decide (n < 32) || decide (n % 32 ≠ 0)
  let badAddr := decide (a % 32 ≠ 0) || !inStaging a n
  let z := { b.2.store with mram := hostBytes b.2.store.mram (0x200000 * slot + o) b.1 }
  { refusals := { notPresent := decide (1 < slot), length := long
                  range := decide (o % 32 ≠ 0) || badAddr || badLen
                  illegal := s.slotHeld || slot == x.ident.bootSlot ||
                    (decide (s.tt.shadowState = .loading) && slot == s.tt.loadSlot) }
    detail := if 1 < slot then 4 else if long then 16 else if o % 32 ≠ 0 then 8 else if badAddr then 12 else
      if badLen then 16 else 0
    state := { b.2 with store := z.setSlot slot { z.slot slot with state := 1 } } }

/-- ST_IMG_SEAL (R544, R546): the slot becomes VALID or REFUSED; its CODE, and the command's status, say which step failed. -/
def coreStImgSeal (slot : Nat) (s : State) : Answer :=
  let x := s.store
  let f := s.authenticate slot
  let code := match f with
    | some f => f.code
    | none => codeOk
  let y := x.setSlot slot { state := if f.isNone then 2 else 3, code := code }
  { refusals := { notPresent := decide (1 < slot), illegal := (x.slot slot).state != 1 }
    detail := if 1 < slot then 4 else match f with
      | some f => f.detail
      | none => 0
    state := ({ s with store := y }).logStore originSelf 0x04 code slot 0
    status := code }

/-- ST_IMG_BOOT (R545, R546, R559): for the next PORn. -/
def coreStImgBoot (slot ratchet level : Nat) (s : State) : Answer :=
  let x := s.store
  { refusals := { notPresent := decide (1 < slot), range := decide (1 < ratchet) || decide (1 < level)
                  illegal := (x.slot slot).state != 2 || s.slotHeld }
    detail := if 1 < slot then 4 else if 1 < ratchet then 5 else if 1 < level then 6 else 0
    state := { s with store := { x with ident := { x.ident with
      bootSlot := slot, bootLevel := level
      nextMin := if ratchet = 1 then some (x.slotHead slot).version else x.ident.nextMin } } } }

/-- The bytes of `n` audit entries from number `first` on (R550). -/
def Store.entries (x : Store) (first : Word) (n : Nat) : List Byte :=
  (List.range n).flatMap (fun j => x.bytes (0x400000 + 32 * ((first.toNat + j) % 65536)) 32)

/-- The signature that ends a copy of the log (R553): zeros while the vault is erased. -/
def Store.signed (x : Store) (bs : List Byte) : List Byte :=
  if x.vaultErased then bytesLE 64 0 else Config.sign x.ident.attest (bs ++ bytesLE 8 x.ident.serial.toNat)

/-- ST_LOG_READ (R553): only held entries are copied; DETAIL is their count. -/
def coreStLogRead (first count : Word) (addr : U64) (s : State) : Answer :=
  let x := s.store
  let at' := (first - x.logAck).toNat
  let n := if at' < x.held then min count.toNat (x.held - at') else 0
  let bs := x.entries first n
  { refusals := { length := decide (2048 < count.toNat), range := count == 0 }
    detail := if count = 0 ∨ 2048 < count.toNat then 8 else BitVec.ofNat 32 n
    state := s.dma addr.toNat (bs ++ x.signed bs) }

/-- ST_LOG_ACK (R554). -/
def coreStLogAck (upto link : Word) (s : State) : Answer :=
  let x := s.store
  let d := (upto - x.logAck).toNat
  let last := BitVec.ofNat 32 (natLE (x.bytes (0x400000 + 32 * ((upto - 1).toNat % 65536) + 28) 4))
  answerAt 4 ({ range := decide (d < 1) || decide (x.held < d), mismatch := link != last },
    ({ s with store := { x with logAck := upto } }).logStore originSelf 0x0B 0 0 upto.toNat)

/-- ST_DEBUG_OPEN (R556): the vault's erasure begins. -/
def coreStDebugOpen (s : State) : Answer :=
  answer ({ illegal := s.anyEnabled }, { s with store := { s.store with opening := true } })

/-- ST_OWNER_KEY (R559): the hash of the key, for the next PORn. -/
def coreStOwnerKey (k : Nat) (addr : Word) (s : State) : Answer :=
  let b := s.fetchBytes addr.toNat 32
  let h := Config.sha256 b.1
  let d := s.store.ident
  let key := if k = 0 then d.key0 else d.key1
  let next := if k = 0 then d.next0 else d.next1
  let y := b.2.store
  pointAt 4 0 8 ({ notPresent := decide (1 < k), range := !inHostBuffers addr.toNat 32
                   illegal := key.hash.isSome || next.isSome },
    { b.2 with store := { y with ident := if k = 0 then { y.ident with next0 := some h } else { y.ident with next1 := some h } } })

/-- ST_OWNER_REVOKE (R559). -/
def coreStOwnerRevoke (k : Nat) (s : State) : Answer :=
  let x := s.store
  let d := x.ident
  let own := if k = 0 then d.key0 else d.key1
  let other := if k = 0 then d.key1 else d.key0
  let signed := own.hash == some (Config.sha256 (x.slotHead d.bootSlot).key)
  let d1 := if k = 0 then { d with key0 := { d.key0 with revoked := true } } else { d with key1 := { d.key1 with revoked := true } }
  pointAt 4 0 0 ({ notPresent := decide (1 < k), illegal := other.hash.isNone || other.revoked || signed },
    { s with store := { x with ident := d1 } })

/-- ST_TEAM (R559): the team block, for the next PORn. -/
def coreStTeam (addr : Word) (s : State) : Answer :=
  let b := s.fetchBytes addr.toNat 16
  let y := b.2.store
  pointAt 0 0 4 ({ range := !inHostBuffers addr.toNat 16 || fieldLE b.1 10 6 != 0
                   illegal := s.rope.role == 2 || s.rope.role == 3 || s.rope.role == 4 },
    { b.2 with store := { y with ident := { y.ident with
      nextTeam := some (BitVec.ofNat 32 (fieldLE b.1 0 4), BitVec.ofNat 48 (fieldLE b.1 4 6)) } } })

end Sys2Proof.Machine
end

