-- ==== Sys2Proof/Machine/HostCmds.lean ====
section
/-! DEFINITION. The host commands as rows (R518-R520, R548): their entries, their rights, what each answers, and the meaning of
each row. -/

namespace Sys2Proof.Machine

/-! ### Entries (R518, R520) -/

/-- The arguments of a command code: their widths in order, and whether each is a single bit; none for a reserved code. -/
def argsOf (opc : Nat) : Option (List (Nat × Bool)) :=
  let n (ws : List Nat) : Option (List (Nat × Bool)) := some (ws.map (fun w => (w, false)))
  match opc with
  | 0x00 | 0x12 | 0x82 | 0x90 | 0xB0 | 0xC1 | 0xC2 | 0xE0 | 0xE6 => n []
  | 0x10 | 0x70 | 0x91 | 0x92 | 0x93 | 0x95 | 0xD2 | 0xD3 | 0xD4 | 0xE2 | 0xE8 => n [1]
  | 0x11 | 0x81 | 0xC0 | 0xD0 | 0xD1 | 0xE9 => n [4]
  | 0x40 | 0x44 => n [2, 1]
  | 0x41 | 0x43 | 0x46 | 0x52 | 0x53 | 0x54 | 0x56 | 0x60 | 0x61 | 0xA2 => n [2]
  | 0x42 => some [(2, false), (1, false), (1, true)]
  | 0x45 => n [2, 1, 1]
  | 0x50 | 0x51 => some [(2, false), (8, false), (4, false), (1, true), (1, true)]
  | 0x55 => some [(2, false), (1, false), (1, false), (4, false), (8, false), (4, false), (1, true)]
  | 0x57 => some [(1, false), (1, true)]
  | 0x71 | 0x72 => n [1, 1]
  | 0x73 => n [1, 1, 1, 2, 4]
  | 0x80 => n [8]
  | 0x94 => n [1, 4, 4, 8]
  | 0xA0 => n [2, 4]
  | 0xA1 => n [2, 1, 4]
  | 0xE1 => n [1, 4, 4, 4]
  | 0xE3 => n [1, 1, 1]
  | 0xE4 => n [4, 4, 8]
  | 0xE5 => n [4, 4]
  | 0xE7 => n [1, 4]
  | _ => none

/-- The places of a command's arguments in its entry: offset, width, single bit. -/
def placesOf : Nat → List (Nat × Bool) → List (Nat × Nat × Bool)
  | _, [] => []
  | o, (w, flag) :: r =>
    let at' := (o + w - 1) / w * w
    (at', w, flag) :: placesOf (at' + w) r

/-- The arguments that an entry holds. -/
def argValues (opc : Nat) (e : List Byte) : List Nat := match argsOf opc with
  | some l => (placesOf 4 l).map (fun p => fieldLE e p.1 p.2.1)
  | none => []

/-- The first byte of an entry that breaks its format (R518): a reserved code, byte 1, padding, a single bit above 1. -/
def badByte (e : List Byte) : Option Nat :=
  let opc := (nthD 0 e 0).toNat
  match argsOf opc with
  | none => some 0
  | some l =>
    let ps := placesOf 4 l
    let bad (k : Nat) : Bool :=
      if k = 0 ∨ k = 2 ∨ k = 3 then false
      else match ps.find? (fun p => decide (p.1 ≤ k) && decide (k < p.1 + p.2.1)) with
        | some p => p.2.2 && decide (1 < (nthD 0 e k).toNat)
        | none => nthD 0 e k != 0
    (List.range 32).find? bad

/-- Bytes written over a list from an offset. -/
def overlay (e : List Byte) (o : Nat) : List Byte → List Byte
  | [] => e
  | b :: r => overlay (setNth e o b) (o + 1) r

/-- An entry of a command with its arguments (R518). -/
def entryOf (opc tag : Nat) (args : List Nat) : List Byte :=
  let blank := [BitVec.ofNat 8 opc, 0#8] ++ bytesLE 2 tag ++ bytesLE 28 0
  (((placesOf 4 ((argsOf opc).getD [])).zip args)).foldl (fun e p => overlay e p.1.1 (bytesLE p.1.2.1 p.2)) blank

/-! ### Rights and logging (R548, R519, R559) -/

/-- The right that a command needs (R548): none for NOP, the stop commands and SF_DEMAND; CH_ENABLE 1 needs MOTION. -/
def rightOf (opc : Nat) (args : List Nat) : Option Nat :=
  if opc = 0x57 then (if nthD 0 args 1 = 1 then some 0 else none)
  else if opc = 0x00 ∨ opc = 0x41 ∨ opc = 0x53 ∨ opc = 0x54 ∨ opc = 0xD2 then none
  else if [0x40, 0x42, 0x46, 0x50, 0x51, 0x52, 0x55, 0xA1, 0xA2, 0x91, 0x92, 0x93, 0x94].contains opc then some 0
  else if 0x10 ≤ opc ∧ opc ≤ 0x12 then some 3
  else if 0xE1 ≤ opc ∧ opc ≤ 0xE3 then some 3
  else if opc = 0xE0 ∨ (0xE7 ≤ opc ∧ opc ≤ 0xE9) then some 4
  else if 0xD0 ≤ opc ∧ opc ≤ 0xD4 then some 5
  else if opc = 0xE4 ∨ opc = 0xE5 then some 6
  else if 0xC0 ≤ opc ∧ opc ≤ 0xC2 then some 7
  else if opc = 0xE6 then some 8
  else some 1

/-- Whether a command is logged: all but NOP, MV_QUEUE, MV_CHANGE, MV_FLUSH, the channel commands of ACQ, SP_POST, SP_DROP and
ST_LOG_READ (R168, R352, R404, R520, R559); a reserved code names no command. -/
def isLogged (opc : Nat) : Bool :=
  (argsOf opc).isSome && !([0x00, 0x50, 0x51, 0x52, 0x91, 0x92, 0x93, 0x94, 0xA1, 0xA2, 0xE4].contains opc)

/-- What R16, R519 and R551 need of a command with its arguments. -/
def infoOf (opc : Nat) (args : List Nat) : CmdInfo :=
  ⟨opc, rightOf opc args, isLogged opc, BitVec.ofNat 32 (fieldLE (entryOf opc 0 args) 4 4)⟩

/-- Whether a command is a stop command or SF_DEMAND, and never refused with LOG_FULL or BACKPRESSURE (R17); ST_LOG_ACK is never
refused with LOG_FULL (R554). -/
def isStop (opc : Nat) (args : List Nat) : Bool :=
  opc == 0x41 || opc == 0x53 || opc == 0x54 || opc == 0xD2 || (opc == 0x57 && nthD 0 args 1 == 0)
def logExempt (opc : Nat) (args : List Nat) : Bool := isStop opc args || opc == 0xE5

/-! ### What each command answers: its check and effect, and the byte that DETAIL names (R519) -/

def coreNop (s : State) : Answer := answer ({}, s)
def coreTtLoad (c : Ctx) (slot : Nat) (s : State) : Answer := pointAt 4 0 0 (cmdTtLoad c slot s)
def coreTtSwap (c : Ctx) (p : Word) (s : State) : Answer := pointAt 0 0 4 (cmdTtSwap c p s)
def coreTtCancel (c : Ctx) (s : State) : Answer := answer (cmdTtCancel c s)
def coreAxEnable (i mode : Nat) (s : State) : Answer := pointAt 4 0 6 (cmdAxEnable (s.safetyHolds i) i mode s)
def coreAxDisable (i : Nat) (s : State) : Answer := pointAt 4 0 0 (cmdAxDisable i s)
def coreAxMode (i mode : Nat) (noPreset : Bool) (s : State) : Answer := pointAt 4 0 6 (cmdAxMode i mode (bitNat noPreset) s)
def coreAxCommit (i : Nat) (s : State) : Answer := pointAt 4 0 0 (cmdAxCommit i s)
def coreAxRetune (i k : Nat) (s : State) : Answer := pointAt 4 0 (if s.axRegions i ≤ k then 6 else 0) (cmdAxRetune i k s)
def coreAxSetLoad (i k f : Nat) (s : State) : Answer := pointAt 4 0 (if s.axRegions i ≤ k then 6 else 7) (cmdAxSetLoad i k f s)
def coreAxClear (i : Nat) (s : State) : Answer := pointAt 4 0 0 (cmdAxClear (!s.safetyHolds i) i s)
def coreMvQueue (g : Nat) (target : Int) (vmax : Word) (relative blend : Bool) (s : State) : Answer :=
  let start := (s.gen g).startPoint
  let t := if relative then start + target else target
  pointAt 4 0 (if (2 : Int) ^ 47 ≤ ((t - start).natAbs : Int) then 8 else 16) (cmdMvQueue g target vmax relative blend s)
def coreMvChange (g : Nat) (target : Int) (vmax : Word) (chTarget chVmax : Bool) (s : State) : Answer :=
  let far := chTarget && decide ((2 : Int) ^ 47 ≤ ((target - (s.gen g).moveStart).natAbs : Int))
  pointAt 4 0 (if far then 8 else 16) (cmdMvChange g target vmax chTarget chVmax s)
def coreMvFlush (g : Nat) (s : State) : Answer := pointAt 4 0 0 (cmdMvFlush g s)
def coreMvQstop (g : Nat) (s : State) : Answer := pointAt 4 0 0 (cmdMvQstop g s)
def coreMvHstop (g : Nat) (s : State) : Answer := pointAt 4 0 0 (cmdMvHstop g s)
def coreMvHome (g method dir : Nat) (vsearch : Word) (homePos : Int) (range : Nat) (fly : Bool) (s : State) : Answer :=
  let d := if 4 < method ∨ !s.methodAllowed g method dir then 6 else if 1 < dir then 7
    else if method ≠ 0 ∧ (vsearch.mant ≤ 0 ∨ s.overRate g vsearch) then 8
    else if range = 0 ∨ 2 ^ 31 ≤ range then 24 else 28
  pointAt 4 0 d (cmdMvHome g method dir vsearch homePos range fly s)
def corePfCommit (g : Nat) (s : State) : Answer := pointAt 4 0 0 (cmdPfCommit g s)
def coreChEnable (ch : Nat) (enable : Bool) (s : State) : Answer := pointAt 4 0 0 (cmdChEnable (s.safetyBlocks ch) ch enable s)
def coreFbCommit (ch : Nat) (s : State) : Answer := pointAt 4 0 0 (cmdFbCommit ch s)
def coreFbClear (ch : Nat) (s : State) : Answer := pointAt 4 0 0 (cmdFbClear ch s)
def coreRgCommit (r : Nat) (s : State) : Answer := pointAt 4 0 0 (cmdRgCommit r s)
def coreRgReopen (r n : Nat) (s : State) : Answer := pointAt (if 4 ≤ r then 4 else 5) 0 0 (cmdRgReopen r n s)
def coreRgResync (r n : Nat) (s : State) : Answer := pointAt (if 4 ≤ r then 4 else 5) 0 0 (cmdRgResync r n s)
def coreRgAsend (r n proto len : Nat) (addr : Word) (s : State) : Answer :=
  pointAt (if 4 ≤ r then 4 else 5) 8 12 (cmdRgAsend r n proto len addr s)
def coreTimeStep (delta : U64) (s : State) : Answer := pointAt 0 0 8 (cmdTimeStep delta s)
def coreTimeRate (rate : Word) (s : State) : Answer := pointAt 0 0 4 (cmdTimeRate rate s)
def corePtpCommit (s : State) : Answer := pointAt 0 0 0 (cmdPtpCommit s)
def coreAcqCommit (s : State) : Answer := pointAt 0 0 0 (cmdAcqCommit s)
def coreAcqArm (ch : Nat) (s : State) : Answer := pointAt 4 0 0 (cmdAcqArm ch s)
def coreAcqDisarm (ch : Nat) (s : State) : Answer := pointAt 4 0 0 (cmdAcqDisarm ch s)
def coreAcqForce (ch : Nat) (s : State) : Answer := pointAt 4 0 0 (cmdAcqForce ch s)
def coreAcqMaskLoad (ch : Nat) (s : State) : Answer := pointAt 4 0 0 (cmdAcqMaskLoad ch s)
def coreSpDesc (d : Nat) (addr : Word) (s : State) : Answer :=
  pointAt 4 0 (if addr.toNat % 32 ≠ 0 ∨ !inSoftArea addr.toNat then 8 else 0) (cmdSpDesc d addr s)
def coreSpPost (d slot : Nat) (value : Word) (s : State) : Answer := pointAt 4 0 6 (cmdSpPost d slot value s)
def coreSpDrop (d : Nat) (s : State) : Answer := pointAt 4 0 0 (cmdSpDrop d s)
def coreGovCommit (s : State) : Answer := pointAt 0 0 0 (cmdGovCommit s)
def coreRopeHandover (c : Ctx) (p : Word) (s : State) : Answer := pointAt 0 0 4 (cmdRopeHandover c p s)
def coreRopeRejoin (c : Ctx) (s : State) : Answer := answer (cmdRopeRejoin c s)
def coreRopeDismiss (c : Ctx) (s : State) : Answer := answer (cmdRopeDismiss c s)

/-- The check and effect of the command that an entry holds. -/
def coreOf (c : Ctx) (opc : Nat) (v : List Nat) (s : State) : Answer :=
  let n (k : Nat) : Nat := nthD 0 v k
  let w (k : Nat) : Word := BitVec.ofNat 32 (n k)
  let d (k : Nat) : U64 := BitVec.ofNat 64 (n k)
  let b (k : Nat) : Bool := n k != 0
  match opc with
  | 0x10 => coreTtLoad c (n 0) s
  | 0x11 => coreTtSwap c (w 0) s
  | 0x12 => coreTtCancel c s
  | 0x40 => coreAxEnable (n 0) (n 1) s
  | 0x41 => coreAxDisable (n 0) s
  | 0x42 => coreAxMode (n 0) (n 1) (b 2) s
  | 0x43 => coreAxCommit (n 0) s
  | 0x44 => coreAxRetune (n 0) (n 1) s
  | 0x45 => coreAxSetLoad (n 0) (n 1) (n 2) s
  | 0x46 => coreAxClear (n 0) s
  | 0x50 => coreMvQueue (n 0) (d 1).toInt (w 2) (b 3) (b 4) s
  | 0x51 => coreMvChange (n 0) (d 1).toInt (w 2) (b 3) (b 4) s
  | 0x52 => coreMvFlush (n 0) s
  | 0x53 => coreMvQstop (n 0) s
  | 0x54 => coreMvHstop (n 0) s
  | 0x55 => coreMvHome (n 0) (n 1) (n 2) (w 3) (d 4).toInt (n 5) (b 6) s
  | 0x56 => corePfCommit (n 0) s
  | 0x57 => coreChEnable (n 0) (b 1) s
  | 0x60 => coreFbCommit (n 0) s
  | 0x61 => coreFbClear (n 0) s
  | 0x70 => coreRgCommit (n 0) s
  | 0x71 => coreRgReopen (n 0) (n 1) s
  | 0x72 => coreRgResync (n 0) (n 1) s
  | 0x73 => coreRgAsend (n 0) (n 1) (n 2) (n 3) (w 4) s
  | 0x80 => coreTimeStep (d 0) s
  | 0x81 => coreTimeRate (w 0) s
  | 0x82 => corePtpCommit s
  | 0x90 => coreAcqCommit s
  | 0x91 => coreAcqArm (n 0) s
  | 0x92 => coreAcqDisarm (n 0) s
  | 0x93 => coreAcqForce (n 0) s
  | 0x94 => coreAcqRead (n 0) (w 1) (w 2) (d 3) s
  | 0x95 => coreAcqMaskLoad (n 0) s
  | 0xA0 => coreSpDesc (n 0) (w 1) s
  | 0xA1 => coreSpPost (n 0) (n 1) (w 2) s
  | 0xA2 => coreSpDrop (n 0) s
  | 0xB0 => coreGovCommit s
  | 0xC0 => coreRopeHandover c (w 0) s
  | 0xC1 => coreRopeRejoin c s
  | 0xC2 => coreRopeDismiss c s
  | 0xD0 => coreSfLoad (w 0) s
  | 0xD1 => coreSfConfirm (w 0) s
  | 0xD2 => coreSfDemand (n 0) s
  | 0xD3 => coreSfReset (n 0) s
  | 0xD4 => coreSfBrakeTest (n 0) s
  | 0xE0 => coreStSave s
  | 0xE1 => coreStImgWrite (n 0) (w 1) (w 2) (w 3) s
  | 0xE2 => coreStImgSeal (n 0) s
  | 0xE3 => coreStImgBoot (n 0) (n 1) (n 2) s
  | 0xE4 => coreStLogRead (w 0) (w 1) (d 2) s
  | 0xE5 => coreStLogAck (w 0) (w 1) s
  | 0xE6 => coreStDebugOpen s
  | 0xE7 => coreStOwnerKey (n 0) (w 1) s
  | 0xE8 => coreStOwnerRevoke (n 0) s
  | 0xE9 => coreStTeam (w 0) s
  | _ => coreNop s

/-- What an entry's command needs, by its code: a malformed entry is logged as its command is, with its own bytes 4-7 (R518, R550,
R551). -/
def entryInfo (e : List Byte) : CmdInfo :=
  { infoOf (nthD 0 e 0).toNat (argValues (nthD 0 e 0).toNat e) with word1 := BitVec.ofNat 32 (fieldLE e 4 4) }

/-- An entry in the passage in which it is due (R516, R518, R519): a malformed one answers RANGE before every check, AUTH
included, and its refusal is logged where its command is one that is (R551). -/
def State.finishEntry (s : State) (c : Ctx) (entry : List Byte) (aside : Nat) : State :=
  let opc := (nthD 0 entry 0).toNat
  match badByte entry with
  | some k =>
    (s.logOutcome c (entryInfo entry) aside codeRange).result c.seq c.tag opc codeRange (BitVec.ofNat 32 k) s.tt.passage
  | none =>
    let v := argValues opc entry
    s.finish c (entryInfo entry) (coreOf c opc v) aside

/-- A host command that takes effect, by its code and arguments. -/
def State.hostCommand (s : State) (c : Ctx) (opc : Nat) (args : List Nat) (core : State → Answer) : State :=
  s.command c (infoOf opc args) core

/-! ### The rows -/

def execNopCommand (c : Ctx) (s : State) : Host.Outcome State Fault Refusal := .next (s.hostCommand c 0x00 [] coreNop)
def execTtLoad (c : Ctx) (slot : Nat) (s : State) : Host.Outcome State Fault Refusal :=
  .next (s.hostCommand c 0x10 [slot] (coreTtLoad c slot))
def execTtSwap (c : Ctx) (p : Word) (s : State) : Host.Outcome State Fault Refusal :=
  .next (s.hostCommand c 0x11 [p.toNat] (coreTtSwap c p))
def execTtCancel (c : Ctx) (s : State) : Host.Outcome State Fault Refusal := .next (s.hostCommand c 0x12 [] (coreTtCancel c))
def execAxEnable (c : Ctx) (i mode : Nat) (s : State) : Host.Outcome State Fault Refusal :=
  .next (s.hostCommand c 0x40 [i, mode] (coreAxEnable i mode))
def execAxDisable (c : Ctx) (i : Nat) (s : State) : Host.Outcome State Fault Refusal :=
  .next (s.hostCommand c 0x41 [i] (coreAxDisable i))
def execAxMode (c : Ctx) (i mode : Nat) (noPreset : Bool) (s : State) : Host.Outcome State Fault Refusal :=
  .next (s.hostCommand c 0x42 [i, mode, bitNat noPreset] (coreAxMode i mode noPreset))
def execAxCommit (c : Ctx) (i : Nat) (s : State) : Host.Outcome State Fault Refusal :=
  .next (s.hostCommand c 0x43 [i] (coreAxCommit i))
def execAxRetune (c : Ctx) (i k : Nat) (s : State) : Host.Outcome State Fault Refusal :=
  .next (s.hostCommand c 0x44 [i, k] (coreAxRetune i k))
def execAxSetLoad (c : Ctx) (i k f : Nat) (s : State) : Host.Outcome State Fault Refusal :=
  .next (s.hostCommand c 0x45 [i, k, f] (coreAxSetLoad i k f))
def execAxClear (c : Ctx) (i : Nat) (s : State) : Host.Outcome State Fault Refusal :=
  .next (s.hostCommand c 0x46 [i] (coreAxClear i))
def execMvQueue (c : Ctx) (g : Nat) (target : U64) (vmax : Word) (relative blend : Bool) (s : State) :
    Host.Outcome State Fault Refusal :=
  .next (s.hostCommand c 0x50 [g, target.toNat, vmax.toNat, bitNat relative, bitNat blend]
    (coreMvQueue g target.toInt vmax relative blend))
def execMvChange (c : Ctx) (g : Nat) (target : U64) (vmax : Word) (chTarget chVmax : Bool) (s : State) :
    Host.Outcome State Fault Refusal :=
  .next (s.hostCommand c 0x51 [g, target.toNat, vmax.toNat, bitNat chTarget, bitNat chVmax]
    (coreMvChange g target.toInt vmax chTarget chVmax))
def execMvFlush (c : Ctx) (g : Nat) (s : State) : Host.Outcome State Fault Refusal :=
  .next (s.hostCommand c 0x52 [g] (coreMvFlush g))
def execMvQstop (c : Ctx) (g : Nat) (s : State) : Host.Outcome State Fault Refusal :=
  .next (s.hostCommand c 0x53 [g] (coreMvQstop g))
def execMvHstop (c : Ctx) (g : Nat) (s : State) : Host.Outcome State Fault Refusal :=
  .next (s.hostCommand c 0x54 [g] (coreMvHstop g))
def execMvHome (c : Ctx) (g method dir : Nat) (vsearch : Word) (homePos : U64) (range : Word) (fly : Bool) (s : State) :
    Host.Outcome State Fault Refusal :=
  .next (s.hostCommand c 0x55 [g, method, dir, vsearch.toNat, homePos.toNat, range.toNat, bitNat fly]
    (coreMvHome g method dir vsearch homePos.toInt range.toNat fly))
def execPfCommit (c : Ctx) (g : Nat) (s : State) : Host.Outcome State Fault Refusal :=
  .next (s.hostCommand c 0x56 [g] (corePfCommit g))
def execChEnable (c : Ctx) (ch : Nat) (enable : Bool) (s : State) : Host.Outcome State Fault Refusal :=
  .next (s.hostCommand c 0x57 [ch, bitNat enable] (coreChEnable ch enable))
def execFbCommit (c : Ctx) (ch : Nat) (s : State) : Host.Outcome State Fault Refusal :=
  .next (s.hostCommand c 0x60 [ch] (coreFbCommit ch))
def execFbClear (c : Ctx) (ch : Nat) (s : State) : Host.Outcome State Fault Refusal :=
  .next (s.hostCommand c 0x61 [ch] (coreFbClear ch))
def execRgCommit (c : Ctx) (r : Nat) (s : State) : Host.Outcome State Fault Refusal :=
  .next (s.hostCommand c 0x70 [r] (coreRgCommit r))
def execRgReopen (c : Ctx) (r n : Nat) (s : State) : Host.Outcome State Fault Refusal :=
  .next (s.hostCommand c 0x71 [r, n] (coreRgReopen r n))
def execRgResync (c : Ctx) (r n : Nat) (s : State) : Host.Outcome State Fault Refusal :=
  .next (s.hostCommand c 0x72 [r, n] (coreRgResync r n))
def execRgAsend (c : Ctx) (r n proto len : Nat) (addr : Word) (s : State) : Host.Outcome State Fault Refusal :=
  .next (s.hostCommand c 0x73 [r, n, proto, len, addr.toNat] (coreRgAsend r n proto len addr))
def execTimeStep (c : Ctx) (delta : U64) (s : State) : Host.Outcome State Fault Refusal :=
  .next (s.hostCommand c 0x80 [delta.toNat] (coreTimeStep delta))
def execTimeRate (c : Ctx) (rate : Word) (s : State) : Host.Outcome State Fault Refusal :=
  .next (s.hostCommand c 0x81 [rate.toNat] (coreTimeRate rate))
def execPtpCommit (c : Ctx) (s : State) : Host.Outcome State Fault Refusal := .next (s.hostCommand c 0x82 [] corePtpCommit)
def execAcqCommit (c : Ctx) (s : State) : Host.Outcome State Fault Refusal := .next (s.hostCommand c 0x90 [] coreAcqCommit)
def execAcqArm (c : Ctx) (ch : Nat) (s : State) : Host.Outcome State Fault Refusal :=
  .next (s.hostCommand c 0x91 [ch] (coreAcqArm ch))
def execAcqDisarm (c : Ctx) (ch : Nat) (s : State) : Host.Outcome State Fault Refusal :=
  .next (s.hostCommand c 0x92 [ch] (coreAcqDisarm ch))
def execAcqForce (c : Ctx) (ch : Nat) (s : State) : Host.Outcome State Fault Refusal :=
  .next (s.hostCommand c 0x93 [ch] (coreAcqForce ch))
def execAcqRead (c : Ctx) (ch : Nat) (first count : Word) (addr : U64) (s : State) : Host.Outcome State Fault Refusal :=
  .next (s.hostCommand c 0x94 [ch, first.toNat, count.toNat, addr.toNat] (coreAcqRead ch first count addr))
def execAcqMaskLoad (c : Ctx) (ch : Nat) (s : State) : Host.Outcome State Fault Refusal :=
  .next (s.hostCommand c 0x95 [ch] (coreAcqMaskLoad ch))
def execSpDesc (c : Ctx) (d : Nat) (addr : Word) (s : State) : Host.Outcome State Fault Refusal :=
  .next (s.hostCommand c 0xA0 [d, addr.toNat] (coreSpDesc d addr))
def execSpPost (c : Ctx) (d slot : Nat) (value : Word) (s : State) : Host.Outcome State Fault Refusal :=
  .next (s.hostCommand c 0xA1 [d, slot, value.toNat] (coreSpPost d slot value))
def execSpDrop (c : Ctx) (d : Nat) (s : State) : Host.Outcome State Fault Refusal :=
  .next (s.hostCommand c 0xA2 [d] (coreSpDrop d))
def execGovCommit (c : Ctx) (s : State) : Host.Outcome State Fault Refusal := .next (s.hostCommand c 0xB0 [] coreGovCommit)
def execRopeHandover (c : Ctx) (p : Word) (s : State) : Host.Outcome State Fault Refusal :=
  .next (s.hostCommand c 0xC0 [p.toNat] (coreRopeHandover c p))
def execRopeRejoin (c : Ctx) (s : State) : Host.Outcome State Fault Refusal := .next (s.hostCommand c 0xC1 [] (coreRopeRejoin c))
def execRopeDismiss (c : Ctx) (s : State) : Host.Outcome State Fault Refusal :=
  .next (s.hostCommand c 0xC2 [] (coreRopeDismiss c))
def execSfLoad (c : Ctx) (addr : Word) (s : State) : Host.Outcome State Fault Refusal :=
  .next (s.hostCommand c 0xD0 [addr.toNat] (coreSfLoad addr))
def execSfConfirm (c : Ctx) (value : Word) (s : State) : Host.Outcome State Fault Refusal :=
  .next (s.hostCommand c 0xD1 [value.toNat] (coreSfConfirm value))
def execSfDemand (c : Ctx) (f : Nat) (s : State) : Host.Outcome State Fault Refusal :=
  .next (s.hostCommand c 0xD2 [f] (coreSfDemand f))
def execSfReset (c : Ctx) (f : Nat) (s : State) : Host.Outcome State Fault Refusal :=
  .next (s.hostCommand c 0xD3 [f] (coreSfReset f))
def execSfBrakeTest (c : Ctx) (b : Nat) (s : State) : Host.Outcome State Fault Refusal :=
  .next (s.hostCommand c 0xD4 [b] (coreSfBrakeTest b))
def execStSave (c : Ctx) (s : State) : Host.Outcome State Fault Refusal := .next (s.hostCommand c 0xE0 [] coreStSave)
def execStImgWrite (c : Ctx) (slot : Nat) (offset addr length : Word) (s : State) : Host.Outcome State Fault Refusal :=
  .next (s.hostCommand c 0xE1 [slot, offset.toNat, addr.toNat, length.toNat] (coreStImgWrite slot offset addr length))
def execStImgSeal (c : Ctx) (slot : Nat) (s : State) : Host.Outcome State Fault Refusal :=
  .next (s.hostCommand c 0xE2 [slot] (coreStImgSeal slot))
def execStImgBoot (c : Ctx) (slot ratchet level : Nat) (s : State) : Host.Outcome State Fault Refusal :=
  .next (s.hostCommand c 0xE3 [slot, ratchet, level] (coreStImgBoot slot ratchet level))
def execStLogRead (c : Ctx) (first count : Word) (addr : U64) (s : State) : Host.Outcome State Fault Refusal :=
  .next (s.hostCommand c 0xE4 [first.toNat, count.toNat, addr.toNat] (coreStLogRead first count addr))
def execStLogAck (c : Ctx) (upto link : Word) (s : State) : Host.Outcome State Fault Refusal :=
  .next (s.hostCommand c 0xE5 [upto.toNat, link.toNat] (coreStLogAck upto link))
def execStDebugOpen (c : Ctx) (s : State) : Host.Outcome State Fault Refusal := .next (s.hostCommand c 0xE6 [] coreStDebugOpen)
def execStOwnerKey (c : Ctx) (k : Nat) (addr : Word) (s : State) : Host.Outcome State Fault Refusal :=
  .next (s.hostCommand c 0xE7 [k, addr.toNat] (coreStOwnerKey k addr))
def execStOwnerRevoke (c : Ctx) (k : Nat) (s : State) : Host.Outcome State Fault Refusal :=
  .next (s.hostCommand c 0xE8 [k] (coreStOwnerRevoke k))
def execStTeam (c : Ctx) (addr : Word) (s : State) : Host.Outcome State Fault Refusal :=
  .next (s.hostCommand c 0xE9 [addr.toNat] (coreStTeam addr))

end Sys2Proof.Machine
end

