-- ==== Sys2Proof/Machine/Flags.lean ====
section
/-! DEFINITION. The flag register FLG of a Luestox unit (R370): which events raise which sticky bit, and its clearing. -/

namespace Sys2Proof.Machine

/-- FLG's bits for a set of events (R370): SAT 0, OVF 1, ECLAMP 2, ZERO 3. -/
def Events.flg (e : Events) : BitVec 4 :=
  BitVec.ofNat 4 (bitNat e.sat + 2 * bitNat e.ovf + 4 * bitNat e.eclamp + 8 * bitNat e.zero)

/-- Events raised: the bits are sticky (R370). -/
def Lux.raise (x : Lux) (e : Events) : Lux := { x with flg := x.flg ||| e.flg }

/-- SAT raised when an operation says so. -/
def Lux.raiseSat (x : Lux) (sat : Bool) : Lux := x.raise { sat := sat }

/-- CLRF: the bits of a mask cleared (R375). -/
def Lux.clearFlags (x : Lux) (mask : BitVec 4) : Lux := { x with flg := x.flg &&& ~~~mask }

end Sys2Proof.Machine
end

