-- ==== Sys2Proof/Machine/Operands.lean ====
section
/-! DEFINITION. The operand forms of Luestox: units (R359), register classes and their numbers (R365), which fields an
instruction uses (R364), memory operands of T units (R367), the selector (R92, R368), S addresses (R385). -/

namespace Sys2Proof.Machine

/-- The kind of a unit (R359): an axis engine, a DSP unit, an S-core. -/
inductive UnitKind
  | ae
  | dsp
  | score
  deriving DecidableEq, Repr

/-- The kind of a unit by its number. -/
def unitKind (u : Nat) : UnitKind := if u < 64 then .ae else if u < 80 then .dsp else .score

/-! ### Registers -/

/-- A scalar (R365). -/
def Lux.s (x : Lux) (n : Nat) : Word := Tab.get 0 x.sr n
def Lux.setS (x : Lux) (n : Nat) (w : Word) : Lux := { x with sr := Tab.put 0 x.sr n w }
/-- A stage (R90). -/
def Lux.v (x : Lux) (n : Nat) : Stage := Tab.get Stage.zero x.vr n
def Lux.setV (x : Lux) (n : Nat) (st : Stage) : Lux := { x with vr := Tab.put Stage.zero x.vr n st }
/-- An accumulator (R88). -/
def Lux.acc (x : Lux) (n : Nat) : Acc := Tab.get Acc.zero x.ar n
def Lux.setAcc (x : Lux) (n : Nat) (a : Acc) : Lux := { x with ar := Tab.put Acc.zero x.ar n a }
/-- A pointer (R365). -/
def Lux.p (x : Lux) (n : Nat) : Word := Tab.get 0 x.pr n
def Lux.setP (x : Lux) (n : Nat) (w : Word) : Lux := { x with pr := Tab.put 0 x.pr n w }

/-- The width of the index registers (R359). -/
def xWidth (u : Nat) : Nat := if u < 64 then 13 else 15

/-- An index register: x0 reads 0 (R365). -/
def Lux.x (x : Lux) (n : Nat) : Nat := if n = 0 then 0 else Tab.get 0 x.xr n

/-- An index register written, modulo its width; a write to x0 is discarded (R365). -/
def Lux.setX (x : Lux) (u n : Nat) (v : Int) : Lux :=
  if n = 0 then x else { x with xr := Tab.put 0 x.xr n (v % 2 ^ xWidth u).toNat }

/-! ### Fields (R363-R365) -/

/-- What a register field holds: nothing, a register of a class, or a lane. -/
inductive Cls
  | none
  | v
  | acc
  | s
  | x
  | p
  | lane
  deriving DecidableEq, Repr

/-- The numbers of a class (R365). -/
def Cls.limit : Cls → Nat
  | .none => 1
  | .v => 32
  | .acc => 8
  | .s => 16
  | .x => 8
  | .p => 8
  | .lane => 8

/-- What an instruction uses of its word: the classes of D, A and B, a memory operand, the modifier bits and the immediate
bits. -/
structure Uses where
  d : Cls := .none
  a : Cls := .none
  b : Cls := .none
  /-- X and M name a memory operand of a T unit; its IMM bits are OFF, and INC in mode 1 (R367) -/
  ea : Bool := false
  /-- X names the pointer of an S access (R385) -/
  ptr : Bool := false
  f : Nat := 0
  imm : Word := 0
  deriving DecidableEq, Repr

/-- The IMM bits of a memory operand (R367): OFF, and INC where the mode uses it (log 14). -/
def eaImm (m : Nat) : Word := if m = 1 then 0x00FF3FFF#32 else 0x00003FFF#32

/-- Whether a number's bits lie in a mask. -/
def within (n mask : Nat) : Bool := n &&& mask == n

/-- Whether every field that an instruction does not use is 0, and every register number is of its class (R364, R365). -/
def Uses.fits (u : Uses) (f : Fields) : Bool :=
  decide (f.d < u.d.limit) && decide (f.a < u.a.limit) && decide (f.b < u.b.limit) &&
  decide (f.x < (if u.ea || u.ptr then 8 else 1)) && decide (f.m < (if u.ea then 3 else 1)) &&
  within f.f u.f && decide (f.f < 16) &&
  (f.imm &&& ~~~(if u.ea then eaImm f.m else u.imm)) == 0

/-- The modifiers C, N and P (R363). -/
def Fields.c (f : Fields) : Bool := f.f.testBit 0
def Fields.n (f : Fields) : Bool := f.f.testBit 1
def Fields.p (f : Fields) : Bool := f.f.testBit 3

/-- The fields of an instruction word (R363), and its opcode. -/
def fieldsOf (w : U64) : Nat × Fields :=
  let n := w.toNat
  (n / 2 ^ 56, { d := n / 2 ^ 51 % 32, a := n / 2 ^ 46 % 32, b := n / 2 ^ 41 % 32, x := n / 2 ^ 38 % 8, m := n / 2 ^ 36 % 4
                 f := n / 2 ^ 32 % 16, imm := lo32 w })

/-- The instruction word of an opcode and its fields (R363). -/
def wordOfFields (opc : Nat) (f : Fields) : U64 :=
  BitVec.ofNat 64 (opc * 2 ^ 56 + f.d * 2 ^ 51 + f.a * 2 ^ 46 + f.b * 2 ^ 41 + f.x * 2 ^ 38 + f.m * 2 ^ 36 + f.f * 2 ^ 32 +
    f.imm.toNat)

/-! ### What an instruction does -/

/-- What one instruction comes to. -/
inductive LuxRes
  /-- it takes effect, and the next instruction follows -/
  | done (s : State)
  /-- it takes effect, and a branch goes to an address (R384) -/
  | jump (s : State) (pc : Nat)
  /-- it skips a LOOP body: the instruction at an address follows in sequence (R372) -/
  | skip (s : State) (pc : Nat)
  /-- it takes effect and the block or task goes no further (R373, R387) -/
  | over (s : State)
  /-- an illegal instruction (R374, R388) -/
  | illegal
  /-- it reads a word that does not decode (R110, R388) -/
  | ecc (addr : Nat)
  /-- an S-core fault with its cause and address (R388) -/
  | fault (cause addr : Nat)

/-- An instruction that only changes its unit. -/
def State.onUnit (s : State) (u : Nat) (h : Lux → Lux) : LuxRes := .done (s.setLux u (h (s.lux u)))

/-! ### Memory of a T unit (R359, R367, R378) -/

/-- The words of a T unit's memory: an engine's operand memory, a DSP unit's cluster SRAM. -/
def unitWords (u : Nat) : Nat := if u < 64 then 8192 else 32768

/-- The fabric address of a word of a T unit's memory (R64). -/
def unitAddr (u w : Nat) : Nat := if u < 64 then opAddr u w else 0x01000000 + (u - 64) * 0x100000 + 32 * w

/-- OFF and INC, signed (R367). -/
def Fields.off (f : Fields) : Int := (f.imm.extractLsb' 0 14).toInt
def Fields.inc (f : Fields) : Int := (f.imm.extractLsb' 16 8).toInt

/-- A word index in range, as a natural number (R91). -/
def inMemory (u : Nat) (e : Int) : Option Nat := if 0 ≤ e ∧ e < unitWords u then some e.toNat else none

/-- The effective address in modes 0 and 1 (R367). -/
def Lux.ea (x : Lux) (u : Nat) (f : Fields) : Option Nat := if f.m < 2 then inMemory u (x.x f.x + f.off) else none

/-- The post-modify update of mode 1, after the access is made (R367). -/
def Lux.postModify (x : Lux) (u : Nat) (f : Fields) : Lux := if f.m = 1 then x.setX u f.x (x.x f.x + f.inc) else x

/-- A word of a T unit's memory. -/
def State.unitLine (s : State) (u w : Nat) : Line := s.mem.line (unitAddr u w)

/-- Whether a word of a T unit's memory decodes. -/
def State.unitBad (s : State) (u w : Nat) : Bool := s.undecodable (unitAddr u w)

/-- Where a T unit counts the words that are corrected on its reads (R531). -/
def corrEvent (u : Nat) : Option (Nat × Nat) := if u < 64 then some (0x0102, u) else if u < 80 then some (0x0202, u - 64) else none

/-- Reads of words by a T unit: what the decoder corrects is counted (R20, R109). -/
def State.unitReads (s : State) (u : Nat) (ws : List Nat) : State := s.correct (corrEvent u) (ws.map (unitAddr u))

/-- A word of a T unit's memory written. -/
def State.setUnitLine (s : State) (u w : Nat) (l : Line) : State := s.store' (unitAddr u w) (lineBytes l)

/-- A read of one word at the effective address, with the post-modify update (R367). -/
def State.withLine (s : State) (u : Nat) (f : Fields) (h : Line → Lux → Lux) : LuxRes :=
  match (s.lux u).ea u f with
  | none => .illegal
  | some w =>
    if s.unitBad u w then .ecc (unitAddr u w)
    else .done ((s.unitReads u [w]).setLux u ((h (s.unitLine u w) (s.lux u)).postModify u f))

/-- A coefficient word (R92, R93, R379): in mode 2 the blend of the two words of the selector. -/
def State.coefWord (s : State) (u : Nat) (f : Fields) (h : Stage → Lux → Lux) : LuxRes :=
  if f.m = 2 then
    let x := s.lux u
    let o : Int := x.x f.x + f.off
    let at_ (k : Nat) : Option Nat := inMemory u (x.sel.base + k * x.sel.stride + o)
    match at_ x.sel.sel, at_ x.sel.next with
    | some a, some b =>
      if s.unitBad u a then .ecc (unitAddr u a)
      else if s.unitBad u b then .ecc (unitAddr u b)
      else .done ((s.unitReads u [a, b]).setLux u (h (blend (stageOfLine (s.unitLine u a)) (stageOfLine (s.unitLine u b)) x.sel.w
        (x.sel.sel == x.sel.next)) x))
    | _, _ => .illegal
  else s.withLine u f (fun l x => h (stageOfLine l) x)

/-! ### Memory of an S-core (R385, R388, R392) -/

/-- The address p[X] + IMM (R385). -/
def Lux.sAddr (x : Lux) (f : Fields) : Nat := (x.p f.x + f.imm).toNat

/-- An S access of `n` bytes (R388): its alignment, then whether it may be made; `write` for a store or an AMOADD. -/
def State.sCheck (s : State) (a n : Nat) (write : Bool) : Option LuxRes :=
  if a % n ≠ 0 then some (.fault 2 a)
  else if !(if write then s.softWrites a else s.softReads a) then some (.fault 3 a)
  else none

/-- The bytes that an S-core reads (R109, R110, R385, R586): zeros from a ring-buffer word that does not decode, free bytes from the
matching store, whose layout the spec does not give (log 15); none for any other word that does not decode. -/
def State.sRead (s : State) (a n : Nat) : Option (List Byte) × State :=
  if inMatching a then
    let t := s.tick
    (some (bytesLE n (Config.free t.1).toNat), t.2)
  else if s.undecodable a then
    if inRings a then (some (bytesLE n 0), s.seeRingWords [wordOf a]) else (none, s)
  else (some (s.mem.bytes a n), s.correct none (wordsOf a n))

/-- A load of an S-core. -/
def State.sLoad (s : State) (u : Nat) (f : Fields) (n : Nat) (h : Nat → Lux → Lux) : LuxRes :=
  let a := (s.lux u).sAddr f
  match s.sCheck a n false with
  | some r => r
  | none => match s.sRead a n with
    | (some bs, t) => .done (t.setLux u (h (natLE bs) (t.lux u)))
    | (none, _) => .ecc a

/-- A store of an S-core (R386: posted, in program order). -/
def State.sStore (s : State) (u : Nat) (f : Fields) (n v : Nat) : LuxRes :=
  let a := (s.lux u).sAddr f
  match s.sCheck a n true with
  | some r => r
  | none => .done (s.store' a (bytesLE n v))

end Sys2Proof.Machine
end

