-- ==== Sys2Proof/Machine/LuxCore.lean ====
section
/-! DEFINITION. How a Luestox unit executes one instruction (R359-R374, R388-R390): its legality, its effect, the program
counter and the active loops, illegal instructions and S-core faults. -/

namespace Sys2Proof.Machine

/-- An instruction of the tables R375-R387: its opcode, the units that execute it, the fields it uses, whether P is allowed,
its cost in cycles on a T unit (R362, R371), and what it does. -/
structure LuxOp where
  opc : Nat
  ae : Bool
  dsp : Bool
  score : Bool
  uses : Uses := {}
  coissue : Bool := false
  cost : Fields → Nat := fun _ => 1
  run : Nat → Fields → State → LuxRes

/-- Whether a unit executes an instruction (R361). -/
def LuxOp.on (o : LuxOp) (u : Nat) : Bool := match unitKind u with
  | .ae => o.ae
  | .dsp => o.dsp
  | .score => o.score

/-- Whether P is used where R369 allows it: on an axis engine, after a MACB or MACE in the same body. -/
def LuxOp.coissueOk (o : LuxOp) (u : Nat) (f : Fields) (x : Lux) : Bool :=
  !(o.coissue && f.p) || (unitKind u == .ae && x.mac)

/-- Whether an instruction word is legal on a unit as it stands (R361, R364, R365, R369). -/
def LuxOp.legal (o : LuxOp) (u : Nat) (f : Fields) (x : Lux) : Bool := o.on u && o.uses.fits f && o.coissueOk u f x

/-! ### Loops and the program counter -/

/-- The loops at the instruction that follows in sequence (R372): at the end of a body the next iteration starts, or the loop
ends; the flag says that a body ended. -/
def loopBack : List LoopFrame → Nat → List LoopFrame × Nat × Bool
  | [], pc => ([], pc, false)
  | f :: r, pc =>
    if pc = f.stop then
      if 1 < f.left then ({ f with left := f.left - 1 } :: r, f.start, true)
      else
        let z := loopBack r pc
        (z.1, z.2.1, true)
    else (f :: r, pc, false)

/-- The next instruction in sequence is at `pc` (R371, R372). -/
def Lux.follow (x : Lux) (pc : Nat) (mac : Bool) (cost : Nat) : Lux :=
  let z := loopBack x.loops pc
  { x with loops := z.1, pc := z.2.1, mac := mac && !z.2.2, cycles := x.cycles + cost }

/-! ### Code (R366) -/

/-- The instruction word at an address: of the code section on a T unit, of memory on an S-core. -/
def State.codeWord (s : State) (u pc : Nat) : Option U64 :=
  if u < 80 then
    if pc + 8 ≤ s.image.codeLen then some (Tab.get 0 s.image.code (pc / 8)) else none
  else some (BitVec.ofNat 64 (natLE (s.mem.bytes pc 8)))

/-- Whether one of the instructions of a body is END (R372). -/
def State.bodyHasEnd (s : State) (u start len : Nat) : Bool :=
  (List.range len).any (fun k => match s.codeWord u (start + 8 * k) with
    | some w => w.toNat / 2 ^ 56 == 1
    | none => false)

/-! ### S-core fault records (R389, R390) -/

/-- The fault ring of an S-core (R390). -/
def faultRing (c : Nat) : Nat := 0x02000000 + c / 2 * 0x00200000 + 0x001FF000 + 0x800 * (c % 2)

/-- A fault record (R389). -/
def faultRecord (c cause code pc : Nat) (instr : U64) (addr task : Nat) (passage time : Word) : List Byte :=
  [BitVec.ofNat 8 c, BitVec.ofNat 8 cause] ++ bytesLE 2 code ++ bytesLE 4 pc ++ bytesLE 8 instr.toNat ++ bytesLE 4 addr ++
    bytesLE 2 task ++ bytesLE 2 0 ++ bytesLE 4 passage.toNat ++ bytesLE 4 time.toNat

/-- A record written, or counted as lost (R390). -/
def State.putRecord (s : State) (c cause code addr : Nat) (instr : U64) : State :=
  let b := faultRing c
  let written := s.mem.word b
  if 63 ≤ (written - s.mem.word (b + 4)).toNat then s.store' (b + 8) (bytesLE 4 (s.mem.word (b + 8) + 1).toNat)
  else
    let r := faultRecord c cause code (s.lux (80 + c)).pc instr addr ((s.core c).task.getD 0) s.tt.passage (lo32 s.time.time)
    ((s.store' (b + 32 * (1 + written.toNat % 63)) r).store' b (bytesLE 4 (written + 1).toNat)).count 0x0304 c 1

/-- A task ended by a fault (R388, R403). -/
def State.sFault (s : State) (c cause addr : Nat) (instr : U64) : State := (s.putRecord c cause 0 addr instr).endTask c

/-- A word that does not decode, read by an S-core (R110, R388, R403): the task ends, and for region SRAM the core leaves
service. -/
def State.sEcc (s : State) (c addr : Nat) (instr : U64) : State :=
  let s := s.sFault c 4 addr instr
  if inRegion addr then (s.unitFault 1 (0x2000 + c)).coreOut c else s.idieFault addr

/-! ### One instruction -/

/-- A block that has ended (R373): its unit idles, and its RUN entry is complete. -/
def State.endBlock (s : State) (u : Nat) : State :=
  let x := s.lux u
  let s := s.setLux u { x with running := false, loops := [], mac := false }
  let k := if u < 64 then u / 4 else u - 64
  match s.openRun k (if u < 64 then u % 4 else 4) with
  | some i => { s with tt := { s.tt with openEntries := s.tt.openEntries.filter (· != (k, i)) } }
  | none => s

/-- Whether a unit executes instructions now: a T unit that is not stopped for the passage, an S-core in service with a
task (R374, R394, R403). -/
def State.unitActs (s : State) (u : Nat) : Bool :=
  if u < 80 then !s.unitStopped u
  else decide (u < 88) && (s.core (u - 80)).task.isSome && !(s.core (u - 80)).out

/-- The unit's next instruction follows at `pc`. -/
def State.followAt (s : State) (u pc : Nat) (mac : Bool) (cost : Nat) : State :=
  s.setLux u ((s.lux u).follow pc mac cost)

/-- One instruction executed by a unit (R371): an illegal one stops a T unit (R374) and ends an S task (R388). -/
def State.luxRun (s : State) (u : Nat) (o : LuxOp) (f : Fields) : State :=
  let x := s.lux u
  let w := wordOfFields o.opc f
  let mac := o.opc == 0x50 || o.opc == 0x51
  let cost := if o.coissue && f.p then 0 else o.cost f
  match (if o.legal u f x then o.run u f s else .illegal) with
  | .done t => t.followAt u (x.pc + 8) mac cost
  | .skip t pc => t.followAt u pc false cost
  | .jump t pc => t.setLux u { (t.lux u) with pc := pc, mac := false }
  | .over t => if u < 80 then t.endBlock u else t
  | .illegal => if u < 80 then s.stopUnit u 3 else s.sFault (u - 80) 1 0 w
  | .ecc a => if u < 80 then s.stopUnit u 1 else s.sEcc (u - 80) a w
  | .fault cause a => if u < 80 then s.stopUnit u 3 else s.sFault (u - 80) cause a w

/-- Whether the word at an S-core's pc can be fetched (R388, R392): the fault's cause and address where it cannot. A ring-buffer
word that does not decode is read as zeros (R586). A T unit fetches from its own copy of the code section (R366). -/
def State.fetchFault (s : State) (u : Nat) : Option (Nat × Nat) :=
  let pc := (s.lux u).pc
  if u < 80 then none
  else if pc % 8 ≠ 0 then some (2, pc)
  else if !s.softReads pc then some (3, pc)
  else if s.undecodable pc && !inRings pc then some (4, pc)
  else none

/-- An S-core's task ended by its fetch (R388, R389): no instruction word was read, so INSTR is 0 (log 127). -/
def State.fetchFails (s : State) (u : Nat) (p : Nat × Nat) : State :=
  if p.1 = 4 then s.sEcc (u - 80) p.2 0 else s.sFault (u - 80) p.1 p.2 0

/-- What the fetch at an S-core's pc leaves behind in a state (R109, R586), `s` being the state of the fetch: a corrected word
counted, or a ring-buffer word found uncorrectable. -/
def State.fetched (s : State) (u : Nat) (t : State) : State :=
  let pc := (s.lux u).pc
  if u < 80 then t
  else if s.undecodable pc then t.seeRingWords [wordOf pc]
  else if s.wrongAt (wordOf pc) = 0 then t
  else t.correctOne none (wordOf pc)

/-- The flags that an instruction raises: FLG after it, had it been clear before. -/
def State.luxRaised (s : State) (u : Nat) (o : LuxOp) (f : Fields) : BitVec 4 :=
  (((s.setLux u { (s.lux u) with flg := 0 }).luxRun u o f).lux u).flg

/-- What PERF counts of an instruction (R531): MAC instructions, OVF and SAT raised, DSP cycles, instructions retired by an
S-core. -/
def State.luxCount (s : State) (u : Nat) (o : LuxOp) (f : Fields) (t : State) : State :=
  if !t.perfOn then t
  else
    let fl := s.luxRaised u o f
    if u < 64 then
      let t := if 0x50 ≤ o.opc ∧ o.opc ≤ 0x53 then t.count 0x0101 u 1 else t
      let t := if fl.getLsbD 1 then t.count 0x0103 u 1 else t
      if fl.getLsbD 0 then t.count 0x0104 u 1 else t
    else if u < 80 then
      let t := t.count 0x0200 (u - 64) (o.cost f)
      if fl.getLsbD 0 then t.count 0x0204 (u - 64) 1 else t
    else t.count 0x0301 (u - 80) 1

/-- A LUESTOX row: the unit executes the instruction now, if it executes any (R374, R394, R403). An S-core fetches it first. -/
def State.luxStep (s : State) (u : Nat) (o : LuxOp) (f : Fields) : State :=
  if !s.unitActs u then s
  else match s.fetchFault u with
    | some p => s.fetchFails u p
    | none => s.fetched u (s.luxCount u o f (s.luxRun u o f))

end Sys2Proof.Machine
end

