-- ==== Sys2Proof/Machine/LuxDsp.lean ====
section
/-! DEFINITION. The DSP instructions BIQ, FIR and FFT on cluster SRAM (R102-R107, R383). -/

namespace Sys2Proof.Machine

/-- The mantissas of a word, its exponent bytes ignored (R102). -/
def lineMants (l : Line) : Lanes (BitVec 24) := l.map (fun w => w.extractLsb' 8 24)

/-- A word of mantissas with exponent bytes of 0 (R102). The state words of a filter, its delayed inputs and its delay line, are
written in the same form (DESIGN CHOICE, log 117: the rule fixes the exponent bytes of outputs only). -/
def mantLine (m : Lanes (BitVec 24)) : Line := m.map (fun x => x ++ 0#8)

/-- Whether `n` words from `a` lie in cluster SRAM (R383). -/
def wordsIn (a n : Nat) : Bool := decide (a + n ≤ 32768)

/-- The first word of an area that does not decode, as its fabric address. -/
def State.badIn (s : State) (u a n : Nat) : Option Nat :=
  ((List.range n).find? (fun k => s.unitBad u (a + k))).map (fun k => unitAddr u (a + k))

/-- One biquad section on eight channels (R103, R383): its block starts at word `b`, its input is `x`. The section's output,
the state after it, and whether an output saturated. -/
def State.section_ (s : State) (u b : Nat) (x : Lanes (BitVec 24)) : Lanes (BitVec 24) × State × Bool :=
  let w (k : Nat) : Lanes (BitVec 24) := lineMants (s.unitLine u (b + k))
  let shift := (s.unitLine u b).l0.bits 0 2
  let r := Lanes.gen (fun k => biquad ((w 1).get k) ((w 2).get k) ((w 3).get k) ((w 4).get k) ((w 5).get k) shift
    (x.get k) ((w 6).get k) ((w 7).get k) ((w 8).get k) ((w 9).get k))
  let y := r.map (·.1)
  let s := ((((s.setUnitLine u (b + 7) (mantLine (w 6))).setUnitLine u (b + 6) (mantLine x)).setUnitLine u (b + 9)
    (mantLine (w 8))).setUnitLine u (b + 8) (mantLine y))
  (y, s, r.toList.any (·.2))

/-- The sections of a cascade in turn (R104). -/
def State.cascade (s : State) (u b : Nat) (x : Lanes (BitVec 24)) : Nat → Lanes (BitVec 24) × State × Bool
  | 0 => (x, s, false)
  | n + 1 =>
    let p := s.cascade u b x n
    let r := p.2.1.section_ u (b + 10 * n) p.1
    (r.1, r.2.1, p.2.2 || r.2.2)

/-- BIQ (R383). -/
def luxBiq : LuxOp :=
  { opc := 0x70, ae := false, dsp := true, score := false, uses := { d := .s, a := .s, b := .s, imm := 0x1F#32 }
    cost := fun f => 7 * f.imm.bits 0 5 + 3
    run := fun u f s =>
      let x := s.lux u
      let out := (x.s f.d).toNat
      let inp := (x.s f.a).toNat
      let blk := (x.s f.b).toNat
      let n := f.imm.bits 0 5
      if n = 0 ∨ 16 < n ∨ !(wordsIn out 1 && wordsIn inp 1 && wordsIn blk (10 * n)) then .illegal
      else match s.badIn u inp 1, s.badIn u blk (10 * n) with
        | some a, _ => .ecc a
        | none, some a => .ecc a
        | none, none =>
          let s := s.unitReads u (inp :: (List.range (10 * n)).map (blk + ·))
          let r := s.cascade u blk (lineMants (s.unitLine u inp)) n
          .done ((r.2.1.setUnitLine u out (mantLine r.1)).setLux u (x.raiseSat r.2.2)) }

/-- FIR (R104, R383): the head in bits [7:0] of lane 0 of word 0, whose other bits stay as they are. -/
def luxFir : LuxOp :=
  { opc := 0x71, ae := false, dsp := true, score := false, uses := { d := .s, a := .s, b := .s, imm := 0x1FF#32 }
    cost := fun f => f.imm.bits 0 9 + 5
    run := fun u f s =>
      let x := s.lux u
      let out := (x.s f.d).toNat
      let inp := (x.s f.a).toNat
      let blk := (x.s f.b).toNat
      let t := f.imm.bits 0 9
      if t = 0 ∨ 256 < t ∨ !(wordsIn out 1 && wordsIn inp 1 && wordsIn blk (2 * t + 1)) then .illegal
      else match s.badIn u inp 1, s.badIn u blk (2 * t + 1) with
        | some a, _ => .ecc a
        | none, some a => .ecc a
        | none, none =>
          let s := s.unitReads u (inp :: (List.range (2 * t + 1)).map (blk + ·))
          let h := (s.unitLine u blk).l0.bits 0 8 % t
          let s1 := s.setUnitLine u (blk + t + 1 + h) (mantLine (lineMants (s.unitLine u inp)))
          let tap (j : Nat) : Lanes (BitVec 24) := lineMants (s1.unitLine u (blk + 1 + j))
          let line (j : Nat) : Lanes (BitVec 24) := lineMants (s1.unitLine u (blk + t + 1 + (h + t - j) % t))
          let r := Lanes.gen (fun k => sat24 (shrRound (fir ((List.range t).map (fun j => ((tap j).get k, (line j).get k))) 0) 23))
          let s2 := s1.setUnitLine u out (mantLine (r.map (·.1)))
          let head := s2.unitLine u blk
          let s3 := s2.setUnitLine u blk { head with l0 := head.l0.setBits 0 8 ((h + 1) % t) }
          .done (s3.setLux u (x.raiseSat (r.toList.any (·.2)))) }

/-- The points of words from `a` on (R105). -/
def State.points (s : State) (u a n : Nat) : List Cpx :=
  (List.range n).flatMap (fun k =>
    let m := lineMants (s.unitLine u (a + k))
    [⟨m.l0.toInt, m.l1.toInt⟩, ⟨m.l2.toInt, m.l3.toInt⟩, ⟨m.l4.toInt, m.l5.toInt⟩, ⟨m.l6.toInt, m.l7.toInt⟩])

/-- Points stored from word `a` on with a block exponent (R105, R106). -/
def State.storePoints (s : State) (u : Nat) (e : BitVec 8) : Nat → Nat → List Cpx → State
  | 0, _, _ => s
  | n + 1, a, pts =>
    let g (j : Nat) : Cpx := nthD ⟨0, 0⟩ pts j
    let w (x : Int) : Word := mant x ++ e
    let l : Line := ⟨w (g 0).re, w (g 0).im, w (g 1).re, w (g 1).im, w (g 2).re, w (g 2).im, w (g 3).re, w (g 3).im⟩
    (s.setUnitLine u a l).storePoints u e n (a + 1) (pts.drop 4)

/-- The cycles of a transform (R107). -/
def fftCost (p : Nat) : Nat :=
  let n := 2 ^ p
  n / 4 + p / 2 * (n / 2 + 16) + p % 2 * (n / 4 + 16)

/-- FFT (R105, R106, R383): a final exponent above 127 is stored as 127 and raises ECLAMP. -/
def luxFft : LuxOp :=
  { opc := 0x72, ae := false, dsp := true, score := false, uses := { d := .s, a := .s, imm := 0x1F#32 }
    cost := fun f => fftCost (f.imm.bits 0 4)
    run := fun u f s =>
      let x := s.lux u
      let out := (x.s f.d).toNat
      let inp := (x.s f.a).toNat
      let p := f.imm.bits 0 4
      let n := 2 ^ p / 4
      let inverse := f.imm.bit 4
      let clash := out != inp && decide (out < inp + n) && decide (inp < out + n)
      if p < 4 ∨ 12 < p ∨ clash ∨ !(wordsIn out n && wordsIn inp n) then .illegal
      else match s.badIn u inp n with
        | some a => .ecc a
        | none =>
          let s := s.unitReads u ((List.range n).map (inp + ·))
          let e := ((s.unitLine u inp).l0.extractLsb' 0 8).toInt
          let r := transform p inverse (twiddles (2 ^ p) inverse) (s.points u inp n) e
          let high := decide (127 < r.2.1)
          let s1 := s.storePoints u (BitVec.ofInt 8 (if high then 127 else r.2.1)) n out r.1
          .done (s1.setLux u (x.raise { sat := r.2.2, eclamp := high })) }

def execBiq (u : Nat) (f : Fields) (s : State) : Host.Outcome State Fault Refusal := .next (s.luxStep u luxBiq f)
def execFir (u : Nat) (f : Fields) (s : State) : Host.Outcome State Fault Refusal := .next (s.luxStep u luxFir f)
def execFft (u : Nat) (f : Fields) (s : State) : Host.Outcome State Fault Refusal := .next (s.luxStep u luxFft f)

end Sys2Proof.Machine
end

