-- ==== Sys2Proof/Machine/LuxScalar.lean ====
section
/-! DEFINITION. The control, flag, scalar, index and pointer instructions (R372, R373, R375-R377). -/

namespace Sys2Proof.Machine

/-- An instruction of three scalars on every unit (R376). -/
def scalar3 (opc cost : Nat) (h : Word → Word → Word) : LuxOp :=
  { opc := opc, ae := true, dsp := true, score := true, uses := { d := .s, a := .s, b := .s }, cost := fun _ => cost
    run := fun u f s => s.onUnit u (fun x => x.setS f.d (h (x.s f.a) (x.s f.b))) }

/-- An instruction of three scalars that may saturate (R376). -/
def scalar3Sat (opc : Nat) (ae : Bool) (h : Word → Word → Word × Bool) : LuxOp :=
  { opc := opc, ae := ae, dsp := ae, score := true, uses := { d := .s, a := .s, b := .s }
    run := fun u f s => s.onUnit u (fun x =>
      let r := h (x.s f.a) (x.s f.b)
      (x.setS f.d r.1).raiseSat r.2) }

/-- An instruction of two scalars and an immediate (R376). -/
def scalarImm (opc : Nat) (imm : Word) (h : Word → Word → Word) : LuxOp :=
  { opc := opc, ae := true, dsp := true, score := true, uses := { d := .s, a := .s, imm := imm }
    run := fun u f s => s.onUnit u (fun x => x.setS f.d (h (x.s f.a) f.imm)) }

/-- An exact result saturated to a signed word, and whether it was (R376). -/
def satInt (x : Int) : Word × Bool := let r := satBits 32 x; (BitVec.ofInt 32 r.1, r.2)

/-- The shift amount: bits [4:0] (R376). -/
def shiftOf (w : Word) : Nat := w.toNat % 32

/-! ### Control and flags (R375) -/

def luxNop : LuxOp := { opc := 0x00, ae := true, dsp := true, score := true, run := fun _ _ s => .done s }

def luxEnd : LuxOp := { opc := 0x01, ae := true, dsp := true, score := false, run := fun _ _ s => .over s }

/-- LOOP (R372): the count in IMM[15:0], the body length in IMM[27:16]. -/
def luxLoop : LuxOp :=
  { opc := 0x02, ae := true, dsp := true, score := true, uses := { imm := 0x0FFFFFFF#32 }
    run := fun u f s =>
      let x := s.lux u
      let c := f.imm.bits 0 16
      let l := f.imm.bits 16 12
      let start := x.pc + 8
      let stop := start + 8 * l
      let breaks := l == 0 || decide (4 ≤ x.loops.length) || x.loops.any (fun g => decide (g.stop < stop)) ||
        s.bodyHasEnd u start l
      if breaks then (if u < 80 then .illegal else .fault 5 0)
      else if c = 0 then .skip s stop
      else .done (s.setLux u { x with loops := ⟨start, stop, c⟩ :: x.loops }) }

def luxRdf : LuxOp :=
  { opc := 0x03, ae := true, dsp := true, score := true, uses := { d := .s }
    run := fun u f s => s.onUnit u (fun x => x.setS f.d (x.flg.setWidth 32)) }

def luxClrf : LuxOp :=
  { opc := 0x04, ae := true, dsp := true, score := true, uses := { imm := 0xF#32 }
    run := fun u f s => s.onUnit u (fun x => x.clearFlags (f.imm.setWidth 4)) }

/-! ### Scalars (R376) -/

def luxAdd : LuxOp := scalar3 0x10 1 (fun a b => a + b)
def luxSub : LuxOp := scalar3 0x11 1 (fun a b => a - b)
def luxAdds : LuxOp := scalar3Sat 0x12 true (fun a b => satInt (a.toInt + b.toInt))
def luxSubs : LuxOp := scalar3Sat 0x13 true (fun a b => satInt (a.toInt - b.toInt))
def luxAnd : LuxOp := scalar3 0x14 1 (fun a b => a &&& b)
def luxOr : LuxOp := scalar3 0x15 1 (fun a b => a ||| b)
def luxXor : LuxOp := scalar3 0x16 1 (fun a b => a ^^^ b)
def luxShl : LuxOp := scalar3 0x17 1 (fun a b => a <<< shiftOf b)
def luxShr : LuxOp := scalar3 0x18 1 (fun a b => a >>> shiftOf b)
def luxSar : LuxOp := scalar3 0x19 1 (fun a b => a.sshiftRight (shiftOf b))
def luxMul : LuxOp := scalar3 0x1A 2 (fun a b => a * b)
def luxMulh : LuxOp := scalar3 0x1B 2 (fun a b => BitVec.ofInt 32 (a.toInt * b.toInt / 2 ^ 32))
def luxMin : LuxOp := scalar3 0x1C 1 (fun a b => if b.slt a then b else a)
def luxMax : LuxOp := scalar3 0x1D 1 (fun a b => if a.slt b then b else a)
def luxSlt : LuxOp := scalar3 0x1E 1 (fun a b => if a.slt b then 1 else 0)
def luxSltu : LuxOp := scalar3 0x1F 1 (fun a b => if a.ult b then 1 else 0)
def luxAddi : LuxOp := scalarImm 0x20 0xFFFFFFFF#32 (fun a i => a + i)
def luxMovi : LuxOp :=
  { opc := 0x21, ae := true, dsp := true, score := true, uses := { d := .s, imm := 0xFFFFFFFF#32 }
    run := fun u f s => s.onUnit u (fun x => x.setS f.d f.imm) }
def luxShli : LuxOp := scalarImm 0x22 0x1F#32 (fun a i => a <<< shiftOf i)
def luxShri : LuxOp := scalarImm 0x23 0x1F#32 (fun a i => a >>> shiftOf i)
def luxSari : LuxOp := scalarImm 0x24 0x1F#32 (fun a i => a.sshiftRight (shiftOf i))
def luxAndi : LuxOp := scalarImm 0x25 0xFFFFFFFF#32 (fun a i => a &&& i)
def luxSelz : LuxOp :=
  { opc := 0x26, ae := true, dsp := true, score := true, uses := { d := .s, a := .s, b := .s, imm := 0xF#32 }
    run := fun u f s => s.onUnit u (fun x => x.setS f.d (if x.s (f.imm.bits 0 4) ≠ 0 then x.s f.a else x.s f.b)) }
def luxAbs : LuxOp :=
  { opc := 0x27, ae := true, dsp := true, score := true, uses := { d := .s, a := .s }
    run := fun u f s => s.onUnit u (fun x =>
      let r := satInt (x.s f.a).toInt.natAbs
      (x.setS f.d r.1).raiseSat r.2) }

/-- The signed quotient, truncated toward zero, with the special cases of DIV (R376). -/
def divWord (a b : Word) : Word × Bool :=
  if b = 0 then (if 0 ≤ a.toInt then 0x7FFFFFFF#32 else 0x80000000#32, true)
  else satInt (a.toInt.tdiv b.toInt)

/-- The unsigned quotient of DIVU (R376). -/
def divuWord (a b : Word) : Word × Bool := if b = 0 then (0xFFFFFFFF#32, true) else (a / b, false)

def luxDiv : LuxOp := scalar3Sat 0x28 false divWord
def luxDivu : LuxOp := scalar3Sat 0x29 false divuWord

/-! ### Index and pointer registers (R377) -/

def luxXmov : LuxOp :=
  { opc := 0x30, ae := true, dsp := true, score := false, uses := { d := .x, a := .s }
    run := fun u f s => s.onUnit u (fun x => x.setX u f.d (x.s f.a).toNat) }
def luxXaddi : LuxOp :=
  { opc := 0x31, ae := true, dsp := true, score := false, uses := { d := .x, a := .x, imm := 0xFFFFFFFF#32 }
    run := fun u f s => s.onUnit u (fun x => x.setX u f.d (x.x f.a + f.imm.toInt)) }
def luxSfromx : LuxOp :=
  { opc := 0x32, ae := true, dsp := true, score := false, uses := { d := .s, a := .x }
    run := fun u f s => s.onUnit u (fun x => x.setS f.d (BitVec.ofNat 32 (x.x f.a))) }
def luxPmov : LuxOp :=
  { opc := 0x97, ae := false, dsp := false, score := true, uses := { d := .p, a := .s }
    run := fun u f s => s.onUnit u (fun x => x.setP f.d (x.s f.a)) }
def luxPaddi : LuxOp :=
  { opc := 0x98, ae := false, dsp := false, score := true, uses := { d := .p, a := .p, imm := 0xFFFFFFFF#32 }
    run := fun u f s => s.onUnit u (fun x => x.setP f.d (x.p f.a + f.imm)) }
def luxSfromp : LuxOp :=
  { opc := 0x99, ae := false, dsp := false, score := true, uses := { d := .s, a := .p }
    run := fun u f s => s.onUnit u (fun x => x.setS f.d (x.p f.a)) }

/-! ### The commands -/

def execNop (u : Nat) (f : Fields) (s : State) : Host.Outcome State Fault Refusal := .next (s.luxStep u luxNop f)
def execEnd (u : Nat) (f : Fields) (s : State) : Host.Outcome State Fault Refusal := .next (s.luxStep u luxEnd f)
def execLoop (u : Nat) (f : Fields) (s : State) : Host.Outcome State Fault Refusal := .next (s.luxStep u luxLoop f)
def execRdf (u : Nat) (f : Fields) (s : State) : Host.Outcome State Fault Refusal := .next (s.luxStep u luxRdf f)
def execClrf (u : Nat) (f : Fields) (s : State) : Host.Outcome State Fault Refusal := .next (s.luxStep u luxClrf f)
def execAdd (u : Nat) (f : Fields) (s : State) : Host.Outcome State Fault Refusal := .next (s.luxStep u luxAdd f)
def execSub (u : Nat) (f : Fields) (s : State) : Host.Outcome State Fault Refusal := .next (s.luxStep u luxSub f)
def execAdds (u : Nat) (f : Fields) (s : State) : Host.Outcome State Fault Refusal := .next (s.luxStep u luxAdds f)
def execSubs (u : Nat) (f : Fields) (s : State) : Host.Outcome State Fault Refusal := .next (s.luxStep u luxSubs f)
def execAnd (u : Nat) (f : Fields) (s : State) : Host.Outcome State Fault Refusal := .next (s.luxStep u luxAnd f)
def execOr (u : Nat) (f : Fields) (s : State) : Host.Outcome State Fault Refusal := .next (s.luxStep u luxOr f)
def execXor (u : Nat) (f : Fields) (s : State) : Host.Outcome State Fault Refusal := .next (s.luxStep u luxXor f)
def execShl (u : Nat) (f : Fields) (s : State) : Host.Outcome State Fault Refusal := .next (s.luxStep u luxShl f)
def execShr (u : Nat) (f : Fields) (s : State) : Host.Outcome State Fault Refusal := .next (s.luxStep u luxShr f)
def execSar (u : Nat) (f : Fields) (s : State) : Host.Outcome State Fault Refusal := .next (s.luxStep u luxSar f)
def execMul (u : Nat) (f : Fields) (s : State) : Host.Outcome State Fault Refusal := .next (s.luxStep u luxMul f)
def execMulh (u : Nat) (f : Fields) (s : State) : Host.Outcome State Fault Refusal := .next (s.luxStep u luxMulh f)
def execMin (u : Nat) (f : Fields) (s : State) : Host.Outcome State Fault Refusal := .next (s.luxStep u luxMin f)
def execMax (u : Nat) (f : Fields) (s : State) : Host.Outcome State Fault Refusal := .next (s.luxStep u luxMax f)
def execSlt (u : Nat) (f : Fields) (s : State) : Host.Outcome State Fault Refusal := .next (s.luxStep u luxSlt f)
def execSltu (u : Nat) (f : Fields) (s : State) : Host.Outcome State Fault Refusal := .next (s.luxStep u luxSltu f)
def execAddi (u : Nat) (f : Fields) (s : State) : Host.Outcome State Fault Refusal := .next (s.luxStep u luxAddi f)
def execMovi (u : Nat) (f : Fields) (s : State) : Host.Outcome State Fault Refusal := .next (s.luxStep u luxMovi f)
def execShli (u : Nat) (f : Fields) (s : State) : Host.Outcome State Fault Refusal := .next (s.luxStep u luxShli f)
def execShri (u : Nat) (f : Fields) (s : State) : Host.Outcome State Fault Refusal := .next (s.luxStep u luxShri f)
def execSari (u : Nat) (f : Fields) (s : State) : Host.Outcome State Fault Refusal := .next (s.luxStep u luxSari f)
def execAndi (u : Nat) (f : Fields) (s : State) : Host.Outcome State Fault Refusal := .next (s.luxStep u luxAndi f)
def execSelz (u : Nat) (f : Fields) (s : State) : Host.Outcome State Fault Refusal := .next (s.luxStep u luxSelz f)
def execAbs (u : Nat) (f : Fields) (s : State) : Host.Outcome State Fault Refusal := .next (s.luxStep u luxAbs f)
def execDiv (u : Nat) (f : Fields) (s : State) : Host.Outcome State Fault Refusal := .next (s.luxStep u luxDiv f)
def execDivu (u : Nat) (f : Fields) (s : State) : Host.Outcome State Fault Refusal := .next (s.luxStep u luxDivu f)
def execXmov (u : Nat) (f : Fields) (s : State) : Host.Outcome State Fault Refusal := .next (s.luxStep u luxXmov f)
def execXaddi (u : Nat) (f : Fields) (s : State) : Host.Outcome State Fault Refusal := .next (s.luxStep u luxXaddi f)
def execSfromx (u : Nat) (f : Fields) (s : State) : Host.Outcome State Fault Refusal := .next (s.luxStep u luxSfromx f)
def execPmov (u : Nat) (f : Fields) (s : State) : Host.Outcome State Fault Refusal := .next (s.luxStep u luxPmov f)
def execPaddi (u : Nat) (f : Fields) (s : State) : Host.Outcome State Fault Refusal := .next (s.luxStep u luxPaddi f)
def execSfromp (u : Nat) (f : Fields) (s : State) : Host.Outcome State Fault Refusal := .next (s.luxStep u luxSfromp f)

end Sys2Proof.Machine
end

