-- ==== Sys2Proof/Machine/LuxSoft.lean ====
section
/-! DEFINITION. The S-profile instructions (R384-R387): branches, loads and stores, registers, tasks. -/

namespace Sys2Proof.Machine

/-! ### Branches (R384) -/

/-- The target of a branch: pc + 8 × IMM, modulo 2^32. -/
def branchTo (pc : Nat) (imm : Word) : Nat := (BitVec.ofNat 32 pc + 8 * imm).toNat

/-- A conditional branch on two scalars. -/
def branchOp (opc : Nat) (test : Word → Word → Bool) : LuxOp :=
  { opc := opc, ae := false, dsp := false, score := true, uses := { a := .s, b := .s, imm := 0xFFFFFFFF#32 }
    run := fun u f s =>
      let x := s.lux u
      if test (x.s f.a) (x.s f.b) then .jump s (branchTo x.pc f.imm) else .done s }

def luxBeq : LuxOp := branchOp 0x80 (fun a b => a == b)
def luxBne : LuxOp := branchOp 0x81 (fun a b => a != b)
def luxBlt : LuxOp := branchOp 0x82 (fun a b => a.slt b)
def luxBge : LuxOp := branchOp 0x83 (fun a b => !a.slt b)
def luxBltu : LuxOp := branchOp 0x84 (fun a b => a.ult b)
def luxBgeu : LuxOp := branchOp 0x85 (fun a b => !a.ult b)

def luxJal : LuxOp :=
  { opc := 0x86, ae := false, dsp := false, score := true, uses := { d := .s, imm := 0xFFFFFFFF#32 }
    run := fun u f s =>
      let x := s.lux u
      .jump (s.setLux u (x.setS f.d (BitVec.ofNat 32 (x.pc + 8)))) (branchTo x.pc f.imm) }

/-- JR: a target that is not a multiple of 8 is an ALIGN fault. -/
def luxJr : LuxOp :=
  { opc := 0x87, ae := false, dsp := false, score := true, uses := { a := .s }
    run := fun u f s =>
      let t := ((s.lux u).s f.a).toNat
      if t % 8 = 0 then .jump s t else .fault 2 t }

/-! ### Memory (R385, R386) -/

/-- A load or store of an S-core. -/
def softMem (opc : Nat) (run : Nat → Fields → State → LuxRes) : LuxOp :=
  { opc := opc, ae := false, dsp := false, score := true, uses := { d := .s, ptr := true, imm := 0xFFFFFFFF#32 }, run := run }

def luxLdw : LuxOp :=
  softMem 0x90 (fun u f s => s.sLoad u f 4 (fun v x => x.setS f.d (BitVec.ofNat 32 v)))
/-- STW: the source is named in field D. -/
def luxStw : LuxOp := softMem 0x91 (fun u f s => s.sStore u f 4 ((s.lux u).s f.d).toNat)
def luxLdbu : LuxOp :=
  softMem 0x92 (fun u f s => s.sLoad u f 1 (fun v x => x.setS f.d (BitVec.ofNat 32 v)))
def luxStb : LuxOp := softMem 0x93 (fun u f s => s.sStore u f 1 ((s.lux u).s f.d).toNat)
/-- LDD: an odd D is an ILLEGAL fault. -/
def luxLdd : LuxOp :=
  softMem 0x94 (fun u f s =>
    if f.d % 2 = 1 then .illegal
    else s.sLoad u f 8 (fun v x => (x.setS f.d (BitVec.ofNat 32 v)).setS (f.d + 1) (BitVec.ofNat 32 (v / 2 ^ 32))))
/-- STD: an odd source register is an ILLEGAL fault. -/
def luxStd : LuxOp :=
  softMem 0x95 (fun u f s =>
    if f.d % 2 = 1 then .illegal
    else s.sStore u f 8 (((s.lux u).s f.d).toNat + 2 ^ 32 * ((s.lux u).s (f.d + 1)).toNat))

/-- AMOADD: sD := the old word, and the word grows by sB. -/
def luxAmoadd : LuxOp :=
  { opc := 0x96, ae := false, dsp := false, score := true, uses := { d := .s, b := .s, ptr := true, imm := 0xFFFFFFFF#32 }
    run := fun u f s =>
      let x := s.lux u
      let a := x.sAddr f
      match s.sCheck a 4 true with
      | some r => r
      | none =>
        if s.undecodable a then .ecc a
        else
          let old := s.mem.word a
          .done (((s.correct none (wordsOf a 4)).store' a (bytesLE 4 (old + x.s f.b).toNat)).setLux u (x.setS f.d old)) }

/-! ### Registers (R385) -/

/-- An offset that is not a multiple of 4 is misaligned (log 22). -/
def luxRgr : LuxOp :=
  { opc := 0x9A, ae := false, dsp := false, score := true, uses := { d := .s, imm := 0xFFFFFFFF#32 }
    run := fun u f s =>
      let off := f.imm.toNat
      if off % 4 ≠ 0 then .fault 2 off
      else
        let r := s.readBy (u - 79) off
        if r.2.2 then .fault 7 off else .done (r.2.1.setLux u ((r.2.1.lux u).setS f.d r.1)) }

/-- RGW: the source is named in field D. -/
def luxRgw : LuxOp :=
  { opc := 0x9B, ae := false, dsp := false, score := true, uses := { d := .s, imm := 0xFFFFFFFF#32 }
    run := fun u f s =>
      let off := f.imm.toNat
      if off % 4 ≠ 0 then .fault 2 off
      else
        let r := s.writeReg (u - 79) off ((s.lux u).s f.d)
        if r.2 then .fault 7 off else .done r.1 }

/-! ### Tasks (R387) -/

def luxTend : LuxOp :=
  { opc := 0xA0, ae := false, dsp := false, score := true, run := fun u _ s => .over (s.endTask (u - 80)) }

/-- TPOST (R387, R395, R401): a refused token is counted in BP_TPOST. -/
def luxTpost : LuxOp :=
  { opc := 0xA1, ae := false, dsp := false, score := true, uses := { d := .s, a := .s, b := .s, imm := 3 }
    run := fun u f s =>
      let x := s.lux u
      let d := (x.s f.a).toNat
      if 4096 ≤ d then .illegal
      else
        let r := s.token d (f.imm.bits 0 2) (x.s f.b)
        let full := r.2 == .refused
        let t := if full then { r.1 with sched := { r.1.sched with bpTpost := satAdd 0xFFFF r.1.sched.bpTpost 1 } } else r.1
        .done (t.setLux u ((t.lux u).setS f.d (BitVec.ofNat 32 (if full then codeBackpressure else codeOk)))) }

/-- TDLY (R387, R400): RANGE for a count out of range or a descriptor without a context area. -/
def luxTdly : LuxOp :=
  { opc := 0xA2, ae := false, dsp := false, score := true, uses := { d := .s, a := .s, f := 1 }
    run := fun u f s =>
      let x := s.lux u
      let n := (x.s f.a).toNat
      let d := ((s.core (u - 80)).task).getD 0
      if n = 0 ∨ 2 ^ 24 ≤ n ∨ s.descWord d 12 = 0 then
        .done (s.setLux u (x.setS f.d (BitVec.ofNat 32 codeRange)))
      else .over (s.delayTask (u - 80) d f.d n (f.f == 1) (x.pc + 8)) }

/-- FLT (R387-R389): a SOFT record with its CODE. -/
def luxFlt : LuxOp :=
  { opc := 0xA3, ae := false, dsp := false, score := true, uses := { f := 1, imm := 0xFFFF }
    run := fun u f s =>
      let c := u - 80
      let t := s.putRecord c 6 f.imm.toNat 0 (wordOfFields 0xA3 f)
      if f.f = 1 then .over (t.endTask c) else .done t }

def execBeq (u : Nat) (f : Fields) (s : State) : Host.Outcome State Fault Refusal := .next (s.luxStep u luxBeq f)
def execBne (u : Nat) (f : Fields) (s : State) : Host.Outcome State Fault Refusal := .next (s.luxStep u luxBne f)
def execBlt (u : Nat) (f : Fields) (s : State) : Host.Outcome State Fault Refusal := .next (s.luxStep u luxBlt f)
def execBge (u : Nat) (f : Fields) (s : State) : Host.Outcome State Fault Refusal := .next (s.luxStep u luxBge f)
def execBltu (u : Nat) (f : Fields) (s : State) : Host.Outcome State Fault Refusal := .next (s.luxStep u luxBltu f)
def execBgeu (u : Nat) (f : Fields) (s : State) : Host.Outcome State Fault Refusal := .next (s.luxStep u luxBgeu f)
def execJal (u : Nat) (f : Fields) (s : State) : Host.Outcome State Fault Refusal := .next (s.luxStep u luxJal f)
def execJr (u : Nat) (f : Fields) (s : State) : Host.Outcome State Fault Refusal := .next (s.luxStep u luxJr f)
def execLdw (u : Nat) (f : Fields) (s : State) : Host.Outcome State Fault Refusal := .next (s.luxStep u luxLdw f)
def execStw (u : Nat) (f : Fields) (s : State) : Host.Outcome State Fault Refusal := .next (s.luxStep u luxStw f)
def execLdbu (u : Nat) (f : Fields) (s : State) : Host.Outcome State Fault Refusal := .next (s.luxStep u luxLdbu f)
def execStb (u : Nat) (f : Fields) (s : State) : Host.Outcome State Fault Refusal := .next (s.luxStep u luxStb f)
def execLdd (u : Nat) (f : Fields) (s : State) : Host.Outcome State Fault Refusal := .next (s.luxStep u luxLdd f)
def execStd (u : Nat) (f : Fields) (s : State) : Host.Outcome State Fault Refusal := .next (s.luxStep u luxStd f)
def execAmoadd (u : Nat) (f : Fields) (s : State) : Host.Outcome State Fault Refusal := .next (s.luxStep u luxAmoadd f)
def execRgr (u : Nat) (f : Fields) (s : State) : Host.Outcome State Fault Refusal := .next (s.luxStep u luxRgr f)
def execRgw (u : Nat) (f : Fields) (s : State) : Host.Outcome State Fault Refusal := .next (s.luxStep u luxRgw f)
def execTend (u : Nat) (f : Fields) (s : State) : Host.Outcome State Fault Refusal := .next (s.luxStep u luxTend f)
def execTpost (u : Nat) (f : Fields) (s : State) : Host.Outcome State Fault Refusal := .next (s.luxStep u luxTpost f)
def execTdly (u : Nat) (f : Fields) (s : State) : Host.Outcome State Fault Refusal := .next (s.luxStep u luxTdly f)
def execFlt (u : Nat) (f : Fields) (s : State) : Host.Outcome State Fault Refusal := .next (s.luxStep u luxFlt f)

end Sys2Proof.Machine
end

