-- ==== Sys2Proof/Machine/LuxVector.lean ====
section
/-! DEFINITION. The memory, accumulator and stage instructions of the T units (R368, R378-R382). -/

namespace Sys2Proof.Machine

/-- An instruction of an axis engine that touches no memory. -/
def aeOp (opc : Nat) (uses : Uses) (cost : Nat) (h : Fields → Lux → Lux) : LuxOp :=
  { opc := opc, ae := true, dsp := false, score := false, uses := uses, cost := fun _ => cost
    run := fun u f s => s.onUnit u (h f) }

/-! ### Memory (R378, R368) -/

def luxLdv : LuxOp :=
  { opc := 0x40, ae := true, dsp := false, score := false, uses := { d := .v, ea := true, f := 8 }, coissue := true
    run := fun u f s => s.withLine u f (fun l x => x.setV f.d (stageOfLine l)) }

/-- STV writes the whole word, so a word that does not decode decodes again. -/
def luxStv : LuxOp :=
  { opc := 0x41, ae := true, dsp := false, score := false, uses := { d := .v, ea := true, f := 8 }, coissue := true
    run := fun u f s =>
      let x := s.lux u
      match x.ea u f with
      | none => .illegal
      | some w => .done ((s.setUnitLine u w (lineOfStage (x.v f.d))).setLux u (x.postModify u f)) }

/-- LDS: on a DSP unit P must be 0 (R378), which `coissueOk` refuses. -/
def luxLds : LuxOp :=
  { opc := 0x42, ae := true, dsp := true, score := false, uses := { d := .s, ea := true, f := 15 }, coissue := true
    run := fun u f s => s.withLine u f (fun l x => x.setS f.d (l.get (f.f % 8))) }

def luxSts : LuxOp :=
  { opc := 0x43, ae := true, dsp := true, score := false, uses := { d := .s, ea := true, f := 7 }, cost := fun _ => 2
    run := fun u f s =>
      let x := s.lux u
      match x.ea u f with
      | none => .illegal
      | some w =>
        if s.unitBad u w then .ecc (unitAddr u w)
        else .done (((s.unitReads u [w]).setUnitLine u w ((s.unitLine u w).set (f.f % 8) (x.s f.d))).setLux u
          (x.postModify u f)) }

/-- SELLD (R368): a STRIDE of 0 or above 512 is illegal and leaves the selector. -/
def luxSelld : LuxOp :=
  { opc := 0x44, ae := true, dsp := false, score := false, uses := { ea := true }
    run := fun u f s =>
      let x := s.lux u
      match x.ea u f with
      | none => .illegal
      | some w =>
        if s.unitBad u w then .ecc (unitAddr u w)
        else
          let l := s.unitLine u w
          let stride := l.l1.bits 0 10
          if stride = 0 ∨ 512 < stride then .illegal
          else
            let sel : Selector :=
              { base := l.l0.bits 0 13, stride := stride, sel := l.l2.bits 0 4, next := l.l2.bits 4 4, w := l.l2.bits 8 8 }
            .done ((s.unitReads u [w]).setLux u ({ x with sel := sel }.postModify u f)) }

/-! ### MAC and accumulators (R379) -/

/-- Products or addends entered into an accumulator with C and N (R379). -/
def Lux.accumulate (x : Lux) (f : Fields) (p : Lanes Int) (e : Int) : Lux :=
  let p := if f.n then p.map (fun y => -y) else p
  if f.c then x.setAcc f.d (accClear p e)
  else
    let r := accAdd (x.acc f.d) p e
    (x.setAcc f.d r.1).raise r.2

/-- The fields of a MAC with a coefficient operand. -/
def macUses (b : Cls) : Uses := { d := .acc, a := .v, b := b, ea := true, f := 3 }

def luxMacb : LuxOp :=
  { opc := 0x50, ae := true, dsp := false, score := false, uses := macUses .lane, cost := fun f => if f.m = 2 then 2 else 1
    run := fun u f s => s.coefWord u f (fun c x =>
      let v := x.v f.a
      x.accumulate f (c.m.map (fun k => prod k (v.m.get f.b))) (c.e.toInt + v.e.toInt)) }

def luxMace : LuxOp :=
  { opc := 0x51, ae := true, dsp := false, score := false, uses := macUses .none, cost := fun f => if f.m = 2 then 2 else 1
    run := fun u f s => s.coefWord u f (fun c x =>
      let v := x.v f.a
      x.accumulate f (Lanes.zip prod c.m v.m) (c.e.toInt + v.e.toInt)) }

def luxMacr : LuxOp := aeOp 0x52 { d := .acc, a := .v, b := .v, f := 3 } 1 (fun f x =>
  x.accumulate f (Lanes.zip prod (x.v f.a).m (x.v f.b).m) ((x.v f.a).e.toInt + (x.v f.b).e.toInt))

def luxMacrb : LuxOp := aeOp 0x53 { d := .acc, a := .v, b := .v, f := 3, imm := 7#32 } 1 (fun f x =>
  x.accumulate f ((x.v f.a).m.map (fun k => prod k ((x.v f.b).m.get (f.imm.bits 0 3))))
    ((x.v f.a).e.toInt + (x.v f.b).e.toInt))

def luxAdda : LuxOp := aeOp 0x58 { d := .acc, a := .v, f := 3 } 1 (fun f x =>
  x.accumulate f ((x.v f.a).m.map (fun m => m.toInt * 2 ^ 23)) (x.v f.a).e.toInt)

/-- MOVA: with N each lane is negated, and the one lane that has no negation saturates (R379). -/
def luxMova : LuxOp := aeOp 0x59 { d := .acc, a := .acc, f := 2 } 1 (fun f x =>
  let a := x.acc f.a
  if f.n then
    let r := a.a.map (fun y => satAcc (-y.toInt))
    (x.setAcc f.d { a with a := r.map (·.1) }).raise { ovf := r.toList.any (·.2) }
  else x.setAcc f.d a)

def luxFixv : LuxOp := aeOp 0x5A { d := .v, a := .acc, imm := 0xFF#32 } 1 (fun f x =>
  let r := storeFixed (x.acc f.a) (f.imm.extractLsb' 0 8)
  (x.setV f.d r.1).raise r.2)

def luxNormv : LuxOp := aeOp 0x5B { d := .v, a := .acc } 2 (fun f x =>
  let r := storeNorm (x.acc f.a)
  (x.setV f.d r.1).raise r.2)

/-! ### Stages (R380-R382) -/

def luxVmov : LuxOp := aeOp 0x60 { d := .v, a := .v } 1 (fun f x => x.setV f.d (x.v f.a))

/-- Two mantissas of two exponents on one scale, for an exact comparison (R380). -/
def sameScale (m : BitVec 24) (e : Int) (n : BitVec 24) (g : Int) : Int × Int :=
  let l := min e g
  (m.toInt * 2 ^ (e - l).toNat, n.toInt * 2 ^ (g - l).toNat)

/-- One lane of VCLAMP (R380): beyond the limit's magnitude, plus or minus that magnitude at vA's exponent, truncated toward
zero and at most 2^23 - 1. -/
def clampTo (m : BitVec 24) (e : Int) (n : BitVec 24) (g : Int) : BitVec 24 :=
  let p := sameScale m e n g
  if p.2.natAbs < p.1.natAbs then
    let c : Nat := if e ≤ g then n.toInt.natAbs * 2 ^ (g - e).toNat else n.toInt.natAbs / 2 ^ (e - g).toNat
    let c : Int := min c (2 ^ 23 - 1)
    mant (if m.toInt < 0 then -c else c)
  else m

def luxVclamp : LuxOp := aeOp 0x61 { d := .v, a := .v, b := .v } 1 (fun f x =>
  let a := x.v f.a
  let b := x.v f.b
  x.setV f.d ⟨Lanes.zip (fun m n => clampTo m a.e.toInt n b.e.toInt) a.m b.m, a.e⟩)

/-- One lane of VCMP (R380). -/
def cmpLane (cond : Nat) (m : BitVec 24) (e : Int) (n : BitVec 24) (g : Int) : Bool :=
  let p := sameScale m e n g
  match cond with
  | 0 => decide (p.1 < p.2)
  | 1 => decide (p.1 ≤ p.2)
  | 2 => decide (p.1 = p.2)
  | _ => decide (p.2.natAbs < p.1.natAbs)

def luxVcmp : LuxOp := aeOp 0x62 { d := .s, a := .v, b := .v, f := 3 } 1 (fun f x =>
  let a := x.v f.a
  let b := x.v f.b
  let bits := (Lanes.zip (fun m n => cmpLane (f.f % 4) m a.e.toInt n b.e.toInt) a.m b.m).toList
  x.setS f.d (BitVec.ofNat 32 ((bits.mapIdx (fun k c => bitNat c * 2 ^ k)).foldl (· + ·) 0)))

/-- A stage's mantissas at a larger exponent, as in R93 step 1. -/
def alignTo (st : Stage) (e : Int) : Lanes (BitVec 24) :=
  let d := e - st.e.toInt
  st.m.map (fun m => if 24 ≤ d then 0 else mant (shrRound m.toInt d.toNat))

def luxVsel : LuxOp := aeOp 0x63 { d := .v, a := .v, b := .v, imm := 0xF#32 } 1 (fun f x =>
  let a := x.v f.a
  let b := x.v f.b
  let e := max a.e.toInt b.e.toInt
  let w := x.s (f.imm.bits 0 4)
  let ma := alignTo a e
  let mb := alignTo b e
  x.setV f.d ⟨Lanes.gen (fun k => if w.bit k then mb.get k else ma.get k), BitVec.ofInt 8 e⟩)

def luxVins : LuxOp := aeOp 0x64 { d := .v, a := .s, f := 7, imm := 0x1F#32 } 1 (fun f x =>
  let r := sat24 (shrRound (x.s f.a).toInt (f.imm.bits 0 5))
  let v := x.v f.d
  (x.setV f.d { v with m := v.m.set (f.f % 8) r.1 }).raiseSat r.2)

def luxVext : LuxOp := aeOp 0x65 { d := .s, a := .v, f := 7 } 1 (fun f x =>
  x.setS f.d (((x.v f.a).m.get (f.f % 8)).signExtend 32))

def luxVexp : LuxOp := aeOp 0x66 { d := .s, a := .v } 1 (fun f x => x.setS f.d ((x.v f.a).e.signExtend 32))

def luxVsete : LuxOp := aeOp 0x67 { d := .v, a := .v, f := 1, imm := 0xFF#32 } 1 (fun f x =>
  let v := x.v f.a
  let i := f.imm.extractLsb' 0 8
  if f.c then
    let r := satBits 8 (v.e.toInt + i.toInt)
    (x.setV f.d { v with e := BitVec.ofInt 8 r.1 }).raise { eclamp := r.2 }
  else x.setV f.d { v with e := i })

def luxVzero : LuxOp := aeOp 0x68 { d := .v } 1 (fun f x => x.setV f.d ⟨Lanes.fill 0, 0x80#8⟩)

/-- SINCOS (R382): exponent 1, lanes cos, sin, -sin, cos, twice. -/
def luxSincos : LuxOp := aeOp 0x69 { d := .v, a := .s } 3 (fun f x =>
  let r := sinCos (x.s f.a)
  let c := mant r.2
  x.setV f.d ⟨⟨c, mant r.1, mant (-r.1), c, c, mant r.1, mant (-r.1), c⟩, 1⟩)

/-- VSQRT (R381). -/
def luxVsqrt : LuxOp := aeOp 0x6A { d := .v, a := .v } 4 (fun f x =>
  let v := x.v f.a
  let e := v.e.toInt
  let r : Nat := if e % 2 = 0 then 1 else 0
  let q (m : BitVec 24) : BitVec 24 := if m.toInt < 0 then 0 else mant (isqrt (m.toInt.toNat * 2 ^ (22 + r)))
  (x.setV f.d ⟨v.m.map q, BitVec.ofInt 8 ((e + 1 - r) / 2)⟩).raiseSat (v.m.toList.any (fun m => decide (m.toInt < 0))))

def luxVresc : LuxOp := aeOp 0x6B { d := .v, a := .v, imm := 0xFF#32 } 1 (fun f x =>
  let v := x.v f.a
  let et := f.imm.extractLsb' 0 8
  let s := et.toInt - v.e.toInt
  let r := v.m.map (fun m => sat24 (shiftLane m.toInt s))
  (x.setV f.d ⟨r.map (·.1), et⟩).raiseSat (r.toList.any (·.2)))

def luxVneg : LuxOp := aeOp 0x6C { d := .v, a := .v, f := 1 } 1 (fun f x =>
  let v := x.v f.a
  let r := v.m.map (fun m => sat24 (if f.c then (m.toInt.natAbs : Int) else -m.toInt))
  (x.setV f.d { v with m := r.map (·.1) }).raiseSat (r.toList.any (·.2)))

/-! ### The commands -/

def execLdv (u : Nat) (f : Fields) (s : State) : Host.Outcome State Fault Refusal := .next (s.luxStep u luxLdv f)
def execStv (u : Nat) (f : Fields) (s : State) : Host.Outcome State Fault Refusal := .next (s.luxStep u luxStv f)
def execLds (u : Nat) (f : Fields) (s : State) : Host.Outcome State Fault Refusal := .next (s.luxStep u luxLds f)
def execSts (u : Nat) (f : Fields) (s : State) : Host.Outcome State Fault Refusal := .next (s.luxStep u luxSts f)
def execSelld (u : Nat) (f : Fields) (s : State) : Host.Outcome State Fault Refusal := .next (s.luxStep u luxSelld f)
def execMacb (u : Nat) (f : Fields) (s : State) : Host.Outcome State Fault Refusal := .next (s.luxStep u luxMacb f)
def execMace (u : Nat) (f : Fields) (s : State) : Host.Outcome State Fault Refusal := .next (s.luxStep u luxMace f)
def execMacr (u : Nat) (f : Fields) (s : State) : Host.Outcome State Fault Refusal := .next (s.luxStep u luxMacr f)
def execMacrb (u : Nat) (f : Fields) (s : State) : Host.Outcome State Fault Refusal := .next (s.luxStep u luxMacrb f)
def execAdda (u : Nat) (f : Fields) (s : State) : Host.Outcome State Fault Refusal := .next (s.luxStep u luxAdda f)
def execMova (u : Nat) (f : Fields) (s : State) : Host.Outcome State Fault Refusal := .next (s.luxStep u luxMova f)
def execFixv (u : Nat) (f : Fields) (s : State) : Host.Outcome State Fault Refusal := .next (s.luxStep u luxFixv f)
def execNormv (u : Nat) (f : Fields) (s : State) : Host.Outcome State Fault Refusal := .next (s.luxStep u luxNormv f)
def execVmov (u : Nat) (f : Fields) (s : State) : Host.Outcome State Fault Refusal := .next (s.luxStep u luxVmov f)
def execVclamp (u : Nat) (f : Fields) (s : State) : Host.Outcome State Fault Refusal := .next (s.luxStep u luxVclamp f)
def execVcmp (u : Nat) (f : Fields) (s : State) : Host.Outcome State Fault Refusal := .next (s.luxStep u luxVcmp f)
def execVsel (u : Nat) (f : Fields) (s : State) : Host.Outcome State Fault Refusal := .next (s.luxStep u luxVsel f)
def execVins (u : Nat) (f : Fields) (s : State) : Host.Outcome State Fault Refusal := .next (s.luxStep u luxVins f)
def execVext (u : Nat) (f : Fields) (s : State) : Host.Outcome State Fault Refusal := .next (s.luxStep u luxVext f)
def execVexp (u : Nat) (f : Fields) (s : State) : Host.Outcome State Fault Refusal := .next (s.luxStep u luxVexp f)
def execVsete (u : Nat) (f : Fields) (s : State) : Host.Outcome State Fault Refusal := .next (s.luxStep u luxVsete f)
def execVzero (u : Nat) (f : Fields) (s : State) : Host.Outcome State Fault Refusal := .next (s.luxStep u luxVzero f)
def execSincos (u : Nat) (f : Fields) (s : State) : Host.Outcome State Fault Refusal := .next (s.luxStep u luxSincos f)
def execVsqrt (u : Nat) (f : Fields) (s : State) : Host.Outcome State Fault Refusal := .next (s.luxStep u luxVsqrt f)
def execVresc (u : Nat) (f : Fields) (s : State) : Host.Outcome State Fault Refusal := .next (s.luxStep u luxVresc f)
def execVneg (u : Nat) (f : Fields) (s : State) : Host.Outcome State Fault Refusal := .next (s.luxStep u luxVneg f)

end Sys2Proof.Machine
end

