-- ==== Sys2Proof/Machine/LuxRun.lean ====
section
/-! DEFINITION. The instruction set as a table, a block run by a RUN entry (R63, R373), and an illegal instruction word (R374,
R388). -/

namespace Sys2Proof.Machine

/-- The instructions common to every unit and those of scalars, pointers and indices (R375-R378). -/
def luxScalarOps : List LuxOp :=
  [luxNop, luxEnd, luxLoop, luxRdf, luxClrf, luxAdd, luxSub, luxAdds, luxSubs, luxAnd, luxOr, luxXor, luxShl, luxShr, luxSar,
    luxMul, luxMulh, luxMin, luxMax, luxSlt, luxSltu, luxAddi, luxMovi, luxShli, luxShri, luxSari, luxAndi, luxSelz, luxAbs,
    luxDiv, luxDivu, luxXmov, luxXaddi, luxSfromx, luxPmov, luxPaddi, luxSfromp]

/-- The vector instructions of axis engines and those of DSP units (R379-R383). -/
def luxVectorOps : List LuxOp :=
  [luxLdv, luxStv, luxLds, luxSts, luxSelld, luxMacb, luxMace, luxMacr, luxMacrb, luxAdda, luxMova, luxFixv, luxNormv, luxVmov,
    luxVclamp, luxVcmp, luxVsel, luxVins, luxVext, luxVexp, luxVsete, luxVzero, luxSincos, luxVsqrt, luxVresc, luxVneg, luxBiq,
    luxFir, luxFft]

/-- The instructions of the S-cores (R384-R387). -/
def luxSoftOps : List LuxOp :=
  [luxBeq, luxBne, luxBlt, luxBge, luxBltu, luxBgeu, luxJal, luxJr, luxLdw, luxStw, luxLdbu, luxStb, luxLdd, luxStd, luxAmoadd,
    luxRgr, luxRgw, luxTend, luxTpost, luxTdly, luxFlt]

/-- Every instruction (R363). -/
def luxOps : List LuxOp := luxScalarOps ++ luxVectorOps ++ luxSoftOps

/-- The instruction of an opcode on a unit; none for a reserved opcode, or one that the unit does not execute (R361, R363). -/
def luxOpOf (u opc : Nat) : Option LuxOp := luxOps.find? (fun o => o.opc == opc && o.on u)

/-- The instructions of a block, one after another, as long as each ends within the budget (R71, R362); `fuel` instructions at
most. Code that runs past its section is taken as an illegal instruction (log 24). -/
def State.runBlock (u budget : Nat) : Nat → State → State
  | 0, s => s
  | fuel + 1, s =>
    let x := s.lux u
    if !x.running || s.unitStopped u then s
    else
      match s.codeWord u x.pc with
      | none => s.stopUnit u 3
      | some w =>
        let p := fieldsOf w
        match luxOpOf u p.1 with
        | none => s.stopUnit u 3
        | some o =>
          if budget < x.cycles + (if o.coissue && p.2.p then 0 else o.cost p.2) then s
          else State.runBlock u budget fuel (s.luxStep u o p.2)

/-- A unit starts the block at a code offset (R63, R373): its loops and its count of cycles begin anew. -/
def State.startBlock (s : State) (u off : Nat) : State :=
  s.setLux u { (s.lux u) with pc := off, loops := [], mac := false, running := true, cycles := 0 }

/-- ILLEGAL_INSTRUCTION (R374, R388): a word that the unit cannot execute as it stands; for any other word nothing happens. -/
def State.illegalWord (s : State) (u : Nat) (w : U64) : State :=
  if !s.unitActs u then s
  else match s.fetchFault u with
    | some p => s.fetchFails u p
    | none =>
      let p := fieldsOf w
      match luxOpOf u p.1 with
      | none => s.fetched u (if u < 80 then s.stopUnit u 3 else s.sFault (u - 80) 1 0 w)
      | some o =>
        match (if o.legal u p.2 (s.lux u) then o.run u p.2 s else .illegal) with
        | .illegal => s.fetched u (s.luxRun u o p.2)
        | _ => s

def execIllegalInstruction (u : Nat) (word : U64) (s : State) : Host.Outcome State Fault Refusal :=
  .next (s.illegalWord u word)

end Sys2Proof.Machine
end

