-- ==== Sys2Proof/Machine/RegRows.lean ====
section
/-! DEFINITION. Accesses of BAR0 and BAR2 as rows (R10, R11, R502-R508, R515-R517, R551): pushes into the command queue and the
stop table, register writes, mailboxes, the PC samples (R533). -/

namespace Sys2Proof.Machine

/-! ### Pushes (R515, R517) -/

/-- The 32 bytes of the entry registers (R515). -/
def HostIf.entryBytes (h : HostIf) : List Byte := h.entry.flatMap (fun w => bytesLE 4 w.toNat)

/-- The stop table's place of an entry, if it is a stop command or SF_DEMAND with a target in range and breaks no format
(R517, R518). -/
def stopPlace (e : List Byte) : Option Nat :=
  if (badByte e).isSome then none
  else
    let v := argValues (nthD 0 e 0).toNat e
    let n := nthD 0 v 0
    match (nthD 0 e 0).toNat with
    | 0x41 => if n < 512 then some n else none
    | 0x54 => if n < 528 then some (512 + n) else none
    | 0x53 => if n < 528 then some (1040 + n) else none
    | 0x57 => if n < 16 ∧ nthD 0 v 1 = 0 then some (1568 + n) else none
    | 0xD2 => if n < 32 then some (1584 + n) else none
    | _ => none

/-- A push into the stop table (R517): it sets its flag, or merges with the one that is set and is answered at once. -/
def State.pushStop (s : State) (place : Nat) (p : Push) : State :=
  let h := { s.host with seq := p.seq, last := codeOk }
  match Tab.get none h.stops place with
  | none => { s with host := { h with stops := Tab.put none h.stops place (some p) } }
  | some q =>
    ({ s with host := { h with takenCount := h.takenCount + 1 } }).result p.seq (fieldLE p.entry 2 2) (nthD 0 p.entry 0).toNat
      codeOk q.seq 0

/-- A push (R515): into the stop table or the queue; a full queue refuses it. -/
def State.pushCommand (s : State) (origin : Nat) : State :=
  let h := s.host
  let p : Push := ⟨h.seq + 1, origin, h.entryBytes⟩
  match stopPlace p.entry with
  | some place => s.pushStop place p
  | none =>
    if h.queue.length < 256 then { s with host := { h with seq := p.seq, queue := h.queue ++ [p], last := codeOk } }
    else { s with host := { h with last := codeBackpressure, full := satAdd 0xFFFF h.full 1 } }

/-! ### Register writes -/

/-- The core of a soft agent runs a task, so that it can execute an RGW (R385, R394). -/
def State.softRuns (s : State) (agent : Nat) : Bool :=
  let x := s.core (agent - 1)
  x.task.isSome && !x.out

/-- A write of a register by an agent (R11, R504, R515): a push of the host or the debug port, and the REGISTER fault of an
S-core, whose record holds a free instruction word where the row names none. -/
def State.writeAt (s : State) (agent off : Nat) (w : Word) : State :=
  let r := s.writeReg agent off w
  if r.2 then
    let t := s.tick
    t.2.sFault (agent - 1) 7 off (Config.free t.1)
  else if off = 0x40 ∧ w.bit 0 = true ∧ isSoft agent = false then r.1.pushCommand (agentOrigin agent)
  else r.1

/-- A write that an agent sends to a BAR0 offset (R10, R13, R504): a register, an alias, or a narrow place. -/
def State.hostWrite (s : State) (agent off : Nat) (w : Word) : State :=
  if !s.answers agent || (isSoft agent && !s.softRuns agent) || decide (0x4000000 ≤ off) then s
  else if off % 4 ≠ 0 then s.accessError 1 false off
  else if 0x2000000 ≤ off ∧ isSoft agent = false then s.writeAt agent (aliasOff off) (s.aliasWord agent off (w.bit 0))
  else s.writeAt agent off w

/-- A read through an alias (R504): the bit in bit 0; the completion goes to the host. -/
def State.aliasRead (s : State) (agent off : Nat) : State :=
  if !s.answers agent || isSoft agent || decide (0x4000000 ≤ off) || decide (off < 0x2000000) then s
  else
    let r := s.readBy agent (aliasOff off)
    { r.2.1 with host := { r.2.1.host with readData := bytesLE 4 (bitNat (r.1.bit (aliasBit off))), poisoned := false } }

/-- A narrow access of BAR0 (R10): a read answers 0, a write is discarded, and an access error is recorded. -/
def State.narrow (s : State) (off : Nat) (write : Bool) : State :=
  if !s.answers 0 then s
  else
    let s1 := s.accessError 1 false off
    if write then s1 else { s1 with host := { s1.host with readData := bytesLE 4 0, poisoned := false } }

/-- LK_WRITE (R551): the oldest write of LK fields that waits takes effect, its entry being durable. -/
def State.lkWrite (s : State) : State :=
  match s.host.lkPend with
  | [] => s
  | p :: r => ({ s with host := { s.host with lkPend := r } }).applyLk p

/-! ### BAR2 (R507, R508) -/

/-- What the host may do at a fabric address: 0 nothing, 1 read, 2 read and write (R507). -/
def bar2Access (a : Nat) : Nat :=
  if 0x02000000 ≤ a ∧ a < 0x02800000 ∧ 0x1FF000 ≤ a % 0x200000 then (if 4 ≤ a % 0x800 ∧ a % 0x800 < 8 then 2 else 1)
  else if 0x03600000 ≤ a ∧ a < 0x03605000 then 1
  else if 0x03620000 ≤ a ∧ a < 0x03638000 then 1
  else if 0x03640000 ≤ a ∧ a < 0x03660000 then 1
  else if 0x03660000 ≤ a ∧ a < 0x036C0000 then 2
  else if 0x036C0000 ≤ a ∧ a < 0x036E8000 then 1
  else if 0x036E8000 ≤ a ∧ a < 0x036F8000 then 2
  else if 0x036F8000 ≤ a ∧ a < 0x03700000 then 1
  else 0

/-- The least access over a range of bytes. -/
def bar2Range (a n : Nat) : Nat := (List.range n).foldl (fun m j => min m (bar2Access (a + j))) 2

/-- BAR2_WRITE (R445, R507, R508, R548): it needs the SETTINGS right; a LEAD forwards it. -/
def State.bar2Write (s : State) (a : Nat) (bs : List Byte) (poisoned : Bool) : State :=
  if !s.answers 0 || bs.isEmpty then s
  else if poisoned then s.accessError 4 true a
  else if bar2Range a bs.length = 0 then s.accessError 2 true a
  else if bar2Range a bs.length = 1 then s.accessError 3 true a
  else if s.lacks originHost (some 1) then s.deny a
  else
    let s1 := s.store' a bs
    if s.rope.role = 2 then { s1 with rope := { s1.rope with forward := s1.rope.forward ++ [.mem a bs] } } else s1

/-- A byte that a BAR2 read returns: the matching store's layout is not given, so its bytes are free (log 15). -/
def State.bar2Bytes (s : State) (a : Nat) : Nat → List Byte × State
  | 0 => ([], s)
  | n + 1 =>
    if inMatching a then
      let t := s.tick
      let r := State.bar2Bytes t.2 (a + 1) n
      ((Config.free t.1).setWidth 8 :: r.1, r.2)
    else
      let r := State.bar2Bytes s (a + 1) n
      (s.mem.byte a :: r.1, r.2)

/-- BAR2_READ (R110, R507, R508): an uncorrectable word gives a poisoned completion with data 0 and the host port's fault, with that of
the unit to which the word's memory belongs (R347, R403). -/
def State.bar2Read (s : State) (a n : Nat) : State :=
  if !s.answers 0 || n == 0 then s
  else
    let answer (s : State) (bs : List Byte) (p : Bool) : State := { s with host := { s.host with readData := bs, poisoned := p } }
    if bar2Range a n = 0 then answer (s.accessError 2 true a) (bytesLE n 0) false
    else
      let bad := (wordsOf a n).filter (fun w => s.bad.contains w)
      if !bad.isEmpty then
        answer ((bad.filter (fun w => !inRegion w && idieUnit w != 0x7000)).foldl (fun s w => s.idieFault w) (s.unitFault 1 0x7000))
          (bytesLE n 0) true
      else
      let r := (s.correct none (wordsOf a n)).bar2Bytes a n
      answer r.2 r.1 false

/-! ### PC samples (R533) -/

/-- PC_SAMPLE: a core with EN writes its sample to its ring. -/
def State.pcSample (s : State) (c : Nat) (waiting : Bool) : State :=
  if decide (8 ≤ c) || !(s.cfgW (0xB0A00 + 0x10 * c)).bit 31 then s
  else
    let w := Tab.get 0 s.perf.pcs c
    let x := s.core c
    let bs := bytesLE 4 (s.lux (80 + c)).pc ++ bytesLE 2 (x.task.getD 0xFFFF) ++
      [BitVec.ofNat 8 (bitNat (waiting && x.task.isSome) + 2 * bitNat x.task.isNone), 0]
    let s1 := s.store' (0x036F8000 + 0x1000 * c + 8 * (w.toNat % 512)) bs
    { s1 with perf := { s1.perf with pcs := Tab.put 0 s1.perf.pcs c (w + 1) } }

/-! ### Bandwidth windows (R532, R534) -/

/-- RAW brought to a later value, by whole cycles of the time island (R293). -/
def TimeBase.rawUntil (t : TimeBase) (target : U64) : TimeBase :=
  let d := (target - t.raw).toInt
  if t.counting && decide (0 < d) then t.cycles d.toNat else t

/-- BW_WINDOW_END: the window of a running monitor ends; it carried `bytes` bytes in `busy` permille of the port's cycles. -/
def State.bwWindowEnd (s : State) (m bytes busy : Nat) : State :=
  let b := s.bw m
  let cfg := s.cfgW (0xB0800 + 0x10 * m)
  match (if 16 ≤ m ∨ cfg.bit 31 = false then none else b.start) with
  | none => s
  | some st =>
    let us := cfg.bits 0 20
    let next := st + BitVec.ofNat 64 (1000 * us)
    let rate := BitVec.ofInt 32 (min 0xFFFFFFFF (divRound (bytes : Int) us))
    let s1 := { s with time := s.time.rawUntil next }
    s1.setBw m { b with rate := rate, peak := if b.peak < rate then rate else b.peak, bytes := BitVec.ofNat 64 bytes
                        busy := min 1000 busy, windows := satAdd 0xFFFF b.windows 1, number := b.number + 1, start := some next }

/-! ### The rows -/

def execCmdPush (agent : Nat) (s : State) : Host.Outcome State Fault Refusal := .next (s.hostWrite agent 0x40 1)
def execRegisterWrite (agent off : Nat) (w : Word) (s : State) : Host.Outcome State Fault Refusal := .next (s.hostWrite agent off w)
def execLkWrite (s : State) : Host.Outcome State Fault Refusal := .next s.lkWrite
def execNarrowAccess (off : Nat) (write : Bool) (s : State) : Host.Outcome State Fault Refusal := .next (s.narrow off write)
def execAliasAccess (agent off : Nat) (write : Bool) (w : Word) (s : State) : Host.Outcome State Fault Refusal :=
  .next (if off < 0x2000000 then s else if write then s.hostWrite agent off w else s.aliasRead agent off)
def execBar2Write (a : Nat) (bs : List Byte) (poisoned : Bool) (s : State) : Host.Outcome State Fault Refusal :=
  .next (s.bar2Write a bs poisoned)
def execBar2Read (a n : Nat) (s : State) : Host.Outcome State Fault Refusal := .next (s.bar2Read a n)
def execMailboxSelect (agent k selector : Nat) (s : State) : Host.Outcome State Fault Refusal :=
  .next (if k < 8 then s.hostWrite agent (0x2000 + 0x20 * k) (BitVec.ofNat 32 (selector % 65536)) else s)
def execMailboxCaptureComplete (k : Nat) (s : State) : Host.Outcome State Fault Refusal := .next (s.completeCapture k)
def execDelayMaxClear (agent i : Nat) (s : State) : Host.Outcome State Fault Refusal :=
  .next (if i < 512 then s.hostWrite agent (axOff i 0x14) 0x80000000#32 else s)

/-- A register's present value as a write gives it back, its W1C bits 0. -/
def State.keepWord (s : State) (off : Nat) : Word := s.readReg off &&& ~~~(w1cOf off)

def execGovClear (agent : Nat) (s : State) : Host.Outcome State Fault Refusal :=
  .next (s.hostWrite agent 0x20000 (s.keepWord 0x20000 ||| 2#32))
def execPerfClear (agent : Nat) (s : State) : Host.Outcome State Fault Refusal :=
  .next (s.hostWrite agent 0xB0000 (s.keepWord 0xB0000 ||| 2#32))
def execPerfFreeze (agent : Nat) (freeze : Bool) (s : State) : Host.Outcome State Fault Refusal :=
  .next (s.hostWrite agent 0xB0000 ((s.keepWord 0xB0000 &&& ~~~(4#32)) ||| (if freeze then 4#32 else 0#32)))
def execPerfCfgWrite (agent k : Nat) (w : Word) (s : State) : Host.Outcome State Fault Refusal :=
  .next (if k < 128 then s.hostWrite agent (0xB0100 + 4 * k) w else s)
def execCmpArm (agent k : Nat) (s : State) : Host.Outcome State Fault Refusal :=
  .next (if k < 32 then s.hostWrite agent (0x50108 + 0x10 * k) (s.keepWord (0x50108 + 0x10 * k) ||| 0x80000000#32) else s)
def execEvioModeWrite (agent p mode : Nat) (s : State) : Host.Outcome State Fault Refusal :=
  .next (if p < 64 then s.hostWrite agent (0x51000 + 0x20 * p) ((s.keepWord (0x51000 + 0x20 * p)).setBits 30 2 mode) else s)
def execEvioQt (agent p : Nat) (target : Word) (s : State) : Host.Outcome State Fault Refusal :=
  .next (if p < 64 then s.hostWrite agent (0x51004 + 0x20 * p) target else s)
def execEvioQpush (agent p : Nat) (level : Bool) (s : State) : Host.Outcome State Fault Refusal :=
  .next (if p < 64 then s.hostWrite agent (0x51008 + 0x20 * p) (BitVec.ofNat 32 (bitNat level)) else s)
def execCapRdWrite (agent : Nat) (w : Word) (s : State) : Host.Outcome State Fault Refusal := .next (s.hostWrite agent 0x50024 w)
def execArxRdWrite (agent r : Nat) (w : Word) (s : State) : Host.Outcome State Fault Refusal :=
  .next (if r < 4 then s.hostWrite agent (0x40054 + 0x4000 * r) w else s)
def execStrRdWrite (agent : Nat) (w : Word) (s : State) : Host.Outcome State Fault Refusal := .next (s.hostWrite agent 0x80024 w)
def execSchedWindowWrite (agent : Nat) (w : Word) (s : State) : Host.Outcome State Fault Refusal :=
  .next (s.hostWrite agent 0x30008 w)
def execClassRightRemove (agent : Nat) (soft : Bool) (w : Word) (s : State) : Host.Outcome State Fault Refusal :=
  .next (s.hostWrite agent (if soft then 0x1008 else 0x1004) w)
def execBwMonitorEnable (agent m : Nat) (w : Word) (s : State) : Host.Outcome State Fault Refusal :=
  .next (if m < 16 then s.hostWrite agent (0xB0800 + 0x10 * m) (w ||| 0x80000000#32) else s)
def execBwWindowEnd (m bytes busy : Nat) (s : State) : Host.Outcome State Fault Refusal := .next (s.bwWindowEnd m bytes busy)
def execPcSample (c : Nat) (waiting : Bool) (s : State) : Host.Outcome State Fault Refusal := .next (s.pcSample c waiting)

end Sys2Proof.Machine
end

