-- ==== Sys2Proof/Machine/FeedbackRows.lean ====
section
/-! DEFINITION. The feedback events (R216-R234): edges of the local encoders and their filters, the QERR windows, the words of the serial
ports. -/

namespace Sys2Proof.Machine

/-- TIME brought to a stamp on the time base. -/
def State.toStamp (s : State) (stamp : U64) : State := { s with time := s.time.advance stamp }

/-- STANDSTILL_TIME of a local encoder in ns (R241). -/
def State.encStill (s : State) (c : Nat) : Nat := (s.cfgW (encOff c 0x08)).bits 0 20 * 1000

/-- FILT_N of a local encoder (R240). -/
def State.encFilt (s : State) (c : Nat) : Nat := (s.cfgW (encOff c 0)).bits 24 8

/-- TIME brought to the clock in which a run that began at `stamp` passes the filters of an encoder (R216). -/
def State.filterDone (s : State) (c : Nat) (stamp : U64) : State := s.toStamp (stamp + BitVec.ofNat 64 (5 * s.encFilt c))

/-- A filtered change of the pair AB of an encoder (R218). -/
def State.countEdge (s : State) (c : Nat) (ab : BitVec 2) (stamp : U64) : State :=
  s.setEnc c ((s.enc c).abChange ab stamp ((s.cfgW (encOff c 0)).bit 16) (s.encStill c))

/-- ENCODER_EDGE (R216-R218): from `stamp` on the lines show the pair `ab`, A in bit 1, for `runA` and `runB` samples; what passes the
filters is decoded. -/
def State.encoderEdge (s : State) (c ab runA runB : Nat) (stamp : U64) : State :=
  if decide (16 ≤ c) || s.host.phase == .por then s
  else
    let s1 := s.filterDone c stamp
    s1.countEdge c (filteredAB (s1.encFilt c) (s1.enc c).ab (BitVec.ofNat 2 ab) runA runB) stamp

/-- A rising filtered index edge (R222, R223): a pair of index edges outside the tolerance is a feedback fault with cause 2. -/
def State.indexRise (s : State) (c : Nat) (stamp : U64) : State :=
  let cfg := s.cfgW (encOff c 0)
  let cpr := (s.cfgW (encOff c 4)).toNat
  let x := s.enc c
  let s2 := s.setEnc c (x.index stamp (cfg.bit 18) cpr (cfg.bits 0 16))
  match x.idxPrev with
  | none => s2
  | some prev =>
    let d := (x.total - prev).natAbs
    let off := if cpr ≤ d then d - cpr else cpr - d
    if cfg.bit 18 && !x.idxReversal && decide (cfg.bits 0 16 < off) then s2.fbRaise c 2 else s2

/-- ENCODER_INDEX_EDGE (R216, R222): from `stamp` on the index ball shows `level` for `run` samples, XORed with IDX_INV, and `ab` is the
filtered pair in the clock in which that passes the filter, so that an A or B edge of the same clock comes first. -/
def State.encoderIndex (s : State) (c ab : Nat) (level : Bool) (run : Nat) (stamp : U64) : State :=
  if decide (16 ≤ c) || s.host.phase == .por then s
  else
    let s1 := s.filterDone c stamp
    let old := (s1.enc c).idxLevel
    let new := filtered (s1.encFilt c) old (level ^^ (s1.cfgW (encOff c 0)).bit 17) run
    if new == old then s1
    else
      let s2 := s1.countEdge c (BitVec.ofNat 2 ab) stamp
      let s3 := s2.setEnc c { s2.enc c with idxLevel := new }
      if new then s3.indexRise c stamp else s3

/-- QERR_WINDOW and QERR_LIMIT of a channel (R242). -/
def State.qerrCfg (s : State) (ch : Nat) : Word := s.cfgW (if ch < 16 then encOff ch 0x0C else remOff (ch - 512) 0x08)

/-- The QERR window of a channel, if it has one (R221, R233). -/
def State.qWindow (s : State) (ch : Nat) : Option QWindow :=
  if ch < 16 then (s.enc ch).window else if 512 ≤ ch ∧ ch < 1024 then (s.rem (ch - 512)).window else none

/-- A channel's QERR window written. -/
def State.setWindow (s : State) (ch : Nat) (w : Option QWindow) : State :=
  if ch < 16 then s.setEnc ch { s.enc ch with window := w }
  else s.setRem (ch - 512) { s.rem (ch - 512) with window := w }

/-- QERR_WINDOW_CLOSE (R221): a window closes after its QERR_WINDOW-th passage. -/
def State.qerrClose (s : State) (ch : Nat) : State :=
  match s.qWindow ch with
  | none => s
  | some w => if (s.qerrCfg ch).bits 16 16 ≤ w.passages then s.setWindow ch none else s

/-- QERR_LIMIT_REACHED (R221): the first time that the count of a window reaches QERR_LIMIT. -/
def State.qerrLimit (s : State) (ch : Nat) : State :=
  match s.qWindow ch with
  | none => s
  | some w =>
    if !w.raised && decide ((s.qerrCfg ch).bits 0 8 ≤ w.count) then (s.setWindow ch (some { w with raised := true })).fbRaise ch 1 else s

/-- Whether port `p` has the latest DEADLINE of the serial ports in use (R439): of equal ones the highest port. -/
def State.lastSerial (s : State) (p : Nat) : Bool :=
  let d (q : Nat) : Nat := nthD 0 s.image.wiring.serialDeadline q
  d p != 0 && (List.range 8).all (fun q => decide (d q < d p) || (d q == d p && decide (q ≤ p)))

/-- A LEAD's LOCAL_SER after the latest DEADLINE (R439, R443). -/
def State.sendLocalSer (s : State) (p : Nat) : State :=
  if s.rope.role ≠ 2 ∨ s.lastSerial p = false then s
  else
    let chans := ((List.range 8).filter (fun q => nthD 0 s.image.wiring.serialDeadline q != 0)).map (fun q =>
      let x := s.ser q
      ({ channel := q, total := x.total, speed := x.speed, spState := x.spState, age := x.age, lastErr := x.lastErr } : LocalChan))
    ({ s with rope := { s.rope with localSerOut := some (s.tt.passage, chans) } }).queueFrame 0 [0x59]

/-- SERIAL_DEADLINE (R225-R227, R229, R230): the port hands over its word, of the level of SDATA at falling edge 0 and the samples at the
edges after it. Falling edge 0 is made 10 to 15 ns after passage start; where in that window is free. -/
def State.serialDeadline (s : State) (p : Nat) (edge0 : Bool) (samples : List Bool) : State :=
  if decide (8 ≤ p) || !s.tt.clockOn then s
  else
    let cfg := s.cfgW (serOff p 0)
    let deadline := 10 * nthD 0 s.image.wiring.serialDeadline p
    let due := s.tt.start + BitVec.ofNat 64 deadline
    let t := s.tick
    let s1 := t.2.toStamp due
    let x := s1.ser p
    let word := serialReceived cfg (s.cfgW (serOff p 4)) deadline (10 + (Config.free t.1).toNat % 6) edge0 samples
    let y := x.hand (serialWord cfg word) (cfg.bits 16 6) ((s1.cfgW (serOff p 8)).bits 0 28) s1.periodNs due s1.tt.passage
    (s1.setSer p { y with word := match word with
      | some w => BitVec.ofNat 64 w
      | none => x.word }).sendLocalSer p

/-- SERIAL_FAIL_LIMIT (R229, R234): a fault whose cause had ended is raised anew. -/
def State.serialFailLimit (s : State) (p : Nat) : State :=
  let lim := (s.cfgW (serOff p 8)).bits 28 4
  if decide (p < 8) && decide (1 ≤ lim) && decide (lim ≤ (s.ser p).failRun) &&
      ((s.ser p).fault != 3 || (s.ser p).ended) then s.fbRaise (16 + p) 3 else s

def execEncoderEdge (c : Nat) (lines : PairRun) (stamp : U64) (s : State) : Host.Outcome State Fault Refusal :=
  .next (s.encoderEdge c lines.ab lines.runA lines.runB stamp)
def execEncoderIndexEdge (c : Nat) (seen : IndexRun) (s : State) : Host.Outcome State Fault Refusal :=
  .next (s.encoderIndex c seen.ab seen.line.level seen.line.run seen.stamp)
def execQerrWindowClose (ch : Nat) (s : State) : Host.Outcome State Fault Refusal := .next (s.qerrClose ch)
def execQerrLimitReached (ch : Nat) (s : State) : Host.Outcome State Fault Refusal := .next (s.qerrLimit ch)
def execSerialDeadline (p : Nat) (edge0 : Bool) (samples : List Bool) (s : State) : Host.Outcome State Fault Refusal :=
  .next (s.serialDeadline p edge0 samples)
def execSerialFailLimit (p : Nat) (s : State) : Host.Outcome State Fault Refusal := .next (s.serialFailLimit p)

end Sys2Proof.Machine
end

