-- ==== Sys2Proof/Machine/SchedRows.lean ====
section
/-! DEFINITION. The scheduler's events (R398-R401, R405). -/

namespace Sys2Proof.Machine

/-- The context words that a core reads as it continues a delayed task (R109, R400, R403): corrected ones are counted, and one that
does not decode ends the task by an ECC fault of the core. `s` is the state of the start, `t` the state with the task started. -/
def State.readContext (s : State) (core : Nat) (t : State) : State :=
  match (t.core core).task with
  | none => t
  | some d =>
    if (s.core core).task.isSome || !s.sched.resume.contains d then t
    else
      let ws := wordsOf (s.descWord d 12).toNat 128
      match ws.find? (fun w => s.undecodable w) with
      | some w => t.sEcc core w 0
      | none => t.correct none ws

/-- TASK_START (R398): the core starts the first descriptor that it may start. -/
def execTaskStart (core : Nat) (s : State) : Host.Outcome State Fault Refusal := .next (s.readContext core (s.startTask core))

/-- PENDING_TOKEN_ACCEPT (R401): the pending token of a source is offered again, and accepted when the store has room. -/
def State.retryToken (s : State) (k : Nat) : State := if k < 100 ∧ s.sourcePending k = true then s.offer k else s

def execPendingTokenAccept (source : Nat) (s : State) : Host.Outcome State Fault Refusal := .next (s.retryToken source)

/-- DELAY_EXPIRY (R400): the ticks of a delayed descriptor are over, and it is READY as a resume. -/
def State.delayExpiry (s : State) (d : Nat) : State :=
  if s.descState d ≠ dDelayed then s
  else match s.sched.dlyPassage.find? (fun p => p.1 == d), s.sched.dlyMicro.find? (fun p => p.1 == d) with
    | some (_, left), _ => if left = 0 then ({ s with sched := s.sched.undelay d }).makeReady d true else s
    | none, some (_, at') =>
      let s1 := { s with time := s.time.rawUntil (BitVec.ofNat 64 (1000 * at')) }
      if 1000 * at' ≤ s1.time.raw.toNat then ({ s1 with sched := s1.sched.undelay d }).makeReady d true else s
    | none, none => s

def execDelayExpiry (d : Nat) (s : State) : Host.Outcome State Fault Refusal := .next (s.delayExpiry d)

/-- SCHED_WINDOW_END (R405): the window has run for WINDOW passages. -/
def State.schedWindowEnd (s : State) : State :=
  let w := (s.cfgW 0x30008).bits 0 16
  if w ≠ 0 ∧ w ≤ s.sched.window then s.closeWindow else s

def execSchedWindowEnd (s : State) : Host.Outcome State Fault Refusal := .next s.schedWindowEnd

end Sys2Proof.Machine
end

