-- ==== Sys2Proof/Machine/TimeRows.lean ====
section
/-! DEFINITION. The events of the time island (R303-R312): comparators, timed outputs, captures. -/

namespace Sys2Proof.Machine

/-- The trigger units with a source of a kind and a number (R328, R356). -/
def State.unitsOn (s : State) (srcKind sel : Nat) : List Nat :=
  (List.range 16).filter (fun u => (s.trgCfg u).srcKind == srcKind && (s.trgCfg u).sel == sel)

/-- CMP_FIRE (R303-R305, R331, R401). -/
def State.cmpFire (s : State) (k : Nat) : State :=
  let c := s.cmp k
  if decide (32 ≤ k) || !c.arm || !s.time.counting then s
  else
    let s1 := s.toStamp (dueInstant s.time.time c.target)
    let s2 := s1.setCmp k (c.fire s1.time.time)
    let s3 := if c.trig then
        ((s2.fillAll.unitsOn 2 k).filter (fun u => (s2.trgCfg u).kind == 0)).foldl (fun s u => s.fireNow u (s1.time.time * 4)) s2.fillAll
      else s2
    if c.token then s3.offer k else s3

/-- The next cycle of the time island, where the pin's queue has been served in this one (R307). -/
def State.serveCycle (s : State) (e : Evio) : State :=
  if e.firedAt = some s.time.raw then { s with time := s.time.cycles 1 } else s

/-- EVIO_ENTRY_FIRE (R307): the head entry of a pin in mode 1 comes due, one entry in a cycle at most. -/
def State.evioFire (s : State) (p : Nat) : State :=
  let e := s.evio p
  match (if 64 ≤ p ∨ e.mode ≠ 1 ∨ s.time.counting = false then [] else e.queue) with
  | [] => s
  | (target, _) :: _ =>
    let s1 := (s.toStamp (dueInstant s.time.time target)).serveCycle e
    s1.setEvio p (e.fireHead s1.time.raw)

/-- EVIO_PERIODIC_EDGE (R308). -/
def State.evioEdge (s : State) (p : Nat) : State :=
  let e := s.evio p
  if decide (64 ≤ p) || e.mode != 2 || !s.time.counting then s
  else (s.toStamp e.nextEdge).setEvio p e.periodicEdge

/-- The 2.5 ns sample on RAW at a stamp in quarters of ns of TIME (R310, R332). -/
def State.tickAt (s : State) (quarters : Nat) : Nat :=
  ((s.fastTicks : Int) - divRound ((s.time.time * 4 - BitVec.ofNat 64 quarters).toInt) 10).toNat

/-- A capture entry (R311): its CAP_WR value is the count with the entry itself (log 45). -/
def captureEntry (quarters pin : Nat) (level : Bool) (wr : Word) : List Byte :=
  bytesLE 8 quarters ++ [BitVec.ofNat 8 pin, BitVec.ofNat 8 (bitNat level), 0, 0] ++ bytesLE 4 wr.toNat

/-- Where the entry with a count lies in the capture queue (R311). -/
def captureAddr (c : Word) : Nat := 0x03600000 + 16 * (c.toNat % 1024)

/-- The entries held that come after an edge in the order of R311: a later stamp, or the same one on a higher pin. -/
def State.laterCaptures (s : State) (p quarters : Nat) : Nat :=
  ((List.range (s.time.capWr - s.time.capRd).toNat).filter (fun j =>
    let a := captureAddr (s.time.capRd + BitVec.ofNat 32 j)
    let q := fieldLE (s.mem.bytes a 8) 0 8
    decide (quarters < q) || (q == quarters && decide (p < (s.mem.byte (a + 8)).toNat)))).length

/-- An edge entered in the capture queue, or dropped when it is full (R311); with TOKEN it posts its token. The queue stays in the
order of stamps and pins: entries that a shorter filter has let in before an earlier edge move up by one (log 124). -/
def State.enterCapture (s : State) (p : Nat) (level : Bool) (quarters : Nat) : State :=
  let t := s.time
  if 1024 ≤ (t.capWr - t.capRd).toNat then { s with time := { t with capLost := t.capLost + 1 } }
  else
    let k := s.laterCaptures p quarters
    let at' (j : Nat) : Word := t.capWr - BitVec.ofNat 32 k + BitVec.ofNat 32 j
    let moved (j : Nat) : List Byte := s.mem.bytes (captureAddr (at' j)) 12 ++ bytesLE 4 (at' j + 2).toNat
    let s1 := s.store' (captureAddr (at' 0)) (captureEntry quarters p level (at' 0 + 1))
    let s2 := (List.range k).foldl (fun u j => u.store' (captureAddr (at' (j + 1))) (moved j)) s1
    let s3 := { s2 with time := { s2.time with capWr := t.capWr + 1 } }
    if (s.evio p).token then s3.offer (32 + p) else s3

/-- An EVIO trigger unit sees the level of its pin change (R329, R331, R334). -/
def State.unitLevel (s : State) (u : Nat) (level : Bool) (quarters : Nat) : State :=
  let c := s.trgCfg u
  let r := (s.trg u).levelChange c (level ^^ c.inv) (s.tickAt quarters) quarters
  let s1 := s.setTrg u r.1
  if r.2 then s1.fireNow u (BitVec.ofNat 64 quarters) else s1

/-- EVIO_CAPTURE (R310-R312, R328): a level that a pin shows in `run` samples, the first one stamped `quarters`; it is accepted after
FILT + 1 of them. -/
def State.evioCapture (s : State) (p : Nat) (rising : Bool) (run quarters : Nat) : State :=
  let e := s.evio p
  if decide (64 ≤ p) || filtered e.filt e.level rising run == e.level || !s.time.counting then s
  else
    let s1 := (s.toStamp (BitVec.ofNat 64 ((quarters + 10 * e.filt + 3) / 4))).fillAll
    let s2 := s1.setEvio p { s1.evio p with level := rising }
    let s3 := if e.edge.testBit (if rising then 0 else 1) then s2.enterCapture p rising quarters else s2
    (s3.unitsOn 1 p).foldl (fun s u => s.unitLevel u rising quarters) s3

/-- What happens with no command waiting: one cycle of the time island once it counts (R293, R294; log 57). -/
def State.idle (s : State) : State := if s.time.counting then { s with time := s.time.cycles 1 } else s

def execCmpFire (k : Nat) (s : State) : Host.Outcome State Fault Refusal := .next (s.cmpFire k)
def execEvioEntryFire (p : Nat) (s : State) : Host.Outcome State Fault Refusal := .next (s.evioFire p)
def execEvioPeriodicEdge (p : Nat) (s : State) : Host.Outcome State Fault Refusal := .next (s.evioEdge p)
def execEvioCapture (p : Nat) (line : LevelRun) (quarters : Nat) (s : State) : Host.Outcome State Fault Refusal :=
  .next (s.evioCapture p line.level line.run quarters)

end Sys2Proof.Machine
end

