-- ==== Sys2Proof/Machine/IntakeOps.lean ====
section
/-! DEFINITION. The intake of commands and their passages (R16, R132, R501, R516, R517, R551, R552, R555): a command accepted in
passage N has its intent entry in N+1 and takes effect in N+2. -/

namespace Sys2Proof.Machine

/-- The context of a taken command. -/
def Taken.ctx (t : Taken) : Ctx :=
  { seq := t.seq, tag := fieldLE t.entry 2 2, origin := t.origin, forwarded := t.forwarded, logFull := t.logFull
    accepted := t.accepted }

/-- The LOG_FULL decision of R552 on an entry's command: fewer than 1026 entries are free. -/
def State.logShort (s : State) (e : List Byte) : Bool :=
  (entryInfo e).logged && !logExempt (nthD 0 e 0).toNat (argValues (nthD 0 e 0).toNat e) && decide (s.store.freeEntries < 1026)

/-- A command accepted in the passage in progress (R516, R552): log entries are set aside for it. -/
def State.accept (s : State) (seq : Word) (origin : Nat) (forwarded logFull own : Bool) (entry : List Byte) : State :=
  let t : Taken := { seq := seq, origin := origin, forwarded := forwarded, logFull := logFull, accepted := s.tt.passage,
                     reserved := 0, own := own, entry := entry }
  let a := s.setAside t.ctx (entryInfo entry)
  { a.2 with host := { a.2.host with taken := a.2.host.taken ++ [{ t with reserved := a.1 }] } }

/-- A LEAD's accepted command joins its batch (R445). -/
def State.forwardCommand (s : State) (seq : Word) (origin : Nat) (logFull : Bool) (entry : List Byte) : State :=
  if s.rope.role = 2 then
    { s with rope := { s.rope with forward := s.rope.forward ++ [.cmd seq (fieldLE entry 2 2) origin logFull entry] } }
  else s

/-- A command taken from the queue or the stop table (R516): counted, accepted, and forwarded by a LEAD. -/
def State.takePush (s : State) (p : Push) : State :=
  let full := s.logShort p.entry
  let s1 := { s with host := { s.host with takenCount := s.host.takenCount + 1 } }
  (s1.accept p.seq p.origin false full false p.entry).forwardCommand p.seq p.origin full p.entry

/-- Every set flag of the stop table taken, in its order (R517). -/
def State.takeStops (s : State) : State :=
  let flags := s.host.stops.filterMap (·.2)
  flags.foldl (fun s p => s.takePush p) { s with host := { s.host with stops := [] } }

/-- Up to 32 commands taken from the queue, the oldest first (R516). -/
def State.takeQueue (s : State) : State :=
  (s.host.queue.take 32).foldl (fun s p => s.takePush p) { s with host := { s.host with queue := s.host.queue.drop 32 } }

/-- The intent entry of a command accepted in the passage before (R551). -/
def State.intentOf (s : State) (t : Taken) : State := s.intent t.ctx (entryInfo t.entry) (t.accepted + 2) t.reserved

/-- What follows a step that the part's own servo asked for (R315): refused, it is slewed. -/
def State.stepAnswer (s : State) (code : Nat) : State :=
  match s.plant.stepFor with
  | none => s
  | some (o, tau) =>
    let s1 := { s with plant := { s.plant with stepFor := none } }
    if code = codeOk then { s1 with time := { s1.time with stepWait := false } }
    else
      let cfg := s.cfgW 0xD0104
      let r := servoRates s.plant.rateI o tau (cfg.bits 0 4) (cfg.bits 8 4)
      { s1 with time := { s1.time with stepWait := true, rate := if tau = 0 then s1.time.rate else r.2.1
                                       slew := if tau = 0 then s1.time.slew else r.2.2 }
                plant := { s1.plant with rateI := if tau = 0 then s1.plant.rateI else r.1 } }

/-- A command takes effect in the passage in which it is due (R16, R516): with its result record, but for the part's own and the
debug port's request, which have none. -/
def State.effectOf (s : State) (t : Taken) : State :=
  if t.own then
    let opc := (nthD 0 t.entry 0).toNat
    let v := argValues opc t.entry
    let r := s.settle t.ctx (infoOf opc v) (coreOf t.ctx opc v) t.reserved
    if t.origin = originPlant then r.2.2.stepAnswer r.1 else r.2.2
  else s.finishEntry t.ctx t.entry t.reserved

/-- The commands due in the passage that begins, in the order in which they were accepted (R132). -/
def State.effectsDue (s : State) : State :=
  let due := s.host.taken.filter (fun t => t.accepted + 2 == s.tt.passage)
  due.foldl (fun s t => s.effectOf t)
    { s with host := { s.host with taken := s.host.taken.filter (fun t => t.accepted + 2 != s.tt.passage) } }

/-- The intent entries of the commands accepted in the passage before (R551). -/
def State.intentsDue (s : State) : State :=
  (s.host.taken.filter (fun t => t.accepted + 1 == s.tt.passage)).foldl (fun s t => s.intentOf t) s

/-- A queued command discarded by PERSTn (R501). -/
def State.discardPush (s : State) (p : Push) : State :=
  ({ s with host := { s.host with takenCount := s.host.takenCount + 1 } }).result p.seq (fieldLE p.entry 2 2)
    (nthD 0 p.entry 0).toNat codeDiscarded 0 0

end Sys2Proof.Machine
end

