-- ==== Sys2Proof/Machine/PtpRows.lean ====
section
/-! DEFINITION. The plant port as an IEEE 1588 clock (R313-R317): its servo, the delay measurement, the messages that it answers and
sends, the port states (log 39). -/

namespace Sys2Proof.Machine

/-! ### Settings -/

/-- ROLE, DELAY, DOMAIN, EGRESS_LAT and INGRESS_LAT in use (R324). -/
def State.ptpRole (s : State) : Nat := (s.cfgW 0xD0100).bits 30 2
def State.ptpPeer (s : State) : Bool := (s.cfgW 0xD0100).bit 29
def State.ptpDomain (s : State) : Nat := (s.cfgW 0xD0100).bits 16 8
def State.egressLat (s : State) : Nat := (s.cfgW 0xD0108).bits 16 16
def State.ingressLat (s : State) : Nat := (s.cfgW 0xD0108).bits 0 16

/-- Whether the port is active (R316): of a team's parts only the LEAD's; not DISABLED. Until RUN and in HALT its transmitter is in
electrical idle (R36, R567). -/
def State.ptpActive (s : State) : Bool :=
  s.plant.portState != 3 && s.time.counting && s.host.phase == .run &&
    (s.rope.role == 1 || s.rope.role == 2 || (s.rope.role == 0 && s.rope.strap == 0))

/-- Whether a message concerns the port: active, and of its domain (R313). -/
def State.ptpTakes (s : State) (m : PtpMsg) : Bool := s.ptpActive && m.domain == s.ptpDomain

/-- The stamps of R314 at the medium. -/
def State.ingressStamp (s : State) (m : PtpMsg) : U64 := m.ingress - BitVec.ofNat 64 s.ingressLat
def State.egressStamp (s : State) : U64 := s.time.time + BitVec.ofNat 64 s.egressLat

/-- A correctionField in ns (R9). -/
def corrNs (c : Int) : Int := divRound c 65536

/-- The MAC address in use (R316, R323): the team's in a team. -/
def State.plantMac (s : State) : BitVec 48 :=
  if s.rope.strap = 0 then (s.cfgW 0xD0000).extractLsb' 0 16 ++ s.cfgW 0xD0004 else s.store.ident.mac

/-- clockIdentity of a MAC address (R316): its EUI-64 (log 39). -/
def clockIdentity (mac : BitVec 48) : U64 := mac.extractLsb' 24 24 ++ 0xFFFE#16 ++ mac.extractLsb' 0 24

/-- The Announce data in use (R313, R323, R324). -/
def State.announceData (s : State) : PtpAnnounce :=
  { priority1 := (s.cfgW 0xD0100).bits 8 8, quality := s.cfgW 0xD000C, priority2 := (s.cfgW 0xD0100).bits 0 8,
    utcOffset := (s.cfgW 0xD0010).extractLsb' 16 16, utcValid := (s.cfgW 0xD0010).bit 0, timeSource := (s.cfgW 0xD0010).bits 8 8 }

/-- The way of a message (R313, R314): the peer delay messages, types 2 and 3, have groups of their own; types 0-3 are event messages,
on port 319 with checksum 0 over UDP. -/
def State.ptpPath (s : State) (kind : Nat) : PtpPath :=
  let peer := kind == 2 || kind == 3
  if (s.cfgW 0xD0100).bit 28 then
    .udp (if peer then 0xE000006B else 0xE0000181) (s.cfgW 0xD0008) (if kind < 8 then 319 else 320) (decide (kind < 8))
  else .layer2 (if peer then 0x0180C200000E else 0x011B19000000)

/-- A message of the port (R313, R314, R316): a timestamp on TIME as seconds and nanoseconds. -/
def State.ptpMessage (s : State) (kind seq : Nat) (stamp : U64) (correction : Int) (requester : U64) : PtpSent :=
  { kind := kind, seq := seq, seconds := stamp.toNat / 10 ^ 9, nanos := stamp.toNat % 10 ^ 9, correction := correction,
    domain := s.ptpDomain, version := (2, 1), identity := clockIdentity s.plantMac, mac := s.plantMac, requester := requester,
    path := s.ptpPath kind, announce := if kind = 11 then some s.announceData else none }

/-- A message sent (R313, R314); the latest 16 are kept. -/
def State.sendPtp (s : State) (m : PtpSent) : State :=
  { s with plant := { s.plant with sent := (m :: s.plant.sent).take 16 } }

/-! ### The servo (R315) -/

/-- The entry of a TIME_STEP (R518). -/
def stepEntry (delta : Int) : List Byte := entryOf 0x80 0 [(BitVec.ofInt 64 delta).toNat]

/-- An update of the servo with offset `o` at instant `at'` (R315). The first one after the port begins to follow has no interval
before it, and changes no rate (log 39). -/
def State.servoUpdate (s : State) (o : Int) (at' : U64) : State :=
  let cfg := s.cfgW 0xD0104
  let tau := match s.plant.lastUpdate with
    | some t => (at' - t).toNat
    | none => 0
  let s1 := { s with plant := { s.plant with offset := satWord o, lastUpdate := some at', syncs := (s.plant.syncs + 1) % 65536 } }
  if cfg.bits 16 16 * 1000 < o.natAbs ∧ s.plant.stepFor = none ∧ s.tt.clockOn = true then
    let e := stepEntry (-o)
    let full := s1.logShort e
    ({ (s1.accept 0 originPlant false full true e) with plant := { s1.plant with stepFor := some (o, tau) } }).forwardCommand 0
      originPlant full e
  else if tau = 0 then s1
  else
    let r := servoRates s.plant.rateI o tau (cfg.bits 0 4) (cfg.bits 8 4)
    let near := decide (o.natAbs ≤ cfg.bits 16 16 * 1000)
    { s1 with time := { s1.time with rate := r.2.1, slew := r.2.2, stepWait := s1.time.stepWait && !near }
              plant := { s1.plant with rateI := r.1 } }

/-- A Sync, or the Follow_Up of a two-step leader, used (R315). -/
def State.useSync (s : State) (t2 : U64) (t1 : U64) (correction : Int) : State :=
  let d := (t2 - t1).toInt - corrNs correction
  ({ s with plant := { s.plant with t21 := d } }).servoUpdate (d - s.plant.delay) t2

/-- Whether a message comes from the leader that the port follows; a follower that has heard none yet follows the first. -/
def State.fromLeader (s : State) (m : PtpMsg) : Bool :=
  match s.plant.foreign with
  | some f => f.2.2.2 == m.identity
  | none => s.ptpRole == 2

/-- SYNC (R315). -/
def State.ptpSync (s : State) (m : PtpMsg) : State :=
  let s := s.toStamp m.ingress
  let follows := s.plant.portState == 9 || (s.plant.portState == 4 && s.ptpRole == 2)
  if !s.ptpTakes m || !follows || !s.fromLeader m then s
  else
    let s1 := { s with plant := { s.plant with portState := 9 } }
    let t2 := s.ingressStamp m
    if m.twoStep then
      { s1 with plant := { s1.plant with twoStep := some (m.seq, t2 - BitVec.ofInt 64 (corrNs m.correction)) } }
    else ({ s1 with plant := { s1.plant with twoStep := none } }).useSync t2 m.stamp m.correction

/-- FOLLOW_UP (R315). -/
def State.ptpFollowUp (s : State) (m : PtpMsg) : State :=
  let s := s.toStamp m.ingress
  match (if s.ptpTakes m && s.plant.portState == 9 && s.fromLeader m then s.plant.twoStep else none) with
  | none => s
  | some (seq, t2) =>
    if seq ≠ m.seq then s
    else ({ s with plant := { s.plant with twoStep := none } }).useSync t2 m.stamp m.correction

/-! ### Path delay (R313, R314) -/

/-- DELAY_REQ (R314): a leader answers with the ingress stamp. -/
def State.ptpDelayReq (s : State) (m : PtpMsg) : State :=
  let s := s.toStamp m.ingress
  if !s.ptpTakes m || s.plant.portState != 6 || s.ptpPeer then s
  else s.sendPtp (s.ptpMessage 9 m.seq (s.ingressStamp m) m.correction m.identity)

/-- DELAY_RESP (R315): the mean path delay from the latest Sync and this exchange. -/
def State.ptpDelayResp (s : State) (m : PtpMsg) : State :=
  let s := s.toStamp m.ingress
  match (if s.ptpTakes m && s.plant.portState == 9 && !s.ptpPeer then s.plant.delayReq else none) with
  | none => s
  | some (seq, t3) =>
    if seq ≠ m.seq then s
    else
      let d43 := (m.stamp - t3).toInt - corrNs m.correction
      { s with plant := { s.plant with delayReq := none, delay := divRound (s.plant.t21 + d43) 2 } }

/-- PDELAY_REQ (R314): answered in one step, the residence time added to the correction. -/
def State.ptpPdelayReq (s : State) (m : PtpMsg) : State :=
  let s := s.toStamp m.ingress
  if !s.ptpTakes m || !s.ptpPeer then s
  else s.sendPtp (s.ptpMessage 3 m.seq 0 (m.correction + (s.egressStamp - s.ingressStamp m).toInt * 65536) m.identity)

/-- PDELAY_RESP (R313). -/
def State.ptpPdelayResp (s : State) (m : PtpMsg) : State :=
  let s := s.toStamp m.ingress
  match (if s.ptpTakes m && s.ptpPeer then s.plant.pdelayReq else none) with
  | none => s
  | some (seq, t1) =>
    if seq ≠ m.seq then s
    else
      let t4 := s.ingressStamp m
      if m.twoStep then
        { s with plant := { s.plant with pdelayResp := some (seq, m.stamp - BitVec.ofInt 64 (corrNs m.correction), t4) } }
      else { s with plant := { s.plant with pdelayReq := none, delay := divRound ((t4 - t1).toInt - corrNs m.correction) 2 } }

/-- PDELAY_RESP_FOLLOW_UP (R313). -/
def State.ptpPdelayFollow (s : State) (m : PtpMsg) : State :=
  let s := s.toStamp m.ingress
  match (if s.ptpTakes m && s.ptpPeer then s.plant.pdelayReq else none), s.plant.pdelayResp with
  | some (seq, t1), some (seq2, t2, t4) =>
    if seq ≠ m.seq ∨ seq2 ≠ m.seq then s
    else
      { s with plant := { s.plant with pdelayReq := none, pdelayResp := none
                                       delay := divRound ((t4 - t1).toInt - (m.stamp - t2).toInt - corrNs m.correction) 2 } }
  | _, _ => s

/-- DELAY_REQ_INTERVAL (R313, R314): a follower sends its Delay_Req, and with peer delay any active port its Pdelay_Req. -/
def State.ptpRequest (s : State) : State :=
  let q := s.plant.seq
  let t := s.egressStamp
  let f : Int := s.time.frac.toNat / 65536
  let next := (q + 1) % 65536
  if !s.ptpActive then s
  else if s.ptpPeer then
    ({ s with plant := { s.plant with seq := next, pdelayReq := some (q, t), pdelayResp := none } }).sendPtp
      (s.ptpMessage 2 q 0 0 0)
  else if s.plant.portState = 9 then ({ s with plant := { s.plant with seq := next, delayReq := some (q, t) } }).sendPtp
    (s.ptpMessage 1 q t f 0)
  else s

/-! ### Leader and best-master clock (R313, R316) -/

/-- The comparison of two clocks of the best-master algorithm (R313): priority1, quality, priority2, identity. -/
def betterClock (a b : Nat × Word × Nat × U64) : Bool :=
  if a.1 ≠ b.1 then decide (a.1 < b.1)
  else if a.2.1 ≠ b.2.1 then decide (a.2.1 < b.2.1)
  else if a.2.2.1 ≠ b.2.2.1 then decide (a.2.2.1 < b.2.2.1)
  else decide (a.2.2.2 < b.2.2.2)

/-- The part's own clock as it announces it (R313, R323, R324). -/
def State.ownClock (s : State) : Nat × Word × Nat × U64 :=
  ((s.cfgW 0xD0100).bits 8 8, s.cfgW 0xD000C, (s.cfgW 0xD0100).bits 0 8, clockIdentity s.plantMac)

/-- Whether the part's own clockClass is one of 1-127: such a clock follows no other under the best-master algorithm and is PASSIVE
beside a better one (log 39). -/
def State.ownFirst (s : State) : Bool := decide (1 ≤ (s.cfgW 0xD000C).bits 24 8 ∧ (s.cfgW 0xD000C).bits 24 8 ≤ 127)

/-- ANNOUNCE (R313). -/
def State.ptpAnnounce (s : State) (m : PtpMsg) : State :=
  let s := s.toStamp m.ingress
  if !s.ptpTakes m || s.ptpRole < 2 then s
  else
    let x := (m.priority1, m.quality, m.priority2, m.identity)
    let best := match s.plant.foreign with
      | some f => if f.2.2.2 = m.identity ∨ betterClock x f then x else f
      | none => x
    let better := betterClock best s.ownClock
    let passive := s.ptpRole == 3 && better && s.ownFirst
    let follow := s.ptpRole == 2 || (better && !passive)
    { s with plant := { s.plant with foreign := some best, portState := if follow then 9 else if passive then 7 else 6
                                     lastUpdate := if follow && s.plant.portState == 9 then s.plant.lastUpdate else none } }

/-- ANNOUNCE_RECEIPT_TIMEOUT (R313): under the best-master algorithm the port becomes leader; a follower listens again. -/
def State.ptpSilent (s : State) : State :=
  if !s.ptpActive || s.ptpRole < 2 then s
  else
    { s with plant := { s.plant with foreign := none, twoStep := none, lastUpdate := none
                                     portState := if s.ptpRole = 3 then 6 else 4 } }

/-- PTP_SYNC_INTERVAL (R314, R316): a leader sends Sync and Announce. -/
def State.ptpInterval (s : State) : State :=
  if !s.ptpActive || s.plant.portState != 6 then s
  else
    let q := s.plant.seq
    let s1 := (s.sendPtp (s.ptpMessage 0 q s.egressStamp (s.time.frac.toNat / 65536 : Nat) 0)).sendPtp (s.ptpMessage 11 q 0 0 0)
    { s1 with plant := { s1.plant with seq := (q + 1) % 65536, syncs := (s.plant.syncs + 1) % 65536 } }

/-- PTP_DISCARDED_MESSAGE (R313). -/
def State.ptpDiscard (s : State) : State :=
  if s.ptpActive then { s with plant := { s.plant with discards := s.plant.discards + 1 } } else s

def execSync (m : PtpMsg) (s : State) : Host.Outcome State Fault Refusal := .next (s.ptpSync m)
def execFollowUp (m : PtpMsg) (s : State) : Host.Outcome State Fault Refusal := .next (s.ptpFollowUp m)
def execDelayReq (m : PtpMsg) (s : State) : Host.Outcome State Fault Refusal := .next (s.ptpDelayReq m)
def execDelayResp (m : PtpMsg) (s : State) : Host.Outcome State Fault Refusal := .next (s.ptpDelayResp m)
def execPdelayReq (m : PtpMsg) (s : State) : Host.Outcome State Fault Refusal := .next (s.ptpPdelayReq m)
def execPdelayResp (m : PtpMsg) (s : State) : Host.Outcome State Fault Refusal := .next (s.ptpPdelayResp m)
def execPdelayRespFollowUp (m : PtpMsg) (s : State) : Host.Outcome State Fault Refusal := .next (s.ptpPdelayFollow m)
def execAnnounce (m : PtpMsg) (s : State) : Host.Outcome State Fault Refusal := .next (s.ptpAnnounce m)
def execPtpDiscardedMessage (s : State) : Host.Outcome State Fault Refusal := .next s.ptpDiscard
def execPtpSyncInterval (s : State) : Host.Outcome State Fault Refusal := .next s.ptpInterval
def execDelayReqInterval (s : State) : Host.Outcome State Fault Refusal := .next s.ptpRequest
def execAnnounceReceiptTimeout (s : State) : Host.Outcome State Fault Refusal := .next s.ptpSilent

end Sys2Proof.Machine
end

