-- ==== Sys2Proof/Machine/AcqRows.lean ====
section
/-! DEFINITION. The acquisition block at a passage start (R326-R339, R349, R350) and its events (R331, R341, R342, R351). -/

namespace Sys2Proof.Machine

/-! ### Records (R326, R347) -/

/-- The address of an instance's acquisition record (R326). -/
def acqRecord (i : Nat) : Nat := 0x03620000 + 192 * i

/-- Whether a record's words decode. -/
def State.recordDecodes (s : State) (i : Nat) : Bool := s.bad.isEmpty || !(wordsOf (acqRecord i) 192).any (fun w => s.bad.contains w)

/-- Whether the record of an instance is that of passage `n` (R326, R347). -/
def State.recordFresh (s : State) (i : Nat) (n : Word) : Bool := s.recordDecodes i && s.mem.word (acqRecord i) == n

/-- The variables that channels and units take, as instance and variable (R327). -/
def State.usedVars (s : State) : List (Nat × Nat) :=
  let stream := ((List.range 64).map (fun c => s.cfgW (0x80100 + 4 * c))).filter (fun w => w.bit 31)
  let units := ((List.range 16).map s.trgCfg).filter (fun c => c.srcKind == 0)
  let privs := ((List.range 4).map s.privCfg).filter (fun c => c.mode == 0)
  (stream.map (fun w => (w.bits 16 9, w.bits 0 6)) ++ units.map (fun c => (c.inst, c.sel)) ++ privs.map (fun c => (c.inst, c.sel))).filter
    (fun p => s.mapped p.1)

/-- A variable's value in a record, and whether it is stale: then it is the last fresh value (R326; log 46). -/
def State.varNow (s : State) (i v : Nat) (n : Word) : Word × Bool :=
  let w := s.mem.word (acqRecord i + 32 + 4 * v)
  if s.recordFresh i n then (w, false) else (Tab.get w s.acq.fresh (64 * i + v), true)

/-- The records of passage `n` read (R326, R347): fresh values kept, an undecodable record a fault of the acquisition port. -/
def State.readRecords (s : State) (n : Word) : State :=
  let vs := s.usedVars
  let f := vs.foldl (fun t p => if s.recordFresh p.1 n then Tab.put 0 t (64 * p.1 + p.2) (s.varNow p.1 p.2 n).1 else t) s.acq.fresh
  let s1 := { s with acq := { s.acq with fresh := f } }
  let s2 := (vs.map (·.1)).eraseDups.foldl (fun s i => s.correct none (wordsOf (acqRecord i) 192)) s1
  if vs.any (fun p => !s.recordDecodes p.1) then s2.unitFault 1 0x6000 else s2

/-! ### The stream (R335-R339) -/

/-- The sample slots of passage `n` (R335, R336). -/
def State.sampleSlots (s : State) (n : Word) : List (List Byte) :=
  (List.range 64).filterMap (fun c =>
    let w := s.cfgW (0x80100 + 4 * c)
    if w.bit 31 && s.mapped (w.bits 16 9) && n.toNat % 2 ^ w.bits 27 4 == 0 then
      let v := s.varNow (w.bits 16 9) (w.bits 0 6) n
      some (sampleSlot c v.2 n v.1)
    else none)

/-- The mark slots decided in passage `n` (R334, R336). -/
def State.markSlots (s : State) (n : Word) : List (List Byte) :=
  (List.range 16).filterMap (fun u =>
    let t := s.trg u
    if t.marks = 0 then none else some (markSlot u t.marks n t.markTime))

/-- The marks of a passage taken away (R334). -/
def State.clearMarks (s : State) : State :=
  { s with acq := { s.acq with trgs := Tab.onAll {} (fun t => { t with marks := 0, markTime := 0 }) s.acq.trgs } }

/-- Slots written into the host ring (R337): slot `j` of the group at (WRITTEN - DROPPED + j) modulo the capacity. -/
def State.ringSlots (s : State) (cap at' : Nat) : List (List Byte) → State
  | [] => s
  | b :: r =>
    let base := (join64 (s.cfgW 0x80014) (s.cfgW 0x80018)).toNat
    State.ringSlots (s.dma (base + 16 * (at' % cap)) b) cap (at' + 1) r

/-- A group placed whole, or dropped whole (R338, R339). -/
def State.placeGroup (s : State) (n : Word) (slots : List (List Byte)) : State :=
  let a := s.acq
  let gap := decide (0 < a.gapPassages) || decide (0 < a.gapSlots)
  let group := if gap then gapSlot n a.gapPassages a.gapSlots :: slots else slots
  let k := group.length
  let path := (s.cfgW 0x80010).bits 30 2
  let cap := s.streamCap
  let written := a.strWr + BitVec.ofNat 32 k
  if cap < a.fill + k ∨ (path = 1 ∧ s.dmaUp = false) then
    { s with acq := { a with strWr := written, strDrop := a.strDrop + BitVec.ofNat 32 k, gapSlots := a.gapSlots + k } }
  else if path = 1 then
    (s.ringSlots cap (a.strWr - a.strDrop).toNat group) |> fun t => { t with acq := { a with strWr := written, gapPassages := 0, gapSlots := 0 } }
  else { s with acq := { a with strWr := written, gapPassages := 0, gapSlots := 0, queue := a.queue ++ group } }

/-- The group of passage `n`, which ran in a tier (R335, R338): none with PATH 0, none in a tier that sheds STREAM, and none
where no slot is due (log 47); the plant path forms groups in a SINGLE or LEAD part (R337). -/
def State.streamGroup (s : State) (n : Word) (tier : Nat) : State :=
  let path := (s.cfgW 0x80010).bits 30 2
  let here := path == 1 || (path == 2 && (s.rope.role == 1 || s.rope.role == 2))
  let slots := s.sampleSlots n ++ s.markSlots n
  let s1 := s.clearMarks
  if !here then s1
  else if tier ≠ 0 then
    { s1 with acq := { s1.acq with gapPassages := s1.acq.gapPassages + 1, strGap := s1.acq.strGap + 1 } }
  else if slots.isEmpty then s1
  else s1.placeGroup n slots

/-- The datagram of a passage (R337): up to 88 slots of the queue, sent by the plant port. -/
def State.sendDatagram (s : State) : State :=
  if (s.cfgW 0x80010).bits 30 2 ≠ 2 ∨ s.drives = false then s
  else
    let a := s.acq
    let slots := a.queue.take 88
    let head := bytesLE 4 s.tt.passage.toNat ++ bytesLE 2 slots.length ++ bytesLE 2 a.dgram ++ bytesLE 8 0
    { s with plant := { s.plant with datagram := head ++ slots.flatten
                                     datagramPath := (s.cfgW 0xD0008, s.cfgW 0x8001C, (s.cfgW 0x80010).bits 0 16) }
             acq := { a with queue := a.queue.drop 88, strRd := a.strRd + BitVec.ofNat 32 slots.length, dgram := (a.dgram + 1) % 65536 } }

/-! ### Trigger units and numeric channels (R329-R334, R340-R342, R349, R350) -/

/-- A numeric unit takes the sample of passage `n`, which started at `start` with a period of `ns` (R329-R333). -/
def State.unitSample (s : State) (n : Word) (start : U64) (ns u : Nat) : State :=
  let c := s.trgCfg u
  if c.srcKind ≠ 0 ∨ s.mapped c.inst = false then s
  else
    let v := s.varNow c.inst c.sel n
    let r := (s.trg u).sample c v.1 v.2 start ns
    r.2.foldl (fun s t => let p := numericPlace n start t ns
      s.fireUnit u t p.1 p.2) (s.setTrg u r.1)

/-- One point of a mask pass at the sample just written (R349, R350). -/
def State.maskPoint (s : State) (b : Nat) (c : PrivCfg) (n : Word) (start : U64) (w : Word) (stale : Bool) : State :=
  let p := s.priv b
  match (if c.maskEn then p.maskAnchor else none) with
  | none => s
  | some a =>
    let idx := p.written - 1
    if idx < a then s
    else
      let j := idx - a
      let s0 := if c.maskN ≤ j + 1 then s.setPriv b { p with maskAnchor := none } else s
      let addr := maskActive b + 8 * j
      if c.maskN ≤ j ∨ stale then s0
      else if s.undecodable addr then s0.unitFault 1 0x6000
      else
        let x := sampleReal c.sel w
        if !(realLt x (sampleReal c.sel (s.mem.word addr)) || realLt (sampleReal c.sel (s.mem.word (addr + 4))) x) then s0
        else
          let q := s0.priv b
          let s1 := s0.setPriv b { q with mviol := satAdd 0xFFFF q.mviol 1, mfirst := if q.mviol = 0 then j else q.mfirst }
          if c.maskAct = 1 ∧ q.mviol = 0 then s1.triggerPriv b (start * 4) n 256
          else if c.maskAct = 2 then
            let z := s1.priv b
            let z := if z.st = .triggered then z else { z with trigW := z.written }
            s1.setPriv b (z.halt 2 c.pre c.len)
          else s1

/-- A NUMERIC channel takes the sample of passage `n` (R340-R343). -/
def State.numericSample (s : State) (n : Word) (start : U64) (b : Nat) : State :=
  let c := s.privCfg b
  let p := s.priv b
  if c.mode ≠ 0 ∨ s.mapped c.inst = false ∨ c.len = 0 ∨ later n p.lastPassage = false then s
  else if !p.writing c.post then s.setPriv b { p with lastPassage := n }
  else
    let v := s.varNow c.inst c.sel n
    let s1 := s.putSample b c p.written v.1.toNat
    (s1.setPriv b { (p.wrote c.len 1) with lastPassage := n, lastStale := v.2 }).maskPoint b c n start v.1 v.2

/-- The acquisition of passage `n` at the start of the passage after it (R326): records, group, units, channels. -/
def State.acquire (s : State) (n : Word) (start : U64) (ns tier : Nat) : State :=
  let s1 := (s.readRecords n).streamGroup n tier
  let s2 := (List.range 16).foldl (fun s u => s.unitSample n start ns u) s1
  (List.range 4).foldl (fun s b => s.numericSample n start b) s2

/-! ### Events -/

/-- The mask point of a sample that was written before its anchor was decided (R349): the latest one. -/
def State.lateMask (s : State) (u b : Nat) (n : Word) (start : U64) : State :=
  let c := s.privCfg b
  let p := s.priv b
  if c.maskTrg = u ∧ c.mode = 0 ∧ 0 < p.written ∧ p.maskAnchor = some (p.written - 1) then
    s.maskPoint b c n start (BitVec.ofNat 32 (s.getSample b c (p.written - 1))) p.lastStale
  else s

/-- TRIGGER_TIMEOUT (R331, R332): a TIMEOUT unit whose condition has held for W1 since its transition. -/
def State.triggerTimeout (s : State) (u : Nat) : State :=
  let c := s.trgCfg u
  let t := s.trg u
  let stays := c.dir == 2 || (c.dir == 0) == t.cond
  match (if 16 ≤ u ∨ c.kind ≠ 3 ∨ t.timedOut ∨ !stays then none else t.trans) with
  | none => s
  | some p =>
    if c.srcKind = 0 then
      match t.prev with
      | none => s
      | some (_, idx, start) =>
        if idx * 256 < p + c.w1 then s
        else
          let ns := s.periodNs
          let d : Int := divRound ((((p + c.w1 : Nat) : Int) - (idx * 256 : Nat)) * (4 * ns : Nat)) 256
          let at' := start * 4 + BitVec.ofInt 64 d
          let n := s.tt.passage - 1
          let q := numericPlace n start at' ns
          let s1 := (s.setTrg u { t with timedOut := true }).fireUnit u at' q.1 q.2
          (List.range 4).foldl (fun s b => s.lateMask u b n start) s1
    else
      let q := p + 10 * c.w1
      let s1 := (s.toStamp (BitVec.ofNat 64 ((q + 3) / 4))).fillAll
      if (s1.time.time * 4).toNat < q then s
      else (s1.setTrg u { t with timedOut := true }).fireNow u (BitVec.ofNat 64 q)

/-- POST_REACHED (R342). -/
def State.postReached (s : State) (b : Nat) : State :=
  if 4 ≤ b then s
  else
    let s1 := s.fillFast b
    let p := s1.priv b
    let c := s1.privCfg b
    if p.st = .triggered ∧ c.post ≤ p.postHeld then s1.setPriv b (p.halt 1 c.pre c.len) else s

/-- PRE_VALID (R341). -/
def State.preValid (s : State) (b : Nat) : State :=
  if 4 ≤ b then s
  else
    let s1 := s.fillFast b
    let p := s1.priv b
    if (p.st = .armed ∨ p.st = .triggered) ∧ (s1.privCfg b).pre ≤ p.held then s1.setPriv b { p with preValid := true } else s

/-- MASK_LOAD_COMPLETE (R351): a word that does not decode is a fault of the acquisition port (R347) and does not decode in the active
area either (log 125). -/
def State.maskLoaded (s : State) (b : Nat) : State :=
  let p := s.priv b
  if 4 ≤ b ∨ p.maskLoading = false then s
  else
    let n := 8 * (s.privCfg b).maskN
    let lost := (wordsOf (maskStage b) n).filter (fun w => s.bad.contains w)
    let s1 := (s.correct none (wordsOf (maskStage b) n)).store' (maskActive b) (s.mem.bytes (maskStage b) n)
    let s2 := lost.foldl (fun s w => { s with bad := addNew (w - maskStage b + maskActive b) s.bad }) s1
    let s3 := if lost.isEmpty then s2 else s2.unitFault 1 0x6000
    s3.setPriv b { p with maskLoading := false }

def execTriggerTimeout (u : Nat) (s : State) : Host.Outcome State Fault Refusal := .next (s.triggerTimeout u)
def execPostReached (b : Nat) (s : State) : Host.Outcome State Fault Refusal := .next (s.postReached b)
def execPreValid (b : Nat) (s : State) : Host.Outcome State Fault Refusal := .next (s.preValid b)
def execMaskLoadComplete (b : Nat) (s : State) : Host.Outcome State Fault Refusal := .next (s.maskLoaded b)

end Sys2Proof.Machine
end

