-- ==== Sys2Proof/Machine/Mirror.lean ====
section
/-! DEFINITION. The status mirror (R509-R514). -/

namespace Sys2Proof.Machine

/-- The time in ns that a mirror takes on a link (R510): by SPEED and WIDTH. -/
def mirrorNs (speed width : Nat) : Nat :=
  match speed, width with
  | 1, 1 => 19500
  | 1, 2 => 9800
  | 1, _ => 4900
  | 2, 1 => 9800
  | 2, 2 => 4900
  | 2, _ => 2500
  | _, 1 => 4900
  | _, 2 => 2500
  | _, _ => 1300

/-- The registers that the global words copy, in order from 0x040 (R513). -/
def mirrorRegs : List Nat :=
  [0x00004, 0x00060, 0x00068, 0x10004, 0x10014, 0x1001C, 0x10024, 0x90004, 0x9001C, 0x90010, 0x20004, 0x20018, 0x50004, 0x50020,
    0xD0110, 0x60004, 0x70000, 0x80020, 0x80028, 0x80814, 0x80854, 0x80894, 0x808D4, 0x30004, 0x3000C]

/-- The safety registers of the mirror, in order from 0x100 (R512). -/
def mirrorSafe : List Nat :=
  [0xA0004, 0xA0020, 0xA0024, 0xA0010, 0xA0014, 0xA0018, 0xA001C, 0xA0028, 0xA0080] ++ (List.range 8).map (fun k => 0xA0060 + 4 * k)

/-- The instance word (R514). -/
def State.instanceWord (s : State) (i : Nat) : Nat :=
  if !s.mapped i then 0xE000
  else
    let a := s.axis i
    a.st.code * 4096 + (a.latched.map (·.cause)).getD 0 % 8 * 512 + bitNat a.sat * 256 + bitNat a.warn * 128 +
      bitNat a.load.isSome * 64 + bitNat (decide (a.w ≠ 0) || a.sel != a.nxt) * 32 + bitNat a.dev * 16 + a.age % 16

/-- The generator word (R514). -/
def State.generatorWord (s : State) (g : Nat) : Nat :=
  if s.genAbsent g then 0xFFFF
  else
    let x := s.gen g
    x.nFree % 32 + x.nExec % 4 * 32 + x.gst.code % 8 * 128 + bitNat x.homed * 1024 + bitNat x.hstop * 2048 + bitNat x.stall * 4096 +
      bitNat x.clamped * 8192 + bitNat (x.limP.level || x.limN.level) * 16384 + bitNat x.inUse.isSome * 32768

/-- Commands waiting (R512): the queue's entries and the stop table's set flags. -/
def HostIf.waiting (h : HostIf) : Nat := h.queue.length + h.stops.length

/-- The 4096 bytes of a mirror (R512), as the `count`-th written. -/
def State.mirrorBytes (s : State) (count : Word) : List Byte :=
  let h := s.host
  let regs (l : List Nat) : List Byte := l.flatMap (fun o => bytesLE 4 (s.readReg o).toNat)
  let head := [0x48#8, 0x4D, 0x53, 0x4D] ++ bytesLE 2 1 ++ bytesLE 2 0x1000 ++ bytesLE 4 s.tt.passage.toNat ++ bytesLE 4 count.toNat ++
    bytesLE 8 s.tt.start.toNat ++ bytesLE 8 s.time.time.toNat ++ bytesLE 8 s.time.raw.toNat ++ bytesLE 4 h.takenCount.toNat ++
    bytesLE 4 h.seq.toNat ++ bytesLE 4 h.resCount.toNat ++ bytesLE 4 h.waiting ++
    bytesLE 4 (s.store.ident.serial.toNat % 2 ^ 32) ++ bytesLE 4 0
  let rings := (List.range 4).flatMap (fun r => regs ([0x04, 0x30, 0x34, 0x44].map (fun o => 0x40000 + 0x4000 * r + o)))
  let insts := (List.range 512).flatMap (fun i => bytesLE 2 (s.instanceWord i))
  let gens := (List.range 528).flatMap (fun g => bytesLE 2 (s.generatorWord g))
  head ++ regs mirrorRegs ++ bytesLE 28 0 ++ rings ++ regs mirrorSafe ++ bytesLE 188 0 ++ insts ++ gens ++ bytesLE 96 0 ++
    (List.range 1024).map (fun k => Tab.get 0 h.results k) ++ bytesLE 380 0 ++ bytesLE 4 s.tt.passage.toNat

/-- The release of target 0x0A (R509-R511): the mirror is written, or skipped and counted. -/
def State.releaseMirror (s : State) : State :=
  let h := s.host
  let busy := decide (0 < (h.mirrorBusy - s.time.raw).toInt)
  if !(s.cfgW 0x10).bit 31 || !s.dmaUp || busy then
    ({ s with host := { h with skipped := satAdd 0xFFFF h.skipped 1 } }).count 0x0803 0 1
  else
    let base := (join64 (s.cfgW 0x14) (s.cfgW 0x18)).toNat
    let n := h.mirrors + 1
    let t := s.dma base (s.mirrorBytes n)
    ({ t with host := { t.host with mirrors := n
                                    mirrorBusy := s.time.raw + BitVec.ofNat 64 (mirrorNs h.speed h.width) } }).count 0x0802 0 1

end Sys2Proof.Machine
end

