-- ==== Sys2Proof/Machine/RopeOps.lean ====
section
/-! DEFINITION. What the members of a rope team share (R437-R462): the digest and the heartbeat, the comparison of digests, the
change of LEAD, the frames that a part sends. -/

namespace Sys2Proof.Machine

/-! ### Links (R438, R439) -/

/-- Whether the rope links carry frames: from LISTEN on (R36), and not in CFG_FAULT (R437). -/
def State.ropeTakes (s : State) (link : Nat) : Bool :=
  decide (link < 2) && (s.host.phase == .listen || s.host.phase == .run) && s.rope.role != 15

/-- A frame received on a link, counted (R531). -/
def State.ropeFrame (s : State) (link : Nat) : State := s.count 0x0500 link 1

/-- A frame discarded and counted (R439, R466). -/
def State.ropeDiscard (s : State) (link : Nat) : State :=
  let r := s.rope
  { s with rope := if link = 0 then { r with errors := (satAdd 0xFFFF r.errors.1 1, r.errors.2), flag := (true, r.flag.2) }
                   else { r with errors := (r.errors.1, satAdd 0xFFFF r.errors.2 1), flag := (r.flag.1, true) } }.count 0x0502 link 1

/-- A frame whose bytes the row does not carry: taken and acted on by `f` where its CHECK is right and the part takes it;
discarded and counted where its CHECK is wrong (R439). -/
def State.ropeReceive (s : State) (link : Nat) (ok : Bool) (f : State → State) : State :=
  if !s.ropeTakes link then s
  else
    let s1 := s.ropeFrame link
    if ok then f s1 else s1.ropeDiscard link

/-- Whether a part follows a LEAD over RL0: a SECOND, and a joiner (R439, R460). -/
def State.follows (s : State) : Bool := s.rope.role == 3 || s.rope.role == 4

/-! ### The change of LEAD (R454, R455, R457, R463) -/

/-- The first passage whose BATCH did not arrive (R457): the tag after the latest in unbroken order, less 2. -/
def Rope.firstLost (r : Rope) (passage : Word) : Word := match r.lastBatch with
  | some t => t - 1
  | none => passage

/-- A SECOND becomes LEAD (R427, R454, R455, R457): its own arrangement, the tier it heard last held for 16 passages, the
widened barge windows for two, its books kept. -/
def State.becomeLead (s : State) : State :=
  let r := s.rope
  let s1 := { s with
    rope := { r with origin := bitNat (r.strap == 2), takeovers := satAdd 255 r.takeovers 1, take := false, handover := none
                     lostFrom := r.firstLost s.tt.passage, widened := 2, forward := [], secondRun := 0, resign := false }
    gov := { s.gov with hold := 16, chosen := r.leadTier, dwell := 0, peerDemand := 0 }
    tt := { s.tt with tierNext := r.leadTier, tierChoice := r.leadTier } }
  (s1.takeRole 2)

/-- A LEAD becomes SECOND without leaving step (R463). -/
def State.becomeSecond (s : State) : State :=
  let r := s.rope
  { s with rope := { r with takeovers := satAdd 255 r.takeovers 1, handover := none, origin := 1 - r.origin, lastBatch := none
                            batches := [], leadHeader := none, matchRun := 0, forward := [] } }.takeRole 3

/-- The exchange of an accepted handover (R463), in each part. -/
def State.exchange (s : State) : State :=
  if s.rope.role = 3 then s.becomeLead else if s.rope.role = 2 then s.becomeSecond
  else { s with rope := { s.rope with handover := none } }

/-- A SECOND or joiner falls back to STANDBY (R446, R451). -/
def State.becomeStandby (s : State) : State :=
  { s with rope := { s.rope with stage := 0, take := false, handover := none, batches := [], matchRun := 0 } }.takeRole 5

/-! ### The digest (R447) -/

/-- One step of the CRC-64, most significant bit first. -/
def crc64Steps : Nat → U64 → U64
  | 0, c => c
  | n + 1, c => crc64Steps n (if c.getLsbD 63 then (c <<< 1) ^^^ 0x42F0E1EBA9EA3693#64 else c <<< 1)

/-- The CRC-64 of the digest. -/
def crc64 : List Byte → U64 → U64
  | [], c => c
  | b :: r, c => crc64 r (crc64Steps 8 (c ^^^ (b.setWidth 64 <<< 56)))

/-- The bytes of a downstream record that the digest covers: 0, 1 and 4 to 43. -/
def digestPart (rec52 : List Byte) : List Byte := rec52.take 2 ++ (rec52.drop 4).take 40

/-- The digest of the outputs of the passage as released. -/
def State.digestNow (s : State) : U64 :=
  let rings := (List.range 4).flatMap (fun r => if s.ringInUse r then (s.ring r).records.flatMap digestPart else [])
  let rates := (List.range 16).flatMap (fun c =>
    let x := s.chan c
    bytesLE 8 (BitVec.ofInt 64 (x.rateNext.getD x.rate)).toNat)
  crc64 (rings ++ rates) 0

/-- The digests of one passage of the part and its peer compared (R461, R465). -/
def State.compareDigests (s : State) : State :=
  let r := s.rope
  let inStep (k : Nat) : Bool := k == 2 || k == 3 || k == 4
  if r.digestOf.isNone ∨ r.peer.passage ≠ r.digestOf ∨ inStep r.role = false ∨ inStep r.peer.role = false then s
  else
    let same := r.peer.digest == r.digest
    let checking := decide (r.role = 4) && decide (r.stage = 3)
    { s with rope := { r with
        matchRun := if same then satAdd 0xFFFF r.matchRun 1 else 0
        checkRun := if checking && same then r.checkRun + 1 else if same then r.checkRun else 0
        checkBad := r.checkBad || (checking && !same) } }

/-! ### The heartbeat and the sample (R447, R449) -/

/-- Whether a cluster or package fault is latched. -/
def State.anyFault (s : State) : Bool := s.faults.pkg || !s.faults.clusters.isEmpty

/-- The check value of the active parameter bank, 0 where there is none (R447). -/
def State.paramCheck (s : State) : Word := match s.store.paramBank with
  | some k => s.store.word (bankAddr false k + 0x1C)
  | none => 0

/-- The 52 bytes of a heartbeat (R447). -/
def State.heartbeatBytes (s : State) (digest : U64) : List Byte :=
  let r := s.rope
  let fault := s.anyFault
  withCheck ([0x50#8, BitVec.ofNat 8 r.role, BitVec.ofNat 8 (bitNat fault + 2 * bitNat r.resign + 4 * bitNat r.belaySeen),
    BitVec.ofNat 8 (s.gov.demand % 4)] ++ bytesLE 4 s.tt.passage.toNat ++ bytesLE 8 digest.toNat ++
    bytesLE 8 s.time.time.toNat ++ bytesLE 4 s.ownTag ++
    [BitVec.ofNat 8 r.diagUnit, BitVec.ofNat 8 r.diagWord, BitVec.ofNat 8 r.diagMiss, BitVec.ofNat 8 r.diagCorr] ++
    bytesLE 4 s.paramCheck.toNat ++ bytesLE 4 s.store.ident.team.toNat ++ bytesLE 8 s.image.id.toNat)

/-- The mapped servo instances of the sample of passage `n` (R449). -/
def State.sampleInstances (s : State) (n : Nat) : List Nat :=
  let m := s.instances.filter (fun i => s.kindOf i == 1)
  if m.isEmpty then [] else ((List.range 8).map (fun j => nthD 0 m ((8 * n + j) % m.length))).eraseDups

/-- The address of the state record of an instance for passage `n` (R280, R448). -/
def State.stateRecord (s : State) (i n : Nat) : Nat :=
  let r := s.ringOf i
  let node := s.nodeOf i
  let slot := ((s.onNode r node).idxOf? i).getD 0
  ringBase r + 0x40000 + 640 * (2 * ((node - 1) * perNode s.image.period + slot) + n % 2)

/-- The bytes of a SAMPLE (R449): its header of 16 bytes holds FTYPE first and the passage at bytes 4-7 (log 32). -/
def State.sampleBytes (s : State) : List Byte :=
  let n := s.tt.passage
  withCheck ([0x54#8, 0, 0, 0] ++ bytesLE 4 n.toNat ++ bytesLE 8 0 ++
    (s.sampleInstances n.toNat).flatMap (fun i => s.mem.bytes (s.stateRecord i n.toNat) 640))

/-- Release target 0x0B (R65, R447, R449): the digest, the heartbeats on both links, and the sample to the BELAY. A SECOND with a fault
sends no digest from the passage after the fault was flagged (R21), nor does a role that releases nothing; outside LISTEN and RUN
the rope transmitters are idle (R36, R567). -/
def State.releaseBeat (s : State) : State :=
  let role := s.rope.role
  let releases := decide (1 ≤ role ∧ role ≤ 4) && s.host.phase == .run
  let d := if releases then s.digestNow else 0
  let shown := if role = 3 ∧ s.anyFault = true ∧ s.faults.reactDue = false then 0 else d
  let s1 := { s with rope := { s.rope with digest := d, digestOf := some s.tt.passage } }
  let bs := s1.heartbeatBytes shown
  let s2 := ((s1.queueFrame 0 bs).queueFrame 1 bs)
  let s3 := if (role = 2 ∨ role = 3) ∧ s.image.team then s2.queueFrame 1 s2.sampleBytes else s2
  s3.compareDigests

end Sys2Proof.Machine
end

