-- ==== Sys2Proof/Machine/RopeRows.lean ====
section
/-! DEFINITION. The events of the rope team (R439-R462). -/

namespace Sys2Proof.Machine

/-! ### Heartbeats (R447, R450, R459, R462) -/

/-- What a heartbeat's bytes show. -/
def beatOf (bs : List Byte) : Beat :=
  let flags := nthD 0 bs 2
  { passage := some (BitVec.ofNat 32 (fieldLE bs 4 4)), role := (nthD 0 bs 1).toNat
    fault := flags.getLsbD 0, resign := flags.getLsbD 1, belaySeen := flags.getLsbD 2
    demand := (nthD 0 bs 3).toNat % 4, digest := BitVec.ofNat 64 (fieldLE bs 8 8), serial := BitVec.ofNat 32 (fieldLE bs 24 4)
    diag := BitVec.ofNat 32 (fieldLE bs 28 4), param := BitVec.ofNat 32 (fieldLE bs 32 4)
    team := BitVec.ofNat 32 (fieldLE bs 36 4), image := BitVec.ofNat 64 (fieldLE bs 40 8) }

/-- The LEAD's view of a rejoin, by its peer's role (R461, R467). -/
def Rope.rejoinSeen (r : Rope) (role : Nat) : Rope :=
  if r.role ≠ 2 ∨ r.stage = 0 ∨ r.stage = 4 ∨ r.stage = 15 then r
  else if role = 3 then { r with stage := 4, left := 0 }
  else if role = 5 then { r with stage := 15 }
  else r

/-- A heartbeat of the peer at a LEAD-preferred or SECOND-preferred part (R425, R462, R465). -/
def State.peerBeat (s : State) (bs : List Byte) : State :=
  let b := beatOf bs
  let r := s.rope
  let s1 := { s with
    rope := { r.rejoinSeen b.role with peer := b, peerAt := some s.tt.passage, peerSerial := b.serial }
    gov := { s.gov with peerDemand := if r.role = 2 then b.demand else 0 } }
  if Config.strapShown bs = r.strap then s1.cfgFault 2
  else if b.team ≠ s.store.ident.team then s1.cfgFault 3
  else s1.compareDigests

/-- A BELAY locks its TIME, by a step (R294; log 31), and its passage to a LEAD's heartbeat (R450): the frame's flight is free, at
most 641 ns (R438; log 50). -/
def State.lockToBeat (s : State) (dep : U64) (passage : Word) : State :=
  let t := s.tick
  let p := s.periodNs
  let off := (dep.toNat + p - (s.cfgW 0x50010).bits 0 20 % p) % p
  let now := dep + BitVec.ofNat 64 ((Config.free t.1).toNat % 642)
  let s1 := t.2.shiftTime (now - t.2.time.time).toInt
  { s1 with tt := { s1.tt with passage := passage, start := dep - BitVec.ofNat 64 off } }

/-- A peer's heartbeat at the BELAY: RL0 joins the LEAD-preferred part, RL1 the SECOND-preferred one (R438, R450). -/
def State.belayBeat (s : State) (link : Nat) (bs : List Byte) : State :=
  let b := beatOf bs
  let s1 := { s with rope := if link = 0 then { s.rope with beatA := b } else { s.rope with beatB := b } }
  let s2 := if link = 1 then { s1 with rope := { s1.rope with peerAt := some s1.tt.passage } } else s1
  if b.role = 2 then s2.lockToBeat (BitVec.ofNat 64 (fieldLE bs 16 8)) (BitVec.ofNat 32 (fieldLE bs 4 4)) else s2

/-- HEARTBEAT (R439, R447, R462). -/
def State.heartbeat (s : State) (link : Nat) (bs : List Byte) : State :=
  if !s.ropeTakes link then s
  else
    let s1 := s.ropeFrame link
    if bs.length != 52 || !frameOk bs || nthD 0 bs 0 != 0x50 then s1.ropeDiscard link
    else
      let belay := (nthD 0 bs 1).toNat == 7
      match s.rope.strap with
      | 3 => s1.belayBeat link bs
      | 0 => s1
      | _ =>
        if belay && link == 0 then s1.cfgFault 6
        else if !belay && link == 1 then s1.cfgFault 6
        else if belay then { s1 with rope := { s1.rope with belayAt := some s1.tt.passage, belayEver := true } }
        else s1.peerBeat bs

/-! ### Frames of the LEAD (R443-R445, R461) -/

/-- Whether a command changes coefficient sets or law settings: what a BELAY applies (R445). -/
def lawCommand (opc : Nat) : Bool := opc == 0x43 || opc == 0x44 || opc == 0x45

/-- A forwarded command taken for its tag (R445, R552): accepted two passages before it. -/
def State.takeForwarded (s : State) (tag : Word) : Forward → State
  | .cmd seq _ origin logFull entry =>
    let opc := (nthD 0 entry 0).toNat
    if (decide (s.rope.role = 7) && !lawCommand opc) || (decide (s.rope.role = 5) && opc != 0xC1) then s
    else
      let t := s.accept seq origin true logFull false entry
      { t with host := { t.host with taken := t.host.taken.map (fun x =>
        if x.seq = seq ∧ x.forwarded then { x with accepted := tag - 2 } else x) } }
  | _ => s

/-- A forwarded host write applied (R445): a BELAY applies those of axis pages and of the buffers. -/
def State.applyForward (s : State) : Forward → State
  | .reg off w =>
    if s.rope.role = 7 ∧ off < 0x100000 then s
    else match maskOf off with
      | some m => s.writeStaged 9 off m w (s.lockedAt off)
      | none => s
  | .mem a bs => s.store' a bs
  | .cmd .. => s

/-- The host writes due in the passage that begins (R445), before its commands. -/
def State.batchesDue (s : State) : State :=
  let due := s.rope.batches.filter (fun b => b.1 == s.tt.passage)
  let s1 := due.foldl (fun s b => b.2.foldl (fun s f => s.applyForward f) s) s
  { s1 with rope := { s1.rope with batches := s1.rope.batches.filter (fun b => later b.1 s1.tt.passage) } }

/-- BATCH (R445, R446, R457). A part in STANDBY takes nothing of it but the ROPE_REJOIN that makes it JOINING (R460; log 129). -/
def State.batch (s : State) (tag : Word) (items : List Forward) : State :=
  if s.rope.role = 5 then items.foldl (fun s f => s.takeForwarded tag f) s
  else if !(s.follows || s.rope.role == 7) then s
  else
    let r := s.rope
    let whole := match r.lastBatch with
      | some t => tag == t + 1
      | none => true
    let s1 := { s with rope := { r with batches := r.batches ++ [(tag, items)]
                                        lastBatch := if whole then some tag else r.lastBatch } }
    items.foldl (fun s f => s.takeForwarded tag f) s1

/-- A lock state by its code (R285). -/
def nlockOf (code : Nat) : NLock := match code with
  | 0 => .closed
  | 1 => .trial
  | 2 => .opened
  | _ => .absent

/-- The first `n` queued frames to a node taken away (R457). -/
def dropTo (node : Nat) : Nat → List AFrame → List AFrame
  | _, [] => []
  | 0, l => l
  | n + 1, f :: r => if f.node = node then dropTo node n r else f :: dropTo node (n + 1) r

/-- The books of one node as the LEDGER gives them (R439, R443); frames that the LEAD has sent leave the queue (R457). -/
def State.installBook (s : State) (b : LedgerNode) : State :=
  let x := s.ring b.ring
  let v := x.node b.node
  let x1 := x.setNode b.node { v with lock := nlockOf b.lock, edgeRun := b.edgeRun, granted := b.granted, used := b.used
                                      aslot := b.aslot, downSeq := b.seq }
  s.setRing b.ring { x1 with txq := dropTo b.node ((b.seq - v.downSeq).toNat % 64) x.txq }

/-- LEDGER (R443). -/
def State.ledger (s : State) (passage : Word) (books : List LedgerNode) : State :=
  if !s.follows then s
  else books.foldl (fun s b => s.installBook b) { s with rope := { s.rope with ledgerAt := some passage } }

/-- LOCAL and LOCAL_SER (R443, R444): kept for the ring-in horizon. -/
def State.localFrame (s : State) (passage : Word) (chans : List LocalChan) (evio : U64) : State :=
  if !s.follows then s else { s with rope := { s.rope with localAt := some passage, locals := chans, evio := evio } }
def State.localSerFrame (s : State) (passage : Word) (chans : List LocalChan) : State :=
  if !s.follows then s else { s with rope := { s.rope with localSerAt := some passage, serLocals := chans } }

/-- EVIO (R309, R439): a register write of a pin repeated, or a push that the LEAD accepted with its target. -/
def State.evioFrame (s : State) (p reg : Nat) (w target : Word) : State :=
  if !s.follows || decide (64 ≤ p) then s
  else if reg = 8 then
    let e := s.evio p
    if e.mode = 1 ∧ e.queue.length < 16 then s.setEvio p { e with queue := e.queue ++ [(target, w.bit 0)] } else s
  else s.writeEvio 0 p reg w

/-- Whether a COPY block belongs to the static set (R461). -/
def CopyBlock.isStatic : CopyBlock → Bool
  | .register .. => true
  | .memory .. => true
  | _ => false

/-- A block of state installed (R461). -/
def State.install (s : State) : CopyBlock → State
  | .register off w => s.setCfg off w
  | .memory a bs => s.store' a bs
  | .axis i a => s.setAxis i a
  | .gen g x => s.setGen g x
  | .encoder c x => s.setEnc c x
  | .serial c x => s.setSer c x
  | .remote i x => s.setRem i x
  | .evio p x => s.setEvio p { x with drive := (s.evio p).drive }

/-- COPY (R461, R467): after the last block the check of 64 digests begins. -/
def State.copy (s : State) (b : CopyBlock) (left : Nat) : State :=
  if s.rope.role ≠ 4 then s
  else
    let s1 := s.install b
    { s1 with rope := { s1.rope with stage := if left = 0 then 3 else if b.isStatic then 1 else 2
                                     left := left % 2 ^ 24, checkRun := 0, checkBad := false } }

/-! ### The BELAY (R449-R451, R459) -/

/-- SAMPLE (R449): the BELAY keeps the latest of each link. -/
def State.sampleFrame (s : State) (link : Nat) (bs : List Byte) : State :=
  if !s.ropeTakes link then s
  else
    let s1 := s.ropeFrame link
    if bs.length < 20 || !frameOk bs || nthD 0 bs 0 != 0x54 then s1.ropeDiscard link
    else if s.rope.role ≠ 7 then s1
    else { s1 with rope := { s1.rope with samples := s1.rope.samples.filter (fun p => p.1 != link) ++ [(link, bs)] } }

/-- The records of a sample of passage `n`, of 640 bytes each, if it has come. -/
def Rope.recordsOf (r : Rope) (link : Nat) (n : Word) : List (List Byte) :=
  match r.samples.find? (fun p => p.1 == link) with
  | some (_, bs) =>
    if BitVec.ofNat 32 (fieldLE bs 4 4) = n then (List.range ((bs.length - 20) / 640)).map (fun j => (bs.drop (16 + 640 * j)).take 640)
    else []
  | none => []

/-- Whether a peer's own records fail (R450): some record of its sample is not reproduced (log 4). -/
def Rope.inconsistent (r : Rope) (link : Nat) (n : Word) : Bool := (r.recordsOf link n).any (fun x => !Config.reproduces x)

/-- Whether a peer's DIAG shows a unit fault, an uncorrectable word, an overrun or a GATE miss (R447, R450). -/
def Beat.diagShows (b : Beat) : Bool := b.diag.bits 0 24 != 0

/-- A peer is healthy in a passage (R450). -/
def Beat.healthy (b : Beat) (n : Word) : Bool := b.passage == some n && !b.fault && (b.role == 2 || b.role == 3)

/-- The decision of R450 on passage `n` between the beats of the LEAD and the SECOND and the links they come on: ACTION (0 none,
1 TAKE, 2 DISMISS) and REASON. -/
def Rope.decide (r : Rope) (n : Word) (lead second : Beat) (la lb : Nat) : Nat × Nat :=
  let here := lead.passage == some n
  if (!here || lead.fault || lead.resign) && second.healthy n then (1, 1)
  else if !second.healthy n then (2, 2)
  else if lead.digest == second.digest then (0, 3)
  else if r.inconsistent la n != r.inconsistent lb n then (if r.inconsistent la n then 1 else 2, 4)
  else if lead.diagShows != second.diagShows then (if lead.diagShows then 1 else 2, 5)
  else (2, 6)

/-- A verdict in the books (R450, R467). -/
def Rope.note (r : Rope) (action reason : Nat) : Rope :=
  if action = 0 then r
  else { r with action := action, reason := reason, diverge := if 4 ≤ reason then satAdd 0xFFFF r.diverge 1 else r.diverge }

/-- A VERDICT (R439): the passage, ACTION and REASON; where they lie is the model's (log 32). -/
def verdictBytes (n : Word) (action reason : Nat) : List Byte :=
  withCheck ([0x55#8, BitVec.ofNat 8 action, BitVec.ofNat 8 reason, 0] ++ bytesLE 4 n.toNat)

/-- BELAY_DECISION (R450): made on the passage in progress, where a LEAD and a SECOND have been heard (log 51). -/
def State.belayDecision (s : State) : State :=
  let r := s.rope
  let n := s.tt.passage
  if r.role ≠ 7 ∨ s.host.phase ≠ .run then s
  else
    let pair := if r.beatA.role = 2 ∧ r.beatB.role = 3 then some (r.beatA, r.beatB, 0, 1)
      else if r.beatB.role = 2 ∧ r.beatA.role = 3 then some (r.beatB, r.beatA, 1, 0) else none
    match pair with
    | none => s
    | some (a, b, la, lb) =>
      let v := r.decide n a b la lb
      let x := r.note v.1 v.2
      let x := { x with samples := []
                        takeovers := if v.1 = 1 then satAdd 255 x.takeovers 1 else x.takeovers
                        dismissals := if v.1 = 2 then satAdd 255 x.dismissals 1 else x.dismissals }
      let bs := verdictBytes n v.1 v.2
      (({ s with rope := x }).queueFrame 0 bs).queueFrame 1 bs

/-- VERDICT (R451): acted on at the start of the passage after the one it judges; a SECOND forwards it over RL0. -/
def State.verdict (s : State) (link : Nat) (passage : Word) (action reason : Nat) : State :=
  let r := s.rope
  if !(r.role == 2 || r.role == 3) || r.verdictOf == some passage then s
  else
    let x := { r.note action reason with verdictOf := some passage
                                         diverged := r.diverged || (action != 0 && decide (4 ≤ reason)) }
    let now := decide (passage = s.tt.passage)
    let x := if !now then x
      else if action = 1 then (if r.role = 3 then { x with take := true } else { x with nextRole := some 6 })
      else if action = 2 ∧ r.role = 3 then { x with nextRole := some 5, dismissals := satAdd 255 x.dismissals 1 }
      else if action = 2 then { x with dismissals := satAdd 255 x.dismissals 1 }
      else x
    let s1 := { s with rope := x }
    if r.role = 3 ∧ link = 1 then
      s1.queueFrame 0 (verdictBytes passage action reason)
    else s1

/-- GRANT (R459). -/
def State.grant (s : State) (serial : Word) : State :=
  if serial.toNat = s.ownTag then { s with rope := { s.rope with granted := true } } else s

/-- BELAY_GRANT (R459): given once, on both links. -/
def State.belayGrant (s : State) : State :=
  let r := s.rope
  let give (k : Nat) (serial : Word) : State :=
    let bs := withCheck ([0x57#8, 0, 0, 0] ++ bytesLE 4 serial.toNat)
    (({ s with rope := { r with grantTo := k } }).queueFrame 0 bs).queueFrame 1 bs
  if r.role ≠ 7 ∨ r.grantTo ≠ 0 then s
  else if r.beatA.passage.isSome then give 1 r.beatA.serial
  else if 11 ≤ r.heardB then give 2 r.beatB.serial
  else s

/-! ### Changes of role (R446, R451, R452, R454, R456, R458, R461, R463) -/

/-- TAKEOVER (R451, R454): what a passage start does for a SECOND that is to originate; the row does it where it still stands. -/
def State.takeover (s : State) : State := if s.rope.role = 3 ∧ s.rope.take then s.becomeLead else s

/-- HANDOVER (R463): at passage P; the row does it where the passage start has not. -/
def State.handoverNow (s : State) : State := if s.rope.handover = some s.tt.passage then s.exchange else s

/-- SILENCE_TAKEOVER (R452). -/
def State.silence (s : State) : State :=
  let r := s.rope
  let n := some s.tt.passage
  let beat := r.peer.passage == n
  let silent := r.leadHeader != n && !beat
  if r.role = 3 ∧ r.belayAt ≠ n ∧ ((beat && r.peer.resign) || silent) = true then { s with rope := { r with take := true } } else s

/-- BATCH_MISSING (R446): `kind` is 0 for the BATCH tagged with the next passage, 1 for the LEDGER of the passage before, 2 for
the LOCAL and 3 for the LOCAL_SER of this one. The log entry's VALUE holds it (log 16). -/
def State.batchMissing (s : State) (kind : Nat) : State :=
  let r := s.rope
  let n := s.tt.passage
  let missing := match kind with
    | 0 => !r.batches.any (fun b => b.1 == n + 1)
    | 1 => r.ledgerAt != some (n - 1)
    | 2 => r.localAt != some n
    | 3 => r.localSerAt != some n
    | _ => false
  if decide (r.role = 3) && missing then
    let s1 := s.logOther originPeer 0x90004 kind
    if kind = 1 then s1.becomeStandby else { s1 with rope := { s1.rope with nextRole := some 5 } }
  else s

/-- SECOND_DOWNSTREAM_FALLBACK (R456). -/
def State.downFallback (s : State) (ring : Nat) : State :=
  if s.rope.role = 3 ∧ s.host.phase = .run ∧ s.ringInUse ring = true ∧
      Tab.get none s.rope.downSeen ring ≠ some s.tt.passage then s.sendDown ring
  else s

/-- LEAD_ISOLATION (R451). -/
def State.leadIsolation (s : State) : State :=
  let r := s.rope
  let n := s.tt.passage
  if r.role = 2 ∧ r.belayEver ∧ r.belayAt ≠ some n ∧ r.peerAt ≠ some n ∧ r.peer.role = 3 ∧ r.peer.passage = some (n - 1) then
    { s with rope := { r with nextRole := some 6 } }
  else s

/-- The header that a head sends on a lane (R255, R256, R458), with its DEP_TIME. -/
def State.laneHeader (s : State) (r : Nat) (cold laneY : Bool) (dep : U64) : List Byte :=
  let origin := if cold then s.rope.strap == 2 else s.rope.origin == 1
  headerBytes (if cold then 2 else 1) r laneY false s.image.team origin (!cold && !(s.ring r).holes.isEmpty)
    (if cold then s.rope.strap else 0) s.image.period s.gov.chosen s.tt.passage dep (BitVec.ofNat 32 s.ownTag)
    (nthD 0 s.image.nodes r) (bitNat (s.image.team && !origin)) (bitNat (s.image.team && origin)) (s.guard r)

/-- The headers that a head sends on both lanes of a ring (R256, R300): each DEP_TIME is free within 2 ns of the passage's start. -/
def State.sendHeader (s : State) (r : Nat) (cold : Bool) : State :=
  let a := s.tick
  let b := a.2.tick
  let dep (k : Nat) : U64 := s.tt.start + BitVec.ofNat 64 ((Config.free k).toNat % 5) - 2
  b.2.setRing r { b.2.ring r with txHeader := s.laneHeader r cold false (dep a.1), txHeaderY := s.laneHeader r cold true (dep b.1) }

/-- COLD_START_ATTEMPT (R458, R459): after listening or a back-off, a cold-start header on both ports of every ring in use. -/
def State.coldStart (s : State) : State :=
  let r := s.rope
  if s.host.phase ≠ .listen ∨ r.role ≠ 0 ∨ r.strap = 3 ∨ r.listen ≠ 0 ∨ r.attempt = true ∨ r.joinNext = true ∨
      (r.belayEver = true ∧ r.granted = false) then s
  else
    let s1 := { s with rope := { r with attempt := true, returned := false, conflict := false } }.ringTx true
    (List.range 4).foldl (fun s r => if s.ringInUse r then s.sendHeader r true else s) s1

/-- REJOIN_CHECK_COMPLETE (R461): 64 equal digests make the joiner SECOND, and a mismatch returns it to STANDBY. -/
def State.rejoinCheck (s : State) : State :=
  let r := s.rope
  if r.role ≠ 4 ∨ r.stage ≠ 3 then s
  else if r.checkBad then ({ s with rope := { r with stage := 15 } }).takeRole 5
  else if 64 ≤ r.checkRun then ({ s with rope := { r with stage := 4 } }).takeRole 3
  else s

/-- ROPE_LINK_LOCK_LOSS (R24, R466): a fault of the rope link, contained. -/
def State.linkLoss (s : State) (link : Nat) : State :=
  if 2 ≤ link then s
  else
    let r := s.rope
    let was := if link = 0 then r.locked.1 else r.locked.2
    let s1 := { s with rope := { r with locked := if link = 0 then (false, r.locked.2) else (r.locked.1, false) } }
    if was then s1.unitFault 8 (0x4000 + link) else s1

/-- ROPE_LINK_LOCK_REGAINED (R438, R466). -/
def State.linkRegained (s : State) (link : Nat) : State :=
  let r := s.rope
  if link = 0 then { s with rope := { r with locked := (true, r.locked.2) } }
  else if link = 1 then { s with rope := { r with locked := (r.locked.1, true) } }
  else s

/-! ### The rows -/

def execHeartbeat (link : Nat) (bs : List Byte) (s : State) : Host.Outcome State Fault Refusal := .next (s.heartbeat link bs)
def execBatch (link : Nat) (ok : Bool) (tag : Word) (items : List Forward) (s : State) : Host.Outcome State Fault Refusal :=
  .next (s.ropeReceive link ok (fun s => s.batch tag items))
def execLedger (link : Nat) (ok : Bool) (passage : Word) (books : List LedgerNode) (s : State) :
    Host.Outcome State Fault Refusal := .next (s.ropeReceive link ok (fun s => s.ledger passage books))
def execLocal (link : Nat) (ok : Bool) (passage : Word) (chans : List LocalChan) (evio : U64) (s : State) :
    Host.Outcome State Fault Refusal := .next (s.ropeReceive link ok (fun s => s.localFrame passage chans evio))
def execLocalSer (link : Nat) (ok : Bool) (passage : Word) (chans : List LocalChan) (s : State) :
    Host.Outcome State Fault Refusal := .next (s.ropeReceive link ok (fun s => s.localSerFrame passage chans))
def execSample (link : Nat) (bs : List Byte) (s : State) : Host.Outcome State Fault Refusal := .next (s.sampleFrame link bs)
def execVerdict (link : Nat) (ok : Bool) (passage : Word) (action reason : Nat) (s : State) :
    Host.Outcome State Fault Refusal := .next (s.ropeReceive link ok (fun s => s.verdict link passage action reason))
def execEvioFrame (link : Nat) (ok : Bool) (p reg : Nat) (w target : Word) (s : State) : Host.Outcome State Fault Refusal :=
  .next (s.ropeReceive link ok (fun s => s.evioFrame p reg w target))
def execGrant (link : Nat) (ok : Bool) (serial : Word) (s : State) : Host.Outcome State Fault Refusal :=
  .next (s.ropeReceive link ok (fun s => s.grant serial))
def execCopy (link : Nat) (ok : Bool) (block : CopyBlock) (left : Nat) (s : State) : Host.Outcome State Fault Refusal :=
  .next (s.ropeReceive link ok (fun s => s.copy block left))
def execBelayDecision (s : State) : Host.Outcome State Fault Refusal := .next s.belayDecision
def execBelayGrant (s : State) : Host.Outcome State Fault Refusal := .next s.belayGrant
def execTakeover (s : State) : Host.Outcome State Fault Refusal := .next s.takeover
def execSilenceTakeover (s : State) : Host.Outcome State Fault Refusal := .next s.silence
def execHandover (s : State) : Host.Outcome State Fault Refusal := .next s.handoverNow
def execBatchMissing (kind : Nat) (s : State) : Host.Outcome State Fault Refusal := .next (s.batchMissing kind)
def execSecondDownstreamFallback (ring : Nat) (s : State) : Host.Outcome State Fault Refusal := .next (s.downFallback ring)
def execLeadIsolation (s : State) : Host.Outcome State Fault Refusal := .next s.leadIsolation
def execColdStartAttempt (s : State) : Host.Outcome State Fault Refusal := .next s.coldStart
def execRejoinCheckComplete (s : State) : Host.Outcome State Fault Refusal := .next s.rejoinCheck
def execRopeLinkLockLoss (link : Nat) (s : State) : Host.Outcome State Fault Refusal := .next (s.linkLoss link)
def execRopeLinkLockRegained (link : Nat) (s : State) : Host.Outcome State Fault Refusal := .next (s.linkRegained link)

end Sys2Proof.Machine
end

