-- ==== Sys2Proof/Machine/GovRows.lean ====
section
/-! DEFINITION. The governor's events (R414-R427, R54). -/

namespace Sys2Proof.Machine

/-- MEASUREMENT_CLOSE (R414-R417, R424): from phase ARM on. -/
def State.measurementClose (s : State) (energy : Nat) (temps : List Int) : State :=
  if s.tt.clockOn then s.closeInterval energy temps else s

/-- SENSOR_FAIL (R415): 0-5 a thermal sensor, from then on failed; from 6 on a rail monitor, for the interval in progress. Each
onset is logged. -/
def State.sensorFailed (s : State) (k : Nat) : State :=
  let g := s.gov
  if k < 6 then
    if nthD false g.failed k then s
    else ({ s with gov := { g with failed := setNth g.failed k true, sensorFail := true
                                   tempNow := setNth g.tempNow k 32767
                                   tripRun := setNth g.tripRun k 0 } }).logOther originSelf 0x20004 (2 ^ 27 + k)
  else
    ({ s with gov := { g with monitors := g.monitors + 1, monitorFail := true } }).logOther originSelf 0x20004 (2 ^ 26 + k)

/-- THERMAL_TRIP (R423): a sensor that has not failed read 130 degrees or more in 16 consecutive intervals. -/
def State.thermalTripped (s : State) : State :=
  if s.gov.tripRun.any (fun n => decide (16 ≤ n)) then s.faultClusters 6 (List.range 16) else s

/-- TIER_LATCH (R54, R426): 500 ns before the end of the passage; a follower without its header counts a miss. -/
def State.tierLatch (s : State) : State :=
  if !s.tt.clockOn then s
  else
    let miss := s.followsTier && s.rope.leadHeader != some s.tt.passage
    { s with tt := { s.tt with tierNext := s.latchedTier }
             gov := { s.gov with tierMiss := if miss then satAdd 0xFFFF s.gov.tierMiss 1 else s.gov.tierMiss } }

def execMeasurementClose (energy : Nat) (temps : List Int) (s : State) : Host.Outcome State Fault Refusal :=
  .next (s.measurementClose energy temps)
def execSensorFail (k : Nat) (s : State) : Host.Outcome State Fault Refusal := .next (s.sensorFailed k)
def execThermalTrip (s : State) : Host.Outcome State Fault Refusal := .next s.thermalTripped
def execTierLatch (s : State) : Host.Outcome State Fault Refusal := .next s.tierLatch

end Sys2Proof.Machine
end

