-- ==== Sys2Proof/Machine/SafetyRows.lean ====
section
/-! DEFINITION. The safety island's events (R471-R486). -/

namespace Sys2Proof.Machine

/-- SAFETY_SAMPLE (R476): at the next multiple of 10,000 ns; `sins`, `souts` and `brks` are the levels of the balls, `currents`
the brake currents in mA that the sample gives (log 28). -/
def State.sampleSafety (s : State) (sins souts brks : Nat) (currents : List Nat) : State :=
  let next := s.time.time.toNat / 10000 * 10000 + 10000
  (s.toStamp (BitVec.ofNat 64 next)).safetySample sins souts brks currents

/-- DISCREPANCY_TIMEOUT (R477): the contacts of pair `k`, `k + 1` have differed for longer than DISC. -/
def State.discrepancy (s : State) (k : Nat) : State :=
  let x := s.safe
  let b := pairBase x.rules k
  let r := sinRule x.rules b
  if decide (16 ≤ k) || x.state == 0 || r.mode != 2 || decide ((x.sin b).differ ≤ 100 * r.disc) then s
  else { s with safe := (x.sinFault b false).sinFault (b + 1) false }

/-- SS1_TIME_EXPIRY (R478): the quick stop of an SS1 function that has been demanded for SS1_TIME ends in safe torque off. -/
def State.ss1Expiry (s : State) (f : Nat) : State :=
  let x := s.safe
  let v := x.fn f
  if f < 32 ∧ x.state = 2 ∧ v.demand = true ∧ (fnRule x.rules f).kind = 2 ∧ 100 * (fnRule x.rules f).ss1 ≤ v.ran then
    ({ s with safe := x.setFn f { v with expired := true } }).switchOutputs
  else s

/-- The instant of the next off-pulse of output `j` (R483, R486): PHASE ms into a cycle of 20 ms, in a SECOND-preferred part 10 ms
later. -/
def State.nextPulse (s : State) (j : Nat) : U64 :=
  let place := ((soutRule s.safe.rules j).phase + (if s.rope.strap = 2 then 10 else 0)) % 20 * 1000000
  let now := s.time.time.toNat
  BitVec.ofNat 64 (now + (place + 20000000 - now % 20000000) % 20000000)

/-- OFF_PULSE (R483): an output that is on is turned off for PULSE; `low` says that its ball reads low before the pulse ends. -/
def State.offPulse (s0 : State) (j : Nat) (low : Bool) : State :=
  let v := s0.safe.sout j
  if decide (8 ≤ j) || s0.safe.state != 2 || !v.on || v.fault || v.pulse then s0
  else
    let s := s0.toStamp (s0.nextPulse j)
    let x := s.safe
    let y := x.setSout j { v with pulse := true, ball := !low, pulseFrom := s.time.raw }
    let y := (List.range 16).foldl (fun y k =>
      if (sinRule x.rules (pairBase x.rules k)).source = j then y.setSin k { y.sin k with low := false } else y) y
    if low then { s with safe := y } else ({ s with safe := y.soutFault j }).switchOutputs

/-- A tested input at the end of its source's off-pulse (R477): passed when a raw sample was low; three in a row end its fault. -/
def Safe.pulseJudged (x : Safe) (k : Nat) : Safe :=
  let v := x.sin k
  if !v.low then (x.sinFault k true).setSin k { (x.sinFault k true).sin k with low := false, byPulse := true }
  else if v.fault && v.byPulse then
    if 3 ≤ v.passes + 1 then x.setSin k { v with fault := false, byPulse := false, passes := 0, low := false }
    else x.setSin k { v with passes := v.passes + 1, low := false }
  else x.setSin k { v with low := false }

/-- OFF_PULSE_END (R477, R483): PULSE after its start the off-pulse ends; `high` says that the ball reads high again within 500 µs. -/
def State.offPulseEnd (s0 : State) (j : Nat) (high : Bool) : State :=
  let x := s0.safe
  let v := x.sout j
  if decide (8 ≤ j) || !v.pulse then s0
  else
    let t := x.rules
    let s : State := { s0 with time := s0.time.rawUntil (v.pulseFrom + BitVec.ofNat 64 (10000 * (soutRule t j).pulse)) }
    let y := x.setSout j { v with pulse := false, ball := high }
    let y := (List.range 16).foldl (fun y k =>
      let r := sinRule t (pairBase t k)
      if r.source = j ∧ r.mode ≠ 0 then y.pulseJudged k else y) y
    if high then { s with safe := y } else ({ s with safe := y.soutFault j }).switchOutputs

/-- CONTAINER_LOSS (R482): SWD consecutive passages without an accepted container of a watched node. -/
def State.containerLoss (s : State) (r n : Nat) : State :=
  let x := s.safe
  let v := x.node r n
  if s.watches r n && !v.lost && decide (setSwd x.rules ≤ v.misses) then
    { s with safe := (x.setNode r n { v with lost := true }).addFault }
  else s

/-- STO_FAIL (R482): a node that is sent RUN = 0 has not reported STO_ON within 3 passages; it is treated as lost, and the brakes that a
function covering it names are applied. -/
def State.stoFail (s : State) (r n : Nat) : State :=
  let x := s.safe
  let v := x.node r n
  if s.watches r n && !v.run && !v.lost && decide (3 ≤ v.stoWait) then
    (({ s with safe := (x.setNode r n { v with lost := true, stoFail := true }).addFault }).switchOutputs).logOther originSafe
      0xA0060 (64 * r + n - 1)
  else s

/-- SAFETY_DIAG_FAULT (R470-R473): one of the first five diagnostics of R471 sends the island to FAILSAFE; a package fault. -/
def State.diagFault (s : State) (diag : Nat) : State :=
  let x := s.safe
  if decide (diag = 0) || decide (5 < diag) || x.state == 15 then s
  else
    let bt := if x.bt.step = .none then x.bt else { x.bt with state := 4, step := .none, ending := 0 }
    (({ s with safe := { x.demandAll with state := 15, diag := diag, bt := bt } }.switchOutputs).logOther originSafe 0xA0004
      diag).unitFault 7 0x9000

/-- VSAFE24_UNDERVOLTAGE (R570): an input fault of every SIN, and a readback failure of every SOUT and BRK that is on. -/
def State.safeSupplyLost (s : State) : State :=
  let x := s.safe
  if x.state = 0 then s
  else
    let t := x.rules
    let y := (List.range 16).foldl (fun y k => y.sinFault k (!inPair t k)) x
    let y := (List.range 8).foldl (fun y j => if (y.sout j).on then y.soutFault j else y) y
    let y := (List.range 8).foldl (fun y b => if (y.brk b).on then y.brkFault b else y) y
    ({ s with safe := y.evaluate y }).switchOutputs

def execSafetySample (sins souts brks : Nat) (currents : List Nat) (s : State) : Host.Outcome State Fault Refusal :=
  .next (s.sampleSafety sins souts brks currents)
def execDiscrepancyTimeout (k : Nat) (s : State) : Host.Outcome State Fault Refusal := .next (s.discrepancy k)
def execSs1TimeExpiry (f : Nat) (s : State) : Host.Outcome State Fault Refusal := .next (s.ss1Expiry f)
def execOffPulse (j : Nat) (low : Bool) (s : State) : Host.Outcome State Fault Refusal := .next (s.offPulse j low)
def execOffPulseEnd (j : Nat) (high : Bool) (s : State) : Host.Outcome State Fault Refusal := .next (s.offPulseEnd j high)
def execContainerLoss (ring n : Nat) (s : State) : Host.Outcome State Fault Refusal := .next (s.containerLoss ring n)
def execStoFail (ring n : Nat) (s : State) : Host.Outcome State Fault Refusal := .next (s.stoFail ring n)
def execSafetyDiagFault (diag : Nat) (s : State) : Host.Outcome State Fault Refusal := .next (s.diagFault diag)
def execVsafe24Undervoltage (s : State) : Host.Outcome State Fault Refusal := .next s.safeSupplyLost

end Sys2Proof.Machine
end

