-- ==== Sys2Proof/Machine/BootRows.lean ====
section
/-! DEFINITION. Reset and start-up (R35-R37, R541, R545, R573, R574), the host link (R499, R501), and the events of the store, the
VBAT domain and debug (R540, R556-R558). -/

namespace Sys2Proof.Machine

/-! ### Reset (R12, R35, R537, R540, R573, R574) -/

/-- A bank write cut short (R540): `stage` 0, nothing of it is written; 1, its body without the header word; else it is whole. Which
one is free (log 76). -/
def cutWrite (stage : Nat) (safe : Bool) (w : Option BankWrite) (x : Store) : Store :=
  match w with
  | none => x
  | some b =>
    let a := bankAddr safe b.bank
    match stage with
    | 0 => x
    | 1 => { x with mram := hostBytes x.mram (a + 32) (b.bytes.drop 32) }
    | _ => { x with mram := hostBytes x.mram a b.bytes }

/-- The identity area after a reset (R537, R559): what waited for the next PORn stands, and the event is counted. -/
def Ident.afterReset (d : Ident) : Ident :=
  { d with key0 := match d.next0 with
             | some h => { d.key0 with hash := some h }
             | none => d.key0
           key1 := match d.next1 with
             | some h => { d.key1 with hash := some h }
             | none => d.key1
           next0 := none, next1 := none
           team := (d.nextTeam.map (·.1)).getD d.team
           mac := (d.nextTeam.map (·.2)).getD d.mac
           nextTeam := none
           minVersion := d.nextMin.getD d.minVersion
           nextMin := none
           porns := d.porns + 1 }

/-- A new attestation key pair (R553, R556-R558): its public key is free, the vault holds a key, and BAT_LOST clears. -/
def State.newKeyPair (s : State) : State :=
  let a := s.tick
  let b := a.2.tick
  let c := b.2.tick
  let d := c.2.tick
  { d.2 with store := { d.2.store with
      ident := { d.2.store.ident with attest := Config.free a.1 ++ Config.free b.1 ++ Config.free c.1 ++ Config.free d.1 }
      vaultErased := false, kek := true, batLost := false } }

/-- What the MRAM and the VBAT domain keep over a reset (R536, R537, R557). -/
def Store.kept (x : Store) : Store :=
  { mram := x.mram, ident := x.ident.afterReset, slot0 := { x.slot0 with code := 0 }, slot1 := { x.slot1 with code := 0 }
    logWr := x.logWr, logAck := x.logAck, unrecorded := x.unrecorded, link := x.link, vaultErased := x.vaultErased
    kek := x.kek, batLost := x.batLost, tamper := x.tamper, tamperDue := x.tamperDue, batDue := x.batDue
    rtcValid := x.rtcValid, rtc := x.rtc }

/-- PORn falls (R35, R574): every island is in reset; the MRAM, the VBAT domain, the level of PERSTn and host memory stay. A
debug port that was open asks for a new key pair. -/
def State.powerReset (s : State) : State :=
  let t := s.tick
  let stage := (Config.free t.1).toNat
  let x := cutWrite (stage / 3 % 3) true s.store.busySafe (cutWrite (stage % 3) false s.store.busyParam s.store)
  let r : State := { State.reset with
    pending := s.pending, freeCtr := t.2.freeCtr, store := x.kept
    host := { State.reset.host with memory := s.host.memory, perstn := s.host.perstn } }
  if s.store.debugOpen then r.newKeyPair else r

/-- PORN (R574): a low pulse below 1 µs is ignored, one of 10 µs resets, and between them it is free; at the rising edge the straps
are latched (R2) and WAKE begins. -/
def State.porn (s : State) (lowNs straps : Nat) : State :=
  let t := s.tick
  let hit := decide (10000 ≤ lowNs) || (Config.free t.1).toNat % 2 == 1
  if lowNs < 1000 then s
  else if !hit then t.2
  else
    let r := t.2.powerReset
    { r with host := { r.host with phase := .wake }, rope := { r.rope with strap := straps % 4 } }

/-- RAIL_UNDERVOLTAGE (R573): a rail below 90 % for 2 µs has the effect of PORn falling. -/
def State.railLow (s : State) (ns : Nat) : State := if ns < 2000 then s else s.powerReset

/-! ### Tamper, VBAT, vault, debug (R556-R558) -/

/-- The vault erased (R556). -/
def State.eraseVault (s : State) : State :=
  { s with store := { s.store with vaultErased := true, ident := { s.store.ident with erasures := s.store.ident.erasures + 1 } } }

/-- What the store does on a tamper event (R558): the vault is erased, a new key pair created, the event counted and logged. -/
def State.tamperStore (s : State) : State :=
  let s1 := s.eraseVault.newKeyPair
  ({ s1 with store := { s1.store with tamperDue := false
                                      ident := { s1.store.ident with tampers := s1.store.ident.tampers + 1 } } }).logStore
    originSelf 0x07 0 0 0

/-- TAMPER (R558): the key is cleared at once, with or without main power. -/
def State.tampered (s : State) (powered : Bool) : State :=
  let s1 := { s with store := { s.store with kek := false, vaultErased := true, tamper := true } }
  if powered && decide (s.host.phase ≠ .por) then s1.tamperStore else { s1 with store := { s1.store with tamperDue := true } }

/-- VBAT_LOSS (R557): BAT_LOST is set, the key and the RTC are cleared. -/
def State.vbatLost (s : State) : State :=
  let s1 := { s with store := { s.store with batLost := true, kek := false, vaultErased := true, rtc := 0, rtcValid := false } }
  if s.host.phase = .por then { s1 with store := { s1.store with batDue := true } } else s1.logStore originSelf 0x08 0 0 0

/-- VAULT_ERASE_COMPLETE (R556): the erasure is logged, and debug opens. -/
def State.vaultErasedNow (s : State) : State :=
  if !s.store.opening then s
  else
    let s1 := s.eraseVault.logStore originSelf 0x09 0 0 0
    ({ s1 with store := { s1.store with opening := false, debugOpen := true } }).logStore originSelf 0x0A 0 0 0

/-- DBG_REQ (R556): taken at the next passage start, or at once in HALT. -/
def State.debugRequest (s : State) : State :=
  if s.host.phase = .por then s
  else if s.host.phase = .halt then
    let c : Ctx := { seq := 0, tag := 0, origin := originDebug, forwarded := false, logFull := false, accepted := s.tt.passage }
    let i := infoOf 0xE6 []
    let a := s.setAside c i
    ((a.2.intent c i s.tt.passage a.1).settle c i coreStDebugOpen (a.1 - 1)).2.2
  else { s with store := { s.store with dbgReq := true } }

/-! ### Start-up (R35, R541, R545) -/

/-- WAKE_COMPLETE (R35, R293, R545): the time PLL has locked, BOOT_LEVEL is read, what the VBAT domain saw without power is made
up. -/
def State.wakeDone (s : State) : State :=
  if s.host.phase ≠ .wake then s
  else
    let s1 : State := { s with host := { s.host with phase := .clear }, time := { s.time with counting := true }
                               store := { s.store with level := s.store.ident.bootLevel, rtcValid := true } }
    let s2 := if s1.store.tamperDue then s1.tamperStore else s1
    if s2.store.batDue then ({ s2 with store := { s2.store with batDue := false } }).logStore originBoot 0x08 0 0 0 else s2

/-- The SRAMs after CLEAR (R35, R266): zeros, and every upstream entry with AGE 15. -/
def clearMem : Mem := (List.range 4).flatMap (fun r => (List.range 128).map (fun e => (ringBase r + 48 * e + 36, 0x0F#8)))

/-- CLEAR_COMPLETE (R35). -/
def State.clearDone (s : State) : State :=
  if s.host.phase ≠ .clear then s
  else { s with host := { s.host with phase := .image }, mem := clearMem, bad := [], badSeen := [], wrong := [] }

/-- A slot's CODE after an authentication (R563). -/
def State.slotCode (s : State) (n code : Nat) : State :=
  { s with store := s.store.setSlot n { s.store.slot n with code := code } }

/-- A slot refused (R68, R83, R563): its CODE, LAST_CODE and LOAD_DETAIL say why. -/
def State.refusedSlot (s : State) (n : Nat) (f : LoadFail) : State :=
  let s1 := s.slotCode n f.code
  { s1 with tt := { s1.tt with lastCode := BitVec.ofNat 8 f.code, loadDetail := f.detail } }

/-- A slot image run (R545): its timetable, its code, its soft-plane code; the load's outcome is OK (R68, R83). -/
def State.bootSlot (s : State) (n : Nat) (fallback : Bool) : State :=
  let m := (s.store.softCode n).foldl (fun (m : Mem) p => m.setBytes p.1 p.2) s.mem
  let s1 : State := { (s.slotCode n codeOk) with mem := m }
  let s2 : State := { s1 with tt := { s1.tt with running := some (s.store.slotImage n), lastCode := 0, loadDetail := 0 }
                              host := { s1.host with phase := .arm }
                              store := { s1.store with runSlot := n, fellBack := fallback } }
  let s3 := s2.logStore originBoot 0x05 0 n 0
  if fallback then s3.logStore originBoot 0x06 0 n 0 else s3

/-- IMAGE_COMPLETE (R35, R545). -/
def State.imageDone (s : State) : State :=
  if s.host.phase ≠ .image then s
  else
    let b := s.store.ident.bootSlot
    let halt (s : State) (cause : Nat) : State := { s with host := { s.host with phase := .halt, haltCause := cause } }
    match s.authenticate b with
    | none => s.bootSlot b false
    | some f =>
      let s1 := s.refusedSlot b f
      if s.store.level = 1 then halt s1 3
      else match s.authenticate (1 - b) with
        | none => s1.bootSlot (1 - b) true
        | some g => halt (s1.refusedSlot (1 - b) g) 1

/-- The parameter defaults of the running image in force (R541). -/
def State.loadDefaults (s : State) : State :=
  s.image.wiring.defaults.foldl (fun s p => if s.recordOk p then s.applyRecord p.1 p.2 else s) s

/-- A record of the active bank applied, or skipped, counted and logged (R541). -/
def State.loadRecord (s : State) (p : Nat × Word) : State :=
  if s.recordOk p then s.applyRecord p.1 p.2
  else ({ s with store := { s.store with skipped := satAdd 0xFFFF s.store.skipped 1 } }).logStore originBoot 0x03 0 p.1 p.2.toNat

/-- A page or block that breaks a rule across fields takes the defaults for every field (R541). -/
def State.groupDefaults (s def' : State) (offs : List Nat) : State :=
  (offs.foldl (fun s o => s.setCfg o (def'.cfgW o)) s).logStore originBoot 0x03 0 (offs.headD 0) 0

/-- Whether the other bank of a pair was written and does not decode: a recovery from the older side (R541). -/
def Store.recovered (x : Store) (safe : Bool) : Bool :=
  let touched (k : Nat) : Bool := x.bytes (bankAddr safe k) 4 == bankMagic safe && !x.bankValid safe k
  match x.activeBank safe with
  | some k => touched (1 - k)
  | none => false

/-- A missing or recovered bank logged (R541): SUBJECT 0 the parameter pair, 1 the safety pair, VALUE 1 for a recovery. -/
def State.logBank (s : State) (safe : Bool) : State :=
  if (s.store.activeBank safe).isNone then s.logStore originBoot 0x02 0 (bitNat safe) 0
  else if s.store.recovered safe then s.logStore originBoot 0x02 0 (bitNat safe) 1
  else s

/-- The parameter bank loaded (R541). -/
def State.loadBank (s : State) : State :=
  let base := s.loadDefaults
  let s1 : State := match s.store.activeBank false with
    | some k =>
      let a := bankAddr false k
      let n := (s.store.word (a + 0x10)).toNat
      (recordsAt (fun o => Tab.get 0 s.store.mram (a + o)) 32 n).foldl (fun (s : State) p => s.loadRecord p) base
    | none => base
  let s2 := s1.bankGroups.foldl (fun s g => if g.2 then s else s.groupDefaults base g.1) s1
  ({ s2 with store := { s2.store with paramBank := s.store.activeBank false, loaded := true } }).logBank false

/-- The registers with LEVEL fields that banks set, and how many fields each has, from bit 0 on (R3). -/
def State.levelRegs (s : State) : List (Nat × Nat) :=
  ([0x08, 0x1000, 0x20000, 0x30000, 0x40000, 0x44000, 0x48000, 0x4C000, 0x50000, 0x60000, 0x80000, 0x90000, 0xB0000].map (·, 1)) ++
    (s.instances ++ (List.range 16).map (512 + ·)).map (fun g => (pfOff g 0, 2)) ++ s.instances.map (fun i => (axOff i 0, 4))

/-- Every LEVEL field that a bank or the image's defaults set to expert is logged with origin BOOT (R3). -/
def State.logLevels (s : State) : State :=
  s.levelRegs.foldl (fun s r => (List.range r.2).foldl (fun s k =>
    if (s.cfgW r.1).bit k then s.logEvent originBoot 3 0 r.1 (s.cfgW r.1).toNat else s) s) s

/-- The safety bank taken by the island after its self-test (R470, R489, R541); a well-formed set without its confirmation awaits
it (R481). A confirmed set at the expert level is logged with origin BOOT before it takes effect (R3, R492). -/
def State.loadSafe (s : State) : State :=
  let x := s.store
  let t := match x.activeBank true with
    | some k => setOfBytes (x.bytes (bankAddr true k + 32) 0x760)
    | none => []
  let check := checkValue t
  let formed := (x.activeBank true).isSome && setInRange t s.periodNs && decide (setField t 6 2 = 0x760)
  let run := formed && decide (setField t 8 4 = check.toNat)
  let waits := formed && !run
  let base := s.setCfg 0xA0000 0
  let s := if run && setLevel t == 1 then base.logEvent originBoot 3 0 0xA0000 0x80000001 else base
  ({ s with store := { x with safeBank := x.activeBank true }
            safe := { s.safe with state := if run then 2 else 1
                                  confirmed := if run then some t else none
                                  awaiting := if waits then some t else none
                                  checkPending := if waits then check else 0
                                  check := if run then check else 0 } }).logBank true

/-- The passage clock started (R299): passage 0 at the first grid point that TIME reaches, counted in tier 0 as it begins (R87; log
108). -/
def State.startClock (s : State) : State :=
  let p := s.periodNs
  let phase := (s.cfgW 0x50010).bits 0 20
  let now := s.time.time.toNat
  let start := BitVec.ofNat 64 (now + (((phase : Int) - now) % p).toNat)
  let s1 := s.toStamp start
  { s1 with tt := { s1.tt with
      clockOn := true, passage := 0, start := start, tier := 0, tierNext := 0, tierChoice := 0
      tierPassages := setNth s1.tt.tierPassages 0 (nthD 0 s1.tt.tierPassages 0 + 1) } }

/-- What a part is when it begins to listen (R437, R458, R462): a BELAY from the start; an image whose TEAM flag disagrees with the
straps is a configuration fault. -/
def State.startListen (s : State) : State :=
  let r := s.rope
  let s1 : State := { s with
    host := { s.host with phase := .listen }
    rope := { r with listen := if r.strap = 2 then 11 else 8 }
    gov := { s.gov with bucket := s.govCfg.depth }
    plant := { s.plant with portState := rolePortState ((s.cfgW 0xD0100).bits 30 2) }
    rings := (List.range 4).foldl (fun t k => if s.ringInUse k then Tab.put {} t k { Tab.get {} t k with st := .listen } else t) s.rings }
  if s.image.team != decide (r.strap ≠ 0) then s1.cfgFault 4
  else if r.strap = 3 then s1.takeRole 7 else s1

/-- ARM_COMPLETE (R35, R470-R472, R492, R541): the safety island sets its LOCK. -/
def State.armDone (s : State) (selfTest : Bool) : State :=
  if s.host.phase ≠ .arm then s
  else
    let b := s.loadBank.logLevels
    let s1 : State := { b with safe := { b.safe with lock := true } }
    let s2 := if selfTest then s1.loadSafe else s1.diagFault 4
    if s2.host.phase = .halt then s2
    else
      let s3 := s2.startClock.startListen
      let s4 := (List.range 16).foldl (fun s u => s.refreshTrg u) (s3.instances.foldl (fun s i => s.settleSelector i) s3)
      s4.takeStops.takeQueue

/-! ### The host link (R37, R499, R501) -/

/-- PERSTN (R501): the endpoint is reset, MIRROR_CTRL.EN cleared, the queue discarded; the stop table stays. -/
def State.perst (s : State) (low : Bool) : State :=
  if !low then { s with host := { s.host with perstn := true } }
  else
    let w := s.cfgW 0x10
    let s1 := s.setCfg 0x10 (w &&& 0x7FFFFFFF#32)
    let q := s1.host.queue
    let s2 : State := { s1 with host := { s1.host with perstn := false, speed := 0, width := 0, bme := false, d3 := false, corr := 0
                                                       queue := [] } }
    q.foldl (fun s p => s.discardPush p) s2

/-- PCIE_LINK_DOWN (R501): 0 the link goes down, 1 Bus Master Enable is cleared, 2 the function enters D3hot. -/
def State.linkDown (s : State) (cause : Nat) : State :=
  match cause with
  | 0 => { s with host := { s.host with speed := 0, width := 0 } }
  | 1 => { s with host := { s.host with bme := false } }
  | 2 => { s with host := { s.host with d3 := true } }
  | _ => s

/-- PCIE_LINK_UP (R37, R499): with PORn and PERSTn high. -/
def State.linkUp (s : State) (speed width : Nat) (bme : Bool) : State :=
  if s.host.phase = .por ∨ s.host.perstn = false ∨ speed = 0 ∨ 3 < speed ∨ !(width == 1 || width == 2 || width == 4) then s
  else { s with host := { s.host with speed := speed, width := width, bme := bme, d3 := false } }

/-! ### Bank writes (R540) -/

/-- BANK_WRITE_COMPLETE (R540, R550): a bank that passes its read-back becomes active; one that fails leaves a free CHECK, and
FAULTED is reported. -/
def State.bankWritten (s : State) (safe ok : Bool) : State :=
  let x := s.store
  match (if safe then x.busySafe else x.busyParam) with
  | none => s
  | some w =>
    let a := bankAddr safe w.bank
    let x1 := if safe then { x with busySafe := none } else { x with busyParam := none }
    if ok then
      let x2 := { x1 with mram := hostBytes x1.mram a w.bytes }
      let x3 := if safe then { x2 with safeBank := some w.bank } else { x2 with paramBank := some w.bank }
      ({ s with store := x3 }).logStore originSelf 0x01 codeOk (w.bank + 2 * bitNat safe) w.seq.toNat
    else
      let t := s.tick
      let bytes := w.bytes.take 0x1C ++ bytesLE 4 (Config.free t.1).toNat ++ w.bytes.drop 0x20
      ({ t.2 with store := { x1 with mram := hostBytes x1.mram a bytes } }).logStore originSelf 0x01 codeFaulted
        (w.bank + 2 * bitNat safe) w.seq.toNat

/-! ### The rows -/

def execPorn (lowNs straps : Nat) (s : State) : Host.Outcome State Fault Refusal := .next (s.porn lowNs straps)
def execRailUndervoltage (ns : Nat) (s : State) : Host.Outcome State Fault Refusal := .next (s.railLow ns)
def execWakeComplete (s : State) : Host.Outcome State Fault Refusal := .next s.wakeDone
def execClearComplete (s : State) : Host.Outcome State Fault Refusal := .next s.clearDone
def execImageComplete (s : State) : Host.Outcome State Fault Refusal := .next s.imageDone
def execArmComplete (selfTest : Bool) (s : State) : Host.Outcome State Fault Refusal := .next (s.armDone selfTest)
def execPerstn (low : Bool) (s : State) : Host.Outcome State Fault Refusal := .next (s.perst low)
def execPcieLinkDown (cause : Nat) (s : State) : Host.Outcome State Fault Refusal := .next (s.linkDown cause)
def execPcieLinkUp (speed width : Nat) (bme : Bool) (s : State) : Host.Outcome State Fault Refusal :=
  .next (s.linkUp speed width bme)
def execTamper (powered : Bool) (s : State) : Host.Outcome State Fault Refusal := .next (s.tampered powered)
def execVbatLoss (s : State) : Host.Outcome State Fault Refusal := .next s.vbatLost
def execVaultEraseComplete (s : State) : Host.Outcome State Fault Refusal := .next s.vaultErasedNow
def execDbgReq (s : State) : Host.Outcome State Fault Refusal := .next s.debugRequest
def execBankWriteComplete (safe ok : Bool) (s : State) : Host.Outcome State Fault Refusal := .next (s.bankWritten safe ok)

end Sys2Proof.Machine
end

