-- ==== Sys2Proof/Machine/RopeCopy.lean ====
section
/-! DEFINITION. What a LEAD copies to a joiner (R461): the static set once, then the dynamic set, in COPY frames. -/

namespace Sys2Proof.Machine

/-- Whether a register lies in a block whose committed fields are copied: GOV, SCHED, RING, TIME, FBK, STEP, ACQ, AXIS (R461, R502). -/
def copiedBlock (off : Nat) : Bool := decide (0x20000 ≤ off ∧ off < 0x90000) || decide (0x100000 ≤ off ∧ off < 0x180000)

/-- The committed fields of the copied blocks (R461). -/
def State.copyRegisters (s : State) : List CopyBlock :=
  (List.range 0x60000).filterMap (fun k =>
    let off := 4 * k
    match (if copiedBlock off then maskOf off else none) with
    | some m => if (m.rw ||| m.lk) = 0 then none else some (.register off (s.cfgW off))
    | none => none)

/-- The coefficient sets that an instance has loaded since ARM (R461). -/
def State.copySets (s : State) (i : Nat) : List CopyBlock := match s.servoWire i with
  | none => []
  | some w => (s.axis i).loaded.flatMap (fun f => (List.range w.stride).map (fun n =>
      let a := opAddr (s.aeOf i) (w.base + f * w.stride + n)
      .memory a (s.mem.bytes a 32)))

/-- The static set (R461). -/
def State.copyStatic (s : State) : List CopyBlock := s.copyRegisters ++ s.instances.flatMap (fun i => s.copySets i)

/-- The dynamic set (R461): the state records, the instances and the generators with their queues, the feedback channels, the EVIO
queues. -/
def State.copyDynamic (s : State) : List CopyBlock :=
  let n := s.tt.passage.toNat
  let servos := s.instances.filter (fun i => s.kindOf i == 1)
  servos.flatMap (fun i => [n + 1, n].map (fun k => let a := s.stateRecord i k
                                                    .memory a (s.mem.bytes a 640))) ++
    s.instances.map (fun i => .axis i (s.axis i)) ++ s.generators.map (fun g => .gen g (s.gen g)) ++
    (List.range 16).map (fun c => .encoder c (s.enc c)) ++ (List.range 8).map (fun c => .serial c (s.ser c)) ++
    s.instances.map (fun i => .remote i (s.rem i)) ++ (List.range 64).map (fun p => .evio p (s.evio p))

/-- The bytes that a block takes of a passage's 24 KiB (R461): a block other than memory counts as the 230 that R461 names (log 128). -/
def CopyBlock.size : CopyBlock → Nat
  | .memory _ bs => bs.length
  | .register .. => 4
  | _ => 230

/-- The first blocks that fit in `n` bytes. -/
def blocksIn : Nat → List CopyBlock → List CopyBlock
  | _, [] => []
  | n, b :: r => if b.size ≤ n then b :: blocksIn (n - b.size) r else []

/-- The COPY frames of a passage (R461, R467): how many the fabric's slack holds is free, at least one; of the dynamic set at most
24 KiB. -/
def State.sendCopies (s : State) : State :=
  let r := s.rope
  if r.role ≠ 2 ∨ ¬(r.stage = 1 ∨ r.stage = 2) then s
  else
    let fixed := s.copyStatic
    let moving := s.copyDynamic
    let t := s.tick
    let n := 1 + (Config.free t.1).toNat % 2 ^ 16
    let out := if r.copied < fixed.length then (fixed.drop r.copied).take n
      else blocksIn 24576 ((moving.drop (r.copied - fixed.length)).take n)
    let done := r.copied + out.length
    let left := fixed.length + moving.length - done
    let s1 : State := { t.2 with
      rope := { r with copyOut := out, copied := done, left := left % 2 ^ 24
                       stage := if left = 0 then 3 else if done < fixed.length then 1 else 2 } }
    out.foldl (fun s _ => s.queueFrame 0 [0x58]) s1

end Sys2Proof.Machine
end

