-- ==== Sys2Proof/Machine/PassageStart.lean ====
section
/-! DEFINITION. PASSAGE_START (R299): the end of one passage and the start of the next, in the order of R132, with the swap
(R75), the tier (R54), the role of a team part (R446-R463), the reactions (R21, R132, R479), the commands due (R16, R445), the
samples (R185, R220) and what a head sends (R255, R445). -/

namespace Sys2Proof.Machine

/-! ### The swap (R75) -/

/-- Whether the swap that is pending falls on a passage. -/
def State.swapDue (s : State) (p : Word) : Bool := decide (s.tt.shadowState = .pending) && s.tt.swapAt == p

/-- The ring after a swap (R75, R265): a ring or node that comes into use starts as at ring start, one that leaves use is off. -/
def Ring.afterSwap (x : Ring) (used : Bool) (n : Nat) : Ring :=
  if !used then { x with st := .off, nodes := [], tx0 := false, tx1 := false, loopX := 0xFFFF, loopY := 0xFFFF }
  else
    let x1 := (List.range 64).foldl (fun (x : Ring) j =>
      let v := x.node (j + 1)
      if n ≤ j then x.setNode (j + 1) {}
      else if v.lock = .absent then x.setNode (j + 1) { v with lock := .trial } else x) x
    { x1 with st := if x.st = .off then .run else x.st, tx0 := true, tx1 := true }

/-- A swap (R75, R78): the shadow image runs, SHADOW is EMPTY, the old image is gone, and the swap is logged. -/
def State.swapNow (s : State) : State :=
  match s.tt.shadow with
  | none => s
  | some b =>
    let a := s.image
    let same (r : Nat) : Bool := a.rings.testBit r == b.rings.testBit r && nthD 0 a.nodes r == nthD 0 b.nodes r
    let s1 : State := { s with
      tt := { s.tt with running := some b, shadow := none, shadowState := .empty, lastCode := 0, idle := [] }
      store := { s.store with runSlot := s.tt.loadSlot }
      rings := if s.host.phase = .run then
          (List.range 4).foldl (fun t r => if same r then t
            else Tab.put {} t r ((Tab.get {} t r).afterSwap (b.rings.testBit r) (nthD 0 b.nodes r))) s.rings
        else s.rings }
    s1.logNow s1.tt.passage s.tt.swapOrigin 2 0x11 codeOk s.tt.swapSeq s.tt.swapAt

/-! ### The passage (R54, R67, R71, R299) -/

/-- The start of the passage after the one in progress (R75, R297, R299). -/
def State.nextPassageAt (s : State) : U64 :=
  let phase := (s.cfgW 0x50010).bits 0 20
  match (if s.swapDue (s.tt.passage + 1) then s.tt.shadow else none) with
  | some b => swapStart s.tt.start s.periodNs (periodOf b.period) phase
  | none => nextStart s.tt.start s.periodNs phase

/-- The tier latched for the passage applied (R54, R87). The passage is counted at its start, while it runs (DESIGN CHOICE, log
108). -/
def State.applyTier (s : State) : State :=
  let t := s.tt.tierNext
  let changed := t != s.tt.tier
  let s1 : State := { s with
    tt := { s.tt with tier := t, tierPassages := setNth s.tt.tierPassages t (nthD 0 s.tt.tierPassages t + 1) }
    gov := { s.gov with changes := if changed then satAdd 0xFFFF s.gov.changes 1 else s.gov.changes } }
  let s2 := s1.count 0x0900 0 1
  if changed then s2.count 0x0901 0 1 else s2

/-- What each passage begins without (R67, R71, R72): markers, entries, stops, releases. -/
def Tt.fresh (t : Tt) : Tt :=
  { t with markers := [], reserved := [], openEntries := [], started := [], skipped := [], stopped := [], aged := [], released := [] }

/-- The bookkeeping of the ports at the end of a passage (R269, R270, R290): port 0 receives lane Y, port 1 lane X. A dead receiver
with block lock that has brought valid unfolded headers for two passages is dead no longer. -/
def Ring.passageEnd (x : Ring) : Ring :=
  let run (b : Bool) (n : Nat) : Nat := if b then n + 1 else 0
  { x with noHdr0 := run (!x.seen0) x.noHdr0, got0 := run x.seen0 x.got0, good0 := run x.hdr0 x.good0
           noHdr1 := run (!x.seen1) x.noHdr1, got1 := run x.seen1 x.got1, good1 := run x.hdr1 x.good1
           dead0 := x.dead0 && !(x.lock0 && decide (2 ≤ run x.hdr0 x.good0))
           dead1 := x.dead1 && !(x.lock1 && decide (2 ≤ run x.hdr1 x.good1))
           loopY := if x.own0 then x.loopY else 0xFFFF, loopX := if x.own1 then x.loopX else 0xFFFF
           seen0 := false, seen1 := false, hdr0 := false, hdr1 := false, own0 := false, own1 := false }

/-- The rings at the end of a passage. -/
def State.ringsEnd (s : State) : State :=
  (List.range 4).foldl (fun s r => if s.ringInUse r then s.setRing r (s.ring r).passageEnd else s) s

/-! ### The rope team (R446, R450-R463) -/

/-- What the passage `n` that ends leaves in the rope's books (R447, R450, R459, R463, R465). -/
def Rope.passageEnd (r : Rope) (n : Word) : Rope :=
  let seen := r.peerAt == some n
  { r with
    peerSeen := seen
    belaySeen := r.belayAt == some n
    secondRun := if r.role = 2 ∧ seen ∧ r.peer.role = 3 ∧ r.diverged = false then r.secondRun + 1 else 0
    diverged := false
    heardB := if r.role = 7 ∧ seen ∧ r.beatA.passage = none then r.heardB + 1 else r.heardB
    sent := []
    copyOut := []
    diagUnit := 0, diagWord := 0, diagMiss := 0, diagCorr := 0
    widened := r.widened - 1 }

/-- Phase RUN entered (R35, R265, R458, R537): every node of the image TRIAL, the boot counted. -/
def State.enterRun (s : State) (role : Nat) : State :=
  let rings := (List.range 4).foldl (fun (t : Tab Ring) r =>
    if s.ringInUse r ∧ (Tab.get {} t r).st ≠ .conflict then
      let x := (List.range (s.nNodes r)).foldl (fun (x : Ring) j => x.setNode (j + 1) { x.node (j + 1) with lock := .trial }) (Tab.get {} t r)
      Tab.put {} t r { x with st := .run }
    else t) s.rings
  let d := s.store.ident
  let s1 : State := { s with
    rings := if role = 7 then s.rings else rings
    store := { s.store with ident := { d with boots := d.boots + 1 } }
    host := { s.host with phase := .run }
    rope := { s.rope with attempt := false, joinNext := false, nextRole := none } }
  (s1.ringTx (role != 7)).takeRole role

/-- A part in LISTEN at a passage start (R458-R460): a BELAY takes part at once (log 48); one that has heard its peer repeats; an
attempt has succeeded or backs off; otherwise one passage less is left to listen. -/
def State.listenStart (s : State) : State :=
  let r := s.rope
  if r.role = 7 then s.enterRun 7
  else if r.role = 15 then s
  else if r.joinNext then s.enterRun (r.nextRole.getD 5)
  else if r.attempt then
    if r.returned && !r.conflict then
      let origin := bitNat (r.strap == 2)
      ({ s with rope := { r with origin := origin } }).enterRun (if r.strap = 0 then 1 else 2)
    else ({ s with rope := { r with attempt := false, listen := if r.strap = 2 then 3 else 1 } }).ringTx false
  else { s with rope := { r with listen := r.listen - 1 } }

/-- The role that a part in RUN takes at a passage start: the SECOND that is to originate (R451, R452, R454), a handover
(R463), a LEAD that has resigned (R453), or what a verdict, a guard or a missing frame has set (R446, R451). -/
def State.roleStart (s : State) : State :=
  let r := s.rope
  if r.role = 3 ∧ r.take = true then s.becomeLead
  else if r.handover = some s.tt.passage then s.exchange
  else if r.role = 2 ∧ r.resign = true then ({ s with rope := { r with resign := false } }).takeRole 6
  else match r.nextRole with
    | none => s
    | some k =>
      let s1 : State := { s with rope := { r with nextRole := none } }
      if k = 5 then s1.becomeStandby else s1.takeRole k

/-! ### A cluster or package fault of the passage before (R21, R453) -/

/-- The instances of a faulted cluster are FAULTED (R130). -/
def State.faultInstances (s : State) : State :=
  s.instances.foldl (fun s i => if s.faults.clusters.contains (s.clusterOf i) then s.enterAx i .faulted else s) s

/-- What a single part does on a package fault (R21): the faulted clusters are held in reset, and every enabled instance is asked
for a quick stop with CAUSE 4; the safety island sends the nodes of a faulted cluster RUN = 0 (R479). -/
def State.singleReact (s : State) : State :=
  let ks := s.faults.clusters
  let units := ks.foldl (fun (t : Tab Lux) k =>
    ((List.range 4).map (fun j => 4 * k + j) ++ [64 + k]).foldl (fun t u => Tab.put {} t u {}) t) s.units
  let s1 : State := { s with units := units, faults := { s.faults with held := ks.foldl (fun l k => addNew k l) s.faults.held } }
  s1.instances.foldl (fun s i =>
    if (s.axis i).st.enabled then s.raise i ⟨2, 4⟩ else s) s1

/-- The reaction to a package fault flagged in the passage before (R21, R130, R453): the instances of the faulted clusters are
FAULTED, a LEAD with a SECOND resigns, a single part stops; in the other roles nothing more happens. -/
def State.faultReact (s : State) : State :=
  if !s.faults.reactDue || decide (s.host.phase ≠ .run) then s
  else
    let s1 : State := ({ s with faults := { s.faults with reactDue := false } }).faultInstances
    if s.rope.role = 2 ∧ s.rope.peer.role = 3 ∧ s.rope.peerSeen = true then { s1 with rope := { s1.rope with resign := true } }
    else if s.rope.role = 1 ∨ s.rope.role = 2 then s1.singleReact
    else s1

/-! ### Samples (R185, R220) -/

/-- The latch of a local encoder (R220, R221): 10 to 15 ns after passage start; where in that window is free. -/
def State.latchEnc (s : State) (c : Nat) (stamp : U64) : State :=
  s.setEnc c ((s.enc c).latch stamp s.tt.passage (s.encStill c) ((s.qerrCfg c).bits 16 16))

/-- The local samples of the passage (R163, R185, R220): a SECOND or joiner samples its switches at the horizon (R443). -/
def State.localSamples (s : State) : State :=
  let t := s.tick
  let stamp := s.tt.start + BitVec.ofNat 64 (10 + (Config.free t.1).toNat % 6)
  let s1 := (List.range 16).foldl (fun s c => (s.latchEnc c stamp).sampleCount c) t.2
  if s.rope.role = 3 ∨ s.rope.role = 4 then s1 else s1.generators.foldl (fun s g => s.sampleSwitches g) s1

/-! ### Commands (R16, R132, R445, R556) -/

/-- A waiting DBG_REQ taken (R556). -/
def State.takeDebug (s : State) : State :=
  if !s.store.dbgReq then s
  else ({ s with store := { s.store with dbgReq := false } }).accept 0 originDebug false false true (0xE6#8 :: List.replicate 31 0)

/-- The commands at a passage start (R132, R445, R516, R517, R551): those taken now, the intent entries of those taken before,
and the effects of those that are due, after the writes of their batch. -/
def State.commandsStart (s : State) : State :=
  s.takeStops.takeQueue.takeDebug.intentsDue.batchesDue.effectsDue

/-! ### What a head and a LEAD send (R255, R439, R445) -/

/-- Passage headers on every ring that the part heads. -/
def State.sendHeaders (s : State) : State :=
  (List.range 4).foldl (fun s r => if s.heads r then s.sendHeader r false else s) s

/-- The local sample that a LOCAL frame carries (R439): each encoder channel's TOTAL, speed and state, and the EVIO levels. -/
def State.localSample (s : State) : List LocalChan × U64 :=
  ((List.range 16).map (fun c =>
    let x := s.enc c
    { channel := c, total := x.sTotal, speed := x.speed, spState := x.spState, age := 0, lastErr := 0 }),
   (List.range 64).foldl (fun w p => if (s.evio p).level then w ||| (1#64 <<< p) else w) 0)

/-- The LEAD's frames of the passage (R439, R443, R445, R461): its BATCH with the writes received and the commands accepted, its
LOCAL, and the COPY frames of a rejoin. -/
def State.sendLead (s : State) : State :=
  if s.rope.role ≠ 2 then s
  else
    let s1 : State := { s with rope := { s.rope with batchOut := some (s.tt.passage + 2, s.rope.forward), forward := []
                                                     localOut := some (s.tt.passage, s.localSample) } }
    (((s1.queueFrame 0 [0x51]).queueFrame 1 [0x51]).queueFrame 0 [0x53]).sendCopies

/-! ### Upsets (R109) -/

/-- What happens to the SRAMs from outside (R109; log 102): no row of the table names an upset, so in each passage up to four byte
symbols of one word may go wrong; which word, and how many, is free. A word that gathers five or more does not decode. -/
def State.upset (s : State) : State :=
  let a := s.tick
  let b := a.2.tick
  let t := b.2
  let w := wordOf ((Config.free a.1).toNat % 0x04000000)
  let n := t.wrongAt w + (Config.free b.1).toNat % 5
  if (memoryPort w).isNone || n == 0 || t.bad.contains w then t
  else if n ≤ 4 then { t with wrong := Tab.put 0 t.wrong w n }
  else { t with bad := addNew w t.bad, wrong := Tab.erase t.wrong w }

/-- An uncorrectable word in the frame buffers of a rope link (R24): a fault of the link, contained; the frames that wait there are
missing. Whether there is one, and of which link, is free (log 102). -/
def State.ropeUpset (s : State) : State :=
  let a := s.tick
  let link := (Config.free a.1).toNat % 3
  if s.rope.strap = 0 ∨ link = 2 then a.2
  else
    let t := a.2.unitFault 1 (0x4000 + link)
    { t with rope := { t.rope with sent := t.rope.sent.filter (fun p => p.1 != link) } }

/-! ### The passage start -/

/-- The time island brings the next passage start (R299): the faults of the passage that ends are recorded (R23), the passage is
counted, and its acquisition runs (R326). -/
def State.advancePassage (s : State) : State :=
  let at' := s.nextPassageAt
  let n := s.tt.passage
  let s1 := s.recordFaults.toStamp at'
  let s2 : State := { s1 with tt := { s1.tt with passage := n + 1, start := at' } }
  (s2.btCompare.acquire n s.tt.start s.periodNs s.tt.tier).ringsEnd

/-- The image, the tier and the team's role of the passage that begins (R54, R75, R132, R454, R458). -/
def State.roles (s : State) (n : Word) : State :=
  let s1 := if s.swapDue s.tt.passage then s.swapNow else s
  let s2 := s1.applyTier
  let s3 : State := { s2 with
    tt := s2.tt.fresh
    gens := Tab.onAll {} Gen.roll s2.gens
    gov := { s2.gov with hold := s2.gov.hold - 1 }
    sched := { s2.sched.tick with window := s2.sched.window + 1 }
    rope := s2.rope.passageEnd n }
  match s3.host.phase with
  | .listen => s3.listenStart
  | .run => s3.roleStart
  | _ => s3

/-- The reactions, the selectors and the commands of the passage that begins, in the order of R132. -/
def State.actions (s : State) : State :=
  let s1 := s.faultReact.safetyReactions
  let s2 := s1.instances.foldl (fun s i => (s.applyReactions i).advanceSelector i) s1
  s2.btStart.commandsStart.switchOutputs

/-- PASSAGE_START (R299): from phase ARM on, once the passage clock runs. -/
def State.passageStart (s : State) : State :=
  if !s.tt.clockOn then s
  else
    let s1 := (s.advancePassage.roles s.tt.passage).actions
    s1.localSamples.sendHeaders.sendLead.countFree.upset.ropeUpset

/-- PASSAGE_START. -/
def execPassageStart (s : State) : Host.Outcome State Fault Refusal := .next s.passageStart

end Sys2Proof.Machine
end

