-- ==== Sys2Proof/Machine/TimetableRows.lean ====
section
/-! DEFINITION. The timetable's rows (02_timetable): releases (R47-R49), RUN, MOVE, GATE and RESERVE entries (R63-R67, R71, R72),
overruns (R71), the scrubber (R110, R111), die links (R34), the ends of a load and a swap (R73, R75), and the axis events of
R141, R142 and R201. -/

namespace Sys2Proof.Machine

/-! ### Releases (R47-R49, R65, R439) -/

/-- The offset of a release after passage start (R47, R65): a part in LISTEN, STANDBY or OUT sends its heartbeat at 10 µs (R439). -/
def State.releaseOffset (s : State) (target : Nat) : Option Nat :=
  if target = 0x0B ∧ (s.host.phase = .listen ∨ s.rope.role = 5 ∨ s.rope.role = 6) then some 10000
  else (s.relOf target).map (·.offset)

/-- The idle half of a source handed over (R49): the words whose marker is set are released from the new half. -/
def State.takeHalf (s : State) (rel : Release) : State :=
  (List.range rel.words).foldl (fun s j =>
    let a := rel.source + 32 * j
    if s.handedOver rel a then s.store' a (s.tt.idle.bytes a 32) else s) s

/-- Whether the tier of the passage holds STREAM entries (R49, R52). -/
def State.tierStreams (s : State) : Bool := (s.image.tierEntries s.tt.tier).any (fun e => e.flags.testBit 3)

/-- The release of the plant-port stream frame (R49, R337): a tier without STREAM entries sends nothing and counts nothing. Until RUN
and in HALT the plant port's transmitter is in electrical idle (R36, R567). -/
def State.releaseStream (s : State) (rel : Release) : State :=
  if !s.tierStreams then s
  else
    let stale := (List.range rel.words).any (fun j => !s.handedOver rel (rel.source + 32 * j))
    let s1 := s.takeHalf rel
    let s2 := if s.host.phase = .run then s1.sendDatagram else s1
    if stale then s2.countStale 0x0C else s2

/-- What a target's release does (R65). -/
def State.releaseTarget (s : State) (target : Nat) : State :=
  if target = 0x0A then s.releaseMirror
  else if target = 0x0B then
    (if s.rope.role = 15 ∨ ¬(s.host.phase = .listen ∨ s.host.phase = .run) then s else s.releaseBeat)
  else match s.relOf target with
    | none => s
    | some rel =>
      if target < 4 then s.releaseRing target rel
      else if target = 0x08 then (s.takeHalf rel).releaseRates rel
      else if target = 0x0C then s.releaseStream rel
      else s

/-- RELEASE (R47): at passage start plus the offset, once in a passage. -/
def State.releaseAt (s : State) (target : Nat) : State :=
  if !s.tt.clockOn || s.tt.released.contains target then s
  else match s.releaseOffset target with
    | none => s
    | some o =>
      let s1 := s.toStamp (s.tt.start + BitVec.ofNat 64 o)
      let s2 : State := { s1 with tt := { s1.tt with released := addNew target s1.tt.released } }
      s2.releaseTarget target

/-! ### RUN (R63, R69, R373) -/

/-- An entry started (R43): open until it completes. -/
def State.openEntry (s : State) (k i : Nat) : State :=
  { s with tt := { s.tt with openEntries := s.tt.openEntries ++ [(k, i)], started := s.tt.started ++ [(k, i)] } }

/-- An entry complete. -/
def State.closeEntry (s : State) (k i : Nat) : State :=
  { s with tt := { s.tt with openEntries := s.tt.openEntries.filter (· != (k, i)) } }

/-- The Luestox unit of a cluster's UNIT (R63). -/
def luxUnit (k unit : Nat) : Nat := if unit < 4 then 4 * k + unit else 64 + k

/-- One passage of a servo instance, its generator before its laws (R112, R166); what INVPARK scales in the form without a
scale is free (R127). -/
def State.runServo (s : State) (i : Nat) : State :=
  let a := (s.genPassage i).tick
  let b := a.2.tick
  b.2.servoPassage i (BitVec.ofNat 24 (Config.free a.1).toNat, BitVec.ofNat 24 (Config.free b.1).toNat)

/-- What a completed RUN has computed for its instance and its local channels (R112, R142, R162; log 25): an EXTRA entry the
plausibility model, any other the instance's passage. -/
def State.runResults (s : State) (e : Entry) : State :=
  let i := e.op2.toNat
  let s1 :=
    if 512 ≤ i then s
    else if e.flags.testBit 4 then s.plausibility i
    else match s.kindOf i with
      | 1 => s.runServo i
      | 2 => s.stepperPassage i
      | _ => s
  match s1.image.wiring.locals.find? (fun p => p.1 == e.op0.toNat) with
  | some (_, cs) => cs.foldl (fun s c => s.genPassage (512 + c)) s1
  | none => s1

/-- RUN (R63, R373): the block at OP0 runs on its unit within the budget; a block that needs more stays open until its OVERRUN. -/
def State.runEntry (s : State) (k i : Nat) : State :=
  match s.entryAt k i with
  | none => s
  | some e =>
    let unit := e.op1.toNat
    let u := luxUnit k unit
    if e.kind ≠ 1 ∨ 16 ≤ k ∨ 4 < unit ∨ s.entryRuns k i e = false ∨ (s.openRun k unit).isSome = true then s
    else
      let s1 := s.openEntry k i
      let s2 := if unit < 4 then s1.count 0x0100 u e.budget else s1
      let s3 := (s2.startBlock u e.op0.toNat).runBlock u e.budget (2 * e.budget + 2)
      if s3.tt.openEntries.contains (k, i) || s3.unitStopped u then s3 else s3.runResults e

/-! ### MOVE (R49, R63, R67, R110, R586) -/

/-- The addresses of a MOVE, word by word: source and destination (R63). -/
def Entry.moveWords (e : Entry) : List (Nat × Nat) :=
  (List.range (e.op2.bits 16 5)).flatMap (fun b => (List.range (e.op2.bits 0 13)).map (fun w =>
    (e.op0.toNat + 32 * (e.op3.bits 0 16 * b + w), e.op1.toNat + 32 * (e.op4.bits 0 16 * b + w))))

/-- One byte of the upstream area of a ring as it is read (R586): an entry with a word that does not decode reads as zeros with
AGE 15. -/
def State.upByte (s : State) (a : Nat) : Byte :=
  let base := ringBase (ringOfAddr a)
  let e := (a - base) / 48
  if (wordsOf (base + 48 * e) 48).any (fun w => s.bad.contains w) then (if (a - base) % 48 = 36 then 0x0F else 0) else s.mem.byte a

/-- The 32 bytes that a MOVE reads; none where they do not decode (R110). A ring buffer's word always gives some (R586). -/
def State.moveRead (s : State) (a : Nat) : Option (List Byte) :=
  if inRings a then
    if a % 0x80000 < 0x1800 ∧ s.bad.isEmpty = false then some ((List.range 32).map (fun j => s.upByte (a + j)))
    else some (if s.undecodable a then bytesLE 32 0 else s.mem.bytes a 32)
  else if s.undecodable a then none
  else some (s.mem.bytes a 32)

/-- Whether an address lies in the source of the step-rate or stream release. -/
def State.inSource (s : State) (a : Nat) : Bool :=
  s.image.rel.any (fun r => (r.target == 0x08 || r.target == 0x0C) && decide (r.source ≤ a) && decide (a < r.source + 32 * r.words))

/-- A word that a MOVE writes (R49): of a release source, into its idle half. -/
def State.moveWrite (s : State) (a : Nat) (bs : List Byte) : State :=
  if inRings a ∧ 0x2000 ≤ a % 0x80000 ∧ a % 0x80000 < 0x3000 then
    let r := ringOfAddr a
    let e := (a % 0x80000 - 0x2000) / 32
    s.store' (halfAddr r e (!(s.ring r).halfOne.contains e)) bs
  else if s.inSource a then { s with tt := { s.tt with idle := s.tt.idle.setBytes a bs } }
  else s.store' a bs

/-- The fault that a MOVE or the scrubber raises on a word that does not decode (R110): memory's engine, sequencer or region. -/
def State.wordFault (s : State) (a : Nat) : State :=
  if a < 0x01000000 then s.unitFault 1 (a / 0x40000)
  else if a < 0x02000000 then s.unitFault 1 (0x5000 + (a - 0x01000000) / 0x100000)
  else if a < 0x03000000 then s.faultClusters 1 ((List.range 4).map (fun j => 4 * ((a - 0x02000000) / 0x200000) + j))
  else s.idieFault a

/-- The links that one word of a MOVE crosses, as units of R531 (link × 2 + direction), in order: from its memory to the issuer
`k`, and on to its target. -/
def moveLinks (k a b : Nat) : List Nat :=
  ((passes k (memIsland a) false).reverse ++ passes k (memIsland b) true).filterMap (fun p =>
    if 0x18 ≤ p.1 ∧ p.1 ≤ 0x1A then some (2 * (p.1 - 0x18) + p.2) else none)

/-- The words of a MOVE of island `k` copied in order, corrections counted (R34, R109); the flag says where one does not decode, and
then no further word is copied (log 26). -/
def State.copyWords (s : State) (k : Nat) : List (Nat × Nat) → State × Option Nat
  | [] => (s, none)
  | (a, b) :: rest =>
    match s.moveRead a with
    | none => (s, some a)
    | some bs => State.copyWords (((s.seeRingWords [wordOf a]).correctMove (moveLinks k a b) (wordOf a)).moveWrite b bs) k rest

/-- The channel of a MOVE or RESERVE (R63). -/
def Entry.channel (e : Entry) : Nat := if e.kind = 2 then e.op2.bits 30 2 else e.op1.bits 0 2

/-- MOVE (R63, R110): its channel is held and its words are copied; a word that does not decode aborts it as an overrun does. -/
def State.moveEntry (s : State) (k i : Nat) : State :=
  match s.entryAt k i with
  | none => s
  | some e =>
    if e.kind ≠ 2 ∨ s.entryRuns k i e = false then s
    else
      let s1 := s.openEntry k i
      let s2 : State := { s1 with tt := { s1.tt with reserved := s1.tt.reserved ++ [(k, e.channel)] } }
      let r := s2.copyWords k e.moveWords
      match r.2 with
      | none => r.1
      | some a =>
        let b := r.1.abortBooks k i
        ({ b with tt := { b.tt with reserved := b.tt.reserved.filter (· != (k, e.channel)) } }).wordFault a

/-- MOVE_COMPLETE (R67): the MOVE is complete, its channel free, and its marker set. -/
def State.moveComplete (s : State) (k i : Nat) : State :=
  match s.entryAt k i with
  | none => s
  | some e =>
    if e.kind ≠ 2 ∨ s.tt.openEntries.contains (k, i) = false then s
    else
      let s1 := s.closeEntry k i
      { s1 with tt := { s1.tt with
          reserved := s1.tt.reserved.filter (· != (k, e.channel))
          markers := match e.marker with
            | some m => addNew m s1.tt.markers
            | none => s1.tt.markers } }

/-! ### GATE, RESERVE, OVERRUN (R50, R71, R72) -/

/-- A GATE miss (R72): counted, the next entry skipped, its outputs aged, and the unit that the GATE names faulted. -/
def State.gateMiss (s : State) (k i : Nat) (e : Entry) : State :=
  let t := s.tt
  let unit := e.op1.bits 0 3
  let s1 : State := { s with tt := { t with
    skipped := t.skipped ++ [(k, i + 1)]
    gateCount := satAdd 0xFFFF t.gateCount 1
    gateFlag := true
    gateWhere := if t.gateFlag then t.gateWhere else whereWord k (if unit = 7 then 0xF else unit) t.tier i } }
  let s2 := match s1.entryAt k (i + 1) with
    | some n => s1.ageOutputs n
    | none => s1
  s2.unitFault 4 (islandUnit k unit)

/-- GATE (R72): a set marker lets the next entry run. -/
def State.gateEntry (s : State) (k i : Nat) : State :=
  match s.entryAt k i with
  | none => s
  | some e =>
    if e.kind ≠ 3 ∨ s.entryRuns k i e = false then s
    else
      let s1 : State := { s with tt := { s.tt with started := s.tt.started ++ [(k, i)] } }
      if s1.tt.markers.contains (e.op0.bits 0 8) then s1 else s1.gateMiss k i e

/-- RESERVE (R50): the channel carries timetable traffic only. -/
def State.reserveEntry (s : State) (k i : Nat) : State :=
  match s.entryAt k i with
  | none => s
  | some e =>
    if e.kind ≠ 4 ∨ s.entryRuns k i e = false then s
    else { s with tt := { s.tt with started := s.tt.started ++ [(k, i)], reserved := s.tt.reserved ++ [(k, e.channel)] } }

/-- OVERRUN (R71): an entry that is still open when its budget expires is aborted; a block stops where it is. -/
def State.overrunEntry (s : State) (k i : Nat) : State :=
  match s.entryAt k i with
  | none => s
  | some e =>
    if !s.tt.openEntries.contains (k, i) then s
    else
      let s1 := s.abortEntry k i 2
      if e.kind = 1 then
        let u := luxUnit k e.op1.toNat
        s1.setLux u { s1.lux u with running := false, loops := [], mac := false }
      else { s1 with tt := { s1.tt with reserved := s1.tt.reserved.filter (· != (k, e.channel)) } }

/-! ### Die links and the scrubber (R34, R110, R111) -/

/-- DIE_LINK_FAILURE (R34): a package fault; the failure itself is recorded at the level of the die (R20, R23; log 99). -/
def State.dieLinkFailed (s : State) (link : Nat) : State :=
  if 3 ≤ link then s
  else
    let s1 := s.flag 3 5 (0xA000 + link)
    ({ s1 with faults := { s1.faults with units := addNew (0xA000 + link) s1.faults.units } }).packageFault 5

/-- What the scrubber makes of a word that does not decode (R110, R403, R586): in a page that only the soft plane uses no unit is
faulted, and the find is recorded. -/
def State.scrubBad (s : State) (w : Nat) : State :=
  let s1 : State := { s with bad := addNew w s.bad, wrong := Tab.erase s.wrong w }
  if inRings w then s1.seeRingWords [w]
  else if inRegion w ∧ s1.pageUsed (w / 4096) = false then s1.flag 0 1 (0xF000 + (w - 0x02000000) / 0x200000)
  else s1.wordFault w

/-- Whether an entry that runs holds the port of a memory (R51, R111). -/
def State.portHeld (s : State) (a : Nat) : Bool :=
  s.tt.openEntries.any (fun p => match s.entryAt p.1 p.2 with
    | some e => (e.ports p.1).contains (memPort a)
    | none => false)

/-- A word that the scrubber has repaired (R111): it holds `bs`, no symbol of it is wrong, and the write-back is counted. -/
def State.scrubbed (s : State) (w port : Nat) (bs : List Byte) : State :=
  let s1 := s.store' w bs
  ({ s1 with rope := { s1.rope with diagCorr := satAdd 255 s1.rope.diagCorr 1 } }).count 0x0702 port 1

/-- SCRUB_VISIT (R109-R111): in a free interval of the memory's port the word is read; `symbols` of its byte symbols are wrong, or
as many as the model has kept. Up to four are corrected and written back. Five or more are usually found; where they are not
(which is free), the decoder takes the word for another one, whose bytes are free, and writes that back. -/
def State.scrubVisit (s : State) (addr symbols : Nat) : State :=
  match memoryPort addr, s.host.phase with
  | none, _ => s
  | some _, .por | some _, .wake | some _, .clear => s
  | some port, _ =>
    let w := wordOf addr
    let n := max symbols (s.wrongAt addr)
    if s.portHeld addr then s
    else if s.undecodable addr then s.scrubBad w
    else if n = 0 then s
    else if n ≤ 4 then s.scrubbed w port (s.mem.bytes w 32)
    else
      let t := s.tick
      if (Config.free t.1).toNat % 2 = 0 then t.2.scrubBad w
      else
        let f := t.2.freeCtr
        ({ t.2 with freeCtr := f + 4 }).scrubbed w port
          ((List.range 4).flatMap (fun j => bytesLE 8 (Config.free (f + j)).toNat))

/-! ### Ends of loads and swaps (R73, R75, R78, R141) -/

/-- SET_LOAD_COMPLETE (R141): at passage N + 66 the loaded set is in use. -/
def State.setLoadDone (s : State) (i : Nat) : State :=
  match (s.axis i).load, s.servoWire i with
  | some l, some w => if later l.at_ s.tt.passage then s else s.finishLoad i w l
  | _, _ => s

/-- TT_LOAD_COMPLETE (R68, R73, R78): the slot image is READY, or refused with its code; the outcome is logged. -/
def State.loadDone (s : State) : State :=
  if s.tt.shadowState ≠ .loading then s
  else
    let t := s.tt
    let slot := t.loadSlot
    let r := s.authenticate slot
    let t1 := match r with
      | some f => { t with shadowState := .empty, shadow := none, lastCode := BitVec.ofNat 8 f.code, loadDetail := f.detail }
      | none => { t with shadowState := .ready, shadow := some (s.store.slotImage slot), lastCode := 0, loadDetail := 0 }
    let code := match r with
      | some f => f.code
      | none => codeOk
    ({ s with tt := t1 }.slotCode slot code).logNow t.passage t.loadOrigin 2 0x10 code t.loadSeq (BitVec.ofNat 32 slot)

/-- SWAP (R75): a passage start performs it; the row does it where it still stands. -/
def State.swapRow (s : State) : State := if s.swapDue s.tt.passage then s.swapNow else s

/-! ### The rows -/

def execRelease (target : Nat) (s : State) : Host.Outcome State Fault Refusal := .next (s.releaseAt target)
def execRun (island index : Nat) (s : State) : Host.Outcome State Fault Refusal := .next (s.runEntry island index)
def execMove (island index : Nat) (s : State) : Host.Outcome State Fault Refusal := .next (s.moveEntry island index)
def execMoveComplete (island index : Nat) (s : State) : Host.Outcome State Fault Refusal :=
  .next (s.moveComplete island index)
def execGate (island index : Nat) (s : State) : Host.Outcome State Fault Refusal := .next (s.gateEntry island index)
def execReserve (island index : Nat) (s : State) : Host.Outcome State Fault Refusal := .next (s.reserveEntry island index)
def execOverrun (island index : Nat) (s : State) : Host.Outcome State Fault Refusal := .next (s.overrunEntry island index)
def execDieLinkFailure (link : Nat) (s : State) : Host.Outcome State Fault Refusal := .next (s.dieLinkFailed link)
def execScrubVisit (addr symbols : Nat) (s : State) : Host.Outcome State Fault Refusal := .next (s.scrubVisit addr symbols)
def execSupervisionTrip (i : Nat) (s : State) : Host.Outcome State Fault Refusal := .next (s.supervisionTrip i)
def execStall (g : Nat) (s : State) : Host.Outcome State Fault Refusal := .next (s.stallNow g)
def execSetLoadComplete (i : Nat) (s : State) : Host.Outcome State Fault Refusal := .next (s.setLoadDone i)
def execTtLoadComplete (s : State) : Host.Outcome State Fault Refusal := .next s.loadDone
def execSwap (s : State) : Host.Outcome State Fault Refusal := .next s.swapRow

end Sys2Proof.Machine
end

