-- ==== Sys2Proof/Machine/Dispatch.lean ====
section
/-! DEFINITION. The command table: one arm per command, each a direct call of its meaning. -/

namespace Sys2Proof.Machine

def exec (i : Instr) (s : State) : Host.Outcome State Fault Refusal :=
  match i with
  | .porn lowNs straps => Sys2Proof.Machine.execPorn lowNs straps s
  | .railUndervoltage ns => Sys2Proof.Machine.execRailUndervoltage ns s
  | .armComplete selfTest => Sys2Proof.Machine.execArmComplete selfTest s
  | .perstn low => Sys2Proof.Machine.execPerstn low s
  | .pcieLinkDown cause => Sys2Proof.Machine.execPcieLinkDown cause s
  | .release target => Sys2Proof.Machine.execRelease target s
  | .run island index => Sys2Proof.Machine.execRun island index s
  | .move island index => Sys2Proof.Machine.execMove island index s
  | .moveComplete island index => Sys2Proof.Machine.execMoveComplete island index s
  | .gate island index => Sys2Proof.Machine.execGate island index s
  | .reserve island index => Sys2Proof.Machine.execReserve island index s
  | .overrun island index => Sys2Proof.Machine.execOverrun island index s
  | .dieLinkFailure link => Sys2Proof.Machine.execDieLinkFailure link s
  | .scrubVisit addr symbols => Sys2Proof.Machine.execScrubVisit addr symbols s
  | .supervisionTrip ax => Sys2Proof.Machine.execSupervisionTrip ax s
  | .stall g => Sys2Proof.Machine.execStall g s
  | .setLoadComplete ax => Sys2Proof.Machine.execSetLoadComplete ax s
  | .pcieLinkUp speed width bme => Sys2Proof.Machine.execPcieLinkUp speed width bme s
  | .nop u f => Sys2Proof.Machine.execNop u f s
  | .end_ u f => Sys2Proof.Machine.execEnd u f s
  | .loop u f => Sys2Proof.Machine.execLoop u f s
  | .rdf u f => Sys2Proof.Machine.execRdf u f s
  | .clrf u f => Sys2Proof.Machine.execClrf u f s
  | .add u f => Sys2Proof.Machine.execAdd u f s
  | .sub u f => Sys2Proof.Machine.execSub u f s
  | .adds u f => Sys2Proof.Machine.execAdds u f s
  | .subs u f => Sys2Proof.Machine.execSubs u f s
  | .and u f => Sys2Proof.Machine.execAnd u f s
  | .or u f => Sys2Proof.Machine.execOr u f s
  | .xor u f => Sys2Proof.Machine.execXor u f s
  | .shl u f => Sys2Proof.Machine.execShl u f s
  | .shr u f => Sys2Proof.Machine.execShr u f s
  | .sar u f => Sys2Proof.Machine.execSar u f s
  | .mul u f => Sys2Proof.Machine.execMul u f s
  | .mulh u f => Sys2Proof.Machine.execMulh u f s
  | .min u f => Sys2Proof.Machine.execMin u f s
  | .max u f => Sys2Proof.Machine.execMax u f s
  | .slt u f => Sys2Proof.Machine.execSlt u f s
  | .sltu u f => Sys2Proof.Machine.execSltu u f s
  | .addi u f => Sys2Proof.Machine.execAddi u f s
  | .movi u f => Sys2Proof.Machine.execMovi u f s
  | .shli u f => Sys2Proof.Machine.execShli u f s
  | .shri u f => Sys2Proof.Machine.execShri u f s
  | .sari u f => Sys2Proof.Machine.execSari u f s
  | .andi u f => Sys2Proof.Machine.execAndi u f s
  | .selz u f => Sys2Proof.Machine.execSelz u f s
  | .abs u f => Sys2Proof.Machine.execAbs u f s
  | .div u f => Sys2Proof.Machine.execDiv u f s
  | .divu u f => Sys2Proof.Machine.execDivu u f s
  | .xmov u f => Sys2Proof.Machine.execXmov u f s
  | .xaddi u f => Sys2Proof.Machine.execXaddi u f s
  | .sfromx u f => Sys2Proof.Machine.execSfromx u f s
  | .pmov u f => Sys2Proof.Machine.execPmov u f s
  | .paddi u f => Sys2Proof.Machine.execPaddi u f s
  | .sfromp u f => Sys2Proof.Machine.execSfromp u f s
  | .ldv u f => Sys2Proof.Machine.execLdv u f s
  | .stv u f => Sys2Proof.Machine.execStv u f s
  | .lds u f => Sys2Proof.Machine.execLds u f s
  | .sts u f => Sys2Proof.Machine.execSts u f s
  | .selld u f => Sys2Proof.Machine.execSelld u f s
  | .macb u f => Sys2Proof.Machine.execMacb u f s
  | .mace u f => Sys2Proof.Machine.execMace u f s
  | .macr u f => Sys2Proof.Machine.execMacr u f s
  | .macrb u f => Sys2Proof.Machine.execMacrb u f s
  | .adda u f => Sys2Proof.Machine.execAdda u f s
  | .mova u f => Sys2Proof.Machine.execMova u f s
  | .fixv u f => Sys2Proof.Machine.execFixv u f s
  | .normv u f => Sys2Proof.Machine.execNormv u f s
  | .vmov u f => Sys2Proof.Machine.execVmov u f s
  | .vclamp u f => Sys2Proof.Machine.execVclamp u f s
  | .vcmp u f => Sys2Proof.Machine.execVcmp u f s
  | .vsel u f => Sys2Proof.Machine.execVsel u f s
  | .vins u f => Sys2Proof.Machine.execVins u f s
  | .vext u f => Sys2Proof.Machine.execVext u f s
  | .vexp u f => Sys2Proof.Machine.execVexp u f s
  | .vsete u f => Sys2Proof.Machine.execVsete u f s
  | .vzero u f => Sys2Proof.Machine.execVzero u f s
  | .sincos u f => Sys2Proof.Machine.execSincos u f s
  | .vsqrt u f => Sys2Proof.Machine.execVsqrt u f s
  | .vresc u f => Sys2Proof.Machine.execVresc u f s
  | .vneg u f => Sys2Proof.Machine.execVneg u f s
  | .biq u f => Sys2Proof.Machine.execBiq u f s
  | .fir u f => Sys2Proof.Machine.execFir u f s
  | .fft u f => Sys2Proof.Machine.execFft u f s
  | .beq u f => Sys2Proof.Machine.execBeq u f s
  | .bne u f => Sys2Proof.Machine.execBne u f s
  | .blt u f => Sys2Proof.Machine.execBlt u f s
  | .bge u f => Sys2Proof.Machine.execBge u f s
  | .bltu u f => Sys2Proof.Machine.execBltu u f s
  | .bgeu u f => Sys2Proof.Machine.execBgeu u f s
  | .jal u f => Sys2Proof.Machine.execJal u f s
  | .jr u f => Sys2Proof.Machine.execJr u f s
  | .ldw u f => Sys2Proof.Machine.execLdw u f s
  | .stw u f => Sys2Proof.Machine.execStw u f s
  | .ldbu u f => Sys2Proof.Machine.execLdbu u f s
  | .stb u f => Sys2Proof.Machine.execStb u f s
  | .ldd u f => Sys2Proof.Machine.execLdd u f s
  | .std u f => Sys2Proof.Machine.execStd u f s
  | .amoadd u f => Sys2Proof.Machine.execAmoadd u f s
  | .rgr u f => Sys2Proof.Machine.execRgr u f s
  | .rgw u f => Sys2Proof.Machine.execRgw u f s
  | .tend u f => Sys2Proof.Machine.execTend u f s
  | .tpost u f => Sys2Proof.Machine.execTpost u f s
  | .tdly u f => Sys2Proof.Machine.execTdly u f s
  | .flt u f => Sys2Proof.Machine.execFlt u f s
  | .illegalInstruction u word => Sys2Proof.Machine.execIllegalInstruction u word s
  | .nopCommand c => Sys2Proof.Machine.execNopCommand c s
  | .ttLoad c slot => Sys2Proof.Machine.execTtLoad c slot s
  | .ttSwap c p => Sys2Proof.Machine.execTtSwap c p s
  | .ttCancel c => Sys2Proof.Machine.execTtCancel c s
  | .axEnable c ax mode => Sys2Proof.Machine.execAxEnable c ax mode s
  | .axDisable c ax => Sys2Proof.Machine.execAxDisable c ax s
  | .axMode c ax mode noPreset => Sys2Proof.Machine.execAxMode c ax mode noPreset s
  | .axCommit c ax => Sys2Proof.Machine.execAxCommit c ax s
  | .axRetune c ax k => Sys2Proof.Machine.execAxRetune c ax k s
  | .axSetLoad c ax k f => Sys2Proof.Machine.execAxSetLoad c ax k f s
  | .axClear c ax => Sys2Proof.Machine.execAxClear c ax s
  | .mvQueue c g target vmax relative blend => Sys2Proof.Machine.execMvQueue c g target vmax relative blend s
  | .mvChange c g target vmax chTarget chVmax => Sys2Proof.Machine.execMvChange c g target vmax chTarget chVmax s
  | .mvFlush c g => Sys2Proof.Machine.execMvFlush c g s
  | .mvQstop c g => Sys2Proof.Machine.execMvQstop c g s
  | .mvHstop c g => Sys2Proof.Machine.execMvHstop c g s
  | .mvHome c g method dir vsearch homePos range fly => Sys2Proof.Machine.execMvHome c g method dir vsearch homePos range fly s
  | .pfCommit c g => Sys2Proof.Machine.execPfCommit c g s
  | .chEnable c ch enable => Sys2Proof.Machine.execChEnable c ch enable s
  | .fbCommit c ch => Sys2Proof.Machine.execFbCommit c ch s
  | .fbClear c ch => Sys2Proof.Machine.execFbClear c ch s
  | .rgCommit c r => Sys2Proof.Machine.execRgCommit c r s
  | .rgReopen c r n => Sys2Proof.Machine.execRgReopen c r n s
  | .rgResync c r n => Sys2Proof.Machine.execRgResync c r n s
  | .rgAsend c r n proto len addr => Sys2Proof.Machine.execRgAsend c r n proto len addr s
  | .timeStep c delta => Sys2Proof.Machine.execTimeStep c delta s
  | .timeRate c rate => Sys2Proof.Machine.execTimeRate c rate s
  | .ptpCommit c => Sys2Proof.Machine.execPtpCommit c s
  | .acqCommit c => Sys2Proof.Machine.execAcqCommit c s
  | .acqArm c ch => Sys2Proof.Machine.execAcqArm c ch s
  | .acqDisarm c ch => Sys2Proof.Machine.execAcqDisarm c ch s
  | .acqForce c ch => Sys2Proof.Machine.execAcqForce c ch s
  | .acqRead c ch first count addr => Sys2Proof.Machine.execAcqRead c ch first count addr s
  | .acqMaskLoad c ch => Sys2Proof.Machine.execAcqMaskLoad c ch s
  | .maskLoadComplete ch => Sys2Proof.Machine.execMaskLoadComplete ch s
  | .spDesc c d addr => Sys2Proof.Machine.execSpDesc c d addr s
  | .spPost c d slot value => Sys2Proof.Machine.execSpPost c d slot value s
  | .spDrop c d => Sys2Proof.Machine.execSpDrop c d s
  | .govCommit c => Sys2Proof.Machine.execGovCommit c s
  | .ropeHandover c p => Sys2Proof.Machine.execRopeHandover c p s
  | .ropeRejoin c => Sys2Proof.Machine.execRopeRejoin c s
  | .ropeDismiss c => Sys2Proof.Machine.execRopeDismiss c s
  | .sfLoad c addr => Sys2Proof.Machine.execSfLoad c addr s
  | .sfConfirm c value => Sys2Proof.Machine.execSfConfirm c value s
  | .sfDemand c f => Sys2Proof.Machine.execSfDemand c f s
  | .sfReset c f => Sys2Proof.Machine.execSfReset c f s
  | .sfBrakeTest c b => Sys2Proof.Machine.execSfBrakeTest c b s
  | .stSave c => Sys2Proof.Machine.execStSave c s
  | .bankWriteComplete safe ok => Sys2Proof.Machine.execBankWriteComplete safe ok s
  | .stImgWrite c slot offset addr length => Sys2Proof.Machine.execStImgWrite c slot offset addr length s
  | .stImgSeal c slot => Sys2Proof.Machine.execStImgSeal c slot s
  | .stImgBoot c slot ratchet level => Sys2Proof.Machine.execStImgBoot c slot ratchet level s
  | .stLogRead c first count addr => Sys2Proof.Machine.execStLogRead c first count addr s
  | .stLogAck c upto link => Sys2Proof.Machine.execStLogAck c upto link s
  | .stDebugOpen c => Sys2Proof.Machine.execStDebugOpen c s
  | .stOwnerKey c k addr => Sys2Proof.Machine.execStOwnerKey c k addr s
  | .stOwnerRevoke c k => Sys2Proof.Machine.execStOwnerRevoke c k s
  | .stTeam c addr => Sys2Proof.Machine.execStTeam c addr s
  | .cmdPush agent => Sys2Proof.Machine.execCmdPush agent s
  | .registerWrite agent off w => Sys2Proof.Machine.execRegisterWrite agent off w s
  | .narrowAccess off write => Sys2Proof.Machine.execNarrowAccess off write s
  | .aliasAccess agent off write w => Sys2Proof.Machine.execAliasAccess agent off write w s
  | .bar2Write addr bytes poisoned => Sys2Proof.Machine.execBar2Write addr bytes poisoned s
  | .bar2Read addr len => Sys2Proof.Machine.execBar2Read addr len s
  | .mailboxSelect agent k selector => Sys2Proof.Machine.execMailboxSelect agent k selector s
  | .mailboxCaptureComplete k => Sys2Proof.Machine.execMailboxCaptureComplete k s
  | .delayMaxClear agent ax => Sys2Proof.Machine.execDelayMaxClear agent ax s
  | .govClear agent => Sys2Proof.Machine.execGovClear agent s
  | .perfClear agent => Sys2Proof.Machine.execPerfClear agent s
  | .perfFreeze agent freeze => Sys2Proof.Machine.execPerfFreeze agent freeze s
  | .perfCfgWrite agent k w => Sys2Proof.Machine.execPerfCfgWrite agent k w s
  | .cmpArm agent k => Sys2Proof.Machine.execCmpArm agent k s
  | .cmpFire k => Sys2Proof.Machine.execCmpFire k s
  | .evioModeWrite agent p mode => Sys2Proof.Machine.execEvioModeWrite agent p mode s
  | .evioQt agent p target => Sys2Proof.Machine.execEvioQt agent p target s
  | .evioQpush agent p level => Sys2Proof.Machine.execEvioQpush agent p level s
  | .evioEntryFire p => Sys2Proof.Machine.execEvioEntryFire p s
  | .evioPeriodicEdge p => Sys2Proof.Machine.execEvioPeriodicEdge p s
  | .evioCapture p line quarters => Sys2Proof.Machine.execEvioCapture p line quarters s
  | .capRdWrite agent w => Sys2Proof.Machine.execCapRdWrite agent w s
  | .arxRdWrite agent r w => Sys2Proof.Machine.execArxRdWrite agent r w s
  | .strRdWrite agent w => Sys2Proof.Machine.execStrRdWrite agent w s
  | .schedWindowWrite agent w => Sys2Proof.Machine.execSchedWindowWrite agent w s
  | .classRightRemove agent soft w => Sys2Proof.Machine.execClassRightRemove agent soft w s
  | .bwMonitorEnable agent m w => Sys2Proof.Machine.execBwMonitorEnable agent m w s
  | .bwWindowEnd m bytes busy => Sys2Proof.Machine.execBwWindowEnd m bytes busy s
  | .pcSample core waiting => Sys2Proof.Machine.execPcSample core waiting s
  | .encoderEdge c lines stamp => Sys2Proof.Machine.execEncoderEdge c lines stamp s
  | .encoderIndexEdge c seen => Sys2Proof.Machine.execEncoderIndexEdge c seen s
  | .qerrWindowClose ch => Sys2Proof.Machine.execQerrWindowClose ch s
  | .qerrLimitReached ch => Sys2Proof.Machine.execQerrLimitReached ch s
  | .serialDeadline port edge0 samples => Sys2Proof.Machine.execSerialDeadline port edge0 samples s
  | .serialFailLimit port => Sys2Proof.Machine.execSerialFailLimit port s
  | .passageHeader ring port bytes arrival => Sys2Proof.Machine.execPassageHeader ring port bytes arrival s
  | .coldStartHeader ring port bytes arrival => Sys2Proof.Machine.execColdStartHeader ring port bytes arrival s
  | .barge ring port bytes arrival => Sys2Proof.Machine.execBarge ring port bytes arrival s
  | .downstreamFrame ring port bytes arrival => Sys2Proof.Machine.execDownstreamFrame ring port bytes arrival s
  | .acyclicFrame ring port bytes => Sys2Proof.Machine.execAcyclicFrame ring port bytes s
  | .poundProbe ring port bytes arrival => Sys2Proof.Machine.execPoundProbe ring port bytes arrival s
  | .poundProbeReply ring port bytes arrival => Sys2Proof.Machine.execPoundProbeReply ring port bytes arrival s
  | .poundProbeSend ring port => Sys2Proof.Machine.execPoundProbeSend ring port s
  | .edgeLimitReached ring n => Sys2Proof.Machine.execEdgeLimitReached ring n s
  | .joinCountReached ring n => Sys2Proof.Machine.execJoinCountReached ring n s
  | .bargeAbsenceTimeout ring n => Sys2Proof.Machine.execBargeAbsenceTimeout ring n s
  | .creditResync ring n => Sys2Proof.Machine.execCreditResync ring n s
  | .blockLockLoss ring port => Sys2Proof.Machine.execBlockLockLoss ring port s
  | .headerAbsence ring port => Sys2Proof.Machine.execHeaderAbsence ring port s
  | .blockLockRegained ring port => Sys2Proof.Machine.execBlockLockRegained ring port s
  | .holeClear ring => Sys2Proof.Machine.execHoleClear ring s
  | .triggerTimeout t => Sys2Proof.Machine.execTriggerTimeout t s
  | .postReached ch => Sys2Proof.Machine.execPostReached ch s
  | .taskStart core => Sys2Proof.Machine.execTaskStart core s
  | .pendingTokenAccept source => Sys2Proof.Machine.execPendingTokenAccept source s
  | .delayExpiry d => Sys2Proof.Machine.execDelayExpiry d s
  | .measurementClose energy temps => Sys2Proof.Machine.execMeasurementClose energy temps s
  | .sensorFail k => Sys2Proof.Machine.execSensorFail k s
  | .preValid ch => Sys2Proof.Machine.execPreValid ch s
  | .heartbeat link bytes => Sys2Proof.Machine.execHeartbeat link bytes s
  | .batch link ok tag items => Sys2Proof.Machine.execBatch link ok tag items s
  | .ledger link ok passage books => Sys2Proof.Machine.execLedger link ok passage books s
  | .local_ link ok passage chans evio => Sys2Proof.Machine.execLocal link ok passage chans evio s
  | .localSer link ok passage chans => Sys2Proof.Machine.execLocalSer link ok passage chans s
  | .sample link bytes => Sys2Proof.Machine.execSample link bytes s
  | .verdict link ok passage action reason => Sys2Proof.Machine.execVerdict link ok passage action reason s
  | .evioFrame link ok p reg w target => Sys2Proof.Machine.execEvioFrame link ok p reg w target s
  | .grant link ok serial => Sys2Proof.Machine.execGrant link ok serial s
  | .copy link ok block left => Sys2Proof.Machine.execCopy link ok block left s
  | .batchMissing kind => Sys2Proof.Machine.execBatchMissing kind s
  | .secondDownstreamFallback ring => Sys2Proof.Machine.execSecondDownstreamFallback ring s
  | .ropeLinkLockLoss link => Sys2Proof.Machine.execRopeLinkLockLoss link s
  | .ropeLinkLockRegained link => Sys2Proof.Machine.execRopeLinkLockRegained link s
  | .safetySample sins souts brks currents => Sys2Proof.Machine.execSafetySample sins souts brks currents s
  | .discrepancyTimeout k => Sys2Proof.Machine.execDiscrepancyTimeout k s
  | .ss1TimeExpiry f => Sys2Proof.Machine.execSs1TimeExpiry f s
  | .offPulse j low => Sys2Proof.Machine.execOffPulse j low s
  | .offPulseEnd j high => Sys2Proof.Machine.execOffPulseEnd j high s
  | .containerLoss ring n => Sys2Proof.Machine.execContainerLoss ring n s
  | .stoFail ring n => Sys2Proof.Machine.execStoFail ring n s
  | .safetyDiagFault diag => Sys2Proof.Machine.execSafetyDiagFault diag s
  | .tamper powered => Sys2Proof.Machine.execTamper powered s
  | .sync m => Sys2Proof.Machine.execSync m s
  | .followUp m => Sys2Proof.Machine.execFollowUp m s
  | .delayReq m => Sys2Proof.Machine.execDelayReq m s
  | .delayResp m => Sys2Proof.Machine.execDelayResp m s
  | .pdelayReq m => Sys2Proof.Machine.execPdelayReq m s
  | .pdelayResp m => Sys2Proof.Machine.execPdelayResp m s
  | .pdelayRespFollowUp m => Sys2Proof.Machine.execPdelayRespFollowUp m s
  | .announce m => Sys2Proof.Machine.execAnnounce m s
  | .wakeComplete => Sys2Proof.Machine.execWakeComplete s
  | .clearComplete => Sys2Proof.Machine.execClearComplete s
  | .imageComplete => Sys2Proof.Machine.execImageComplete s
  | .passageStart => Sys2Proof.Machine.execPassageStart s
  | .tierLatch => Sys2Proof.Machine.execTierLatch s
  | .ttLoadComplete => Sys2Proof.Machine.execTtLoadComplete s
  | .swap => Sys2Proof.Machine.execSwap s
  | .handover => Sys2Proof.Machine.execHandover s
  | .brakeTestSettleExpiry => Sys2Proof.Machine.execBrakeTestSettleExpiry s
  | .brakeTestHoldExpiry => Sys2Proof.Machine.execBrakeTestHoldExpiry s
  | .dbgReq => Sys2Proof.Machine.execDbgReq s
  | .lkWrite => Sys2Proof.Machine.execLkWrite s
  | .schedWindowEnd => Sys2Proof.Machine.execSchedWindowEnd s
  | .ringInHorizon => Sys2Proof.Machine.execRingInHorizon s
  | .thermalTrip => Sys2Proof.Machine.execThermalTrip s
  | .belayDecision => Sys2Proof.Machine.execBelayDecision s
  | .belayGrant => Sys2Proof.Machine.execBelayGrant s
  | .takeover => Sys2Proof.Machine.execTakeover s
  | .silenceTakeover => Sys2Proof.Machine.execSilenceTakeover s
  | .leadIsolation => Sys2Proof.Machine.execLeadIsolation s
  | .coldStartAttempt => Sys2Proof.Machine.execColdStartAttempt s
  | .rejoinCheckComplete => Sys2Proof.Machine.execRejoinCheckComplete s
  | .vbatLoss => Sys2Proof.Machine.execVbatLoss s
  | .vaultEraseComplete => Sys2Proof.Machine.execVaultEraseComplete s
  | .ptpDiscardedMessage => Sys2Proof.Machine.execPtpDiscardedMessage s
  | .ptpSyncInterval => Sys2Proof.Machine.execPtpSyncInterval s
  | .vsafe24Undervoltage => Sys2Proof.Machine.execVsafe24Undervoltage s
  | .delayReqInterval => Sys2Proof.Machine.execDelayReqInterval s
  | .announceReceiptTimeout => Sys2Proof.Machine.execAnnounceReceiptTimeout s

end Sys2Proof.Machine
end

