-- ==== Sys2Proof/Machine/Codeword.lean ====
section
/-! DEFINITION. The Reed-Solomon code of the memories (R108): the field GF(2^8), the generator polynomial, the check bytes of 32 data
bytes, and the 320 bits that the array stores for a word. -/

namespace Sys2Proof.Machine

/-- Multiplication by α = 0x02 in GF(2^8) with x^8 + x^4 + x^3 + x^2 + 1 (R108). -/
def gfDouble (a : Byte) : Byte := if a.getLsbD 7 then (a <<< 1) ^^^ 0x1D#8 else a <<< 1

/-- The product of the low `n` bits of `b`, as a polynomial, and `a`. -/
def gfMulBits (a b : Byte) : Nat → Byte
  | 0 => 0
  | n + 1 => (if b.getLsbD n then (List.range n).foldl (fun x _ => gfDouble x) a else 0) ^^^ gfMulBits a b n

/-- The product in GF(2^8) (R108). -/
def gfMul (a b : Byte) : Byte := gfMulBits a b 8

/-- α^i (R108). -/
def gfAlpha (i : Nat) : Byte := (List.range i).foldl (fun x _ => gfDouble x) 1

/-- A polynomial, its highest coefficient first, times `x + c`. -/
def polyTimesRoot (p : List Byte) (c : Byte) : List Byte :=
  List.zipWith (· ^^^ ·) (p ++ [0]) (0 :: p.map (gfMul c))

/-- The generator `g(x) = (x + α^0) ... (x + α^7)` (R108), its highest coefficient, 1, first. -/
def rsGenerator : List Byte := (List.range 8).foldl (fun p i => polyTimesRoot p (gfAlpha i)) [1]

/-- The remainder modulo `g` after one more coefficient: `r` holds the coefficients of x^7 to x^0. -/
def rsStep (r : List Byte) (d : Byte) : List Byte :=
  match r with
  | [] => []
  | h :: t => List.zipWith (fun x g => x ^^^ gfMul h g) (t ++ [d]) (rsGenerator.drop 1)

/-- The remainder modulo `g` of a polynomial, its highest coefficient first. -/
def rsRemainder (p : List Byte) : List Byte := p.foldl rsStep (List.replicate 8 0)

/-- The check bytes p0-p7 of the data bytes d0-d31 (R108): `d_j` is the coefficient of x^(39-j), `p_j` that of x^(7-j). -/
def checkBytes (data : List Byte) : List Byte := rsRemainder (data ++ List.replicate 8 0)

/-- Whether 40 bytes, data and check, are a codeword (R108). -/
def isCodeword (bs : List Byte) : Bool := bs.length == 40 && rsRemainder bs == List.replicate 8 0

/-- The 320 bits that the array stores for 32 data bytes (R108): the data in bits [255:0], the check bytes in bits [319:256]. -/
def codewordBits (data : List Byte) : BitVec 320 :=
  BitVec.ofNat 320 (natLE (data ++ checkBytes data))

/-- The codeword of the word of an address, as it was last written (R108, R109): wrong symbols are counted beside it. -/
def State.codeword (s : State) (a : Nat) : BitVec 320 := codewordBits (s.mem.bytes (wordOf a) 32)

end Sys2Proof.Machine
end

