-- ==== Sys2Proof/WellFormed.lean ====
section
/-! DEFINITION. Which commands are well formed: each operand lies in the range that the spec gives it, by the width of the
entry's argument for a command of the queue (R518), by the instruction's field for a Luestox instruction (R363), and by the
number of the thing it names for every other command. A meaning answers on every command; what is not well formed never
reaches the block. -/

namespace Sys2Proof

/-- The fields of an instruction word keep to their widths (R363). -/
def Machine.Fields.wf (f : Machine.Fields) : Bool :=
  decide (f.d < 32) && decide (f.a < 32) && decide (f.b < 32) && decide (f.x < 8) && decide (f.m < 4) && decide (f.f < 16)

/-- A context's TAG and origin keep to their widths (R518, R547, R550). -/
def Machine.Ctx.wf (c : Machine.Ctx) : Bool := decide (c.tag < 65536) && decide (c.origin < 256)

/-- A command whose operands lie in their ranges (R363, R518). -/
def Instr.wf : Instr → Bool
  | .porn _ straps => decide (straps < 4)
  | .railUndervoltage _ => true
  | .wakeComplete => true
  | .clearComplete => true
  | .imageComplete => true
  | .armComplete _ => true
  | .perstn _ => true
  | .pcieLinkDown cause => decide (cause < 4)
  | .passageStart => true
  | .tierLatch => true
  | .release target => decide (target < 256)
  | .run island index => decide (island < 256) && decide (index < 65536)
  | .move island index => decide (island < 256) && decide (index < 65536)
  | .moveComplete island index => decide (island < 256) && decide (index < 65536)
  | .gate island index => decide (island < 256) && decide (index < 65536)
  | .reserve island index => decide (island < 256) && decide (index < 65536)
  | .overrun island index => decide (island < 256) && decide (index < 65536)
  | .dieLinkFailure link => decide (link < 3)
  | .scrubVisit _ symbols => decide (symbols < 33)
  | .supervisionTrip i => decide (i < 512)
  | .stall g => decide (g < 528)
  | .setLoadComplete i => decide (i < 512)
  | .nop u f => decide (u < 88) && f.wf
  | .end_ u f => decide (u < 88) && f.wf
  | .loop u f => decide (u < 88) && f.wf
  | .rdf u f => decide (u < 88) && f.wf
  | .clrf u f => decide (u < 88) && f.wf
  | .add u f => decide (u < 88) && f.wf
  | .sub u f => decide (u < 88) && f.wf
  | .adds u f => decide (u < 88) && f.wf
  | .subs u f => decide (u < 88) && f.wf
  | .and u f => decide (u < 88) && f.wf
  | .or u f => decide (u < 88) && f.wf
  | .xor u f => decide (u < 88) && f.wf
  | .shl u f => decide (u < 88) && f.wf
  | .shr u f => decide (u < 88) && f.wf
  | .sar u f => decide (u < 88) && f.wf
  | .mul u f => decide (u < 88) && f.wf
  | .mulh u f => decide (u < 88) && f.wf
  | .min u f => decide (u < 88) && f.wf
  | .max u f => decide (u < 88) && f.wf
  | .slt u f => decide (u < 88) && f.wf
  | .sltu u f => decide (u < 88) && f.wf
  | .addi u f => decide (u < 88) && f.wf
  | .movi u f => decide (u < 88) && f.wf
  | .shli u f => decide (u < 88) && f.wf
  | .shri u f => decide (u < 88) && f.wf
  | .sari u f => decide (u < 88) && f.wf
  | .andi u f => decide (u < 88) && f.wf
  | .selz u f => decide (u < 88) && f.wf
  | .abs u f => decide (u < 88) && f.wf
  | .div u f => decide (u < 88) && f.wf
  | .divu u f => decide (u < 88) && f.wf
  | .xmov u f => decide (u < 88) && f.wf
  | .xaddi u f => decide (u < 88) && f.wf
  | .sfromx u f => decide (u < 88) && f.wf
  | .pmov u f => decide (u < 88) && f.wf
  | .paddi u f => decide (u < 88) && f.wf
  | .sfromp u f => decide (u < 88) && f.wf
  | .ldv u f => decide (u < 88) && f.wf
  | .stv u f => decide (u < 88) && f.wf
  | .lds u f => decide (u < 88) && f.wf
  | .sts u f => decide (u < 88) && f.wf
  | .selld u f => decide (u < 88) && f.wf
  | .macb u f => decide (u < 88) && f.wf
  | .mace u f => decide (u < 88) && f.wf
  | .macr u f => decide (u < 88) && f.wf
  | .macrb u f => decide (u < 88) && f.wf
  | .adda u f => decide (u < 88) && f.wf
  | .mova u f => decide (u < 88) && f.wf
  | .fixv u f => decide (u < 88) && f.wf
  | .normv u f => decide (u < 88) && f.wf
  | .vmov u f => decide (u < 88) && f.wf
  | .vclamp u f => decide (u < 88) && f.wf
  | .vcmp u f => decide (u < 88) && f.wf
  | .vsel u f => decide (u < 88) && f.wf
  | .vins u f => decide (u < 88) && f.wf
  | .vext u f => decide (u < 88) && f.wf
  | .vexp u f => decide (u < 88) && f.wf
  | .vsete u f => decide (u < 88) && f.wf
  | .vzero u f => decide (u < 88) && f.wf
  | .sincos u f => decide (u < 88) && f.wf
  | .vsqrt u f => decide (u < 88) && f.wf
  | .vresc u f => decide (u < 88) && f.wf
  | .vneg u f => decide (u < 88) && f.wf
  | .biq u f => decide (u < 88) && f.wf
  | .fir u f => decide (u < 88) && f.wf
  | .fft u f => decide (u < 88) && f.wf
  | .beq u f => decide (u < 88) && f.wf
  | .bne u f => decide (u < 88) && f.wf
  | .blt u f => decide (u < 88) && f.wf
  | .bge u f => decide (u < 88) && f.wf
  | .bltu u f => decide (u < 88) && f.wf
  | .bgeu u f => decide (u < 88) && f.wf
  | .jal u f => decide (u < 88) && f.wf
  | .jr u f => decide (u < 88) && f.wf
  | .ldw u f => decide (u < 88) && f.wf
  | .stw u f => decide (u < 88) && f.wf
  | .ldbu u f => decide (u < 88) && f.wf
  | .stb u f => decide (u < 88) && f.wf
  | .ldd u f => decide (u < 88) && f.wf
  | .std u f => decide (u < 88) && f.wf
  | .amoadd u f => decide (u < 88) && f.wf
  | .rgr u f => decide (u < 88) && f.wf
  | .rgw u f => decide (u < 88) && f.wf
  | .tend u f => decide (u < 88) && f.wf
  | .tpost u f => decide (u < 88) && f.wf
  | .tdly u f => decide (u < 88) && f.wf
  | .flt u f => decide (u < 88) && f.wf
  | .illegalInstruction u _ => decide (u < 88)
  | .nopCommand c => c.wf
  | .ttLoad c slot => c.wf && decide (slot < 256)
  | .ttLoadComplete => true
  | .ttSwap c _ => c.wf
  | .swap => true
  | .ttCancel c => c.wf
  | .axEnable c i mode => c.wf && decide (i < 65536) && decide (mode < 256)
  | .axDisable c i => c.wf && decide (i < 65536)
  | .axMode c i mode _ => c.wf && decide (i < 65536) && decide (mode < 256)
  | .axCommit c i => c.wf && decide (i < 65536)
  | .axRetune c i k => c.wf && decide (i < 65536) && decide (k < 256)
  | .axSetLoad c i k f => c.wf && decide (i < 65536) && decide (k < 256) && decide (f < 256)
  | .axClear c i => c.wf && decide (i < 65536)
  | .mvQueue c g _ _ _ _ => c.wf && decide (g < 65536)
  | .mvChange c g _ _ _ _ => c.wf && decide (g < 65536)
  | .mvFlush c g => c.wf && decide (g < 65536)
  | .mvQstop c g => c.wf && decide (g < 65536)
  | .mvHstop c g => c.wf && decide (g < 65536)
  | .mvHome c g method dir _ _ _ _ => c.wf && decide (g < 65536) && decide (method < 256) && decide (dir < 256)
  | .pfCommit c g => c.wf && decide (g < 65536)
  | .chEnable c ch _ => c.wf && decide (ch < 256)
  | .fbCommit c ch => c.wf && decide (ch < 65536)
  | .fbClear c ch => c.wf && decide (ch < 65536)
  | .rgCommit c r => c.wf && decide (r < 256)
  | .rgReopen c r n => c.wf && decide (r < 256) && decide (n < 256)
  | .rgResync c r n => c.wf && decide (r < 256) && decide (n < 256)
  | .rgAsend c r n proto len _ => c.wf && decide (r < 256) && decide (n < 256) && decide (proto < 256) && decide (len < 65536)
  | .timeStep c _ => c.wf
  | .timeRate c _ => c.wf
  | .ptpCommit c => c.wf
  | .acqCommit c => c.wf
  | .acqArm c ch => c.wf && decide (ch < 256)
  | .acqDisarm c ch => c.wf && decide (ch < 256)
  | .acqForce c ch => c.wf && decide (ch < 256)
  | .acqRead c ch _ _ _ => c.wf && decide (ch < 256)
  | .acqMaskLoad c ch => c.wf && decide (ch < 256)
  | .maskLoadComplete ch => decide (ch < 4)
  | .spDesc c d _ => c.wf && decide (d < 65536)
  | .spPost c d slot _ => c.wf && decide (d < 65536) && decide (slot < 256)
  | .spDrop c d => c.wf && decide (d < 65536)
  | .govCommit c => c.wf
  | .ropeHandover c _ => c.wf
  | .handover => true
  | .ropeRejoin c => c.wf
  | .ropeDismiss c => c.wf
  | .sfLoad c _ => c.wf
  | .sfConfirm c _ => c.wf
  | .sfDemand c f => c.wf && decide (f < 256)
  | .sfReset c f => c.wf && decide (f < 256)
  | .sfBrakeTest c b => c.wf && decide (b < 256)
  | .brakeTestSettleExpiry => true
  | .brakeTestHoldExpiry => true
  | .stSave c => c.wf
  | .bankWriteComplete _ _ => true
  | .stImgWrite c slot _ _ _ => c.wf && decide (slot < 256)
  | .stImgSeal c slot => c.wf && decide (slot < 256)
  | .stImgBoot c slot ratchet level => c.wf && decide (slot < 256) && decide (ratchet < 256) && decide (level < 256)
  | .stLogRead c _ _ _ => c.wf
  | .stLogAck c _ _ => c.wf
  | .stDebugOpen c => c.wf
  | .dbgReq => true
  | .stOwnerKey c k _ => c.wf && decide (k < 256)
  | .stOwnerRevoke c k => c.wf && decide (k < 256)
  | .stTeam c _ => c.wf
  | .cmdPush agent => decide (agent < 10)
  | .registerWrite agent off _ => decide (agent < 10) && decide (off < 67108864)
  | .lkWrite => true
  | .narrowAccess off _ => decide (off < 67108864)
  | .aliasAccess agent off _ _ => decide (agent < 10) && decide (off < 67108864)
  | .bar2Write _ _ _ => true
  | .bar2Read _ _ => true
  | .mailboxSelect agent k _ => decide (agent < 10) && decide (k < 8)
  | .mailboxCaptureComplete k => decide (k < 8)
  | .delayMaxClear agent i => decide (agent < 10) && decide (i < 512)
  | .govClear agent => decide (agent < 10)
  | .perfClear agent => decide (agent < 10)
  | .perfFreeze agent _ => decide (agent < 10)
  | .perfCfgWrite agent k _ => decide (agent < 10) && decide (k < 128)
  | .cmpArm agent k => decide (agent < 10) && decide (k < 32)
  | .cmpFire k => decide (k < 32)
  | .evioModeWrite agent p mode => decide (agent < 10) && decide (p < 64) && decide (mode < 16)
  | .evioQt agent p _ => decide (agent < 10) && decide (p < 64)
  | .evioQpush agent p _ => decide (agent < 10) && decide (p < 64)
  | .evioEntryFire p => decide (p < 64)
  | .evioPeriodicEdge p => decide (p < 64)
  | .evioCapture p _ quarters => decide (p < 64) && decide (quarters < 2 ^ 64)
  | .capRdWrite agent _ => decide (agent < 10)
  | .arxRdWrite agent r _ => decide (agent < 10) && decide (r < 4)
  | .strRdWrite agent _ => decide (agent < 10)
  | .schedWindowWrite agent _ => decide (agent < 10)
  | .schedWindowEnd => true
  | .classRightRemove agent _ _ => decide (agent < 10)
  | .bwMonitorEnable agent m _ => decide (agent < 10) && decide (m < 16)
  | .bwWindowEnd m _ _ => decide (m < 16)
  | .pcSample core _ => decide (core < 8)
  | .encoderEdge c lines _ => decide (c < 16) && decide (lines.ab < 4)
  | .encoderIndexEdge c seen => decide (c < 16) && decide (seen.ab < 4)
  | .qerrWindowClose ch => decide (ch < 16) || (decide (512 ≤ ch) && decide (ch < 1024))
  | .qerrLimitReached ch => decide (ch < 16) || (decide (512 ≤ ch) && decide (ch < 1024))
  | .serialDeadline port _ _ => decide (port < 8)
  | .serialFailLimit port => decide (port < 8)
  | .passageHeader ring port _ _ => decide (ring < 4) && decide (port < 2)
  | .coldStartHeader ring port _ _ => decide (ring < 4) && decide (port < 2)
  | .barge ring port _ _ => decide (ring < 4) && decide (port < 2)
  | .downstreamFrame ring port _ _ => decide (ring < 4) && decide (port < 2)
  | .acyclicFrame ring port _ => decide (ring < 4) && decide (port < 2)
  | .poundProbe ring port _ _ => decide (ring < 4) && decide (port < 2)
  | .poundProbeReply ring port _ _ => decide (ring < 4) && decide (port < 2)
  | .poundProbeSend ring port => decide (ring < 4) && decide (port < 2)
  | .ringInHorizon => true
  | .edgeLimitReached ring n => decide (ring < 4) && decide (n < 65)
  | .joinCountReached ring n => decide (ring < 4) && decide (n < 65)
  | .bargeAbsenceTimeout ring n => decide (ring < 4) && decide (n < 65)
  | .creditResync ring n => decide (ring < 4) && decide (n < 65)
  | .blockLockLoss ring port => decide (ring < 4) && decide (port < 2)
  | .headerAbsence ring port => decide (ring < 4) && decide (port < 2)
  | .blockLockRegained ring port => decide (ring < 4) && decide (port < 2)
  | .holeClear ring => decide (ring < 4)
  | .triggerTimeout t => decide (t < 16)
  | .postReached ch => decide (ch < 4)
  | .taskStart core => decide (core < 8)
  | .pendingTokenAccept source => decide (source < 100)
  | .delayExpiry d => decide (d < 4096)
  | .measurementClose _ _ => true
  | .sensorFail k => decide (k < 8)
  | .thermalTrip => true
  | .heartbeat link _ => decide (link < 2)
  | .batch link _ _ _ => decide (link < 2)
  | .ledger link _ _ _ => decide (link < 2)
  | .local_ link _ _ _ _ => decide (link < 2)
  | .localSer link _ _ _ => decide (link < 2)
  | .sample link _ => decide (link < 2)
  | .verdict link _ _ action reason => decide (link < 2) && decide (action < 256) && decide (reason < 256)
  | .evioFrame link _ p reg _ _ => decide (link < 2) && decide (p < 64) && decide (reg < 9)
  | .grant link _ _ => decide (link < 2)
  | .copy link _ _ left => decide (link < 2) && decide (left < 4294967296)
  | .belayDecision => true
  | .belayGrant => true
  | .takeover => true
  | .silenceTakeover => true
  | .batchMissing kind => decide (kind < 4)
  | .secondDownstreamFallback ring => decide (ring < 4)
  | .leadIsolation => true
  | .coldStartAttempt => true
  | .rejoinCheckComplete => true
  | .ropeLinkLockLoss link => decide (link < 2)
  | .safetySample sins souts brks _ => decide (sins < 65536) && decide (souts < 256) && decide (brks < 256)
  | .discrepancyTimeout k => decide (k < 16)
  | .ss1TimeExpiry f => decide (f < 32)
  | .offPulse j _ => decide (j < 16)
  | .offPulseEnd j _ => decide (j < 16)
  | .containerLoss ring n => decide (ring < 4) && decide (n < 65)
  | .stoFail ring n => decide (ring < 4) && decide (n < 65)
  | .safetyDiagFault diag => decide (diag < 6)
  | .tamper _ => true
  | .vbatLoss => true
  | .vaultEraseComplete => true
  | .sync _ => true
  | .followUp _ => true
  | .delayReq _ => true
  | .delayResp _ => true
  | .pdelayReq _ => true
  | .pdelayResp _ => true
  | .pdelayRespFollowUp _ => true
  | .announce _ => true
  | .ptpDiscardedMessage => true
  | .ptpSyncInterval => true
  | .ropeLinkLockRegained link => decide (link < 2)
  | .pcieLinkUp speed width _ => decide (speed < 8) && decide (width < 32)
  | .vsafe24Undervoltage => true
  | .preValid ch => decide (ch < 4)
  | .delayReqInterval => true
  | .announceReceiptTimeout => true

end Sys2Proof
end

