-- ==== Sys2Proof/Safety.lean ====
section
/-! DEFINITION. What the claims call a sound state, a safe run, and a command that the general checks let through. -/

namespace Sys2Proof.Machine

/-- Every command that waits is well formed. -/
def State.queueOk (s : State) : Bool := s.pending.all Instr.wf

/-- An outcome that goes on: neither a fault nor a refusal. -/
def goesOn : Host.Outcome State Fault Refusal → Bool
  | .next _ => true
  | .fault _ => false
  | .refused _ => false

/-- The checks of R16 that no command makes for itself let it through: its origin holds the right that it needs (R548), the
part's role takes commands of its kind (R445), and the log has room (R552). A forwarded command brings the LEAD's decision on
right and role (R445, R555). -/
def State.admits (s : State) (c : Ctx) (opc : Nat) (args : List Nat) : Bool :=
  !c.logFull && (c.forwarded || (!s.lacks c.origin (rightOf opc args) && !s.roleForbids opc))

/-- Where a command's result record lies: 16 bytes of the result table (R519). -/
def recordAt (c : Ctx) : Nat := 0x03604000 + 16 * (c.seq.toNat % 256)

/-- Every byte of the SRAMs reads as before, but for `n` bytes from `lo`. -/
def State.memorySame (s t : State) (lo n : Nat) : Prop := ∀ a, a < lo ∨ lo + n ≤ a → t.mem.byte a = s.mem.byte a

/-- A host command took effect: `t` is `u` but for the command's result record, which reports OK with the DETAIL `detail` and is
stored as every store is (R110, R519), the mirror's list of results, and the entries, the books and the chain of the audit log
(R551, R552). -/
def State.carriedOut (s t : State) (c : Ctx) (opc : Nat) (detail : Word) (u : State) : Prop :=
  let rec16 := resultBytes c.seq c.tag opc codeOk detail s.tt.passage
  t.mem.bytes (recordAt c) 16 = rec16 ∧ u.memorySame t (recordAt c) 16 ∧
    { t with
      host := { t.host with results := u.host.results, resCount := u.host.resCount }
      store := { t.store with mram := u.store.mram, logWr := u.store.logWr, link := u.store.link
                              unrecorded := u.store.unrecorded, reserved := u.store.reserved } } = u.store' (recordAt c) rec16

/-- Every instance but `i`, and its generator, are as before. -/
def State.axesSame (s t : State) (i : Nat) : Prop := ∀ j, j ≠ i → t.axis j = s.axis j ∧ t.gen j = s.gen j

/-! ### Luestox -/

/-- Unit `u` executes an instruction now and can fetch it: a T unit from its copy of the code section (R366), an S-core from the
word at its pc, which is aligned, one that the soft plane may read, and decodes (R388, R392). -/
def State.unitReady (s : State) (u : Nat) : Bool :=
  s.unitActs u && (decide (u < 80) ||
    ((s.lux u).pc % 8 == 0 && s.softReads (s.lux u).pc && !s.undecodable (s.lux u).pc))

/-- A unit's registers, with its place in the code, its loops and its count of cycles as they were in `x`. -/
def Lux.inPlace (x y : Lux) : Lux := { y with pc := x.pc, loops := x.loops, mac := x.mac, cycles := x.cycles }

/-- `t` with the performance counters of `s` and its count of corrected words in DIAG: what an instruction and a read of memory
may change beside (R109, R447, R531). -/
def State.countsFrom (t s : State) : State := { t with perf := s.perf, rope := { t.rope with diagCorr := s.rope.diagCorr } }

/-- Nothing differs but the registers of unit `u` and the counters. -/
def State.onlyUnit (s t : State) (u : Nat) : Prop :=
  (∀ v, v ≠ u → t.lux v = s.lux v) ∧ { t.countsFrom s with units := s.units } = s

/-- Unit `u` has executed an instruction, of `cost` cycles on a T unit, which leaves `y` in its registers: outside a loop the next
instruction follows (R371, R372). -/
def State.executes (s t : State) (u cost : Nat) (y : Lux) : Prop :=
  (s.lux u).inPlace (t.lux u) = y ∧ (u < 80 → (t.lux u).cycles = (s.lux u).cycles + cost) ∧
    ((s.lux u).loops = [] → (t.lux u).pc = (s.lux u).pc + 8 ∧ (t.lux u).loops = [])

/-- The memory operand of a T unit in modes 0 and 1 names word `w` of its memory (R367). -/
def Lux.names (x : Lux) (u : Nat) (f : Fields) (w : Nat) : Prop :=
  f.x < 8 ∧ f.m < 2 ∧ f.imm &&& ~~~(if f.m = 1 then 0x00FF3FFF#32 else 0x00003FFF#32) = 0 ∧
    (w : Int) = x.x f.x + (f.imm.extractLsb' 0 14).toInt ∧ w < (if u < 64 then 8192 else 32768)

/-- The coefficient operand of an axis engine reads the stage `c` (R92, R93, R367): the word that it names, or in mode 2 the
blend of the same word of the sets SEL and NEXT. -/
def State.readsCoef (s : State) (u : Nat) (f : Fields) (c : Stage) : Prop :=
  let x := s.lux u
  let off := (f.imm.extractLsb' 0 14).toInt
  (∃ w, x.names u f w ∧ s.unitBad u w = false ∧ c = stageOfLine (s.unitLine u w)) ∨
  (f.m = 2 ∧ f.x < 8 ∧ f.imm.toNat < 2 ^ 14 ∧ ∃ a b : Nat, a < 8192 ∧ b < 8192 ∧
    (a : Int) = x.sel.base + x.sel.sel * x.sel.stride + x.x f.x + off ∧
    (b : Int) = x.sel.base + x.sel.next * x.sel.stride + x.x f.x + off ∧ s.unitBad u a = false ∧ s.unitBad u b = false ∧
    c = blend (stageOfLine (s.unitLine u a)) (stageOfLine (s.unitLine u b)) x.sel.w (x.sel.sel == x.sel.next))

/-- `t` with the SRAMs of `s`, the marks of its words that do not decode or decode by a correction, and its counters: what a store
may change beside (R109, R110). -/
def State.memoryFrom (t s : State) : State :=
  { t.countsFrom s with mem := s.mem, bad := s.bad, badSeen := s.badSeen, wrong := s.wrong }

/-- Nothing differs but the registers of unit `u` and what a store and a read of memory may change. -/
def State.unitAndMemory (s t : State) (u : Nat) : Prop :=
  (∀ v, v ≠ u → t.lux v = s.lux v) ∧ { t.memoryFrom s with units := s.units } = s

/-- Nothing differs but the registers of unit `u`, `n` bytes of memory from `lo`, and what a store and a read may change beside. -/
def State.stored (s t : State) (u lo n : Nat) : Prop := s.memorySame t lo n ∧ s.unitAndMemory t u

end Sys2Proof.Machine
end

