-- ==== Sys2Proof/Certificates/Slice0/Obligations.lean ====
section
/-! DEFINITION. The statements about the block. Each has as its conclusion the next state that a command gives, with what it
changes and what it leaves; the premises speak of the state and of the operands alone. -/

open Sys2Proof Sys2Proof.Machine

/-- A step takes the command at the front of the queue and executes it on the rest. With nothing waiting a cycle of the time
island passes, once it counts: that clause is the model's choice (log 57). -/
def Obligations.StepRunsFrontCommand : Prop :=
  ∀ (s : State) (c : Instr) (rest : List Instr),
    step { s with pending := c :: rest } = exec c { s with pending := rest } ∧
    (s.pending = [] → s.time.counting = false → step s = .next s) ∧
    (s.pending = [] → s.time.counting = true → step s = .next { s with time := s.time.cycles 1 })

/-- What reset leaves (R25, R27, R36, R130, R437, R470, R478): start-up begins, every instance is DISABLED, the part has no
role, every safety function is demanded, and no command waits. -/
def Obligations.ResetLeaves : Prop :=
  State.reset.host.phase = .por ∧ State.reset.tt.clockOn = false ∧ State.reset.time.counting = false ∧
    State.reset.rope.role = 0 ∧ State.reset.safe.state = 0 ∧ State.reset.pending = [] ∧ State.reset.queueOk = true ∧
    State.reset.memoryOk = true ∧ State.reset.faults.pkg = false ∧ State.reset.faults.clusters = [] ∧
    (∀ i, (State.reset.axis i).st = .disabled ∧ (State.reset.axis i).latched = none) ∧
    (∀ f, (State.reset.safe.fn f).demand = true) ∧ (∀ j, (State.reset.safe.sout j).on = false ∧ (State.reset.safe.brk j).on = false) ∧
    (∀ a, State.reset.mem.byte a = 0)

/-- No step ends in a fault or a refusal, whatever the state: it takes the front command, leaves the rest of the queue as it
is, and keeps every waiting command well formed. -/
def Obligations.EveryStepGoesOn : Prop :=
  ∀ (s : State), ∃ t, step s = .next t ∧ t.pending = s.pending.tail ∧ (s.queueOk = true → t.queueOk = true)

/-- Every step keeps the three memories, the SRAMs, MRAM and the host memory that the part has written, in their one
canonical form. -/
def Obligations.EveryStepKeepsTheMemories : Prop :=
  ∀ (s t : State), s.memoryOk = true → step s = .next t → t.memoryOk = true

/-- The queue holds commands only: exec adds none, takes none and reorders none. -/
def Obligations.ExecLeavesTheQueue : Prop :=
  ∀ (c : Instr) (s t : State), exec c s = .next t → t.pending = s.pending

/-- A host command that breaks a rule reports the first one in the order of R16, and nothing is applied: but for its result
record, the mirror's list of results and the audit log, the state is as before. -/
def Obligations.RefusedCommandsApplyNothing : Prop :=
  ∀ (s : State) (c : Ctx) (opc : Nat) (args : List Nat) (core : State → Answer) (r : Refusals),
    (∀ u : State, { u with store := { u.store with
        mram := s.store.mram, logWr := s.store.logWr, link := s.store.link
        unrecorded := s.store.unrecorded, reserved := s.store.reserved } } = s → (core u).refusals = r) →
    let auth : Bool := !c.forwarded && s.lacks c.origin (rightOf opc args)
    let illegal : Bool := r.illegal || (!c.forwarded && s.roleForbids opc)
    let code : Nat := if auth then 0x07 else if r.locked then 0x04 else if r.notPresent then 0x08 else if r.faulted then 0x0B
      else if r.length then 0x03 else if r.range then 0x02 else if illegal then 0x01 else if r.mismatch then 0x09
      else if r.stale then 0x0A else if c.logFull then 0x06 else if r.backpressure then 0x05 else 0
    code ≠ 0 →
      let t := s.hostCommand c opc args core
      s.memorySame t (recordAt c) 16 ∧
      ∃ detail, let rec16 := resultBytes c.seq c.tag opc code detail s.tt.passage
        t.mem.bytes (recordAt c) 16 = rec16 ∧
        { t with
          host := { t.host with results := s.host.results, resCount := s.host.resCount }
          store := { t.store with
            mram := s.store.mram, logWr := s.store.logWr, link := s.store.link
            unrecorded := s.store.unrecorded, reserved := s.store.reserved } } = s.store' (recordAt c) rec16

/-- ADD to ABS (R376): an instruction of scalars leaves its result in sD, costs its cycles, and changes nothing else of its
unit but, for the saturating ones, the sticky SAT; memory, other units and the rest of the block stay as they are. ADDS,
SUBS, ABS, DIV and DIVU (R376): a result out of range saturates and raises the sticky SAT, and so does a division by zero;
DIV and DIVU run on S-cores alone. -/
def Obligations.ScalarsCompute : Prop :=
  (
    ∀ (s : State) (u d a b : Nat) (imm : Word), s.unitReady u = true → d < 16 → a < 16 → b < 16 →
      let x := s.lux u
      let p := x.s a
      let q := x.s b
      let n := q.toNat % 32
      let i := imm.toNat
      (∀ z ∈ [(Instr.add u ⟨d, a, b, 0, 0, 0, 0⟩, 1, p + q), (.sub u ⟨d, a, b, 0, 0, 0, 0⟩, 1, p - q),
          (.and u ⟨d, a, b, 0, 0, 0, 0⟩, 1, p &&& q), (.or u ⟨d, a, b, 0, 0, 0, 0⟩, 1, p ||| q),
          (.xor u ⟨d, a, b, 0, 0, 0, 0⟩, 1, p ^^^ q), (.shl u ⟨d, a, b, 0, 0, 0, 0⟩, 1, p <<< n),
          (.shr u ⟨d, a, b, 0, 0, 0, 0⟩, 1, p >>> n), (.sar u ⟨d, a, b, 0, 0, 0, 0⟩, 1, p.sshiftRight n),
          (.mul u ⟨d, a, b, 0, 0, 0, 0⟩, 2, p * q),
          (.mulh u ⟨d, a, b, 0, 0, 0, 0⟩, 2, (p.signExtend 64 * q.signExtend 64).extractLsb' 32 32),
          (.min u ⟨d, a, b, 0, 0, 0, 0⟩, 1, if p.toInt ≤ q.toInt then p else q),
          (.max u ⟨d, a, b, 0, 0, 0, 0⟩, 1, if p.toInt ≤ q.toInt then q else p),
          (.slt u ⟨d, a, b, 0, 0, 0, 0⟩, 1, if p.toInt < q.toInt then 1 else 0),
          (.sltu u ⟨d, a, b, 0, 0, 0, 0⟩, 1, if p.toNat < q.toNat then 1 else 0),
          (.addi u ⟨d, a, 0, 0, 0, 0, imm⟩, 1, p + imm), (.movi u ⟨d, 0, 0, 0, 0, 0, imm⟩, 1, imm),
          (.andi u ⟨d, a, 0, 0, 0, 0, imm⟩, 1, p &&& imm)],
        ∃ t, exec z.1 s = .next t ∧ s.executes t u z.2.1 (x.setS d z.2.2) ∧ s.onlyUnit t u) ∧
      (i < 32 → ∀ z ∈ [(Instr.shli u ⟨d, a, 0, 0, 0, 0, imm⟩, p <<< i), (.shri u ⟨d, a, 0, 0, 0, 0, imm⟩, p >>> i),
          (.sari u ⟨d, a, 0, 0, 0, 0, imm⟩, p.sshiftRight i)],
        ∃ t, exec z.1 s = .next t ∧ s.executes t u 1 (x.setS d z.2) ∧ s.onlyUnit t u) ∧
      (i < 16 → ∃ t, exec (.selz u ⟨d, a, b, 0, 0, 0, imm⟩) s = .next t ∧
        s.executes t u 1 (x.setS d (if x.s i ≠ 0 then p else q)) ∧ s.onlyUnit t u)) ∧
  (
    ∀ (s : State) (u d a b : Nat), s.unitReady u = true → d < 16 → a < 16 → b < 16 →
      let x := s.lux u
      let p := x.s a
      let q := x.s b
      let sat (z : Int) : Word := if z < -2147483648 then 0x80000000 else if 2147483647 < z then 0x7FFFFFFF else BitVec.ofInt 32 z
      let ofl (z : Int) : BitVec 4 := if z < -2147483648 ∨ 2147483647 < z then 1 else 0
      (∀ z ∈ [(Instr.adds u ⟨d, a, b, 0, 0, 0, 0⟩, p.toInt + q.toInt), (.subs u ⟨d, a, b, 0, 0, 0, 0⟩, p.toInt - q.toInt),
          (.abs u ⟨d, a, 0, 0, 0, 0, 0⟩, (p.toInt.natAbs : Int))],
        ∃ t, exec z.1 s = .next t ∧ s.executes t u 1 { x.setS d (sat z.2) with flg := x.flg ||| ofl z.2 } ∧ s.onlyUnit t u) ∧
      (80 ≤ u →
        (∃ t, exec (.div u ⟨d, a, b, 0, 0, 0, 0⟩) s = .next t ∧ s.onlyUnit t u ∧ s.executes t u 1
          { x.setS d (if q = 0 then (if 0 ≤ p.toInt then 0x7FFFFFFF else 0x80000000) else sat (p.toInt.tdiv q.toInt)) with
            flg := x.flg ||| (if q = 0 then 1 else ofl (p.toInt.tdiv q.toInt)) }) ∧
        ∃ t, exec (.divu u ⟨d, a, b, 0, 0, 0, 0⟩) s = .next t ∧ s.onlyUnit t u ∧ s.executes t u 1
          { x.setS d (if q = 0 then 0xFFFFFFFF else BitVec.ofNat 32 (p.toNat / q.toNat)) with
            flg := x.flg ||| (if q = 0 then 1 else 0) }))

/-- NOP, END, LOOP, RDF and CLRF (R372, R373, R375). BEQ to BGEU, JAL and JR (R384): a taken branch goes to pc + 8 times the
signed IMM, modulo 2^32. -/
def Obligations.ControlAndBranches : Prop :=
  (
    ∀ (s : State) (u d : Nat) (imm : Word), s.unitReady u = true → d < 16 →
      let x := s.lux u
      (∃ t, exec (.nop u ⟨0, 0, 0, 0, 0, 0, 0⟩) s = .next t ∧ s.executes t u 1 x ∧ s.onlyUnit t u) ∧
      (∃ t, exec (.rdf u ⟨d, 0, 0, 0, 0, 0, 0⟩) s = .next t ∧ s.executes t u 1 (x.setS d (x.flg.setWidth 32)) ∧ s.onlyUnit t u) ∧
      (imm.toNat < 16 → ∃ t, exec (.clrf u ⟨0, 0, 0, 0, 0, 0, imm⟩) s = .next t ∧
        s.executes t u 1 { x with flg := x.flg &&& ~~~(imm.setWidth 4) } ∧ s.onlyUnit t u) ∧
      (u < 80 → ∃ t, exec (.end_ u ⟨0, 0, 0, 0, 0, 0, 0⟩) s = .next t ∧
        t.lux u = { x with running := false, loops := [], mac := false } ∧ (∀ v, v ≠ u → t.lux v = s.lux v) ∧
        { t with units := s.units, perf := s.perf, tt := { t.tt with openEntries := s.tt.openEntries } } = s ∧
        t.tt.openEntries = (match s.openRun (if u < 64 then u / 4 else u - 64) (if u < 64 then u % 4 else 4) with
          | some i => s.tt.openEntries.filter (· != (if u < 64 then u / 4 else u - 64, i))
          | none => s.tt.openEntries)) ∧
      (let count := imm.toNat % 2 ^ 16
       let len := imm.toNat / 2 ^ 16
       let stop := x.pc + 8 + 8 * len
       0 < len → len < 4096 → x.loops.length < 4 → (∀ g ∈ x.loops, stop ≤ g.stop) → s.bodyHasEnd u (x.pc + 8) len = false →
        ∃ t, exec (.loop u ⟨0, 0, 0, 0, 0, 0, imm⟩) s = .next t ∧ s.onlyUnit t u ∧
          (s.lux u).inPlace (t.lux u) = x ∧
          (0 < count → (t.lux u).loops = ⟨x.pc + 8, stop, count⟩ :: x.loops ∧ (t.lux u).pc = x.pc + 8) ∧
          (count = 0 → x.loops = [] → (t.lux u).loops = [] ∧ (t.lux u).pc = stop))) ∧
  (
    ∀ (s : State) (u a b d : Nat) (imm : Word), s.unitReady u = true → 80 ≤ u → a < 16 → b < 16 → d < 16 →
      let x := s.lux u
      let p := x.s a
      let q := x.s b
      let target : Nat := (((x.pc : Int) + 8 * imm.toInt) % 2 ^ 32).toNat
      let f : Fields := ⟨0, a, b, 0, 0, 0, imm⟩
      (∀ z ∈ [(Instr.beq u f, decide (p = q)), (.bne u f, decide (p ≠ q)), (.blt u f, decide (p.toInt < q.toInt)),
          (.bge u f, decide (q.toInt ≤ p.toInt)), (.bltu u f, decide (p.toNat < q.toNat)), (.bgeu u f, decide (q.toNat ≤ p.toNat))],
        ∃ t, exec z.1 s = .next t ∧ s.onlyUnit t u ∧
          (z.2 = true → t.lux u = { x with pc := target, mac := false }) ∧ (z.2 = false → s.executes t u 1 x)) ∧
      (∃ t, exec (.jal u ⟨d, 0, 0, 0, 0, 0, imm⟩) s = .next t ∧ s.onlyUnit t u ∧
        t.lux u = { x.setS d (BitVec.ofNat 32 (x.pc + 8)) with pc := target, mac := false }) ∧
      (p.toNat % 8 = 0 → ∃ t, exec (.jr u ⟨0, a, 0, 0, 0, 0, 0⟩) s = .next t ∧ s.onlyUnit t u ∧
        t.lux u = { x with pc := p.toNat, mac := false }))

/-- XMOV, XADDI, SFROMX, PMOV, PADDI and SFROMP (R365, R377): index registers wrap at their width, x0 discards writes. -/
def Obligations.IndicesAndPointers : Prop :=
  ∀ (s : State) (u d a : Nat) (imm : Word), s.unitReady u = true →
    let x := s.lux u
    let n : Nat := if u < 64 then 2 ^ 13 else 2 ^ 15
    let setIndex (v : Nat) : Lux := if d = 0 then x else { x with xr := Tab.put 0 x.xr d v }
    (u < 80 → d < 8 → a < 16 → ∃ t, exec (.xmov u ⟨d, a, 0, 0, 0, 0, 0⟩) s = .next t ∧
      s.executes t u 1 (setIndex ((x.s a).toNat % n)) ∧ s.onlyUnit t u) ∧
    (u < 80 → d < 8 → a < 8 → ∃ t, exec (.xaddi u ⟨d, a, 0, 0, 0, 0, imm⟩) s = .next t ∧
      s.executes t u 1 (setIndex (((x.x a : Int) + imm.toInt) % n).toNat) ∧ s.onlyUnit t u) ∧
    (u < 80 → d < 16 → a < 8 → ∃ t, exec (.sfromx u ⟨d, a, 0, 0, 0, 0, 0⟩) s = .next t ∧
      s.executes t u 1 (x.setS d (BitVec.ofNat 32 (if a = 0 then 0 else x.x a))) ∧ s.onlyUnit t u) ∧
    (80 ≤ u → d < 8 → a < 16 → ∃ t, exec (.pmov u ⟨d, a, 0, 0, 0, 0, 0⟩) s = .next t ∧
      s.executes t u 1 (x.setP d (x.s a)) ∧ s.onlyUnit t u) ∧
    (80 ≤ u → d < 8 → a < 8 → ∃ t, exec (.paddi u ⟨d, a, 0, 0, 0, 0, imm⟩) s = .next t ∧
      s.executes t u 1 (x.setP d (x.p a + imm)) ∧ s.onlyUnit t u) ∧
    (80 ≤ u → d < 16 → a < 8 → ∃ t, exec (.sfromp u ⟨d, a, 0, 0, 0, 0, 0⟩) s = .next t ∧
      s.executes t u 1 (x.setS d (x.p a)) ∧ s.onlyUnit t u)

/-- LDV, STV, LDS, STS and SELLD (R90, R367-R369, R378): a T unit reads and writes one word of its memory, with the post-
modify update; a co-issued access directly after a MACB or MACE of an axis engine costs nothing. -/
def Obligations.UnitMemoryAccesses : Prop :=
  ∀ (s : State) (u w : Nat) (f : Fields), s.unitReady u = true → (s.lux u).names u f w → f.a = 0 → f.b = 0 →
    let x := s.lux u
    let cost := if f.f < 8 then 1 else 0
    let coissue : Prop := f.f < 8 ∨ (f.f < 16 ∧ u < 64 ∧ x.mac = true)
    (s.unitBad u w = false → u < 64 → f.d < 32 → f.f % 8 = 0 → coissue → ∃ t, exec (.ldv u f) s = .next t ∧
      s.executes t u cost ((x.setV f.d (stageOfLine (s.unitLine u w))).postModify u f) ∧ s.onlyUnit t u) ∧
    (s.unitBad u w = false → u < 80 → f.d < 16 → coissue → ∃ t, exec (.lds u f) s = .next t ∧
      s.executes t u cost ((x.setS f.d ((s.unitLine u w).get (f.f % 8))).postModify u f) ∧ s.onlyUnit t u) ∧
    (u < 64 → f.d < 32 → f.f % 8 = 0 → coissue → ∃ t, exec (.stv u f) s = .next t ∧
      s.executes t u cost (x.postModify u f) ∧ t.unitLine u w = (x.v f.d).m.map (fun m => m ++ (x.v f.d).e) ∧
      t.unitBad u w = false ∧ s.stored t u (unitAddr u w) 32) ∧
    (s.unitBad u w = false → u < 80 → f.d < 16 → f.f < 8 → ∃ t, exec (.sts u f) s = .next t ∧
      s.executes t u 2 (x.postModify u f) ∧ t.unitLine u w = (s.unitLine u w).set f.f (x.s f.d) ∧
      s.stored t u (unitAddr u w) 32) ∧
    (s.unitBad u w = false → u < 64 → f.d = 0 → f.f = 0 →
      let l := s.unitLine u w
      1 ≤ l.l1.bits 0 10 → l.l1.bits 0 10 ≤ 512 → ∃ t, exec (.selld u f) s = .next t ∧ s.onlyUnit t u ∧
        s.executes t u 1 ({ x with sel := ⟨l.l0.bits 0 13, l.l1.bits 0 10, l.l2.bits 0 4, l.l2.bits 4 4, l.l2.bits 8 8⟩ }.postModify
          u f))

/-- MACB, MACE, MACR, MACRB, ADDA and MOVA (R95-R97, R379): products enter the accumulator, or start it with C; N negates.
-/
def Obligations.MacsAccumulate : Prop :=
  ∀ (s : State) (u : Nat) (f : Fields), s.unitReady u = true → u < 64 → f.d < 8 →
    let x := s.lux u
    let v := x.v f.a
    let e := v.e.toInt
    let into (p : Lanes Int) (g : Int) : Lux :=
      let p := if f.f.testBit 1 then p.map (fun y => -y) else p
      if f.f.testBit 0 then x.setAcc f.d ⟨p.map (BitVec.ofInt 56 ·), BitVec.ofInt 9 g⟩
      else
        let r := accAdd (x.acc f.d) p g
        { x.setAcc f.d r.1 with flg := x.flg ||| (if r.2.ovf then 2 else 0) }
    (f.a < 32 → f.f < 4 → ∀ c, s.readsCoef u f c →
      (f.b < 8 → ∃ t, exec (.macb u f) s = .next t ∧ s.onlyUnit t u ∧ s.executes t u (if f.m = 2 then 2 else 1)
        ((into (c.m.map (fun k => k.toInt * (v.m.get f.b).toInt)) (c.e.toInt + e)).postModify u f)) ∧
      (f.b = 0 → ∃ t, exec (.mace u f) s = .next t ∧ s.onlyUnit t u ∧ s.executes t u (if f.m = 2 then 2 else 1)
        ((into (Lanes.zip (fun k y => k.toInt * y.toInt) c.m v.m) (c.e.toInt + e)).postModify u f))) ∧
    (f.a < 32 → f.f < 4 → f.x = 0 → f.m = 0 →
      (f.b < 32 → f.imm = 0 → ∃ t, exec (.macr u f) s = .next t ∧ s.onlyUnit t u ∧ s.executes t u 1
        (into (Lanes.zip (fun k y => k.toInt * y.toInt) v.m (x.v f.b).m) (e + (x.v f.b).e.toInt))) ∧
      (f.b < 32 → f.imm.toNat < 8 → ∃ t, exec (.macrb u f) s = .next t ∧ s.onlyUnit t u ∧ s.executes t u 1
        (into (v.m.map (fun k => k.toInt * ((x.v f.b).m.get f.imm.toNat).toInt)) (e + (x.v f.b).e.toInt))) ∧
      (f.b = 0 → f.imm = 0 → ∃ t, exec (.adda u f) s = .next t ∧ s.onlyUnit t u ∧ s.executes t u 1
        (into (v.m.map (fun m => m.toInt * 2 ^ 23)) e))) ∧
    (∀ a, a < 8 →
      let z := x.acc a
      (∃ t, exec (.mova u ⟨f.d, a, 0, 0, 0, 0, 0⟩) s = .next t ∧ s.onlyUnit t u ∧ s.executes t u 1 (x.setAcc f.d z)) ∧
      ∃ t, exec (.mova u ⟨f.d, a, 0, 0, 0, 2, 0⟩) s = .next t ∧ s.onlyUnit t u ∧ s.executes t u 1
        { x.setAcc f.d { z with a := z.a.map (fun y => if y = BitVec.intMin 56 then BitVec.intMax 56 else -y) } with
          flg := x.flg ||| (if z.a.toList.contains (BitVec.intMin 56) then 2 else 0) })

/-- FIXV and NORMV (R98-R100), VMOV, VCLAMP, VSEL, VINS, VEXT, VEXP, VSETE, VZERO, VRESC and VNEG (R380). -/
def Obligations.StagesCompute : Prop :=
  ∀ (s : State) (u d a b : Nat) (imm : Word), s.unitReady u = true → u < 64 → d < 32 → a < 32 → b < 32 →
    let x := s.lux u
    let v := x.v a
    let w := x.v b
    let flags (y : Lux) (g : BitVec 4) : Lux := { y with flg := x.flg ||| g }
    let sat (y : Int) : BitVec 24 := if y < -2 ^ 23 then 0x800000 else if 2 ^ 23 ≤ y then 0x7FFFFF else BitVec.ofInt 24 y
    let out (y : Int) : Bool := decide (y < -2 ^ 23 ∨ 2 ^ 23 ≤ y)
    let half (y : Int) (n : Nat) : Int := if n = 0 then y else (y + 2 ^ (n - 1)) / 2 ^ n
    let align (y : Stage) (e : Int) : Lanes (BitVec 24) :=
      y.m.map (fun m => if 24 ≤ e - y.e.toInt then 0 else BitVec.ofInt 24 (half m.toInt (e - y.e.toInt).toNat))
    let top := max v.e.toInt w.e.toInt
    (∀ z ∈ [(Instr.vmov u ⟨d, a, 0, 0, 0, 0, 0⟩, x.setV d v),
        (.vzero u ⟨d, 0, 0, 0, 0, 0, 0⟩, x.setV d ⟨Lanes.fill 0, BitVec.ofInt 8 (-128)⟩),
        (.vclamp u ⟨d, a, b, 0, 0, 0, 0⟩,
          x.setV d ⟨Lanes.zip (fun m n => clampTo m v.e.toInt n w.e.toInt) v.m w.m, v.e⟩),
        (.vneg u ⟨d, a, 0, 0, 0, 0, 0⟩, flags (x.setV d { v with m := v.m.map (fun m => sat (-m.toInt)) })
          (if v.m.toList.any (fun m => out (-m.toInt)) then 1 else 0)),
        (.vneg u ⟨d, a, 0, 0, 0, 1, 0⟩, flags (x.setV d { v with m := v.m.map (fun m => sat m.toInt.natAbs) })
          (if v.m.toList.any (fun m => out m.toInt.natAbs) then 1 else 0))],
      ∃ t, exec z.1 s = .next t ∧ s.executes t u 1 z.2 ∧ s.onlyUnit t u) ∧
    (d < 16 → ∃ t, exec (.vexp u ⟨d, a, 0, 0, 0, 0, 0⟩) s = .next t ∧ s.onlyUnit t u ∧
      s.executes t u 1 (x.setS d (v.e.signExtend 32))) ∧
    (d < 16 → ∀ l, l < 8 → ∃ t, exec (.vext u ⟨d, a, 0, 0, 0, l, 0⟩) s = .next t ∧ s.onlyUnit t u ∧
      s.executes t u 1 (x.setS d ((v.m.get l).signExtend 32))) ∧
    (imm.toNat < 16 → ∃ t, exec (.vsel u ⟨d, a, b, 0, 0, 0, imm⟩) s = .next t ∧ s.onlyUnit t u ∧
      s.executes t u 1 (x.setV d ⟨Lanes.gen (fun k => if (x.s imm.toNat).getLsbD k then (align w top).get k else (align v top).get k),
        BitVec.ofInt 8 top⟩)) ∧
    (imm.toNat < 32 → a < 16 → ∀ l, l < 8 →
      let y := half (x.s a).toInt imm.toNat
      ∃ t, exec (.vins u ⟨d, a, 0, 0, 0, l, imm⟩) s = .next t ∧ s.onlyUnit t u ∧
        s.executes t u 1 (flags (x.setV d { (x.v d) with m := (x.v d).m.set l (sat y) }) (if out y then 1 else 0))) ∧
    (imm.toNat < 256 →
      let i := imm.extractLsb' 0 8
      let n := v.e.toInt + i.toInt
      let r (m : BitVec 24) : Int := if v.e.toInt < i.toInt then half m.toInt (i.toInt - v.e.toInt).toNat
        else m.toInt * 2 ^ (v.e.toInt - i.toInt).toNat
      (∃ t, exec (.vsete u ⟨d, a, 0, 0, 0, 0, imm⟩) s = .next t ∧ s.onlyUnit t u ∧
        s.executes t u 1 (x.setV d { v with e := i })) ∧
      (∃ t, exec (.vsete u ⟨d, a, 0, 0, 0, 1, imm⟩) s = .next t ∧ s.onlyUnit t u ∧
        s.executes t u 1 (flags (x.setV d { v with e := BitVec.ofInt 8 (max (-128) (min 127 n)) })
          (if n < -128 ∨ 127 < n then 4 else 0))) ∧
      (∃ t, exec (.vresc u ⟨d, a, 0, 0, 0, 0, imm⟩) s = .next t ∧ s.onlyUnit t u ∧
        s.executes t u 1 (flags (x.setV d ⟨v.m.map (fun m => sat (r m)), i⟩)
          (if v.m.toList.any (fun m => out (r m)) then 1 else 0))) ∧
      (a < 8 → ∃ t, exec (.fixv u ⟨d, a, 0, 0, 0, 0, imm⟩) s = .next t ∧ s.onlyUnit t u ∧
        s.executes t u 1 (flags (x.setV d (storeFixed (x.acc a) i).1) (if (storeFixed (x.acc a) i).2.sat then 1 else 0)))) ∧
    (a < 8 →
      let r := storeNorm (x.acc a)
      ∃ t, exec (.normv u ⟨d, a, 0, 0, 0, 0, 0⟩) s = .next t ∧ s.onlyUnit t u ∧ s.executes t u 2
        (flags (x.setV d r.1) ((if r.2.sat then 1 else 0) ||| (if r.2.eclamp then 4 else 0) ||| (if r.2.zero then 8 else 0))))

/-- VCMP (R380): bit k of sD is the condition on lane k by exact value, and the other bits are 0. -/
def Obligations.VcmpComparesExactly : Prop :=
  ∀ (s : State) (u d a b cond : Nat), s.unitReady u = true → u < 64 → d < 16 → a < 32 → b < 32 → cond < 4 →
    let x := s.lux u
    let value (st : Stage) (k : Nat) : ℚ := ((st.m.get k).toInt : ℚ) * 2 ^ st.e.toInt
    let p (k : Nat) : ℚ := value (x.v a) k
    let q (k : Nat) : ℚ := value (x.v b) k
    ∃ t r, exec (.vcmp u ⟨d, a, b, 0, 0, cond, 0⟩) s = .next t ∧ s.executes t u 1 (x.setS d r) ∧ s.onlyUnit t u ∧
      (∀ k, 8 ≤ k → r.getLsbD k = false) ∧
      ∀ k, k < 8 → (r.getLsbD k = true ↔
        (cond = 0 ∧ p k < q k) ∨ (cond = 1 ∧ p k ≤ q k) ∨ (cond = 2 ∧ p k = q k) ∨ (cond = 3 ∧ |q k| < |p k|))

/-- VSQRT (R381): the root of each lane rounded down, at half the exponent; a negative lane gives 0 and raises SAT. -/
def Obligations.VsqrtRoundsDown : Prop :=
  ∀ (s : State) (u d a : Nat), s.unitReady u = true → u < 64 → d < 32 → a < 32 →
    let x := s.lux u
    let v := x.v a
    let r : Nat := if v.e.toInt % 2 = 0 then 1 else 0
    ∃ t st, exec (.vsqrt u ⟨d, a, 0, 0, 0, 0, 0⟩) s = .next t ∧ s.onlyUnit t u ∧
      s.executes t u 4 { x.setV d st with flg := x.flg ||| (if v.m.toList.any (fun m => m.slt 0) then 1 else 0) } ∧
      st.e.toInt = (v.e.toInt + 1 - r) / 2 ∧
      ∀ k, k < 8 →
        let m := (v.m.get k).toInt
        let q := (st.m.get k).toInt
        (m < 0 → q = 0) ∧ (0 ≤ m → 0 ≤ q ∧ q * q ≤ m * 2 ^ (22 + r) ∧ m * 2 ^ (22 + r) < (q + 1) * (q + 1))

/-- SINCOS (R382): exponent 1, and the lanes cos, sin, -sin, cos, twice, from the quarter-wave table by interpolation. -/
def Obligations.SincosLanes : Prop :=
  ∀ (s : State) (u d a : Nat), s.unitReady u = true → u < 64 → d < 32 → a < 16 →
    let x := s.lux u
    let angle := (x.s a).toNat
    let b := angle % 2 ^ 30
    let p := quarterWave b
    let n := quarterWave (2 ^ 30 - b)
    let sin := match angle / 2 ^ 30 with
      | 0 => p
      | 1 => n
      | 2 => -p
      | _ => -n
    let cos := match angle / 2 ^ 30 with
      | 0 => n
      | 1 => -p
      | 2 => -n
      | _ => p
    let lane (y : Int) : BitVec 24 := BitVec.ofInt 24 y
    ∃ t, exec (.sincos u ⟨d, a, 0, 0, 0, 0, 0⟩) s = .next t ∧ s.onlyUnit t u ∧
      s.executes t u 3 (x.setV d ⟨⟨lane cos, lane sin, lane (-sin), lane cos, lane cos, lane sin, lane (-sin), lane cos⟩, 1⟩)

/-- BIQ and FIR (R102-R104, R383): every section's output is its biquad sum rounded and saturated once and goes into the next
section, the delayed inputs and outputs of a section move up by one, and the delay line of a FIR takes the input at its head; SAT
tells a saturated output, and the words of the areas that the filter does not write stay as they are. -/
def Obligations.FiltersRun : Prop :=
  ∀ (s : State) (u d a b : Nat) (imm : Word), s.unitReady u = true → 64 ≤ u → u < 80 → d < 16 → a < 16 → b < 16 →
    let x := s.lux u
    let out := (x.s d).toNat
    let inp := (x.s a).toNat
    let blk := (x.s b).toNat
    let at' (w : Nat) : Nat := 0x01000000 + (u - 64) * 0x100000 + 32 * w
    let old (w k : Nat) : Int := (((s.unitLine u w).get k).extractLsb' 8 24).toInt
    let word (y : Int) : Word := BitVec.ofInt 24 y ++ 0#8
    let sat (z : Int) : Int := max (-2 ^ 23) (min (2 ^ 23 - 1) z)
    let round (z : Int) (n : Nat) : Int := (z + 2 ^ (n - 1)) / 2 ^ n
    let flags (g : Bool) : Lux := { x with flg := x.flg ||| (if g then 1 else 0) }
    out < 32768 → inp < 32768 → s.unitBad u inp = false →
    (∀ n, 1 ≤ n → n ≤ 16 → imm = BitVec.ofNat 32 n → blk + 10 * n ≤ 32768 → (∀ k, k < 10 * n → s.unitBad u (blk + k) = false) →
      ∃ (t : State) (y z : Nat → Nat → Int), exec (.biq u ⟨d, a, b, 0, 0, 0, imm⟩) s = .next t ∧
        (∀ k, k < 8 → y 0 k = old inp k) ∧
        (∀ i k, i < n → k < 8 →
          let w (j : Nat) : Int := old (blk + 10 * i + j) k
          let shift := ((s.unitLine u (blk + 10 * i)).get 0).toNat % 4
          z i k = round (w 1 * y i k + w 2 * w 6 + w 3 * w 7 + w 4 * w 8 + w 5 * w 9) (23 - shift) ∧ y (i + 1) k = sat (z i k) ∧
          (∀ j v, (j, v) ∈ [(6, y i k), (7, w 6), (8, y (i + 1) k), (9, w 8)] → blk + 10 * i + j ≠ out →
            (t.unitLine u (blk + 10 * i + j)).get k = word v)) ∧
        (∀ k, k < 8 → (t.unitLine u out).get k = word (y n k)) ∧
        s.executes t u (7 * n + 3) (flags ((List.range n).any (fun i => (List.range 8).any (fun k => z i k != sat (z i k))))) ∧
        (∀ c, (c < at' out ∨ at' out + 32 ≤ c) →
          (∀ i, i < n → c < at' (blk + 10 * i + 6) ∨ at' (blk + 10 * i + 10) ≤ c) → t.mem.byte c = s.mem.byte c) ∧
        s.unitAndMemory t u) ∧
    (∀ n, 1 ≤ n → n ≤ 256 → imm = BitVec.ofNat 32 n → blk + 2 * n + 1 ≤ 32768 →
      (∀ k, k < 2 * n + 1 → s.unitBad u (blk + k) = false) → (out < blk ∨ blk + 2 * n + 1 ≤ out) →
      let head := s.unitLine u blk
      let h := head.l0.bits 0 8 % n
      let line (j k : Nat) : Int := if j = h then old inp k else old (blk + n + 1 + j) k
      let sum (k : Nat) : Int := ((List.range n).map (fun j => old (blk + 1 + j) k * line ((h + n - j) % n) k)).sum
      let y (k : Nat) : Int := round (sum k) 23
      ∃ t, exec (.fir u ⟨d, a, b, 0, 0, 0, imm⟩) s = .next t ∧
        s.executes t u (n + 5) (flags ((List.range 8).any (fun k => y k != sat (y k)))) ∧
        (∀ k, k < 8 → (t.unitLine u out).get k = word (sat (y k)) ∧ (t.unitLine u (blk + n + 1 + h)).get k = word (old inp k)) ∧
        t.unitLine u blk = { head with l0 := head.l0 &&& 0xFFFFFF00#32 ||| BitVec.ofNat 32 ((h + 1) % n) } ∧
        (∀ c, (c < at' out ∨ at' out + 32 ≤ c) → (c < at' blk ∨ at' (blk + 1) ≤ c) →
          (c < at' (blk + n + 1 + h) ∨ at' (blk + n + 2 + h) ≤ c) → t.mem.byte c = s.mem.byte c) ∧
        s.unitAndMemory t u)

/-- FFT (R105-R107, R383): the transform of the points of the input area, forward or inverse, in the output area, which may be the
input area; four points to a word, the final block exponent in every lane, at most 127 with ECLAMP, and SAT where a butterfly
output saturated. -/
def Obligations.TransformsRun : Prop :=
  ∀ (s : State) (u d a p : Nat) (inverse : Bool), s.unitReady u = true → 64 ≤ u → u < 80 → d < 16 → a < 16 → 4 ≤ p → p ≤ 12 →
    let x := s.lux u
    let out := (x.s d).toNat
    let inp := (x.s a).toNat
    let n := 2 ^ p / 4
    out + n ≤ 32768 → inp + n ≤ 32768 → (out = inp ∨ out + n ≤ inp ∨ inp + n ≤ out) →
      (∀ k, k < n → s.unitBad u (inp + k) = false) →
      let r := transform p inverse (twiddles (2 ^ p) inverse) (s.points u inp n) ((s.unitLine u inp).l0.extractLsb' 0 8).toInt
      let e := BitVec.ofInt 8 (min 127 r.2.1)
      let g : BitVec 4 := (if r.2.2 then 1 else 0) ||| (if 127 < r.2.1 then 4 else 0)
      ∃ t, exec (.fft u ⟨d, a, 0, 0, 0, 0, BitVec.ofNat 32 (p + 16 * bitNat inverse)⟩) s = .next t ∧
        s.executes t u (2 ^ p / 4 + p / 2 * (2 ^ p / 2 + 16) + p % 2 * (2 ^ p / 4 + 16)) { x with flg := x.flg ||| g } ∧
        (∀ k j, k < n → j < 4 →
          (t.unitLine u (out + k)).get (2 * j) = BitVec.ofInt 24 (nthD ⟨0, 0⟩ r.1 (4 * k + j)).re ++ e ∧
          (t.unitLine u (out + k)).get (2 * j + 1) = BitVec.ofInt 24 (nthD ⟨0, 0⟩ r.1 (4 * k + j)).im ++ e) ∧
        s.stored t u (0x01000000 + (u - 64) * 0x100000 + 32 * out) (32 * n)

/-- LDW, LDBU, LDD, STW, STB, STD and AMOADD (R385, R392): aligned accesses to memory open to the soft plane. RGR and RGW
(R385, R504): a register read into a scalar, and a scalar written with the soft plane's rights. -/
def Obligations.SoftPlaneAccesses : Prop :=
  (
    ∀ (s : State) (u d b k : Nat) (imm : Word), s.unitReady u = true → 80 ≤ u → d < 16 → b < 16 → k < 8 →
      let x := s.lux u
      let a : Nat := ((((x.p k).toNat : Int) + imm.toInt) % 2 ^ 32).toNat
      let f : Fields := ⟨d, 0, 0, k, 0, 0, imm⟩
      (s.softReads a = true → inMatching a = false → s.undecodable a = false →
        (a % 4 = 0 → ∃ t, exec (.ldw u f) s = .next t ∧ s.onlyUnit t u ∧ s.executes t u 1 (x.setS d (s.mem.word a))) ∧
        (∃ t, exec (.ldbu u f) s = .next t ∧ s.onlyUnit t u ∧ s.executes t u 1 (x.setS d ((s.mem.byte a).setWidth 32))) ∧
        (a % 8 = 0 → d % 2 = 0 → ∃ t, exec (.ldd u f) s = .next t ∧ s.onlyUnit t u ∧
          s.executes t u 1 ((x.setS d (s.mem.word a)).setS (d + 1) (s.mem.word (a + 4))))) ∧
      (s.softWrites a = true →
        (a % 4 = 0 → ∃ t, exec (.stw u f) s = .next t ∧ s.executes t u 1 x ∧ s.stored t u a 4 ∧ t.mem.word a = x.s d) ∧
        (∃ t, exec (.stb u f) s = .next t ∧ s.executes t u 1 x ∧ s.stored t u a 1 ∧ t.mem.byte a = (x.s d).setWidth 8) ∧
        (a % 8 = 0 → d % 2 = 0 → ∃ t, exec (.std u f) s = .next t ∧ s.executes t u 1 x ∧ s.stored t u a 8 ∧
          t.mem.word a = x.s d ∧ t.mem.word (a + 4) = x.s (d + 1)) ∧
        (a % 4 = 0 → s.undecodable a = false → ∃ t, exec (.amoadd u ⟨d, 0, b, k, 0, 0, imm⟩) s = .next t ∧
          s.executes t u 1 (x.setS d (s.mem.word a)) ∧ s.stored t u a 4 ∧ t.mem.word a = s.mem.word a + x.s b))) ∧
  (
    ∀ (s : State) (u d : Nat) (imm : Word), s.unitReady u = true → 80 ≤ u → d < 16 → imm.toNat % 4 = 0 → imm.toNat < 0x100000 →
      (imm.toNat < 0x2000 ∨ 0x20C0 ≤ imm.toNat) →
      let x := s.lux u
      (∃ t, exec (.rgr u ⟨d, 0, 0, 0, 0, 0, imm⟩) s = .next t ∧ s.onlyUnit t u ∧
        s.executes t u 1 (x.setS d (s.readReg imm.toNat))) ∧
      (∀ r, s.writeReg (u - 79) imm.toNat (x.s d) = (r, false) →
        ∃ t, exec (.rgw u ⟨d, 0, 0, 0, 0, 0, imm⟩) s = .next t ∧ r.onlyUnit t u ∧
          (r.lux u).inPlace (t.lux u) = r.lux u ∧ (x.loops = [] → r.lux u = x → (t.lux u).pc = x.pc + 8)))

/-- TEND, TPOST, TDLY and FLT (R387, R389, R390, R394, R395, R400): a task ends, posts a token or is refused, is suspended for
passages or for microseconds with its context saved, and leaves a fault record, going on or, with F = 1, ending. -/
def Obligations.TaskInstructions : Prop :=
  ∀ (s : State) (u d a b : Nat), s.unitReady u = true → 80 ≤ u → d < 16 → a < 16 → b < 16 →
    let x := s.lux u
    (∀ k, (s.core (u - 80)).task = some k → s.entry k = none →
      ∃ t, exec (.tend u ⟨0, 0, 0, 0, 0, 0, 0⟩) s = .next t ∧ (t.core (u - 80)).task = none ∧ t.descState k = 1 ∧
        (∀ c, c ≠ u - 80 → t.core c = s.core c) ∧ s.memorySame t (descAddr k + 20) 1 ∧
        { t.memoryFrom s with sched := { t.sched with cores := s.sched.cores } } = s) ∧
    (∀ slot, slot < 4 →
      let k := (x.s a).toNat
      let f : Fields := ⟨d, a, b, 0, 0, 0, BitVec.ofNat 32 slot⟩
      k < 4096 → s.undecodable (descAddr k) = false → s.sched.fault = false → s.descState k ≠ 0 → slot < s.descNtok k →
      (2 ≤ s.descNtok k → s.entry k = none → s.sched.entries.length < 1024 →
        ∃ t, exec (.tpost u f) s = .next t ∧ s.executes t u 1 (x.setS d 0) ∧
          t.entry k = some (({} : Match).setSlot slot (some (x.s b))) ∧ (∀ j, j ≠ k → t.entry j = s.entry j) ∧
          { s with sched := { s.sched with entries := t.sched.entries } }.onlyUnit t u) ∧
      (∀ m, s.entry k = some m → (m.slot slot).isSome = true →
        ∃ t, exec (.tpost u f) s = .next t ∧ s.executes t u 1 (x.setS d (BitVec.ofNat 32 codeBackpressure)) ∧
          { s with sched := { s.sched with bpTpost := Nat.min 0xFFFF (s.sched.bpTpost + 1) } }.onlyUnit t u)) ∧
    (∀ k (micro : Bool), (s.core (u - 80)).task = some k →
      let n := (x.s a).toNat
      let ctx := (s.descWord k 12).toNat
      1 ≤ n → n < 2 ^ 24 → ctx ≠ 0 → (ctx + 128 ≤ descAddr k ∨ descAddr k + 32 ≤ ctx) →
      ∃ t, exec (.tdly u ⟨d, a, 0, 0, 0, bitNat micro, 0⟩) s = .next t ∧ (t.core (u - 80)).task = none ∧ t.descState k = 5 ∧
        (micro = false → (k, n) ∈ t.sched.dlyPassage ∧ t.sched.dlyMicro = s.sched.dlyMicro) ∧
        (micro = true → (k, s.time.raw.toNat / 1000 + n) ∈ t.sched.dlyMicro ∧ t.sched.dlyPassage = s.sched.dlyPassage) ∧
        Tab.get 0 t.sched.dlyReg k = d ∧ (∀ j, j < 16 → t.mem.word (ctx + 4 * j) = x.s j) ∧
        (∀ j, j < 8 → t.mem.word (ctx + 64 + 4 * j) = x.p j) ∧ t.mem.word (ctx + 96) = BitVec.ofNat 32 (x.pc + 8) ∧
        (∀ c, c ≠ u - 80 → t.core c = s.core c) ∧
        (∀ z, (z < ctx ∨ ctx + 128 ≤ z) → z ≠ descAddr k + 20 → t.mem.byte z = s.mem.byte z) ∧
        { t.memoryFrom s with sched := { t.sched with
            cores := s.sched.cores, dlyReg := s.sched.dlyReg, dlyPassage := s.sched.dlyPassage, dlyMicro := s.sched.dlyMicro } } = s) ∧
    (∀ n : Word, n = x.s a → (n = 0 ∨ 2 ^ 24 ≤ n.toNat) →
      ∃ t, exec (.tdly u ⟨d, a, 0, 0, 0, 0, 0⟩) s = .next t ∧ s.executes t u 1 (x.setS d 2) ∧ s.onlyUnit t u) ∧
    (∀ code : Word, code.toNat < 2 ^ 16 →
      let c := u - 80
      let ring := 0x02000000 + c / 2 * 0x00200000 + 0x001FF000 + 0x800 * (c % 2)
      let written := s.mem.word ring
      let place := ring + 32 * (1 + written.toNat % 63)
      (63 ≤ (written - s.mem.word (ring + 4)).toNat → ∃ t, exec (.flt u ⟨0, 0, 0, 0, 0, 0, code⟩) s = .next t ∧
        s.executes t u 1 x ∧ t.mem.word (ring + 8) = s.mem.word (ring + 8) + 1 ∧ s.stored t u (ring + 8) 4) ∧
      (∀ k, (s.core c).task = some k → k < 4096 → s.entry k = none → ∃ t, exec (.flt u ⟨0, 0, 0, 0, 0, 1, code⟩) s = .next t ∧
        (t.core c).task = none ∧ t.descState k = 1 ∧ t.units = s.units ∧ (∀ j, j ≠ c → t.core j = s.core j)) ∧
      ((written - s.mem.word (ring + 4)).toNat < 63 →
      ∃ t, exec (.flt u ⟨0, 0, 0, 0, 0, 0, code⟩) s = .next t ∧ s.executes t u 1 x ∧ t.mem.word ring = written + 1 ∧
        t.mem.bytes place 32 = [BitVec.ofNat 8 c, 6#8] ++ bytesLE 2 code.toNat ++ bytesLE 4 x.pc ++
          bytesLE 8 (0xA3 * 2 ^ 56 + code.toNat) ++ bytesLE 4 0 ++ bytesLE 2 ((s.core c).task.getD 0) ++ bytesLE 2 0 ++
          bytesLE 4 s.tt.passage.toNat ++ bytesLE 4 (s.time.time.toNat % 2 ^ 32) ∧
        (∀ z, (z < ring ∨ ring + 4 ≤ z) → (z < place ∨ place + 32 ≤ z) → t.mem.byte z = s.mem.byte z) ∧ s.unitAndMemory t u))

/-- ILLEGAL_INSTRUCTION (R374, R388): a word with an opcode that its unit does not execute stops a T unit for the passage
with a unit fault; on an S-core it ends the task with an ILLEGAL record. An S-core that cannot fetch the word at its pc ends its
task too, with an ALIGN, PROTECT or ECC record in place of what the word would do; its INSTR is 0 (log 127). -/
def Obligations.IllegalWordsStop : Prop :=
  ∀ (s : State) (u : Nat) (w : U64),
    (u < 80 → s.unitReady u = true → luxOpOf u (w.toNat / 2 ^ 56) = none → ∃ t, exec (.illegalInstruction u w) s = .next t ∧
      t.unitStopped u = true ∧ unitIdentity u ∈ t.faults.units ∧ t.units = s.units ∧ t.mem = s.mem ∧ t.regs = s.regs) ∧
    (80 ≤ u →
      let c := u - 80
      let ring := 0x02000000 + c / 2 * 0x00200000 + 0x001FF000 + 0x800 * (c % 2)
      let written := s.mem.word ring
      let place := ring + 32 * (1 + written.toNat % 63)
      let pc := (s.lux u).pc
      ∀ k, (s.core c).task = some k → s.entry k = none → k < 4096 → (written - s.mem.word (ring + 4)).toNat < 63 →
      let ended (t : State) (cause : Byte) : Prop :=
        (t.core c).task = none ∧ t.descState k = 1 ∧ t.units = s.units ∧ t.mem.word ring = written + 1 ∧
          t.mem.byte (place + 1) = cause ∧ (∀ j, j ≠ c → t.core j = s.core j) ∧
          (∀ z, (z < ring ∨ ring + 4 ≤ z) → (z < place ∨ place + 32 ≤ z) → z ≠ descAddr k + 20 → t.mem.byte z = s.mem.byte z) ∧
          { t.memoryFrom s with sched := { t.sched with cores := s.sched.cores } } = s
      (s.unitReady u = true → luxOpOf u (w.toNat / 2 ^ 56) = none →
        ∃ t, exec (.illegalInstruction u w) s = .next t ∧ ended t 1) ∧
      (s.unitActs u = true → ∀ i ∈ [Instr.illegalInstruction u w, .nop u ⟨0, 0, 0, 0, 0, 0, 0⟩, .tend u ⟨0, 0, 0, 0, 0, 0, 0⟩],
        (pc % 8 ≠ 0 → ∃ t, exec i s = .next t ∧ ended t 2 ∧ t.mem.word (place + 4) = BitVec.ofNat 32 pc ∧
          t.mem.word (place + 16) = BitVec.ofNat 32 pc) ∧
        (pc % 8 = 0 → s.softReads pc = false → ∃ t, exec i s = .next t ∧ ended t 3) ∧
        (pc % 8 = 0 → s.softReads pc = true → s.undecodable pc = true → inRings pc = false →
          ∃ t, exec i s = .next t ∧ (t.core c).task = none ∧ t.mem.byte (place + 1) = 4 ∧
            (inRegion pc = true → unitIdentity u ∈ t.faults.units ∧ (t.core c).out = true))))

/-- AX_ENABLE, AX_DISABLE, AX_MODE and AX_CLEAR (R130, R133, R135, R137, R147): an accepted one moves its instance to the
state that it names, with the generator that follows it, and nothing else; AX_DISABLE ends the latched reaction of HOLD, QSTOP and
STO, which is the model's choice (log 112). AX_COMMIT, AX_RETUNE and AX_SET_LOAD (R120, R134,
R139, R141): the staged page comes into use at once, a selector outside a blend stands on the set of its region (of region 0
where REGIONS no longer has it: the model's reading, log 98), and a computed or a staged set is due for its slot 64 passages
later. -/
def Obligations.AxisCommands : Prop :=
  (
    ∀ (s : State) (c : Ctx) (i : Nat), s.mapped i = true →
      let a := s.axis i
      let moved (t : State) (opc : Nat) : Prop :=
        s.carriedOut t c opc 0 { s with axes := t.axes, gens := t.gens } ∧ s.axesSame t i ∧
          t.gen i = followState (t.axis i).st (s.kindOf i == 2) (s.gen i)
      let uman := (List.range 4).map (fun j => s.cfgW (axOff i (0x80 + 4 * j)))
      (∀ mode, s.admits c 0x40 [i, mode] = true → a.st = .disabled → s.safetyHolds i = false → s.faults.pkg = false →
        s.swapForbids i = false → mode ≤ 1 → ∃ t, exec (.axEnable c i mode) s = .next t ∧ moved t 0x40 ∧
          t.axis i = (if mode = 1 then { a with st := .manual, manual := uman } else { a with st := .auto })) ∧
      (s.admits c 0x41 [i] = true → a.st ≠ .faulted → a.st ≠ .disabled →
        ∃ t, exec (.axDisable c i) s = .next t ∧ moved t 0x41 ∧ (t.axis i).st = .disabled ∧
          (∀ l, a.latched = some l → (t.axis i).latched = if l.react = 0 then some l else none)) ∧
      (s.admits c 0x42 [i, 1, 0] = true → a.st = .auto → ∃ t, exec (.axMode c i 1 false) s = .next t ∧ moved t 0x42 ∧
        t.axis i = { a with st := .manual, manual := if (s.cfgW (axOff i 0)).bit 2 then uman
          else (List.range 4).map (stageWord a.uSat1) }) ∧
      (s.admits c 0x42 [i, 0, 1] = true → a.st = .manual → (s.cfgW (axOff i 0)).bit 2 = true →
        ∃ t, exec (.axMode c i 0 true) s = .next t ∧ moved t 0x42 ∧ t.axis i = { a with st := .auto, firstAuto := false }) ∧
      (s.admits c 0x46 [i] = true → a.latched = none → s.safetyHolds i = false → (a.st = .hold ∨ a.st = .qstop ∨ a.st = .sto) →
        ∃ t, exec (.axClear c i) s = .next t ∧ moved t 0x46 ∧
          t.axis i = { a with st := if a.st = .sto then .disabled else .auto, supCount := 0 })) ∧
  (
    ∀ (s : State) (c : Ctx) (i : Nat), s.mapped i = true → (s.axis i).st ≠ .faulted →
      let a := s.axis i
      (s.admits c 0x43 [i] = true → (s.cfgW (axOff i 0)).bit 31 = false → a.st ≠ .manual →
        (a.st.enabled = false ∨ s.axPageFixedChange i = false) → s.axPageInRange i (s.servoWire i) = true →
        ∃ t, exec (.axCommit c i) s = .next t ∧ s.carriedOut t c 0x43 0 { s with axes := t.axes, regs := t.regs } ∧
          (∀ o, t.cfgW o = if (axisStagedOffs.map (axOff i)).contains o then s.stgW o else s.cfgW o) ∧
          (a.blend.isSome = true ∨ a.decided.isSome = true → t.axis i = { a with staged := false }) ∧
          (a.blend = none → a.decided = none →
            let r := if a.region < t.axRegions i then a.region else 0
            t.axis i = { a with staged := false, region := r, sel := t.axMap i r, nxt := t.axMap i r, w := 0 }) ∧
          ∀ j, j ≠ i → t.axis j = s.axis j) ∧
      (∀ k f w, s.admits c 0x44 [i, k] = true → s.servoWire i = some w → k < s.axRegions i →
        let row := s.cascadeRow i k
        let set := cascadeEntries w row s.periodNs
        cascadeInRange row s.periodNs = true → cascadeSaturates w set = false → w.form = false →
        (s.cfgW (axOff i 0)).bit 1 = false → s.retuneSlot i k = some f → s.loadRefused i (some f) = false →
        ∃ t, exec (.axRetune c i k) s = .next t ∧ s.carriedOut t c 0x44 0 { s with axes := t.axes } ∧
          t.axis i = { a with load := some ⟨k, f, s.tt.passage + 64, cascadeSet w set, some (nthD 0 row 7)⟩ } ∧
          ∀ j, j ≠ i → t.axis j = s.axis j) ∧
      (∀ k f w, s.admits c 0x45 [i, k, f] = true → s.servoWire i = some w → k < s.axRegions i → f < 16 →
        (s.cfgW (axOff i 0)).bit 1 = true → s.slotSuits i k f = true → s.loadRefused i (some f) = false →
        ∃ t, exec (.axSetLoad c i k f) s = .next t ∧ s.carriedOut t c 0x45 0 { s with axes := t.axes } ∧
          t.axis i = { a with load := some ⟨k, f, s.tt.passage + 64,
            (List.range w.stride).map (fun n => s.mem.line (w.stage + 32 * n)), none⟩ } ∧ ∀ j, j ≠ i → t.axis j = s.axis j))

/-- MV_QUEUE, MV_CHANGE, MV_FLUSH and MV_QSTOP (R168-R173, R178): the moves of one generator. -/
def Obligations.MovesAreQueued : Prop :=
  ∀ (s : State) (c : Ctx) (g : Nat), s.genAbsent g = false → s.genFaulted g = false →
    let x := s.gen g
    let only (t : State) (opc : Nat) : Prop :=
      s.carriedOut t c opc 0 { s with gens := t.gens } ∧ ∀ j, j ≠ g → t.gen j = s.gen j
    (∀ (target : U64) (vmax : Word) (relative blend : Bool),
      let goal : Int := if relative then x.startPoint + target.toInt else target.toInt
      s.admits c 0x50 [g, target.toNat, vmax.toNat, bitNat relative, bitNat blend] = true →
      (goal - x.startPoint).natAbs < 2 ^ 47 → s.vmaxBad g vmax = false → (x.gst = .idle ∨ x.gst = .run) →
      s.genActive g = true → s.mvBarred g = false → x.intoLimit (goal - x.startPoint) = false → 0 < x.nFree →
      ∃ t, exec (.mvQueue c g target vmax relative blend) s = .next t ∧ only t 0x50 ∧
        t.gen g = { x with moves := x.moves ++ [⟨goal, (speedUnits vmax s.periodNs).toNat, blend, false, true, false, x.startPoint⟩] }) ∧
    (∀ (target : U64) (vmax : Word) m, s.admits c 0x51 [g, target.toNat, vmax.toNat, 0, 1] = true → x.gst = .run →
      x.current = some m → s.mvBarred g = false → s.vmaxBad g vmax = false →
      ∃ t, exec (.mvChange c g target vmax false true) s = .next t ∧ only t 0x51 ∧
        t.gen g = x.mapCurrent (fun m => { m with vmax := (speedUnits vmax s.periodNs).toNat })) ∧
    (∀ (target : U64) (vmax : Word) m, s.admits c 0x51 [g, target.toNat, vmax.toNat, 1, 0] = true → x.gst = .run →
      x.current = some m → s.mvBarred g = false → (target.toInt - m.start).natAbs < 2 ^ 47 →
      x.intoLimit (target.toInt * oneCount - x.p) = false →
      ((s.profile g).stopDist x.v (s.profile g).vstop : Int) ≤ x.dir * (target.toInt * oneCount - x.p) →
      ∃ t, exec (.mvChange c g target vmax true false) s = .next t ∧ only t 0x51 ∧
        t.gen g = { x.mapCurrent (fun m => { m with target := target.toInt }) with braking := false }) ∧
    (s.admits c 0x52 [g] = true → x.gst ≠ .home → s.mvBarred g = false → ∃ t, exec (.mvFlush c g) s = .next t ∧ only t 0x52 ∧
      (t.gen g).moves = x.moves.filter (·.executing) ∧ (t.gen g).p = x.p ∧ (t.gen g).v = x.v) ∧
    (s.admits c 0x53 [g] = true → s.mvBarred g = false → x.gst = .run → x.stop = none → x.homing = none →
      ∃ t, exec (.mvQstop c g) s = .next t ∧ only t 0x53 ∧
        t.gen g = { x with gst := .stop, stop := some .quick, moves := [], clampDec := none, braking := false })

/-- MV_HSTOP, MV_HOME and CH_ENABLE (R172, R179-R181, R186-R191, R204): the hard stop of a servo, a ring stepper and a local
channel, homing by the present position, and channels turned on and off. -/
def Obligations.StopsAndHoming : Prop :=
  ∀ (s : State) (c : Ctx) (g : Nat), s.genAbsent g = false → s.genFaulted g = false →
    let x := s.gen g
    (s.admits c 0x54 [g] = true → s.mvBarred g = false → ∃ t, exec (.mvHstop c g) s = .next t ∧
      s.carriedOut t c 0x54 0 { s with gens := t.gens, chans := t.chans } ∧ (∀ j, j ≠ g → t.gen j = s.gen j) ∧
      (t.gen g).v = 0 ∧ (t.gen g).moves = [] ∧ (t.gen g).stop = none ∧ (t.gen g).hstop = true ∧
      (t.gen g).gst = (if x.gst = .track then .track else .idle) ∧
      (g < 512 → t.chans = s.chans ∧ (s.kindOf g = 2 → (t.gen g).adopt = true ∧ (t.gen g).homed = false)) ∧
      (512 ≤ g → (t.chan (g - 512)).rate = 0 ∧ (t.chan (g - 512)).rateNext = none ∧ (t.chan (g - 512)).stopFlag = true ∧
        (t.chan (g - 512)).stopCause = 1 ∧ (t.gen g).homed = false ∧ ∀ j, j ≠ g - 512 → t.chan j = s.chan j)) ∧
    (∀ (vsearch : Word) (home : U64) (range : Word), s.admits c 0x55 [g, 0, 0, vsearch.toNat, home.toNat, range.toNat, 0] = true →
      1 ≤ range.toNat → range.toNat < 2 ^ 31 → s.mvBarred g = false → x.gst = .idle →
      ∃ t, exec (.mvHome c g 0 0 vsearch home range false) s = .next t ∧
        s.carriedOut t c 0x55 0 { s with gens := t.gens } ∧ (∀ j, j ≠ g → t.gen j = s.gen j) ∧
        (t.gen g).offset = home.toInt - x.raw ∧ (t.gen g).homed = true ∧ (t.gen g).homeResult = 0 ∧
        (t.gen g).p - (t.gen g).offset * oneCount = x.p - x.offset * oneCount) ∧
    (∀ k, g = 512 + k →
      (s.admits c 0x57 [k, 1] = true → (s.chan k).enabled = false → s.safetyBlocks k = false →
        ∃ t, exec (.chEnable c k true) s = .next t ∧ s.carriedOut t c 0x57 0 { s with gens := t.gens, chans := t.chans } ∧
          (t.chan k).enabled = true ∧ (t.chan k).driven = true ∧ (t.gen g).gst = .idle ∧ (t.gen g).v = 0 ∧ (∀ j, j ≠ g → t.gen j = s.gen j) ∧
          ∀ j, j ≠ k → t.chan j = s.chan j) ∧
      (s.admits c 0x57 [k, 0] = true → ∃ t, exec (.chEnable c k false) s = .next t ∧
        s.carriedOut t c 0x57 0 { s with gens := t.gens, chans := t.chans } ∧ (t.chan k).enabled = false ∧
        (t.chan k).rate = 0 ∧ (t.chan k).stopFlag = true ∧ (t.chan k).stopCause = 2 ∧ (t.gen g).gst = .track ∧
        (∀ j, j ≠ g → t.gen j = s.gen j) ∧
        ∀ j, j ≠ k → t.chan j = s.chan j))

/-- PF_COMMIT, FB_COMMIT, RG_COMMIT, PTP_COMMIT and GOV_COMMIT (R134, R174, R236, R281, R317, R434): the staged registers of
their page come into use, and no other register changes. -/
def Obligations.CommitsTakeEffect : Prop :=
  ∀ (s : State) (c : Ctx),
    let committed (t : State) (l : List Nat) : Prop := ∀ o, t.cfgW o = if l.contains o then s.stgW o else s.cfgW o
    (∀ g, s.admits c 0x56 [g] = true → s.genAbsent g = false → s.genFaulted g = false → (s.cfgW (pfOff g 0)).bit 31 = false →
      s.genPageInRange g = true → (s.gen g).gst ≠ .home → (512 ≤ g → (s.chan (g - 512)).enabled = false) →
      ∃ t, exec (.pfCommit c g) s = .next t ∧ s.carriedOut t c 0x56 0 { s with gens := t.gens, regs := t.regs } ∧
        committed t (genStagedOffs g) ∧ (t.gen g).staged = false ∧ ∀ j, j ≠ g → t.gen j = s.gen j) ∧
    (∀ ch, s.admits c 0x60 [ch] = true → s.chAbsent ch = false → s.fbPageOk ch = true → s.fbFeedsEnabled ch = false →
      ∃ t, exec (.fbCommit c ch) s = .next t ∧ committed t (fbStagedOffs ch) ∧
        s.carriedOut t c 0x60 0 { s with encs := t.encs, sers := t.sers, rems := t.rems, regs := t.regs }) ∧
    (∀ r, s.admits c 0x70 [r] = true → r < 4 → ringCfgOk (s.stgW (0x40008 + 0x4000 * r)) = true → s.ringExpert r = true →
      ∃ t, exec (.rgCommit c r) s = .next t ∧ committed t [0x40008 + 0x4000 * r] ∧
        s.carriedOut t c 0x70 0 { s with regs := t.regs }) ∧
    (s.admits c 0x82 [] = true → s.plantOk = true → s.plant.portState = 3 → ∃ t, exec (.ptpCommit c) s = .next t ∧
      committed t plantStagedOffs ∧ s.carriedOut t c 0x82 0 { s with regs := t.regs, plant := t.plant } ∧
      t.plant.staged = false ∧
      ((s.stgW 0xD0100).bits 30 2 ≠ (s.cfgW 0xD0100).bits 30 2 →
        t.plant.portState = rolePortState ((s.stgW 0xD0100).bits 30 2))) ∧
    (s.admits c 0xB0 [] = true → s.govInRange = true →
      ∃ t, exec (.govCommit c) s = .next t ∧ committed t [0x20008, 0x2000C, 0x20010, 0x20014] ∧
        s.carriedOut t c 0xB0 0 { s with regs := t.regs, gov := t.gov })

/-- NOP, TT_LOAD, TT_SWAP and TT_CANCEL (R73, R74, R76): the shadow image's states. -/
def Obligations.TimetableCommands : Prop :=
  ∀ (s : State) (c : Ctx),
    (s.admits c 0x00 [] = true → ∃ t, exec (.nopCommand c) s = .next t ∧ s.carriedOut t c 0x00 0 s) ∧
    (∀ slot, s.admits c 0x10 [slot] = true → slot ≤ 1 → (s.store.slot slot).state = 2 → s.tt.shadowState ≠ .loading →
      s.tt.shadowState ≠ .pending → ∃ t, exec (.ttLoad c slot) s = .next t ∧
        s.carriedOut t c 0x10 0 { s with tt := { s.tt with shadowState := .loading, shadow := none, loadSlot := slot, loadDetail := 0
                                                           loadSeq := c.seq, loadOrigin := c.originByte } }) ∧
    (∀ p, s.admits c 0x11 [p.toNat] = true → s.tt.shadowState = .ready → s.swapAllowed = true → s.twoParts = false →
      4 ≤ (p - c.accepted).toInt → (p - c.accepted).toInt < 16777216 → ∃ t, exec (.ttSwap c p) s = .next t ∧
        s.carriedOut t c 0x11 0 { s with tt := { s.tt with shadowState := .pending, swapAt := p, swapSeq := c.seq
                                                           swapOrigin := c.originByte } }) ∧
    (s.admits c 0x12 [] = true → s.tt.shadowState = .pending → 4 ≤ (s.tt.swapAt - c.accepted).toInt →
      ∃ t, exec (.ttCancel c) s = .next t ∧
        s.carriedOut t c 0x12 0 { s with tt := { s.tt with shadowState := .ready, lastCode := 0 } })

/-- TT_CANCEL (R76): refused with ILLEGAL_IN_STATE while no swap is pending and when accepted fewer than 4 passages before
it; an accepted cancel returns SHADOW to READY. -/
def Obligations.TtCancelRule : Prop :=
  ∀ (s : State) (c : Ctx), s.admits c 0x12 [] = true → ∃ t, exec (.ttCancel c) s = .next t ∧
    if s.tt.shadowState ≠ .pending ∨ (s.tt.swapAt - c.accepted).toInt < 4 then
      t.tt = s.tt ∧ t.mem.byte (recordAt c + 7) = BitVec.ofNat 8 codeIllegal
    else t.tt.shadowState = .ready ∧ t.mem.byte (recordAt c + 7) = BitVec.ofNat 8 codeOk

/-- FB_CLEAR, RG_REOPEN, RG_RESYNC and RG_ASEND (R235, R265, R275, R276, R281): a latched fault that has ended is cleared, a node
is on trial again, a node's credits are in step, and a frame is queued, in turn, in one of the 64 entries of the ring buffer, whose
layout is the model's choice (log 122). TIME_STEP and TIME_RATE (R295, R296, R317): TIME jumps by the step, RAW does not, and the
rate is set as given. -/
def Obligations.FeedbackRingAndTimeCommands : Prop :=
  (
    ∀ (s : State) (c : Ctx),
      (∀ ch, s.admits c 0x61 [ch] = true → s.chAbsent ch = false → s.fbFault ch ≠ 0 → s.fbEnded ch = true →
        ∃ t, exec (.fbClear c ch) s = .next t ∧ t.fbFault ch = 0 ∧
          s.carriedOut t c 0x61 0 { s with encs := t.encs, sers := t.sers, rems := t.rems } ∧
          (∀ j, j ≠ ch → t.chAbsent j = false → t.fbFault j = s.fbFault j)) ∧
      (∀ r n, s.admits c 0x71 [r, n] = true → r < 4 → 1 ≤ n → n ≤ s.nNodes r → ((s.ring r).node n).lock = .closed →
        s.ringExpert r = true → ∃ t, exec (.rgReopen c r n) s = .next t ∧ s.carriedOut t c 0x71 0 { s with rings := t.rings } ∧
          t.ring r = (s.ring r).setNode n { (s.ring r).node n with lock := .trial, joinRun := 0 } ∧
          ∀ j, j ≠ r → t.ring j = s.ring j) ∧
      (∀ r n, s.admits c 0x72 [r, n] = true → r < 4 → 1 ≤ n → n ≤ s.nNodes r → n ≠ 0xFF → (s.ring r).st = .run →
        ∃ t, exec (.rgResync c r n) s = .next t ∧ s.carriedOut t c 0x72 0 { s with rings := t.rings } ∧
          t.ring r = { (s.ring r).setNode n { (s.ring r).node n with
              granted := ((s.ring r).node n).gtot, used := ((s.ring r).node n).utot, inflightRun := 0 } with
            acycLost := (t.ring r).acycLost, resyncs := Nat.min 0xFFFF ((s.ring r).resyncs + 1) } ∧ ∀ j, j ≠ r → t.ring j = s.ring j) ∧
      (∀ r n proto len (addr : Word), s.admits c 0x73 [r, n, proto, len, addr.toNat] = true → r < 4 → 1 ≤ n → n ≤ s.nNodes r →
        len ≤ 256 → 0x03600000 ≤ addr.toNat → addr.toNat + len ≤ 0x03800000 → ((s.ring r).node n).lock = .opened →
        (s.ring r).txq.length < 64 → ((s.ring r).node n).rxFree ≠ 0 → (∀ w ∈ wordsOf addr.toNat len, s.bad.contains w = false) →
        ∃ t u, exec (.rgAsend c r n proto len addr) s = .next t ∧ s.carriedOut t c 0x73 0 u ∧
          { u.memoryFrom s with rings := s.rings } = s ∧
          s.memorySame u (0x03400000 + 0x80000 * r + 0x4000 + 288 * ((s.ring r).aqWr % 64)) 288 ∧
          t.ring r = { s.ring r with
            txq := (s.ring r).txq ++ [⟨n, proto, s.mem.bytes addr.toNat len⟩], aqWr := (s.ring r).aqWr + 1 } ∧
          ∀ j, j ≠ r → t.ring j = s.ring j)) ∧
  (
    ∀ (s : State) (c : Ctx),
      (∀ delta : U64, s.admits c 0x80 [delta.toNat] = true → delta.toInt.natAbs < 2 ^ 62 → s.stepAllowed delta.toInt = true →
        ∃ t, exec (.timeStep c delta) s = .next t ∧ t.time.time = s.time.time + delta ∧ t.time.raw = s.time.raw ∧
          t.time.rate = s.time.rate ∧ t.time.steps = Nat.min 0xFFFF (s.time.steps + 1) ∧ t.tt = { s.tt with start := s.tt.start + delta } ∧
          s.carriedOut t c 0x80 0
            { s with time := t.time, tt := t.tt, chans := t.chans, plant := s.plant.shift delta }) ∧
      (∀ rate : Word, s.admits c 0x81 [rate.toNat] = true → rate.toInt ≤ rateMax → -rateMax ≤ rate.toInt → s.follower = false →
        ∃ t, exec (.timeRate c rate) s = .next t ∧
          s.carriedOut t c 0x81 0 { s with time := { s.time with rate := rate.toInt } }))

/-- ACQ_COMMIT, ACQ_ARM, ACQ_DISARM, ACQ_FORCE, ACQ_READ and ACQ_MASK_LOAD (R341-R347, R351, R352). -/
def Obligations.AcquisitionCommands : Prop :=
  ∀ (s : State) (c : Ctx),
    (s.admits c 0x90 [] = true → (∀ b, b < 4 → (privCfgOf s.stgW b).guarded (s.privCfg b) = false ∧
        (privCfgOf s.stgW b).pre + (privCfgOf s.stgW b).post ≤ (privCfgOf s.stgW b).len) → s.acqInRange = true →
      (∀ k, k < 64 → (s.stgW (0x80100 + 4 * k)).bit 31 = true → s.mapped ((s.stgW (0x80100 + 4 * k)).bits 16 9) = true) →
      ∃ t, exec (.acqCommit c) s = .next t ∧ (∀ o, t.cfgW o = if acqStagedOffs.contains o then s.stgW o else s.cfgW o) ∧
        t.axes = s.axes ∧ t.gens = s.gens ∧ t.time = s.time ∧ t.rings = s.rings) ∧
    (∀ b, b < 4 → s.admits c 0x91 [b] = true → (s.priv b).st ≠ .armed → (s.priv b).st ≠ .triggered →
      (s.priv b).maskLoading = false → ∃ t, exec (.acqArm c b) s = .next t ∧ s.carriedOut t c 0x91 0 { s with acq := t.acq } ∧
        (t.priv b).st = .armed ∧ (t.priv b).written = 0 ∧ (t.priv b).preValid = false ∧ (t.priv b).copied = (s.priv b).copied ∧
        ∀ j, j ≠ b → t.priv j = s.priv j) ∧
    (∀ b, b < 4 → s.admits c 0x92 [b] = true → (s.privCfg b).mode = 0 → ∃ t, exec (.acqDisarm c b) s = .next t ∧
      s.carriedOut t c 0x92 0 { s with acq := t.acq } ∧ t.priv b = { s.priv b with st := .idle, stop := 3 } ∧
      ∀ j, j ≠ b → t.priv j = s.priv j) ∧
    (∀ b, b < 4 → s.admits c 0x93 [b] = true → (s.priv b).st = .armed → (s.privCfg b).mode = 0 → (s.priv b).preValid = true →
      ∃ t, exec (.acqForce c b) s = .next t ∧ s.carriedOut t c 0x93 0 { s with acq := t.acq } ∧
        (t.priv b).st = .triggered ∧ (t.priv b).evTime = s.tt.start * 4 ∧ (t.priv b).decision = s.tt.passage ∧
        ∀ j, j ≠ b → t.priv j = s.priv j) ∧
    (∀ b (first count : Word) (addr : U64), b < 4 → s.admits c 0x94 [b, first.toNat, count.toNat, addr.toNat] = true →
      (s.priv b).st = .stopped → (s.privCfg b).mode = 0 → count.toNat ≤ (s.privCfg b).len → s.bad = [] →
      let p := s.priv b
      let n : Nat := if -(p.preHeld : Int) ≤ first.toInt ∧ first.toInt < p.postHeld then
        min count.toNat ((p.postHeld : Int) - first.toInt).toNat else 0
      ∃ t, exec (.acqRead c b first count addr) s = .next t ∧ (t.priv b).copied = n ∧
        t.mem.bytes (recordAt c + 8) 4 = bytesLE 4 n ∧ (∀ j, j ≠ b → t.priv j = s.priv j) ∧
        t.axes = s.axes ∧ t.regs = s.regs ∧ s.memorySame t (recordAt c) 16 ∧
        t.host.memory = (if s.dmaUp then hostBytes s.host.memory addr.toNat ((List.range n).flatMap (fun j =>
          bytesLE 4 (s.getSample b (s.privCfg b) ((p.trigW : Int) + first.toInt + j).toNat))) else s.host.memory)) ∧
    (∀ b, b < 4 → s.admits c 0x95 [b] = true → (s.priv b).st ≠ .armed → (s.priv b).st ≠ .triggered →
      (s.priv b).maskLoading = false → (∀ j, j < (s.privCfg b).maskN → realLt
        (sampleReal (s.privCfg b).sel (s.mem.word (maskStage b + 8 * j + 4)))
        (sampleReal (s.privCfg b).sel (s.mem.word (maskStage b + 8 * j))) = false) → ∃ t, exec (.acqMaskLoad c b) s = .next t ∧
        s.carriedOut t c 0x95 0 { s with acq := t.acq } ∧ t.priv b = { s.priv b with maskLoading := true } ∧
        ∀ j, j ≠ b → t.priv j = s.priv j)

/-- SP_DESC, SP_POST and SP_DROP (R393, R395, R404): a descriptor made IDLE, a token posted, a partial entry dropped. ROPE_HANDOVER,
ROPE_REJOIN and ROPE_DISMISS in the LEAD (R460, R463). -/
def Obligations.SoftPlaneAndRopeCommands : Prop :=
  (
    ∀ (s : State) (c : Ctx) (d : Nat), d < 4096 →
      (∀ addr : Word, s.admits c 0xA0 [d, addr.toNat] = true → s.schedFaulted d = false → s.descState d = 0 → addr.toNat % 32 = 0 →
        0x03680000 ≤ addr.toNat → addr.toNat < 0x036C0000 → s.undecodable addr.toNat = false →
        s.descOk (s.mem.bytes addr.toNat 32) = true → (s.mem.byte (addr.toNat + 18)).getLsbD 7 = true →
        ∃ t, exec (.spDesc c d addr) s = .next t ∧ (∀ k, k < 20 → t.mem.byte (descAddr d + k) = s.mem.byte (addr.toNat + k)) ∧
          t.descState d = 1 ∧ t.sched = s.sched ∧ t.regs = s.regs ∧ t.units = s.units ∧
          ∀ a, (a < descAddr d ∨ descAddr d + 21 ≤ a) → (a < recordAt c ∨ recordAt c + 16 ≤ a) → t.mem.byte a = s.mem.byte a) ∧
      (∀ slot (v : Word), slot < 4 → s.admits c 0xA1 [d, slot, v.toNat] = true → s.schedFaulted d = false → s.descState d ≠ 0 →
        slot < s.descNtok d → 2 ≤ s.descNtok d → s.entry d = none → s.sched.entries.length < 1024 →
        ∃ t, exec (.spPost c d slot v) s = .next t ∧
          s.carriedOut t c 0xA1 0 { s with sched := { s.sched with entries := t.sched.entries } } ∧
          t.entry d = some (({} : Match).setSlot slot (some v)) ∧ ∀ j, j ≠ d → t.entry j = s.entry j) ∧
      (∀ m, s.admits c 0xA2 [d] = true → s.schedFaulted d = false → s.entry d = some m → m.complete (s.descNtok d) = false →
        ∃ t, exec (.spDrop c d) s = .next t ∧
          s.carriedOut t c 0xA2 0 { s with sched := { s.sched with entries := t.sched.entries, discard := t.sched.discard } } ∧
          t.entry d = none ∧ (∀ j, j ≠ d → t.entry j = s.entry j) ∧
          t.sched.discard = Nat.min 0xFFFF (s.sched.discard + ((List.range 4).filter (fun j => (m.slot j).isSome)).length))) ∧
  (
    ∀ (s : State) (c : Ctx), s.rope.role = 2 → c.forwarded = false →
      (∀ p, s.admits c 0xC0 [p.toNat] = true → 4 ≤ (p - c.accepted).toInt → (p - c.accepted).toInt < 16777216 →
        s.hasSecond = true → ((s.cfgW 0x90000).bit 0 = true ∨ (s.belayHealthy = true ∧ 1024 ≤ s.rope.secondRun)) →
        ∃ t, exec (.ropeHandover c p) s = .next t ∧
          s.carriedOut t c 0xC0 0 { s with rope := { s.rope with handover := some p } }) ∧
      (s.admits c 0xC1 [] = true → s.rope.peer.role = 5 → s.rope.peer.image = s.image.id → ∃ t, exec (.ropeRejoin c) s = .next t ∧
        s.carriedOut t c 0xC1 0 { s with rope := { s.rope with stage := 1, checkRun := 0, copied := 0 } }) ∧
      (s.admits c 0xC2 [] = true → (s.hasSecond = true ∨ s.hasJoiner = true) → ∃ t, exec (.ropeDismiss c) s = .next t ∧
        s.carriedOut t c 0xC2 0 { s with rope := { s.rope with
          stage := 0, handover := none, dismissals := Nat.min 255 (s.rope.dismissals + 1) } }))

/-- SF_LOAD, SF_CONFIRM, SF_DEMAND, SF_RESET and SF_BRAKE_TEST (R470, R474, R478, R480, R485, R489, R490). -/
def Obligations.SafetyCommands : Prop :=
  ∀ (s : State) (c : Ctx),
    let x := s.safe
    let outputs (t : State) : Safe := { t.safe with souts := x.souts, brks := x.brks }
    (∀ addr : Word, s.admits c 0xD0 [addr.toNat] = true → addr.toNat % 32 = 0 → 0x03600000 ≤ addr.toNat →
      addr.toNat + 0x760 ≤ 0x03800000 → (∀ w ∈ wordsOf addr.toNat 0x760, s.bad.contains w = false) →
      let set := setOfBytes (s.mem.bytes addr.toNat 0x760)
      setField set 6 2 = 0x760 → setInRange set s.periodNs = true → s.anyEnabled = false → x.state ≠ 15 →
      ∃ t, exec (.sfLoad c addr) s = .next t ∧ s.carriedOut t c 0xD0 0 { s.countsFrom t with safe := t.safe } ∧
        outputs t = { x.demandAll with state := 1, awaiting := some set, checkPending := checkValue set }) ∧
    (∀ set, s.admits c 0xD1 [x.checkPending.toNat] = true → x.awaiting = some set → x.state = 1 → s.store.busySafe = none →
      ∃ t, exec (.sfConfirm c x.checkPending) s = .next t ∧ t.safe.state = 2 ∧ t.safe.awaiting = none ∧
        t.safe.confirmed = some (withConfirm set x.checkPending) ∧ t.store.busySafe.isSome = true ∧ t.axes = s.axes ∧
        t.regs = s.regs ∧ s.memorySame t (recordAt c) 16) ∧
    (∀ f, s.admits c 0xD2 [f] = true → f < 32 → (fnRule x.rules f).kind ≠ 0 → x.state = 2 →
      ∃ t, exec (.sfDemand c f) s = .next t ∧ s.carriedOut t c 0xD2 0 { s with safe := t.safe } ∧
        (t.safe.fn f).demand = true ∧ (t.safe.fn f).host = true ∧ ∀ g, g ≠ f → t.safe.fn g = x.fn g) ∧
    (∀ f, s.admits c 0xD3 [f] = true → f < 32 → x.state = 2 → (x.fn f).wait = true → (fnRule x.rules f).reset = 1 →
      x.inputDemand x.rules f = false → ∃ t, exec (.sfReset c f) s = .next t ∧
        s.carriedOut t c 0xD3 0 { s with safe := t.safe } ∧ (t.safe.fn f).demand = false ∧ (t.safe.fn f).wait = false ∧
        ∀ g, g ≠ f → t.safe.fn g = x.fn g) ∧
    (∀ b, s.admits c 0xD4 [b] = true → b < 8 →
      let r := brkRule x.rules b
      r.used = true → (s.axis r.inst).st = .auto → (s.gen r.inst).gst = .idle → s.safetyHolds r.inst = false →
      s.nodeRun (s.ringOf r.inst) (s.nodeOf r.inst) = true → x.bt.step = .none → (r.btDir = 0 ∨ setLevel x.rules ≠ 0) →
      ∃ t, exec (.sfBrakeTest c b) s = .next t ∧
        s.carriedOut t c 0xD4 0 { s with safe := t.safe } ∧
        outputs t = { x with bt := { state := 1, channel := b, step := .settle } })

/-- ST_SAVE to ST_TEAM (R542-R546, R553, R554, R556, R559). -/
def Obligations.StoreCommands : Prop :=
  ∀ (s : State) (c : Ctx),
    let same (t : State) : Prop := t.regs = s.regs ∧ t.axes = s.axes ∧ t.tt = s.tt ∧ t.safe = s.safe ∧
      s.memorySame t (recordAt c) 16
    let ident (t : State) (d : Ident) : Prop := t.store.ident = d
    let fetched (a n : Nat) : Prop := ∀ w ∈ wordsOf a n, s.bad.contains w = false
    (s.admits c 0xE0 [] = true → s.saveRecords.length ≤ 32764 → s.store.busyParam = none →
      ∃ t, exec (.stSave c) s = .next t ∧ same t ∧ t.store.busyParam.isSome = true ∧ t.store.busySafe = s.store.busySafe) ∧
    (∀ slot (offset addr length : Word), s.admits c 0xE1 [slot, offset.toNat, addr.toNat, length.toNat] = true → slot ≤ 1 →
      offset.toNat + length.toNat ≤ 2097152 → offset.toNat % 32 = 0 → addr.toNat % 32 = 0 → 0x036E8000 ≤ addr.toNat →
      addr.toNat + length.toNat ≤ 0x036F8000 → 32 ≤ length.toNat → length.toNat % 32 = 0 → fetched addr.toNat length.toNat →
      s.slotHeld = false → slot ≠ s.store.ident.bootSlot → s.tt.shadowState ≠ .loading →
      ∃ t, exec (.stImgWrite c slot offset addr length) s = .next t ∧ same t ∧ (t.store.slot slot).state = 1 ∧
        (∀ k, k < length.toNat → t.store.slotByte slot (offset.toNat + k) = s.mem.byte (addr.toNat + k)) ∧
        (∀ k, k < 0x200000 → (k < offset.toNat ∨ offset.toNat + length.toNat ≤ k) →
          t.store.slotByte slot k = s.store.slotByte slot k) ∧ t.store.slot (1 - slot) = s.store.slot (1 - slot)) ∧
    (∀ slot, s.admits c 0xE2 [slot] = true → slot ≤ 1 → (s.store.slot slot).state = 1 →
      ∃ t, exec (.stImgSeal c slot) s = .next t ∧ same t ∧ t.store.slot (1 - slot) = s.store.slot (1 - slot) ∧
        ((t.store.slot slot).state = 2 ∨ (t.store.slot slot).state = 3) ∧
        t.mem.byte (recordAt c + 7) = BitVec.ofNat 8 (t.store.slot slot).code) ∧
    (∀ slot level, s.admits c 0xE3 [slot, 0, level] = true → slot ≤ 1 → level ≤ 1 → (s.store.slot slot).state = 2 →
      s.slotHeld = false → ∃ t, exec (.stImgBoot c slot 0 level) s = .next t ∧ same t ∧
        ident t { s.store.ident with bootSlot := slot, bootLevel := level }) ∧
    (∀ (first count : Word) (addr : U64), s.admits c 0xE4 [first.toNat, count.toNat, addr.toNat] = true → 1 ≤ count.toNat →
      count.toNat ≤ 2048 → (first - s.store.logAck).toNat + count.toNat ≤ s.store.held → s.dmaUp = true →
      let bs := s.store.entries first count.toNat
      ∃ t, exec (.stLogRead c first count addr) s = .next t ∧ same t ∧ t.mem.bytes (recordAt c + 8) 4 = bytesLE 4 count.toNat ∧
        t.host.memory = hostBytes s.host.memory addr.toNat (bs ++ s.store.signed bs)) ∧
    (∀ (upto link : Word), s.admits c 0xE5 [upto.toNat, link.toNat] = true → 1 ≤ (upto - s.store.logAck).toNat →
      (upto - s.store.logAck).toNat ≤ s.store.held → s.store.held < 60000 →
      link = BitVec.ofNat 32 (natLE (s.store.bytes (0x400000 + 32 * ((upto - 1).toNat % 65536) + 28) 4)) →
      ∃ t, exec (.stLogAck c upto link) s = .next t ∧ same t ∧ t.store.logAck = upto) ∧
    (s.admits c 0xE6 [] = true → s.anyEnabled = false → ∃ t, exec (.stDebugOpen c) s = .next t ∧ same t ∧
      t.store.opening = true ∧ t.store.debugOpen = s.store.debugOpen) ∧
    (∀ k (addr : Word), s.admits c 0xE7 [k, addr.toNat] = true → k ≤ 1 → 0x03600000 ≤ addr.toNat →
      addr.toNat + 32 ≤ 0x03800000 → fetched addr.toNat 32 →
      let d := s.store.ident
      let h := Config.sha256 (s.mem.bytes addr.toNat 32)
      (if k = 0 then d.key0 else d.key1).hash = none → (if k = 0 then d.next0 else d.next1) = none →
      ∃ t, exec (.stOwnerKey c k addr) s = .next t ∧ same t ∧
        ident t (if k = 0 then { d with next0 := some h } else { d with next1 := some h })) ∧
    (∀ k, s.admits c 0xE8 [k] = true → k ≤ 1 → s.store.ident.bootSlot ≤ 1 →
      let d := s.store.ident
      (if k = 0 then d.key1 else d.key0).hash ≠ none → (if k = 0 then d.key1 else d.key0).revoked = false →
      (if k = 0 then d.key0 else d.key1).hash ≠ some (Config.sha256 (s.store.slotHead d.bootSlot).key) →
      ∃ t, exec (.stOwnerRevoke c k) s = .next t ∧ same t ∧
        ident t (if k = 0 then { d with key0 := { d.key0 with revoked := true } }
          else { d with key1 := { d.key1 with revoked := true } })) ∧
    (∀ addr : Word, s.admits c 0xE9 [addr.toNat] = true → 0x03600000 ≤ addr.toNat → addr.toNat + 16 ≤ 0x03800000 →
      fetched addr.toNat 16 → (∀ k, 10 ≤ k → k < 16 → s.mem.byte (addr.toNat + k) = 0) → s.rope.role ≠ 2 → s.rope.role ≠ 3 →
      s.rope.role ≠ 4 → ∃ t, exec (.stTeam c addr) s = .next t ∧ same t ∧
        ident t { s.store.ident with nextTeam := some (BitVec.ofNat 32 (natLE (s.mem.bytes addr.toNat 4)),
          BitVec.ofNat 48 (natLE (s.mem.bytes (addr.toNat + 4) 6))) })

/-- PORN, RAIL_UNDERVOLTAGE, WAKE_COMPLETE, CLEAR_COMPLETE, IMAGE_COMPLETE and ARM_COMPLETE (R35, R541, R545, R573, R574):
the start-up phases in order, from a reset that keeps the log. -/
def Obligations.StartUpPhases : Prop :=
  ∀ (s : State),
    (∀ low straps, (low < 1000 → exec (.porn low straps) s = .next s) ∧
      (10000 ≤ low → ∃ t, exec (.porn low straps) s = .next t ∧ t.host.phase = .wake ∧ t.rope.strap = straps % 4 ∧ t.regs = {} ∧
        t.tt = {} ∧ t.axes = [] ∧ t.gens = [] ∧ t.mem = [] ∧ t.units = [] ∧ t.safe = {} ∧ t.store.logWr = s.store.logWr ∧
        t.store.logAck = s.store.logAck ∧ t.store.ident.porns = s.store.ident.porns + 1 ∧ t.pending = s.pending) ∧
      (1000 ≤ low → low < 10000 → ∃ t, exec (.porn low straps) s = .next t ∧
        ({ t with freeCtr := s.freeCtr } = s ∨ (t.host.phase = .wake ∧ t.rope.strap = straps % 4 ∧ t.tt = {} ∧ t.mem = [])))) ∧
    (∀ ns, (ns < 2000 → exec (.railUndervoltage ns) s = .next s) ∧
      (2000 ≤ ns → ∃ t, exec (.railUndervoltage ns) s = .next t ∧ t.host.phase = .por ∧ t.regs = {} ∧ t.mem = [] ∧ t.tt = {} ∧
        t.axes = [] ∧ t.store.logWr = s.store.logWr ∧ t.pending = s.pending)) ∧
    (s.host.phase = .wake → s.store.tamperDue = false → s.store.batDue = false →
      exec .wakeComplete s = .next { s with
        host := { s.host with phase := .clear }, time := { s.time with counting := true }
        store := { s.store with level := s.store.ident.bootLevel, rtcValid := true } }) ∧
    (s.host.phase = .clear → ∃ t, exec .clearComplete s = .next t ∧ t.host = { s.host with phase := .image } ∧ t.bad = [] ∧ t.wrong = [] ∧
      (∀ r e, r < 4 → e < 128 → t.mem.byte (0x03400000 + 0x80000 * r + 48 * e + 36) = 15) ∧
      (∀ a, (∀ r e, r < 4 → e < 128 → a ≠ 0x03400000 + 0x80000 * r + 48 * e + 36) → t.mem.byte a = 0) ∧
      { t with host := s.host, mem := s.mem, bad := s.bad, badSeen := s.badSeen, wrong := s.wrong } = s) ∧
    (s.host.phase = .image →
      let b := s.store.ident.bootSlot
      (s.authenticate b = none → ∃ t, exec .imageComplete s = .next t ∧ t.host.phase = .arm ∧
        t.tt = { s.tt with running := some (s.store.slotImage b), lastCode := 0, loadDetail := 0 } ∧ t.store.runSlot = b ∧
        t.store.fellBack = false ∧ t.regs = s.regs ∧ t.axes = s.axes) ∧
      (∀ f, s.authenticate b = some f →
        (s.store.level = 1 → ∃ t, exec .imageComplete s = .next t ∧ t.host.phase = .halt ∧ t.host.haltCause = 3 ∧
          t.tt = { s.tt with lastCode := BitVec.ofNat 8 f.code, loadDetail := f.detail } ∧ (t.store.slot b).code = f.code ∧
          t.mem = s.mem ∧ t.regs = s.regs) ∧
        (s.store.level ≠ 1 → s.authenticate (1 - b) = none → ∃ t, exec .imageComplete s = .next t ∧ t.host.phase = .arm ∧
          t.tt = { s.tt with running := some (s.store.slotImage (1 - b)), lastCode := 0, loadDetail := 0 } ∧
          t.store.runSlot = 1 - b ∧ t.store.fellBack = true ∧ t.regs = s.regs) ∧
        (∀ g, s.store.level ≠ 1 → s.authenticate (1 - b) = some g → ∃ t, exec .imageComplete s = .next t ∧ t.host.phase = .halt ∧
          t.host.haltCause = 1 ∧ t.tt = { s.tt with lastCode := BitVec.ofNat 8 g.code, loadDetail := g.detail } ∧
          t.regs = s.regs))) ∧
    (s.host.phase = .arm → s.host.queue = [] → s.host.stops = [] →
      ∃ t, exec (.armComplete true) s = .next t ∧ t.host.phase = .listen ∧ t.tt.clockOn = true ∧ t.tt.passage = 0 ∧
        t.store.loaded = true ∧ t.safe.lock = true ∧ (t.safe.state = 1 ∨ t.safe.state = 2))

/-- PERSTN, PCIE_LINK_DOWN and PCIE_LINK_UP (R37, R499, R501): the endpoint's reset clears MIRROR_CTRL.EN and discards the
commands that wait, each counted as taken, with its DISCARDED record, and leaves the stop table; the link goes down, and up where
PORn and PERSTn are high. -/
def Obligations.HostLinkEvents : Prop :=
  ∀ (s : State),
    exec (.perstn false) s = .next { s with host := { s.host with perstn := true } } ∧
    (let q := s.host.queue
     let at' (p : Push) : Nat := 0x03604000 + 16 * (p.seq.toNat % 256)
     ∃ t, exec (.perstn true) s = .next t ∧ t.cfgW 0x10 = s.cfgW 0x10 &&& 0x7FFFFFFF#32 ∧
      (∀ o, o ≠ 0x10 → t.cfgW o = s.cfgW o) ∧
      { t.host with results := s.host.results, resCount := s.host.resCount } = { s.host with
        perstn := false, speed := 0, width := 0, bme := false, d3 := false, corr := 0, queue := []
        takenCount := s.host.takenCount + BitVec.ofNat 32 q.length } ∧
      ((q.map at').Nodup → ∀ p ∈ q, t.mem.bytes (at' p) 16 =
        resultBytes p.seq (fieldLE p.entry 2 2) (nthD 0 p.entry 0).toNat 0x0C 0 0) ∧
      (∀ a, (∀ p ∈ q, a < at' p ∨ at' p + 16 ≤ a) → t.mem.byte a = s.mem.byte a) ∧
      { t.memoryFrom s with host := s.host, regs := s.regs } = s) ∧
    exec (.pcieLinkDown 0) s = .next { s with host := { s.host with speed := 0, width := 0 } } ∧
    exec (.pcieLinkDown 1) s = .next { s with host := { s.host with bme := false } } ∧
    exec (.pcieLinkDown 2) s = .next { s with host := { s.host with d3 := true } } ∧
    (∀ speed width bme, s.host.phase ≠ .por → s.host.perstn = true → 1 ≤ speed → speed ≤ 3 → (width = 1 ∨ width = 2 ∨ width = 4) →
      exec (.pcieLinkUp speed width bme) s = .next { s with host := { s.host with
        speed := speed, width := width, bme := bme, d3 := false } }) ∧
    (∀ speed width bme, (s.host.phase = .por ∨ s.host.perstn = false) → exec (.pcieLinkUp speed width bme) s = .next s)

/-- TAMPER, VBAT_LOSS, VAULT_ERASE_COMPLETE, DBG_REQ and BANK_WRITE_COMPLETE (R540, R556-R558): what the store's domain
keeps and loses. -/
def Obligations.StoreEvents : Prop :=
  ∀ (s : State),
    let same (t : State) : Prop := { t with store := s.store, freeCtr := s.freeCtr } = s
    (∃ t, exec (.tamper false) s = .next t ∧ same t ∧ t.store = { s.store with
      kek := false, vaultErased := true, tamper := true, tamperDue := true }) ∧
    (s.host.phase ≠ .por → ∃ t, exec (.tamper true) s = .next t ∧ same t ∧ t.store.tamper = true ∧
      t.store.ident.tampers = s.store.ident.tampers + 1 ∧ t.store.ident.erasures = s.store.ident.erasures + 1) ∧
    (∃ t, exec .vbatLoss s = .next t ∧ same t ∧ t.store.batLost = true ∧ t.store.kek = false ∧ t.store.vaultErased = true ∧
      t.store.rtc = 0 ∧ t.store.rtcValid = false) ∧
    (s.store.opening = true → ∃ t, exec .vaultEraseComplete s = .next t ∧ same t ∧ t.store.opening = false ∧
      t.store.debugOpen = true ∧ t.store.vaultErased = true ∧ t.store.ident.erasures = s.store.ident.erasures + 1) ∧
    (s.store.opening = false → exec .vaultEraseComplete s = .next s) ∧
    (s.host.phase ≠ .por → s.host.phase ≠ .halt → exec .dbgReq s = .next { s with store := { s.store with dbgReq := true } }) ∧
    (∀ w, s.store.busyParam = some w → ∃ t, exec (.bankWriteComplete false true) s = .next t ∧ same t ∧
      t.store.busyParam = none ∧ t.store.paramBank = some w.bank ∧ t.store.busySafe = s.store.busySafe) ∧
    (∀ w, s.store.busySafe = some w → ∃ t, exec (.bankWriteComplete true true) s = .next t ∧ same t ∧
      t.store.busySafe = none ∧ t.store.safeBank = some w.bank ∧ t.store.busyParam = s.store.busyParam)

/-- PASSAGE_START, TIER_LATCH and SWAP (R54, R75, R132, R299): the passage is counted and runs in the tier latched for it; a
swap that stands puts the shadow image into use. -/
def Obligations.PassagesBegin : Prop :=
  ∀ (s : State),
    (s.tt.clockOn = false → exec .passageStart s = .next s) ∧
    (s.tt.clockOn = true → s.host.phase = .run → s.rope.role = 1 → s.faults.reactDue = false → s.faults.flagged = [] →
      s.tt.shadowState = .empty → s.host.queue = [] → s.host.stops = [] → s.host.taken = [] → s.store.dbgReq = false →
      ∃ t, exec .passageStart s = .next t ∧ t.tt.passage = s.tt.passage + 1 ∧ t.tt.tier = s.tt.tierNext ∧
        t.tt.markers = [] ∧ t.tt.released = []) ∧
    (s.tt.clockOn = true → exec .tierLatch s = .next { s with
      tt := { s.tt with tierNext := s.latchedTier }
      gov := { s.gov with tierMiss := (if s.followsTier && s.rope.leadHeader != some s.tt.passage then
        Nat.min 0xFFFF (s.gov.tierMiss + 1) else s.gov.tierMiss) } }) ∧
    (∀ b, s.tt.shadowState = .pending → s.tt.shadow = some b → s.tt.swapAt = s.tt.passage →
      ∃ t, exec .swap s = .next t ∧ t.tt.running = some b ∧ t.tt.shadow = none ∧ t.tt.shadowState = .empty ∧
        t.store.runSlot = s.tt.loadSlot ∧ t.axes = s.axes ∧ t.gens = s.gens ∧ t.mem = s.mem ∧ t.regs = s.regs ∧
        t.tt.passage = s.tt.passage)

/-- RELEASE, RUN, MOVE, MOVE_COMPLETE, GATE, RESERVE and OVERRUN (R43, R47-R50, R63-R67, R71, R72, R373): the entries of an
island. -/
def Obligations.EntriesExecute : Prop :=
  ∀ (s : State) (k i : Nat),
    (∀ rel o, s.tt.clockOn = true → s.tt.released.contains 8 = false → s.releaseOffset 8 = some o → s.relOf 8 = some rel →
      (∀ c, c < 16 → s.handedOver rel (rel.source + 32 * (c * rel.words / 16)) = true) →
      ∃ t, exec (.release 8) s = .next t ∧ (∀ c, c < 16 → (t.chan c).rate = (s.chan c).rateNext.getD (s.chan c).rate ∧
        (t.chan c).rateNext = none ∧ (t.chan c).relAt = t.time.time) ∧
        s.memorySame t rel.source (32 * rel.words) ∧ t.tt = { s.tt with released := s.tt.released ++ [8] } ∧
        { t.memoryFrom s with time := s.time, chans := s.chans, tt := s.tt } = s) ∧
    (∀ e, s.entryAt k i = some e →
      (e.kind = 1 → k < 16 → e.op1.toNat ≤ 4 → s.entryRuns k i e = true → s.openRun k e.op1.toNat = none → 1 ≤ e.budget →
        512 ≤ e.op2.toNat → s.image.wiring.locals = [] → (k, i) ∉ s.tt.openEntries →
        s.codeWord (luxUnit k e.op1.toNat) e.op0.toNat = some (BitVec.ofNat 64 (2 ^ 56)) →
        ∃ t, exec (.run k i) s = .next t ∧ (t.lux (luxUnit k e.op1.toNat)).running = false ∧
          t.tt = { s.tt with started := s.tt.started ++ [(k, i)] } ∧ t.mem = s.mem ∧ t.axes = s.axes ∧
          ∀ v, v ≠ luxUnit k e.op1.toNat → t.lux v = s.lux v) ∧
      (∀ n, e.kind = 2 → s.entryRuns k i e = true → e.op2.bits 16 5 = 1 → e.op2.bits 0 13 = n →
        e.op0.toNat + 32 * n ≤ 0x02000000 → e.op1.toNat + 32 * n ≤ 0x02000000 →
        (e.op0.toNat + 32 * n ≤ e.op1.toNat ∨ e.op1.toNat + 32 * n ≤ e.op0.toNat) →
        (∀ w, w < n → s.undecodable (e.op0.toNat + 32 * w) = false ∧ s.inSource (e.op1.toNat + 32 * w) = false) →
        s.bad = [] → ∃ t, exec (.move k i) s = .next t ∧
          (∀ j, j < 32 * n → t.mem.byte (e.op1.toNat + j) = s.mem.byte (e.op0.toNat + j)) ∧
          s.memorySame t e.op1.toNat (32 * n) ∧ t.tt = { s.tt with
            openEntries := s.tt.openEntries ++ [(k, i)], started := s.tt.started ++ [(k, i)]
            reserved := s.tt.reserved ++ [(k, e.channel)] } ∧
          { t.memoryFrom s with tt := s.tt } = s) ∧
      (e.kind = 2 → (k, i) ∈ s.tt.openEntries → ∃ t, exec (.moveComplete k i) s = .next t ∧
        (k, i) ∉ t.tt.openEntries ∧ (k, e.channel) ∉ t.tt.reserved ∧ (∀ m, e.marker = some m → m ∈ t.tt.markers) ∧
        { t with tt := { t.tt with
          openEntries := s.tt.openEntries, reserved := s.tt.reserved, markers := s.tt.markers } } = s) ∧
      (e.kind = 3 → s.entryRuns k i e = true → s.tt.markers.contains (e.op0.bits 0 8) = true →
        exec (.gate k i) s = .next { s with tt := { s.tt with started := s.tt.started ++ [(k, i)] } }) ∧
      (e.kind = 3 → s.entryRuns k i e = true → s.tt.markers.contains (e.op0.bits 0 8) = false →
        ∃ t, exec (.gate k i) s = .next t ∧ (k, i + 1) ∈ t.tt.skipped ∧ t.tt.gateFlag = true ∧
          t.tt.gateCount = Nat.min 0xFFFF (s.tt.gateCount + 1) ∧ islandUnit k (e.op1.bits 0 3) ∈ t.faults.units ∧
          t.mem = s.mem ∧ t.units = s.units) ∧
      (e.kind = 4 → s.entryRuns k i e = true → exec (.reserve k i) s = .next { s with tt := { s.tt with
        started := s.tt.started ++ [(k, i)], reserved := s.tt.reserved ++ [(k, e.channel)] } }) ∧
      (e.kind = 1 → (k, i) ∈ s.tt.openEntries → ∃ t, exec (.overrun k i) s = .next t ∧ (k, i) ∉ t.tt.openEntries ∧
        (k, e.unitCode) ∈ t.tt.stopped ∧ t.tt.ovrFlag = true ∧ t.tt.ovrCount = Nat.min 0xFFFF (s.tt.ovrCount + 1) ∧
        t.mem = s.mem ∧ (t.lux (luxUnit k e.op1.toNat)).running = false))

/-- The check bytes of R108 make a codeword of any 32 data bytes, and the 320 bits that the array stores hold the data in bits
[255:0] and the check bytes from bit 256 on; the word of zeros has check bytes 0. -/
def Obligations.CheckBytesMakeCodewords : Prop :=
  checkBytes (List.replicate 32 0) = List.replicate 8 0 ∧
  ∀ (data : List Byte), data.length = 32 →
    isCodeword (data ++ checkBytes data) = true ∧ (checkBytes data).length = 8 ∧
    (∀ j, j < 32 → (codewordBits data).extractLsb' (8 * j) 8 = nthD 0 data j) ∧
    (∀ j, j < 8 → (codewordBits data).extractLsb' (256 + 8 * j) 8 = nthD 0 (checkBytes data) j) ∧
    (∀ other : List Byte, other.length = 8 → isCodeword (data ++ other) = true → other = checkBytes data)

/-- DIE_LINK_FAILURE and SCRUB_VISIT (R34, R109-R111): a failed die link is a package fault. The scrubber, at an operand memory
whose port no entry holds, corrects and writes back a word of up to four wrong symbols; one that does not decode faults its engine,
cluster and package and stays as it is; of one with more wrong symbols that is not found, only that word changes. -/
def Obligations.HardwareFaultsAreContained : Prop :=
  ∀ (s : State),
    (∀ link, link < 3 → ∃ t, exec (.dieLinkFailure link) s = .next t ∧ t.faults.pkg = true ∧ (0xA000 + link) ∈ t.faults.units ∧
      t.faults.clusters = s.faults.clusters ∧ t.mem = s.mem ∧ t.axes = s.axes ∧ t.regs = s.regs) ∧
    (∀ addr symbols, addr < 0x01000000 → s.host.phase = .run → s.portHeld addr = false →
      let n := max symbols (s.wrongAt addr)
      let found (t : State) : Prop := t.undecodable addr = true ∧ (addr / 0x40000) ∈ t.faults.units ∧
        (addr / 0x100000) ∈ t.faults.clusters ∧ t.faults.pkg = true ∧ t.mem = s.mem ∧ t.axes = s.axes ∧ t.regs = s.regs
      (s.undecodable addr = true → ∃ t, exec (.scrubVisit addr symbols) s = .next t ∧ found t) ∧
      (s.undecodable addr = false → n = 0 → exec (.scrubVisit addr symbols) s = .next s) ∧
      (s.undecodable addr = false → 1 ≤ n → n ≤ 4 → ∃ t, exec (.scrubVisit addr symbols) s = .next t ∧ t.wrongAt addr = 0 ∧
        (∀ a, t.mem.byte a = s.mem.byte a) ∧ t.memoryFrom s = s ∧ t.rope.diagCorr = Nat.min 255 (s.rope.diagCorr + 1)) ∧
      (s.undecodable addr = false → 4 < n → ∃ t, exec (.scrubVisit addr symbols) s = .next t ∧
        (found t ∨ (t.undecodable addr = false ∧ s.memorySame t (addr / 32 * 32) 32 ∧
          { t.memoryFrom s with freeCtr := s.freeCtr } = s))))

/-- SUPERVISION_TRIP, STALL, SET_LOAD_COMPLETE and TT_LOAD_COMPLETE (R68, R73, R141, R142, R201). MEASUREMENT_CLOSE, SENSOR_FAIL and
THERMAL_TRIP (R414-R417, R423, R424): the energy books, a failed sensor, the trip. -/
def Obligations.AxisAndGovernorEvents : Prop :=
  (
    ∀ (s : State) (i : Nat),
      ((s.axis i).tripDue = true → (s.axis i).st ≠ .disabled → ∃ t, exec (.supervisionTrip i) s = .next t ∧
        t.axis i = { s.axis i with tripDue := false, trips := Nat.min 0xFFFF ((s.axis i).trips + 1)
                                   raised := (s.axis i).raised ++ [⟨(s.cfgW (axOff i 0x20)).bits 24 2, 1⟩] } ∧
        (∀ j, j ≠ i → t.axis j = s.axis j) ∧ { t with axes := s.axes } = s) ∧
      (let x := s.gen i
       (x.stallDue = false → exec (.stall i) s = .next s) ∧
       (x.stallDue = true → x.gst ≠ .home → (s.cfgW (pfOff i 0)).bits 4 2 = 0 → ∃ t, exec (.stall i) s = .next t ∧
          t.gen i = { x with stall := true, homed := false, stallDue := false } ∧
          (∀ j, j ≠ i → t.gen j = s.gen j) ∧ { t with gens := s.gens } = s)) ∧
      (∀ l w, (s.axis i).load = some l → s.servoWire i = some w → later l.at_ s.tt.passage = false → l.region < 16 →
        ∃ t, exec (.setLoadComplete i) s = .next t ∧ (t.axis i).load = none ∧ t.axMap i l.region = l.slot % 16 ∧
          (∀ j, j ≠ i → t.axis j = s.axis j) ∧ t.gens = s.gens ∧ t.units = s.units) ∧
      (s.tt.shadowState = .loading →
        (s.authenticate s.tt.loadSlot = none → ∃ t, exec .ttLoadComplete s = .next t ∧ t.tt.shadowState = .ready ∧
          t.tt.shadow = some (s.store.slotImage s.tt.loadSlot) ∧ t.tt.lastCode = 0 ∧ t.axes = s.axes ∧ t.mem = s.mem) ∧
        (∀ f, s.authenticate s.tt.loadSlot = some f → ∃ t, exec .ttLoadComplete s = .next t ∧ t.tt.shadowState = .empty ∧
          t.tt.shadow = none ∧ t.tt.lastCode = BitVec.ofNat 8 f.code ∧ t.tt.loadDetail = f.detail ∧ t.axes = s.axes ∧
          t.mem = s.mem))) ∧
  (
    ∀ (s : State),
      (∀ energy temps, s.tt.clockOn = true → ∃ t, exec (.measurementClose energy temps) s = .next t ∧
        t.gov.total = s.gov.total + BitVec.ofNat 64 (energy + s.gov.monitors * 28 * s.periodNs) ∧ t.gov.interval = s.tt.passage ∧
        t.gov.monitors = 0 ∧ t.tt = { s.tt with tierChoice := s.gov.chosen } ∧
        ((s.cfgW 0x20008).bit 31 = false → t.gov.bucket = s.gov.bucket) ∧ t.axes = s.axes ∧ t.mem = s.mem ∧ t.regs = s.regs) ∧
      (∀ k, k < 6 → s.gov.failed.length = 6 → nthD false s.gov.failed k = false → ∃ t, exec (.sensorFail k) s = .next t ∧
        nthD false t.gov.failed k = true ∧ (∀ j, j ≠ k → nthD false t.gov.failed j = nthD false s.gov.failed j) ∧
        t.gov.sensorFail = true ∧ t.mem = s.mem ∧ t.tt = s.tt ∧ t.regs = s.regs) ∧
      (s.gov.tripRun.any (fun n => decide (16 ≤ n)) = true → ∃ t, exec .thermalTrip s = .next t ∧ t.faults.pkg = true ∧
        (∀ k, k < 16 → k ∈ t.faults.clusters) ∧ t.mem = s.mem ∧ t.axes = s.axes ∧ t.regs = s.regs) ∧
      (s.gov.tripRun.any (fun n => decide (16 ≤ n)) = false → exec .thermalTrip s = .next s))

/-- CMD_PUSH (R515, R517): a push enters the queue, sets its flag of the stop table or merges with the one that is set; a
full queue refuses it. -/
def Obligations.PushesEnterTheQueue : Prop :=
  ∀ (s : State), s.host.phase ≠ .por →
    let h := s.host
    let p : Push := ⟨h.seq + 1, 0, h.entryBytes⟩
    (stopPlace p.entry = none → h.queue.length < 256 →
      exec (.cmdPush 0) s = .next { s with host := { h with seq := h.seq + 1, queue := h.queue ++ [p], last := codeOk } }) ∧
    (stopPlace p.entry = none → 256 ≤ h.queue.length →
      exec (.cmdPush 0) s = .next { s with host := { h with last := codeBackpressure, full := Nat.min 0xFFFF (h.full + 1) } }) ∧
    (∀ k, stopPlace p.entry = some k → Tab.get none h.stops k = none → ∃ t, exec (.cmdPush 0) s = .next t ∧
      Tab.get none t.host.stops k = some p ∧ (∀ j, j ≠ k → Tab.get none t.host.stops j = Tab.get none h.stops j) ∧
      { t with host := { t.host with stops := h.stops } } = { s with host := { h with seq := h.seq + 1, last := codeOk } }) ∧
    (∀ k q, stopPlace p.entry = some k → Tab.get none h.stops k = some q → ∃ t, exec (.cmdPush 0) s = .next t ∧
      t.mem.bytes (0x03604000 + 16 * ((h.seq + 1).toNat % 256)) 16 = resultBytes (h.seq + 1) (fieldLE p.entry 2 2)
        (nthD 0 p.entry 0).toNat codeOk q.seq 0 ∧
      t.host.stops = h.stops ∧ t.host.queue = h.queue ∧ t.host.seq = h.seq + 1 ∧ t.host.takenCount = h.takenCount + 1 ∧
      s.memorySame t (0x03604000 + 16 * ((h.seq + 1).toNat % 256)) 16 ∧ { t.memoryFrom s with host := s.host } = s)

/-- REGISTER_WRITE (R11-R13, R134, R548): a reserved place ignores the write, a staged field takes it into its staged copy,
and without the right nothing but DENIED changes. -/
def Obligations.RegisterWritesTakeTheirFields : Prop :=
  ∀ (s : State) (off : Nat) (w : Word), off < 0x2000000 → off % 4 = 0 → hostBarred off = false →
    (maskOf off = none → exec (.registerWrite 0 off w) s = .next s) ∧
    (∀ m, maskOf off = some m → m.staged = true → m.lk = 0 → s.host.phase ≠ .por →
      (s.lacks originHost (some 1) = true →
        exec (.registerWrite 0 off w) s = .next { s with store := { s.store with denied := off } }) ∧
      (s.lacks originHost (some 1) = false → s.rope.role ≠ 2 → ∃ t, exec (.registerWrite 0 off w) s = .next t ∧
        t.stgW off = (s.stgW off &&& ~~~m.rw) ||| (w &&& m.rw) ∧ (∀ o, o ≠ off → t.stgW o = s.stgW o) ∧
        (∀ o, t.cfgW o = s.cfgW o) ∧ t.mem = s.mem ∧ t.host = s.host ∧ t.tt = s.tt ∧ t.store = s.store ∧ t.safe = s.safe ∧
        t.units = s.units ∧ t.rope = s.rope)) ∧
    (∀ k, off = 0x20 + 4 * k → k < 8 → s.host.phase ≠ .por →
      exec (.registerWrite 0 off w) s = .next { s with host := { s.host with entry := setNth s.host.entry k w } })

/-- A LOCK bit that is set stays set under every register write of every agent (R12). -/
def Obligations.RegisterWritesKeepLocks : Prop :=
  ∀ (s : State) (agent off o : Nat) (w : Word) (m : Mask), maskOf o = some m → m.lock = true → (s.cfgW o).bit 31 = true →
    ∃ t, exec (.registerWrite agent off w) s = .next t ∧ (t.cfgW o).bit 31 = true

/-- Every PERF offset that R534 does not give is reserved (R535): it reads 0 and ignores writes. -/
def Obligations.PerfReservedOffsets : Prop :=
  ∀ (s : State) (o : Nat) (w : Word), o < 0x10000 → o % 4 = 0 →
    ¬ (o = 0 ∨ (0x100 ≤ o ∧ o < 0x300) ∨ (0x400 ≤ o ∧ o < 0x600) ∨ (0x800 ≤ o ∧ o < 0x900) ∨
      (0xA00 ≤ o ∧ o < 0xA80 ∧ (o % 0x10 = 0 ∨ o % 0x10 = 4))) →
    s.readReg (0xB0000 + o) = 0 ∧ ∀ agent, agent = 0 ∨ agent = 9 ∨ (1 ≤ agent ∧ agent ≤ 8) →
      exec (.registerWrite agent (0xB0000 + o) w) s = .next s

/-- LK_WRITE, NARROW_ACCESS and ALIAS_ACCESS (R10-R12, R504, R551): the oldest waiting write of LK and LOCK fields takes
effect, but for the LK fields of a block that is locked and those that are staged; a narrow access changes nothing but the
error record; an alias reads one bit and writes one bit. BAR2_WRITE, BAR2_READ, MAILBOX_SELECT and MAILBOX_CAPTURE_COMPLETE
(R14, R505-R508, R548). -/
def Obligations.LocksWindowsAndMailboxes : Prop :=
  (
    ∀ (s : State) (off : Nat),
      (s.host.lkPend = [] → exec .lkWrite s = .next s) ∧
      (∀ p r m, s.host.lkPend = p :: r → maskOf p.off = some m →
        ∃ t, exec .lkWrite s = .next t ∧
          t.cfgW p.off &&& m.lk = (if m.staged = true ∨ s.lockedAt p.off = true then s.cfgW p.off else p.word) &&& m.lk ∧
          (m.lock = true → (t.cfgW p.off).bit 31 = ((s.cfgW p.off).bit 31 || p.word.bit 31)) ∧
          (∀ o, o ≠ p.off → t.cfgW o = s.cfgW o) ∧ t.host = { s.host with lkPend := r } ∧
          { t with host := s.host, regs := s.regs, store := s.store } = s) ∧
      (s.host.phase ≠ .por → ∃ t, exec (.narrowAccess off true) s = .next t ∧ t.host.errCount = s.host.errCount + 1 ∧
        t.host.errFlag = true ∧ t.host.readData = s.host.readData ∧ { t with host := s.host } = s) ∧
      (s.host.phase ≠ .por → ∃ t, exec (.narrowAccess off false) s = .next t ∧ t.host.readData = [0, 0, 0, 0] ∧
        t.host.errCount = s.host.errCount + 1 ∧ { t with host := s.host } = s) ∧
      (0x2000000 ≤ off → off < 0x4000000 → hostBarred (aliasOff off) = false → s.host.phase ≠ .por →
        (∃ t, exec (.aliasAccess 0 off false 0) s = .next t ∧
          t.host.readData = [BitVec.ofNat 8 (bitNat ((s.readReg ((off - 0x2000000) / 128 * 4)).bit (off % 128 / 4))), 0, 0, 0] ∧
          { t with host := { t.host with readData := s.host.readData, poisoned := s.host.poisoned } } = s) ∧
        (∀ w, off % 4 = 0 → exec (.aliasAccess 0 off true w) s =
          exec (.registerWrite 0 ((off - 0x2000000) / 128 * 4) (s.aliasWord 0 off (w.bit 0))) s))) ∧
  (
    ∀ (s : State), s.host.phase ≠ .por →
      (∀ a bs, bs ≠ [] → bar2Range a bs.length = 2 → s.lacks originHost (some 1) = false → s.rope.role ≠ 2 →
        ∃ t, exec (.bar2Write a bs false) s = .next t ∧ t.mem.bytes a bs.length = bs ∧ s.memorySame t a bs.length ∧
          t.memoryFrom s = s) ∧
      (∀ a bs, bs ≠ [] → bar2Range a bs.length ≠ 2 → ∃ t, exec (.bar2Write a bs false) s = .next t ∧
        t.host.errCount = s.host.errCount + 1 ∧ { t with host := s.host } = s) ∧
      (∀ a n, 0 < n → bar2Range a n ≠ 0 → s.bad = [] → (∀ j, j < n → inMatching (a + j) = false) →
        ∃ t, exec (.bar2Read a n) s = .next t ∧
          t.host = { s.host with readData := s.mem.bytes a n, poisoned := false } ∧
          { t.countsFrom s with host := s.host } = s) ∧
      (∀ a n, 0 < n → bar2Range a n ≠ 0 → (wordsOf a n).any s.undecodable = true → ∃ t, exec (.bar2Read a n) s = .next t ∧
        t.host.readData = bytesLE n 0 ∧ t.host.poisoned = true ∧ 0x7000 ∈ t.faults.units ∧ t.mem = s.mem ∧ t.axes = s.axes ∧
        t.regs = s.regs) ∧
      (∀ a n, 0 < n → bar2Range a n = 0 → ∃ t, exec (.bar2Read a n) s = .next t ∧ t.host.readData = bytesLE n 0 ∧
        t.host.errCount = s.host.errCount + 1 ∧ { t with host := s.host } = s) ∧
      (∀ k sel, k < 6 → sel < 65536 → ∃ t, exec (.mailboxSelect 0 k sel) s = .next t ∧ (t.mbox k).sel = sel ∧
        (t.mbox k).valid = false ∧ (t.mbox k).busy = true ∧ (∀ j, j ≠ k → t.mbox j = s.mbox j) ∧
        (sel = 0x0500 → (t.mbox k).code = codeOk ∧ (t.mbox k).data = [s.time.time.extractLsb' 0 32, s.time.time.extractLsb' 32 32,
          s.time.raw.extractLsb' 0 32, s.time.raw.extractLsb' 32 32]) ∧
        (sel = 0x0503 → (t.mbox k).code = codeNotPresent ∧ (t.mbox k).data = [0, 0, 0, 0]) ∧
        { t with host := s.host, gov := s.gov, store := s.store, freeCtr := s.freeCtr } = s) ∧
      (∀ k, (s.mbox k).busy = true → ∃ t, exec (.mailboxCaptureComplete k) s = .next t ∧
        t.mbox k = { s.mbox k with busy := false, valid := true } ∧ (∀ j, j ≠ k → t.mbox j = s.mbox j) ∧
        { t with host := { t.host with mboxes := s.host.mboxes } } = s))

/-- DELAY_MAX_CLEAR, GOV_CLEAR, PERF_CLEAR, PERF_FREEZE, PERF_CFG_WRITE, BW_MONITOR_ENABLE, BW_WINDOW_END and PC_SAMPLE
(R153, R429, R530-R534). -/
def Obligations.CountersAndMonitors : Prop :=
  ∀ (s : State), s.host.phase ≠ .por →
    (∀ i, i < 512 → ∃ t, exec (.delayMaxClear 0 i) s = .next t ∧ t.axis i = { s.axis i with delayMax := 0 } ∧
      (∀ j, j ≠ i → t.axis j = s.axis j) ∧ { t with axes := s.axes } = s) ∧
    exec (.govClear 0) s = .next { s with gov := { s.gov with
      tempMax := [-32768, -32768, -32768, -32768, -32768, -32768], peak := 0 } } ∧
    (∃ t, exec (.perfClear 0) s = .next t ∧ (∀ k, Tab.get 0 t.perf.counts k = 0) ∧ (∀ o, t.cfgW o = s.cfgW o) ∧
      { t with perf := { t.perf with counts := s.perf.counts }, regs := s.regs } = s) ∧
    (∀ f, ∃ t, exec (.perfFreeze 0 f) s = .next t ∧ (t.cfgW 0xB0000).bit 2 = f ∧ (t.cfgW 0xB0000).bit 0 = (s.cfgW 0xB0000).bit 0 ∧
      (∀ o, o ≠ 0xB0000 → t.cfgW o = s.cfgW o) ∧ { t with regs := s.regs } = s) ∧
    (∀ k w, k < 128 →
      (perfEventOk (w.bits 0 16) (w.bits 16 8) = false → exec (.perfCfgWrite 0 k w) s = .next s) ∧
      (perfEventOk (w.bits 0 16) (w.bits 16 8) = true → ((s.cfgW 0xB0000).bit 0 = true ∨ (s.perfCfg k).bit 31 = false) →
        ∃ t, exec (.perfCfgWrite 0 k w) s = .next t ∧
          t.perfCfg k = (s.perfCfg k &&& ~~~0xC0FFFFFF#32) ||| (w &&& 0xC0FFFFFF#32) ∧
          (∀ o, o ≠ 0xB0100 + 4 * k → t.cfgW o = s.cfgW o) ∧ { t with regs := s.regs } = s)) ∧
    (∀ m w, m < 16 → portOk (w.bits 20 8) = true → w.bits 29 2 ≠ 3 → 1 ≤ w.bits 0 20 → w.bits 0 20 ≤ 1000000 →
      ∃ t, exec (.bwMonitorEnable 0 m w) s = .next t ∧ (t.cfgW (0xB0800 + 0x10 * m)).bit 31 = true ∧
        t.bw m = { s.bw m with peak := 0, start := some (BitVec.ofNat 64 ((s.time.raw.toNat / 1000 + 1) * 1000)) } ∧
        (∀ j, j ≠ m → t.bw j = s.bw j) ∧ { t with regs := s.regs, perf := s.perf } = s) ∧
    (∀ m bytes busy st, m < 16 → (s.cfgW (0xB0800 + 0x10 * m)).bit 31 = true → (s.bw m).start = some st →
      ∃ t, exec (.bwWindowEnd m bytes busy) s = .next t ∧ (t.bw m).number = (s.bw m).number + 1 ∧
        (t.bw m).bytes = BitVec.ofNat 64 bytes ∧ (t.bw m).busy = Nat.min 1000 busy ∧
        (t.bw m).start = some (st + BitVec.ofNat 64 (1000 * (s.cfgW (0xB0800 + 0x10 * m)).bits 0 20)) ∧
        (∀ j, j ≠ m → t.bw j = s.bw j) ∧ { t with time := s.time, perf := s.perf } = s) ∧
    (∀ c waiting, c < 8 → (s.cfgW (0xB0A00 + 0x10 * c)).bit 31 = true → ∃ t, exec (.pcSample c waiting) s = .next t ∧
      let a := 0x036F8000 + 0x1000 * c + 8 * ((Tab.get 0 s.perf.pcs c).toNat % 512)
      let x := s.core c
      t.mem.bytes a 8 = bytesLE 4 (s.lux (80 + c)).pc ++ bytesLE 2 (x.task.getD 0xFFFF) ++
        [BitVec.ofNat 8 (bitNat (waiting && x.task.isSome) + 2 * bitNat x.task.isNone), 0] ∧
      Tab.get 0 t.perf.pcs c = Tab.get 0 s.perf.pcs c + 1 ∧ (∀ j, j ≠ c → Tab.get 0 t.perf.pcs j = Tab.get 0 s.perf.pcs j) ∧
      s.memorySame t a 8 ∧ t.memoryFrom s = s)

/-- SCHED_WINDOW_WRITE, SCHED_WINDOW_END and CLASS_RIGHT_REMOVE (R405, R549, R561): a WINDOW that is not 0 begins a new window, the
end of a window latches its figures (LOAD and FWAIT are free permille values, log 12), and a right that is taken away does not
come back. -/
def Obligations.SchedulerWindowsAndRights : Prop :=
  ∀ (s : State),
    let sched (x : Sched) : Sched := { x with window := s.sched.window, cores := s.sched.cores }
    (∀ w, s.host.phase ≠ .por → w.bits 0 16 ≠ 0 → ∃ t, exec (.schedWindowWrite 0 w) s = .next t ∧
      (t.cfgW 0x30008).bits 0 16 = w.bits 0 16 ∧ t.sched.window = 0 ∧ (∀ o, o ≠ 0x30008 → t.cfgW o = s.cfgW o) ∧
      (∀ c, c < 8 → t.core c = { s.core c with winMax := 0, winSum := 0, winCount := 0, winElig := (s.eligible c).length }) ∧
      sched t.sched = s.sched ∧ { t with regs := s.regs, sched := s.sched } = s) ∧
    (∀ w, w.bits 0 16 = 0 → exec (.schedWindowWrite 0 w) s = .next s) ∧
    ((s.cfgW 0x30008).bits 0 16 ≠ 0 → (s.cfgW 0x30008).bits 0 16 ≤ s.sched.window → ∃ t, exec .schedWindowEnd s = .next t ∧
      t.sched.window = 0 ∧
      (∀ c, c < 8 → let x := s.core c
        (t.core c).load ≤ 1000 ∧ (t.core c).fwait ≤ 1000 ∧
        t.core c = { x with load := (t.core c).load, fwait := (t.core c).fwait
                            waitMax := BitVec.ofNat 32 (Nat.min 0xFFFFFFFF x.winMax)
                            waitMean := BitVec.ofNat 32 (divRound (x.winSum : Int) x.winCount).toNat
                            maxElig := x.winElig, winMax := 0, winSum := 0, winCount := 0
                            winElig := (s.eligible c).length }) ∧
      sched t.sched = s.sched ∧ { t with sched := s.sched, freeCtr := s.freeCtr } = s) ∧
    ((s.cfgW 0x30008).bits 0 16 = 0 ∨ s.sched.window < (s.cfgW 0x30008).bits 0 16 → exec .schedWindowEnd s = .next s) ∧
    (∀ soft w, s.host.phase ≠ .por →
      let off := if soft then 0x1008 else 0x1004
      (s.lacks originHost (some 6) = false → ∃ t, exec (.classRightRemove 0 soft w) s = .next t ∧
        t.cfgW off = s.cfgW off &&& ~~~(w &&& 0x1FF#32) ∧ (∀ o, o ≠ off → t.cfgW o = s.cfgW o) ∧ { t with regs := s.regs } = s) ∧
      (s.lacks originHost (some 6) = true →
        exec (.classRightRemove 0 soft w) s = .next { s with store := { s.store with denied := off } }))

/-- TASK_START, PENDING_TOKEN_ACCEPT and DELAY_EXPIRY (R393-R395, R397-R401): the first descriptor in the order of R398 starts with its
tokens, or continues from its context; a pending token is offered again and taken, discarded or kept; a delay that is over
makes its descriptor READY as a resume. -/
def Obligations.TasksTokensAndDelays : Prop :=
  ∀ (s : State),
    (∀ c d, c < 8 → d < 4096 → (s.core c).task = none → (s.core c).out = false → s.sched.fault = false →
      s.firstOf (s.startable c) = some d → s.undecodable (descAddr d) = false →
      let ctx := (s.descWord d 12).toNat
      let n := s.descNtok d
      let m := (s.entry d).getD {}
      let again := s.sched.resume.contains d
      (again = true → (wordsOf ctx 128).all (fun w => !s.undecodable w) = true) →
      ∃ t, exec (.taskStart c) s = .next t ∧
        let y := t.lux (80 + c)
        let wait := (lo32 s.time.raw - s.descWord d 28).toNat
        (∀ j, (t.core j).task = (if j = c then some d else (s.core j).task) ∧ (t.core j).out = (s.core j).out ∧
          (t.core j).starts = (if j = c then (s.core j).starts + 1 else (s.core j).starts)) ∧
        (t.core c).winMax = Nat.max (s.core c).winMax wait ∧ (t.core c).winSum = (s.core c).winSum + wait ∧
        (t.core c).winCount = (s.core c).winCount + 1 ∧
        t.descState d = dRunning ∧ t.descByte d 21 = c ∧ t.descWord d 24 = s.descWord d 24 + 1 ∧
        (∀ z, z % 32 ≠ 20 → z ≠ descAddr d + 21 → (z < descAddr d + 24 ∨ descAddr d + 28 ≤ z) → t.mem.byte z = s.mem.byte z) ∧
        (again = false → y.pc = (s.descWord d 0).toNat ∧ t.entry d = none ∧
          (∀ k, Tab.get 0 y.sr k = if k = 0 then BitVec.ofNat 32 d else if k < 5 ∧ k - 1 < n then (m.slot (k - 1)).getD 0
            else if k = 5 then s.descWord d 8 else if k = 6 then s.tt.passage else 0) ∧
          (∀ k, Tab.get 0 y.pr k = if k = 0 then s.descWord d 4 else if k = 1 then s.descWord d 12 else 0)) ∧
        (again = true → y.pc = (s.mem.word (ctx + 96)).toNat ∧ t.entry d = s.entry d ∧
          (∀ k, k < 16 → Tab.get 0 y.sr k = if k = Tab.get 0 s.sched.dlyReg d then 0 else s.mem.word (ctx + 4 * k)) ∧
          (∀ k, k < 8 → Tab.get 0 y.pr k = s.mem.word (ctx + 64 + 4 * k))) ∧
        y.loops = [] ∧ (∀ u, u ≠ 80 + c → t.lux u = s.lux u) ∧ (∀ e, e ≠ d → t.entry e = s.entry e) ∧
        (∀ e, Tab.get 0 t.sched.order e = if e = d then 0 else Tab.get 0 s.sched.order e) ∧
        t.sched.resume = s.sched.resume.filter (· != d) ∧ { t.memoryFrom s with units := s.units, sched := s.sched } = s) ∧
    (∀ k, k < 100 → s.sourcePending k = true →
      let route := s.cfgW (sourceRoute k)
      let d := route.bits 0 12
      let j := route.bits 12 2
      let m := ((s.entry d).getD {}).setSlot j (some (s.sourceCount k))
      let room := match s.entry d with
        | none => decide (s.freeMatches ≠ 0)
        | some x => !x.complete (s.descNtok d) && (x.slot j).isNone
      let invalid : Prop := s.descState d = dInvalid ∨ s.descNtok d ≤ j
      let pend (x : Sched) : Sched := { x with pendCmp := s.sched.pendCmp, pendEvio := s.sched.pendEvio, pendRing := s.sched.pendRing }
      ∃ t, exec (.pendingTokenAccept k) s = .next t ∧
        (∀ i, i < 100 → i ≠ k → t.sourcePending i = s.sourcePending i) ∧
        (s.undecodable (descAddr d) = true → t.sourcePending k = true ∧ t.sched.fault = true ∧ 0x8000 ∈ t.faults.units ∧
          t.mem = s.mem ∧ t.axes = s.axes) ∧
        (s.undecodable (descAddr d) = false →
          (s.sched.fault = true ∨ (¬ invalid ∧ room = false) → t.sourcePending k = true ∧ { t with sched := pend t.sched } = s) ∧
          (s.sched.fault = false → invalid → t.sourcePending k = false ∧
            t.sched.discard = Nat.min 0xFFFF (s.sched.discard + 1) ∧
            { t with sched := { pend t.sched with discard := s.sched.discard } } = s) ∧
          (s.sched.fault = false → ¬ invalid → room = true → t.sourcePending k = false ∧ t.entry d = some m ∧
            (∀ e, e ≠ d → t.entry e = s.entry e) ∧
            (s.descState d ≠ dIdle ∨ m.complete (s.descNtok d) = false →
              { t with sched := { pend t.sched with entries := s.sched.entries } } = s) ∧
            (s.descState d = dIdle → m.complete (s.descNtok d) = true →
              (t.descState d = dReady ∨ t.descState d = dPrefetched) ∧ t.descWord d 28 = lo32 s.time.raw ∧
              Tab.get 0 t.sched.order d = s.sched.seq + 1 ∧ t.sched.resume = s.sched.resume ∧
              (∀ z, z % 32 ≠ 20 → (z < descAddr d + 28 ∨ descAddr d + 32 ≤ z) → t.mem.byte z = s.mem.byte z) ∧
              { t.memoryFrom s with sched := s.sched } = s)))) ∧
    (∀ d, d < 4096 → s.descState d = dDelayed →
      ((∃ e, s.sched.dlyPassage.find? (fun p => p.1 == d) = some (e, 0)) ∨ (s.sched.dlyPassage.find? (fun p => p.1 == d) = none ∧
        ∃ e n, s.sched.dlyMicro.find? (fun p => p.1 == d) = some (e, n) ∧ 1000 * n ≤ s.time.raw.toNat)) →
      ∃ t, exec (.delayExpiry d) s = .next t ∧ (t.descState d = dReady ∨ t.descState d = dPrefetched) ∧
        (s.sched.fault = true → t.descState d = dReady) ∧ t.descWord d 28 = lo32 t.time.raw ∧
        Tab.get 0 t.sched.order d = s.sched.seq + 1 ∧ d ∈ t.sched.resume ∧ (∀ m, (d, m) ∉ t.sched.dlyPassage) ∧
        (∀ m, (d, m) ∉ t.sched.dlyMicro) ∧ t.sched.entries = s.sched.entries ∧
        (∀ c, (t.core c).task = (s.core c).task) ∧
        (∀ z, z % 32 ≠ 20 → (z < descAddr d + 28 ∨ descAddr d + 32 ≤ z) → t.mem.byte z = s.mem.byte z) ∧
        { t.memoryFrom s with sched := s.sched, time := s.time } = s)

/-- CMP_ARM and CMP_FIRE (R303-R305). EVIO_MODE_WRITE, EVIO_QT, EVIO_QPUSH, EVIO_ENTRY_FIRE and EVIO_PERIODIC_EDGE
(R306-R308). EVIO_CAPTURE, CAP_RD_WRITE, ARX_RD_WRITE and STR_RD_WRITE (R276, R310, R311, R339). -/
def Obligations.TimeBlockActs : Prop :=
  (
    ∀ (s : State) (k : Nat), k < 32 →
      let c := s.cmp k
      (s.host.phase ≠ .por → c.skip < 65536 → ∃ t, exec (.cmpArm 0 k) s = .next t ∧ t.cmp k = { c with arm := true } ∧
        (∀ j, j ≠ k → t.cmp j = s.cmp j) ∧ { t with time := { t.time with cmps := s.time.cmps } } = s) ∧
      (c.arm = false → exec (.cmpFire k) s = .next s) ∧
      (c.arm = true → s.time.counting = true → ∃ t, exec (.cmpFire k) s = .next t ∧ (t.cmp k).fired = true ∧
        (t.cmp k).count = c.count + 1 ∧ (c.period = 0 → (t.cmp k).arm = false ∧ (t.cmp k).target = c.target) ∧
        (c.period ≠ 0 → (t.cmp k).arm = true) ∧ (∀ j, j ≠ k → t.cmp j = s.cmp j) ∧ t.time.evios = s.time.evios ∧
        (c.token = false → c.trig = false → { t with time := s.time } = s))) ∧
  (
    ∀ (s : State) (p : Nat), p < 64 →
      let e := s.evio p
      let onlyPin (t : State) : Prop := (∀ j, j ≠ p → t.evio j = s.evio j) ∧
        { t with time := { t.time with evios := s.time.evios } } = s
      (s.host.phase ≠ .por → s.rope.role ≠ 2 →
        (∃ t, exec (.evioModeWrite 0 p 0) s = .next t ∧ onlyPin t ∧ (t.evio p).mode = 0 ∧ (t.evio p).drive = false ∧
          (e.mode ≠ 0 → (t.evio p).queue = [] ∧ (t.evio p).fallAt = none)) ∧
        (e.mode ≠ 1 → ∃ t, exec (.evioModeWrite 0 p 1) s = .next t ∧ onlyPin t ∧ (t.evio p).mode = 1 ∧ (t.evio p).queue = []) ∧
        (e.mode ≠ 2 → 8 ≤ e.period.toNat → 4 ≤ e.phigh.toNat → e.phigh.toNat + 4 ≤ e.period.toNat →
          ∃ t, exec (.evioModeWrite 0 p 2) s = .next t ∧ onlyPin t ∧ (t.evio p).mode = 2 ∧ (t.evio p).cfgErr = e.cfgErr) ∧
        (e.mode ≠ 2 → (e.period.toNat < 8 ∨ e.phigh.toNat < 4 ∨ e.period.toNat < e.phigh.toNat + 4) →
          ∃ t, exec (.evioModeWrite 0 p 2) s = .next t ∧ onlyPin t ∧ (t.evio p).mode = e.mode ∧ (t.evio p).cfgErr = true) ∧
        (∀ l, e.mode = 1 → e.queue.length < 16 → dueAt s.time.time (Tab.get 0 e.latch 0) = false →
          ∃ t, exec (.evioQpush 0 p l) s = .next t ∧ onlyPin t ∧
            t.evio p = { e with queue := e.queue ++ [(Tab.get 0 e.latch 0, l)] }) ∧
        (∀ l, e.mode = 1 → 16 ≤ e.queue.length → ∃ t, exec (.evioQpush 0 p l) s = .next t ∧ onlyPin t ∧
          t.evio p = { e with ovf := true }) ∧
        (∀ l, e.mode ≠ 1 → ∃ t, exec (.evioQpush 0 p l) s = .next t ∧ onlyPin t ∧ t.evio p = e)) ∧
      (s.host.phase ≠ .por → ∀ w, ∃ t, exec (.evioQt 0 p w) s = .next t ∧ onlyPin t ∧ Tab.get 0 (t.evio p).latch 0 = w ∧
        (∀ a, a ≠ 0 → Tab.get 0 (t.evio p).latch a = Tab.get 0 e.latch a) ∧ { t.evio p with latch := e.latch } = e) ∧
      (∀ g l r, e.mode = 1 → s.time.counting = true → e.queue = (g, l) :: r → ∃ t, exec (.evioEntryFire p) s = .next t ∧
        e.firedAt ≠ some t.time.raw ∧ t.evio p = { e with queue := r, out := xor l e.inv, firedAt := some t.time.raw } ∧
        (∀ j, j ≠ p → t.evio j = s.evio j) ∧ { t with time := s.time } = s) ∧
      (e.mode = 2 → s.time.counting = true → e.oldFalls = [] → ∃ t, exec (.evioPeriodicEdge p) s = .next t ∧
        (e.fallAt = none → (t.evio p).out = !e.inv ∧ (t.evio p).fallAt = some (e.nextRise + e.phigh.setWidth 64) ∧
          (t.evio p).nextRise = e.nextRise + e.period.setWidth 64 ∧ (t.evio p).mode = 2 ∧
          (t.evio p).pcount = (if e.endless then e.pcount else e.pcount - 1)) ∧
        (∀ f, e.fallAt = some f → 0 ≤ (e.nextRise - f).toInt → (t.evio p).out = e.inv ∧ (t.evio p).fallAt = none ∧
          (t.evio p).nextRise = e.nextRise ∧ (t.evio p).pcount = e.pcount ∧
          (t.evio p).mode = (if e.endless = false ∧ e.pcount = 0 then 1 else 2)) ∧
        (∀ j, j ≠ p → t.evio j = s.evio j) ∧ { t with time := s.time } = s)) ∧
  (
    ∀ (s : State),
      (∀ p rising run q, run ≤ (s.evio p).filt → exec (.evioCapture p ⟨rising, run⟩ q) s = .next s) ∧
      (∀ p rising run q, p < 64 → (s.evio p).filt < run → (s.evio p).level ≠ rising → s.time.counting = true →
        ∃ t, exec (.evioCapture p ⟨rising, run⟩ q) s = .next t ∧ (t.evio p).level = rising ∧
        ((s.evio p).edge.testBit (if rising then 0 else 1) = false → t.time.capWr = s.time.capWr ∧ t.time.capLost = s.time.capLost) ∧
        ((s.evio p).edge.testBit (if rising then 0 else 1) = true →
          (1024 ≤ (s.time.capWr - s.time.capRd).toNat → t.time.capWr = s.time.capWr ∧ t.time.capLost = s.time.capLost + 1) ∧
          ((s.time.capWr - s.time.capRd).toNat < 1024 → t.time.capWr = s.time.capWr + 1 ∧ t.time.capLost = s.time.capLost ∧
            (s.laterCaptures p q = 0 → (∀ b, b < 4 → (s.privCfg b).mode = 0) →
              t.mem.bytes (0x03600000 + 16 * (s.time.capWr.toNat % 1024)) 16 = bytesLE 8 q ++
                [BitVec.ofNat 8 p, BitVec.ofNat 8 (bitNat rising), 0, 0] ++ bytesLE 4 (s.time.capWr + 1).toNat))) ∧
        t.time.capRd = s.time.capRd ∧ (∀ j, j ≠ p → t.evio j = s.evio j) ∧ t.regs = s.regs ∧ t.axes = s.axes ∧ t.units = s.units) ∧
      (∀ w, s.host.phase ≠ .por →
        ((s.time.capWr - w).toNat ≤ 1024 → exec (.capRdWrite 0 w) s = .next { s with time := { s.time with capRd := w } }) ∧
        (1024 < (s.time.capWr - w).toNat → exec (.capRdWrite 0 w) s = .next s)) ∧
      (∀ r w, r < 4 → s.host.phase ≠ .por →
        (((s.ring r).arxWr - w).toNat ≤ 512 → ∃ t, exec (.arxRdWrite 0 r w) s = .next t ∧
          t.ring r = { s.ring r with arxRd := w } ∧ (∀ j, j ≠ r → t.ring j = s.ring j) ∧ { t with rings := s.rings } = s) ∧
        (512 < ((s.ring r).arxWr - w).toNat → exec (.arxRdWrite 0 r w) s = .next s)) ∧
      (∀ w, s.host.phase ≠ .por → (s.cfgW 0x80010).bits 30 2 ≠ 2 →
        ((s.acq.strWr - w - s.acq.strDrop).toNat ≤ s.streamCap →
          exec (.strRdWrite 0 w) s = .next { s with acq := { s.acq with strRd := w } }) ∧
        (s.streamCap < (s.acq.strWr - w - s.acq.strDrop).toNat → exec (.strRdWrite 0 w) s = .next s)))

/-- ENCODER_EDGE, ENCODER_INDEX_EDGE, QERR_WINDOW_CLOSE and QERR_LIMIT_REACHED (R216-R218, R221-R223, R233): a run of no more than
FILT_N samples passes no filter; a change of one line counts with its sense, a change of both is a quadrature error; a rising
index edge latches TOTAL. SERIAL_DEADLINE and SERIAL_FAIL_LIMIT (R225-R230): a word that is good moves TOTAL, one that fails is
counted; falling edge 0 lies 10 to 15 ns after the passage start, where is free (log 91). -/
def Obligations.EncodersAndSerialPorts : Prop :=
  (
    ∀ (s : State) (c runA runB : Nat) (stamp : U64), c < 16 → s.host.phase ≠ .por →
      let x := s.enc c
      let filt := (s.cfgW (encOff c 0)).bits 24 8
      let sign : Int := if (s.cfgW (encOff c 0)).bit 16 then -1 else 1
      let onlyEnc (t : State) : Prop := (∀ j, j ≠ c → t.enc j = s.enc j) ∧ { t with time := s.time, encs := s.encs } = s
      (∀ ab, runA ≤ filt → runB ≤ filt → ∃ t, exec (.encoderEdge c ⟨ab, runA, runB⟩ stamp) s = .next t ∧ onlyEnc t ∧ t.enc c = x) ∧
      (filt < runA → filt < runB →
        (∃ t, exec (.encoderEdge c ⟨x.ab.toNat, runA, runB⟩ stamp) s = .next t ∧ onlyEnc t ∧ t.enc c = x) ∧
        (∀ ab, (x.ab.toNat, ab) ∈ [(0, 2), (2, 3), (3, 1), (1, 0)] → ∃ t, exec (.encoderEdge c ⟨ab, runA, runB⟩ stamp) s = .next t ∧
          onlyEnc t ∧ (t.enc c).total = x.total + sign ∧ (t.enc c).ab = BitVec.ofNat 2 ab ∧ (t.enc c).dLast = sign ∧
          (t.enc c).tLast = stamp ∧ (t.enc c).qerrTotal = x.qerrTotal) ∧
        (∀ ab, (x.ab.toNat, ab) ∈ [(2, 0), (3, 2), (1, 3), (0, 1)] → ∃ t, exec (.encoderEdge c ⟨ab, runA, runB⟩ stamp) s = .next t ∧
          onlyEnc t ∧ (t.enc c).total = x.total - sign ∧ (t.enc c).ab = BitVec.ofNat 2 ab ∧ (t.enc c).dLast = -sign ∧
          (t.enc c).tLast = stamp ∧ (t.enc c).qerrTotal = x.qerrTotal) ∧
        (∀ ab, (x.ab.toNat, ab) ∈ [(0, 3), (3, 0), (1, 2), (2, 1)] → ∃ t, exec (.encoderEdge c ⟨ab, runA, runB⟩ stamp) s = .next t ∧
          onlyEnc t ∧ (t.enc c).total = x.total ∧ (t.enc c).ab = BitVec.ofNat 2 ab ∧ (t.enc c).qerrFlag = true ∧
          (t.enc c).qerrNow = x.qerrNow + 1 ∧ (t.enc c).qerrTotal = Nat.min 0xFFFF (x.qerrTotal + 1))) ∧
      (∀ level, runA ≤ filt → ∃ t, exec (.encoderIndexEdge c ⟨x.ab.toNat, ⟨level, runA⟩, stamp⟩) s = .next t ∧ onlyEnc t ∧ t.enc c = x) ∧
      (∀ level, filt < runA → xor level ((s.cfgW (encOff c 0)).bit 17) = true →
        (x.idxLevel = true → ∃ t, exec (.encoderIndexEdge c ⟨x.ab.toNat, ⟨level, runA⟩, stamp⟩) s = .next t ∧ onlyEnc t ∧ t.enc c = x) ∧
        (x.idxLevel = false → ∃ t, exec (.encoderIndexEdge c ⟨x.ab.toNat, ⟨level, runA⟩, stamp⟩) s = .next t ∧
          (t.enc c).idxLevel = true ∧ (t.enc c).idxCount = x.idxCount + 1 ∧
          (t.enc c).idxPrev = some x.total ∧ (t.enc c).total = x.total ∧
          (x.idxThis = false → (t.enc c).idxTotal = x.total ∧ (t.enc c).idxStamp = stamp) ∧
          (x.idxThis = true → (t.enc c).idxTotal = x.idxTotal ∧ (t.enc c).idxStamp = x.idxStamp) ∧
          ((s.cfgW (encOff c 0)).bit 18 = false → onlyEnc t))) ∧
      (∀ level, filt < runA → xor level ((s.cfgW (encOff c 0)).bit 17) = false →
        ∃ t, exec (.encoderIndexEdge c ⟨x.ab.toNat, ⟨level, runA⟩, stamp⟩) s = .next t ∧ onlyEnc t ∧
          t.enc c = { x with idxLevel := false })) ∧
  (
    ∀ (s : State) (ch : Nat) (w : QWindow), ch < 16 ∨ (512 ≤ ch ∧ ch < 1024) → s.qWindow ch = some w →
      let others (t : State) : Prop := (∀ j, j ≠ ch → t.enc j = s.enc j) ∧ (∀ j, 512 + j ≠ ch → t.rem j = s.rem j)
      ((s.qerrCfg ch).bits 16 16 ≤ w.passages → ∃ t, exec (.qerrWindowClose ch) s = .next t ∧ t.qWindow ch = none ∧ others t ∧
        { t with encs := s.encs, rems := s.rems } = s) ∧
      (w.passages < (s.qerrCfg ch).bits 16 16 → exec (.qerrWindowClose ch) s = .next s) ∧
      (w.raised = false → (s.qerrCfg ch).bits 0 8 ≤ w.count → ∃ t, exec (.qerrLimitReached ch) s = .next t ∧
        t.qWindow ch = some { w with raised := true } ∧ others t ∧
        (ch < 16 → (t.enc ch).fault = 1 ∧ (t.enc ch).ended = false ∧ (t.enc ch).total = (s.enc ch).total) ∧
        (512 ≤ ch → (t.rem (ch - 512)).fault = 1 ∧ (t.rem (ch - 512)).ended = false ∧
          (t.rem (ch - 512)).total = (s.rem (ch - 512)).total) ∧
        t.regs = s.regs ∧ t.mem = s.mem ∧ t.gens = s.gens) ∧
      (w.raised = true ∨ w.count < (s.qerrCfg ch).bits 0 8 → exec (.qerrLimitReached ch) s = .next s)) ∧
  (
    ∀ (s : State) (p : Nat) (edge0 : Bool) (samples : List Bool) (word : Option Nat), p < 8 →
      let x := s.ser p
      let cfg := s.cfgW (serOff p 0)
      let deadline := 10 * nthD 0 s.image.wiring.serialDeadline p
      let onlyPort (t : State) : Prop := (∀ j, j ≠ p → t.ser j = s.ser j) ∧
        (∀ w, word = some w → (t.ser p).word = BitVec.ofNat 64 w) ∧ (word = none → (t.ser p).word = x.word) ∧
        { t with time := s.time, sers := s.sers, freeCtr := s.freeCtr } = s
      let lost (t : State) (err : Nat) (warn : Bool) : Prop := onlyPort t ∧ (t.ser p).total = x.total ∧ (t.ser p).last = x.last ∧
        (t.ser p).fails = Nat.min 0xFFFF (x.fails + 1) ∧ (t.ser p).failRun = x.failRun + 1 ∧ (t.ser p).lastErr = err ∧
        (t.ser p).age = Nat.min 15 (x.age + 1) ∧ (t.ser p).warns = x.warns + bitNat warn
      let taken (t : State) (pos : Nat) (total : Int) : Prop := onlyPort t ∧ (t.ser p).total = total ∧
        (t.ser p).last = some pos ∧ (t.ser p).age = 0 ∧ (t.ser p).failRun = 0 ∧ (t.ser p).fails = x.fails
      s.tt.clockOn = true → s.rope.role ≠ 2 →
      (∀ first, 10 ≤ first → first ≤ 15 →
        serialReceived cfg (s.cfgW (serOff p 4)) deadline first edge0 samples = word) →
        (word = none → ∃ t, exec (.serialDeadline p edge0 samples) s = .next t ∧ lost t 1 false) ∧
        (∀ e warn, serialWord cfg word = .fail e warn → ∃ t, exec (.serialDeadline p edge0 samples) s = .next t ∧ lost t e warn) ∧
        (∀ pos warn, serialWord cfg word = .pos pos warn →
          (x.last = none → ∃ t, exec (.serialDeadline p edge0 samples) s = .next t ∧ taken t pos pos) ∧
          (∀ l, x.last = some l →
            let d := signedDiff (cfg.bits 16 6) ((pos : Int) - l)
            (d.natAbs ≤ (s.cfgW (serOff p 8)).bits 0 28 → ∃ t, exec (.serialDeadline p edge0 samples) s = .next t ∧
              taken t pos (x.total + d)) ∧
            ((s.cfgW (serOff p 8)).bits 0 28 < d.natAbs → ∃ t, exec (.serialDeadline p edge0 samples) s = .next t ∧
              lost t 4 warn)))) ∧
  (
    ∀ (s : State) (cfg : Word) (bits p : Nat),
      (cfg.bit 31 = true →
        let good : Prop := (crc8 (bits / 256) 40 0).toNat = bits % 256
        (¬ good → serialWord cfg (some bits) = .fail 2 false) ∧
        (good → bits.testBit 15 = true → serialWord cfg (some bits) = .fail 3 (bits.testBit 14)) ∧
        (good → bits.testBit 15 = false → serialWord cfg (some bits) =
          .pos (bits / 2 ^ 16 % 2 ^ cfg.bits 16 6) (bits.testBit 14))) ∧
      (p < 8 → let x := s.ser p
        let limit := (s.cfgW (serOff p 8)).bits 28 4
        1 ≤ limit → limit ≤ x.failRun → (x.fault ≠ 3 ∨ x.ended = true) →
        ∃ t, exec (.serialFailLimit p) s = .next t ∧ t.ser p = { x with fault := 3, ended := false } ∧
          (∀ j, j ≠ p → t.ser j = s.ser j) ∧ t.regs = s.regs ∧ t.mem = s.mem ∧ t.gens = s.gens ∧ t.encs = s.encs))

/-- PASSAGE_HEADER and COLD_START_HEADER (R255, R269, R279, R458): a part's own header come round, one whose CHECK is wrong,
and one of a part that is neither this one nor its peer. -/
def Obligations.HeadersAreHeard : Prop :=
  ∀ (s : State) (r port arrival : Nat) (bs : List Byte) (cold : Bool), s.ringListens = true → s.ringInUse r = true → port < 2 →
    let row : Instr := if cold then .coldStartHeader r port bs arrival else .passageHeader r port bs arrival
    ((bs.length ≠ 32 ∨ frameOk bs = false) → ∃ t, exec row s = .next t ∧ (t.ring r).check = (s.ring r).check + 1 ∧
      (t.ring r).hdr0 = (s.ring r).hdr0 ∧ (t.ring r).hdr1 = (s.ring r).hdr1 ∧ (∀ j, j ≠ r → t.ring j = s.ring j) ∧
      { t with time := s.time, rings := s.rings, perf := s.perf } = s) ∧
    (bs.length = 32 → frameOk bs = true → nthD 0 bs 0 = (if cold then 2 else 1) → rlRing (nthD 0 bs 1) = r →
      (fieldLE bs 20 4 = s.ownTag → (nthD 0 bs 1).getLsbD 4 = false → ∃ t, exec row s = .next t ∧
        (let loop := Nat.min 0xFFFF (BitVec.ofNat 64 (arrival / 10) - BitVec.ofNat 64 (fieldLE bs 8 8)).toNat
         let y := t.ring r
         if port = 0 then y.seen0 = true ∧ y.hdr0 = true ∧ y.own0 = true ∧ y.loopY = loop
         else y.seen1 = true ∧ y.hdr1 = true ∧ y.own1 = true ∧ y.loopX = loop) ∧ (t.ring r).check = (s.ring r).check ∧
        (cold = true → s.rope.attempt = true → t.rope.returned = true) ∧ (∀ j, j ≠ r → t.ring j = s.ring j) ∧
        { t with time := s.time, rings := s.rings, perf := s.perf
                 rope := { t.rope with returned := s.rope.returned } } = s) ∧
      (fieldLE bs 20 4 ≠ s.ownTag → s.team = false → ∃ t, exec row s = .next t ∧ (t.ring r).st = .conflict ∧ t.rope.role = 15 ∧
        t.rope.cfg = 1 ∧ t.rope.leadon = false ∧ t.regs = s.regs ∧ t.units = s.units))

/-- BARGE and RING_IN_HORIZON (R258, R263, R266, R280): an accepted copy is kept for the horizon, which writes it into the
upstream entry with AGE 0; a frame whose CHECK is wrong is rejected. -/
def Obligations.BargesReachTheHorizon : Prop :=
  ∀ (s : State) (r : Nat), s.ringInUse r = true → s.host.phase = .run → s.rope.role = 1 →
    (∀ port bs arrival, port < 2 → frameOk bs = false → ∃ t, exec (.barge r port bs arrival) s = .next t ∧
      (t.ring r).police = (s.ring r).police + 1 ∧ (t.ring r).check = (s.ring r).check + 1 ∧ (t.ring r).nodes = (s.ring r).nodes ∧
      (∀ j, j ≠ r → t.ring j = s.ring j) ∧ { t with time := s.time, rings := s.rings, perf := s.perf } = s) ∧
    (∀ port bs arrival, port < 2 → frameOk bs = true → bargeLength bs = true → nthD 0 bs 0 = 0x10 → rlRing (nthD 0 bs 1) = r →
      rlLaneY (nthD 0 bs 1) = decide (port = 0) → (nthD 0 bs 1).getLsbD 4 = false →
      let n := (nthD 0 bs 2).toNat
      1 ≤ n → n ≤ s.nNodes r → ((s.ring r).node n).lock = .opened →
      let due := 10 * s.tt.start.toNat + slotInstant (zones s.image.period s.periodNs) (s.nNodes r) n (decide (port = 0))
      s.inWindow r (bargeOffset arrival due (if port = 0 then (s.ring r).endY else (s.ring r).endX)) = true →
      ∃ t, exec (.barge r port bs arrival) s = .next t ∧
        (if port = 0 then ((t.ring r).node n).nowY = true else ((t.ring r).node n).nowX = true) ∧
        ((t.ring r).node n).gtot = nthD 0 bs 4 ∧ ((t.ring r).node n).utot = nthD 0 bs 5 ∧
        ((t.ring r).node n).rx.isSome = true ∧
        (((s.ring r).node n).rx = none → ∀ rx, ((t.ring r).node n).rx = some rx →
          rx.recs = (bs.drop 14).take (bs.length - 18) ∧ rx.safe = (bs.drop 6).take 8 ∧ rx.diverge = false ∧
          rx.laneY = decide (port = 0)) ∧ (t.ring r).police = (s.ring r).police ∧
        (∀ m, m ≠ n → (t.ring r).node m = (s.ring r).node m) ∧ (∀ j, j ≠ r → t.ring j = s.ring j) ∧
        { t with time := s.time, rings := s.rings, perf := s.perf } = s) ∧
    (s.tt.clockOn = false → exec .ringInHorizon s = .next s) ∧
    (s.tt.clockOn = true → (∀ j, s.nNodes j ≤ 64) → ∃ t, exec .ringInHorizon s = .next t ∧
      (∀ n slot rx, 1 ≤ n → n ≤ s.nNodes r → slot < perNode s.image.period → ((s.ring r).node n).lock = .opened →
        ((s.ring r).node n).rx = some rx → 36 * slot + 36 ≤ rx.recs.length →
        let a := ringBase r + 48 * ((n - 1) * perNode s.image.period + slot)
        t.mem.bytes a 36 = (rx.recs.drop (36 * slot)).take 36 ∧ (t.mem.byte (a + 36)).toNat % 16 = 0) ∧
      t.regs = s.regs ∧ t.tt.passage = s.tt.passage ∧ t.units = s.units)

/-- DOWNSTREAM_FRAME and ACYCLIC_FRAME (R251, R268, R272, R280, R456): a member repeats its LEAD's frame and notes it; a
node's frame enters the receive queue. -/
def Obligations.FramesAreTakenUp : Prop :=
  ∀ (s : State) (r port : Nat) (bs : List Byte), s.ringInUse r = true → s.host.phase = .run → port < 2 →
    (∀ arrival, s.rope.role = 3 → nthD 0 bs 0 = 0x20 → rlRing (nthD 0 bs 1) = r →
      ∃ t, exec (.downstreamFrame r port bs arrival) s = .next t ∧
        (t.ring r).txRepeat = (if (if port = 0 then (s.ring r).dead1 else (s.ring r).dead0) = true then (s.ring r).txRepeat else bs) ∧
        Tab.get none t.rope.downSeen r = some (BitVec.ofNat 32 (fieldLE bs 4 4)) ∧ (∀ j, j ≠ r → t.ring j = s.ring j) ∧
        { t with time := s.time, rings := s.rings, perf := s.perf, rope := s.rope } = s) ∧
    (∀ n len, 1 ≤ s.rope.role → s.rope.role ≤ 4 → frameOk bs = true → nthD 0 bs 0 = 0x30 → rlRing (nthD 0 bs 1) = r →
      (nthD 0 bs 2).toNat = n → fieldLE bs 5 2 = len → len ≤ 256 → bs.length = len + 12 → 1 ≤ n → n ≤ s.nNodes r →
      ((s.ring r).node n).upSeq ≠ some (nthD 0 bs 3) → ((s.ring r).arxWr - (s.ring r).arxRd).toNat < 512 →
      ∃ t, exec (.acyclicFrame r port bs) s = .next t ∧ (t.ring r).arxWr = (s.ring r).arxWr + 1 ∧
        ((t.ring r).node n).upSeq = some (nthD 0 bs 3) ∧ (∀ j, j ≠ r → t.ring j = s.ring j) ∧
        (let a := ringBase r + 0x10000 + 320 * ((s.ring r).arxWr.toNat % 512)
         t.mem.byte a = BitVec.ofNat 8 n ∧ t.mem.bytes (a + 32) len = (bs.drop 8).take len) ∧ t.regs = s.regs ∧ t.axes = s.axes)

/-- POUND_PROBE_SEND, POUND_PROBE and POUND_PROBE_REPLY (R278): the delay of a pound is measured with four stamps.
EDGE_LIMIT_REACHED, JOIN_COUNT_REACHED, BARGE_ABSENCE_TIMEOUT and CREDIT_RESYNC (R264, R265, R274, R275), and
BLOCK_LOCK_LOSS, HEADER_ABSENCE, BLOCK_LOCK_REGAINED and HOLE_CLEAR (R269, R270). -/
def Obligations.PoundsNodesAndFibres : Prop :=
  (
    ∀ (s : State) (r port : Nat), s.ringSends = true → s.ringInUse r = true → port < 2 →
      let x := s.ring r
      let onlyRing (t : State) : Prop := (∀ j, j ≠ r → t.ring j = s.ring j) ∧
        { t with time := s.time, rings := s.rings, perf := s.perf } = s
      (∃ t, exec (.poundProbeSend r port) s = .next t ∧ onlyRing t ∧
        (if port = 0 then (t.ring r).probe0 = some s.time.time ∧ (t.ring r).probe1 = x.probe1
          else (t.ring r).probe1 = some s.time.time ∧ (t.ring r).probe0 = x.probe0)) ∧
      (∀ bs arrival, bs.length = 32 → frameOk bs = true → nthD 0 bs 0 = 0x40 →
        ∃ t, exec (.poundProbe r port bs arrival) s = .next t ∧ onlyRing t ∧ nthD 0 (t.ring r).txLocal 0 = 0x41 ∧
          ((t.ring r).txLocal.drop 8).take 8 = (bs.drop 8).take 8 ∧ fieldLE (t.ring r).txLocal 16 8 = arrival / 10 % 2 ^ 64) ∧
      (∀ bs arrival, bs.length = 40 → frameOk bs = true → nthD 0 bs 0 = 0x41 →
        (if port = 0 then x.probe0 else x.probe1) = some (BitVec.ofNat 64 (fieldLE bs 8 8)) →
        let d := poundDelay (BitVec.ofNat 64 (fieldLE bs 8 8)) (BitVec.ofNat 64 (fieldLE bs 16 8)) (BitVec.ofNat 64 (fieldLE bs 24 8))
          (BitVec.ofNat 64 (arrival / 10))
        ∃ t, exec (.poundProbeReply r port bs arrival) s = .next t ∧ onlyRing t ∧
          (if port = 0 then t.ring r = { x with probe0 := none, pounds0 := (d :: x.pounds0).take 8 }
            else t.ring r = { x with probe1 := none, pounds1 := (d :: x.pounds1).take 8 }))) ∧
  (
    ∀ (s : State) (r n port : Nat), r < 4 → port < 2 →
      let x := s.ring r
      let v := x.node n
      let becomes (c : Instr) (w : RNode) : Prop := ∃ t, exec c s = .next t ∧ (t.ring r).node n = w ∧
        (∀ m, m ≠ n → (t.ring r).node m = x.node m) ∧ { t.ring r with nodes := x.nodes } = x ∧ (∀ j, j ≠ r → t.ring j = s.ring j) ∧
        { t with rings := s.rings } = s
      (s.keepsBooks = true →
        (v.lock = .opened → s.edgeLimit r ≤ v.edgeRun → becomes (.edgeLimitReached r n) { v with lock := .closed }) ∧
        (v.lock = .trial → s.joinCount r ≤ v.joinRun → becomes (.joinCountReached r n)
          { v with lock := .opened, joinRun := 0, granted := v.gtot, used := v.utot, absence := 0, inflightRun := 0 }) ∧
        (v.lock = .opened → 16 ≤ v.absence → becomes (.bargeAbsenceTimeout r n) { v with lock := .trial, joinRun := 0 }) ∧
        (2 ≤ v.inflightRun → ∃ t, exec (.creditResync r n) s = .next t ∧
          (t.ring r).node n = { v with granted := v.gtot, used := v.utot, inflightRun := 0 } ∧
          (t.ring r).acycLost = x.acycLost + BitVec.ofNat 32 (v.utot - v.used).toNat ∧
          (t.ring r).resyncs = Nat.min 0xFFFF (x.resyncs + 1) ∧ (∀ j, j ≠ r → t.ring j = s.ring j) ∧ { t with rings := s.rings } = s)) ∧
      (s.ringSends = false → ∃ t, exec (.blockLockLoss r port) s = .next t ∧
        t.ring r = (if port = 0 then { x with lock0 := false, good0 := 0 } else { x with lock1 := false, good1 := 0 }) ∧
        (∀ j, j ≠ r → t.ring j = s.ring j) ∧ { t with rings := s.rings } = s) ∧
      (s.ringSends = true → s.ringInUse r = true → ∃ t, exec (.blockLockLoss r port) s = .next t ∧
        (if port = 0 then (t.ring r).dead0 = true ∧ (t.ring r).lock0 = false else (t.ring r).dead1 = true ∧ (t.ring r).lock1 = false) ∧
        (∀ j, j ≠ r → t.ring j = s.ring j) ∧ { t with rings := s.rings } = s) ∧
      (s.ringSends = true → (if port = 0 then 2 ≤ x.noHdr0 ∧ 2 ≤ x.got1 else 2 ≤ x.noHdr1 ∧ 2 ≤ x.got0) →
        ∃ t, exec (.headerAbsence r port) s = .next t ∧ (if port = 0 then (t.ring r).dead0 = true else (t.ring r).dead1 = true) ∧
          (∀ j, j ≠ r → t.ring j = s.ring j) ∧ { t with rings := s.rings } = s) ∧
      (∃ t, exec (.blockLockRegained r port) s = .next t ∧
        t.ring r = (if port = 0 then { x with lock0 := true } else { x with lock1 := true }) ∧
        (∀ j, j ≠ r → t.ring j = s.ring j) ∧ { t with rings := s.rings } = s) ∧
      ((x.lastFold = none ∨ ∃ p, x.lastFold = some p ∧ 2 ≤ (s.tt.passage - p).toNat) → x.dead0 = false → x.dead1 = false →
        ∃ t, exec (.holeClear r) s = .next t ∧
        t.ring r = { x with holes := [], lastFold := none } ∧ (∀ j, j ≠ r → t.ring j = s.ring j) ∧ { t with rings := s.rings } = s) ∧
      ((x.dead0 = true ∨ x.dead1 = true) → exec (.holeClear r) s = .next s))

/-- TRIGGER_TIMEOUT, POST_REACHED, PRE_VALID and MASK_LOAD_COMPLETE (R331, R334, R341, R342, R351). -/
def Obligations.TriggersAndChannels : Prop :=
  ∀ (s : State),
    (∀ u p v idx start, u < 16 → (s.trgCfg u).kind = 3 → (s.trg u).timedOut = false →
      ((s.trgCfg u).dir = 2 ∨ ((s.trgCfg u).dir = 0 ↔ (s.trg u).cond = true)) → (s.trg u).trans = some p →
      (s.trgCfg u).srcKind = 0 → (s.trg u).prev = some (v, idx, start) →
      (p + (s.trgCfg u).w1 ≤ idx * 256 → ∃ t, exec (.triggerTimeout u) s = .next t ∧ (t.trg u).timedOut = true ∧
        (t.trg u).fired = true ∧ (t.trg u).count = (s.trg u).count + 1 ∧ (∀ w, w ≠ u → t.trg w = s.trg w) ∧
        t.mem = s.mem ∧ t.regs = s.regs ∧ t.axes = s.axes ∧ (s.bad = [] → { t with acq := s.acq } = s)) ∧
      (idx * 256 < p + (s.trgCfg u).w1 → exec (.triggerTimeout u) s = .next s)) ∧
    (∀ u p, u < 16 → (s.trgCfg u).kind = 3 → (s.trg u).timedOut = false →
      ((s.trgCfg u).dir = 2 ∨ ((s.trgCfg u).dir = 0 ↔ (s.trg u).cond = true)) → (s.trg u).trans = some p →
      (s.trgCfg u).srcKind ≠ 0 → p + 10 * (s.trgCfg u).w1 ≤ 4 * s.time.time.toNat → s.time.time.toNat < 2 ^ 62 →
      ∃ t, exec (.triggerTimeout u) s = .next t ∧ (t.trg u).timedOut = true ∧ (t.trg u).fired = true ∧
        (t.trg u).count = (s.trg u).count + 1 ∧ (∀ w, w ≠ u → t.trg w = s.trg w) ∧
        { t.memoryFrom s with acq := s.acq, time := s.time } = s) ∧
    (∀ u, (16 ≤ u ∨ (s.trgCfg u).kind ≠ 3 ∨ (s.trg u).timedOut = true ∨ (s.trg u).trans = none) →
      exec (.triggerTimeout u) s = .next s) ∧
    (∀ b, b < 4 →
      let f := s.fillFast b
      let p := f.priv b
      let c := s.privCfg b
      (p.st = .triggered → c.post ≤ p.postHeld → ∃ t, exec (.postReached b) s = .next t ∧ t.priv b = { p with
        st := .stopped, stop := 1, preHeld := Nat.min c.pre (Nat.min p.trigW (c.len - p.postHeld)) } ∧
        (∀ j, j ≠ b → t.priv j = s.priv j) ∧ { t.memoryFrom s with acq := s.acq } = s) ∧
      (p.st = .triggered → p.postHeld < c.post → exec (.postReached b) s = .next s) ∧
      ((p.st = .armed ∨ p.st = .triggered) → c.pre ≤ p.held → ∃ t, exec (.preValid b) s = .next t ∧
        t.priv b = { p with preValid := true } ∧ (∀ j, j ≠ b → t.priv j = s.priv j) ∧
        { t.memoryFrom s with acq := s.acq } = s) ∧
      (let active := 0x03640000 + 0x8000 * b
       let staged := 0x03660000 + 0x8000 * b
       (s.priv b).maskLoading = true → ∃ t, exec (.maskLoadComplete b) s = .next t ∧
        t.mem.bytes active (8 * c.maskN) = s.mem.bytes staged (8 * c.maskN) ∧
        s.memorySame t active (8 * c.maskN) ∧ t.priv b = { s.priv b with maskLoading := false } ∧
        (∀ j, j ≠ b → t.priv j = s.priv j) ∧ t.regs = s.regs ∧ t.axes = s.axes ∧
        (∀ w ∈ wordsOf staged (8 * c.maskN), s.undecodable w = true →
          0x6000 ∈ t.faults.units ∧ w - staged + active ∈ t.bad) ∧
        ((wordsOf staged (8 * c.maskN)).any s.undecodable = false → { t.memoryFrom s with acq := s.acq } = s)) ∧
      ((s.priv b).maskLoading = false → exec (.maskLoadComplete b) s = .next s))

/-- The frames of a rope link that the rows carry with their content read (R439, R443-R445, R459, R461): a frame whose CHECK
is wrong is discarded and counted; the frames of the LEAD act on a SECOND or a joiner, a COPY on a joiner, a GRANT on the
part that it names. -/
def Obligations.RopeFramesAct : Prop :=
  ∀ (s : State) (link : Nat), link < 2 → (s.host.phase = .listen ∨ s.host.phase = .run) → s.rope.role ≠ 15 →
    let r := s.rope
    let only (t : State) (x : Rope) : Prop := { t with perf := s.perf } = { s with rope := x }
    (∀ tag items p books chans evio action reason q reg w target serial block left,
      ∀ c ∈ [Instr.batch link false tag items, .ledger link false p books, .local_ link false p chans evio,
        .localSer link false p chans, .verdict link false p action reason, .evioFrame link false q reg w target,
        .grant link false serial, .copy link false block left],
      ∃ t, exec c s = .next t ∧ only t (if link = 0 then
          { r with errors := (Nat.min 0xFFFF (r.errors.1 + 1), r.errors.2), flag := (true, r.flag.2) }
        else { r with errors := (r.errors.1, Nat.min 0xFFFF (r.errors.2 + 1)), flag := (r.flag.1, true) })) ∧
    ((r.role = 3 ∨ r.role = 4) →
      (∀ p chans evio, ∃ t, exec (.local_ link true p chans evio) s = .next t ∧
        only t { r with localAt := some p, locals := chans, evio := evio }) ∧
      (∀ p chans, ∃ t, exec (.localSer link true p chans) s = .next t ∧
        only t { r with localSerAt := some p, serLocals := chans }) ∧
      (∀ p, ∃ t, exec (.ledger link true p []) s = .next t ∧ only t { r with ledgerAt := some p }) ∧
      (∀ p (b : LedgerNode), b.lock < 4 → ∃ t, exec (.ledger link true p [b]) s = .next t ∧
        ((t.ring b.ring).node b.node).lock = nthD .closed [NLock.closed, .trial, .opened, .absent] b.lock ∧
        ((t.ring b.ring).node b.node).edgeRun = b.edgeRun ∧ ((t.ring b.ring).node b.node).granted = b.granted ∧
        ((t.ring b.ring).node b.node).used = b.used ∧ ((t.ring b.ring).node b.node).aslot = b.aslot ∧
        ((t.ring b.ring).node b.node).downSeq = b.seq ∧
        (∀ g n, (g, n) ≠ (b.ring, b.node) → (t.ring g).node n = (s.ring g).node n) ∧
        { t with perf := s.perf, rings := s.rings } = { s with rope := { r with ledgerAt := some p } }) ∧
      (∀ tag, ∃ t, exec (.batch link true tag []) s = .next t ∧ only t { r with
        batches := r.batches ++ [(tag, [])]
        lastBatch := if r.lastBatch = none ∨ r.lastBatch = some (tag - 1) then some tag else r.lastBatch }) ∧
      (∀ tag off w, ∃ t, exec (.batch link true tag [.reg off w]) s = .next t ∧ only t { r with
        batches := r.batches ++ [(tag, [.reg off w])]
        lastBatch := if r.lastBatch = none ∨ r.lastBatch = some (tag - 1) then some tag else r.lastBatch }) ∧
      (∀ p w target, p < 64 → ∃ t, exec (.evioFrame link true p 8 w target) s = .next t ∧
        (∀ j, j ≠ p → t.evio j = s.evio j) ∧
        t.evio p = (if (s.evio p).mode = 1 ∧ (s.evio p).queue.length < 16 then
          { s.evio p with queue := (s.evio p).queue ++ [(target, w.bit 0)] } else s.evio p) ∧
        { t with perf := s.perf, time := { t.time with evios := s.time.evios } } = s)) ∧
    (r.role = 5 → ∀ tag off w, ∃ t, exec (.batch link true tag [.reg off w]) s = .next t ∧ only t r) ∧
    (r.role ≠ 4 → ∀ block left, ∃ t, exec (.copy link true block left) s = .next t ∧ only t r) ∧
    (r.role = 4 → ∀ off w left, left < 2 ^ 24 → ∃ t, exec (.copy link true (.register off w) left) s = .next t ∧
      t.cfgW off = w ∧ (∀ o, o ≠ off → t.cfgW o = s.cfgW o) ∧
      { t with perf := s.perf, regs := { t.regs with cfg := s.regs.cfg } } = { s with rope := { r with
        stage := if left = 0 then 3 else 1, left := left, checkRun := 0, checkBad := false } }) ∧
    (∀ serial : Word, ∃ t, exec (.grant link true serial) s = .next t ∧
      only t (if serial.toNat = s.ownTag then { r with granted := true } else r))

/-- HEARTBEAT, SAMPLE and VERDICT (R447, R449-R451, R462, R465). BELAY_DECISION and BELAY_GRANT (R450, R459): the first rule
of the table that applies decides, and leadership is granted once. -/
def Obligations.HeartbeatsVerdictsAndTheBelay : Prop :=
  (
    ∀ (s : State) (link : Nat), link < 2 → (s.host.phase = .listen ∨ s.host.phase = .run) → s.rope.role ≠ 15 →
      let r := s.rope
      let n := s.tt.passage
      let only (t : State) (x : Rope) : Prop := { t with perf := s.perf } = { s with rope := x }
      (∀ bs, bs.length = 52 → frameOk bs = true → nthD 0 bs 0 = 0x50 → (r.strap = 1 ∨ r.strap = 2) →
        let belay := (nthD 0 bs 1).toNat = 7
        (link = 1 → belay → ∃ t, exec (.heartbeat link bs) s = .next t ∧
          only t { r with belayAt := some n, belayEver := true }) ∧
        ((link = 0 ∧ belay ∨ link = 1 ∧ ¬ belay) → ∃ t, exec (.heartbeat link bs) s = .next t ∧ t.rope.role = 15 ∧
          t.rope.cfg = 6 ∧ t.mem = s.mem ∧ t.regs.cfg = s.regs.cfg) ∧
        (link = 0 → ¬ belay → Config.strapShown bs ≠ r.strap → BitVec.ofNat 32 (fieldLE bs 36 4) = s.store.ident.team →
          ∃ t, exec (.heartbeat link bs) s = .next t ∧ t.rope.peerAt = some n ∧
            t.rope.peerSerial = BitVec.ofNat 32 (fieldLE bs 24 4) ∧ t.rope.peer.role = (nthD 0 bs 1).toNat ∧
            t.rope.peer.passage = some (BitVec.ofNat 32 (fieldLE bs 4 4)) ∧ t.rope.peer.digest = BitVec.ofNat 64 (fieldLE bs 8 8) ∧
            t.rope.role = r.role ∧ t.gov.peerDemand = (if r.role = 2 then (nthD 0 bs 3).toNat % 4 else 0) ∧
            { t with perf := s.perf, rope := s.rope, gov := { t.gov with peerDemand := s.gov.peerDemand } } = s)) ∧
      (∀ bs, 20 ≤ bs.length → frameOk bs = true → nthD 0 bs 0 = 0x54 → ∃ t, exec (.sample link bs) s = .next t ∧
        only t (if r.role = 7 then { r with samples := r.samples.filter (fun p => p.1 != link) ++ [(link, bs)] } else r)) ∧
      (∀ p action reason, r.verdictOf ≠ some p → (r.role = 2 ∨ r.role = 3 ∧ link = 0) →
        ∃ t, exec (.verdict link true p action reason) s = .next t ∧ t.rope.verdictOf = some p ∧
          { t with perf := s.perf, rope := s.rope } = s ∧
          (action = 0 → only t { r with verdictOf := some p }) ∧
          (action = 1 → t.rope.action = 1 ∧ t.rope.reason = reason ∧
            (r.role = 2 → t.rope.take = r.take ∧ t.rope.nextRole = if p = n then some 6 else r.nextRole) ∧
            (r.role = 3 → t.rope.nextRole = r.nextRole ∧ t.rope.take = if p = n then true else r.take)) ∧
          (action = 2 → t.rope.action = 2 ∧ t.rope.reason = reason ∧ t.rope.take = r.take ∧
            t.rope.nextRole = if p = n ∧ r.role = 3 then some 5 else r.nextRole)) ∧
      (∀ p action reason, r.verdictOf = some p → ∃ t, exec (.verdict link true p action reason) s = .next t ∧ only t r)) ∧
  (
    ∀ (s : State), s.rope.role = 7 →
      let r := s.rope
      let n := s.tt.passage
      let only (t : State) (x : Rope) : Prop := { t with perf := s.perf } = { s with rope := x }
      let frames (bs : List Byte) : List (Nat × List Byte) := r.sent ++ [(0, bs), (1, bs)]
      let verdict (action reason : Byte) : List Byte := withCheck ([0x55, action, reason, 0] ++ bytesLE 4 n.toNat)
      (s.host.phase = .run → r.beatA.role = 2 → r.beatB.role = 3 →
        let lead := r.beatA.passage = some n ∧ r.beatA.fault = false ∧ r.beatA.resign = false
        let second := r.beatB.passage = some n ∧ r.beatB.fault = false
        (¬ lead → second → ∃ t, exec .belayDecision s = .next t ∧ only t { r with
          samples := [], sent := frames (verdict 1 1), action := 1, reason := 1, takeovers := Nat.min 255 (r.takeovers + 1) }) ∧
        (¬ second → ∃ t, exec .belayDecision s = .next t ∧ only t { r with
          samples := [], sent := frames (verdict 2 2), action := 2, reason := 2, dismissals := Nat.min 255 (r.dismissals + 1) }) ∧
        (lead → second → r.beatA.digest = r.beatB.digest → ∃ t, exec .belayDecision s = .next t ∧
          only t { r with samples := [], sent := frames (verdict 0 3) }) ∧
        (lead → second → r.beatA.digest ≠ r.beatB.digest → r.samples = [] → r.beatA.diag.bits 0 24 = 0 → r.beatB.diag.bits 0 24 = 0 →
          ∃ t, exec .belayDecision s = .next t ∧ only t { r with
            samples := [], sent := frames (verdict 2 6), action := 2, reason := 6, diverge := Nat.min 0xFFFF (r.diverge + 1)
            dismissals := Nat.min 255 (r.dismissals + 1) }) ∧
        (lead → second → r.beatA.digest ≠ r.beatB.digest → r.samples = [] → r.beatA.diag.bits 0 24 ≠ 0 → r.beatB.diag.bits 0 24 = 0 →
          ∃ t, exec .belayDecision s = .next t ∧ only t { r with
            samples := [], sent := frames (verdict 1 5), action := 1, reason := 5, diverge := Nat.min 0xFFFF (r.diverge + 1)
            takeovers := Nat.min 255 (r.takeovers + 1) })) ∧
      (r.grantTo ≠ 0 → exec .belayGrant s = .next s) ∧
      (r.grantTo = 0 → r.beatA.passage.isSome = true → ∃ t, exec .belayGrant s = .next t ∧
        only t { r with grantTo := 1, sent := frames (withCheck ([0x57, 0, 0, 0] ++ bytesLE 4 r.beatA.serial.toNat)) }) ∧
      (r.grantTo = 0 → r.beatA.passage.isSome = false → 11 ≤ r.heardB → ∃ t, exec .belayGrant s = .next t ∧
        only t { r with grantTo := 2, sent := frames (withCheck ([0x57, 0, 0, 0] ++ bytesLE 4 r.beatB.serial.toNat)) }) ∧
      (r.grantTo = 0 → r.beatA.passage.isSome = false → r.heardB < 11 → exec .belayGrant s = .next s))

/-- TAKEOVER, HANDOVER, SILENCE_TAKEOVER, BATCH_MISSING, SECOND_DOWNSTREAM_FALLBACK, LEAD_ISOLATION, COLD_START_ATTEMPT,
REJOIN_CHECK_COMPLETE and the two rope link events (R24, R446, R451, R452, R454, R456, R458, R461, R463, R466). -/
def Obligations.RolesChange : Prop :=
  ∀ (s : State),
    let r := s.rope
    let n := s.tt.passage
    let kept (t : State) : Prop := t.mem = s.mem ∧ t.regs.cfg = s.regs.cfg ∧ t.tt.passage = n ∧ t.image = s.image
    let leads (t : State) : Prop := t.rope.role = 2 ∧ t.rope.leadon = true ∧ t.rope.widened = 2 ∧ t.gov.hold = 16 ∧
      t.gov.chosen = r.leadTier ∧ t.rope.takeovers = Nat.min 255 (r.takeovers + 1) ∧ t.rope.handover = none ∧ t.axes = s.axes ∧
      t.gens = s.gens ∧ kept t
    (r.role = 3 → r.take = true → ∃ t, exec .takeover s = .next t ∧ leads t) ∧
    ((r.role ≠ 3 ∨ r.take = false) → exec .takeover s = .next s) ∧
    (r.handover = some n → (r.role = 3 → ∃ t, exec .handover s = .next t ∧ leads t) ∧
      (r.role = 2 → ∃ t, exec .handover s = .next t ∧ t.rope.role = 3 ∧ t.rope.leadon = false ∧ t.rope.handover = none ∧
        t.rope.origin = 1 - r.origin ∧ t.axes = s.axes ∧ t.gens = s.gens ∧ kept t)) ∧
    (r.handover ≠ some n → exec .handover s = .next s) ∧
    (r.role = 3 → r.belayAt ≠ some n → r.peer.passage ≠ some n → r.leadHeader ≠ some n →
      exec .silenceTakeover s = .next { s with rope := { r with take := true } }) ∧
    ((r.role ≠ 3 ∨ r.belayAt = some n) → exec .silenceTakeover s = .next s) ∧
    (r.role = 3 → (∀ b ∈ r.batches, b.1 ≠ n + 1) → ∃ t, exec (.batchMissing 0) s = .next t ∧ t.rope = { r with nextRole := some 5 } ∧
      t.axes = s.axes ∧ kept t) ∧
    (r.role = 3 → r.ledgerAt ≠ some (n - 1) → ∃ t, exec (.batchMissing 1) s = .next t ∧ t.rope.role = 5 ∧
      t.rope.batches = [] ∧ t.rope.leadon = false ∧ kept t) ∧
    (r.role = 3 → r.localAt ≠ some n → ∃ t, exec (.batchMissing 2) s = .next t ∧ t.rope = { r with nextRole := some 5 }) ∧
    (r.role = 3 → r.localSerAt ≠ some n → ∃ t, exec (.batchMissing 3) s = .next t ∧ t.rope = { r with nextRole := some 5 }) ∧
    ((r.role ≠ 3 ∨ r.batches.any (fun b => b.1 == n + 1) = true) → exec (.batchMissing 0) s = .next s) ∧
    (∀ g, r.role = 3 → s.host.phase = .run → g < 4 → s.image.rings.testBit g = true → Tab.get none r.downSeen g ≠ some n →
      ∃ t, exec (.secondDownstreamFallback g) s = .next t ∧
        (t.ring g).txDownY = [0x20, BitVec.ofNat 8 (64 * g + 32), BitVec.ofNat 8 (s.ring g).records.length, 0] ++
          bytesLE 4 n.toNat ++ (s.ring g).records.flatten ∧
        { t.ring g with txDownX := (s.ring g).txDownX, txDownY := (s.ring g).txDownY } = s.ring g ∧
        (∀ j, j ≠ g → t.ring j = s.ring j) ∧
        { t with rings := s.rings } = s) ∧
    (∀ g, (r.role ≠ 3 ∨ Tab.get none r.downSeen g = some n) → exec (.secondDownstreamFallback g) s = .next s) ∧
    (r.role = 2 → r.belayEver = true → r.belayAt ≠ some n → r.peerAt ≠ some n → r.peer.role = 3 → r.peer.passage = some (n - 1) →
      exec .leadIsolation s = .next { s with rope := { r with nextRole := some 6 } }) ∧
    ((r.role ≠ 2 ∨ r.belayEver = false ∨ r.belayAt = some n) → exec .leadIsolation s = .next s) ∧
    (s.host.phase = .listen → r.role = 0 → r.strap ≠ 3 → r.listen = 0 → r.attempt = false → r.joinNext = false →
      r.belayEver = false → ∃ t, exec .coldStartAttempt s = .next t ∧
        t.rope = { r with attempt := true, returned := false, conflict := false } ∧
        (∀ g, g < 4 → s.image.rings.testBit g = true → (t.ring g).tx0 = true ∧ (t.ring g).tx1 = true) ∧
        { t with rope := s.rope, rings := s.rings, freeCtr := s.freeCtr } = s) ∧
    (r.role = 4 → r.stage = 3 → r.checkBad = true → ∃ t, exec .rejoinCheckComplete s = .next t ∧ t.rope.role = 5 ∧
      t.rope.stage = 15 ∧ kept t) ∧
    (r.role = 4 → r.stage = 3 → r.checkBad = false → 64 ≤ r.checkRun → ∃ t, exec .rejoinCheckComplete s = .next t ∧
      t.rope = { r with role := 3, stage := 4, leadon := false } ∧ t.axes = s.axes ∧ kept t) ∧
    ((r.role ≠ 4 ∨ r.stage ≠ 3 ∨ r.checkBad = false ∧ r.checkRun < 64) → exec .rejoinCheckComplete s = .next s) ∧
    (r.locked.1 = true → ∃ t, exec (.ropeLinkLockLoss 0) s = .next t ∧ t.rope.locked = (false, r.locked.2) ∧
      0x4000 ∈ t.faults.units ∧ t.faults.pkg = s.faults.pkg ∧ t.axes = s.axes ∧ kept t) ∧
    (r.locked.2 = true → ∃ t, exec (.ropeLinkLockLoss 1) s = .next t ∧ t.rope.locked = (r.locked.1, false) ∧
      0x4001 ∈ t.faults.units ∧ t.faults.pkg = s.faults.pkg ∧ t.axes = s.axes ∧ kept t) ∧
    exec (.ropeLinkLockRegained 0) s = .next { s with rope := { r with locked := (true, r.locked.2) } } ∧
    exec (.ropeLinkLockRegained 1) s = .next { s with rope := { r with locked := (r.locked.1, true) } }

/-- SAFETY_SAMPLE (R476-R478, R483): every input is filtered, a function whose inputs ask for it is demanded, and the
outputs of a function that acts are off. -/
def Obligations.SafetySamples : Prop :=
  ∀ (s : State) (sins souts brks : Nat) (currents : List Nat),
    let x := s.safe
    ∃ t, exec (.safetySample sins souts brks currents) s = .next t ∧ { t with time := s.time, safe := x } = s ∧
      (x.state = 0 → t.safe = x) ∧
      (x.state ≠ 0 → t.safe.state = x.state ∧ t.safe.confirmed = x.confirmed ∧
        (∀ k, k < 16 →
          let v := x.sin k
          let filt := (sinRule x.rules (pairBase x.rules k)).filt
          (sins.testBit k ≠ v.level → 10 * filt ≤ v.run + 1 → (t.safe.sin k).level = sins.testBit k ∧ (t.safe.sin k).run = 0) ∧
          (sins.testBit k ≠ v.level → v.run + 1 < 10 * filt → (t.safe.sin k).level = v.level ∧ (t.safe.sin k).run = v.run + 1) ∧
          (sins.testBit k = v.level → (t.safe.sin k).level = v.level ∧ (t.safe.sin k).run = 0)) ∧
        (x.state = 2 → ∀ f, f < 32 → (fnRule x.rules f).kind ≠ 0 →
          (∀ k, k < 16 → (fnRule x.rules f).sins.testBit k = true → t.safe.isOpen x.rules k = true →
            (t.safe.fn f).demand = true) ∧
          (∀ j, j < 8 → (fnRule x.rules f).souts.testBit j = true → t.safe.acts x.rules f = true →
            (t.safe.sout j).on = false)) ∧
        (∀ j, j < 8 → (x.sout j).fault = true → (t.safe.sout j).fault = true ∧ (t.safe.sout j).on = false))

/-- DISCREPANCY_TIMEOUT, SS1_TIME_EXPIRY, OFF_PULSE, OFF_PULSE_END, CONTAINER_LOSS, STO_FAIL, SAFETY_DIAG_FAULT,
VSAFE24_UNDERVOLTAGE and the two expiries of a brake test (R470-R473, R477, R478, R482, R483, R485, R570). -/
def Obligations.SafetyEventsAct : Prop :=
  ∀ (s : State),
    let x := s.safe
    let t0 := x.rules
    (∀ k, k < 16 → x.state ≠ 0 →
      let b := pairBase t0 k
      (sinRule t0 b).mode = 2 →
      (100 * (sinRule t0 b).disc < (x.sin b).differ → ∃ t, exec (.discrepancyTimeout k) s = .next t ∧
        (t.safe.sin b).fault = true ∧ (t.safe.sin (b + 1)).fault = true ∧ (∀ j, j ≠ b → j ≠ b + 1 → t.safe.sin j = x.sin j) ∧
        { t with safe := { t.safe with sins := x.sins, faults := x.faults } } = s) ∧
      ((x.sin b).differ ≤ 100 * (sinRule t0 b).disc → exec (.discrepancyTimeout k) s = .next s)) ∧
    (∀ f, f < 32 → x.state = 2 → (x.fn f).demand = true → (fnRule t0 f).kind = 2 →
      (x.fn f).ran < 100 * (fnRule t0 f).ss1 → exec (.ss1TimeExpiry f) s = .next s) ∧
    (∀ f, f < 32 → x.state = 2 → (x.fn f).demand = true → (fnRule t0 f).kind = 2 → 100 * (fnRule t0 f).ss1 ≤ (x.fn f).ran →
      ∃ t, exec (.ss1TimeExpiry f) s = .next t ∧
      t.safe.fn f = { x.fn f with expired := true } ∧ (∀ g, g ≠ f → t.safe.fn g = x.fn g) ∧
      (∀ j, j < 8 → (fnRule t0 f).souts.testBit j = true → (t.safe.sout j).on = false) ∧
      (∀ b, b < 8 → (fnRule t0 f).brks.testBit b = true → (t.safe.brk b).on = false) ∧ { t with safe := x } = s) ∧
    (∀ j, j < 8 → x.state = 2 → (x.sout j).on = true → (x.sout j).fault = false → (x.sout j).pulse = false →
      (∃ t, exec (.offPulse j true) s = .next t ∧
        t.safe.sout j = { x.sout j with pulse := true, ball := false, pulseFrom := t.time.raw } ∧
        (∀ i, i ≠ j → t.safe.sout i = x.sout i) ∧ t.time = s.time.advance (s.nextPulse j) ∧
        { t with time := s.time, safe := { t.safe with souts := x.souts, sins := x.sins } } = s) ∧
      (∃ t, exec (.offPulse j false) s = .next t ∧ (t.safe.sout j).fault = true ∧ (t.safe.sout j).on = false ∧
        t.safe.faults = Nat.min 0xFFFF (x.faults + 1) ∧ { t with time := s.time, safe := x } = s)) ∧
    (∀ j, j < 8 → (x.state ≠ 2 ∨ (x.sout j).on = false ∨ (x.sout j).fault = true) → ∀ low, exec (.offPulse j low) s = .next s) ∧
    (∀ j, j < 8 → (x.sout j).pulse = true →
      (∃ t, exec (.offPulseEnd j true) s = .next t ∧ t.safe.sout j = { x.sout j with pulse := false, ball := true } ∧
        (∀ k, k < 16 → (sinRule t0 (pairBase t0 k)).source = j → (sinRule t0 (pairBase t0 k)).mode ≠ 0 → (x.sin k).low = false →
          (t.safe.sin k).fault = true) ∧
        (∀ k, k < 16 → (sinRule t0 (pairBase t0 k)).source = j → (x.sin k).low = true → (x.sin k).fault = false →
          (t.safe.sin k).fault = false) ∧
        (∀ k, k < 16 → (sinRule t0 (pairBase t0 k)).source = j → (sinRule t0 (pairBase t0 k)).mode ≠ 0 → (x.sin k).low = true →
          (x.sin k).fault = true → (x.sin k).byPulse = true → ((t.safe.sin k).fault = false ↔ 2 ≤ (x.sin k).passes)) ∧
        { t with time := s.time, safe := x } = s) ∧
      ((x.sout j).fault = false → ∃ t, exec (.offPulseEnd j false) s = .next t ∧ (t.safe.sout j).fault = true ∧
        (t.safe.sout j).on = false ∧ { t with time := s.time, safe := x } = s)) ∧
    (∀ r n, r < 4 → 1 ≤ n → n ≤ 63 → s.watches r n = true → (x.node r n).lost = false →
      (setSwd t0 ≤ (x.node r n).misses → ∃ t, exec (.containerLoss r n) s = .next t ∧
        x.setNode r n { x.node r n with lost := true } = { t.safe with faults := x.faults } ∧
        t.safe.faults = Nat.min 0xFFFF (x.faults + 1) ∧ { t with safe := x } = s) ∧
      ((x.node r n).misses < setSwd t0 → exec (.containerLoss r n) s = .next s) ∧
      ((x.node r n).run = false → 3 ≤ (x.node r n).stoWait → ∃ t, exec (.stoFail r n) s = .next t ∧
        t.safe.nodes = (x.setNode r n { x.node r n with lost := true, stoFail := true }).nodes ∧
        t.safe.faults = Nat.min 0xFFFF (x.faults + 1) ∧
        (∀ f b, f < 32 → b < 8 → covers (fnRule t0 f) r n = true → (fnRule t0 f).brks.testBit b = true →
          (t.safe.brk b).on = false) ∧
        { t with store := s.store, safe := { t.safe with nodes := x.nodes, faults := x.faults, souts := x.souts, brks := x.brks } } = s) ∧
      (((x.node r n).run = true ∨ (x.node r n).stoWait < 3) → exec (.stoFail r n) s = .next s)) ∧
    (∀ d, 1 ≤ d → d ≤ 5 → x.state ≠ 15 → ∃ t, exec (.safetyDiagFault d) s = .next t ∧ t.safe.state = 15 ∧ t.safe.diag = d ∧
      (∀ j, j < 8 → (t.safe.sout j).on = false ∧ (t.safe.brk j).on = false) ∧ t.faults.pkg = true ∧ 0x9000 ∈ t.faults.units ∧
      t.mem = s.mem ∧ t.regs = s.regs) ∧
    (∀ d, (d = 0 ∨ 5 < d ∨ x.state = 15) → exec (.safetyDiagFault d) s = .next s) ∧
    (x.state ≠ 0 → ∃ t, exec .vsafe24Undervoltage s = .next t ∧ (∀ k, k < 16 → (t.safe.sin k).fault = true) ∧
      (∀ j, j < 8 → (x.sout j).on = true → (t.safe.sout j).fault = true ∧ (t.safe.sout j).on = false) ∧
      (∀ b, b < 8 → (x.brk b).on = true → (t.safe.brk b).fault = true ∧ (t.safe.brk b).on = false) ∧ { t with safe := x } = s) ∧
    (x.state = 0 → exec .vsafe24Undervoltage s = .next s) ∧
    (let rule := brkRule t0 x.bt.channel
     let dir := rule.btDir
     let settled := 100 * rule.btSettle ≤ x.bt.ran
     let held := 100 * rule.btHold ≤ x.bt.ran
     (x.bt.step = .settle → settled → exec .brakeTestSettleExpiry s = .next { s with safe := { x with bt := { x.bt with
        ran := 0, p0 := s.btTotal, step := if dir = 2 then .minus else .plus } } }) ∧
     ((x.bt.step ≠ .settle ∨ ¬ settled) → exec .brakeTestSettleExpiry s = .next s) ∧
     (x.bt.step = .plus → dir ≠ 1 → held → exec .brakeTestHoldExpiry s = .next { s with safe := { x with bt := { x.bt with
        ran := 0, step := .minus } } }) ∧
     ((x.bt.step = .minus ∨ x.bt.step = .plus ∧ dir = 1) → held → ∃ t, exec .brakeTestHoldExpiry s = .next t ∧
        t.safe.bt = { x.bt with state := 2, step := .none, ending := 0 } ∧ t.safe.fns = x.fns ∧
        ((s.axis rule.inst).st = .auto → (t.axis rule.inst).firstAuto = true) ∧
        (∀ i, i ≠ rule.inst → t.axis i = s.axis i) ∧ t.mem = s.mem ∧ t.regs = s.regs) ∧
     ((x.bt.step = .none ∨ x.bt.step = .settle ∨ ¬ held) → exec .brakeTestHoldExpiry s = .next s))

/-- The messages of the plant port that the rows give (R313-R316): a follower's Sync and Follow_Up move its servo, the delay
exchanges give the mean path delay, a leader answers, and an Announce names the best leader. What the plant port does at its
own intervals (R313-R316). -/
def Obligations.ThePlantPort : Prop :=
  (
    ∀ (s : State) (m : PtpMsg),
      let u := s.toStamp m.ingress
      let p := s.plant
      let t2 := m.ingress - BitVec.ofNat 64 ((s.cfgW 0xD0108).bits 0 16)
      let only (t : State) (q : Plant) : Prop := t = { u with plant := q }
      let answers (t : State) (kind : Nat) (stamp : U64) (corr : Int) : Prop := ∃ q : PtpSent,
        only t { p with sent := (q :: p.sent).take 16 } ∧ q.kind = kind ∧ q.seq = m.seq ∧ q.seconds = stamp.toNat / 10 ^ 9 ∧
        q.nanos = stamp.toNat % 10 ^ 9 ∧ q.correction = corr ∧ q.requester = m.identity ∧ q.domain = m.domain ∧ q.version = (2, 1)
      u.ptpActive = true → m.domain = (s.cfgW 0xD0100).bits 16 8 →
      -- a Sync of a two-step leader waits for its Follow_Up
      (p.portState = 9 → s.fromLeader m = true → m.twoStep = true → ∃ t, exec (.sync m) s = .next t ∧
        only t { p with twoStep := some (m.seq, t2 - BitVec.ofInt 64 (corrNs m.correction)) }) ∧
      -- the first update sets the reference
      (p.portState = 9 → s.fromLeader m = true → m.twoStep = false → p.lastUpdate = none →
        let d := (t2 - m.stamp).toInt - corrNs m.correction
        (d - p.delay).natAbs ≤ (s.cfgW 0xD0104).bits 16 16 * 1000 → ∃ t, exec (.sync m) s = .next t ∧
          only t { p with twoStep := none, t21 := d, offset := satWord (d - p.delay), lastUpdate := some t2
                          syncs := (p.syncs + 1) % 65536 }) ∧
      -- a later one sets the rate
      (∀ last, p.portState = 9 → s.fromLeader m = true → m.twoStep = false → p.lastUpdate = some last → last ≠ t2 →
        let d := (t2 - m.stamp).toInt - corrNs m.correction
        let cfg := s.cfgW 0xD0104
        let r := servoRates p.rateI (d - p.delay) (t2 - last).toNat (cfg.bits 0 4) (cfg.bits 8 4)
        (d - p.delay).natAbs ≤ cfg.bits 16 16 * 1000 → ∃ t, exec (.sync m) s = .next t ∧
          t.plant = { p with twoStep := none, t21 := d, offset := satWord (d - p.delay), lastUpdate := some t2
                             syncs := (p.syncs + 1) % 65536, rateI := r.1 } ∧
          t.time = { u.time with rate := r.2.1, slew := r.2.2, stepWait := false } ∧
          { t with plant := p, time := s.time } = s) ∧
      (p.portState ≠ 9 → p.portState ≠ 4 → ∃ t, exec (.sync m) s = .next t ∧ only t p) ∧
      (∀ at2, p.portState = 9 → s.fromLeader m = true → p.twoStep = some (m.seq, at2) → p.lastUpdate = none →
        let d := (at2 - m.stamp).toInt - corrNs m.correction
        (d - p.delay).natAbs ≤ (s.cfgW 0xD0104).bits 16 16 * 1000 → ∃ t, exec (.followUp m) s = .next t ∧
          only t { p with twoStep := none, t21 := d, offset := satWord (d - p.delay), lastUpdate := some at2
                          syncs := (p.syncs + 1) % 65536 }) ∧
      (p.twoStep = none → ∃ t, exec (.followUp m) s = .next t ∧ only t p) ∧
      (p.portState = 6 → (s.cfgW 0xD0100).bit 29 = false → ∃ t, exec (.delayReq m) s = .next t ∧
        answers t 9 t2 m.correction) ∧
      (∀ t3, p.portState = 9 → (s.cfgW 0xD0100).bit 29 = false → p.delayReq = some (m.seq, t3) → ∃ t, exec (.delayResp m) s = .next t ∧
        only t { p with delayReq := none, delay := divRound (p.t21 + ((m.stamp - t3).toInt - corrNs m.correction)) 2 }) ∧
      ((s.cfgW 0xD0100).bit 29 = true →
        (∃ t, exec (.pdelayReq m) s = .next t ∧ answers t 3 0
          (m.correction + (u.time.time + BitVec.ofNat 64 ((s.cfgW 0xD0108).bits 16 16) - t2).toInt * 65536)) ∧
        (∀ t1, p.pdelayReq = some (m.seq, t1) →
          (m.twoStep = false → ∃ t, exec (.pdelayResp m) s = .next t ∧
            only t { p with pdelayReq := none, delay := divRound ((t2 - t1).toInt - corrNs m.correction) 2 }) ∧
          (m.twoStep = true → ∃ t, exec (.pdelayResp m) s = .next t ∧
            only t { p with pdelayResp := some (m.seq, m.stamp - BitVec.ofInt 64 (corrNs m.correction), t2) }) ∧
          (∀ b c, p.pdelayResp = some (m.seq, b, c) → ∃ t, exec (.pdelayRespFollowUp m) s = .next t ∧
            only t { p with pdelayReq := none, pdelayResp := none
                            delay := divRound ((c - t1).toInt - (m.stamp - b).toInt - corrNs m.correction) 2 }))) ∧
      ((s.cfgW 0xD0100).bits 30 2 = 2 → p.foreign = none → ∃ t, exec (.announce m) s = .next t ∧
        only t { p with foreign := some (m.priority1, m.quality, m.priority2, m.identity), portState := 9
                        lastUpdate := if p.portState = 9 then p.lastUpdate else none }) ∧
      ((s.cfgW 0xD0100).bits 30 2 = 3 → p.foreign = none → ∃ t, exec (.announce m) s = .next t ∧
        let x := (m.priority1, m.quality, m.priority2, m.identity)
        let first := 1 ≤ (s.cfgW 0xD000C).bits 24 8 ∧ (s.cfgW 0xD000C).bits 24 8 ≤ 127
        t.plant.foreign = some x ∧
        (betterClock x s.ownClock = false → t.plant.portState = 6) ∧
        (betterClock x s.ownClock = true → first → t.plant.portState = 7) ∧
        (betterClock x s.ownClock = true → ¬ first → t.plant.portState = 9) ∧
        { t with plant := p } = u) ∧
      ((s.cfgW 0xD0100).bits 30 2 < 2 → ∃ t, exec (.announce m) s = .next t ∧ only t p)) ∧
  (
    ∀ (s : State),
      let p := s.plant
      let egress := s.time.time + BitVec.ofNat 64 ((s.cfgW 0xD0108).bits 16 16)
      let frac : Int := (s.time.frac.toNat / 65536 : Nat)
      let only (t : State) (q : Plant) : Prop := t = { s with plant := q }
      let isMsg (q : PtpSent) (kind : Nat) (stamp : U64) (corr : Int) : Prop := q.kind = kind ∧ q.seq = p.seq ∧
        q.seconds = stamp.toNat / 10 ^ 9 ∧ q.nanos = stamp.toNat % 10 ^ 9 ∧ q.correction = corr ∧
        q.domain = (s.cfgW 0xD0100).bits 16 8 ∧ q.version = (2, 1) ∧ q.identity = clockIdentity s.plantMac ∧ q.mac = s.plantMac
      (s.ptpActive = false → ∀ c ∈ [Instr.ptpDiscardedMessage, .ptpSyncInterval, .delayReqInterval, .announceReceiptTimeout],
        exec c s = .next s) ∧
      (s.ptpActive = true →
        (∃ t, exec .ptpDiscardedMessage s = .next t ∧ only t { p with discards := p.discards + 1 }) ∧
        (p.portState = 6 → ∃ t a b, exec .ptpSyncInterval s = .next t ∧ isMsg a 0 egress frac ∧ isMsg b 11 0 0 ∧
          b.announce = some s.announceData ∧ only t { p with
            sent := (b :: ((a :: p.sent).take 16)).take 16, seq := (p.seq + 1) % 65536, syncs := (p.syncs + 1) % 65536 }) ∧
        (p.portState ≠ 6 → exec .ptpSyncInterval s = .next s) ∧
        ((s.cfgW 0xD0100).bit 29 = true → ∃ t a, exec .delayReqInterval s = .next t ∧ isMsg a 2 0 0 ∧ only t { p with
          seq := (p.seq + 1) % 65536, pdelayReq := some (p.seq, egress), pdelayResp := none, sent := (a :: p.sent).take 16 }) ∧
        ((s.cfgW 0xD0100).bit 29 = false → p.portState = 9 → ∃ t a, exec .delayReqInterval s = .next t ∧ isMsg a 1 egress frac ∧
          only t { p with seq := (p.seq + 1) % 65536, delayReq := some (p.seq, egress), sent := (a :: p.sent).take 16 }) ∧
        ((s.cfgW 0xD0100).bit 29 = false → p.portState ≠ 9 → exec .delayReqInterval s = .next s) ∧
        (2 ≤ (s.cfgW 0xD0100).bits 30 2 → ∃ t, exec .announceReceiptTimeout s = .next t ∧ only t { p with
          foreign := none, twoStep := none, lastUpdate := none, portState := if (s.cfgW 0xD0100).bits 30 2 = 3 then 6 else 4 }) ∧
        ((s.cfgW 0xD0100).bits 30 2 < 2 → exec .announceReceiptTimeout s = .next s)))
end

