-- ==== Sys2Proof/Laws/Tab.lean ====
section
/-! SUPPORT. The laws of the sparse tables: reading after a write, and the canonical form that every operation keeps. -/

namespace Sys2Proof.Tab

variable {α : Type} [DecidableEq α] {d : α}

/-- Every key of a table is above `n`. -/
def above (n : Nat) : Tab α → Bool
  | [] => true
  | (j, _) :: r => decide (n < j) && above n r

theorem wf_cons (j : Nat) (v : α) (r : Tab α) : wf d ((j, v) :: r) = (decide (v ≠ d) && above j r && wf d r) := by
  induction r generalizing j v with
  | nil => simp [wf, above]
  | cons p r ih =>
    obtain ⟨k, w⟩ := p
    by_cases h : j < k
    · have hab : ∀ (m : Tab α), above k m = true → above j m = true := by
        intro m
        induction m with
        | nil => intro _; rfl
        | cons q m im => obtain ⟨i, x⟩ := q; simp only [above, Bool.and_eq_true, decide_eq_true_eq]; intro hm; exact ⟨by omega, im hm.2⟩
      have hw := ih k w
      rw [wf, hw]
      cases hk : above k r with
      | false => simp [above, hk]
      | true => simp [above, h, hab r hk, hk]
    · simp [wf, above, h]

theorem above_mono {n m : Nat} (h : n ≤ m) : ∀ {t : Tab α}, above m t = true → above n t = true
  | [], _ => rfl
  | (j, _) :: r, ht => by
    simp only [above, Bool.and_eq_true, decide_eq_true_eq] at ht ⊢
    exact ⟨by omega, above_mono h ht.2⟩

theorem above_erase (n k : Nat) : ∀ {t : Tab α}, above n t = true → above n (erase t k) = true
  | [], _ => rfl
  | (j, v) :: r, ht => by
    simp only [above, Bool.and_eq_true, decide_eq_true_eq] at ht
    simp only [erase]
    split
    · exact above_erase n k ht.2
    · simp [above, ht.1, above_erase n k ht.2]

theorem above_insert (n k : Nat) (v : α) (hk : n < k) : ∀ {t : Tab α}, above n t = true → above n (insert t k v) = true
  | [], _ => by simp [insert, above, hk]
  | (j, w) :: r, ht => by
    have hr := ht
    simp only [above, Bool.and_eq_true, decide_eq_true_eq] at ht
    simp only [insert]
    split
    · simp [above, hk, ht.1, ht.2]
    · split
      · simp [above, hk, ht.2]
      · simp [above, ht.1, above_insert n k v hk ht.2]

/-- Removing a key keeps the canonical form. -/
theorem wf_erase (k : Nat) : ∀ {t : Tab α}, wf d t = true → wf d (erase t k) = true
  | [], _ => rfl
  | (j, v) :: r, ht => by
    rw [wf_cons] at ht
    simp only [Bool.and_eq_true, decide_eq_true_eq] at ht
    simp only [erase]
    split
    · exact wf_erase k ht.2
    · rw [wf_cons]
      simp only [Bool.and_eq_true, decide_eq_true_eq]
      exact ⟨⟨ht.1.1, above_erase j k ht.1.2⟩, wf_erase k ht.2⟩

theorem wf_insert (k : Nat) (v : α) (hv : v ≠ d) : ∀ {t : Tab α}, wf d t = true → wf d (insert t k v) = true
  | [], _ => by simp [insert, wf, hv]
  | (j, w) :: r, ht => by
    have hc := ht
    rw [wf_cons] at ht
    simp only [Bool.and_eq_true, decide_eq_true_eq] at ht
    simp only [insert]
    split
    · rename_i h
      rw [wf_cons]
      simp only [Bool.and_eq_true, decide_eq_true_eq]
      refine ⟨⟨hv, ?_⟩, hc⟩
      simp [above, h, above_mono (Nat.le_of_lt h) ht.1.2]
    · split
      · rename_i h; subst h
        rw [wf_cons]; simp [hv, ht.1.2, ht.2]
      · rw [wf_cons]
        simp only [Bool.and_eq_true, decide_eq_true_eq]
        exact ⟨⟨ht.1.1, above_insert j k v (by omega) ht.1.2⟩, wf_insert k v hv ht.2⟩

/-- A write keeps the canonical form. -/
theorem wf_put (k : Nat) (v : α) {t : Tab α} (ht : wf d t = true) : wf d (put d t k v) = true := by
  unfold put
  split
  · exact wf_erase k ht
  · rename_i h; exact wf_insert k v h (wf_erase k ht)

omit [DecidableEq α] in
theorem get_erase (k i : Nat) : ∀ (t : Tab α), get d (erase t k) i = if i = k then d else get d t i
  | [] => by simp [erase, get]
  | (j, v) :: r => by
    simp only [erase]
    split
    · rename_i h; subst h
      rw [get_erase]; simp only [get]
      split <;> rfl
    · rename_i h
      simp only [get, get_erase]
      split
      · rename_i h2; subst h2
        rw [if_neg (fun hh => h hh.symm)]
      · rfl

omit [DecidableEq α] in
theorem get_insert (k i : Nat) (v : α) : ∀ (t : Tab α), (∀ p ∈ t, p.1 ≠ k) →
    get d (insert t k v) i = if i = k then v else get d t i
  | [], _ => by simp [insert, get]
  | (j, w) :: r, h => by
    have hj : j ≠ k := h (j, w) (by simp)
    simp only [insert]
    split
    · simp [get]
    · rw [if_neg (fun hh => hj hh.symm)]
      simp only [get, get_insert k i v r (fun p hp => h p (by simp [hp]))]
      split
      · rename_i h2; subst h2; rw [if_neg hj]
      · rfl

omit [DecidableEq α] in
theorem erase_ne (k : Nat) : ∀ (t : Tab α), ∀ p ∈ erase t k, p.1 ≠ k
  | [] => by simp [erase]
  | (j, v) :: r => by
    simp only [erase]
    split
    · exact erase_ne k r
    · rename_i h
      intro p hp
      rcases List.mem_cons.mp hp with h2 | h2
      · subst h2; exact fun hh => h hh.symm
      · exact erase_ne k r p h2

/-- What is read after a write: the value at the key written, and at every other key what was there. -/
@[simp] theorem get_put (t : Tab α) (k i : Nat) (v : α) : get d (put d t k v) i = if i = k then v else get d t i := by
  unfold put
  split
  · rename_i h; subst h; exact get_erase k i t
  · rw [get_insert k i v _ (erase_ne k t), get_erase]
    split <;> rfl

end Sys2Proof.Tab
end

