-- ==== Sys2Proof/Laws/Commands.lean ====
section
/-! SUPPORT. What a host command can do: where no check refuses it, its own effect, its log entries and its result, and
nothing else. -/

namespace Sys2Proof.Machine

/-- A state with other log entries: the books and the chain of the audit log, and the MRAM that holds it. -/
def State.logged (s : State) (m : Tab Byte) (wr link un : Word) (res : Nat) : State :=
  { s with store := { s.store with mram := m, logWr := wr, link := link, unrecorded := un, reserved := res } }

theorem State.logged_self (s : State) : s = s.logged s.store.mram s.store.logWr s.store.link s.store.unrecorded s.store.reserved := rfl

theorem State.logged_logged (s : State) (m n : Tab Byte) (wr link un wr' link' un' : Word) (res res' : Nat) :
    (s.logged m wr link un res).logged n wr' link' un' res' = s.logged n wr' link' un' res' := rfl

theorem State.logNow_logged (s : State) (passage : Word) (o k c st : Nat) (a b : Word) :
    ∃ m wr l un res, s.logNow passage o k c st a b = s.logged m wr l un res := by
  unfold State.logNow
  by_cases h : (if fromReserve o k then 0 else 1024) < s.store.freeEntries
  · rw [if_pos h]; exact ⟨_, _, _, _, _, rfl⟩
  · rw [if_neg h]; exact ⟨_, _, _, _, _, rfl⟩

theorem State.logReserved_logged (s : State) (passage : Word) (o k c st : Nat) (a b : Word) :
    ∃ m wr l un res, s.logReserved passage o k c st a b = s.logged m wr l un res := by
  unfold State.logReserved
  split
  · exact ⟨_, _, _, _, _, rfl⟩
  · exact State.logNow_logged ..

theorem State.intent_logged (s : State) (c : Ctx) (i : CmdInfo) (e : Word) (n : Nat) :
    ∃ m wr l un res, s.intent c i e n = s.logged m wr l un res := by
  unfold State.intent
  split
  · split
    · exact State.logReserved_logged ..
    · exact State.logNow_logged ..
  · exact ⟨_, _, _, _, _, rfl⟩

/-- The state that a command is checked in: the given one but for the log. -/
theorem State.prepared_logged (s : State) (c : Ctx) (i : CmdInfo) (e : Word) :
    ∃ m wr l un res, (s.setAside c i).2.intent c i e (s.setAside c i).1 = s.logged m wr l un res := by
  obtain ⟨m, wr, l, un, res, h⟩ := State.intent_logged (s.setAside c i).2 c i e (s.setAside c i).1
  exact ⟨m, wr, l, un, res, h⟩

/-- A state after a command's outcome: other log entries, and its result in the table and in the mirror's list. -/
def State.concluded (v : State) (m : Tab Byte) (wr link un : Word) (res : Nat) (c : Ctx) (rec16 : List Byte) (rs : Tab Byte)
    (n : Word) : State :=
  { ((v.logged m wr link un res).store' (0x03604000 + 16 * (c.seq.toNat % 256)) rec16) with
    host := { v.host with results := rs, resCount := n } }

theorem refusalCode_ok : refusalCode false false {} = none := rfl

/-- A command that no check refuses: its effect on a state that differs by log entries, and then log entries and the result
record (R16, R519, R551). -/
theorem State.hostCommand_accepted (s : State) (c : Ctx) (opc : Nat) (args : List Nat) (core : State → Answer)
    (ha : s.admits c opc args = true)
    (hr : ∀ m wr l un res, (core (s.logged m wr l un res)).refusals = {} ∧ (core (s.logged m wr l un res)).status = codeOk) :
    ∃ m wr l un res m' wr' l' un' res' rs n, s.hostCommand c opc args core =
      (core (s.logged m wr l un res)).state.concluded m' wr' l' un' res' c
        (resultBytes c.seq c.tag opc codeOk (core (s.logged m wr l un res)).detail s.tt.passage) rs n := by
  simp only [State.admits, Bool.and_eq_true, Bool.or_eq_true, Bool.not_eq_true'] at ha
  obtain ⟨hl, hf⟩ := ha
  obtain ⟨m, wr, l, un, res, h⟩ := State.prepared_logged s c (infoOf opc args) s.tt.passage
  have hq : s.hostCommand c opc args core = (s.logged m wr l un res).finish c (infoOf opc args) core
      (s.setAside c (infoOf opc args)).1 := by rw [← h]; rfl
  rw [hq]
  obtain ⟨h1, h2⟩ := hr m wr l un res
  have hc : refusalCode (!c.forwarded && (s.logged m wr l un res).lacks c.origin (infoOf opc args).right) c.logFull
      { (core (s.logged m wr l un res)).refusals with
        illegal := (core (s.logged m wr l un res)).refusals.illegal ||
          (!c.forwarded && (s.logged m wr l un res).roleForbids (infoOf opc args).opc) } = none := by
    rw [h1, hl]
    have e1 : (s.logged m wr l un res).lacks c.origin (infoOf opc args).right = s.lacks c.origin (rightOf opc args) := rfl
    have e2 : (s.logged m wr l un res).roleForbids (infoOf opc args).opc = s.roleForbids opc := rfl
    rw [e1, e2]
    rcases hf with hf | ⟨hf, hg⟩
    · simp [hf, refusalCode]
    · simp [hf, hg, refusalCode]
  have hj : (s.logged m wr l un res).judge c (infoOf opc args) core =
      (codeOk, (core (s.logged m wr l un res)).detail, (core (s.logged m wr l un res)).state) := by
    unfold State.judge
    simp only []
    rw [hc, h2]
  have hs : ∃ m' wr' l' un' res', (s.logged m wr l un res).settle c (infoOf opc args) core (s.setAside c (infoOf opc args)).1 =
      (codeOk, (core (s.logged m wr l un res)).detail, (core (s.logged m wr l un res)).state.logged m' wr' l' un' res') := by
    unfold State.settle State.logOutcome
    simp only [hj, if_true]
    rw [if_neg (show ¬codeOk = codeIllegal by decide)]
    by_cases h3 : (infoOf opc args).logged = true
    · by_cases h4 : (s.setAside c (infoOf opc args)).1 = 2
      · rw [if_pos h3, if_pos h4]; exact ⟨_, _, _, _, _, rfl⟩
      · rw [if_pos h3, if_neg h4]; exact ⟨_, _, _, _, _, rfl⟩
    · rw [if_neg h3]; exact ⟨_, _, _, _, _, rfl⟩
  obtain ⟨m', wr', l', un', res', hs⟩ := hs
  have hf : ∃ rs n, (s.logged m wr l un res).finish c (infoOf opc args) core (s.setAside c (infoOf opc args)).1 =
      (core (s.logged m wr l un res)).state.concluded m' wr' l' un' res' c
        (resultBytes c.seq c.tag opc codeOk (core (s.logged m wr l un res)).detail s.tt.passage) rs n := by
    unfold State.finish
    rw [hs]
    exact ⟨_, _, rfl⟩
  obtain ⟨rs, n, hf⟩ := hf
  exact ⟨m, wr, l, un, res, m', wr', l', un', res', rs, n, hf⟩

end Sys2Proof.Machine
end

