-- ==== Sys2Proof/Laws/Luestox.lean ====
section
/-! SUPPORT. What one Luestox instruction can do: beside its own effect, its unit's place in the code, and the performance
counters. -/

namespace Sys2Proof.Machine

/-! ### Counting changes the counters and nothing else -/

/-- Two states that differ in nothing but the performance counters and the count of corrected words in DIAG (R447, R531). -/
def State.sameBesideCounts (s t : State) : Prop := { t with perf := s.perf, rope := { t.rope with diagCorr := s.rope.diagCorr } } = s

theorem State.sameBesideCounts_refl (s : State) : s.sameBesideCounts s := rfl

theorem State.sameBesideCounts_trans {a b c : State} (h : a.sameBesideCounts b) (g : b.sameBesideCounts c) : a.sameBesideCounts c :=
  Eq.trans (congrArg (fun z => { z with perf := a.perf, rope := { z.rope with diagCorr := a.rope.diagCorr } }) g) h

theorem State.sameBesideCounts_units {s t : State} (h : s.sameBesideCounts t) : t.units = s.units := by
  have := congrArg State.units h; exact this

theorem State.sameBesideCounts_lux {s t : State} (h : s.sameBesideCounts t) (u : Nat) : t.lux u = s.lux u := by
  simp [State.lux, State.sameBesideCounts_units h]

theorem State.bump_same (f k n : Nat) (s : State) : s.sameBesideCounts (s.bump f k n) := by
  induction f generalizing s k n with
  | zero => rfl
  | succ f ih =>
    unfold State.bump
    split
    · rfl
    · simp only []
      split
      · refine State.sameBesideCounts_trans ?_ (ih _ _ _)
        rfl
      · rfl

theorem State.foldl_same {α : Type} (l : List α) (h : State → α → State) (hs : ∀ (s : State) a, s.sameBesideCounts (h s a)) (s : State) :
    s.sameBesideCounts (l.foldl h s) := by
  induction l generalizing s with
  | nil => rfl
  | cons a l ih => exact State.sameBesideCounts_trans (hs s a) (ih (h s a))

theorem State.count_same (s : State) (e u n : Nat) : s.sameBesideCounts (s.count e u n) := by
  unfold State.count
  split
  · exact State.foldl_same _ _ (fun s k => State.bump_same _ _ _ s) s
  · rfl

theorem State.countIf_same (c : Prop) [Decidable c] (t : State) (e u n : Nat) :
    t.sameBesideCounts (if c then t.count e u n else t) := by
  split
  · exact State.count_same ..
  · rfl

theorem State.correctOne_same (s : State) (reader : Option (Nat × Nat)) (w : Nat) : s.sameBesideCounts (s.correctOne reader w) := by
  have port (t : State) (h : s.sameBesideCounts t) : s.sameBesideCounts (match memoryPort w with
      | some p => t.count 0x0701 p 1
      | none => t) := by
    split
    · exact State.sameBesideCounts_trans h (State.count_same ..)
    · exact h
  have read (t : State) (h : s.sameBesideCounts t) : s.sameBesideCounts (match reader with
      | some e => t.count e.1 e.2 1
      | none => t) := by
    split
    · exact State.sameBesideCounts_trans h (State.count_same ..)
    · exact h
  exact read _ (port { s with rope := { s.rope with diagCorr := satAdd 255 s.rope.diagCorr 1 } } rfl)

theorem State.luxCount_same (s : State) (u : Nat) (o : LuxOp) (f : Fields) (t : State) :
    t.sameBesideCounts (s.luxCount u o f t) := by
  unfold State.luxCount
  split
  · rfl
  · simp only []
    split
    · exact State.sameBesideCounts_trans (State.sameBesideCounts_trans (State.countIf_same ..) (State.countIf_same ..))
        (State.countIf_same ..)
    · split
      · exact State.sameBesideCounts_trans (State.count_same ..) (State.countIf_same ..)
      · exact State.count_same ..

/-! ### One instruction -/

theorem State.lux_setLux_if (s : State) (u v : Nat) (x : Lux) : (s.setLux u x).lux v = if v = u then x else s.lux v := by
  simp [State.lux, State.setLux]

/-- Where a unit's instruction can be fetched, the fetch leaves nothing behind but the counts of a corrected word. -/
theorem State.luxStep_ready (s : State) (u : Nat) (o : LuxOp) (f : Fields) (ha : s.unitReady u = true) :
    (s.luxCount u o f (s.luxRun u o f)).sameBesideCounts (s.luxStep u o f) := by
  simp only [State.unitReady, Bool.and_eq_true, Bool.or_eq_true, decide_eq_true_eq, Bool.not_eq_true', beq_iff_eq] at ha
  obtain ⟨ha, hf⟩ := ha
  have h0 : s.fetchFault u = none := by
    unfold State.fetchFault
    rcases hf with hf | ⟨⟨h1, h2⟩, h3⟩
    · simp [hf]
    · simp [h1, h2, h3]
  have h1 : s.luxStep u o f = s.fetched u (s.luxCount u o f (s.luxRun u o f)) := by simp [State.luxStep, ha, h0]
  rw [h1]
  unfold State.fetched
  simp only []
  split
  · rfl
  · rename_i hu
    rcases hf with hf | ⟨-, h3⟩
    · exact absurd hf hu
    · rw [if_neg (by simp [h3])]
      split
      · rfl
      · exact State.correctOne_same ..

/-- An instruction that completes: the state that its effect leaves, its unit's place in the code, and the counters. -/
theorem State.luxStep_done (s t : State) (u : Nat) (o : LuxOp) (f : Fields) (ha : s.unitReady u = true)
    (hl : o.legal u f (s.lux u) = true) (hr : o.run u f s = .done t) :
    ∃ mac, (t.followAt u ((s.lux u).pc + 8) mac (if o.coissue && f.p then 0 else o.cost f)).sameBesideCounts (s.luxStep u o f) := by
  refine ⟨(o.opc == 0x50 || o.opc == 0x51), ?_⟩
  have h1 : s.luxRun u o f = t.followAt u ((s.lux u).pc + 8) (o.opc == 0x50 || o.opc == 0x51)
      (if o.coissue && f.p then 0 else o.cost f) := by
    simp only [State.luxRun, hl, hr, if_true]
  have h2 := State.luxStep_ready s u o f ha
  rw [h1] at h2
  exact State.sameBesideCounts_trans (State.luxCount_same s u o f _) h2

/-- The register effect of an instruction that completes, where it leaves `y` in its unit. -/
theorem State.luxStep_executes (s t : State) (u cost : Nat) (o : LuxOp) (f : Fields) (y : Lux) (ha : s.unitReady u = true)
    (hl : o.legal u f (s.lux u) = true) (hr : o.run u f s = .done t) (ht : t.lux u = y)
    (hc : (if o.coissue && f.p then 0 else o.cost f) = cost) (hy : (s.lux u).inPlace y = y) :
    s.executes (s.luxStep u o f) u cost y := by
  obtain ⟨mac, h⟩ := State.luxStep_done s t u o f ha hl hr
  rw [hc] at h
  have e : (s.luxStep u o f).lux u = y.follow ((s.lux u).pc + 8) mac cost := by
    rw [State.sameBesideCounts_lux h]; simp [State.followAt, State.lux_setLux_if, ht]
  have hq : y.cycles = (s.lux u).cycles := (congrArg Lux.cycles hy).symm
  have hp : y.loops = (s.lux u).loops := (congrArg Lux.loops hy).symm
  refine ⟨?_, ?_, ?_⟩
  · rw [e]; exact hy
  · intro _; rw [e]; simp [Lux.follow, hq]
  · intro hn; rw [e]; simp [Lux.follow, hp, hn, loopBack]

/-- An instruction that completes leaves alone what its effect leaves alone. -/
theorem State.luxStep_onlyUnit (s : State) (u : Nat) (o : LuxOp) (f : Fields) (h : Lux → Lux) (ha : s.unitReady u = true)
    (hl : o.legal u f (s.lux u) = true) (hr : o.run u f s = s.onUnit u h) : s.onlyUnit (s.luxStep u o f) u := by
  obtain ⟨mac, g⟩ := State.luxStep_done s _ u o f ha hl hr
  refine ⟨?_, ?_⟩
  · intro v hv; rw [State.sameBesideCounts_lux g]; simp [State.followAt, State.lux_setLux_if, hv]
  · have e := congrArg (fun z => { z with perf := s.perf, units := s.units, rope := { z.rope with diagCorr := s.rope.diagCorr } }) g
    exact e

end Sys2Proof.Machine
end

