-- ==== Sys2Proof/Laws/Pending.lean ====
section
/-! SUPPORT. No operation touches the queue of the commands that wait. -/

/-! ### Machine/Access -/

namespace Sys2Proof.Machine

/-- A fold over a list keeps what each of its steps keeps. -/
@[simp] theorem foldl_pending {α : Type} (f : State → α → State) (l : List α) (s : State)
    (h : ∀ s x, (f s x).pending = s.pending) : (l.foldl f s).pending = s.pending := by
  induction l generalizing s with
  | nil => rfl
  | cons a r ih => simp [ih, h]

/-- A choice between two states keeps what both keep. -/
@[simp] theorem ite_pending (p : Prop) [Decidable p] (a b : State) :
    (if p then a else b).pending = if p then a.pending else b.pending := by split <;> rfl

@[simp] theorem ite_snd {α β : Type} (p : Prop) [Decidable p] (a b : α × β) :
    (if p then a else b).2 = if p then a.2 else b.2 := by split <;> rfl

@[simp] theorem ite_fst {α β : Type} (p : Prop) [Decidable p] (a b : α × β) :
    (if p then a else b).1 = if p then a.1 else b.1 := by split <;> rfl

@[simp] theorem State.setCfg_pending (s : State) (off : Nat) (w : Word) : (State.setCfg s off w).pending = s.pending := rfl
@[simp] theorem State.setStg_pending (s : State) (off : Nat) (w : Word) : (State.setStg s off w).pending = s.pending := rfl
@[simp] theorem State.commitRegs_pending (s : State) (z0 : List Nat) : (State.commitRegs s z0).pending = s.pending := by
  induction z0 generalizing s with
  | nil => rfl
  | cons o r ih => simp [State.commitRegs, ih]
@[simp] theorem State.setAxis_pending (s : State) (i : Nat) (a : Axis) : (State.setAxis s i a).pending = s.pending := rfl
@[simp] theorem State.setGen_pending (s : State) (g : Nat) (x : Gen) : (State.setGen s g x).pending = s.pending := rfl
@[simp] theorem State.setChan_pending (s : State) (c : Nat) (x : StepChan) : (State.setChan s c x).pending = s.pending := rfl
@[simp] theorem State.setEnc_pending (s : State) (c : Nat) (x : Enc) : (State.setEnc s c x).pending = s.pending := rfl
@[simp] theorem State.setSer_pending (s : State) (c : Nat) (x : Ser) : (State.setSer s c x).pending = s.pending := rfl
@[simp] theorem State.setRem_pending (s : State) (c : Nat) (x : Rem) : (State.setRem s c x).pending = s.pending := rfl
@[simp] theorem State.forEach_pending (s : State) (f : State → Nat → State) (l : List Nat) (hf : ∀ (y0 : State) (y1 : Nat),
    (f y0 y1).pending = y0.pending) :
    (State.forEach s f l).pending = s.pending := by
  simp [State.forEach, hf]
@[simp] theorem State.tick_pending (s : State) : (State.tick s).2.pending = s.pending := rfl

@[simp] theorem State.store'_pending (s : State) (a : Nat) (bs : List Byte) : (State.store' s a bs).pending = s.pending := rfl
end Sys2Proof.Machine

/-! ### Machine/AxisOps -/

namespace Sys2Proof.Machine

@[simp] theorem State.setAxMap_pending (s : State) (i k f : Nat) :
    (State.setAxMap s i k f).pending = s.pending := by
  unfold State.setAxMap
  dsimp only
  (repeat' split) <;> simp
@[simp] theorem State.enterAx_pending (s : State) (i : Nat) (st : AxSt) : (State.enterAx s i st).pending = s.pending := rfl
@[simp] theorem State.applyReaction_pending (s : State) (i : Nat) (l : Latch) :
    (State.applyReaction s i l).pending = s.pending := by
  unfold State.applyReaction
  dsimp only
  (repeat' split) <;> simp
@[simp] theorem State.applyReactions_pending (s : State) (i : Nat) :
    (State.applyReactions s i).pending = s.pending := by
  unfold State.applyReactions
  dsimp only
  (repeat' split) <;> simp
@[simp] theorem State.raise_pending (s : State) (i : Nat) (l : Latch) : (State.raise s i l).pending = s.pending := rfl
@[simp] theorem State.raiseFeedback_pending (s : State) (ch : Nat) :
    (State.raiseFeedback s ch).pending = s.pending := by
  simp [State.raiseFeedback]
@[simp] theorem State.settleSelector_pending (s : State) (i : Nat) : (State.settleSelector s i).pending = s.pending := by
  unfold State.settleSelector
  dsimp only
  (repeat' split) <;> simp
@[simp] theorem State.advanceSelector_pending (s : State) (i : Nat) :
    (State.advanceSelector s i).pending = s.pending := by
  unfold State.advanceSelector
  dsimp only
  (repeat' split) <;> simp
@[simp] theorem State.evaluateSchedule_pending (s : State) (i : Nat) (sigma : Word) :
    (State.evaluateSchedule s i sigma).pending = s.pending := by
  simp [State.evaluateSchedule]
@[simp] theorem State.delayReport_pending (s : State) (i : Nat) (inp : ServoInput) :
    (State.delayReport s i inp).pending = s.pending := by
  simp [State.delayReport]
@[simp] theorem State.feedbackCheck_pending (s : State) (i ch : Nat) :
    (State.feedbackCheck s i ch).pending = s.pending := by
  simp [State.feedbackCheck]
@[simp] theorem State.ageCheck_pending (s : State) (i age : Nat) :
    (State.ageCheck s i age).pending = s.pending := by
  simp [State.ageCheck]
@[simp] theorem State.servoRecords_pending (s : State) (i : Nat) (w : ServoWire) (inp : ServoInput) (v : Stage) (old : Axis)
    (rec32 : List Byte) :
    (State.servoRecords s i w inp v old rec32).pending = s.pending := by
  unfold State.servoRecords
  (repeat' split) <;> simp
@[simp] theorem State.servoPassage_pending (s : State) (i : Nat) (noScale : BitVec 24 × BitVec 24) :
    (State.servoPassage s i noScale).pending = s.pending := by
  unfold State.servoPassage
  dsimp only
  (repeat' split) <;> simp
@[simp] theorem State.plausibility_pending (s : State) (i : Nat) :
    (State.plausibility s i).pending = s.pending := by
  unfold State.plausibility
  dsimp only
  (repeat' split) <;> simp
@[simp] theorem State.startLoad_pending (s : State) (i k f : Nat) (words : List Line) (iMax : Option Word) :
    (State.startLoad s i k f words iMax).pending = s.pending := rfl
@[simp] theorem State.storeSet_pending (s : State) (ae base stride f : Nat) (z0 : List Line)
    (z1 : Nat) : (State.storeSet s ae base stride f z0 z1).pending = s.pending := by
  induction z0 generalizing s z1 with
  | nil => rfl
  | cons l r ih => simp [State.storeSet, ih]
@[simp] theorem State.finishLoad_pending (s : State) (i : Nat) (w : ServoWire) (l : SetLoad) :
    (State.finishLoad s i w l).pending = s.pending := by
  simp [State.finishLoad]

end Sys2Proof.Machine

/-! ### Machine/AxisCmds -/

namespace Sys2Proof.Machine

@[simp] theorem cmdAxEnable_pending (held : Bool) (i mode : Nat) (s : State) :
    (cmdAxEnable held i mode s).2.pending = s.pending := by
  simp [cmdAxEnable]
@[simp] theorem cmdAxDisable_pending (i : Nat) (s : State) : (cmdAxDisable i s).2.pending = s.pending := by simp [cmdAxDisable]
@[simp] theorem cmdAxMode_pending (i mode noPreset : Nat) (s : State) :
    (cmdAxMode i mode noPreset s).2.pending = s.pending := by
  simp [cmdAxMode]
@[simp] theorem cmdAxCommit_pending (i : Nat) (s : State) : (cmdAxCommit i s).2.pending = s.pending := by simp [cmdAxCommit]
@[simp] theorem cmdAxRetune_pending (i k : Nat) (s : State) :
    (cmdAxRetune i k s).2.pending = s.pending := by
  unfold cmdAxRetune
  (repeat' split) <;> simp
@[simp] theorem cmdAxSetLoad_pending (i k f : Nat) (s : State) :
    (cmdAxSetLoad i k f s).2.pending = s.pending := by
  unfold cmdAxSetLoad
  (repeat' split) <;> simp
@[simp] theorem cmdAxClear_pending (released : Bool) (i : Nat) (s : State) : (cmdAxClear released i s).2.pending = s.pending := rfl
@[simp] theorem State.supervisionTrip_pending (s : State) (i : Nat) :
    (State.supervisionTrip s i).pending = s.pending := by
  simp [State.supervisionTrip]
@[simp] theorem cmdMvQueue_pending (g : Nat) (target : Int) (vmax : Word) (relative blendIn : Bool) (s : State) :
    (cmdMvQueue g target vmax relative blendIn s).2.pending = s.pending := rfl
@[simp] theorem cmdMvChange_pending (g : Nat) (target : Int) (vmax : Word) (chTarget chVmax : Bool) (s : State) :
    (cmdMvChange g target vmax chTarget chVmax s).2.pending = s.pending := rfl
@[simp] theorem cmdMvFlush_pending (g : Nat) (s : State) : (cmdMvFlush g s).2.pending = s.pending := rfl
@[simp] theorem cmdMvQstop_pending (g : Nat) (s : State) : (cmdMvQstop g s).2.pending = s.pending := rfl
@[simp] theorem State.stopChannel_pending (s : State) (c cause : Nat) : (State.stopChannel s c cause).pending = s.pending := rfl
@[simp] theorem cmdMvHstop_pending (g : Nat) (s : State) : (cmdMvHstop g s).2.pending = s.pending := by simp [cmdMvHstop]
@[simp] theorem cmdMvHome_pending (g method dir : Nat) (vsearch : Word) (homePos : Int) (range : Nat) (fly : Bool) (s : State) :
    (cmdMvHome g method dir vsearch homePos range fly s).2.pending = s.pending := by
  simp [cmdMvHome]
@[simp] theorem cmdPfCommit_pending (g : Nat) (s : State) : (cmdPfCommit g s).2.pending = s.pending := by simp [cmdPfCommit]
@[simp] theorem cmdChEnable_pending (blocked : Bool) (c : Nat) (enable : Bool) (s : State) :
    (cmdChEnable blocked c enable s).2.pending = s.pending := by
  simp [cmdChEnable]
@[simp] theorem State.stallNow_pending (s : State) (g : Nat) : (State.stallNow s g).pending = s.pending := by simp [State.stallNow]
@[simp] theorem State.fbUnstage_pending (s : State) (ch : Nat) :
    (State.fbUnstage s ch).pending = s.pending := by
  simp [State.fbUnstage]
@[simp] theorem cmdFbCommit_pending (ch : Nat) (s : State) : (cmdFbCommit ch s).2.pending = s.pending := by simp [cmdFbCommit]
@[simp] theorem cmdFbClear_pending (ch : Nat) (s : State) : (cmdFbClear ch s).2.pending = s.pending := by simp [cmdFbClear]
@[simp] theorem State.fbRaise_pending (s : State) (ch cause : Nat) :
    (State.fbRaise s ch cause).pending = s.pending := by
  simp [State.fbRaise]

end Sys2Proof.Machine

/-! ### Machine/GenOps -/

namespace Sys2Proof.Machine

@[simp] theorem State.sampleCount_pending (s : State) (c : Nat) : (State.sampleCount s c).pending = s.pending := rfl
@[simp] theorem State.sampleSwitches_pending (s : State) (g : Nat) : (State.sampleSwitches s g).pending = s.pending := rfl
@[simp] theorem State.genPassage_pending (s : State) (g : Nat) :
    (State.genPassage s g).pending = s.pending := by
  unfold State.genPassage
  (repeat' split) <;> simp
@[simp] theorem State.stepperRecord_pending (s : State) (i : Nat) :
    (State.stepperRecord s i).pending = s.pending := by
  unfold State.stepperRecord
  (repeat' split) <;> simp
@[simp] theorem State.stepperPassage_pending (s : State) (i : Nat) :
    (State.stepperPassage s i).pending = s.pending := by
  unfold State.stepperPassage
  (repeat' split) <;> simp

end Sys2Proof.Machine

/-! ### Machine/Ops -/

namespace Sys2Proof.Machine

@[simp] theorem State.dma_pending (s : State) (a : Nat) (bs : List Byte) :
    (State.dma s a bs).pending = s.pending := by
  simp [State.dma]
@[simp] theorem State.logNow_pending (s : State) (passage : Word) (origin kind code status : Nat) (subject value : Word) :
    (State.logNow s passage origin kind code status subject value).pending = s.pending := by
  simp [State.logNow]
@[simp] theorem State.logReserved_pending (s : State) (passage : Word) (origin kind code status : Nat) (subject value : Word) :
    (State.logReserved s passage origin kind code status subject value).pending = s.pending := by
  simp [State.logReserved]
@[simp] theorem State.logEvent_pending (s : State) (origin kind code : Nat) (subject value : Nat) :
    (State.logEvent s origin kind code subject value).pending = s.pending := by
  simp [State.logEvent]
@[simp] theorem State.accessError_pending (s : State) (kind : Nat) (bar2 : Bool) (off : Nat) :
    (State.accessError s kind bar2 off).pending = s.pending := rfl
@[simp] theorem State.recordFault_pending (s : State) (f : FaultRec) :
    (State.recordFault s f).pending = s.pending := by
  simp only [State.recordFault]
  (repeat' split) <;> simp
@[simp] theorem State.flag_pending (s : State) (level kind identity : Nat) :
    (State.flag s level kind identity).pending = s.pending := by
  simp only [State.flag]
  split
  · rfl
  · rw [State.recordFault_pending]
@[simp] theorem State.recordFaults_pending (s : State) : (State.recordFaults s).pending = s.pending := by simp [State.recordFaults]
@[simp] theorem State.ringTx_pending (s : State) (on : Bool) : (State.ringTx s on).pending = s.pending := rfl
@[simp] theorem State.packageFault_pending (s : State) (kind : Nat) :
    (State.packageFault s kind).pending = s.pending := by
  unfold State.packageFault
  dsimp only
  (repeat' split) <;> simp
@[simp] theorem State.faultClusters_pending (s : State) (kind : Nat) (ks : List Nat) :
    (State.faultClusters s kind ks).pending = s.pending := by
  simp [State.faultClusters]
@[simp] theorem State.unitFault_pending (s : State) (kind identity : Nat) :
    (State.unitFault s kind identity).pending = s.pending := by
  unfold State.unitFault
  (repeat' split) <;> simp
@[simp] theorem State.result_pending (s : State) (seq : Word) (tag opc status : Nat) (detail passage : Word) :
    (State.result s seq tag opc status detail passage).pending = s.pending := rfl
@[simp] theorem State.setAside_pending (s : State) (c : Ctx) (i : CmdInfo) : (State.setAside s c i).2.pending = s.pending := rfl
@[simp] theorem State.intent_pending (s : State) (c : Ctx) (i : CmdInfo) (effect : Word) (aside : Nat) :
    (State.intent s c i effect aside).pending = s.pending := by
  simp [State.intent]
@[simp] theorem State.judge_pending (s : State) (c : Ctx) (i : CmdInfo) (core : State → Answer) (hcore : ∀ (y0 : State),
    (core y0).state.pending = y0.pending) :
    (State.judge s c i core).2.2.pending = s.pending := by
  unfold State.judge
  dsimp only
  (repeat' split) <;> simp [hcore]
@[simp] theorem State.logOutcome_pending (s : State) (c : Ctx) (i : CmdInfo) (aside code : Nat) :
    (State.logOutcome s c i aside code).pending = s.pending := by
  unfold State.logOutcome
  (repeat' split) <;> simp
@[simp] theorem State.settle_pending (s : State) (c : Ctx) (i : CmdInfo) (core : State → Answer) (aside : Nat)
    (hcore : ∀ (y0 : State), (core y0).state.pending = y0.pending) :
    (State.settle s c i core aside).2.2.pending = s.pending := by
  simp [State.settle, hcore]
@[simp] theorem State.finish_pending (s : State) (c : Ctx) (i : CmdInfo) (core : State → Answer) (aside : Nat)
    (hcore : ∀ (y0 : State), (core y0).state.pending = y0.pending) :
    (State.finish s c i core aside).pending = s.pending := by
  simp [State.finish, hcore]
@[simp] theorem State.command_pending (s : State) (c : Ctx) (i : CmdInfo) (core : State → Answer) (hcore : ∀ (y0 : State),
    (core y0).state.pending = y0.pending) :
    (State.command s c i core).pending = s.pending := by
  simp [State.command, hcore]
@[simp] theorem answer_pending (r : Refusals × State) : (answer r).state.pending = r.2.pending := rfl
@[simp] theorem answerAt_pending (detail : Nat) (r : Refusals × State) : (answerAt detail r).state.pending = r.2.pending := rfl

@[simp] theorem State.acqWordFault_pending (s : State) (a : Nat) :
    (State.acqWordFault s a).pending = s.pending := by simp [State.acqWordFault]
@[simp] theorem State.idieFault_pending (s : State) (a : Nat) :
    (State.idieFault s a).pending = s.pending := by
  simp [State.idieFault]

end Sys2Proof.Machine

/-! ### Machine/PerfOps -/

namespace Sys2Proof.Machine

@[simp] theorem State.bump_pending (s : State) (z0 : Nat) (z1 : Nat) (z2 : Nat) : (State.bump s z0 z1 z2).pending = s.pending := by
  induction z0 generalizing s z1 z2 with
  | zero => simp [State.bump]
  | succ n ih => simp [State.bump, ih]
@[simp] theorem State.count_pending (s : State) (event unit n : Nat) :
    (State.count s event unit n).pending = s.pending := by
  simp [State.count]
@[simp] theorem State.countFree_pending (s : State) : (State.countFree s).pending = s.pending := by simp [State.countFree]

end Sys2Proof.Machine

/-! ### Machine/SchedOps -/

namespace Sys2Proof.Machine

@[simp] theorem State.setDescState_pending (s : State) (d st : Nat) : (State.setDescState s d st).pending = s.pending := rfl
@[simp] theorem State.setCore_pending (s : State) (c : Nat) (x : Core) : (State.setCore s c x).pending = s.pending := rfl
@[simp] theorem State.setEntry_pending (s : State) (d : Nat) (m : Option Match) : (State.setEntry s d m).pending = s.pending := rfl
@[simp] theorem State.discardTokens_pending (s : State) (n : Nat) : (State.discardTokens s n).pending = s.pending := rfl
@[simp] theorem State.prefetchOne_pending (s : State) (c : Nat) :
    (State.prefetchOne s c).pending = s.pending := by
  unfold State.prefetchOne
  dsimp only
  (repeat' split) <;> simp
@[simp] theorem State.prefetch_pending (s : State) : (State.prefetch s).pending = s.pending := by simp [State.prefetch]
@[simp] theorem State.makeReady_pending (s : State) (d : Nat)
    (resume : Bool) : (State.makeReady s d resume).pending = s.pending := by
  simp only [State.makeReady]
  rw [State.prefetch_pending, foldl_pending]
  · simp
  · intro s x; simp
@[simp] theorem State.checkComplete_pending (s : State) (d : Nat) :
    (State.checkComplete s d).pending = s.pending := by
  unfold State.checkComplete
  (repeat' split) <;> simp
@[simp] theorem State.readDesc_pending (s : State) (d : Nat) :
    (State.readDesc s d).pending = s.pending := by
  unfold State.readDesc
  (repeat' split) <;> simp
@[simp] theorem State.token_pending (s : State) (d j : Nat) (v : Word) :
    (State.token s d j v).1.pending = s.pending := by
  simp only [State.token]
  (repeat' split) <;> simp
@[simp] theorem State.setPending_pending (s : State) (k : Nat) (b : Bool) :
    (State.setPending s k b).pending = s.pending := by
  simp [State.setPending]
@[simp] theorem State.offer_pending (s : State) (k : Nat) : (State.offer s k).pending = s.pending := by simp [State.offer]
@[simp] theorem State.setLux_pending (s : State) (u : Nat) (x : Lux) : (State.setLux s u x).pending = s.pending := rfl
@[simp] theorem State.takeReady_pending (s : State) (d : Nat) : (State.takeReady s d).pending = s.pending := rfl
@[simp] theorem State.loadTask_pending (s : State) (c d : Nat) : (State.loadTask s c d).pending = s.pending := by
  unfold State.loadTask
  dsimp only
  split <;> rfl
@[simp] theorem State.setRunning_pending (s : State) (c d : Nat) : (State.setRunning s c d).pending = s.pending := rfl
@[simp] theorem State.runTask_pending (s : State) (c d : Nat) : (State.runTask s c d).pending = s.pending := by
  simp only [State.runTask, State.prefetch_pending, State.count_pending, State.setCore_pending, State.setRunning_pending,
    State.loadTask_pending]
@[simp] theorem State.startTask_pending (s : State) (c : Nat) :
    (State.startTask s c).pending = s.pending := by
  unfold State.startTask
  (repeat' split) <;> simp
@[simp] theorem State.endTask_pending (s : State) (c : Nat) :
    (State.endTask s c).pending = s.pending := by
  unfold State.endTask
  (repeat' split) <;> simp
@[simp] theorem State.coreOut_pending (s : State) (c : Nat) : (State.coreOut s c).pending = s.pending := by
  simp only [State.coreOut]
  rw [State.prefetch_pending, State.setCore_pending, foldl_pending]
  intro s x; simp
@[simp] theorem State.delayTask_pending (s : State) (c d dreg n : Nat) (micro : Bool) (next : Nat) :
    (State.delayTask s c d dreg n micro next).pending = s.pending := by
  simp only [State.delayTask, State.setDescState_pending, State.setCore_pending, State.store'_pending]
@[simp] theorem State.closeWindow_pending (s : State) : (State.closeWindow s).pending = s.pending := by
  unfold State.closeWindow
  rw [foldl_pending]
  intro s x
  simp
@[simp] theorem State.openWindow_pending (s : State) : (State.openWindow s).pending = s.pending := by
  simp only [State.openWindow]
  rw [foldl_pending]
  intro s x; simp

end Sys2Proof.Machine

/-! ### Machine/EntryOps -/

namespace Sys2Proof.Machine

@[simp] theorem State.ageOutputs_pending (s : State) (e : Entry) : (State.ageOutputs s e).pending = s.pending := rfl
@[simp] theorem State.abortBooks_pending (s : State) (k i : Nat) :
    (State.abortBooks s k i).pending = s.pending := by
  unfold State.abortBooks
  (repeat' split) <;> simp
@[simp] theorem State.abortEntry_pending (s : State) (k i kind : Nat) :
    (State.abortEntry s k i kind).pending = s.pending := by
  unfold State.abortEntry
  (repeat' split) <;> simp
@[simp] theorem State.stopUnit_pending (s : State) (u kind : Nat) :
    (State.stopUnit s u kind).pending = s.pending := by
  unfold State.stopUnit
  dsimp only
  (repeat' split) <;> simp
@[simp] theorem State.correctOne_pending (s : State) (reader : Option (Nat × Nat)) (w : Nat) :
    (State.correctOne s reader w).pending = s.pending := by
  unfold State.correctOne
  (repeat' split) <;> simp
@[simp] theorem State.correct_pending (s : State) (reader : Option (Nat × Nat)) (ws : List Nat) :
    (State.correct s reader ws).pending = s.pending := by
  unfold State.correct
  (repeat' split) <;> simp
@[simp] theorem State.correctMove_pending (s : State) (links : List Nat) (w : Nat) :
    (State.correctMove s links w).pending = s.pending := by
  unfold State.correctMove
  (repeat' split) <;> simp
@[simp] theorem State.ringWordSeen_pending (s : State) (w : Nat) :
    (State.ringWordSeen s w).pending = s.pending := by
  simp [State.ringWordSeen]
@[simp] theorem State.seeRingWords_pending (s : State) (ws : List Nat) :
    (State.seeRingWords s ws).pending = s.pending := by
  simp [State.seeRingWords]
end Sys2Proof.Machine

/-! ### Machine/Operands -/

namespace Sys2Proof.Machine

/-- The state that a result leaves; the given one where the instruction had no effect of its own. -/
def LuxRes.after (r : LuxRes) (s : State) : State := match r with
  | .done t => t
  | .skip t _ => t
  | .jump t _ => t
  | .over t => t
  | .illegal => s
  | .ecc _ => s
  | .fault _ _ => s

@[simp] theorem LuxRes.done_after (t s : State) : (LuxRes.done t).after s = t := rfl
@[simp] theorem LuxRes.skip_after (t s : State) (p : Nat) : (LuxRes.skip t p).after s = t := rfl
@[simp] theorem LuxRes.jump_after (t s : State) (p : Nat) : (LuxRes.jump t p).after s = t := rfl
@[simp] theorem LuxRes.over_after (t s : State) : (LuxRes.over t).after s = t := rfl
@[simp] theorem LuxRes.illegal_after (s : State) : LuxRes.illegal.after s = s := rfl
@[simp] theorem LuxRes.ecc_after (s : State) (a : Nat) : (LuxRes.ecc a).after s = s := rfl
@[simp] theorem LuxRes.fault_after (s : State) (c a : Nat) : (LuxRes.fault c a).after s = s := rfl
@[simp] theorem LuxRes.ite_after (p : Prop) [Decidable p] (a b : LuxRes) (s : State) :
    (if p then a else b).after s = if p then a.after s else b.after s := by split <;> rfl
@[simp] theorem State.onUnit_after (s : State) (u : Nat) (h : Lux → Lux) (t : State) :
    (s.onUnit u h).after t = s.setLux u (h (s.lux u)) := rfl
theorem State.sCheck_after (s t : State) (a n : Nat) (w : Bool) (r : LuxRes) (h : s.sCheck a n w = some r) : r.after t = t := by
  unfold State.sCheck at h
  by_cases h1 : a % n ≠ 0
  · rw [if_pos h1] at h; cases h; rfl
  · rw [if_neg h1] at h
    by_cases h2 : (!(if w then s.softWrites a else s.softReads a)) = true
    · rw [if_pos h2] at h; cases h; rfl
    · rw [if_neg h2] at h; cases h

@[simp] theorem State.onUnit_pending (s : State) (u : Nat) (h : Lux → Lux) :
    ((State.onUnit s u h).after s).pending = s.pending := rfl
@[simp] theorem State.unitReads_pending (s : State) (u : Nat) (ws : List Nat) :
    (State.unitReads s u ws).pending = s.pending := by simp [State.unitReads]
@[simp] theorem State.setUnitLine_pending (s : State) (u w : Nat) (l : Line) :
    (State.setUnitLine s u w l).pending = s.pending := rfl
@[simp] theorem State.withLine_pending (s : State) (u : Nat) (f : Fields) (h : Line → Lux → Lux) :
    ((State.withLine s u f h).after s).pending = s.pending := by
  unfold State.withLine
  (repeat' split) <;> simp
@[simp] theorem State.coefWord_pending (s : State) (u : Nat) (f : Fields) (h : Stage → Lux → Lux) :
    ((State.coefWord s u f h).after s).pending = s.pending := by
  unfold State.coefWord
  dsimp only
  (repeat' split) <;> simp
@[simp] theorem State.sRead_pending (s : State) (a n : Nat) : (State.sRead s a n).2.pending = s.pending := by simp [State.sRead]
@[simp] theorem State.sLoad_pending (s : State) (u : Nat) (f : Fields) (n : Nat) (h : Nat → Lux →
    Lux) : ((State.sLoad s u f n h).after s).pending = s.pending := by
  simp only [State.sLoad]
  split
  · rename_i r hr; rw [State.sCheck_after _ _ _ _ _ _ hr]
  · have h := State.sRead_pending s ((s.lux u).sAddr f) n
    split <;> rename_i he <;> simp_all
@[simp] theorem State.sStore_pending (s : State) (u : Nat) (f : Fields)
    (n v : Nat) : ((State.sStore s u f n v).after s).pending = s.pending := by
  simp only [State.sStore]
  split
  · rename_i r hr; rw [State.sCheck_after _ _ _ _ _ _ hr]
  · simp

end Sys2Proof.Machine

/-! ### Machine/LuxCore -/

namespace Sys2Proof.Machine

@[simp] theorem State.putRecord_pending (s : State) (c cause code addr : Nat) (instr : U64) :
    (State.putRecord s c cause code addr instr).pending = s.pending := by
  simp [State.putRecord]
@[simp] theorem State.sFault_pending (s : State) (c cause addr : Nat) (instr : U64) :
    (State.sFault s c cause addr instr).pending = s.pending := by
  simp [State.sFault]
@[simp] theorem State.sEcc_pending (s : State) (c addr : Nat) (instr : U64) :
    (State.sEcc s c addr instr).pending = s.pending := by
  simp [State.sEcc]
@[simp] theorem State.endBlock_pending (s : State) (u : Nat) :
    (State.endBlock s u).pending = s.pending := by
  unfold State.endBlock
  dsimp only
  (repeat' split) <;> simp
@[simp] theorem State.followAt_pending (s : State) (u pc : Nat) (mac : Bool) (cost : Nat) :
    (State.followAt s u pc mac cost).pending = s.pending := rfl
@[simp] theorem State.luxRun_pending (s : State) (u : Nat) (o : LuxOp) (f : Fields) (ho : ∀ (u : Nat) (f : Fields) (s : State),
    ((o.run u f s).after s).pending = s.pending) : (State.luxRun s u o f).pending = s.pending := by
  have hr : (((if o.legal u f (s.lux u) then o.run u f s else .illegal) : LuxRes).after s).pending = s.pending := by
    split
    · exact ho u f s
    · rfl
  simp only [State.luxRun]
  generalize (if o.legal u f (s.lux u) then o.run u f s else .illegal) = z at hr
  cases z <;> dsimp only [LuxRes.after] at hr ⊢ <;> (try split) <;> simp [hr]
@[simp] theorem State.fetchFails_pending (s : State) (u : Nat) (p : Nat × Nat) :
    (State.fetchFails s u p).pending = s.pending := by
  unfold State.fetchFails
  (repeat' split) <;> simp
@[simp] theorem State.fetched_pending (s : State) (u : Nat) (t : State) : (State.fetched s u t).pending = t.pending := by
  unfold State.fetched
  dsimp only
  (repeat' split) <;> simp
@[simp] theorem State.luxCount_pending (s : State) (u : Nat) (o : LuxOp) (f : Fields) (t : State) :
    (State.luxCount s u o f t).pending = t.pending := by
  simp [State.luxCount]
@[simp] theorem State.luxStep_pending (s : State) (u : Nat) (o : LuxOp) (f : Fields) (ho : ∀ (u : Nat) (f : Fields)
    (s : State), ((o.run u f s).after s).pending = s.pending) : (State.luxStep s u o f).pending = s.pending := by
  unfold State.luxStep
  (repeat' split) <;> simp [State.luxRun_pending _ _ _ _ ho]

end Sys2Proof.Machine

/-! ### Machine/LuxScalar -/

namespace Sys2Proof.Machine

@[simp] theorem scalar3_keeps_pending (opc cost : Nat) (h : Word → Word → Word) :
    ∀ (u : Nat) (f : Fields) (s : State), (((scalar3 opc cost h).run u f s).after s).pending = s.pending := fun _ _ _ => rfl
@[simp] theorem scalar3Sat_keeps_pending (opc : Nat) (ae : Bool) (h : Word → Word → Word × Bool) :
    ∀ (u : Nat) (f : Fields) (s : State), (((scalar3Sat opc ae h).run u f s).after s).pending = s.pending := fun _ _ _ => rfl
@[simp] theorem scalarImm_keeps_pending (opc : Nat) (imm : Word) (h : Word → Word → Word) :
    ∀ (u : Nat) (f : Fields) (s : State), (((scalarImm opc imm h).run u f s).after s).pending = s.pending := fun _ _ _ => rfl
@[simp] theorem luxNop_keeps_pending  :
    ∀ (u : Nat) (f : Fields) (s : State), (((luxNop).run u f s).after s).pending = s.pending := fun _ _ _ => rfl
@[simp] theorem luxEnd_keeps_pending  :
    ∀ (u : Nat) (f : Fields) (s : State), (((luxEnd).run u f s).after s).pending = s.pending := fun _ _ _ => rfl
@[simp] theorem luxLoop_keeps_pending  :
    ∀ (u : Nat) (f : Fields) (s : State), (((luxLoop).run u f s).after s).pending = s.pending := by
  intro u f s
  simp [luxLoop]
@[simp] theorem luxRdf_keeps_pending  :
    ∀ (u : Nat) (f : Fields) (s : State), (((luxRdf).run u f s).after s).pending = s.pending := fun _ _ _ => rfl
@[simp] theorem luxClrf_keeps_pending  :
    ∀ (u : Nat) (f : Fields) (s : State), (((luxClrf).run u f s).after s).pending = s.pending := fun _ _ _ => rfl
@[simp] theorem luxAdd_keeps_pending  :
    ∀ (u : Nat) (f : Fields) (s : State), (((luxAdd).run u f s).after s).pending = s.pending := fun _ _ _ => rfl
@[simp] theorem luxSub_keeps_pending  :
    ∀ (u : Nat) (f : Fields) (s : State), (((luxSub).run u f s).after s).pending = s.pending := fun _ _ _ => rfl
@[simp] theorem luxAdds_keeps_pending  :
    ∀ (u : Nat) (f : Fields) (s : State), (((luxAdds).run u f s).after s).pending = s.pending := fun _ _ _ => rfl
@[simp] theorem luxSubs_keeps_pending  :
    ∀ (u : Nat) (f : Fields) (s : State), (((luxSubs).run u f s).after s).pending = s.pending := fun _ _ _ => rfl
@[simp] theorem luxAnd_keeps_pending  :
    ∀ (u : Nat) (f : Fields) (s : State), (((luxAnd).run u f s).after s).pending = s.pending := fun _ _ _ => rfl
@[simp] theorem luxOr_keeps_pending  :
    ∀ (u : Nat) (f : Fields) (s : State), (((luxOr).run u f s).after s).pending = s.pending := fun _ _ _ => rfl
@[simp] theorem luxXor_keeps_pending  :
    ∀ (u : Nat) (f : Fields) (s : State), (((luxXor).run u f s).after s).pending = s.pending := fun _ _ _ => rfl
@[simp] theorem luxShl_keeps_pending  :
    ∀ (u : Nat) (f : Fields) (s : State), (((luxShl).run u f s).after s).pending = s.pending := fun _ _ _ => rfl
@[simp] theorem luxShr_keeps_pending  :
    ∀ (u : Nat) (f : Fields) (s : State), (((luxShr).run u f s).after s).pending = s.pending := fun _ _ _ => rfl
@[simp] theorem luxSar_keeps_pending  :
    ∀ (u : Nat) (f : Fields) (s : State), (((luxSar).run u f s).after s).pending = s.pending := fun _ _ _ => rfl
@[simp] theorem luxMul_keeps_pending  :
    ∀ (u : Nat) (f : Fields) (s : State), (((luxMul).run u f s).after s).pending = s.pending := fun _ _ _ => rfl
@[simp] theorem luxMulh_keeps_pending  :
    ∀ (u : Nat) (f : Fields) (s : State), (((luxMulh).run u f s).after s).pending = s.pending := fun _ _ _ => rfl
@[simp] theorem luxMin_keeps_pending  :
    ∀ (u : Nat) (f : Fields) (s : State), (((luxMin).run u f s).after s).pending = s.pending := fun _ _ _ => rfl
@[simp] theorem luxMax_keeps_pending  :
    ∀ (u : Nat) (f : Fields) (s : State), (((luxMax).run u f s).after s).pending = s.pending := fun _ _ _ => rfl
@[simp] theorem luxSlt_keeps_pending  :
    ∀ (u : Nat) (f : Fields) (s : State), (((luxSlt).run u f s).after s).pending = s.pending := fun _ _ _ => rfl
@[simp] theorem luxSltu_keeps_pending  :
    ∀ (u : Nat) (f : Fields) (s : State), (((luxSltu).run u f s).after s).pending = s.pending := fun _ _ _ => rfl
@[simp] theorem luxAddi_keeps_pending  :
    ∀ (u : Nat) (f : Fields) (s : State), (((luxAddi).run u f s).after s).pending = s.pending := fun _ _ _ => rfl
@[simp] theorem luxMovi_keeps_pending  :
    ∀ (u : Nat) (f : Fields) (s : State), (((luxMovi).run u f s).after s).pending = s.pending := fun _ _ _ => rfl
@[simp] theorem luxShli_keeps_pending  :
    ∀ (u : Nat) (f : Fields) (s : State), (((luxShli).run u f s).after s).pending = s.pending := fun _ _ _ => rfl
@[simp] theorem luxShri_keeps_pending  :
    ∀ (u : Nat) (f : Fields) (s : State), (((luxShri).run u f s).after s).pending = s.pending := fun _ _ _ => rfl
@[simp] theorem luxSari_keeps_pending  :
    ∀ (u : Nat) (f : Fields) (s : State), (((luxSari).run u f s).after s).pending = s.pending := fun _ _ _ => rfl
@[simp] theorem luxAndi_keeps_pending  :
    ∀ (u : Nat) (f : Fields) (s : State), (((luxAndi).run u f s).after s).pending = s.pending := fun _ _ _ => rfl
@[simp] theorem luxSelz_keeps_pending  :
    ∀ (u : Nat) (f : Fields) (s : State), (((luxSelz).run u f s).after s).pending = s.pending := fun _ _ _ => rfl
@[simp] theorem luxAbs_keeps_pending  :
    ∀ (u : Nat) (f : Fields) (s : State), (((luxAbs).run u f s).after s).pending = s.pending := fun _ _ _ => rfl
@[simp] theorem luxDiv_keeps_pending  :
    ∀ (u : Nat) (f : Fields) (s : State), (((luxDiv).run u f s).after s).pending = s.pending := fun _ _ _ => rfl
@[simp] theorem luxDivu_keeps_pending  :
    ∀ (u : Nat) (f : Fields) (s : State), (((luxDivu).run u f s).after s).pending = s.pending := fun _ _ _ => rfl
@[simp] theorem luxXmov_keeps_pending  :
    ∀ (u : Nat) (f : Fields) (s : State), (((luxXmov).run u f s).after s).pending = s.pending := fun _ _ _ => rfl
@[simp] theorem luxXaddi_keeps_pending  :
    ∀ (u : Nat) (f : Fields) (s : State), (((luxXaddi).run u f s).after s).pending = s.pending := fun _ _ _ => rfl
@[simp] theorem luxSfromx_keeps_pending  :
    ∀ (u : Nat) (f : Fields) (s : State), (((luxSfromx).run u f s).after s).pending = s.pending := fun _ _ _ => rfl
@[simp] theorem luxPmov_keeps_pending  :
    ∀ (u : Nat) (f : Fields) (s : State), (((luxPmov).run u f s).after s).pending = s.pending := fun _ _ _ => rfl
@[simp] theorem luxPaddi_keeps_pending  :
    ∀ (u : Nat) (f : Fields) (s : State), (((luxPaddi).run u f s).after s).pending = s.pending := fun _ _ _ => rfl
@[simp] theorem luxSfromp_keeps_pending  :
    ∀ (u : Nat) (f : Fields) (s : State), (((luxSfromp).run u f s).after s).pending = s.pending := fun _ _ _ => rfl
theorem execNop_pending (u : Nat) (f : Fields) (s : State) :
    ∃ t, execNop u f s = .next t ∧ t.pending = s.pending := ⟨_, rfl, State.luxStep_pending _ _ _ _ luxNop_keeps_pending⟩
theorem execEnd_pending (u : Nat) (f : Fields) (s : State) :
    ∃ t, execEnd u f s = .next t ∧ t.pending = s.pending := ⟨_, rfl, State.luxStep_pending _ _ _ _ luxEnd_keeps_pending⟩
theorem execLoop_pending (u : Nat) (f : Fields) (s : State) :
    ∃ t, execLoop u f s = .next t ∧ t.pending = s.pending := ⟨_, rfl, State.luxStep_pending _ _ _ _ luxLoop_keeps_pending⟩
theorem execRdf_pending (u : Nat) (f : Fields) (s : State) :
    ∃ t, execRdf u f s = .next t ∧ t.pending = s.pending := ⟨_, rfl, State.luxStep_pending _ _ _ _ luxRdf_keeps_pending⟩
theorem execClrf_pending (u : Nat) (f : Fields) (s : State) :
    ∃ t, execClrf u f s = .next t ∧ t.pending = s.pending := ⟨_, rfl, State.luxStep_pending _ _ _ _ luxClrf_keeps_pending⟩
theorem execAdd_pending (u : Nat) (f : Fields) (s : State) :
    ∃ t, execAdd u f s = .next t ∧ t.pending = s.pending := ⟨_, rfl, State.luxStep_pending _ _ _ _ luxAdd_keeps_pending⟩
theorem execSub_pending (u : Nat) (f : Fields) (s : State) :
    ∃ t, execSub u f s = .next t ∧ t.pending = s.pending := ⟨_, rfl, State.luxStep_pending _ _ _ _ luxSub_keeps_pending⟩
theorem execAdds_pending (u : Nat) (f : Fields) (s : State) :
    ∃ t, execAdds u f s = .next t ∧ t.pending = s.pending := ⟨_, rfl, State.luxStep_pending _ _ _ _ luxAdds_keeps_pending⟩
theorem execSubs_pending (u : Nat) (f : Fields) (s : State) :
    ∃ t, execSubs u f s = .next t ∧ t.pending = s.pending := ⟨_, rfl, State.luxStep_pending _ _ _ _ luxSubs_keeps_pending⟩
theorem execAnd_pending (u : Nat) (f : Fields) (s : State) :
    ∃ t, execAnd u f s = .next t ∧ t.pending = s.pending := ⟨_, rfl, State.luxStep_pending _ _ _ _ luxAnd_keeps_pending⟩
theorem execOr_pending (u : Nat) (f : Fields) (s : State) :
    ∃ t, execOr u f s = .next t ∧ t.pending = s.pending := ⟨_, rfl, State.luxStep_pending _ _ _ _ luxOr_keeps_pending⟩
theorem execXor_pending (u : Nat) (f : Fields) (s : State) :
    ∃ t, execXor u f s = .next t ∧ t.pending = s.pending := ⟨_, rfl, State.luxStep_pending _ _ _ _ luxXor_keeps_pending⟩
theorem execShl_pending (u : Nat) (f : Fields) (s : State) :
    ∃ t, execShl u f s = .next t ∧ t.pending = s.pending := ⟨_, rfl, State.luxStep_pending _ _ _ _ luxShl_keeps_pending⟩
theorem execShr_pending (u : Nat) (f : Fields) (s : State) :
    ∃ t, execShr u f s = .next t ∧ t.pending = s.pending := ⟨_, rfl, State.luxStep_pending _ _ _ _ luxShr_keeps_pending⟩
theorem execSar_pending (u : Nat) (f : Fields) (s : State) :
    ∃ t, execSar u f s = .next t ∧ t.pending = s.pending := ⟨_, rfl, State.luxStep_pending _ _ _ _ luxSar_keeps_pending⟩
theorem execMul_pending (u : Nat) (f : Fields) (s : State) :
    ∃ t, execMul u f s = .next t ∧ t.pending = s.pending := ⟨_, rfl, State.luxStep_pending _ _ _ _ luxMul_keeps_pending⟩
theorem execMulh_pending (u : Nat) (f : Fields) (s : State) :
    ∃ t, execMulh u f s = .next t ∧ t.pending = s.pending := ⟨_, rfl, State.luxStep_pending _ _ _ _ luxMulh_keeps_pending⟩
theorem execMin_pending (u : Nat) (f : Fields) (s : State) :
    ∃ t, execMin u f s = .next t ∧ t.pending = s.pending := ⟨_, rfl, State.luxStep_pending _ _ _ _ luxMin_keeps_pending⟩
theorem execMax_pending (u : Nat) (f : Fields) (s : State) :
    ∃ t, execMax u f s = .next t ∧ t.pending = s.pending := ⟨_, rfl, State.luxStep_pending _ _ _ _ luxMax_keeps_pending⟩
theorem execSlt_pending (u : Nat) (f : Fields) (s : State) :
    ∃ t, execSlt u f s = .next t ∧ t.pending = s.pending := ⟨_, rfl, State.luxStep_pending _ _ _ _ luxSlt_keeps_pending⟩
theorem execSltu_pending (u : Nat) (f : Fields) (s : State) :
    ∃ t, execSltu u f s = .next t ∧ t.pending = s.pending := ⟨_, rfl, State.luxStep_pending _ _ _ _ luxSltu_keeps_pending⟩
theorem execAddi_pending (u : Nat) (f : Fields) (s : State) :
    ∃ t, execAddi u f s = .next t ∧ t.pending = s.pending := ⟨_, rfl, State.luxStep_pending _ _ _ _ luxAddi_keeps_pending⟩
theorem execMovi_pending (u : Nat) (f : Fields) (s : State) :
    ∃ t, execMovi u f s = .next t ∧ t.pending = s.pending := ⟨_, rfl, State.luxStep_pending _ _ _ _ luxMovi_keeps_pending⟩
theorem execShli_pending (u : Nat) (f : Fields) (s : State) :
    ∃ t, execShli u f s = .next t ∧ t.pending = s.pending := ⟨_, rfl, State.luxStep_pending _ _ _ _ luxShli_keeps_pending⟩
theorem execShri_pending (u : Nat) (f : Fields) (s : State) :
    ∃ t, execShri u f s = .next t ∧ t.pending = s.pending := ⟨_, rfl, State.luxStep_pending _ _ _ _ luxShri_keeps_pending⟩
theorem execSari_pending (u : Nat) (f : Fields) (s : State) :
    ∃ t, execSari u f s = .next t ∧ t.pending = s.pending := ⟨_, rfl, State.luxStep_pending _ _ _ _ luxSari_keeps_pending⟩
theorem execAndi_pending (u : Nat) (f : Fields) (s : State) :
    ∃ t, execAndi u f s = .next t ∧ t.pending = s.pending := ⟨_, rfl, State.luxStep_pending _ _ _ _ luxAndi_keeps_pending⟩
theorem execSelz_pending (u : Nat) (f : Fields) (s : State) :
    ∃ t, execSelz u f s = .next t ∧ t.pending = s.pending := ⟨_, rfl, State.luxStep_pending _ _ _ _ luxSelz_keeps_pending⟩
theorem execAbs_pending (u : Nat) (f : Fields) (s : State) :
    ∃ t, execAbs u f s = .next t ∧ t.pending = s.pending := ⟨_, rfl, State.luxStep_pending _ _ _ _ luxAbs_keeps_pending⟩
theorem execDiv_pending (u : Nat) (f : Fields) (s : State) :
    ∃ t, execDiv u f s = .next t ∧ t.pending = s.pending := ⟨_, rfl, State.luxStep_pending _ _ _ _ luxDiv_keeps_pending⟩
theorem execDivu_pending (u : Nat) (f : Fields) (s : State) :
    ∃ t, execDivu u f s = .next t ∧ t.pending = s.pending := ⟨_, rfl, State.luxStep_pending _ _ _ _ luxDivu_keeps_pending⟩
theorem execXmov_pending (u : Nat) (f : Fields) (s : State) :
    ∃ t, execXmov u f s = .next t ∧ t.pending = s.pending := ⟨_, rfl, State.luxStep_pending _ _ _ _ luxXmov_keeps_pending⟩
theorem execXaddi_pending (u : Nat) (f : Fields) (s : State) :
    ∃ t, execXaddi u f s = .next t ∧ t.pending = s.pending := ⟨_, rfl, State.luxStep_pending _ _ _ _ luxXaddi_keeps_pending⟩
theorem execSfromx_pending (u : Nat) (f : Fields) (s : State) :
    ∃ t, execSfromx u f s = .next t ∧ t.pending = s.pending := ⟨_, rfl, State.luxStep_pending _ _ _ _ luxSfromx_keeps_pending⟩
theorem execPmov_pending (u : Nat) (f : Fields) (s : State) :
    ∃ t, execPmov u f s = .next t ∧ t.pending = s.pending := ⟨_, rfl, State.luxStep_pending _ _ _ _ luxPmov_keeps_pending⟩
theorem execPaddi_pending (u : Nat) (f : Fields) (s : State) :
    ∃ t, execPaddi u f s = .next t ∧ t.pending = s.pending := ⟨_, rfl, State.luxStep_pending _ _ _ _ luxPaddi_keeps_pending⟩
theorem execSfromp_pending (u : Nat) (f : Fields) (s : State) :
    ∃ t, execSfromp u f s = .next t ∧ t.pending = s.pending := ⟨_, rfl, State.luxStep_pending _ _ _ _ luxSfromp_keeps_pending⟩

end Sys2Proof.Machine

/-! ### Machine/LuxVector -/

namespace Sys2Proof.Machine

@[simp] theorem aeOp_keeps_pending (opc : Nat) (uses : Uses) (cost : Nat) (h : Fields → Lux → Lux) :
    ∀ (u : Nat) (f : Fields) (s : State), (((aeOp opc uses cost h).run u f s).after s).pending = s.pending := fun _ _ _ => rfl
@[simp] theorem luxLdv_keeps_pending  :
    ∀ (u : Nat) (f : Fields) (s : State), (((luxLdv).run u f s).after s).pending = s.pending := by
  intro u f s
  simp [luxLdv]
@[simp] theorem luxStv_keeps_pending  :
    ∀ (u : Nat) (f : Fields) (s : State), (((luxStv).run u f s).after s).pending = s.pending := by
  intro u f s
  simp only [luxStv]
  (repeat' split) <;> simp
@[simp] theorem luxLds_keeps_pending  :
    ∀ (u : Nat) (f : Fields) (s : State), (((luxLds).run u f s).after s).pending = s.pending := by
  intro u f s
  simp [luxLds]
@[simp] theorem luxSts_keeps_pending  :
    ∀ (u : Nat) (f : Fields) (s : State), (((luxSts).run u f s).after s).pending = s.pending := by
  intro u f s
  simp only [luxSts]
  (repeat' split) <;> simp
@[simp] theorem luxSelld_keeps_pending  :
    ∀ (u : Nat) (f : Fields) (s : State), (((luxSelld).run u f s).after s).pending = s.pending := by
  intro u f s
  simp only [luxSelld]
  (repeat' split) <;> simp
@[simp] theorem luxMacb_keeps_pending  :
    ∀ (u : Nat) (f : Fields) (s : State), (((luxMacb).run u f s).after s).pending = s.pending := by
  intro u f s
  simp [luxMacb]
@[simp] theorem luxMace_keeps_pending  :
    ∀ (u : Nat) (f : Fields) (s : State), (((luxMace).run u f s).after s).pending = s.pending := by
  intro u f s
  simp [luxMace]
@[simp] theorem luxMacr_keeps_pending  :
    ∀ (u : Nat) (f : Fields) (s : State), (((luxMacr).run u f s).after s).pending = s.pending := fun _ _ _ => rfl
@[simp] theorem luxMacrb_keeps_pending  :
    ∀ (u : Nat) (f : Fields) (s : State), (((luxMacrb).run u f s).after s).pending = s.pending := fun _ _ _ => rfl
@[simp] theorem luxAdda_keeps_pending  :
    ∀ (u : Nat) (f : Fields) (s : State), (((luxAdda).run u f s).after s).pending = s.pending := fun _ _ _ => rfl
@[simp] theorem luxMova_keeps_pending  :
    ∀ (u : Nat) (f : Fields) (s : State), (((luxMova).run u f s).after s).pending = s.pending := fun _ _ _ => rfl
@[simp] theorem luxFixv_keeps_pending  :
    ∀ (u : Nat) (f : Fields) (s : State), (((luxFixv).run u f s).after s).pending = s.pending := fun _ _ _ => rfl
@[simp] theorem luxNormv_keeps_pending  :
    ∀ (u : Nat) (f : Fields) (s : State), (((luxNormv).run u f s).after s).pending = s.pending := fun _ _ _ => rfl
@[simp] theorem luxVmov_keeps_pending  :
    ∀ (u : Nat) (f : Fields) (s : State), (((luxVmov).run u f s).after s).pending = s.pending := fun _ _ _ => rfl
@[simp] theorem luxVclamp_keeps_pending  :
    ∀ (u : Nat) (f : Fields) (s : State), (((luxVclamp).run u f s).after s).pending = s.pending := fun _ _ _ => rfl
@[simp] theorem luxVcmp_keeps_pending  :
    ∀ (u : Nat) (f : Fields) (s : State), (((luxVcmp).run u f s).after s).pending = s.pending := fun _ _ _ => rfl
@[simp] theorem luxVsel_keeps_pending  :
    ∀ (u : Nat) (f : Fields) (s : State), (((luxVsel).run u f s).after s).pending = s.pending := fun _ _ _ => rfl
@[simp] theorem luxVins_keeps_pending  :
    ∀ (u : Nat) (f : Fields) (s : State), (((luxVins).run u f s).after s).pending = s.pending := fun _ _ _ => rfl
@[simp] theorem luxVext_keeps_pending  :
    ∀ (u : Nat) (f : Fields) (s : State), (((luxVext).run u f s).after s).pending = s.pending := fun _ _ _ => rfl
@[simp] theorem luxVexp_keeps_pending  :
    ∀ (u : Nat) (f : Fields) (s : State), (((luxVexp).run u f s).after s).pending = s.pending := fun _ _ _ => rfl
@[simp] theorem luxVsete_keeps_pending  :
    ∀ (u : Nat) (f : Fields) (s : State), (((luxVsete).run u f s).after s).pending = s.pending := fun _ _ _ => rfl
@[simp] theorem luxVzero_keeps_pending  :
    ∀ (u : Nat) (f : Fields) (s : State), (((luxVzero).run u f s).after s).pending = s.pending := fun _ _ _ => rfl
@[simp] theorem luxSincos_keeps_pending  :
    ∀ (u : Nat) (f : Fields) (s : State), (((luxSincos).run u f s).after s).pending = s.pending := fun _ _ _ => rfl
@[simp] theorem luxVsqrt_keeps_pending  :
    ∀ (u : Nat) (f : Fields) (s : State), (((luxVsqrt).run u f s).after s).pending = s.pending := fun _ _ _ => rfl
@[simp] theorem luxVresc_keeps_pending  :
    ∀ (u : Nat) (f : Fields) (s : State), (((luxVresc).run u f s).after s).pending = s.pending := fun _ _ _ => rfl
@[simp] theorem luxVneg_keeps_pending  :
    ∀ (u : Nat) (f : Fields) (s : State), (((luxVneg).run u f s).after s).pending = s.pending := fun _ _ _ => rfl
theorem execLdv_pending (u : Nat) (f : Fields) (s : State) :
    ∃ t, execLdv u f s = .next t ∧ t.pending = s.pending := ⟨_, rfl, State.luxStep_pending _ _ _ _ luxLdv_keeps_pending⟩
theorem execStv_pending (u : Nat) (f : Fields) (s : State) :
    ∃ t, execStv u f s = .next t ∧ t.pending = s.pending := ⟨_, rfl, State.luxStep_pending _ _ _ _ luxStv_keeps_pending⟩
theorem execLds_pending (u : Nat) (f : Fields) (s : State) :
    ∃ t, execLds u f s = .next t ∧ t.pending = s.pending := ⟨_, rfl, State.luxStep_pending _ _ _ _ luxLds_keeps_pending⟩
theorem execSts_pending (u : Nat) (f : Fields) (s : State) :
    ∃ t, execSts u f s = .next t ∧ t.pending = s.pending := ⟨_, rfl, State.luxStep_pending _ _ _ _ luxSts_keeps_pending⟩
theorem execSelld_pending (u : Nat) (f : Fields) (s : State) :
    ∃ t, execSelld u f s = .next t ∧ t.pending = s.pending := ⟨_, rfl, State.luxStep_pending _ _ _ _ luxSelld_keeps_pending⟩
theorem execMacb_pending (u : Nat) (f : Fields) (s : State) :
    ∃ t, execMacb u f s = .next t ∧ t.pending = s.pending := ⟨_, rfl, State.luxStep_pending _ _ _ _ luxMacb_keeps_pending⟩
theorem execMace_pending (u : Nat) (f : Fields) (s : State) :
    ∃ t, execMace u f s = .next t ∧ t.pending = s.pending := ⟨_, rfl, State.luxStep_pending _ _ _ _ luxMace_keeps_pending⟩
theorem execMacr_pending (u : Nat) (f : Fields) (s : State) :
    ∃ t, execMacr u f s = .next t ∧ t.pending = s.pending := ⟨_, rfl, State.luxStep_pending _ _ _ _ luxMacr_keeps_pending⟩
theorem execMacrb_pending (u : Nat) (f : Fields) (s : State) :
    ∃ t, execMacrb u f s = .next t ∧ t.pending = s.pending := ⟨_, rfl, State.luxStep_pending _ _ _ _ luxMacrb_keeps_pending⟩
theorem execAdda_pending (u : Nat) (f : Fields) (s : State) :
    ∃ t, execAdda u f s = .next t ∧ t.pending = s.pending := ⟨_, rfl, State.luxStep_pending _ _ _ _ luxAdda_keeps_pending⟩
theorem execMova_pending (u : Nat) (f : Fields) (s : State) :
    ∃ t, execMova u f s = .next t ∧ t.pending = s.pending := ⟨_, rfl, State.luxStep_pending _ _ _ _ luxMova_keeps_pending⟩
theorem execFixv_pending (u : Nat) (f : Fields) (s : State) :
    ∃ t, execFixv u f s = .next t ∧ t.pending = s.pending := ⟨_, rfl, State.luxStep_pending _ _ _ _ luxFixv_keeps_pending⟩
theorem execNormv_pending (u : Nat) (f : Fields) (s : State) :
    ∃ t, execNormv u f s = .next t ∧ t.pending = s.pending := ⟨_, rfl, State.luxStep_pending _ _ _ _ luxNormv_keeps_pending⟩
theorem execVmov_pending (u : Nat) (f : Fields) (s : State) :
    ∃ t, execVmov u f s = .next t ∧ t.pending = s.pending := ⟨_, rfl, State.luxStep_pending _ _ _ _ luxVmov_keeps_pending⟩
theorem execVclamp_pending (u : Nat) (f : Fields) (s : State) :
    ∃ t, execVclamp u f s = .next t ∧ t.pending = s.pending := ⟨_, rfl, State.luxStep_pending _ _ _ _ luxVclamp_keeps_pending⟩
theorem execVcmp_pending (u : Nat) (f : Fields) (s : State) :
    ∃ t, execVcmp u f s = .next t ∧ t.pending = s.pending := ⟨_, rfl, State.luxStep_pending _ _ _ _ luxVcmp_keeps_pending⟩
theorem execVsel_pending (u : Nat) (f : Fields) (s : State) :
    ∃ t, execVsel u f s = .next t ∧ t.pending = s.pending := ⟨_, rfl, State.luxStep_pending _ _ _ _ luxVsel_keeps_pending⟩
theorem execVins_pending (u : Nat) (f : Fields) (s : State) :
    ∃ t, execVins u f s = .next t ∧ t.pending = s.pending := ⟨_, rfl, State.luxStep_pending _ _ _ _ luxVins_keeps_pending⟩
theorem execVext_pending (u : Nat) (f : Fields) (s : State) :
    ∃ t, execVext u f s = .next t ∧ t.pending = s.pending := ⟨_, rfl, State.luxStep_pending _ _ _ _ luxVext_keeps_pending⟩
theorem execVexp_pending (u : Nat) (f : Fields) (s : State) :
    ∃ t, execVexp u f s = .next t ∧ t.pending = s.pending := ⟨_, rfl, State.luxStep_pending _ _ _ _ luxVexp_keeps_pending⟩
theorem execVsete_pending (u : Nat) (f : Fields) (s : State) :
    ∃ t, execVsete u f s = .next t ∧ t.pending = s.pending := ⟨_, rfl, State.luxStep_pending _ _ _ _ luxVsete_keeps_pending⟩
theorem execVzero_pending (u : Nat) (f : Fields) (s : State) :
    ∃ t, execVzero u f s = .next t ∧ t.pending = s.pending := ⟨_, rfl, State.luxStep_pending _ _ _ _ luxVzero_keeps_pending⟩
theorem execSincos_pending (u : Nat) (f : Fields) (s : State) :
    ∃ t, execSincos u f s = .next t ∧ t.pending = s.pending := ⟨_, rfl, State.luxStep_pending _ _ _ _ luxSincos_keeps_pending⟩
theorem execVsqrt_pending (u : Nat) (f : Fields) (s : State) :
    ∃ t, execVsqrt u f s = .next t ∧ t.pending = s.pending := ⟨_, rfl, State.luxStep_pending _ _ _ _ luxVsqrt_keeps_pending⟩
theorem execVresc_pending (u : Nat) (f : Fields) (s : State) :
    ∃ t, execVresc u f s = .next t ∧ t.pending = s.pending := ⟨_, rfl, State.luxStep_pending _ _ _ _ luxVresc_keeps_pending⟩
theorem execVneg_pending (u : Nat) (f : Fields) (s : State) :
    ∃ t, execVneg u f s = .next t ∧ t.pending = s.pending := ⟨_, rfl, State.luxStep_pending _ _ _ _ luxVneg_keeps_pending⟩

end Sys2Proof.Machine

/-! ### Machine/LuxDsp -/

namespace Sys2Proof.Machine

@[simp] theorem State.section__pending (s : State) (u b : Nat) (x : Lanes (BitVec 24)) :
    (State.section_ s u b x).2.1.pending = s.pending := by
  simp [State.section_]
@[simp] theorem State.cascade_pending (s : State) (u b : Nat) (x : Lanes (BitVec 24))
    (z0 : Nat) : (State.cascade s u b x z0).2.1.pending = s.pending := by
  induction z0 with
  | zero => simp [State.cascade]
  | succ n ih => simp [State.cascade, ih]
@[simp] theorem luxBiq_keeps_pending  :
    ∀ (u : Nat) (f : Fields) (s : State), (((luxBiq).run u f s).after s).pending = s.pending := by
  intro u f s
  simp only [luxBiq]
  (repeat' split) <;> simp
@[simp] theorem luxFir_keeps_pending  :
    ∀ (u : Nat) (f : Fields) (s : State), (((luxFir).run u f s).after s).pending = s.pending := by
  intro u f s
  simp only [luxFir]
  (repeat' split) <;> simp
@[simp] theorem State.storePoints_pending (s : State) (u : Nat) (e : BitVec 8) (z0 : Nat) (z1 : Nat)
    (z2 : List Cpx) : (State.storePoints s u e z0 z1 z2).pending = s.pending := by
  induction z0 generalizing s z1 z2 with
  | zero => simp [State.storePoints]
  | succ n ih => simp [State.storePoints, ih]
@[simp] theorem luxFft_keeps_pending  :
    ∀ (u : Nat) (f : Fields) (s : State), (((luxFft).run u f s).after s).pending = s.pending := by
  intro u f s
  simp only [luxFft]
  (repeat' split) <;> simp
theorem execBiq_pending (u : Nat) (f : Fields) (s : State) :
    ∃ t, execBiq u f s = .next t ∧ t.pending = s.pending := ⟨_, rfl, State.luxStep_pending _ _ _ _ luxBiq_keeps_pending⟩
theorem execFir_pending (u : Nat) (f : Fields) (s : State) :
    ∃ t, execFir u f s = .next t ∧ t.pending = s.pending := ⟨_, rfl, State.luxStep_pending _ _ _ _ luxFir_keeps_pending⟩
theorem execFft_pending (u : Nat) (f : Fields) (s : State) :
    ∃ t, execFft u f s = .next t ∧ t.pending = s.pending := ⟨_, rfl, State.luxStep_pending _ _ _ _ luxFft_keeps_pending⟩

end Sys2Proof.Machine

/-! ### Machine/GovOps -/

namespace Sys2Proof.Machine

@[simp] theorem State.logOther_pending (s : State) (origin off value : Nat) :
    (State.logOther s origin off value).pending = s.pending := by
  simp [State.logOther]
@[simp] theorem State.closeInterval_pending (s : State) (energy : Nat) (temps : List Int) :
    (State.closeInterval s energy temps).pending = s.pending := by
  simp [State.closeInterval]
@[simp] theorem cmdGovCommit_pending (s : State) : (cmdGovCommit s).2.pending = s.pending := rfl
@[simp] theorem State.govClear_pending (s : State) : (State.govClear s).pending = s.pending := rfl

end Sys2Proof.Machine

/-! ### Machine/RegMask -/

namespace Sys2Proof.Machine

@[simp] theorem State.markStaged_pending (s : State) (off : Nat) :
    (State.markStaged s off).pending = s.pending := by
  simp [State.markStaged]

end Sys2Proof.Machine

/-! ### Machine/RegRead -/

namespace Sys2Proof.Machine

@[simp] theorem State.setRing_pending (s : State) (r : Nat) (x : Ring) : (State.setRing s r x).pending = s.pending := rfl
@[simp] theorem State.setCmp_pending (s : State) (k : Nat) (x : Cmp) : (State.setCmp s k x).pending = s.pending := rfl
@[simp] theorem State.setEvio_pending (s : State) (p : Nat) (x : Evio) : (State.setEvio s p x).pending = s.pending := rfl
@[simp] theorem State.setTrg_pending (s : State) (u : Nat) (x : Trg) : (State.setTrg s u x).pending = s.pending := rfl
@[simp] theorem State.setPriv_pending (s : State) (b : Nat) (x : Priv) : (State.setPriv s b x).pending = s.pending := rfl
@[simp] theorem State.setBw_pending (s : State) (m : Nat) (x : Bw) : (State.setBw s m x).pending = s.pending := rfl
@[simp] theorem State.setMbox_pending (s : State) (k : Nat) (x : Mbox) : (State.setMbox s k x).pending = s.pending := rfl

end Sys2Proof.Machine

/-! ### Machine/SafeOps -/

namespace Sys2Proof.Machine

@[simp] theorem State.switchOutputs_pending (s : State) :
    (State.switchOutputs s).pending = s.pending := by
  simp [State.switchOutputs]
@[simp] theorem State.safetySample_pending (s : State) (sins souts brks : Nat) (currents : List Nat) :
    (State.safetySample s sins souts brks currents).pending = s.pending := by
  simp [State.safetySample]
@[simp] theorem State.safetyReactions_pending (s : State) : (State.safetyReactions s).pending = s.pending := by
  simp only [State.safetyReactions]
  rw [foldl_pending, foldl_pending]
  · intro s x; (repeat' split) <;> simp
  · intro s x; simp
@[simp] theorem State.upContainer_pending (s : State) (r n : Nat) (c : Option (List Byte)) :
    (State.upContainer s r n c).pending = s.pending := by
  unfold State.upContainer
  dsimp only
  (repeat' split) <;> simp

end Sys2Proof.Machine

/-! ### Machine/RingSend -/

namespace Sys2Proof.Machine

@[simp] theorem State.countStale_pending (s : State) (target : Nat) :
    (State.countStale s target).pending = s.pending := by
  simp [State.countStale]
@[simp] theorem State.releaseOne_pending (s : State) (r n slot : Nat) (rel : Release) :
    (State.releaseOne s r n slot rel).pending = s.pending := by
  unfold State.releaseOne
  (repeat' split) <;> simp
@[simp] theorem State.sendDown_pending (s : State) (r : Nat) : (State.sendDown s r).pending = s.pending := rfl
@[simp] theorem State.sendAcyclic_pending (s : State) (r : Nat) :
    (State.sendAcyclic s r).pending = s.pending := by
  unfold State.sendAcyclic
  dsimp only
  (repeat' split) <;> simp
@[simp] theorem State.releaseRing_pending (s : State) (r : Nat) (rel : Release) :
    (State.releaseRing s r rel).pending = s.pending := by
  simp [State.releaseRing]
@[simp] theorem State.releaseRates_pending (s : State) (rel : Release) :
    (State.releaseRates s rel).pending = s.pending := by
  simp [State.releaseRates]

end Sys2Proof.Machine

/-! ### Machine/Mailbox -/

namespace Sys2Proof.Machine

@[simp] theorem State.capture_pending (s : State) (sel : Nat) :
    (State.capture s sel).2.pending = s.pending := by
  simp [State.capture]
@[simp] theorem State.selectMailbox_pending (s : State) (k sel : Nat) :
    (State.selectMailbox s k sel).pending = s.pending := by
  simp [State.selectMailbox]
@[simp] theorem State.completeCapture_pending (s : State) (k : Nat) :
    (State.completeCapture s k).pending = s.pending := by
  simp [State.completeCapture]

end Sys2Proof.Machine

/-! ### Machine/RegWrite -/

namespace Sys2Proof.Machine

@[simp] theorem State.clearPlain_pending (s : State) (off : Nat) (w : Word) :
    (State.clearPlain s off w).pending = s.pending := by
  unfold State.clearPlain
  (repeat' split) <;> simp
@[simp] theorem State.clearFlags_pending (s : State) (off : Nat) (w : Word) :
    (State.clearFlags s off w).pending = s.pending := by
  simp [State.clearFlags]
@[simp] theorem State.plainEffect_pending (s : State) (off : Nat) (w : Word) :
    (State.plainEffect s off w).pending = s.pending := by
  simp [State.plainEffect]
@[simp] theorem State.sendEvio_pending (s : State) (p reg : Nat) (push : Bool) (w target : Word) :
    (State.sendEvio s p reg push w target).pending = s.pending := by
  simp [State.sendEvio]
@[simp] theorem State.writeEvio_pending (s : State) (agent p o : Nat) (w : Word) :
    (State.writeEvio s agent p o w).pending = s.pending := by
  unfold State.writeEvio
  (repeat' split) <;> simp
@[simp] theorem State.writeCmp_pending (s : State) (k o : Nat) (w : Word) :
    (State.writeCmp s k o w).pending = s.pending := by
  unfold State.writeCmp
  (repeat' split) <;> simp
@[simp] theorem State.pulse_pending (s : State) (off : Nat) (w : Word) :
    (State.pulse s off w).pending = s.pending := by
  simp [State.pulse]
@[simp] theorem State.writeOther_pending (s : State) (agent off : Nat) (w : Word) :
    (State.writeOther s agent off w).pending = s.pending := by
  simp [State.writeOther]
@[simp] theorem State.deny_pending (s : State) (off : Nat) : (State.deny s off).pending = s.pending := rfl
@[simp] theorem State.writeLk_pending (s : State) (agent off : Nat) (m : Mask) (w : Word) (locked : Bool) :
    (State.writeLk s agent off m w locked).pending = s.pending := by
  simp [State.writeLk]
@[simp] theorem State.writeStaged_pending (s : State) (agent off : Nat) (m : Mask) (w : Word) (locked : Bool) :
    (State.writeStaged s agent off m w locked).pending = s.pending := by
  simp [State.writeStaged]
@[simp] theorem State.writePlain_pending (s : State) (off : Nat) (m : Mask) (w : Word) :
    (State.writePlain s off m w).pending = s.pending := by
  simp [State.writePlain]
@[simp] theorem State.writeReg_pending (s : State) (agent off : Nat) (w : Word) :
    (State.writeReg s agent off w).1.pending = s.pending := by
  unfold State.writeReg
  (repeat' split) <;> simp
@[simp] theorem State.readBy_pending (s : State) (agent off : Nat) :
    (State.readBy s agent off).2.1.pending = s.pending := by
  simp [State.readBy]
@[simp] theorem State.applyLk_pending (s : State) (p : LkPend) :
    (State.applyLk s p).pending = s.pending := by
  unfold State.applyLk
  dsimp only
  (repeat' split) <;> simp

end Sys2Proof.Machine

/-! ### Machine/LuxSoft -/

namespace Sys2Proof.Machine

@[simp] theorem branchOp_keeps_pending (opc : Nat) (test : Word → Word → Bool) :
    ∀ (u : Nat) (f : Fields) (s : State), (((branchOp opc test).run u f s).after s).pending = s.pending := by
  intro u f s
  simp [branchOp]
@[simp] theorem luxBeq_keeps_pending  :
    ∀ (u : Nat) (f : Fields) (s : State), (((luxBeq).run u f s).after s).pending = s.pending := by
  intro u f s
  simp [luxBeq]
@[simp] theorem luxBne_keeps_pending  :
    ∀ (u : Nat) (f : Fields) (s : State), (((luxBne).run u f s).after s).pending = s.pending := by
  intro u f s
  simp [luxBne]
@[simp] theorem luxBlt_keeps_pending  :
    ∀ (u : Nat) (f : Fields) (s : State), (((luxBlt).run u f s).after s).pending = s.pending := by
  intro u f s
  simp [luxBlt]
@[simp] theorem luxBge_keeps_pending  :
    ∀ (u : Nat) (f : Fields) (s : State), (((luxBge).run u f s).after s).pending = s.pending := by
  intro u f s
  simp [luxBge]
@[simp] theorem luxBltu_keeps_pending  :
    ∀ (u : Nat) (f : Fields) (s : State), (((luxBltu).run u f s).after s).pending = s.pending := by
  intro u f s
  simp [luxBltu]
@[simp] theorem luxBgeu_keeps_pending  :
    ∀ (u : Nat) (f : Fields) (s : State), (((luxBgeu).run u f s).after s).pending = s.pending := by
  intro u f s
  simp [luxBgeu]
@[simp] theorem luxJal_keeps_pending  :
    ∀ (u : Nat) (f : Fields) (s : State), (((luxJal).run u f s).after s).pending = s.pending := fun _ _ _ => rfl
@[simp] theorem luxJr_keeps_pending  :
    ∀ (u : Nat) (f : Fields) (s : State), (((luxJr).run u f s).after s).pending = s.pending := by
  intro u f s
  simp [luxJr]
@[simp] theorem luxLdw_keeps_pending  :
    ∀ (u : Nat) (f : Fields) (s : State), (((luxLdw).run u f s).after s).pending = s.pending := by
  intro u f s
  simp [luxLdw, softMem]
@[simp] theorem luxStw_keeps_pending  :
    ∀ (u : Nat) (f : Fields) (s : State), (((luxStw).run u f s).after s).pending = s.pending := by
  intro u f s
  simp [luxStw, softMem]
@[simp] theorem luxLdbu_keeps_pending  :
    ∀ (u : Nat) (f : Fields) (s : State), (((luxLdbu).run u f s).after s).pending = s.pending := by
  intro u f s
  simp [luxLdbu, softMem]
@[simp] theorem luxStb_keeps_pending  :
    ∀ (u : Nat) (f : Fields) (s : State), (((luxStb).run u f s).after s).pending = s.pending := by
  intro u f s
  simp [luxStb, softMem]
@[simp] theorem luxLdd_keeps_pending  : ∀ (u : Nat) (f : Fields) (s : State),
    (((luxLdd).run u f s).after s).pending = s.pending := by
  intro u f s
  simp only [luxLdd, softMem]
  split
  · rfl
  · simp
@[simp] theorem luxStd_keeps_pending  : ∀ (u : Nat) (f : Fields) (s : State),
    (((luxStd).run u f s).after s).pending = s.pending := by
  intro u f s
  simp only [luxStd, softMem]
  split
  · rfl
  · simp
@[simp] theorem luxAmoadd_keeps_pending  : ∀ (u : Nat) (f : Fields) (s : State),
    (((luxAmoadd).run u f s).after s).pending = s.pending := by
  intro u f s
  simp only [luxAmoadd]
  split
  · rename_i r hr; rw [State.sCheck_after _ _ _ _ _ _ hr]
  · simp only [LuxRes.ite_after, ite_pending]
    split <;> simp
@[simp] theorem luxRgr_keeps_pending  :
    ∀ (u : Nat) (f : Fields) (s : State), (((luxRgr).run u f s).after s).pending = s.pending := by
  intro u f s
  simp [luxRgr]
@[simp] theorem luxRgw_keeps_pending  :
    ∀ (u : Nat) (f : Fields) (s : State), (((luxRgw).run u f s).after s).pending = s.pending := by
  intro u f s
  simp [luxRgw]
@[simp] theorem luxTend_keeps_pending  :
    ∀ (u : Nat) (f : Fields) (s : State), (((luxTend).run u f s).after s).pending = s.pending := by
  intro u f s
  simp [luxTend]
@[simp] theorem luxTpost_keeps_pending  :
    ∀ (u : Nat) (f : Fields) (s : State), (((luxTpost).run u f s).after s).pending = s.pending := by
  intro u f s
  simp [luxTpost]
@[simp] theorem luxTdly_keeps_pending  :
    ∀ (u : Nat) (f : Fields) (s : State), (((luxTdly).run u f s).after s).pending = s.pending := by
  intro u f s
  simp [luxTdly]
@[simp] theorem luxFlt_keeps_pending  :
    ∀ (u : Nat) (f : Fields) (s : State), (((luxFlt).run u f s).after s).pending = s.pending := by
  intro u f s
  simp only [luxFlt]
  split <;> simp [LuxRes.after]
theorem execBeq_pending (u : Nat) (f : Fields) (s : State) :
    ∃ t, execBeq u f s = .next t ∧ t.pending = s.pending := ⟨_, rfl, State.luxStep_pending _ _ _ _ luxBeq_keeps_pending⟩
theorem execBne_pending (u : Nat) (f : Fields) (s : State) :
    ∃ t, execBne u f s = .next t ∧ t.pending = s.pending := ⟨_, rfl, State.luxStep_pending _ _ _ _ luxBne_keeps_pending⟩
theorem execBlt_pending (u : Nat) (f : Fields) (s : State) :
    ∃ t, execBlt u f s = .next t ∧ t.pending = s.pending := ⟨_, rfl, State.luxStep_pending _ _ _ _ luxBlt_keeps_pending⟩
theorem execBge_pending (u : Nat) (f : Fields) (s : State) :
    ∃ t, execBge u f s = .next t ∧ t.pending = s.pending := ⟨_, rfl, State.luxStep_pending _ _ _ _ luxBge_keeps_pending⟩
theorem execBltu_pending (u : Nat) (f : Fields) (s : State) :
    ∃ t, execBltu u f s = .next t ∧ t.pending = s.pending := ⟨_, rfl, State.luxStep_pending _ _ _ _ luxBltu_keeps_pending⟩
theorem execBgeu_pending (u : Nat) (f : Fields) (s : State) :
    ∃ t, execBgeu u f s = .next t ∧ t.pending = s.pending := ⟨_, rfl, State.luxStep_pending _ _ _ _ luxBgeu_keeps_pending⟩
theorem execJal_pending (u : Nat) (f : Fields) (s : State) :
    ∃ t, execJal u f s = .next t ∧ t.pending = s.pending := ⟨_, rfl, State.luxStep_pending _ _ _ _ luxJal_keeps_pending⟩
theorem execJr_pending (u : Nat) (f : Fields) (s : State) :
    ∃ t, execJr u f s = .next t ∧ t.pending = s.pending := ⟨_, rfl, State.luxStep_pending _ _ _ _ luxJr_keeps_pending⟩
theorem execLdw_pending (u : Nat) (f : Fields) (s : State) :
    ∃ t, execLdw u f s = .next t ∧ t.pending = s.pending := ⟨_, rfl, State.luxStep_pending _ _ _ _ luxLdw_keeps_pending⟩
theorem execStw_pending (u : Nat) (f : Fields) (s : State) :
    ∃ t, execStw u f s = .next t ∧ t.pending = s.pending := ⟨_, rfl, State.luxStep_pending _ _ _ _ luxStw_keeps_pending⟩
theorem execLdbu_pending (u : Nat) (f : Fields) (s : State) :
    ∃ t, execLdbu u f s = .next t ∧ t.pending = s.pending := ⟨_, rfl, State.luxStep_pending _ _ _ _ luxLdbu_keeps_pending⟩
theorem execStb_pending (u : Nat) (f : Fields) (s : State) :
    ∃ t, execStb u f s = .next t ∧ t.pending = s.pending := ⟨_, rfl, State.luxStep_pending _ _ _ _ luxStb_keeps_pending⟩
theorem execLdd_pending (u : Nat) (f : Fields) (s : State) :
    ∃ t, execLdd u f s = .next t ∧ t.pending = s.pending := ⟨_, rfl, State.luxStep_pending _ _ _ _ luxLdd_keeps_pending⟩
theorem execStd_pending (u : Nat) (f : Fields) (s : State) :
    ∃ t, execStd u f s = .next t ∧ t.pending = s.pending := ⟨_, rfl, State.luxStep_pending _ _ _ _ luxStd_keeps_pending⟩
theorem execAmoadd_pending (u : Nat) (f : Fields) (s : State) :
    ∃ t, execAmoadd u f s = .next t ∧ t.pending = s.pending := ⟨_, rfl, State.luxStep_pending _ _ _ _ luxAmoadd_keeps_pending⟩
theorem execRgr_pending (u : Nat) (f : Fields) (s : State) :
    ∃ t, execRgr u f s = .next t ∧ t.pending = s.pending := ⟨_, rfl, State.luxStep_pending _ _ _ _ luxRgr_keeps_pending⟩
theorem execRgw_pending (u : Nat) (f : Fields) (s : State) :
    ∃ t, execRgw u f s = .next t ∧ t.pending = s.pending := ⟨_, rfl, State.luxStep_pending _ _ _ _ luxRgw_keeps_pending⟩
theorem execTend_pending (u : Nat) (f : Fields) (s : State) :
    ∃ t, execTend u f s = .next t ∧ t.pending = s.pending := ⟨_, rfl, State.luxStep_pending _ _ _ _ luxTend_keeps_pending⟩
theorem execTpost_pending (u : Nat) (f : Fields) (s : State) :
    ∃ t, execTpost u f s = .next t ∧ t.pending = s.pending := ⟨_, rfl, State.luxStep_pending _ _ _ _ luxTpost_keeps_pending⟩
theorem execTdly_pending (u : Nat) (f : Fields) (s : State) :
    ∃ t, execTdly u f s = .next t ∧ t.pending = s.pending := ⟨_, rfl, State.luxStep_pending _ _ _ _ luxTdly_keeps_pending⟩
theorem execFlt_pending (u : Nat) (f : Fields) (s : State) :
    ∃ t, execFlt u f s = .next t ∧ t.pending = s.pending := ⟨_, rfl, State.luxStep_pending _ _ _ _ luxFlt_keeps_pending⟩

end Sys2Proof.Machine

/-! ### Machine/LuxRun -/

namespace Sys2Proof.Machine

/-- Every instruction of the set keeps it. -/
theorem luxOps_keeps_pending : ∀ o ∈ luxOps, ∀ (u : Nat) (f : Fields) (s : State), ((o.run u f s).after s).pending = s.pending := by
  simp [luxOps, luxScalarOps, luxVectorOps, luxSoftOps]

theorem luxOpOf_keeps_pending (u opc : Nat) (o : LuxOp) (h : luxOpOf u opc = some o) :
    ∀ (u : Nat) (f : Fields) (s : State), ((o.run u f s).after s).pending = s.pending :=
  luxOps_keeps_pending o (List.mem_of_find?_eq_some h)

@[simp] theorem State.runBlock_pending (u budget : Nat) (z0 : Nat)
    (z1 : State) : (State.runBlock u budget z0 z1).pending = z1.pending := by
  induction z0 generalizing z1 with
  | zero => rfl
  | succ n ih =>
    simp only [State.runBlock]
    split
    · rfl
    · split
      · simp
      · split
        · simp
        · rename_i o ho
          rw [ite_pending, ih, State.luxStep_pending _ _ _ _ (luxOpOf_keeps_pending _ _ _ ho), ite_self]
@[simp] theorem State.startBlock_pending (s : State) (u off : Nat) : (State.startBlock s u off).pending = s.pending := rfl
@[simp] theorem State.illegalWord_pending (s : State) (u : Nat) (w : U64) : (State.illegalWord s u w).pending = s.pending := by
  simp only [State.illegalWord]
  split
  · rfl
  · split
    · simp
    · split
      · split <;> simp
      · rename_i o ho
        split
        · simp [State.luxRun_pending _ _ _ _ (luxOpOf_keeps_pending _ _ _ ho)]
        · rfl
theorem execIllegalInstruction_pending (u : Nat) (word : U64) (s : State) :
    ∃ t, execIllegalInstruction u word s = .next t ∧ t.pending = s.pending := ⟨_, rfl, by simp⟩

end Sys2Proof.Machine

/-! ### Machine/RingRows -/

namespace Sys2Proof.Machine

@[simp] theorem State.holdDisabled_pending (s : State) : (State.holdDisabled s).pending = s.pending := by simp [State.holdDisabled]
@[simp] theorem State.driveEvios_pending (s : State) : (State.driveEvios s).pending = s.pending := rfl
@[simp] theorem State.takeRole_pending (s : State) (role : Nat) :
    (State.takeRole s role).pending = s.pending := by
  simp [State.takeRole]
@[simp] theorem State.cfgFault_pending (s : State) (code : Nat) :
    (State.cfgFault s code).pending = s.pending := by
  simp [State.cfgFault]
@[simp] theorem State.until_pending (s : State) (arrival : Nat) : (State.until s arrival).pending = s.pending := rfl
@[simp] theorem State.portCount_pending (s : State) (event r port : Nat) :
    (State.portCount s event r port).pending = s.pending := by
  simp [State.portCount]
@[simp] theorem State.badCheck_pending (s : State) (r port : Nat) :
    (State.badCheck s r port).pending = s.pending := by
  simp [State.badCheck]
@[simp] theorem State.folded_pending (s : State) (r : Nat) (bs : List Byte) : (State.folded s r bs).pending = s.pending := rfl
@[simp] theorem State.ownHeader_pending (s : State) (r port arrival : Nat) (bs : List Byte) (cold : Bool) :
    (State.ownHeader s r port arrival bs cold).pending = s.pending := by
  simp [State.ownHeader]
@[simp] theorem State.shiftTime_pending (s : State) (d : Int) :
    (State.shiftTime s d).pending = s.pending := by simp [State.shiftTime]
@[simp] theorem State.keepHeader_pending (s : State) (r port : Nat) (bs : List Byte) :
    (State.keepHeader s r port bs).pending = s.pending := by
  unfold State.keepHeader
  (repeat' split) <;> simp
@[simp] theorem State.lockToHead_pending (s : State) (r port : Nat) (bs : List Byte) :
    (State.lockToHead s r port bs).pending = s.pending := by
  simp [State.lockToHead]
@[simp] theorem State.memberHeader_pending (s : State) (r port : Nat) (bs : List Byte) (cold : Bool) :
    (State.memberHeader s r port bs cold).pending = s.pending := by
  simp [State.memberHeader]
@[simp] theorem State.peerHeader_pending (s : State) (r port : Nat) (bs : List Byte) (cold : Bool) :
    (State.peerHeader s r port bs cold).pending = s.pending := by
  unfold State.peerHeader
  (try dsimp only)
  (repeat' split) <;> simp
@[simp] theorem State.foreignHeader_pending (s : State) (r : Nat) :
    (State.foreignHeader s r).pending = s.pending := by
  unfold State.foreignHeader
  (try dsimp only)
  (repeat' split) <;> simp
@[simp] theorem State.header_pending (s : State) (r port : Nat) (bs : List Byte) (arrival : Nat) (cold : Bool) :
    (State.header s r port bs arrival cold).pending = s.pending := by
  unfold State.header
  (try dsimp only)
  (repeat' split) <;> simp
@[simp] theorem State.carry_pending (s : State) (r port : Nat) (bs : List Byte) :
    (State.carry s r port bs).pending = s.pending := by
  unfold State.carry
  (repeat' split) <;> simp
@[simp] theorem State.takeCopy_pending (s : State) (r n : Nat) (laneY ok : Bool) (off : Int) (bs : List Byte) :
    (State.takeCopy s r n laneY ok off bs).pending = s.pending := rfl
@[simp] theorem State.barge_pending (s : State) (r port : Nat) (bs : List Byte) (arrival : Nat) :
    (State.barge s r port bs arrival).pending = s.pending := by
  simp [State.barge]
@[simp] theorem State.upEntryStep_pending (s : State) (hit : List Nat) (r n slot : Nat) :
    (State.upEntryStep s hit r n slot).pending = s.pending := by
  unfold State.upEntryStep
  dsimp only
  (repeat' split) <;> simp
@[simp] theorem State.remoteStep_pending (s : State) (r n slot i : Nat) :
    (State.remoteStep s r n slot i).pending = s.pending := by
  simp [State.remoteStep]
@[simp] theorem State.horizonBooks_pending (s : State) (r n : Nat) (v : RNode) (guard : Nat) :
    (State.horizonBooks s r n v guard).pending = s.pending := by
  simp [State.horizonBooks]
@[simp] theorem State.seeDiverge_pending (s : State) (r : Nat) (used : Option RxBarge) :
    (State.seeDiverge s r used).pending = s.pending := by
  unfold State.seeDiverge
  (repeat' split) <;> simp
@[simp] theorem State.horizonData_pending (s : State) (hit : List Nat) (r n : Nat) (used : Option RxBarge) :
    (State.horizonData s hit r n used).pending = s.pending := by
  simp only [State.horizonData]
  rw [foldl_pending, State.upContainer_pending, foldl_pending]
  · intro s x; simp
  · intro s x; split <;> simp
@[simp] theorem State.nodeHorizon_pending (s : State) (hit : List Nat) (r n : Nat) :
    (State.nodeHorizon s hit r n).pending = s.pending := by
  simp [State.nodeHorizon]
@[simp] theorem State.grants_pending (s : State) (r : Nat) : (State.grants s r).pending = s.pending := rfl
@[simp] theorem State.queueFrame_pending (s : State) (link : Nat) (bs : List Byte) :
    (State.queueFrame s link bs).pending = s.pending := by
  simp [State.queueFrame]
@[simp] theorem State.installLocal_pending (s : State) (c : LocalChan) :
    (State.installLocal s c).pending = s.pending := by
  simp [State.installLocal]
@[simp] theorem State.installSerial_pending (s : State) (c : LocalChan) :
    (State.installSerial s c).pending = s.pending := by
  simp [State.installSerial]
@[simp] theorem State.installLocals_pending (s : State) : (State.installLocals s).pending = s.pending := by
  simp only [State.installLocals]
  rw [foldl_pending]
  · split
    · rw [foldl_pending]
      · split
        · rw [foldl_pending]; intro s x; simp
        · rfl
      · intro s x; simp
    · split
      · rw [foldl_pending]; intro s x; simp
      · rfl
  · intro s x; simp
@[simp] theorem State.sendLedger_pending (s : State) :
    (State.sendLedger s).pending = s.pending := by
  simp [State.sendLedger]
@[simp] theorem State.ringInHorizon_pending (s : State) :
    (State.ringInHorizon s).pending = s.pending := by
  unfold State.ringInHorizon
  dsimp only
  have h : ∀ (hit : List Nat) (s0 : State) (r : Nat),
      (if !s0.ringInUse r then s0
        else
          let t := (List.range (s0.nNodes r)).foldl (fun s j => s.nodeHorizon hit r (j + 1)) s0
          if t.rope.role = 1 ∨ t.rope.role = 2 then t.grants r else t).pending = s0.pending := by
    intro hit s0 r
    dsimp only
    split
    · rfl
    · split
      · rw [State.grants_pending]; exact foldl_pending _ _ _ (fun _ _ => State.nodeHorizon_pending _ _ _ _)
      · exact foldl_pending _ _ _ (fun _ _ => State.nodeHorizon_pending _ _ _ _)
  split
  · rfl
  · split
    · rw [State.sendLedger_pending]; exact foldl_pending _ _ _ (fun s0 r => h _ s0 r)
    · split
      · rw [State.installLocals_pending]; exact foldl_pending _ _ _ (fun s0 r => h _ s0 r)
      · exact foldl_pending _ _ _ (fun s0 r => h _ s0 r)
@[simp] theorem State.edgeLimitReached_pending (s : State) (r n : Nat) :
    (State.edgeLimitReached s r n).pending = s.pending := by
  simp [State.edgeLimitReached]
@[simp] theorem State.joinCountReached_pending (s : State) (r n : Nat) :
    (State.joinCountReached s r n).pending = s.pending := by
  simp [State.joinCountReached]
@[simp] theorem State.bargeAbsence_pending (s : State) (r n : Nat) :
    (State.bargeAbsence s r n).pending = s.pending := by
  simp [State.bargeAbsence]
@[simp] theorem State.resyncNode_pending (s : State) (r n : Nat) : (State.resyncNode s r n).pending = s.pending := rfl
@[simp] theorem State.creditResync_pending (s : State) (r n : Nat) :
    (State.creditResync s r n).pending = s.pending := by
  simp [State.creditResync]
@[simp] theorem State.passAcyclic_pending (s : State) (r port : Nat) (bs : List Byte) :
    (State.passAcyclic s r port bs).pending = s.pending := by
  unfold State.passAcyclic
  (repeat' split) <;> simp
@[simp] theorem State.acyclicFrame_pending (s : State) (r port : Nat) (bs : List Byte) :
    (State.acyclicFrame s r port bs).pending = s.pending := by
  simp [State.acyclicFrame]
@[simp] theorem State.downstreamFrame_pending (s : State) (r port : Nat) (bs : List Byte) (arrival : Nat) :
    (State.downstreamFrame s r port bs arrival).pending = s.pending := by
  simp [State.downstreamFrame]
@[simp] theorem State.probeSend_pending (s : State) (r port : Nat) :
    (State.probeSend s r port).pending = s.pending := by
  simp [State.probeSend]
@[simp] theorem State.probe_pending (s : State) (r port : Nat) (bs : List Byte) (arrival : Nat) :
    (State.probe s r port bs arrival).pending = s.pending := by
  simp [State.probe]
@[simp] theorem State.probeReply_pending (s : State) (r port : Nat) (bs : List Byte) (arrival : Nat) :
    (State.probeReply s r port bs arrival).pending = s.pending := by
  simp [State.probeReply]
@[simp] theorem State.fibreDead_pending (s : State) (r port : Nat) : (State.fibreDead s r port).pending = s.pending := rfl
@[simp] theorem State.blockLockLoss_pending (s : State) (r port : Nat) :
    (State.blockLockLoss s r port).pending = s.pending := by
  simp [State.blockLockLoss]
@[simp] theorem State.headerAbsence_pending (s : State) (r port : Nat) :
    (State.headerAbsence s r port).pending = s.pending := by
  simp [State.headerAbsence]
@[simp] theorem State.blockLockRegained_pending (s : State) (r port : Nat) :
    (State.blockLockRegained s r port).pending = s.pending := by
  simp [State.blockLockRegained]
@[simp] theorem State.holeClear_pending (s : State) (r : Nat) :
    (State.holeClear s r).pending = s.pending := by
  simp [State.holeClear]
theorem execPassageHeader_pending (r port : Nat) (bs : List Byte) (arrival : Nat) (s : State) :
    ∃ t, execPassageHeader r port bs arrival s = .next t ∧ t.pending = s.pending := ⟨_, rfl, by simp⟩
theorem execColdStartHeader_pending (r port : Nat) (bs : List Byte) (arrival : Nat) (s : State) :
    ∃ t, execColdStartHeader r port bs arrival s = .next t ∧ t.pending = s.pending := ⟨_, rfl, by simp⟩
theorem execBarge_pending (r port : Nat) (bs : List Byte) (arrival : Nat) (s : State) :
    ∃ t, execBarge r port bs arrival s = .next t ∧ t.pending = s.pending := ⟨_, rfl, by simp⟩
theorem execDownstreamFrame_pending (r port : Nat) (bs : List Byte) (arrival : Nat) (s : State) :
    ∃ t, execDownstreamFrame r port bs arrival s = .next t ∧ t.pending = s.pending := ⟨_, rfl, by simp⟩
theorem execAcyclicFrame_pending (r port : Nat) (bs : List Byte) (s : State) :
    ∃ t, execAcyclicFrame r port bs s = .next t ∧ t.pending = s.pending := ⟨_, rfl, by simp⟩
theorem execPoundProbe_pending (r port : Nat) (bs : List Byte) (arrival : Nat) (s : State) :
    ∃ t, execPoundProbe r port bs arrival s = .next t ∧ t.pending = s.pending := ⟨_, rfl, by simp⟩
theorem execPoundProbeReply_pending (r port : Nat) (bs : List Byte) (arrival : Nat) (s : State) :
    ∃ t, execPoundProbeReply r port bs arrival s = .next t ∧ t.pending = s.pending := ⟨_, rfl, by simp⟩
theorem execPoundProbeSend_pending (r port : Nat) (s : State) :
    ∃ t, execPoundProbeSend r port s = .next t ∧ t.pending = s.pending := ⟨_, rfl, by simp⟩
theorem execRingInHorizon_pending (s : State) :
    ∃ t, execRingInHorizon s = .next t ∧ t.pending = s.pending := ⟨_, rfl, by simp⟩
theorem execEdgeLimitReached_pending (r n : Nat) (s : State) :
    ∃ t, execEdgeLimitReached r n s = .next t ∧ t.pending = s.pending := ⟨_, rfl, by simp⟩
theorem execJoinCountReached_pending (r n : Nat) (s : State) :
    ∃ t, execJoinCountReached r n s = .next t ∧ t.pending = s.pending := ⟨_, rfl, by simp⟩
theorem execBargeAbsenceTimeout_pending (r n : Nat) (s : State) :
    ∃ t, execBargeAbsenceTimeout r n s = .next t ∧ t.pending = s.pending := ⟨_, rfl, by simp⟩
theorem execCreditResync_pending (r n : Nat) (s : State) :
    ∃ t, execCreditResync r n s = .next t ∧ t.pending = s.pending := ⟨_, rfl, by simp⟩
theorem execBlockLockLoss_pending (r port : Nat) (s : State) :
    ∃ t, execBlockLockLoss r port s = .next t ∧ t.pending = s.pending := ⟨_, rfl, by simp⟩
theorem execHeaderAbsence_pending (r port : Nat) (s : State) :
    ∃ t, execHeaderAbsence r port s = .next t ∧ t.pending = s.pending := ⟨_, rfl, by simp⟩
theorem execBlockLockRegained_pending (r port : Nat) (s : State) :
    ∃ t, execBlockLockRegained r port s = .next t ∧ t.pending = s.pending := ⟨_, rfl, by simp⟩
theorem execHoleClear_pending (r : Nat) (s : State) :
    ∃ t, execHoleClear r s = .next t ∧ t.pending = s.pending := ⟨_, rfl, by simp⟩

end Sys2Proof.Machine

/-! ### Machine/CmdOps -/

namespace Sys2Proof.Machine

@[simp] theorem pointAt_pending (np len rng : Nat) (r : Refusals × State) :
    (pointAt np len rng r).state.pending = r.2.pending := rfl
@[simp] theorem cmdTtLoad_pending (c : Ctx) (slot : Nat) (s : State) : (cmdTtLoad c slot s).2.pending = s.pending := rfl
@[simp] theorem cmdTtSwap_pending (c : Ctx) (p : Word) (s : State) : (cmdTtSwap c p s).2.pending = s.pending := by simp [cmdTtSwap]
@[simp] theorem cmdTtCancel_pending (c : Ctx) (s : State) : (cmdTtCancel c s).2.pending = s.pending := by simp [cmdTtCancel]
@[simp] theorem cmdRgCommit_pending (r : Nat) (s : State) : (cmdRgCommit r s).2.pending = s.pending := rfl
@[simp] theorem cmdRgReopen_pending (r n : Nat) (s : State) : (cmdRgReopen r n s).2.pending = s.pending := rfl
@[simp] theorem cmdRgResync_pending (r n : Nat) (s : State) : (cmdRgResync r n s).2.pending = s.pending := by
  simp only [cmdRgResync]
  split
  · rw [foldl_pending]; intro s x; simp
  · simp
@[simp] theorem State.fetchBytes_pending (s : State) (a n : Nat) :
    (State.fetchBytes s a n).2.pending = s.pending := by
  simp [State.fetchBytes]
@[simp] theorem cmdRgAsend_pending (r n proto len : Nat) (addr : Word) (s : State) :
    (cmdRgAsend r n proto len addr s).2.pending = s.pending := by
  simp [cmdRgAsend]
@[simp] theorem State.stepTime_pending (s : State) (d : Int) : (State.stepTime s d).pending = s.pending := rfl
@[simp] theorem cmdTimeStep_pending (delta : U64) (s : State) : (cmdTimeStep delta s).2.pending = s.pending := rfl
@[simp] theorem cmdTimeRate_pending (rate : Word) (s : State) : (cmdTimeRate rate s).2.pending = s.pending := rfl
@[simp] theorem cmdPtpCommit_pending (s : State) : (cmdPtpCommit s).2.pending = s.pending := by simp [cmdPtpCommit]
@[simp] theorem State.dropDesc_pending (s : State) (d : Nat) : (State.dropDesc s d).pending = s.pending := rfl
@[simp] theorem cmdSpDesc_pending (d : Nat) (addr : Word) (s : State) :
    (cmdSpDesc d addr s).2.pending = s.pending := by
  unfold cmdSpDesc
  dsimp only
  (repeat' split) <;> simp
@[simp] theorem cmdSpPost_pending (d slot : Nat) (value : Word) (s : State) :
    (cmdSpPost d slot value s).2.pending = s.pending := by
  simp [cmdSpPost]
@[simp] theorem cmdSpDrop_pending (d : Nat) (s : State) : (cmdSpDrop d s).2.pending = s.pending := rfl

end Sys2Proof.Machine

/-! ### Machine/CmdAcq -/

namespace Sys2Proof.Machine

@[simp] theorem State.putSample_pending (s : State) (b : Nat) (c : PrivCfg) (w v : Nat) :
    (State.putSample s b c w v).pending = s.pending := by
  unfold State.putSample
  (repeat' split) <;> simp
@[simp] theorem State.fillFast_pending (s : State) (b : Nat) : (State.fillFast s b).pending = s.pending := by simp [State.fillFast]
@[simp] theorem State.fillAll_pending (s : State) : (State.fillAll s).pending = s.pending := by simp [State.fillAll]
@[simp] theorem State.triggerPriv_pending (s : State) (b : Nat) (t : U64) (n : Word) (sub : Nat) :
    (State.triggerPriv s b t n sub).pending = s.pending := by
  simp [State.triggerPriv]
@[simp] theorem State.anchorMask_pending (s : State) (b : Nat) (n : Word) :
    (State.anchorMask s b n).pending = s.pending := by
  simp [State.anchorMask]
@[simp] theorem State.fireUnit_pending (s : State) (u : Nat) (t : U64) (n : Word) (sub : Nat) :
    (State.fireUnit s u t n sub).pending = s.pending := by
  simp [State.fireUnit]
@[simp] theorem State.fireNow_pending (s : State) (u : Nat) (t : U64) :
    (State.fireNow s u t).pending = s.pending := by
  simp [State.fireNow]
@[simp] theorem State.refreshTrg_pending (s : State) (u : Nat) : (State.refreshTrg s u).pending = s.pending := rfl
@[simp] theorem cmdAcqCommit_pending (s : State) : (cmdAcqCommit s).2.pending = s.pending := by
  simp only [cmdAcqCommit]
  have h : ∀ (l m : List Nat) (s1 : State), s1.pending = s.pending → ((l.foldl (fun s u => s.refreshTrg u)
      (m.foldl (fun s b => s.setPriv b ((s.priv b).restart s.fastTicks s.tt.passage)) s1)).pending = s.pending) := by
    intro l m s1 hs
    rw [foldl_pending _ _ _ (fun s x => by simp), foldl_pending _ _ _ (fun s x => by simp), hs]
  split <;> exact h _ _ _ (by simp)
@[simp] theorem cmdAcqArm_pending (b : Nat) (s : State) : (cmdAcqArm b s).2.pending = s.pending := by simp [cmdAcqArm]
@[simp] theorem cmdAcqDisarm_pending (b : Nat) (s : State) : (cmdAcqDisarm b s).2.pending = s.pending := by simp [cmdAcqDisarm]
@[simp] theorem cmdAcqForce_pending (b : Nat) (s : State) : (cmdAcqForce b s).2.pending = s.pending := by simp [cmdAcqForce]
@[simp] theorem State.faultPriv_pending (s : State) (b : Nat) : (State.faultPriv s b).pending = s.pending := by
  simp [State.faultPriv]
@[simp] theorem coreAcqRead_pending (b : Nat) (first count : Word) (addr : U64) (s : State) :
    (coreAcqRead b first count addr s).state.pending = s.pending := by
  simp [coreAcqRead]
@[simp] theorem cmdAcqMaskLoad_pending (b : Nat) (s : State) : (cmdAcqMaskLoad b s).2.pending = s.pending := rfl

end Sys2Proof.Machine

/-! ### Machine/StoreOps -/

namespace Sys2Proof.Machine

@[simp] theorem State.applyRecord_pending (s : State) (off : Nat) (w : Word) :
    (State.applyRecord s off w).pending = s.pending := rfl
@[simp] theorem State.startBank_pending (s : State) (safe : Bool) (count : Nat) (body : List Byte) :
    (State.startBank s safe count body).pending = s.pending := rfl

end Sys2Proof.Machine

/-! ### Machine/CmdSafe -/

namespace Sys2Proof.Machine

@[simp] theorem coreSfLoad_pending (addr : Word) (s : State) : (coreSfLoad addr s).state.pending = s.pending := by simp [coreSfLoad]
@[simp] theorem coreSfConfirm_pending (value : Word) (s : State) : (coreSfConfirm value s).state.pending = s.pending := rfl
@[simp] theorem coreSfDemand_pending (f : Nat) (s : State) : (coreSfDemand f s).state.pending = s.pending := by simp [coreSfDemand]
@[simp] theorem coreSfReset_pending (f : Nat) (s : State) : (coreSfReset f s).state.pending = s.pending := by simp [coreSfReset]
@[simp] theorem coreSfBrakeTest_pending (b : Nat) (s : State) :
    (coreSfBrakeTest b s).state.pending = s.pending := by
  simp [coreSfBrakeTest]
@[simp] theorem State.btFinish_pending (s : State) (outcome : Nat) :
    (State.btFinish s outcome).pending = s.pending := by
  simp [State.btFinish]
@[simp] theorem State.btSettle_pending (s : State) : (State.btSettle s).pending = s.pending := by simp [State.btSettle]
@[simp] theorem State.btHold_pending (s : State) :
    (State.btHold s).pending = s.pending := by
  unfold State.btHold
  (repeat' split) <;> simp
@[simp] theorem State.btCompare_pending (s : State) : (State.btCompare s).pending = s.pending := by simp [State.btCompare]
@[simp] theorem State.btStart_pending (s : State) : (State.btStart s).pending = s.pending := by simp [State.btStart]
theorem execBrakeTestSettleExpiry_pending (s : State) :
    ∃ t, execBrakeTestSettleExpiry s = .next t ∧ t.pending = s.pending := ⟨_, rfl, by simp⟩
theorem execBrakeTestHoldExpiry_pending (s : State) :
    ∃ t, execBrakeTestHoldExpiry s = .next t ∧ t.pending = s.pending := ⟨_, rfl, by simp⟩

end Sys2Proof.Machine

/-! ### Machine/CmdRope -/

namespace Sys2Proof.Machine

@[simp] theorem cmdRopeHandover_pending (c : Ctx) (p : Word) (s : State) : (cmdRopeHandover c p s).2.pending = s.pending := rfl
@[simp] theorem cmdRopeRejoin_pending (c : Ctx) (s : State) : (cmdRopeRejoin c s).2.pending = s.pending := by simp [cmdRopeRejoin]
@[simp] theorem cmdRopeDismiss_pending (c : Ctx) (s : State) :
    (cmdRopeDismiss c s).2.pending = s.pending := by
  simp [cmdRopeDismiss]

end Sys2Proof.Machine

/-! ### Machine/CmdStore -/

namespace Sys2Proof.Machine

@[simp] theorem State.logStore_pending (s : State) (origin code status : Nat) (subject value : Nat) :
    (State.logStore s origin code status subject value).pending = s.pending := by
  simp [State.logStore]
@[simp] theorem coreStSave_pending (s : State) : (coreStSave s).state.pending = s.pending := rfl
@[simp] theorem coreStImgWrite_pending (slot : Nat) (offset addr length : Word) (s : State) :
    (coreStImgWrite slot offset addr length s).state.pending = s.pending := by
  simp [coreStImgWrite]
@[simp] theorem coreStImgSeal_pending (slot : Nat) (s : State) :
    (coreStImgSeal slot s).state.pending = s.pending := by
  simp [coreStImgSeal]
@[simp] theorem coreStImgBoot_pending (slot ratchet level : Nat) (s : State) :
    (coreStImgBoot slot ratchet level s).state.pending = s.pending := rfl
@[simp] theorem coreStLogRead_pending (first count : Word) (addr : U64) (s : State) :
    (coreStLogRead first count addr s).state.pending = s.pending := by
  simp [coreStLogRead]
@[simp] theorem coreStLogAck_pending (upto link : Word) (s : State) :
    (coreStLogAck upto link s).state.pending = s.pending := by
  simp [coreStLogAck]
@[simp] theorem coreStDebugOpen_pending (s : State) : (coreStDebugOpen s).state.pending = s.pending := rfl
@[simp] theorem coreStOwnerKey_pending (k : Nat) (addr : Word) (s : State) :
    (coreStOwnerKey k addr s).state.pending = s.pending := by
  simp [coreStOwnerKey]
@[simp] theorem coreStOwnerRevoke_pending (k : Nat) (s : State) : (coreStOwnerRevoke k s).state.pending = s.pending := rfl
@[simp] theorem coreStTeam_pending (addr : Word) (s : State) : (coreStTeam addr s).state.pending = s.pending := by simp [coreStTeam]

end Sys2Proof.Machine

/-! ### Machine/HostCmds -/

namespace Sys2Proof.Machine

@[simp] theorem coreNop_pending (s : State) : (coreNop s).state.pending = s.pending := rfl
@[simp] theorem coreTtLoad_pending (c : Ctx) (slot : Nat) (s : State) : (coreTtLoad c slot s).state.pending = s.pending := rfl
@[simp] theorem coreTtSwap_pending (c : Ctx) (p : Word) (s : State) :
    (coreTtSwap c p s).state.pending = s.pending := by
  simp [coreTtSwap]
@[simp] theorem coreTtCancel_pending (c : Ctx) (s : State) : (coreTtCancel c s).state.pending = s.pending := by simp [coreTtCancel]
@[simp] theorem coreAxEnable_pending (i mode : Nat) (s : State) :
    (coreAxEnable i mode s).state.pending = s.pending := by
  simp [coreAxEnable]
@[simp] theorem coreAxDisable_pending (i : Nat) (s : State) :
    (coreAxDisable i s).state.pending = s.pending := by
  simp [coreAxDisable]
@[simp] theorem coreAxMode_pending (i mode : Nat) (noPreset : Bool) (s : State) :
    (coreAxMode i mode noPreset s).state.pending = s.pending := by
  simp [coreAxMode]
@[simp] theorem coreAxCommit_pending (i : Nat) (s : State) : (coreAxCommit i s).state.pending = s.pending := by simp [coreAxCommit]
@[simp] theorem coreAxRetune_pending (i k : Nat) (s : State) :
    (coreAxRetune i k s).state.pending = s.pending := by
  simp [coreAxRetune]
@[simp] theorem coreAxSetLoad_pending (i k f : Nat) (s : State) :
    (coreAxSetLoad i k f s).state.pending = s.pending := by
  simp [coreAxSetLoad]
@[simp] theorem coreAxClear_pending (i : Nat) (s : State) : (coreAxClear i s).state.pending = s.pending := rfl
@[simp] theorem coreMvQueue_pending (g : Nat) (target : Int) (vmax : Word) (relative blend : Bool) (s : State) :
    (coreMvQueue g target vmax relative blend s).state.pending = s.pending := rfl
@[simp] theorem coreMvChange_pending (g : Nat) (target : Int) (vmax : Word) (chTarget chVmax : Bool) (s : State) :
    (coreMvChange g target vmax chTarget chVmax s).state.pending = s.pending := rfl
@[simp] theorem coreMvFlush_pending (g : Nat) (s : State) : (coreMvFlush g s).state.pending = s.pending := rfl
@[simp] theorem coreMvQstop_pending (g : Nat) (s : State) : (coreMvQstop g s).state.pending = s.pending := rfl
@[simp] theorem coreMvHstop_pending (g : Nat) (s : State) : (coreMvHstop g s).state.pending = s.pending := by simp [coreMvHstop]
@[simp] theorem coreMvHome_pending (g method dir : Nat) (vsearch : Word) (homePos : Int) (range : Nat) (fly : Bool) (s : State) :
    (coreMvHome g method dir vsearch homePos range fly s).state.pending = s.pending := by
  simp [coreMvHome]
@[simp] theorem corePfCommit_pending (g : Nat) (s : State) : (corePfCommit g s).state.pending = s.pending := by simp [corePfCommit]
@[simp] theorem coreChEnable_pending (ch : Nat) (enable : Bool) (s : State) :
    (coreChEnable ch enable s).state.pending = s.pending := by
  simp [coreChEnable]
@[simp] theorem coreFbCommit_pending (ch : Nat) (s : State) :
    (coreFbCommit ch s).state.pending = s.pending := by
  simp [coreFbCommit]
@[simp] theorem coreFbClear_pending (ch : Nat) (s : State) : (coreFbClear ch s).state.pending = s.pending := by simp [coreFbClear]
@[simp] theorem coreRgCommit_pending (r : Nat) (s : State) : (coreRgCommit r s).state.pending = s.pending := rfl
@[simp] theorem coreRgReopen_pending (r n : Nat) (s : State) : (coreRgReopen r n s).state.pending = s.pending := rfl
@[simp] theorem coreRgResync_pending (r n : Nat) (s : State) :
    (coreRgResync r n s).state.pending = s.pending := by
  simp [coreRgResync]
@[simp] theorem coreRgAsend_pending (r n proto len : Nat) (addr : Word) (s : State) :
    (coreRgAsend r n proto len addr s).state.pending = s.pending := by
  simp [coreRgAsend]
@[simp] theorem coreTimeStep_pending (delta : U64) (s : State) : (coreTimeStep delta s).state.pending = s.pending := rfl
@[simp] theorem coreTimeRate_pending (rate : Word) (s : State) : (coreTimeRate rate s).state.pending = s.pending := rfl
@[simp] theorem corePtpCommit_pending (s : State) : (corePtpCommit s).state.pending = s.pending := by simp [corePtpCommit]
@[simp] theorem coreAcqCommit_pending (s : State) : (coreAcqCommit s).state.pending = s.pending := by simp [coreAcqCommit]
@[simp] theorem coreAcqArm_pending (ch : Nat) (s : State) : (coreAcqArm ch s).state.pending = s.pending := by simp [coreAcqArm]
@[simp] theorem coreAcqDisarm_pending (ch : Nat) (s : State) :
    (coreAcqDisarm ch s).state.pending = s.pending := by
  simp [coreAcqDisarm]
@[simp] theorem coreAcqForce_pending (ch : Nat) (s : State) :
    (coreAcqForce ch s).state.pending = s.pending := by
  simp [coreAcqForce]
@[simp] theorem coreAcqMaskLoad_pending (ch : Nat) (s : State) : (coreAcqMaskLoad ch s).state.pending = s.pending := rfl
@[simp] theorem coreSpDesc_pending (d : Nat) (addr : Word) (s : State) :
    (coreSpDesc d addr s).state.pending = s.pending := by
  simp [coreSpDesc]
@[simp] theorem coreSpPost_pending (d slot : Nat) (value : Word) (s : State) :
    (coreSpPost d slot value s).state.pending = s.pending := by
  simp [coreSpPost]
@[simp] theorem coreSpDrop_pending (d : Nat) (s : State) : (coreSpDrop d s).state.pending = s.pending := rfl
@[simp] theorem coreGovCommit_pending (s : State) : (coreGovCommit s).state.pending = s.pending := rfl
@[simp] theorem coreRopeHandover_pending (c : Ctx) (p : Word) (s : State) :
    (coreRopeHandover c p s).state.pending = s.pending := rfl
@[simp] theorem coreRopeRejoin_pending (c : Ctx) (s : State) :
    (coreRopeRejoin c s).state.pending = s.pending := by
  simp [coreRopeRejoin]
@[simp] theorem coreRopeDismiss_pending (c : Ctx) (s : State) :
    (coreRopeDismiss c s).state.pending = s.pending := by
  simp [coreRopeDismiss]
@[simp] theorem coreOf_pending (c : Ctx) (opc : Nat) (v : List Nat) (s : State) :
    (coreOf c opc v s).state.pending = s.pending := by
  unfold coreOf
  (repeat' split) <;> simp
@[simp] theorem State.finishEntry_pending (s : State) (c : Ctx) (entry : List Byte) (aside : Nat) :
    (State.finishEntry s c entry aside).pending = s.pending := by
  unfold State.finishEntry
  (repeat' split) <;> simp
@[simp] theorem State.hostCommand_pending (s : State) (c : Ctx) (opc : Nat) (args : List Nat) (core : State → Answer)
    (hcore : ∀ (y0 : State), (core y0).state.pending = y0.pending) :
    (State.hostCommand s c opc args core).pending = s.pending := by
  simp [State.hostCommand, hcore]
theorem execNopCommand_pending (c : Ctx) (s : State) :
    ∃ t, execNopCommand c s = .next t ∧ t.pending = s.pending := ⟨_, rfl, State.hostCommand_pending _ _ _ _ _ (fun _ => by rfl)⟩
theorem execTtLoad_pending (c : Ctx) (slot : Nat) (s : State) :
    ∃ t, execTtLoad c slot s = .next t ∧ t.pending = s.pending :=
  ⟨_, rfl, State.hostCommand_pending _ _ _ _ _ (fun _ => by simp)⟩
theorem execTtSwap_pending (c : Ctx) (p : Word) (s : State) :
    ∃ t, execTtSwap c p s = .next t ∧ t.pending = s.pending := ⟨_, rfl, State.hostCommand_pending _ _ _ _ _ (fun _ => by simp)⟩
theorem execTtCancel_pending (c : Ctx) (s : State) :
    ∃ t, execTtCancel c s = .next t ∧ t.pending = s.pending := ⟨_, rfl, State.hostCommand_pending _ _ _ _ _ (fun _ => by simp)⟩
theorem execAxEnable_pending (c : Ctx) (i mode : Nat) (s : State) :
    ∃ t, execAxEnable c i mode s = .next t ∧ t.pending = s.pending :=
  ⟨_, rfl, State.hostCommand_pending _ _ _ _ _ (fun _ => by simp)⟩
theorem execAxDisable_pending (c : Ctx) (i : Nat) (s : State) :
    ∃ t, execAxDisable c i s = .next t ∧ t.pending = s.pending :=
  ⟨_, rfl, State.hostCommand_pending _ _ _ _ _ (fun _ => by simp)⟩
theorem execAxMode_pending (c : Ctx) (i mode : Nat) (noPreset : Bool) (s : State) :
    ∃ t, execAxMode c i mode noPreset s = .next t ∧ t.pending = s.pending :=
  ⟨_, rfl, State.hostCommand_pending _ _ _ _ _ (fun _ => by simp)⟩
theorem execAxCommit_pending (c : Ctx) (i : Nat) (s : State) :
    ∃ t, execAxCommit c i s = .next t ∧ t.pending = s.pending := ⟨_, rfl, State.hostCommand_pending _ _ _ _ _ (fun _ => by simp)⟩
theorem execAxRetune_pending (c : Ctx) (i k : Nat) (s : State) :
    ∃ t, execAxRetune c i k s = .next t ∧ t.pending = s.pending :=
  ⟨_, rfl, State.hostCommand_pending _ _ _ _ _ (fun _ => by simp)⟩
theorem execAxSetLoad_pending (c : Ctx) (i k f : Nat) (s : State) :
    ∃ t, execAxSetLoad c i k f s = .next t ∧ t.pending = s.pending :=
  ⟨_, rfl, State.hostCommand_pending _ _ _ _ _ (fun _ => by simp)⟩
theorem execAxClear_pending (c : Ctx) (i : Nat) (s : State) :
    ∃ t, execAxClear c i s = .next t ∧ t.pending = s.pending := ⟨_, rfl, State.hostCommand_pending _ _ _ _ _ (fun _ => by simp)⟩
theorem execMvQueue_pending (c : Ctx) (g : Nat) (target : U64) (vmax : Word) (relative blend : Bool) (s : State) :
    ∃ t, execMvQueue c g target vmax relative blend s = .next t ∧ t.pending = s.pending :=
  ⟨_, rfl, State.hostCommand_pending _ _ _ _ _ (fun _ => by simp)⟩
theorem execMvChange_pending (c : Ctx) (g : Nat) (target : U64) (vmax : Word) (chTarget chVmax : Bool) (s : State) :
    ∃ t, execMvChange c g target vmax chTarget chVmax s = .next t ∧ t.pending = s.pending :=
  ⟨_, rfl, State.hostCommand_pending _ _ _ _ _ (fun _ => by simp)⟩
theorem execMvFlush_pending (c : Ctx) (g : Nat) (s : State) :
    ∃ t, execMvFlush c g s = .next t ∧ t.pending = s.pending := ⟨_, rfl, State.hostCommand_pending _ _ _ _ _ (fun _ => by simp)⟩
theorem execMvQstop_pending (c : Ctx) (g : Nat) (s : State) :
    ∃ t, execMvQstop c g s = .next t ∧ t.pending = s.pending := ⟨_, rfl, State.hostCommand_pending _ _ _ _ _ (fun _ => by simp)⟩
theorem execMvHstop_pending (c : Ctx) (g : Nat) (s : State) :
    ∃ t, execMvHstop c g s = .next t ∧ t.pending = s.pending := ⟨_, rfl, State.hostCommand_pending _ _ _ _ _ (fun _ => by simp)⟩
theorem execMvHome_pending (c : Ctx) (g method dir : Nat) (vsearch : Word) (homePos : U64) (range : Word) (fly : Bool) (s : State) :
    ∃ t, execMvHome c g method dir vsearch homePos range fly s = .next t ∧ t.pending = s.pending :=
  ⟨_, rfl, State.hostCommand_pending _ _ _ _ _ (fun _ => by simp)⟩
theorem execPfCommit_pending (c : Ctx) (g : Nat) (s : State) :
    ∃ t, execPfCommit c g s = .next t ∧ t.pending = s.pending := ⟨_, rfl, State.hostCommand_pending _ _ _ _ _ (fun _ => by simp)⟩
theorem execChEnable_pending (c : Ctx) (ch : Nat) (enable : Bool) (s : State) :
    ∃ t, execChEnable c ch enable s = .next t ∧ t.pending = s.pending :=
  ⟨_, rfl, State.hostCommand_pending _ _ _ _ _ (fun _ => by simp)⟩
theorem execFbCommit_pending (c : Ctx) (ch : Nat) (s : State) :
    ∃ t, execFbCommit c ch s = .next t ∧ t.pending = s.pending :=
  ⟨_, rfl, State.hostCommand_pending _ _ _ _ _ (fun _ => by simp)⟩
theorem execFbClear_pending (c : Ctx) (ch : Nat) (s : State) :
    ∃ t, execFbClear c ch s = .next t ∧ t.pending = s.pending := ⟨_, rfl, State.hostCommand_pending _ _ _ _ _ (fun _ => by simp)⟩
theorem execRgCommit_pending (c : Ctx) (r : Nat) (s : State) :
    ∃ t, execRgCommit c r s = .next t ∧ t.pending = s.pending := ⟨_, rfl, State.hostCommand_pending _ _ _ _ _ (fun _ => by simp)⟩
theorem execRgReopen_pending (c : Ctx) (r n : Nat) (s : State) :
    ∃ t, execRgReopen c r n s = .next t ∧ t.pending = s.pending :=
  ⟨_, rfl, State.hostCommand_pending _ _ _ _ _ (fun _ => by simp)⟩
theorem execRgResync_pending (c : Ctx) (r n : Nat) (s : State) :
    ∃ t, execRgResync c r n s = .next t ∧ t.pending = s.pending :=
  ⟨_, rfl, State.hostCommand_pending _ _ _ _ _ (fun _ => by simp)⟩
theorem execRgAsend_pending (c : Ctx) (r n proto len : Nat) (addr : Word) (s : State) :
    ∃ t, execRgAsend c r n proto len addr s = .next t ∧ t.pending = s.pending :=
  ⟨_, rfl, State.hostCommand_pending _ _ _ _ _ (fun _ => by simp)⟩
theorem execTimeStep_pending (c : Ctx) (delta : U64) (s : State) :
    ∃ t, execTimeStep c delta s = .next t ∧ t.pending = s.pending :=
  ⟨_, rfl, State.hostCommand_pending _ _ _ _ _ (fun _ => by simp)⟩
theorem execTimeRate_pending (c : Ctx) (rate : Word) (s : State) :
    ∃ t, execTimeRate c rate s = .next t ∧ t.pending = s.pending :=
  ⟨_, rfl, State.hostCommand_pending _ _ _ _ _ (fun _ => by simp)⟩
theorem execPtpCommit_pending (c : Ctx) (s : State) :
    ∃ t, execPtpCommit c s = .next t ∧ t.pending = s.pending := ⟨_, rfl, State.hostCommand_pending _ _ _ _ _ (fun _ => by simp)⟩
theorem execAcqCommit_pending (c : Ctx) (s : State) :
    ∃ t, execAcqCommit c s = .next t ∧ t.pending = s.pending := ⟨_, rfl, State.hostCommand_pending _ _ _ _ _ (fun _ => by simp)⟩
theorem execAcqArm_pending (c : Ctx) (ch : Nat) (s : State) :
    ∃ t, execAcqArm c ch s = .next t ∧ t.pending = s.pending := ⟨_, rfl, State.hostCommand_pending _ _ _ _ _ (fun _ => by simp)⟩
theorem execAcqDisarm_pending (c : Ctx) (ch : Nat) (s : State) :
    ∃ t, execAcqDisarm c ch s = .next t ∧ t.pending = s.pending :=
  ⟨_, rfl, State.hostCommand_pending _ _ _ _ _ (fun _ => by simp)⟩
theorem execAcqForce_pending (c : Ctx) (ch : Nat) (s : State) :
    ∃ t, execAcqForce c ch s = .next t ∧ t.pending = s.pending :=
  ⟨_, rfl, State.hostCommand_pending _ _ _ _ _ (fun _ => by simp)⟩
theorem execAcqRead_pending (c : Ctx) (ch : Nat) (first count : Word) (addr : U64) (s : State) :
    ∃ t, execAcqRead c ch first count addr s = .next t ∧ t.pending = s.pending :=
  ⟨_, rfl, State.hostCommand_pending _ _ _ _ _ (fun _ => by simp)⟩
theorem execAcqMaskLoad_pending (c : Ctx) (ch : Nat) (s : State) :
    ∃ t, execAcqMaskLoad c ch s = .next t ∧ t.pending = s.pending :=
  ⟨_, rfl, State.hostCommand_pending _ _ _ _ _ (fun _ => by simp)⟩
theorem execSpDesc_pending (c : Ctx) (d : Nat) (addr : Word) (s : State) :
    ∃ t, execSpDesc c d addr s = .next t ∧ t.pending = s.pending :=
  ⟨_, rfl, State.hostCommand_pending _ _ _ _ _ (fun _ => by simp)⟩
theorem execSpPost_pending (c : Ctx) (d slot : Nat) (value : Word) (s : State) :
    ∃ t, execSpPost c d slot value s = .next t ∧ t.pending = s.pending :=
  ⟨_, rfl, State.hostCommand_pending _ _ _ _ _ (fun _ => by simp)⟩
theorem execSpDrop_pending (c : Ctx) (d : Nat) (s : State) :
    ∃ t, execSpDrop c d s = .next t ∧ t.pending = s.pending := ⟨_, rfl, State.hostCommand_pending _ _ _ _ _ (fun _ => by simp)⟩
theorem execGovCommit_pending (c : Ctx) (s : State) :
    ∃ t, execGovCommit c s = .next t ∧ t.pending = s.pending := ⟨_, rfl, State.hostCommand_pending _ _ _ _ _ (fun _ => by simp)⟩
theorem execRopeHandover_pending (c : Ctx) (p : Word) (s : State) :
    ∃ t, execRopeHandover c p s = .next t ∧ t.pending = s.pending :=
  ⟨_, rfl, State.hostCommand_pending _ _ _ _ _ (fun _ => by simp)⟩
theorem execRopeRejoin_pending (c : Ctx) (s : State) :
    ∃ t, execRopeRejoin c s = .next t ∧ t.pending = s.pending := ⟨_, rfl, State.hostCommand_pending _ _ _ _ _ (fun _ => by simp)⟩
theorem execRopeDismiss_pending (c : Ctx) (s : State) :
    ∃ t, execRopeDismiss c s = .next t ∧ t.pending = s.pending :=
  ⟨_, rfl, State.hostCommand_pending _ _ _ _ _ (fun _ => by simp)⟩
theorem execSfLoad_pending (c : Ctx) (addr : Word) (s : State) :
    ∃ t, execSfLoad c addr s = .next t ∧ t.pending = s.pending :=
  ⟨_, rfl, State.hostCommand_pending _ _ _ _ _ (fun _ => by simp)⟩
theorem execSfConfirm_pending (c : Ctx) (value : Word) (s : State) :
    ∃ t, execSfConfirm c value s = .next t ∧ t.pending = s.pending :=
  ⟨_, rfl, State.hostCommand_pending _ _ _ _ _ (fun _ => by simp)⟩
theorem execSfDemand_pending (c : Ctx) (f : Nat) (s : State) :
    ∃ t, execSfDemand c f s = .next t ∧ t.pending = s.pending := ⟨_, rfl, State.hostCommand_pending _ _ _ _ _ (fun _ => by simp)⟩
theorem execSfReset_pending (c : Ctx) (f : Nat) (s : State) :
    ∃ t, execSfReset c f s = .next t ∧ t.pending = s.pending := ⟨_, rfl, State.hostCommand_pending _ _ _ _ _ (fun _ => by simp)⟩
theorem execSfBrakeTest_pending (c : Ctx) (b : Nat) (s : State) :
    ∃ t, execSfBrakeTest c b s = .next t ∧ t.pending = s.pending :=
  ⟨_, rfl, State.hostCommand_pending _ _ _ _ _ (fun _ => by simp)⟩
theorem execStSave_pending (c : Ctx) (s : State) :
    ∃ t, execStSave c s = .next t ∧ t.pending = s.pending := ⟨_, rfl, State.hostCommand_pending _ _ _ _ _ (fun _ => by simp)⟩
theorem execStImgWrite_pending (c : Ctx) (slot : Nat) (offset addr length : Word) (s : State) :
    ∃ t, execStImgWrite c slot offset addr length s = .next t ∧ t.pending = s.pending :=
  ⟨_, rfl, State.hostCommand_pending _ _ _ _ _ (fun _ => by simp)⟩
theorem execStImgSeal_pending (c : Ctx) (slot : Nat) (s : State) :
    ∃ t, execStImgSeal c slot s = .next t ∧ t.pending = s.pending :=
  ⟨_, rfl, State.hostCommand_pending _ _ _ _ _ (fun _ => by simp)⟩
theorem execStImgBoot_pending (c : Ctx) (slot ratchet level : Nat) (s : State) :
    ∃ t, execStImgBoot c slot ratchet level s = .next t ∧ t.pending = s.pending :=
  ⟨_, rfl, State.hostCommand_pending _ _ _ _ _ (fun _ => by simp)⟩
theorem execStLogRead_pending (c : Ctx) (first count : Word) (addr : U64) (s : State) :
    ∃ t, execStLogRead c first count addr s = .next t ∧ t.pending = s.pending :=
  ⟨_, rfl, State.hostCommand_pending _ _ _ _ _ (fun _ => by simp)⟩
theorem execStLogAck_pending (c : Ctx) (upto link : Word) (s : State) :
    ∃ t, execStLogAck c upto link s = .next t ∧ t.pending = s.pending :=
  ⟨_, rfl, State.hostCommand_pending _ _ _ _ _ (fun _ => by simp)⟩
theorem execStDebugOpen_pending (c : Ctx) (s : State) :
    ∃ t, execStDebugOpen c s = .next t ∧ t.pending = s.pending :=
  ⟨_, rfl, State.hostCommand_pending _ _ _ _ _ (fun _ => by simp)⟩
theorem execStOwnerKey_pending (c : Ctx) (k : Nat) (addr : Word) (s : State) :
    ∃ t, execStOwnerKey c k addr s = .next t ∧ t.pending = s.pending :=
  ⟨_, rfl, State.hostCommand_pending _ _ _ _ _ (fun _ => by simp)⟩
theorem execStOwnerRevoke_pending (c : Ctx) (k : Nat) (s : State) :
    ∃ t, execStOwnerRevoke c k s = .next t ∧ t.pending = s.pending :=
  ⟨_, rfl, State.hostCommand_pending _ _ _ _ _ (fun _ => by simp)⟩
theorem execStTeam_pending (c : Ctx) (addr : Word) (s : State) :
    ∃ t, execStTeam c addr s = .next t ∧ t.pending = s.pending :=
  ⟨_, rfl, State.hostCommand_pending _ _ _ _ _ (fun _ => by simp)⟩

end Sys2Proof.Machine

/-! ### Machine/RegRows -/

namespace Sys2Proof.Machine

@[simp] theorem State.pushStop_pending (s : State) (place : Nat) (p : Push) :
    (State.pushStop s place p).pending = s.pending := by
  unfold State.pushStop
  dsimp only
  (repeat' split) <;> simp
@[simp] theorem State.pushCommand_pending (s : State) (origin : Nat) :
    (State.pushCommand s origin).pending = s.pending := by
  unfold State.pushCommand
  dsimp only
  (repeat' split) <;> simp
@[simp] theorem State.writeAt_pending (s : State) (agent off : Nat) (w : Word) :
    (State.writeAt s agent off w).pending = s.pending := by
  simp [State.writeAt]
@[simp] theorem State.hostWrite_pending (s : State) (agent off : Nat) (w : Word) :
    (State.hostWrite s agent off w).pending = s.pending := by
  simp [State.hostWrite]
@[simp] theorem State.aliasRead_pending (s : State) (agent off : Nat) :
    (State.aliasRead s agent off).pending = s.pending := by
  simp [State.aliasRead]
@[simp] theorem State.narrow_pending (s : State) (off : Nat) (write : Bool) :
    (State.narrow s off write).pending = s.pending := by
  simp [State.narrow]
@[simp] theorem State.lkWrite_pending (s : State) :
    (State.lkWrite s).pending = s.pending := by
  unfold State.lkWrite
  (repeat' split) <;> simp
@[simp] theorem State.bar2Write_pending (s : State) (a : Nat) (bs : List Byte) (poisoned : Bool) :
    (State.bar2Write s a bs poisoned).pending = s.pending := by
  simp [State.bar2Write]
@[simp] theorem State.bar2Bytes_pending (s : State) (a : Nat) (z0 : Nat) : (State.bar2Bytes s a z0).2.pending = s.pending := by
  induction z0 generalizing s a with
  | zero => rfl
  | succ n ih => simp only [State.bar2Bytes]; split <;> simp [ih]
@[simp] theorem State.bar2Read_pending (s : State) (a n : Nat) :
    (State.bar2Read s a n).pending = s.pending := by
  simp [State.bar2Read]
@[simp] theorem State.pcSample_pending (s : State) (c : Nat) (waiting : Bool) :
    (State.pcSample s c waiting).pending = s.pending := by
  simp [State.pcSample]
@[simp] theorem State.bwWindowEnd_pending (s : State) (m bytes busy : Nat) :
    (State.bwWindowEnd s m bytes busy).pending = s.pending := by
  unfold State.bwWindowEnd
  dsimp only
  (repeat' split) <;> simp
theorem execCmdPush_pending (agent : Nat) (s : State) :
    ∃ t, execCmdPush agent s = .next t ∧ t.pending = s.pending := ⟨_, rfl, by simp⟩
theorem execRegisterWrite_pending (agent off : Nat) (w : Word) (s : State) :
    ∃ t, execRegisterWrite agent off w s = .next t ∧ t.pending = s.pending := ⟨_, rfl, by simp⟩
theorem execLkWrite_pending (s : State) : ∃ t, execLkWrite s = .next t ∧ t.pending = s.pending := ⟨_, rfl, by simp⟩
theorem execNarrowAccess_pending (off : Nat) (write : Bool) (s : State) :
    ∃ t, execNarrowAccess off write s = .next t ∧ t.pending = s.pending := ⟨_, rfl, by simp⟩
theorem execAliasAccess_pending (agent off : Nat) (write : Bool) (w : Word) (s : State) :
    ∃ t, execAliasAccess agent off write w s = .next t ∧ t.pending = s.pending := ⟨_, rfl, by simp⟩
theorem execBar2Write_pending (a : Nat) (bs : List Byte) (poisoned : Bool) (s : State) :
    ∃ t, execBar2Write a bs poisoned s = .next t ∧ t.pending = s.pending := ⟨_, rfl, by simp⟩
theorem execBar2Read_pending (a n : Nat) (s : State) :
    ∃ t, execBar2Read a n s = .next t ∧ t.pending = s.pending := ⟨_, rfl, by simp⟩
theorem execMailboxSelect_pending (agent k selector : Nat) (s : State) :
    ∃ t, execMailboxSelect agent k selector s = .next t ∧ t.pending = s.pending := ⟨_, rfl, by simp⟩
theorem execMailboxCaptureComplete_pending (k : Nat) (s : State) :
    ∃ t, execMailboxCaptureComplete k s = .next t ∧ t.pending = s.pending := ⟨_, rfl, by simp⟩
theorem execDelayMaxClear_pending (agent i : Nat) (s : State) :
    ∃ t, execDelayMaxClear agent i s = .next t ∧ t.pending = s.pending := ⟨_, rfl, by simp⟩
theorem execGovClear_pending (agent : Nat) (s : State) :
    ∃ t, execGovClear agent s = .next t ∧ t.pending = s.pending := ⟨_, rfl, by simp⟩
theorem execPerfClear_pending (agent : Nat) (s : State) :
    ∃ t, execPerfClear agent s = .next t ∧ t.pending = s.pending := ⟨_, rfl, by simp⟩
theorem execPerfFreeze_pending (agent : Nat) (freeze : Bool) (s : State) :
    ∃ t, execPerfFreeze agent freeze s = .next t ∧ t.pending = s.pending := ⟨_, rfl, by simp⟩
theorem execPerfCfgWrite_pending (agent k : Nat) (w : Word) (s : State) :
    ∃ t, execPerfCfgWrite agent k w s = .next t ∧ t.pending = s.pending := ⟨_, rfl, by simp⟩
theorem execCmpArm_pending (agent k : Nat) (s : State) :
    ∃ t, execCmpArm agent k s = .next t ∧ t.pending = s.pending := ⟨_, rfl, by simp⟩
theorem execEvioModeWrite_pending (agent p mode : Nat) (s : State) :
    ∃ t, execEvioModeWrite agent p mode s = .next t ∧ t.pending = s.pending := ⟨_, rfl, by simp⟩
theorem execEvioQt_pending (agent p : Nat) (target : Word) (s : State) :
    ∃ t, execEvioQt agent p target s = .next t ∧ t.pending = s.pending := ⟨_, rfl, by simp⟩
theorem execEvioQpush_pending (agent p : Nat) (level : Bool) (s : State) :
    ∃ t, execEvioQpush agent p level s = .next t ∧ t.pending = s.pending := ⟨_, rfl, by simp⟩
theorem execCapRdWrite_pending (agent : Nat) (w : Word) (s : State) :
    ∃ t, execCapRdWrite agent w s = .next t ∧ t.pending = s.pending := ⟨_, rfl, by simp⟩
theorem execArxRdWrite_pending (agent r : Nat) (w : Word) (s : State) :
    ∃ t, execArxRdWrite agent r w s = .next t ∧ t.pending = s.pending := ⟨_, rfl, by simp⟩
theorem execStrRdWrite_pending (agent : Nat) (w : Word) (s : State) :
    ∃ t, execStrRdWrite agent w s = .next t ∧ t.pending = s.pending := ⟨_, rfl, by simp⟩
theorem execSchedWindowWrite_pending (agent : Nat) (w : Word) (s : State) :
    ∃ t, execSchedWindowWrite agent w s = .next t ∧ t.pending = s.pending := ⟨_, rfl, by simp⟩
theorem execClassRightRemove_pending (agent : Nat) (soft : Bool) (w : Word) (s : State) :
    ∃ t, execClassRightRemove agent soft w s = .next t ∧ t.pending = s.pending := ⟨_, rfl, by simp⟩
theorem execBwMonitorEnable_pending (agent m : Nat) (w : Word) (s : State) :
    ∃ t, execBwMonitorEnable agent m w s = .next t ∧ t.pending = s.pending := ⟨_, rfl, by simp⟩
theorem execBwWindowEnd_pending (m bytes busy : Nat) (s : State) :
    ∃ t, execBwWindowEnd m bytes busy s = .next t ∧ t.pending = s.pending := ⟨_, rfl, by simp⟩
theorem execPcSample_pending (c : Nat) (waiting : Bool) (s : State) :
    ∃ t, execPcSample c waiting s = .next t ∧ t.pending = s.pending := ⟨_, rfl, by simp⟩

end Sys2Proof.Machine

/-! ### Machine/FeedbackRows -/

namespace Sys2Proof.Machine

@[simp] theorem State.toStamp_pending (s : State) (stamp : U64) : (State.toStamp s stamp).pending = s.pending := rfl
@[simp] theorem State.filterDone_pending (s : State) (c : Nat) (stamp : U64) :
    (State.filterDone s c stamp).pending = s.pending := by
  simp [State.filterDone]
@[simp] theorem State.countEdge_pending (s : State) (c : Nat) (ab : BitVec 2) (stamp : U64) :
    (State.countEdge s c ab stamp).pending = s.pending := by
  simp [State.countEdge]
@[simp] theorem State.encoderEdge_pending (s : State) (c ab runA runB : Nat) (stamp : U64) :
    (State.encoderEdge s c ab runA runB stamp).pending = s.pending := by
  simp [State.encoderEdge]
@[simp] theorem State.indexRise_pending (s : State) (c : Nat) (stamp : U64) :
    (State.indexRise s c stamp).pending = s.pending := by
  unfold State.indexRise
  dsimp only
  (repeat' split) <;> simp
@[simp] theorem State.encoderIndex_pending (s : State) (c ab : Nat) (level : Bool) (run : Nat) (stamp : U64) :
    (State.encoderIndex s c ab level run stamp).pending = s.pending := by
  unfold State.encoderIndex
  dsimp only
  (repeat' split) <;> simp
@[simp] theorem State.setWindow_pending (s : State) (ch : Nat) (w : Option QWindow) :
    (State.setWindow s ch w).pending = s.pending := by
  simp [State.setWindow]
@[simp] theorem State.qerrClose_pending (s : State) (ch : Nat) :
    (State.qerrClose s ch).pending = s.pending := by
  unfold State.qerrClose
  (repeat' split) <;> simp
@[simp] theorem State.qerrLimit_pending (s : State) (ch : Nat) :
    (State.qerrLimit s ch).pending = s.pending := by
  unfold State.qerrLimit
  (repeat' split) <;> simp
@[simp] theorem State.sendLocalSer_pending (s : State) (p : Nat) :
    (State.sendLocalSer s p).pending = s.pending := by
  unfold State.sendLocalSer
  dsimp only
  (repeat' split) <;> simp
@[simp] theorem State.serialDeadline_pending (s : State) (p : Nat) (edge0 : Bool) (samples : List Bool) :
    (State.serialDeadline s p edge0 samples).pending = s.pending := by
  simp [State.serialDeadline]
@[simp] theorem State.serialFailLimit_pending (s : State) (p : Nat) :
    (State.serialFailLimit s p).pending = s.pending := by
  simp [State.serialFailLimit]
theorem execEncoderEdge_pending (c : Nat) (lines : PairRun) (stamp : U64) (s : State) :
    ∃ t, execEncoderEdge c lines stamp s = .next t ∧ t.pending = s.pending := ⟨_, rfl, by simp⟩
theorem execEncoderIndexEdge_pending (c : Nat) (seen : IndexRun) (s : State) :
    ∃ t, execEncoderIndexEdge c seen s = .next t ∧ t.pending = s.pending := ⟨_, rfl, by simp⟩
theorem execQerrWindowClose_pending (ch : Nat) (s : State) :
    ∃ t, execQerrWindowClose ch s = .next t ∧ t.pending = s.pending := ⟨_, rfl, by simp⟩
theorem execQerrLimitReached_pending (ch : Nat) (s : State) :
    ∃ t, execQerrLimitReached ch s = .next t ∧ t.pending = s.pending := ⟨_, rfl, by simp⟩
theorem execSerialDeadline_pending (p : Nat) (edge0 : Bool) (samples : List Bool) (s : State) :
    ∃ t, execSerialDeadline p edge0 samples s = .next t ∧ t.pending = s.pending := ⟨_, rfl, by simp⟩
theorem execSerialFailLimit_pending (p : Nat) (s : State) :
    ∃ t, execSerialFailLimit p s = .next t ∧ t.pending = s.pending := ⟨_, rfl, by simp⟩

end Sys2Proof.Machine

/-! ### Machine/SchedRows -/

namespace Sys2Proof.Machine

@[simp] theorem State.readContext_pending (s : State) (core : Nat) (t : State) :
    (State.readContext s core t).pending = t.pending := by
  unfold State.readContext
  dsimp only
  (repeat' split) <;> simp
theorem execTaskStart_pending (core : Nat) (s : State) :
    ∃ t, execTaskStart core s = .next t ∧ t.pending = s.pending := ⟨_, rfl, by simp⟩
@[simp] theorem State.retryToken_pending (s : State) (k : Nat) :
    (State.retryToken s k).pending = s.pending := by
  simp [State.retryToken]
theorem execPendingTokenAccept_pending (source : Nat) (s : State) :
    ∃ t, execPendingTokenAccept source s = .next t ∧ t.pending = s.pending := ⟨_, rfl, by simp⟩
@[simp] theorem State.delayExpiry_pending (s : State) (d : Nat) :
    (State.delayExpiry s d).pending = s.pending := by
  unfold State.delayExpiry
  (repeat' split) <;> simp
theorem execDelayExpiry_pending (d : Nat) (s : State) :
    ∃ t, execDelayExpiry d s = .next t ∧ t.pending = s.pending := ⟨_, rfl, by simp⟩
@[simp] theorem State.schedWindowEnd_pending (s : State) :
    (State.schedWindowEnd s).pending = s.pending := by
  simp [State.schedWindowEnd]
theorem execSchedWindowEnd_pending (s : State) :
    ∃ t, execSchedWindowEnd s = .next t ∧ t.pending = s.pending := ⟨_, rfl, by simp⟩

end Sys2Proof.Machine

/-! ### Machine/TimeRows -/

namespace Sys2Proof.Machine

@[simp] theorem State.cmpFire_pending (s : State) (k : Nat) : (State.cmpFire s k).pending = s.pending := by simp [State.cmpFire]
@[simp] theorem State.serveCycle_pending (s : State) (e : Evio) :
    (State.serveCycle s e).pending = s.pending := by
  unfold State.serveCycle
  (repeat' split) <;> simp
@[simp] theorem State.evioFire_pending (s : State) (p : Nat) :
    (State.evioFire s p).pending = s.pending := by
  unfold State.evioFire
  dsimp only
  (repeat' split) <;> simp
@[simp] theorem State.evioEdge_pending (s : State) (p : Nat) : (State.evioEdge s p).pending = s.pending := by simp [State.evioEdge]
@[simp] theorem State.enterCapture_pending (s : State) (p : Nat) (level : Bool) (quarters : Nat) :
    (State.enterCapture s p level quarters).pending = s.pending := by
  unfold State.enterCapture
  dsimp only
  split
  · rfl
  · split
    · rw [State.offer_pending]; exact foldl_pending _ _ _ (fun _ _ => rfl)
    · exact foldl_pending _ _ _ (fun _ _ => rfl)
@[simp] theorem State.unitLevel_pending (s : State) (u : Nat) (level : Bool) (quarters : Nat) :
    (State.unitLevel s u level quarters).pending = s.pending := by
  simp [State.unitLevel]
@[simp] theorem State.evioCapture_pending (s : State) (p : Nat) (rising : Bool) (run quarters : Nat) :
    (State.evioCapture s p rising run quarters).pending = s.pending := by
  simp [State.evioCapture]
@[simp] theorem State.idle_pending (s : State) : (State.idle s).pending = s.pending := by simp [State.idle]
theorem execCmpFire_pending (k : Nat) (s : State) :
    ∃ t, execCmpFire k s = .next t ∧ t.pending = s.pending := ⟨_, rfl, by simp⟩
theorem execEvioEntryFire_pending (p : Nat) (s : State) :
    ∃ t, execEvioEntryFire p s = .next t ∧ t.pending = s.pending := ⟨_, rfl, by simp⟩
theorem execEvioPeriodicEdge_pending (p : Nat) (s : State) :
    ∃ t, execEvioPeriodicEdge p s = .next t ∧ t.pending = s.pending := ⟨_, rfl, by simp⟩
theorem execEvioCapture_pending (p : Nat) (line : LevelRun) (quarters : Nat) (s : State) :
    ∃ t, execEvioCapture p line quarters s = .next t ∧ t.pending = s.pending := ⟨_, rfl, by simp⟩

end Sys2Proof.Machine

/-! ### Machine/IntakeOps -/

namespace Sys2Proof.Machine

@[simp] theorem State.accept_pending (s : State) (seq : Word) (origin : Nat) (forwarded logFull own : Bool) (entry : List Byte) :
    (State.accept s seq origin forwarded logFull own entry).pending = s.pending := rfl
@[simp] theorem State.forwardCommand_pending (s : State) (seq : Word) (origin : Nat) (logFull : Bool) (entry : List Byte) :
    (State.forwardCommand s seq origin logFull entry).pending = s.pending := by
  simp [State.forwardCommand]
@[simp] theorem State.takePush_pending (s : State) (p : Push) : (State.takePush s p).pending = s.pending := by simp [State.takePush]
@[simp] theorem State.takeStops_pending (s : State) : (State.takeStops s).pending = s.pending := by simp [State.takeStops]
@[simp] theorem State.takeQueue_pending (s : State) : (State.takeQueue s).pending = s.pending := by simp [State.takeQueue]
@[simp] theorem State.intentOf_pending (s : State) (t : Taken) :
    (State.intentOf s t).pending = s.pending := by
  simp [State.intentOf]
@[simp] theorem State.stepAnswer_pending (s : State) (code : Nat) :
    (State.stepAnswer s code).pending = s.pending := by
  unfold State.stepAnswer
  (repeat' split) <;> simp
@[simp] theorem State.effectOf_pending (s : State) (t : Taken) :
    (State.effectOf s t).pending = s.pending := by
  simp [State.effectOf]
@[simp] theorem State.effectsDue_pending (s : State) : (State.effectsDue s).pending = s.pending := by simp [State.effectsDue]
@[simp] theorem State.intentsDue_pending (s : State) : (State.intentsDue s).pending = s.pending := by simp [State.intentsDue]
@[simp] theorem State.discardPush_pending (s : State) (p : Push) : (State.discardPush s p).pending = s.pending := rfl

end Sys2Proof.Machine

/-! ### Machine/PtpRows -/

namespace Sys2Proof.Machine

@[simp] theorem State.sendPtp_pending (s : State) (m : PtpSent) :
    (State.sendPtp s m).pending = s.pending := rfl
@[simp] theorem State.servoUpdate_pending (s : State) (o : Int) (at' : U64) :
    (State.servoUpdate s o at').pending = s.pending := by
  simp [State.servoUpdate]
@[simp] theorem State.useSync_pending (s : State) (t2 : U64) (t1 : U64) (correction : Int) :
    (State.useSync s t2 t1 correction).pending = s.pending := by
  simp [State.useSync]
@[simp] theorem State.ptpSync_pending (s : State) (m : PtpMsg) : (State.ptpSync s m).pending = s.pending := by simp [State.ptpSync]
@[simp] theorem State.ptpFollowUp_pending (s : State) (m : PtpMsg) :
    (State.ptpFollowUp s m).pending = s.pending := by
  unfold State.ptpFollowUp
  dsimp only
  (repeat' split) <;> simp
@[simp] theorem State.ptpDelayReq_pending (s : State) (m : PtpMsg) :
    (State.ptpDelayReq s m).pending = s.pending := by
  simp [State.ptpDelayReq]
@[simp] theorem State.ptpDelayResp_pending (s : State) (m : PtpMsg) :
    (State.ptpDelayResp s m).pending = s.pending := by
  unfold State.ptpDelayResp
  dsimp only
  (repeat' split) <;> simp
@[simp] theorem State.ptpPdelayReq_pending (s : State) (m : PtpMsg) :
    (State.ptpPdelayReq s m).pending = s.pending := by
  simp [State.ptpPdelayReq]
@[simp] theorem State.ptpPdelayResp_pending (s : State) (m : PtpMsg) :
    (State.ptpPdelayResp s m).pending = s.pending := by
  unfold State.ptpPdelayResp
  dsimp only
  (repeat' split) <;> simp
@[simp] theorem State.ptpPdelayFollow_pending (s : State) (m : PtpMsg) :
    (State.ptpPdelayFollow s m).pending = s.pending := by
  unfold State.ptpPdelayFollow
  dsimp only
  (repeat' split) <;> simp
@[simp] theorem State.ptpRequest_pending (s : State) : (State.ptpRequest s).pending = s.pending := by simp [State.ptpRequest]
@[simp] theorem State.ptpAnnounce_pending (s : State) (m : PtpMsg) :
    (State.ptpAnnounce s m).pending = s.pending := by
  simp [State.ptpAnnounce]
@[simp] theorem State.ptpSilent_pending (s : State) : (State.ptpSilent s).pending = s.pending := by simp [State.ptpSilent]
@[simp] theorem State.ptpInterval_pending (s : State) : (State.ptpInterval s).pending = s.pending := by simp [State.ptpInterval]
@[simp] theorem State.ptpDiscard_pending (s : State) : (State.ptpDiscard s).pending = s.pending := by simp [State.ptpDiscard]
theorem execSync_pending (m : PtpMsg) (s : State) :
    ∃ t, execSync m s = .next t ∧ t.pending = s.pending := ⟨_, rfl, by simp⟩
theorem execFollowUp_pending (m : PtpMsg) (s : State) :
    ∃ t, execFollowUp m s = .next t ∧ t.pending = s.pending := ⟨_, rfl, by simp⟩
theorem execDelayReq_pending (m : PtpMsg) (s : State) :
    ∃ t, execDelayReq m s = .next t ∧ t.pending = s.pending := ⟨_, rfl, by simp⟩
theorem execDelayResp_pending (m : PtpMsg) (s : State) :
    ∃ t, execDelayResp m s = .next t ∧ t.pending = s.pending := ⟨_, rfl, by simp⟩
theorem execPdelayReq_pending (m : PtpMsg) (s : State) :
    ∃ t, execPdelayReq m s = .next t ∧ t.pending = s.pending := ⟨_, rfl, by simp⟩
theorem execPdelayResp_pending (m : PtpMsg) (s : State) :
    ∃ t, execPdelayResp m s = .next t ∧ t.pending = s.pending := ⟨_, rfl, by simp⟩
theorem execPdelayRespFollowUp_pending (m : PtpMsg) (s : State) :
    ∃ t, execPdelayRespFollowUp m s = .next t ∧ t.pending = s.pending := ⟨_, rfl, by simp⟩
theorem execAnnounce_pending (m : PtpMsg) (s : State) :
    ∃ t, execAnnounce m s = .next t ∧ t.pending = s.pending := ⟨_, rfl, by simp⟩
theorem execPtpDiscardedMessage_pending (s : State) :
    ∃ t, execPtpDiscardedMessage s = .next t ∧ t.pending = s.pending := ⟨_, rfl, by simp⟩
theorem execPtpSyncInterval_pending (s : State) :
    ∃ t, execPtpSyncInterval s = .next t ∧ t.pending = s.pending := ⟨_, rfl, by simp⟩
theorem execDelayReqInterval_pending (s : State) :
    ∃ t, execDelayReqInterval s = .next t ∧ t.pending = s.pending := ⟨_, rfl, by simp⟩
theorem execAnnounceReceiptTimeout_pending (s : State) :
    ∃ t, execAnnounceReceiptTimeout s = .next t ∧ t.pending = s.pending := ⟨_, rfl, by simp⟩

end Sys2Proof.Machine

/-! ### Machine/AcqRows -/

namespace Sys2Proof.Machine

@[simp] theorem State.readRecords_pending (s : State) (n : Word) :
    (State.readRecords s n).pending = s.pending := by
  simp [State.readRecords]
@[simp] theorem State.clearMarks_pending (s : State) : (State.clearMarks s).pending = s.pending := rfl
@[simp] theorem State.ringSlots_pending (s : State) (cap at' : Nat)
    (z0 : List (List Byte)) : (State.ringSlots s cap at' z0).pending = s.pending := by
  induction z0 generalizing s at' with
  | nil => rfl
  | cons o r ih => simp [State.ringSlots, ih]
@[simp] theorem State.placeGroup_pending (s : State) (n : Word) (slots : List (List Byte)) :
    (State.placeGroup s n slots).pending = s.pending := by
  simp [State.placeGroup]
@[simp] theorem State.streamGroup_pending (s : State) (n : Word) (tier : Nat) :
    (State.streamGroup s n tier).pending = s.pending := by
  simp [State.streamGroup]
@[simp] theorem State.sendDatagram_pending (s : State) : (State.sendDatagram s).pending = s.pending := by simp [State.sendDatagram]
@[simp] theorem State.unitSample_pending (s : State) (n : Word) (start : U64) (ns u : Nat) :
    (State.unitSample s n start ns u).pending = s.pending := by
  simp [State.unitSample]
@[simp] theorem State.maskPoint_pending (s : State) (b : Nat) (c : PrivCfg) (n : Word) (start : U64) (w : Word) (stale : Bool) :
    (State.maskPoint s b c n start w stale).pending = s.pending := by
  unfold State.maskPoint
  dsimp only
  (repeat' split) <;> simp
@[simp] theorem State.numericSample_pending (s : State) (n : Word) (start : U64) (b : Nat) :
    (State.numericSample s n start b).pending = s.pending := by
  simp [State.numericSample]
@[simp] theorem State.acquire_pending (s : State) (n : Word) (start : U64) (ns tier : Nat) :
    (State.acquire s n start ns tier).pending = s.pending := by
  simp [State.acquire]
@[simp] theorem State.lateMask_pending (s : State) (u b : Nat) (n : Word) (start : U64) :
    (State.lateMask s u b n start).pending = s.pending := by
  unfold State.lateMask
  dsimp only
  (repeat' split) <;> simp
@[simp] theorem State.triggerTimeout_pending (s : State) (u : Nat) :
    (State.triggerTimeout s u).pending = s.pending := by
  unfold State.triggerTimeout
  dsimp only
  (repeat' split) <;> simp
@[simp] theorem State.postReached_pending (s : State) (b : Nat) :
    (State.postReached s b).pending = s.pending := by
  simp [State.postReached]
@[simp] theorem State.preValid_pending (s : State) (b : Nat) : (State.preValid s b).pending = s.pending := by simp [State.preValid]
@[simp] theorem State.maskLoaded_pending (s : State) (b : Nat) :
    (State.maskLoaded s b).pending = s.pending := by
  simp [State.maskLoaded]
theorem execTriggerTimeout_pending (u : Nat) (s : State) :
    ∃ t, execTriggerTimeout u s = .next t ∧ t.pending = s.pending := ⟨_, rfl, by simp⟩
theorem execPostReached_pending (b : Nat) (s : State) :
    ∃ t, execPostReached b s = .next t ∧ t.pending = s.pending := ⟨_, rfl, by simp⟩
theorem execPreValid_pending (b : Nat) (s : State) :
    ∃ t, execPreValid b s = .next t ∧ t.pending = s.pending := ⟨_, rfl, by simp⟩
theorem execMaskLoadComplete_pending (b : Nat) (s : State) :
    ∃ t, execMaskLoadComplete b s = .next t ∧ t.pending = s.pending := ⟨_, rfl, by simp⟩

end Sys2Proof.Machine

/-! ### Machine/Mirror -/

namespace Sys2Proof.Machine

@[simp] theorem State.releaseMirror_pending (s : State) :
    (State.releaseMirror s).pending = s.pending := by
  simp [State.releaseMirror]

end Sys2Proof.Machine

/-! ### Machine/RopeOps -/

namespace Sys2Proof.Machine

@[simp] theorem State.ropeFrame_pending (s : State) (link : Nat) :
    (State.ropeFrame s link).pending = s.pending := by
  simp [State.ropeFrame]
@[simp] theorem State.ropeDiscard_pending (s : State) (link : Nat) :
    (State.ropeDiscard s link).pending = s.pending := by
  simp [State.ropeDiscard]
@[simp] theorem State.ropeReceive_pending (s : State) (link : Nat) (ok : Bool) (f : State → State) (hf : ∀ (y0 : State),
    (f y0).pending = y0.pending) :
    (State.ropeReceive s link ok f).pending = s.pending := by
  simp [State.ropeReceive, hf]
@[simp] theorem State.becomeLead_pending (s : State) : (State.becomeLead s).pending = s.pending := by simp [State.becomeLead]
@[simp] theorem State.becomeSecond_pending (s : State) : (State.becomeSecond s).pending = s.pending := by simp [State.becomeSecond]
@[simp] theorem State.exchange_pending (s : State) : (State.exchange s).pending = s.pending := by simp [State.exchange]
@[simp] theorem State.becomeStandby_pending (s : State) :
    (State.becomeStandby s).pending = s.pending := by
  simp [State.becomeStandby]
@[simp] theorem State.compareDigests_pending (s : State) :
    (State.compareDigests s).pending = s.pending := by
  simp [State.compareDigests]
@[simp] theorem State.releaseBeat_pending (s : State) : (State.releaseBeat s).pending = s.pending := by simp [State.releaseBeat]

end Sys2Proof.Machine

/-! ### Machine/RopeRows -/

namespace Sys2Proof.Machine

@[simp] theorem State.peerBeat_pending (s : State) (bs : List Byte) :
    (State.peerBeat s bs).pending = s.pending := by
  simp [State.peerBeat]
@[simp] theorem State.lockToBeat_pending (s : State) (dep : U64) (passage : Word) :
    (State.lockToBeat s dep passage).pending = s.pending := rfl
@[simp] theorem State.belayBeat_pending (s : State) (link : Nat) (bs : List Byte) :
    (State.belayBeat s link bs).pending = s.pending := by
  simp [State.belayBeat]
@[simp] theorem State.heartbeat_pending (s : State) (link : Nat) (bs : List Byte) :
    (State.heartbeat s link bs).pending = s.pending := by
  unfold State.heartbeat
  (repeat' split) <;> simp
@[simp] theorem State.takeForwarded_pending (s : State) (tag : Word) (z0 : Forward) :
    (State.takeForwarded s tag z0).pending = s.pending := by
  unfold State.takeForwarded
  (repeat' split) <;> simp
@[simp] theorem State.applyForward_pending (s : State) (z0 : Forward) :
    (State.applyForward s z0).pending = s.pending := by
  unfold State.applyForward
  (repeat' split) <;> simp
@[simp] theorem State.batchesDue_pending (s : State) : (State.batchesDue s).pending = s.pending := by simp [State.batchesDue]
@[simp] theorem State.batch_pending (s : State) (tag : Word) (items : List Forward) :
    (State.batch s tag items).pending = s.pending := by
  simp [State.batch]
@[simp] theorem State.installBook_pending (s : State) (b : LedgerNode) : (State.installBook s b).pending = s.pending := rfl
@[simp] theorem State.ledger_pending (s : State) (passage : Word)
    (books : List LedgerNode) : (State.ledger s passage books).pending = s.pending := by
  simp only [State.ledger]
  split
  · rfl
  · rw [foldl_pending]; intro s x; simp
@[simp] theorem State.localFrame_pending (s : State) (passage : Word) (chans : List LocalChan) (evio : U64) :
    (State.localFrame s passage chans evio).pending = s.pending := by
  simp [State.localFrame]
@[simp] theorem State.localSerFrame_pending (s : State) (passage : Word) (chans : List LocalChan) :
    (State.localSerFrame s passage chans).pending = s.pending := by
  simp [State.localSerFrame]
@[simp] theorem State.evioFrame_pending (s : State) (p reg : Nat) (w target : Word) :
    (State.evioFrame s p reg w target).pending = s.pending := by
  simp [State.evioFrame]
@[simp] theorem State.install_pending (s : State) (z0 : CopyBlock) :
    (State.install s z0).pending = s.pending := by
  unfold State.install
  (repeat' split) <;> simp
@[simp] theorem State.copy_pending (s : State) (b : CopyBlock) (left : Nat) :
    (State.copy s b left).pending = s.pending := by
  simp [State.copy]
@[simp] theorem State.sampleFrame_pending (s : State) (link : Nat) (bs : List Byte) :
    (State.sampleFrame s link bs).pending = s.pending := by
  simp [State.sampleFrame]
@[simp] theorem State.belayDecision_pending (s : State) :
    (State.belayDecision s).pending = s.pending := by
  unfold State.belayDecision
  dsimp only
  (repeat' split) <;> simp
@[simp] theorem State.verdict_pending (s : State) (link : Nat) (passage : Word) (action reason : Nat) :
    (State.verdict s link passage action reason).pending = s.pending := by
  simp [State.verdict]
@[simp] theorem State.grant_pending (s : State) (serial : Word) :
    (State.grant s serial).pending = s.pending := by
  simp [State.grant]
@[simp] theorem State.belayGrant_pending (s : State) : (State.belayGrant s).pending = s.pending := by simp [State.belayGrant]
@[simp] theorem State.takeover_pending (s : State) : (State.takeover s).pending = s.pending := by simp [State.takeover]
@[simp] theorem State.handoverNow_pending (s : State) : (State.handoverNow s).pending = s.pending := by simp [State.handoverNow]
@[simp] theorem State.silence_pending (s : State) : (State.silence s).pending = s.pending := by simp [State.silence]
@[simp] theorem State.batchMissing_pending (s : State) (kind : Nat) :
    (State.batchMissing s kind).pending = s.pending := by
  simp [State.batchMissing]
@[simp] theorem State.downFallback_pending (s : State) (ring : Nat) :
    (State.downFallback s ring).pending = s.pending := by
  simp [State.downFallback]
@[simp] theorem State.leadIsolation_pending (s : State) :
    (State.leadIsolation s).pending = s.pending := by
  simp [State.leadIsolation]
@[simp] theorem State.sendHeader_pending (s : State) (r : Nat) (cold : Bool) :
    (State.sendHeader s r cold).pending = s.pending := rfl
@[simp] theorem State.coldStart_pending (s : State) : (State.coldStart s).pending = s.pending := by simp [State.coldStart]
@[simp] theorem State.rejoinCheck_pending (s : State) : (State.rejoinCheck s).pending = s.pending := by simp [State.rejoinCheck]
@[simp] theorem State.linkLoss_pending (s : State) (link : Nat) :
    (State.linkLoss s link).pending = s.pending := by
  simp [State.linkLoss]
@[simp] theorem State.linkRegained_pending (s : State) (link : Nat) :
    (State.linkRegained s link).pending = s.pending := by
  simp [State.linkRegained]
theorem execHeartbeat_pending (link : Nat) (bs : List Byte) (s : State) :
    ∃ t, execHeartbeat link bs s = .next t ∧ t.pending = s.pending := ⟨_, rfl, by simp⟩
theorem execBatch_pending (link : Nat) (ok : Bool) (tag : Word) (items : List Forward) (s : State) :
    ∃ t, execBatch link ok tag items s = .next t ∧ t.pending = s.pending := ⟨_, rfl, by simp⟩
theorem execLedger_pending (link : Nat) (ok : Bool) (passage : Word) (books : List LedgerNode) (s : State) :
    ∃ t, execLedger link ok passage books s = .next t ∧ t.pending = s.pending := ⟨_, rfl, by simp⟩
theorem execLocal_pending (link : Nat) (ok : Bool) (passage : Word) (chans : List LocalChan) (evio : U64) (s : State) :
    ∃ t, execLocal link ok passage chans evio s = .next t ∧ t.pending = s.pending := ⟨_, rfl, by simp⟩
theorem execLocalSer_pending (link : Nat) (ok : Bool) (passage : Word) (chans : List LocalChan) (s : State) :
    ∃ t, execLocalSer link ok passage chans s = .next t ∧ t.pending = s.pending := ⟨_, rfl, by simp⟩
theorem execSample_pending (link : Nat) (bs : List Byte) (s : State) :
    ∃ t, execSample link bs s = .next t ∧ t.pending = s.pending := ⟨_, rfl, by simp⟩
theorem execVerdict_pending (link : Nat) (ok : Bool) (passage : Word) (action reason : Nat) (s : State) :
    ∃ t, execVerdict link ok passage action reason s = .next t ∧ t.pending = s.pending := ⟨_, rfl, by simp⟩
theorem execEvioFrame_pending (link : Nat) (ok : Bool) (p reg : Nat) (w target : Word) (s : State) :
    ∃ t, execEvioFrame link ok p reg w target s = .next t ∧ t.pending = s.pending := ⟨_, rfl, by simp⟩
theorem execGrant_pending (link : Nat) (ok : Bool) (serial : Word) (s : State) :
    ∃ t, execGrant link ok serial s = .next t ∧ t.pending = s.pending := ⟨_, rfl, by simp⟩
theorem execCopy_pending (link : Nat) (ok : Bool) (block : CopyBlock) (left : Nat) (s : State) :
    ∃ t, execCopy link ok block left s = .next t ∧ t.pending = s.pending := ⟨_, rfl, by simp⟩
theorem execBelayDecision_pending (s : State) :
    ∃ t, execBelayDecision s = .next t ∧ t.pending = s.pending := ⟨_, rfl, by simp⟩
theorem execBelayGrant_pending (s : State) :
    ∃ t, execBelayGrant s = .next t ∧ t.pending = s.pending := ⟨_, rfl, by simp⟩
theorem execTakeover_pending (s : State) : ∃ t, execTakeover s = .next t ∧ t.pending = s.pending := ⟨_, rfl, by simp⟩
theorem execSilenceTakeover_pending (s : State) :
    ∃ t, execSilenceTakeover s = .next t ∧ t.pending = s.pending := ⟨_, rfl, by simp⟩
theorem execHandover_pending (s : State) : ∃ t, execHandover s = .next t ∧ t.pending = s.pending := ⟨_, rfl, by simp⟩
theorem execBatchMissing_pending (kind : Nat) (s : State) :
    ∃ t, execBatchMissing kind s = .next t ∧ t.pending = s.pending := ⟨_, rfl, by simp⟩
theorem execSecondDownstreamFallback_pending (ring : Nat) (s : State) :
    ∃ t, execSecondDownstreamFallback ring s = .next t ∧ t.pending = s.pending :=
  ⟨_, rfl, by simp⟩
theorem execLeadIsolation_pending (s : State) :
    ∃ t, execLeadIsolation s = .next t ∧ t.pending = s.pending := ⟨_, rfl, by simp⟩
theorem execColdStartAttempt_pending (s : State) :
    ∃ t, execColdStartAttempt s = .next t ∧ t.pending = s.pending := ⟨_, rfl, by simp⟩
theorem execRejoinCheckComplete_pending (s : State) :
    ∃ t, execRejoinCheckComplete s = .next t ∧ t.pending = s.pending := ⟨_, rfl, by simp⟩
theorem execRopeLinkLockLoss_pending (link : Nat) (s : State) :
    ∃ t, execRopeLinkLockLoss link s = .next t ∧ t.pending = s.pending := ⟨_, rfl, by simp⟩
theorem execRopeLinkLockRegained_pending (link : Nat) (s : State) :
    ∃ t, execRopeLinkLockRegained link s = .next t ∧ t.pending = s.pending := ⟨_, rfl, by simp⟩

end Sys2Proof.Machine

/-! ### Machine/GovRows -/

namespace Sys2Proof.Machine

@[simp] theorem State.measurementClose_pending (s : State) (energy : Nat) (temps : List Int) :
    (State.measurementClose s energy temps).pending = s.pending := by
  simp [State.measurementClose]
@[simp] theorem State.sensorFailed_pending (s : State) (k : Nat) :
    (State.sensorFailed s k).pending = s.pending := by
  simp [State.sensorFailed]
@[simp] theorem State.thermalTripped_pending (s : State) :
    (State.thermalTripped s).pending = s.pending := by
  simp [State.thermalTripped]
@[simp] theorem State.tierLatch_pending (s : State) : (State.tierLatch s).pending = s.pending := by simp [State.tierLatch]
theorem execMeasurementClose_pending (energy : Nat) (temps : List Int) (s : State) :
    ∃ t, execMeasurementClose energy temps s = .next t ∧ t.pending = s.pending := ⟨_, rfl, by simp⟩
theorem execSensorFail_pending (k : Nat) (s : State) :
    ∃ t, execSensorFail k s = .next t ∧ t.pending = s.pending := ⟨_, rfl, by simp⟩
theorem execThermalTrip_pending (s : State) :
    ∃ t, execThermalTrip s = .next t ∧ t.pending = s.pending := ⟨_, rfl, by simp⟩
theorem execTierLatch_pending (s : State) :
    ∃ t, execTierLatch s = .next t ∧ t.pending = s.pending := ⟨_, rfl, by simp⟩

end Sys2Proof.Machine

/-! ### Machine/SafetyRows -/

namespace Sys2Proof.Machine

@[simp] theorem State.sampleSafety_pending (s : State) (sins souts brks : Nat) (currents : List Nat) :
    (State.sampleSafety s sins souts brks currents).pending = s.pending := by
  simp [State.sampleSafety]
@[simp] theorem State.discrepancy_pending (s : State) (k : Nat) :
    (State.discrepancy s k).pending = s.pending := by
  simp [State.discrepancy]
@[simp] theorem State.ss1Expiry_pending (s : State) (f : Nat) :
    (State.ss1Expiry s f).pending = s.pending := by
  simp [State.ss1Expiry]
@[simp] theorem State.offPulse_pending (s : State) (j : Nat) (low : Bool) :
    (State.offPulse s j low).pending = s.pending := by
  simp [State.offPulse]
@[simp] theorem State.offPulseEnd_pending (s : State) (j : Nat) (high : Bool) :
    (State.offPulseEnd s j high).pending = s.pending := by
  simp [State.offPulseEnd]
@[simp] theorem State.containerLoss_pending (s : State) (r n : Nat) :
    (State.containerLoss s r n).pending = s.pending := by
  simp [State.containerLoss]
@[simp] theorem State.stoFail_pending (s : State) (r n : Nat) : (State.stoFail s r n).pending = s.pending := by simp [State.stoFail]
@[simp] theorem State.diagFault_pending (s : State) (diag : Nat) :
    (State.diagFault s diag).pending = s.pending := by
  simp [State.diagFault]
@[simp] theorem State.safeSupplyLost_pending (s : State) :
    (State.safeSupplyLost s).pending = s.pending := by
  simp [State.safeSupplyLost]
theorem execSafetySample_pending (sins souts brks : Nat) (currents : List Nat) (s : State) :
    ∃ t, execSafetySample sins souts brks currents s = .next t ∧ t.pending = s.pending := ⟨_, rfl, by simp⟩
theorem execDiscrepancyTimeout_pending (k : Nat) (s : State) :
    ∃ t, execDiscrepancyTimeout k s = .next t ∧ t.pending = s.pending := ⟨_, rfl, by simp⟩
theorem execSs1TimeExpiry_pending (f : Nat) (s : State) :
    ∃ t, execSs1TimeExpiry f s = .next t ∧ t.pending = s.pending := ⟨_, rfl, by simp⟩
theorem execOffPulse_pending (j : Nat) (low : Bool) (s : State) :
    ∃ t, execOffPulse j low s = .next t ∧ t.pending = s.pending := ⟨_, rfl, by simp⟩
theorem execOffPulseEnd_pending (j : Nat) (high : Bool) (s : State) :
    ∃ t, execOffPulseEnd j high s = .next t ∧ t.pending = s.pending := ⟨_, rfl, by simp⟩
theorem execContainerLoss_pending (ring n : Nat) (s : State) :
    ∃ t, execContainerLoss ring n s = .next t ∧ t.pending = s.pending := ⟨_, rfl, by simp⟩
theorem execStoFail_pending (ring n : Nat) (s : State) :
    ∃ t, execStoFail ring n s = .next t ∧ t.pending = s.pending := ⟨_, rfl, by simp⟩
theorem execSafetyDiagFault_pending (diag : Nat) (s : State) :
    ∃ t, execSafetyDiagFault diag s = .next t ∧ t.pending = s.pending := ⟨_, rfl, by simp⟩
theorem execVsafe24Undervoltage_pending (s : State) :
    ∃ t, execVsafe24Undervoltage s = .next t ∧ t.pending = s.pending := ⟨_, rfl, by simp⟩

end Sys2Proof.Machine

/-! ### Machine/BootRows -/

namespace Sys2Proof.Machine

@[simp] theorem State.newKeyPair_pending (s : State) : (State.newKeyPair s).pending = s.pending := by simp [State.newKeyPair]
@[simp] theorem State.powerReset_pending (s : State) : (State.powerReset s).pending = s.pending := by simp [State.powerReset]
@[simp] theorem State.porn_pending (s : State) (lowNs straps : Nat) :
    (State.porn s lowNs straps).pending = s.pending := by
  simp [State.porn]
@[simp] theorem State.railLow_pending (s : State) (ns : Nat) : (State.railLow s ns).pending = s.pending := by simp [State.railLow]
@[simp] theorem State.eraseVault_pending (s : State) : (State.eraseVault s).pending = s.pending := rfl
@[simp] theorem State.tamperStore_pending (s : State) : (State.tamperStore s).pending = s.pending := by simp [State.tamperStore]
@[simp] theorem State.tampered_pending (s : State) (powered : Bool) :
    (State.tampered s powered).pending = s.pending := by
  simp [State.tampered]
@[simp] theorem State.vbatLost_pending (s : State) : (State.vbatLost s).pending = s.pending := by simp [State.vbatLost]
@[simp] theorem State.vaultErasedNow_pending (s : State) :
    (State.vaultErasedNow s).pending = s.pending := by
  simp [State.vaultErasedNow]
@[simp] theorem State.debugRequest_pending (s : State) : (State.debugRequest s).pending = s.pending := by
  simp only [State.debugRequest]
  split
  · rfl
  · split
    · rw [State.settle_pending]
      · simp
      · intro s; simp
    · rfl
@[simp] theorem State.wakeDone_pending (s : State) : (State.wakeDone s).pending = s.pending := by simp [State.wakeDone]
@[simp] theorem State.clearDone_pending (s : State) : (State.clearDone s).pending = s.pending := by simp [State.clearDone]
@[simp] theorem State.slotCode_pending (s : State) (n code : Nat) : (State.slotCode s n code).pending = s.pending := rfl
@[simp] theorem State.refusedSlot_pending (s : State) (n : Nat) (f : LoadFail) :
    (State.refusedSlot s n f).pending = s.pending := by
  simp [State.refusedSlot]
@[simp] theorem State.bootSlot_pending (s : State) (n : Nat) (fallback : Bool) :
    (State.bootSlot s n fallback).pending = s.pending := by
  simp [State.bootSlot]
@[simp] theorem State.imageDone_pending (s : State) :
    (State.imageDone s).pending = s.pending := by
  unfold State.imageDone
  dsimp only
  (repeat' split) <;> simp
@[simp] theorem State.loadDefaults_pending (s : State) : (State.loadDefaults s).pending = s.pending := by simp [State.loadDefaults]
@[simp] theorem State.loadRecord_pending (s : State) (p : Nat × Word) :
    (State.loadRecord s p).pending = s.pending := by
  simp [State.loadRecord]
@[simp] theorem State.groupDefaults_pending (s def' : State)
    (offs : List Nat) : (State.groupDefaults s def' offs).pending = s.pending := by
  simp only [State.groupDefaults]
  rw [State.logStore_pending, foldl_pending]
  intro s x; simp
@[simp] theorem State.logBank_pending (s : State) (safe : Bool) :
    (State.logBank s safe).pending = s.pending := by
  simp [State.logBank]
@[simp] theorem State.loadBank_pending (s : State) : (State.loadBank s).pending = s.pending := by
  simp only [State.loadBank]
  rw [State.logBank_pending]
  dsimp only
  rw [foldl_pending _ _ _ (fun s x => by split <;> simp)]
  split
  · rw [foldl_pending _ _ _ (fun s x => by simp)]; simp
  · simp
@[simp] theorem State.logLevels_pending (s : State) : (State.logLevels s).pending = s.pending := by
  simp only [State.logLevels]
  rw [foldl_pending _ _ _ (fun s x => by rw [foldl_pending _ _ _ (fun s y => by split <;> simp)])]
@[simp] theorem State.loadSafe_pending (s : State) : (State.loadSafe s).pending = s.pending := by simp [State.loadSafe]
@[simp] theorem State.startClock_pending (s : State) : (State.startClock s).pending = s.pending := rfl
@[simp] theorem State.startListen_pending (s : State) : (State.startListen s).pending = s.pending := by simp [State.startListen]
@[simp] theorem State.armDone_pending (s : State) (selfTest : Bool) : (State.armDone s selfTest).pending = s.pending := by
  simp only [State.armDone]
  split
  · rfl
  · split <;> split
    · simp
    · rw [State.takeQueue_pending, State.takeStops_pending, foldl_pending _ _ _ (fun s x => by simp)]
      simp
    · simp
    · rw [State.takeQueue_pending, State.takeStops_pending, foldl_pending _ _ _ (fun s x => by simp)]
      simp
@[simp] theorem State.perst_pending (s : State) (low : Bool) : (State.perst s low).pending = s.pending := by
  simp only [State.perst]
  split
  · rfl
  · rw [foldl_pending _ _ _ (fun s x => by simp)]; simp
@[simp] theorem State.linkDown_pending (s : State) (cause : Nat) :
    (State.linkDown s cause).pending = s.pending := by
  unfold State.linkDown
  (repeat' split) <;> simp
@[simp] theorem State.linkUp_pending (s : State) (speed width : Nat) (bme : Bool) :
    (State.linkUp s speed width bme).pending = s.pending := by
  simp [State.linkUp]
@[simp] theorem State.bankWritten_pending (s : State) (safe ok : Bool) :
    (State.bankWritten s safe ok).pending = s.pending := by
  unfold State.bankWritten
  dsimp only
  (repeat' split) <;> simp
theorem execPorn_pending (lowNs straps : Nat) (s : State) :
    ∃ t, execPorn lowNs straps s = .next t ∧ t.pending = s.pending := ⟨_, rfl, by simp⟩
theorem execRailUndervoltage_pending (ns : Nat) (s : State) :
    ∃ t, execRailUndervoltage ns s = .next t ∧ t.pending = s.pending := ⟨_, rfl, by simp⟩
theorem execWakeComplete_pending (s : State) :
    ∃ t, execWakeComplete s = .next t ∧ t.pending = s.pending := ⟨_, rfl, by simp⟩
theorem execClearComplete_pending (s : State) :
    ∃ t, execClearComplete s = .next t ∧ t.pending = s.pending := ⟨_, rfl, by simp⟩
theorem execImageComplete_pending (s : State) :
    ∃ t, execImageComplete s = .next t ∧ t.pending = s.pending := ⟨_, rfl, by simp⟩
theorem execArmComplete_pending (selfTest : Bool) (s : State) :
    ∃ t, execArmComplete selfTest s = .next t ∧ t.pending = s.pending := ⟨_, rfl, by simp⟩
theorem execPerstn_pending (low : Bool) (s : State) :
    ∃ t, execPerstn low s = .next t ∧ t.pending = s.pending := ⟨_, rfl, by simp⟩
theorem execPcieLinkDown_pending (cause : Nat) (s : State) :
    ∃ t, execPcieLinkDown cause s = .next t ∧ t.pending = s.pending := ⟨_, rfl, by simp⟩
theorem execPcieLinkUp_pending (speed width : Nat) (bme : Bool) (s : State) :
    ∃ t, execPcieLinkUp speed width bme s = .next t ∧ t.pending = s.pending := ⟨_, rfl, by simp⟩
theorem execTamper_pending (powered : Bool) (s : State) :
    ∃ t, execTamper powered s = .next t ∧ t.pending = s.pending := ⟨_, rfl, by simp⟩
theorem execVbatLoss_pending (s : State) : ∃ t, execVbatLoss s = .next t ∧ t.pending = s.pending := ⟨_, rfl, by simp⟩
theorem execVaultEraseComplete_pending (s : State) :
    ∃ t, execVaultEraseComplete s = .next t ∧ t.pending = s.pending := ⟨_, rfl, by simp⟩
theorem execDbgReq_pending (s : State) : ∃ t, execDbgReq s = .next t ∧ t.pending = s.pending := ⟨_, rfl, by simp⟩
theorem execBankWriteComplete_pending (safe ok : Bool) (s : State) :
    ∃ t, execBankWriteComplete safe ok s = .next t ∧ t.pending = s.pending := ⟨_, rfl, by simp⟩

end Sys2Proof.Machine

/-! ### Machine/RopeCopy -/

namespace Sys2Proof.Machine

@[simp] theorem State.sendCopies_pending (s : State) :
    (State.sendCopies s).pending = s.pending := by
  unfold State.sendCopies
  dsimp only
  (repeat' split) <;> simp
end Sys2Proof.Machine

/-! ### Machine/PassageStart -/

namespace Sys2Proof.Machine

@[simp] theorem State.swapNow_pending (s : State) :
    (State.swapNow s).pending = s.pending := by
  unfold State.swapNow
  (repeat' split) <;> simp
@[simp] theorem State.applyTier_pending (s : State) : (State.applyTier s).pending = s.pending := by simp [State.applyTier]
@[simp] theorem State.ringsEnd_pending (s : State) : (State.ringsEnd s).pending = s.pending := by simp [State.ringsEnd]
@[simp] theorem State.enterRun_pending (s : State) (role : Nat) :
    (State.enterRun s role).pending = s.pending := by
  simp [State.enterRun]
@[simp] theorem State.listenStart_pending (s : State) : (State.listenStart s).pending = s.pending := by simp [State.listenStart]
@[simp] theorem State.roleStart_pending (s : State) :
    (State.roleStart s).pending = s.pending := by
  unfold State.roleStart
  dsimp only
  (repeat' split) <;> simp
@[simp] theorem State.faultInstances_pending (s : State) : (State.faultInstances s).pending = s.pending := by
  simp only [State.faultInstances]
  rw [foldl_pending _ _ _ (fun s x => by split <;> simp)]
@[simp] theorem State.singleReact_pending (s : State) : (State.singleReact s).pending = s.pending := by simp [State.singleReact]
@[simp] theorem State.faultReact_pending (s : State) : (State.faultReact s).pending = s.pending := by simp [State.faultReact]
@[simp] theorem State.latchEnc_pending (s : State) (c : Nat) (stamp : U64) : (State.latchEnc s c stamp).pending = s.pending := rfl
@[simp] theorem State.localSamples_pending (s : State) : (State.localSamples s).pending = s.pending := by
  simp only [State.localSamples]
  split
  · rw [foldl_pending _ _ _ (fun s x => by simp)]; simp
  · rw [foldl_pending _ _ _ (fun s x => by simp), foldl_pending _ _ _ (fun s x => by simp)]; simp
@[simp] theorem State.takeDebug_pending (s : State) : (State.takeDebug s).pending = s.pending := by simp [State.takeDebug]
@[simp] theorem State.commandsStart_pending (s : State) :
    (State.commandsStart s).pending = s.pending := by
  simp [State.commandsStart]
@[simp] theorem State.sendHeaders_pending (s : State) : (State.sendHeaders s).pending = s.pending := by simp [State.sendHeaders]
@[simp] theorem State.sendLead_pending (s : State) : (State.sendLead s).pending = s.pending := by simp [State.sendLead]
@[simp] theorem State.upset_pending (s : State) :
    (State.upset s).pending = s.pending := by
  unfold State.upset
  dsimp only
  (repeat' split) <;> simp
@[simp] theorem State.ropeUpset_pending (s : State) :
    (State.ropeUpset s).pending = s.pending := by
  unfold State.ropeUpset
  dsimp only
  (repeat' split) <;> simp
@[simp] theorem State.advancePassage_pending (s : State) :
    (State.advancePassage s).pending = s.pending := by
  simp [State.advancePassage]
@[simp] theorem State.roles_pending (s : State) (n : Word) :
    (State.roles s n).pending = s.pending := by
  unfold State.roles
  dsimp only
  (repeat' split) <;> simp
@[simp] theorem State.actions_pending (s : State) : (State.actions s).pending = s.pending := by simp [State.actions]
@[simp] theorem State.passageStart_pending (s : State) : (State.passageStart s).pending = s.pending := by simp [State.passageStart]
theorem execPassageStart_pending (s : State) :
    ∃ t, execPassageStart s = .next t ∧ t.pending = s.pending := ⟨_, rfl, by simp⟩

end Sys2Proof.Machine

/-! ### Machine/TimetableRows -/

namespace Sys2Proof.Machine

@[simp] theorem State.takeHalf_pending (s : State) (rel : Release) :
    (State.takeHalf s rel).pending = s.pending := by
  simp [State.takeHalf]
@[simp] theorem State.releaseStream_pending (s : State) (rel : Release) :
    (State.releaseStream s rel).pending = s.pending := by
  simp [State.releaseStream]
@[simp] theorem State.releaseTarget_pending (s : State) (target : Nat) :
    (State.releaseTarget s target).pending = s.pending := by
  unfold State.releaseTarget
  (repeat' split) <;> simp
@[simp] theorem State.releaseAt_pending (s : State) (target : Nat) :
    (State.releaseAt s target).pending = s.pending := by
  unfold State.releaseAt
  (repeat' split) <;> simp
@[simp] theorem State.openEntry_pending (s : State) (k i : Nat) : (State.openEntry s k i).pending = s.pending := rfl
@[simp] theorem State.closeEntry_pending (s : State) (k i : Nat) : (State.closeEntry s k i).pending = s.pending := rfl
@[simp] theorem State.runServo_pending (s : State) (i : Nat) : (State.runServo s i).pending = s.pending := by simp [State.runServo]
@[simp] theorem State.runResults_pending (s : State) (e : Entry) :
    (State.runResults s e).pending = s.pending := by
  unfold State.runResults
  dsimp only
  (repeat' split) <;> simp
@[simp] theorem State.runEntry_pending (s : State) (k i : Nat) :
    (State.runEntry s k i).pending = s.pending := by
  unfold State.runEntry
  (repeat' split) <;> simp
@[simp] theorem State.moveWrite_pending (s : State) (a : Nat) (bs : List Byte) :
    (State.moveWrite s a bs).pending = s.pending := by
  simp [State.moveWrite]
@[simp] theorem State.wordFault_pending (s : State) (a : Nat) :
    (State.wordFault s a).pending = s.pending := by
  simp [State.wordFault]
@[simp] theorem State.copyWords_pending (s : State) (k : Nat) (z0 : List (Nat × Nat)) :
    (State.copyWords s k z0).1.pending = s.pending := by
  induction z0 generalizing s with
  | nil => rfl
  | cons p r ih =>
    simp only [State.copyWords]
    split
    · rfl
    · rw [ih]; simp
@[simp] theorem State.moveEntry_pending (s : State) (k i : Nat) :
    (State.moveEntry s k i).pending = s.pending := by
  unfold State.moveEntry
  dsimp only
  (repeat' split) <;> simp
@[simp] theorem State.moveComplete_pending (s : State) (k i : Nat) :
    (State.moveComplete s k i).pending = s.pending := by
  unfold State.moveComplete
  (repeat' split) <;> simp
@[simp] theorem State.gateMiss_pending (s : State) (k i : Nat) (e : Entry) :
    (State.gateMiss s k i e).pending = s.pending := by
  unfold State.gateMiss
  dsimp only
  (repeat' split) <;> simp
@[simp] theorem State.gateEntry_pending (s : State) (k i : Nat) :
    (State.gateEntry s k i).pending = s.pending := by
  unfold State.gateEntry
  (repeat' split) <;> simp
@[simp] theorem State.reserveEntry_pending (s : State) (k i : Nat) :
    (State.reserveEntry s k i).pending = s.pending := by
  unfold State.reserveEntry
  (repeat' split) <;> simp
@[simp] theorem State.overrunEntry_pending (s : State) (k i : Nat) :
    (State.overrunEntry s k i).pending = s.pending := by
  unfold State.overrunEntry
  (repeat' split) <;> simp
@[simp] theorem State.dieLinkFailed_pending (s : State) (link : Nat) :
    (State.dieLinkFailed s link).pending = s.pending := by
  simp [State.dieLinkFailed]
@[simp] theorem State.scrubBad_pending (s : State) (w : Nat) : (State.scrubBad s w).pending = s.pending := by simp [State.scrubBad]
@[simp] theorem State.scrubbed_pending (s : State) (w port : Nat) (bs : List Byte) :
    (State.scrubbed s w port bs).pending = s.pending := by
  simp [State.scrubbed]
@[simp] theorem State.scrubVisit_pending (s : State) (addr symbols : Nat) :
    (State.scrubVisit s addr symbols).pending = s.pending := by
  unfold State.scrubVisit
  (repeat' split) <;> simp
@[simp] theorem State.setLoadDone_pending (s : State) (i : Nat) :
    (State.setLoadDone s i).pending = s.pending := by
  unfold State.setLoadDone
  (repeat' split) <;> simp
@[simp] theorem State.loadDone_pending (s : State) : (State.loadDone s).pending = s.pending := by simp [State.loadDone]
@[simp] theorem State.swapRow_pending (s : State) : (State.swapRow s).pending = s.pending := by simp [State.swapRow]
theorem execRelease_pending (target : Nat) (s : State) :
    ∃ t, execRelease target s = .next t ∧ t.pending = s.pending := ⟨_, rfl, by simp⟩
theorem execRun_pending (island index : Nat) (s : State) :
    ∃ t, execRun island index s = .next t ∧ t.pending = s.pending := ⟨_, rfl, by simp⟩
theorem execMove_pending (island index : Nat) (s : State) :
    ∃ t, execMove island index s = .next t ∧ t.pending = s.pending := ⟨_, rfl, by simp⟩
theorem execMoveComplete_pending (island index : Nat) (s : State) :
    ∃ t, execMoveComplete island index s = .next t ∧ t.pending = s.pending := ⟨_, rfl, by simp⟩
theorem execGate_pending (island index : Nat) (s : State) :
    ∃ t, execGate island index s = .next t ∧ t.pending = s.pending := ⟨_, rfl, by simp⟩
theorem execReserve_pending (island index : Nat) (s : State) :
    ∃ t, execReserve island index s = .next t ∧ t.pending = s.pending := ⟨_, rfl, by simp⟩
theorem execOverrun_pending (island index : Nat) (s : State) :
    ∃ t, execOverrun island index s = .next t ∧ t.pending = s.pending := ⟨_, rfl, by simp⟩
theorem execDieLinkFailure_pending (link : Nat) (s : State) :
    ∃ t, execDieLinkFailure link s = .next t ∧ t.pending = s.pending := ⟨_, rfl, by simp⟩
theorem execScrubVisit_pending (addr symbols : Nat) (s : State) :
    ∃ t, execScrubVisit addr symbols s = .next t ∧ t.pending = s.pending := ⟨_, rfl, by simp⟩
theorem execSupervisionTrip_pending (i : Nat) (s : State) :
    ∃ t, execSupervisionTrip i s = .next t ∧ t.pending = s.pending := ⟨_, rfl, by simp⟩
theorem execStall_pending (g : Nat) (s : State) :
    ∃ t, execStall g s = .next t ∧ t.pending = s.pending := ⟨_, rfl, by simp⟩
theorem execSetLoadComplete_pending (i : Nat) (s : State) :
    ∃ t, execSetLoadComplete i s = .next t ∧ t.pending = s.pending := ⟨_, rfl, by simp⟩
theorem execTtLoadComplete_pending (s : State) :
    ∃ t, execTtLoadComplete s = .next t ∧ t.pending = s.pending := ⟨_, rfl, by simp⟩
theorem execSwap_pending (s : State) : ∃ t, execSwap s = .next t ∧ t.pending = s.pending := ⟨_, rfl, by simp⟩

end Sys2Proof.Machine
end

