-- ==== Sys2Proof/Laws/Memory.lean ====
section
/-! SUPPORT. Every operation keeps the canonical form of the three memories. -/

/-! ### Machine/Access -/

namespace Sys2Proof.Machine

/-! ### The memory operations -/

@[simp] theorem Mem.setByte_wf {m : Mem} (h : Memory.wf m = true) (a : Nat) (b : Byte) : Memory.wf (m.setByte a b) = true :=
  Tab.wf_put a b h

@[simp] theorem Mem.setBytes_wf {m : Mem} (h : Memory.wf m = true) (a : Nat) (bs : List Byte) :
    Memory.wf (m.setBytes a bs) = true := by
  induction bs generalizing m a with
  | nil => exact h
  | cons b r ih => exact ih (Mem.setByte_wf h a b) (a + 1)

@[simp] theorem Mem.setWord_wf {m : Mem} (h : Memory.wf m = true) (a : Nat) (w : Word) : Memory.wf (m.setWord a w) = true := by
  simp (maxDischargeDepth := 40) [Mem.setWord, h]

@[simp] theorem Mem.setLine_wf {m : Mem} (h : Memory.wf m = true) (a : Nat) (l : Line) : Memory.wf (m.setLine a l) = true := by
  simp (maxDischargeDepth := 40) [Mem.setLine, h]

@[simp] theorem Memory.wf_nil : Memory.wf [] = true := rfl

/-! ### The states of canonical memories -/

@[simp] theorem State.mem_wf {s : State} (h : s.memoryOk = true) : Memory.wf s.mem = true := by
  simp only [State.memoryOk, Bool.and_eq_true] at h; exact h.1.1
@[simp] theorem State.mram_wf {s : State} (h : s.memoryOk = true) : Memory.wf s.store.mram = true := by
  simp only [State.memoryOk, Bool.and_eq_true] at h; exact h.1.2
@[simp] theorem State.memory_wf {s : State} (h : s.memoryOk = true) : Memory.wf s.host.memory = true := by
  simp only [State.memoryOk, Bool.and_eq_true] at h; exact h.2

@[simp] theorem State.memoryOk_mk (pending : List Instr) (regs : Regs) (tt : Tt) (faults : Faults) (time : TimeBase) (plant : Plant)
    (axes : Tab Axis) (gens : Tab Gen) (chans : Tab StepChan) (encs : Tab Enc) (sers : Tab Ser) (rems : Tab Rem)
    (rings : Tab Ring) (acq : Acq) (units : Tab Lux) (sched : Sched) (gov : Gov) (rope : Rope) (safe : Safe) (host : HostIf)
    (perf : Perf) (store : Store) (mem : Mem) (bad badSeen : List Nat) (wrong : Tab Nat) (freeCtr : Nat) :
    (State.mk pending regs tt faults time plant axes gens chans encs sers rems rings acq units sched gov rope safe host perf store
      mem bad badSeen wrong freeCtr).memoryOk = (Memory.wf mem && Memory.wf store.mram && Memory.wf host.memory) := rfl

/-- A fold over a list keeps what each of its steps keeps. -/
@[simp] theorem foldl_memoryOk {α : Type} (f : State → α → State) (l : List α) (s : State) (hs : s.memoryOk = true)
    (h : ∀ s x, s.memoryOk = true → (f s x).memoryOk = true) : (l.foldl f s).memoryOk = true := by
  induction l generalizing s with
  | nil => exact hs
  | cons a r ih => exact ih _ (h s a hs)

@[simp] theorem ite_memoryOk (p : Prop) [Decidable p] (a b : State) :
    (if p then a else b).memoryOk = if p then a.memoryOk else b.memoryOk := by split <;> rfl

@[simp] theorem ite_wf (p : Prop) [Decidable p] (a b : Mem) :
    Memory.wf (if p then a else b) = if p then Memory.wf a else Memory.wf b := by split <;> rfl

@[simp] theorem State.setCfg_memoryOk (s : State) (off : Nat) (w : Word) (hs : s.memoryOk = true) :
    (State.setCfg s off w).memoryOk = true := by
  simp (maxDischargeDepth := 40) [State.setCfg, hs]
@[simp] theorem State.setStg_memoryOk (s : State) (off : Nat) (w : Word) (hs : s.memoryOk = true) :
    (State.setStg s off w).memoryOk = true := by
  simp (maxDischargeDepth := 40) [State.setStg, hs]
@[simp] theorem State.commitRegs_memoryOk (s : State) (z0 : List Nat)
    (hs : s.memoryOk = true) : (State.commitRegs s z0).memoryOk = true := by
  induction z0 generalizing s with
  | nil => simpa [State.commitRegs] using hs
  | cons o r ih => simp (maxDischargeDepth := 40) [State.commitRegs, ih, hs]
@[simp] theorem State.setAxis_memoryOk (s : State) (i : Nat) (a : Axis) (hs : s.memoryOk = true) :
    (State.setAxis s i a).memoryOk = true := by
  simp (maxDischargeDepth := 40) [State.setAxis, hs]
@[simp] theorem State.setGen_memoryOk (s : State) (g : Nat) (x : Gen) (hs : s.memoryOk = true) :
    (State.setGen s g x).memoryOk = true := by
  simp (maxDischargeDepth := 40) [State.setGen, hs]
@[simp] theorem State.setChan_memoryOk (s : State) (c : Nat) (x : StepChan) (hs : s.memoryOk = true) :
    (State.setChan s c x).memoryOk = true := by
  simp (maxDischargeDepth := 40) [State.setChan, hs]
@[simp] theorem State.setEnc_memoryOk (s : State) (c : Nat) (x : Enc) (hs : s.memoryOk = true) :
    (State.setEnc s c x).memoryOk = true := by
  simp (maxDischargeDepth := 40) [State.setEnc, hs]
@[simp] theorem State.setSer_memoryOk (s : State) (c : Nat) (x : Ser) (hs : s.memoryOk = true) :
    (State.setSer s c x).memoryOk = true := by
  simp (maxDischargeDepth := 40) [State.setSer, hs]
@[simp] theorem State.setRem_memoryOk (s : State) (c : Nat) (x : Rem) (hs : s.memoryOk = true) :
    (State.setRem s c x).memoryOk = true := by
  simp (maxDischargeDepth := 40) [State.setRem, hs]
@[simp] theorem State.forEach_memoryOk (s : State) (f : State → Nat → State) (l : List Nat) (hf : ∀ (y0 : State) (y1 : Nat),
    y0.memoryOk = true → (f y0 y1).memoryOk = true) (hs : s.memoryOk = true) :
    (State.forEach s f l).memoryOk = true := by
  simp only [State.forEach]
  simp_all (maxDischargeDepth := 40)
@[simp] theorem State.tick_memoryOk (s : State) (hs : s.memoryOk = true) :
    (State.tick s).2.memoryOk = true := by
  simp (maxDischargeDepth := 40) [State.tick, hs]

@[simp] theorem State.store'_memoryOk (s : State) (a : Nat) (bs : List Byte) (hs : s.memoryOk = true) :
    (State.store' s a bs).memoryOk = true := by
  simp (maxDischargeDepth := 40) [State.store', hs]
end Sys2Proof.Machine

/-! ### Machine/AxisOps -/

namespace Sys2Proof.Machine

@[simp] theorem State.setAxMap_memoryOk (s : State) (i k f : Nat) (hs : s.memoryOk = true) :
    (State.setAxMap s i k f).memoryOk = true := by
  unfold State.setAxMap
  dsimp only
  (repeat' split) <;> simp (maxDischargeDepth := 40) [hs]
@[simp] theorem State.enterAx_memoryOk (s : State) (i : Nat) (st : AxSt) (hs : s.memoryOk = true) :
    (State.enterAx s i st).memoryOk = true := by
  simp (maxDischargeDepth := 40) [State.enterAx, hs]
@[simp] theorem State.applyReaction_memoryOk (s : State) (i : Nat) (l : Latch) (hs : s.memoryOk = true) :
    (State.applyReaction s i l).memoryOk = true := by
  unfold State.applyReaction
  dsimp only
  (repeat' split) <;> simp (maxDischargeDepth := 40) [hs]
@[simp] theorem State.applyReactions_memoryOk (s : State) (i : Nat) (hs : s.memoryOk = true) :
    (State.applyReactions s i).memoryOk = true := by
  unfold State.applyReactions
  dsimp only
  (repeat' split) <;> simp_all (maxDischargeDepth := 40)
@[simp] theorem State.raise_memoryOk (s : State) (i : Nat) (l : Latch) (hs : s.memoryOk = true) :
    (State.raise s i l).memoryOk = true := by
  simp (maxDischargeDepth := 40) [State.raise, hs]
@[simp] theorem State.raiseFeedback_memoryOk (s : State) (ch : Nat) (hs : s.memoryOk = true) :
    (State.raiseFeedback s ch).memoryOk = true := by
  simp only [State.raiseFeedback]
  simp_all (maxDischargeDepth := 40)
@[simp] theorem State.settleSelector_memoryOk (s : State) (i : Nat) (hs : s.memoryOk = true) :
    (State.settleSelector s i).memoryOk = true := by
  unfold State.settleSelector
  dsimp only
  (repeat' split) <;> simp (maxDischargeDepth := 40) [hs]
@[simp] theorem State.advanceSelector_memoryOk (s : State) (i : Nat) (hs : s.memoryOk = true) :
    (State.advanceSelector s i).memoryOk = true := by
  unfold State.advanceSelector
  dsimp only
  (repeat' split) <;> simp (maxDischargeDepth := 40) [hs]
@[simp] theorem State.evaluateSchedule_memoryOk (s : State) (i : Nat) (sigma : Word) (hs : s.memoryOk = true) :
    (State.evaluateSchedule s i sigma).memoryOk = true := by
  simp (maxDischargeDepth := 40) [State.evaluateSchedule, hs]
@[simp] theorem State.delayReport_memoryOk (s : State) (i : Nat) (inp : ServoInput) (hs : s.memoryOk = true) :
    (State.delayReport s i inp).memoryOk = true := by
  simp (maxDischargeDepth := 40) [State.delayReport, hs]
@[simp] theorem State.feedbackCheck_memoryOk (s : State) (i ch : Nat) (hs : s.memoryOk = true) :
    (State.feedbackCheck s i ch).memoryOk = true := by
  simp (maxDischargeDepth := 40) [State.feedbackCheck, hs]
@[simp] theorem State.ageCheck_memoryOk (s : State) (i age : Nat) (hs : s.memoryOk = true) :
    (State.ageCheck s i age).memoryOk = true := by
  simp (maxDischargeDepth := 40) [State.ageCheck, hs]
@[simp] theorem State.servoRecords_memoryOk (s : State) (i : Nat) (w : ServoWire) (inp : ServoInput) (v : Stage) (old : Axis)
    (rec32 : List Byte) (hs : s.memoryOk = true) :
    (State.servoRecords s i w inp v old rec32).memoryOk = true := by
  unfold State.servoRecords
  (repeat' split) <;> simp (maxDischargeDepth := 40) [hs]
@[simp] theorem State.servoPassage_memoryOk (s : State) (i : Nat) (noScale : BitVec 24 × BitVec 24) (hs : s.memoryOk = true) :
    (State.servoPassage s i noScale).memoryOk = true := by
  unfold State.servoPassage
  dsimp only
  (repeat' split) <;> simp (maxDischargeDepth := 40) [hs]
@[simp] theorem State.plausibility_memoryOk (s : State) (i : Nat) (hs : s.memoryOk = true) :
    (State.plausibility s i).memoryOk = true := by
  unfold State.plausibility
  dsimp only
  (repeat' split) <;> simp (maxDischargeDepth := 40) [hs]
@[simp] theorem State.startLoad_memoryOk (s : State) (i k f : Nat) (words : List Line) (iMax : Option Word)
    (hs : s.memoryOk = true) :
    (State.startLoad s i k f words iMax).memoryOk = true := by
  simp (maxDischargeDepth := 40) [State.startLoad, hs]
@[simp] theorem State.storeSet_memoryOk (s : State) (ae base stride f : Nat) (z0 : List Line) (z1 : Nat)
    (hs : s.memoryOk = true) : (State.storeSet s ae base stride f z0 z1).memoryOk = true := by
  induction z0 generalizing s z1 with
  | nil => simpa [State.storeSet] using hs
  | cons l r ih => simp (maxDischargeDepth := 40) [State.storeSet, ih, hs]
@[simp] theorem State.finishLoad_memoryOk (s : State) (i : Nat) (w : ServoWire) (l : SetLoad) (hs : s.memoryOk = true) :
    (State.finishLoad s i w l).memoryOk = true := by
  simp (maxDischargeDepth := 40) [State.finishLoad, hs]

end Sys2Proof.Machine

/-! ### Machine/AxisCmds -/

namespace Sys2Proof.Machine

@[simp] theorem cmdAxEnable_memoryOk (held : Bool) (i mode : Nat) (s : State) (hs : s.memoryOk = true) :
    (cmdAxEnable held i mode s).2.memoryOk = true := by
  simp (maxDischargeDepth := 40) [cmdAxEnable, hs]
@[simp] theorem cmdAxDisable_memoryOk (i : Nat) (s : State) (hs : s.memoryOk = true) :
    (cmdAxDisable i s).2.memoryOk = true := by
  simp (maxDischargeDepth := 40) [cmdAxDisable, hs]
@[simp] theorem cmdAxMode_memoryOk (i mode noPreset : Nat) (s : State) (hs : s.memoryOk = true) :
    (cmdAxMode i mode noPreset s).2.memoryOk = true := by
  simp (maxDischargeDepth := 40) [cmdAxMode, hs]
@[simp] theorem cmdAxCommit_memoryOk (i : Nat) (s : State) (hs : s.memoryOk = true) :
    (cmdAxCommit i s).2.memoryOk = true := by
  simp (maxDischargeDepth := 40) [cmdAxCommit, hs]
@[simp] theorem cmdAxRetune_memoryOk (i k : Nat) (s : State) (hs : s.memoryOk = true) :
    (cmdAxRetune i k s).2.memoryOk = true := by
  unfold cmdAxRetune
  (repeat' split) <;> simp (maxDischargeDepth := 40) [hs]
@[simp] theorem cmdAxSetLoad_memoryOk (i k f : Nat) (s : State) (hs : s.memoryOk = true) :
    (cmdAxSetLoad i k f s).2.memoryOk = true := by
  unfold cmdAxSetLoad
  (repeat' split) <;> simp (maxDischargeDepth := 40) [hs]
@[simp] theorem cmdAxClear_memoryOk (released : Bool) (i : Nat) (s : State) (hs : s.memoryOk = true) :
    (cmdAxClear released i s).2.memoryOk = true := by
  simp (maxDischargeDepth := 40) [cmdAxClear, hs]
@[simp] theorem State.supervisionTrip_memoryOk (s : State) (i : Nat) (hs : s.memoryOk = true) :
    (State.supervisionTrip s i).memoryOk = true := by
  simp (maxDischargeDepth := 40) [State.supervisionTrip, hs]
@[simp] theorem cmdMvQueue_memoryOk (g : Nat) (target : Int) (vmax : Word) (relative blendIn : Bool) (s : State)
    (hs : s.memoryOk = true) :
    (cmdMvQueue g target vmax relative blendIn s).2.memoryOk = true := by
  simp (maxDischargeDepth := 40) [cmdMvQueue, hs]
@[simp] theorem cmdMvChange_memoryOk (g : Nat) (target : Int) (vmax : Word) (chTarget chVmax : Bool) (s : State)
    (hs : s.memoryOk = true) :
    (cmdMvChange g target vmax chTarget chVmax s).2.memoryOk = true := by
  simp (maxDischargeDepth := 40) [cmdMvChange, hs]
@[simp] theorem cmdMvFlush_memoryOk (g : Nat) (s : State) (hs : s.memoryOk = true) :
    (cmdMvFlush g s).2.memoryOk = true := by
  simp (maxDischargeDepth := 40) [cmdMvFlush, hs]
@[simp] theorem cmdMvQstop_memoryOk (g : Nat) (s : State) (hs : s.memoryOk = true) :
    (cmdMvQstop g s).2.memoryOk = true := by
  simp (maxDischargeDepth := 40) [cmdMvQstop, hs]
@[simp] theorem State.stopChannel_memoryOk (s : State) (c cause : Nat) (hs : s.memoryOk = true) :
    (State.stopChannel s c cause).memoryOk = true := by
  simp (maxDischargeDepth := 40) [State.stopChannel, hs]
@[simp] theorem cmdMvHstop_memoryOk (g : Nat) (s : State) (hs : s.memoryOk = true) :
    (cmdMvHstop g s).2.memoryOk = true := by
  simp (maxDischargeDepth := 40) [cmdMvHstop, hs]
@[simp] theorem cmdMvHome_memoryOk (g method dir : Nat) (vsearch : Word) (homePos : Int) (range : Nat) (fly : Bool)
    (s : State) (hs : s.memoryOk = true) :
    (cmdMvHome g method dir vsearch homePos range fly s).2.memoryOk = true := by
  simp (maxDischargeDepth := 40) [cmdMvHome, hs]
@[simp] theorem cmdPfCommit_memoryOk (g : Nat) (s : State) (hs : s.memoryOk = true) :
    (cmdPfCommit g s).2.memoryOk = true := by
  simp (maxDischargeDepth := 40) [cmdPfCommit, hs]
@[simp] theorem cmdChEnable_memoryOk (blocked : Bool) (c : Nat) (enable : Bool) (s : State) (hs : s.memoryOk = true) :
    (cmdChEnable blocked c enable s).2.memoryOk = true := by
  simp (maxDischargeDepth := 40) [cmdChEnable, hs]
@[simp] theorem State.stallNow_memoryOk (s : State) (g : Nat) (hs : s.memoryOk = true) :
    (State.stallNow s g).memoryOk = true := by
  simp (maxDischargeDepth := 40) [State.stallNow, hs]
@[simp] theorem State.fbUnstage_memoryOk (s : State) (ch : Nat) (hs : s.memoryOk = true) :
    (State.fbUnstage s ch).memoryOk = true := by
  simp (maxDischargeDepth := 40) [State.fbUnstage, hs]
@[simp] theorem cmdFbCommit_memoryOk (ch : Nat) (s : State) (hs : s.memoryOk = true) :
    (cmdFbCommit ch s).2.memoryOk = true := by
  simp (maxDischargeDepth := 40) [cmdFbCommit, hs]
@[simp] theorem cmdFbClear_memoryOk (ch : Nat) (s : State) (hs : s.memoryOk = true) :
    (cmdFbClear ch s).2.memoryOk = true := by
  simp (maxDischargeDepth := 40) [cmdFbClear, hs]
@[simp] theorem State.fbRaise_memoryOk (s : State) (ch cause : Nat) (hs : s.memoryOk = true) :
    (State.fbRaise s ch cause).memoryOk = true := by
  simp (maxDischargeDepth := 40) [State.fbRaise, hs]

end Sys2Proof.Machine

/-! ### Machine/GenOps -/

namespace Sys2Proof.Machine

@[simp] theorem State.sampleCount_memoryOk (s : State) (c : Nat) (hs : s.memoryOk = true) :
    (State.sampleCount s c).memoryOk = true := by
  simp (maxDischargeDepth := 40) [State.sampleCount, hs]
@[simp] theorem State.sampleSwitches_memoryOk (s : State) (g : Nat) (hs : s.memoryOk = true) :
    (State.sampleSwitches s g).memoryOk = true := by
  simp (maxDischargeDepth := 40) [State.sampleSwitches, hs]
@[simp] theorem State.genPassage_memoryOk (s : State) (g : Nat) (hs : s.memoryOk = true) :
    (State.genPassage s g).memoryOk = true := by
  unfold State.genPassage
  (repeat' split) <;> simp (maxDischargeDepth := 40) [hs]
@[simp] theorem State.stepperRecord_memoryOk (s : State) (i : Nat) (hs : s.memoryOk = true) :
    (State.stepperRecord s i).memoryOk = true := by
  unfold State.stepperRecord
  (repeat' split) <;> simp (maxDischargeDepth := 40) [hs]
@[simp] theorem State.stepperPassage_memoryOk (s : State) (i : Nat) (hs : s.memoryOk = true) :
    (State.stepperPassage s i).memoryOk = true := by
  unfold State.stepperPassage
  (repeat' split) <;> simp (maxDischargeDepth := 40) [hs]

end Sys2Proof.Machine

/-! ### Machine/Ops -/

namespace Sys2Proof.Machine

@[simp] theorem hostBytes_wf {m : Mem} (h : Memory.wf m = true) (a : Nat) (bs : List Byte) :
    Memory.wf (hostBytes m a bs) = true := by
  induction bs generalizing m a with
  | nil => exact h
  | cons b r ih => exact ih (Tab.wf_put a b h) (a + 1)

@[simp] theorem Store.append_wf {x : Store} (h : Memory.wf x.mram = true) (passage : Word) (time : U64)
    (origin kind code status : Nat)
    (subject value : Word) : Memory.wf (x.append passage time origin kind code status subject value).mram = true := by
  simp (maxDischargeDepth := 40) [Store.append, h]

@[simp] theorem State.dma_memoryOk (s : State) (a : Nat) (bs : List Byte) (hs : s.memoryOk = true) :
    (State.dma s a bs).memoryOk = true := by
  simp (maxDischargeDepth := 40) [State.dma, hs]
@[simp] theorem State.logNow_memoryOk (s : State) (passage : Word) (origin kind code status : Nat) (subject value : Word)
    (hs : s.memoryOk = true) :
    (State.logNow s passage origin kind code status subject value).memoryOk = true := by
  simp (maxDischargeDepth := 40) [State.logNow, hs]
@[simp] theorem State.logReserved_memoryOk (s : State) (passage : Word) (origin kind code status : Nat) (subject value : Word)
    (hs : s.memoryOk = true) :
    (State.logReserved s passage origin kind code status subject value).memoryOk = true := by
  simp (maxDischargeDepth := 40) [State.logReserved, hs]
@[simp] theorem State.logEvent_memoryOk (s : State) (origin kind code : Nat) (subject value : Nat) (hs : s.memoryOk = true) :
    (State.logEvent s origin kind code subject value).memoryOk = true := by
  simp (maxDischargeDepth := 40) [State.logEvent, hs]
@[simp] theorem State.accessError_memoryOk (s : State) (kind : Nat) (bar2 : Bool) (off : Nat) (hs : s.memoryOk = true) :
    (State.accessError s kind bar2 off).memoryOk = true := by
  simp (maxDischargeDepth := 40) [State.accessError, hs]
@[simp] theorem State.recordFault_memoryOk (s : State) (f : FaultRec) (hs : s.memoryOk = true) :
    (State.recordFault s f).memoryOk = true := by
  simp (maxDischargeDepth := 40) [State.recordFault, hs]
@[simp] theorem State.flag_memoryOk (s : State) (level kind identity : Nat) (hs : s.memoryOk = true) :
    (State.flag s level kind identity).memoryOk = true := by
  simp (maxDischargeDepth := 40) [State.flag, hs]
@[simp] theorem State.recordFaults_memoryOk (s : State) (hs : s.memoryOk = true) :
    (State.recordFaults s).memoryOk = true := by
  unfold State.recordFaults
  dsimp only
  simp_all (maxDischargeDepth := 40)
@[simp] theorem State.ringTx_memoryOk (s : State) (on : Bool) (hs : s.memoryOk = true) :
    (State.ringTx s on).memoryOk = true := by
  simp (maxDischargeDepth := 40) [State.ringTx, hs]
@[simp] theorem State.packageFault_memoryOk (s : State) (kind : Nat) (hs : s.memoryOk = true) :
    (State.packageFault s kind).memoryOk = true := by
  unfold State.packageFault
  dsimp only
  (repeat' split) <;> simp (maxDischargeDepth := 40) [hs]
@[simp] theorem State.faultClusters_memoryOk (s : State) (kind : Nat) (ks : List Nat) (hs : s.memoryOk = true) :
    (State.faultClusters s kind ks).memoryOk = true := by
  unfold State.faultClusters
  dsimp only
  simp_all (maxDischargeDepth := 40)
@[simp] theorem State.unitFault_memoryOk (s : State) (kind identity : Nat) (hs : s.memoryOk = true) :
    (State.unitFault s kind identity).memoryOk = true := by
  unfold State.unitFault
  (repeat' split) <;> simp (maxDischargeDepth := 40) [hs]
@[simp] theorem State.result_memoryOk (s : State) (seq : Word) (tag opc status : Nat) (detail passage : Word)
    (hs : s.memoryOk = true) :
    (State.result s seq tag opc status detail passage).memoryOk = true := by
  simp (maxDischargeDepth := 40) [State.result, hs]
@[simp] theorem State.setAside_memoryOk (s : State) (c : Ctx) (i : CmdInfo) (hs : s.memoryOk = true) :
    (State.setAside s c i).2.memoryOk = true := by
  simp (maxDischargeDepth := 40) [State.setAside, hs]
@[simp] theorem State.intent_memoryOk (s : State) (c : Ctx) (i : CmdInfo) (effect : Word) (aside : Nat) (hs : s.memoryOk = true) :
    (State.intent s c i effect aside).memoryOk = true := by
  simp (maxDischargeDepth := 40) [State.intent, hs]
@[simp] theorem State.judge_memoryOk (s : State) (c : Ctx) (i : CmdInfo) (core : State → Answer) (hcore : ∀ (y0 : State),
    y0.memoryOk = true → (core y0).state.memoryOk = true) (hs : s.memoryOk = true) :
    (State.judge s c i core).2.2.memoryOk = true := by
  unfold State.judge
  dsimp only
  (repeat' split) <;> simp (maxDischargeDepth := 40) [hs, hcore]
@[simp] theorem State.logOutcome_memoryOk (s : State) (c : Ctx) (i : CmdInfo) (aside code : Nat) (hs : s.memoryOk = true) :
    (State.logOutcome s c i aside code).memoryOk = true := by
  unfold State.logOutcome
  (repeat' split) <;> simp_all (maxDischargeDepth := 40)
@[simp] theorem State.settle_memoryOk (s : State) (c : Ctx) (i : CmdInfo) (core : State → Answer) (aside : Nat)
    (hcore : ∀ (y0 : State), y0.memoryOk = true → (core y0).state.memoryOk = true) (hs : s.memoryOk = true) :
    (State.settle s c i core aside).2.2.memoryOk = true := by
  exact State.logOutcome_memoryOk _ _ _ _ _ (State.judge_memoryOk s c i core hcore hs)
@[simp] theorem State.finish_memoryOk (s : State) (c : Ctx) (i : CmdInfo) (core : State → Answer) (aside : Nat)
    (hcore : ∀ (y0 : State), y0.memoryOk = true → (core y0).state.memoryOk = true) (hs : s.memoryOk = true) :
    (State.finish s c i core aside).memoryOk = true := by
  unfold State.finish
  dsimp only
  simp_all (maxDischargeDepth := 40)
@[simp] theorem State.command_memoryOk (s : State) (c : Ctx) (i : CmdInfo) (core : State → Answer) (hcore : ∀ (y0 : State),
    y0.memoryOk = true → (core y0).state.memoryOk = true) (hs : s.memoryOk = true) :
    (State.command s c i core).memoryOk = true := by
  unfold State.command
  dsimp only
  simp_all (maxDischargeDepth := 40)
@[simp] theorem answer_memoryOk (r : Refusals × State) (hs : r.2.memoryOk = true) :
    (answer r).state.memoryOk = true := by
  simp (maxDischargeDepth := 40) [answer, hs]
@[simp] theorem answerAt_memoryOk (detail : Nat) (r : Refusals × State) (hs : r.2.memoryOk = true) :
    (answerAt detail r).state.memoryOk = true := by
  simp (maxDischargeDepth := 40) [answerAt, hs]

@[simp] theorem State.acqWordFault_memoryOk (s : State) (a : Nat) (hs : s.memoryOk = true) :
    (State.acqWordFault s a).memoryOk = true := by simp (maxDischargeDepth := 40) [State.acqWordFault, hs]
@[simp] theorem State.idieFault_memoryOk (s : State) (a : Nat) (hs : s.memoryOk = true) :
    (State.idieFault s a).memoryOk = true := by
  simp (maxDischargeDepth := 40) [State.idieFault, hs]

end Sys2Proof.Machine

/-! ### Machine/PerfOps -/

namespace Sys2Proof.Machine

@[simp] theorem State.bump_memoryOk (s : State) (z0 : Nat) (z1 : Nat) (z2 : Nat)
    (hs : s.memoryOk = true) : (State.bump s z0 z1 z2).memoryOk = true := by
  induction z0 generalizing s z1 z2 with
  | zero => simpa [State.bump] using hs
  | succ n ih => simp (maxDischargeDepth := 40) [State.bump, ih, hs]
@[simp] theorem State.count_memoryOk (s : State) (event unit n : Nat) (hs : s.memoryOk = true) :
    (State.count s event unit n).memoryOk = true := by
  simp only [State.count]
  (repeat' split) <;> simp_all (maxDischargeDepth := 40)
@[simp] theorem State.countFree_memoryOk (s : State) (hs : s.memoryOk = true) :
    (State.countFree s).memoryOk = true := by
  unfold State.countFree
  dsimp only
  (repeat' split) <;> simp_all (maxDischargeDepth := 40)

end Sys2Proof.Machine

/-! ### Machine/SchedOps -/

namespace Sys2Proof.Machine

@[simp] theorem State.setDescState_memoryOk (s : State) (d st : Nat) (hs : s.memoryOk = true) :
    (State.setDescState s d st).memoryOk = true := by
  simp (maxDischargeDepth := 40) [State.setDescState, hs]
@[simp] theorem State.setCore_memoryOk (s : State) (c : Nat) (x : Core) (hs : s.memoryOk = true) :
    (State.setCore s c x).memoryOk = true := by
  simp (maxDischargeDepth := 40) [State.setCore, hs]
@[simp] theorem State.setEntry_memoryOk (s : State) (d : Nat) (m : Option Match) (hs : s.memoryOk = true) :
    (State.setEntry s d m).memoryOk = true := by
  simp (maxDischargeDepth := 40) [State.setEntry, hs]
@[simp] theorem State.discardTokens_memoryOk (s : State) (n : Nat) (hs : s.memoryOk = true) :
    (State.discardTokens s n).memoryOk = true := by
  simp (maxDischargeDepth := 40) [State.discardTokens, hs]
@[simp] theorem State.prefetchOne_memoryOk (s : State) (c : Nat) (hs : s.memoryOk = true) :
    (State.prefetchOne s c).memoryOk = true := by
  unfold State.prefetchOne
  dsimp only
  (repeat' split) <;> simp (maxDischargeDepth := 40) [hs]
@[simp] theorem State.prefetch_memoryOk (s : State) (hs : s.memoryOk = true) :
    (State.prefetch s).memoryOk = true := by
  simp only [State.prefetch]
  (repeat' split) <;> simp_all (maxDischargeDepth := 40)
@[simp] theorem State.makeReady_memoryOk (s : State) (d : Nat) (resume : Bool) (hs : s.memoryOk = true) :
    (State.makeReady s d resume).memoryOk = true := by
  unfold State.makeReady
  dsimp only
  (repeat' split) <;> simp_all (maxDischargeDepth := 40)
@[simp] theorem State.checkComplete_memoryOk (s : State) (d : Nat) (hs : s.memoryOk = true) :
    (State.checkComplete s d).memoryOk = true := by
  unfold State.checkComplete
  (repeat' split) <;> simp (maxDischargeDepth := 40) [hs]
@[simp] theorem State.readDesc_memoryOk (s : State) (d : Nat) (hs : s.memoryOk = true) :
    (State.readDesc s d).memoryOk = true := by
  unfold State.readDesc
  (repeat' split) <;> simp (maxDischargeDepth := 40) [hs]
@[simp] theorem State.token_memoryOk (s : State) (d j : Nat) (v : Word) (hs : s.memoryOk = true) :
    (State.token s d j v).1.memoryOk = true := by
  simp only [State.token]
  (repeat' split) <;> simp (maxDischargeDepth := 40) [hs]
@[simp] theorem State.setPending_memoryOk (s : State) (k : Nat) (b : Bool) (hs : s.memoryOk = true) :
    (State.setPending s k b).memoryOk = true := by
  simp (maxDischargeDepth := 40) [State.setPending, hs]
@[simp] theorem State.offer_memoryOk (s : State) (k : Nat) (hs : s.memoryOk = true) :
    (State.offer s k).memoryOk = true := by
  simp (maxDischargeDepth := 40) [State.offer, hs]
@[simp] theorem State.setLux_memoryOk (s : State) (u : Nat) (x : Lux) (hs : s.memoryOk = true) :
    (State.setLux s u x).memoryOk = true := by
  simp (maxDischargeDepth := 40) [State.setLux, hs]
@[simp] theorem State.takeReady_memoryOk (s : State) (d : Nat) (hs : s.memoryOk = true) :
    (State.takeReady s d).memoryOk = true := by
  simp (maxDischargeDepth := 40) [State.takeReady, hs]
@[simp] theorem State.loadTask_memoryOk (s : State) (c d : Nat) (hs : s.memoryOk = true) :
    (State.loadTask s c d).memoryOk = true := by
  unfold State.loadTask
  dsimp only
  split <;> simp (maxDischargeDepth := 40) [hs]
@[simp] theorem State.setRunning_memoryOk (s : State) (c d : Nat) (hs : s.memoryOk = true) :
    (State.setRunning s c d).memoryOk = true := by
  simp only [State.setRunning]
  exact State.store'_memoryOk _ _ _ (State.store'_memoryOk _ _ _ (State.setDescState_memoryOk _ _ _
    (State.takeReady_memoryOk _ _ hs)))
theorem withSched_memoryOk (s : State) (x : Sched) (hs : s.memoryOk = true) : ({ s with sched := x }).memoryOk = true := hs
@[simp] theorem State.runTask_memoryOk (s : State) (c d : Nat) (hs : s.memoryOk = true) :
    (State.runTask s c d).memoryOk = true := by
  simp only [State.runTask]
  exact State.prefetch_memoryOk _ (State.count_memoryOk _ _ _ _ (State.setCore_memoryOk _ _ _
    (withSched_memoryOk _ _ (State.setRunning_memoryOk _ _ _ (State.loadTask_memoryOk _ _ _ hs)))))
@[simp] theorem State.startTask_memoryOk (s : State) (c : Nat) (hs : s.memoryOk = true) :
    (State.startTask s c).memoryOk = true := by
  unfold State.startTask
  (repeat' split) <;> simp (maxDischargeDepth := 40) [hs]
@[simp] theorem State.endTask_memoryOk (s : State) (c : Nat) (hs : s.memoryOk = true) :
    (State.endTask s c).memoryOk = true := by
  unfold State.endTask
  (repeat' split) <;> simp (maxDischargeDepth := 40) [hs]
@[simp] theorem State.coreOut_memoryOk (s : State) (c : Nat) (hs : s.memoryOk = true) :
    (State.coreOut s c).memoryOk = true := by
  unfold State.coreOut
  dsimp only
  simp_all (maxDischargeDepth := 40)
@[simp] theorem State.delayTask_memoryOk (s : State) (c d dreg n : Nat) (micro : Bool) (next : Nat) (hs : s.memoryOk = true) :
    (State.delayTask s c d dreg n micro next).memoryOk = true := by
  simp (maxDischargeDepth := 40) [State.delayTask, hs]
@[simp] theorem State.closeWindow_memoryOk (s : State) (hs : s.memoryOk = true) :
    (State.closeWindow s).memoryOk = true := by
  unfold State.closeWindow
  dsimp only
  simp_all (maxDischargeDepth := 40)
@[simp] theorem State.openWindow_memoryOk (s : State) (hs : s.memoryOk = true) :
    (State.openWindow s).memoryOk = true := by
  unfold State.openWindow
  dsimp only
  simp_all (maxDischargeDepth := 40)

end Sys2Proof.Machine

/-! ### Machine/EntryOps -/

namespace Sys2Proof.Machine

theorem withBadSeen_memoryOk (s : State) (l : List Nat) (hs : s.memoryOk = true) : ({ s with badSeen := l }).memoryOk = true := hs

@[simp] theorem State.ageOutputs_memoryOk (s : State) (e : Entry) (hs : s.memoryOk = true) :
    (State.ageOutputs s e).memoryOk = true := by
  simp (maxDischargeDepth := 40) [State.ageOutputs, hs]
@[simp] theorem State.abortBooks_memoryOk (s : State) (k i : Nat) (hs : s.memoryOk = true) :
    (State.abortBooks s k i).memoryOk = true := by
  unfold State.abortBooks
  (repeat' split) <;> simp (maxDischargeDepth := 40) [hs]
@[simp] theorem State.abortEntry_memoryOk (s : State) (k i kind : Nat) (hs : s.memoryOk = true) :
    (State.abortEntry s k i kind).memoryOk = true := by
  unfold State.abortEntry
  (repeat' split) <;> simp (maxDischargeDepth := 40) [hs]
@[simp] theorem State.stopUnit_memoryOk (s : State) (u kind : Nat) (hs : s.memoryOk = true) :
    (State.stopUnit s u kind).memoryOk = true := by
  unfold State.stopUnit
  dsimp only
  (repeat' split) <;> simp (maxDischargeDepth := 40) [hs]
@[simp] theorem State.correctOne_memoryOk (s : State) (reader : Option (Nat × Nat)) (w : Nat) (hs : s.memoryOk = true) :
    (State.correctOne s reader w).memoryOk = true := by
  unfold State.correctOne
  (repeat' split) <;> simp (maxDischargeDepth := 40) [hs]
@[simp] theorem State.correct_memoryOk (s : State) (reader : Option (Nat × Nat)) (ws : List Nat) (hs : s.memoryOk = true) :
    (State.correct s reader ws).memoryOk = true := by
  unfold State.correct
  split
  · exact hs
  · exact foldl_memoryOk _ _ _ hs (fun s w h => State.correctOne_memoryOk s reader w h)
@[simp] theorem State.correctMove_memoryOk (s : State) (links : List Nat) (w : Nat) (hs : s.memoryOk = true) :
    (State.correctMove s links w).memoryOk = true := by
  unfold State.correctMove
  (repeat' split) <;> simp (maxDischargeDepth := 40) [hs]
@[simp] theorem State.ringWordSeen_memoryOk (s : State) (w : Nat)
    (hs : s.memoryOk = true) : (State.ringWordSeen s w).memoryOk = true := by
  simp only [State.ringWordSeen]
  split
  · exact hs
  · exact withBadSeen_memoryOk (s.unitFault 1 (0x3000 + 2 * ringOfAddr w)) _ (State.unitFault_memoryOk _ _ _ hs)
@[simp] theorem State.seeRingWords_memoryOk (s : State) (ws : List Nat) (hs : s.memoryOk = true) :
    (State.seeRingWords s ws).memoryOk = true := by
  simp only [State.seeRingWords]
  simp_all (maxDischargeDepth := 40)
end Sys2Proof.Machine

/-! ### Machine/Operands -/

namespace Sys2Proof.Machine

@[simp] theorem State.onUnit_memoryOk (s : State) (u : Nat) (h : Lux → Lux) (hs : s.memoryOk = true) :
    ((State.onUnit s u h).after s).memoryOk = true := by
  simp (maxDischargeDepth := 40) [State.onUnit, hs]
@[simp] theorem State.unitReads_memoryOk (s : State) (u : Nat) (ws : List Nat) (hs : s.memoryOk = true) :
    (State.unitReads s u ws).memoryOk = true := by simp (maxDischargeDepth := 40) [State.unitReads, hs]
@[simp] theorem State.setUnitLine_memoryOk (s : State) (u w : Nat) (l : Line) (hs : s.memoryOk = true) :
    (State.setUnitLine s u w l).memoryOk = true := by
  simp (maxDischargeDepth := 40) [State.setUnitLine, hs]
@[simp] theorem State.withLine_memoryOk (s : State) (u : Nat) (f : Fields) (h : Line → Lux → Lux) (hs : s.memoryOk = true) :
    ((State.withLine s u f h).after s).memoryOk = true := by
  unfold State.withLine
  (repeat' split) <;> simp (maxDischargeDepth := 40) [hs]
@[simp] theorem State.coefWord_memoryOk (s : State) (u : Nat) (f : Fields) (h : Stage → Lux → Lux) (hs : s.memoryOk = true) :
    ((State.coefWord s u f h).after s).memoryOk = true := by
  unfold State.coefWord
  dsimp only
  (repeat' split) <;> simp (maxDischargeDepth := 40) [hs]
@[simp] theorem State.sRead_memoryOk (s : State) (a n : Nat) (hs : s.memoryOk = true) :
    (State.sRead s a n).2.memoryOk = true := by
  simp (maxDischargeDepth := 40) [State.sRead, hs]
@[simp] theorem State.sLoad_memoryOk (s : State) (u : Nat) (f : Fields) (n : Nat) (h : Nat → Lux → Lux)
    (hs : s.memoryOk = true) : ((State.sLoad s u f n h).after s).memoryOk = true := by
  simp only [State.sLoad]
  split
  · rename_i r hr; rw [State.sCheck_after _ _ _ _ _ _ hr]; exact hs
  · have h := State.sRead_memoryOk s ((s.lux u).sAddr f) n hs
    split <;> rename_i he <;> simp_all
@[simp] theorem State.sStore_memoryOk (s : State) (u : Nat) (f : Fields) (n v : Nat)
    (hs : s.memoryOk = true) : ((State.sStore s u f n v).after s).memoryOk = true := by
  simp only [State.sStore]
  split
  · rename_i r hr; rw [State.sCheck_after _ _ _ _ _ _ hr]; exact hs
  · simp (maxDischargeDepth := 40) [hs]

end Sys2Proof.Machine

/-! ### Machine/LuxCore -/

namespace Sys2Proof.Machine

@[simp] theorem State.putRecord_memoryOk (s : State) (c cause code addr : Nat) (instr : U64) (hs : s.memoryOk = true) :
    (State.putRecord s c cause code addr instr).memoryOk = true := by
  simp (maxDischargeDepth := 40) [State.putRecord, hs]
@[simp] theorem State.sFault_memoryOk (s : State) (c cause addr : Nat) (instr : U64) (hs : s.memoryOk = true) :
    (State.sFault s c cause addr instr).memoryOk = true := by
  simp (maxDischargeDepth := 40) [State.sFault, hs]
@[simp] theorem State.sEcc_memoryOk (s : State) (c addr : Nat) (instr : U64) (hs : s.memoryOk = true) :
    (State.sEcc s c addr instr).memoryOk = true := by
  simp (maxDischargeDepth := 40) [State.sEcc, hs]
@[simp] theorem State.endBlock_memoryOk (s : State) (u : Nat) (hs : s.memoryOk = true) :
    (State.endBlock s u).memoryOk = true := by
  unfold State.endBlock
  dsimp only
  (repeat' split) <;> simp (maxDischargeDepth := 40) [hs]
@[simp] theorem State.followAt_memoryOk (s : State) (u pc : Nat) (mac : Bool) (cost : Nat) (hs : s.memoryOk = true) :
    (State.followAt s u pc mac cost).memoryOk = true := by
  simp (maxDischargeDepth := 40) [State.followAt, hs]
@[simp] theorem State.luxRun_memoryOk (s : State) (u : Nat) (o : LuxOp) (f : Fields) (hs : s.memoryOk = true)
    (ho : ∀ (u : Nat) (f : Fields) (s : State), s.memoryOk = true →
    ((o.run u f s).after s).memoryOk = true) : (State.luxRun s u o f).memoryOk = true := by
  have hr : (((if o.legal u f (s.lux u) then o.run u f s else .illegal) : LuxRes).after s).memoryOk = true := by
    split
    · exact ho u f s hs
    · exact hs
  simp only [State.luxRun]
  generalize (if o.legal u f (s.lux u) then o.run u f s else .illegal) = z at hr
  cases z <;> dsimp only [LuxRes.after] at hr ⊢ <;> (try split) <;> simp (maxDischargeDepth := 40) [hr]
@[simp] theorem State.fetchFails_memoryOk (s : State) (u : Nat) (p : Nat × Nat) (hs : s.memoryOk = true) :
    (State.fetchFails s u p).memoryOk = true := by
  unfold State.fetchFails
  (repeat' split) <;> simp (maxDischargeDepth := 40) [hs]
@[simp] theorem State.fetched_memoryOk (s : State) (u : Nat) (t : State) (ht : t.memoryOk = true) :
    (State.fetched s u t).memoryOk = true := by
  unfold State.fetched
  dsimp only
  (repeat' split) <;> simp (maxDischargeDepth := 40) [ht]
@[simp] theorem State.luxCount_memoryOk (s : State) (u : Nat) (o : LuxOp) (f : Fields) (t : State) (hs : t.memoryOk = true) :
    (State.luxCount s u o f t).memoryOk = true := by
  unfold State.luxCount
  dsimp only
  (repeat' split) <;> simp (maxDischargeDepth := 40) [hs]
@[simp] theorem State.luxStep_memoryOk (s : State) (u : Nat) (o : LuxOp) (f : Fields) (hs : s.memoryOk = true)
    (ho : ∀ (u : Nat) (f : Fields) (s : State), s.memoryOk = true →
    ((o.run u f s).after s).memoryOk = true) : (State.luxStep s u o f).memoryOk = true := by
  unfold State.luxStep
  split
  · exact hs
  · split
    · exact State.fetchFails_memoryOk _ _ _ hs
    · exact State.fetched_memoryOk _ _ _ (State.luxCount_memoryOk _ _ _ _ _ (State.luxRun_memoryOk _ _ _ _ hs ho))

end Sys2Proof.Machine

/-! ### Machine/LuxScalar -/

namespace Sys2Proof.Machine

@[simp] theorem scalar3_keeps_memoryOk (opc cost : Nat) (h : Word → Word → Word) :
    ∀ (u : Nat) (f : Fields) (s : State), s.memoryOk = true → (((scalar3 opc cost h).run u f s).after s).memoryOk = true := by
  intro u f s hs
  simp (maxDischargeDepth := 40) [scalar3, hs]
@[simp] theorem scalar3Sat_keeps_memoryOk (opc : Nat) (ae : Bool) (h : Word → Word → Word × Bool) :
    ∀ (u : Nat) (f : Fields) (s : State), s.memoryOk = true → (((scalar3Sat opc ae h).run u f s).after s).memoryOk = true := by
  intro u f s hs
  simp (maxDischargeDepth := 40) [scalar3Sat, hs]
@[simp] theorem scalarImm_keeps_memoryOk (opc : Nat) (imm : Word) (h : Word → Word → Word) :
    ∀ (u : Nat) (f : Fields) (s : State), s.memoryOk = true → (((scalarImm opc imm h).run u f s).after s).memoryOk = true := by
  intro u f s hs
  simp (maxDischargeDepth := 40) [scalarImm, hs]
@[simp] theorem luxNop_keeps_memoryOk  :
    ∀ (u : Nat) (f : Fields) (s : State), s.memoryOk = true → (((luxNop).run u f s).after s).memoryOk = true := by
  intro u f s hs
  simp (maxDischargeDepth := 40) [luxNop, hs]
@[simp] theorem luxEnd_keeps_memoryOk  :
    ∀ (u : Nat) (f : Fields) (s : State), s.memoryOk = true → (((luxEnd).run u f s).after s).memoryOk = true := by
  intro u f s hs
  simp (maxDischargeDepth := 40) [luxEnd, hs]
@[simp] theorem luxLoop_keeps_memoryOk  :
    ∀ (u : Nat) (f : Fields) (s : State), s.memoryOk = true → (((luxLoop).run u f s).after s).memoryOk = true := by
  intro u f s hs
  simp (maxDischargeDepth := 40) [luxLoop, hs]
@[simp] theorem luxRdf_keeps_memoryOk  :
    ∀ (u : Nat) (f : Fields) (s : State), s.memoryOk = true → (((luxRdf).run u f s).after s).memoryOk = true := by
  intro u f s hs
  simp (maxDischargeDepth := 40) [luxRdf, hs]
@[simp] theorem luxClrf_keeps_memoryOk  :
    ∀ (u : Nat) (f : Fields) (s : State), s.memoryOk = true → (((luxClrf).run u f s).after s).memoryOk = true := by
  intro u f s hs
  simp (maxDischargeDepth := 40) [luxClrf, hs]
@[simp] theorem luxAdd_keeps_memoryOk  :
    ∀ (u : Nat) (f : Fields) (s : State), s.memoryOk = true → (((luxAdd).run u f s).after s).memoryOk = true := by
  intro u f s hs
  simp (maxDischargeDepth := 40) [luxAdd, hs]
@[simp] theorem luxSub_keeps_memoryOk  :
    ∀ (u : Nat) (f : Fields) (s : State), s.memoryOk = true → (((luxSub).run u f s).after s).memoryOk = true := by
  intro u f s hs
  simp (maxDischargeDepth := 40) [luxSub, hs]
@[simp] theorem luxAdds_keeps_memoryOk  :
    ∀ (u : Nat) (f : Fields) (s : State), s.memoryOk = true → (((luxAdds).run u f s).after s).memoryOk = true := by
  intro u f s hs
  simp (maxDischargeDepth := 40) [luxAdds, hs]
@[simp] theorem luxSubs_keeps_memoryOk  :
    ∀ (u : Nat) (f : Fields) (s : State), s.memoryOk = true → (((luxSubs).run u f s).after s).memoryOk = true := by
  intro u f s hs
  simp (maxDischargeDepth := 40) [luxSubs, hs]
@[simp] theorem luxAnd_keeps_memoryOk  :
    ∀ (u : Nat) (f : Fields) (s : State), s.memoryOk = true → (((luxAnd).run u f s).after s).memoryOk = true := by
  intro u f s hs
  simp (maxDischargeDepth := 40) [luxAnd, hs]
@[simp] theorem luxOr_keeps_memoryOk  :
    ∀ (u : Nat) (f : Fields) (s : State), s.memoryOk = true → (((luxOr).run u f s).after s).memoryOk = true := by
  intro u f s hs
  simp (maxDischargeDepth := 40) [luxOr, hs]
@[simp] theorem luxXor_keeps_memoryOk  :
    ∀ (u : Nat) (f : Fields) (s : State), s.memoryOk = true → (((luxXor).run u f s).after s).memoryOk = true := by
  intro u f s hs
  simp (maxDischargeDepth := 40) [luxXor, hs]
@[simp] theorem luxShl_keeps_memoryOk  :
    ∀ (u : Nat) (f : Fields) (s : State), s.memoryOk = true → (((luxShl).run u f s).after s).memoryOk = true := by
  intro u f s hs
  simp (maxDischargeDepth := 40) [luxShl, hs]
@[simp] theorem luxShr_keeps_memoryOk  :
    ∀ (u : Nat) (f : Fields) (s : State), s.memoryOk = true → (((luxShr).run u f s).after s).memoryOk = true := by
  intro u f s hs
  simp (maxDischargeDepth := 40) [luxShr, hs]
@[simp] theorem luxSar_keeps_memoryOk  :
    ∀ (u : Nat) (f : Fields) (s : State), s.memoryOk = true → (((luxSar).run u f s).after s).memoryOk = true := by
  intro u f s hs
  simp (maxDischargeDepth := 40) [luxSar, hs]
@[simp] theorem luxMul_keeps_memoryOk  :
    ∀ (u : Nat) (f : Fields) (s : State), s.memoryOk = true → (((luxMul).run u f s).after s).memoryOk = true := by
  intro u f s hs
  simp (maxDischargeDepth := 40) [luxMul, hs]
@[simp] theorem luxMulh_keeps_memoryOk  :
    ∀ (u : Nat) (f : Fields) (s : State), s.memoryOk = true → (((luxMulh).run u f s).after s).memoryOk = true := by
  intro u f s hs
  simp (maxDischargeDepth := 40) [luxMulh, hs]
@[simp] theorem luxMin_keeps_memoryOk  :
    ∀ (u : Nat) (f : Fields) (s : State), s.memoryOk = true → (((luxMin).run u f s).after s).memoryOk = true := by
  intro u f s hs
  simp (maxDischargeDepth := 40) [luxMin, hs]
@[simp] theorem luxMax_keeps_memoryOk  :
    ∀ (u : Nat) (f : Fields) (s : State), s.memoryOk = true → (((luxMax).run u f s).after s).memoryOk = true := by
  intro u f s hs
  simp (maxDischargeDepth := 40) [luxMax, hs]
@[simp] theorem luxSlt_keeps_memoryOk  :
    ∀ (u : Nat) (f : Fields) (s : State), s.memoryOk = true → (((luxSlt).run u f s).after s).memoryOk = true := by
  intro u f s hs
  simp (maxDischargeDepth := 40) [luxSlt, hs]
@[simp] theorem luxSltu_keeps_memoryOk  :
    ∀ (u : Nat) (f : Fields) (s : State), s.memoryOk = true → (((luxSltu).run u f s).after s).memoryOk = true := by
  intro u f s hs
  simp (maxDischargeDepth := 40) [luxSltu, hs]
@[simp] theorem luxAddi_keeps_memoryOk  :
    ∀ (u : Nat) (f : Fields) (s : State), s.memoryOk = true → (((luxAddi).run u f s).after s).memoryOk = true := by
  intro u f s hs
  simp (maxDischargeDepth := 40) [luxAddi, hs]
@[simp] theorem luxMovi_keeps_memoryOk  :
    ∀ (u : Nat) (f : Fields) (s : State), s.memoryOk = true → (((luxMovi).run u f s).after s).memoryOk = true := by
  intro u f s hs
  simp (maxDischargeDepth := 40) [luxMovi, hs]
@[simp] theorem luxShli_keeps_memoryOk  :
    ∀ (u : Nat) (f : Fields) (s : State), s.memoryOk = true → (((luxShli).run u f s).after s).memoryOk = true := by
  intro u f s hs
  simp (maxDischargeDepth := 40) [luxShli, hs]
@[simp] theorem luxShri_keeps_memoryOk  :
    ∀ (u : Nat) (f : Fields) (s : State), s.memoryOk = true → (((luxShri).run u f s).after s).memoryOk = true := by
  intro u f s hs
  simp (maxDischargeDepth := 40) [luxShri, hs]
@[simp] theorem luxSari_keeps_memoryOk  :
    ∀ (u : Nat) (f : Fields) (s : State), s.memoryOk = true → (((luxSari).run u f s).after s).memoryOk = true := by
  intro u f s hs
  simp (maxDischargeDepth := 40) [luxSari, hs]
@[simp] theorem luxAndi_keeps_memoryOk  :
    ∀ (u : Nat) (f : Fields) (s : State), s.memoryOk = true → (((luxAndi).run u f s).after s).memoryOk = true := by
  intro u f s hs
  simp (maxDischargeDepth := 40) [luxAndi, hs]
@[simp] theorem luxSelz_keeps_memoryOk  :
    ∀ (u : Nat) (f : Fields) (s : State), s.memoryOk = true → (((luxSelz).run u f s).after s).memoryOk = true := by
  intro u f s hs
  simp (maxDischargeDepth := 40) [luxSelz, hs]
@[simp] theorem luxAbs_keeps_memoryOk  :
    ∀ (u : Nat) (f : Fields) (s : State), s.memoryOk = true → (((luxAbs).run u f s).after s).memoryOk = true := by
  intro u f s hs
  simp (maxDischargeDepth := 40) [luxAbs, hs]
@[simp] theorem luxDiv_keeps_memoryOk  :
    ∀ (u : Nat) (f : Fields) (s : State), s.memoryOk = true → (((luxDiv).run u f s).after s).memoryOk = true := by
  intro u f s hs
  simp (maxDischargeDepth := 40) [luxDiv, hs]
@[simp] theorem luxDivu_keeps_memoryOk  :
    ∀ (u : Nat) (f : Fields) (s : State), s.memoryOk = true → (((luxDivu).run u f s).after s).memoryOk = true := by
  intro u f s hs
  simp (maxDischargeDepth := 40) [luxDivu, hs]
@[simp] theorem luxXmov_keeps_memoryOk  :
    ∀ (u : Nat) (f : Fields) (s : State), s.memoryOk = true → (((luxXmov).run u f s).after s).memoryOk = true := by
  intro u f s hs
  simp (maxDischargeDepth := 40) [luxXmov, hs]
@[simp] theorem luxXaddi_keeps_memoryOk  :
    ∀ (u : Nat) (f : Fields) (s : State), s.memoryOk = true → (((luxXaddi).run u f s).after s).memoryOk = true := by
  intro u f s hs
  simp (maxDischargeDepth := 40) [luxXaddi, hs]
@[simp] theorem luxSfromx_keeps_memoryOk  :
    ∀ (u : Nat) (f : Fields) (s : State), s.memoryOk = true → (((luxSfromx).run u f s).after s).memoryOk = true := by
  intro u f s hs
  simp (maxDischargeDepth := 40) [luxSfromx, hs]
@[simp] theorem luxPmov_keeps_memoryOk  :
    ∀ (u : Nat) (f : Fields) (s : State), s.memoryOk = true → (((luxPmov).run u f s).after s).memoryOk = true := by
  intro u f s hs
  simp (maxDischargeDepth := 40) [luxPmov, hs]
@[simp] theorem luxPaddi_keeps_memoryOk  :
    ∀ (u : Nat) (f : Fields) (s : State), s.memoryOk = true → (((luxPaddi).run u f s).after s).memoryOk = true := by
  intro u f s hs
  simp (maxDischargeDepth := 40) [luxPaddi, hs]
@[simp] theorem luxSfromp_keeps_memoryOk  :
    ∀ (u : Nat) (f : Fields) (s : State), s.memoryOk = true → (((luxSfromp).run u f s).after s).memoryOk = true := by
  intro u f s hs
  simp (maxDischargeDepth := 40) [luxSfromp, hs]
theorem execNop_memoryOk (u : Nat) (f : Fields) (s : State) (hs : s.memoryOk = true) :
    ∃ t, execNop u f s = .next t ∧ t.memoryOk = true := ⟨_, rfl, State.luxStep_memoryOk _ _ _ _ hs luxNop_keeps_memoryOk⟩
theorem execEnd_memoryOk (u : Nat) (f : Fields) (s : State) (hs : s.memoryOk = true) :
    ∃ t, execEnd u f s = .next t ∧ t.memoryOk = true := ⟨_, rfl, State.luxStep_memoryOk _ _ _ _ hs luxEnd_keeps_memoryOk⟩
theorem execLoop_memoryOk (u : Nat) (f : Fields) (s : State) (hs : s.memoryOk = true) :
    ∃ t, execLoop u f s = .next t ∧ t.memoryOk = true := ⟨_, rfl, State.luxStep_memoryOk _ _ _ _ hs luxLoop_keeps_memoryOk⟩
theorem execRdf_memoryOk (u : Nat) (f : Fields) (s : State) (hs : s.memoryOk = true) :
    ∃ t, execRdf u f s = .next t ∧ t.memoryOk = true := ⟨_, rfl, State.luxStep_memoryOk _ _ _ _ hs luxRdf_keeps_memoryOk⟩
theorem execClrf_memoryOk (u : Nat) (f : Fields) (s : State) (hs : s.memoryOk = true) :
    ∃ t, execClrf u f s = .next t ∧ t.memoryOk = true := ⟨_, rfl, State.luxStep_memoryOk _ _ _ _ hs luxClrf_keeps_memoryOk⟩
theorem execAdd_memoryOk (u : Nat) (f : Fields) (s : State) (hs : s.memoryOk = true) :
    ∃ t, execAdd u f s = .next t ∧ t.memoryOk = true := ⟨_, rfl, State.luxStep_memoryOk _ _ _ _ hs luxAdd_keeps_memoryOk⟩
theorem execSub_memoryOk (u : Nat) (f : Fields) (s : State) (hs : s.memoryOk = true) :
    ∃ t, execSub u f s = .next t ∧ t.memoryOk = true := ⟨_, rfl, State.luxStep_memoryOk _ _ _ _ hs luxSub_keeps_memoryOk⟩
theorem execAdds_memoryOk (u : Nat) (f : Fields) (s : State) (hs : s.memoryOk = true) :
    ∃ t, execAdds u f s = .next t ∧ t.memoryOk = true := ⟨_, rfl, State.luxStep_memoryOk _ _ _ _ hs luxAdds_keeps_memoryOk⟩
theorem execSubs_memoryOk (u : Nat) (f : Fields) (s : State) (hs : s.memoryOk = true) :
    ∃ t, execSubs u f s = .next t ∧ t.memoryOk = true := ⟨_, rfl, State.luxStep_memoryOk _ _ _ _ hs luxSubs_keeps_memoryOk⟩
theorem execAnd_memoryOk (u : Nat) (f : Fields) (s : State) (hs : s.memoryOk = true) :
    ∃ t, execAnd u f s = .next t ∧ t.memoryOk = true := ⟨_, rfl, State.luxStep_memoryOk _ _ _ _ hs luxAnd_keeps_memoryOk⟩
theorem execOr_memoryOk (u : Nat) (f : Fields) (s : State) (hs : s.memoryOk = true) :
    ∃ t, execOr u f s = .next t ∧ t.memoryOk = true := ⟨_, rfl, State.luxStep_memoryOk _ _ _ _ hs luxOr_keeps_memoryOk⟩
theorem execXor_memoryOk (u : Nat) (f : Fields) (s : State) (hs : s.memoryOk = true) :
    ∃ t, execXor u f s = .next t ∧ t.memoryOk = true := ⟨_, rfl, State.luxStep_memoryOk _ _ _ _ hs luxXor_keeps_memoryOk⟩
theorem execShl_memoryOk (u : Nat) (f : Fields) (s : State) (hs : s.memoryOk = true) :
    ∃ t, execShl u f s = .next t ∧ t.memoryOk = true := ⟨_, rfl, State.luxStep_memoryOk _ _ _ _ hs luxShl_keeps_memoryOk⟩
theorem execShr_memoryOk (u : Nat) (f : Fields) (s : State) (hs : s.memoryOk = true) :
    ∃ t, execShr u f s = .next t ∧ t.memoryOk = true := ⟨_, rfl, State.luxStep_memoryOk _ _ _ _ hs luxShr_keeps_memoryOk⟩
theorem execSar_memoryOk (u : Nat) (f : Fields) (s : State) (hs : s.memoryOk = true) :
    ∃ t, execSar u f s = .next t ∧ t.memoryOk = true := ⟨_, rfl, State.luxStep_memoryOk _ _ _ _ hs luxSar_keeps_memoryOk⟩
theorem execMul_memoryOk (u : Nat) (f : Fields) (s : State) (hs : s.memoryOk = true) :
    ∃ t, execMul u f s = .next t ∧ t.memoryOk = true := ⟨_, rfl, State.luxStep_memoryOk _ _ _ _ hs luxMul_keeps_memoryOk⟩
theorem execMulh_memoryOk (u : Nat) (f : Fields) (s : State) (hs : s.memoryOk = true) :
    ∃ t, execMulh u f s = .next t ∧ t.memoryOk = true := ⟨_, rfl, State.luxStep_memoryOk _ _ _ _ hs luxMulh_keeps_memoryOk⟩
theorem execMin_memoryOk (u : Nat) (f : Fields) (s : State) (hs : s.memoryOk = true) :
    ∃ t, execMin u f s = .next t ∧ t.memoryOk = true := ⟨_, rfl, State.luxStep_memoryOk _ _ _ _ hs luxMin_keeps_memoryOk⟩
theorem execMax_memoryOk (u : Nat) (f : Fields) (s : State) (hs : s.memoryOk = true) :
    ∃ t, execMax u f s = .next t ∧ t.memoryOk = true := ⟨_, rfl, State.luxStep_memoryOk _ _ _ _ hs luxMax_keeps_memoryOk⟩
theorem execSlt_memoryOk (u : Nat) (f : Fields) (s : State) (hs : s.memoryOk = true) :
    ∃ t, execSlt u f s = .next t ∧ t.memoryOk = true := ⟨_, rfl, State.luxStep_memoryOk _ _ _ _ hs luxSlt_keeps_memoryOk⟩
theorem execSltu_memoryOk (u : Nat) (f : Fields) (s : State) (hs : s.memoryOk = true) :
    ∃ t, execSltu u f s = .next t ∧ t.memoryOk = true := ⟨_, rfl, State.luxStep_memoryOk _ _ _ _ hs luxSltu_keeps_memoryOk⟩
theorem execAddi_memoryOk (u : Nat) (f : Fields) (s : State) (hs : s.memoryOk = true) :
    ∃ t, execAddi u f s = .next t ∧ t.memoryOk = true := ⟨_, rfl, State.luxStep_memoryOk _ _ _ _ hs luxAddi_keeps_memoryOk⟩
theorem execMovi_memoryOk (u : Nat) (f : Fields) (s : State) (hs : s.memoryOk = true) :
    ∃ t, execMovi u f s = .next t ∧ t.memoryOk = true := ⟨_, rfl, State.luxStep_memoryOk _ _ _ _ hs luxMovi_keeps_memoryOk⟩
theorem execShli_memoryOk (u : Nat) (f : Fields) (s : State) (hs : s.memoryOk = true) :
    ∃ t, execShli u f s = .next t ∧ t.memoryOk = true := ⟨_, rfl, State.luxStep_memoryOk _ _ _ _ hs luxShli_keeps_memoryOk⟩
theorem execShri_memoryOk (u : Nat) (f : Fields) (s : State) (hs : s.memoryOk = true) :
    ∃ t, execShri u f s = .next t ∧ t.memoryOk = true := ⟨_, rfl, State.luxStep_memoryOk _ _ _ _ hs luxShri_keeps_memoryOk⟩
theorem execSari_memoryOk (u : Nat) (f : Fields) (s : State) (hs : s.memoryOk = true) :
    ∃ t, execSari u f s = .next t ∧ t.memoryOk = true := ⟨_, rfl, State.luxStep_memoryOk _ _ _ _ hs luxSari_keeps_memoryOk⟩
theorem execAndi_memoryOk (u : Nat) (f : Fields) (s : State) (hs : s.memoryOk = true) :
    ∃ t, execAndi u f s = .next t ∧ t.memoryOk = true := ⟨_, rfl, State.luxStep_memoryOk _ _ _ _ hs luxAndi_keeps_memoryOk⟩
theorem execSelz_memoryOk (u : Nat) (f : Fields) (s : State) (hs : s.memoryOk = true) :
    ∃ t, execSelz u f s = .next t ∧ t.memoryOk = true := ⟨_, rfl, State.luxStep_memoryOk _ _ _ _ hs luxSelz_keeps_memoryOk⟩
theorem execAbs_memoryOk (u : Nat) (f : Fields) (s : State) (hs : s.memoryOk = true) :
    ∃ t, execAbs u f s = .next t ∧ t.memoryOk = true := ⟨_, rfl, State.luxStep_memoryOk _ _ _ _ hs luxAbs_keeps_memoryOk⟩
theorem execDiv_memoryOk (u : Nat) (f : Fields) (s : State) (hs : s.memoryOk = true) :
    ∃ t, execDiv u f s = .next t ∧ t.memoryOk = true := ⟨_, rfl, State.luxStep_memoryOk _ _ _ _ hs luxDiv_keeps_memoryOk⟩
theorem execDivu_memoryOk (u : Nat) (f : Fields) (s : State) (hs : s.memoryOk = true) :
    ∃ t, execDivu u f s = .next t ∧ t.memoryOk = true := ⟨_, rfl, State.luxStep_memoryOk _ _ _ _ hs luxDivu_keeps_memoryOk⟩
theorem execXmov_memoryOk (u : Nat) (f : Fields) (s : State) (hs : s.memoryOk = true) :
    ∃ t, execXmov u f s = .next t ∧ t.memoryOk = true := ⟨_, rfl, State.luxStep_memoryOk _ _ _ _ hs luxXmov_keeps_memoryOk⟩
theorem execXaddi_memoryOk (u : Nat) (f : Fields) (s : State) (hs : s.memoryOk = true) :
    ∃ t, execXaddi u f s = .next t ∧ t.memoryOk = true := ⟨_, rfl, State.luxStep_memoryOk _ _ _ _ hs luxXaddi_keeps_memoryOk⟩
theorem execSfromx_memoryOk (u : Nat) (f : Fields) (s : State) (hs : s.memoryOk = true) :
    ∃ t, execSfromx u f s = .next t ∧ t.memoryOk = true := ⟨_, rfl, State.luxStep_memoryOk _ _ _ _ hs luxSfromx_keeps_memoryOk⟩
theorem execPmov_memoryOk (u : Nat) (f : Fields) (s : State) (hs : s.memoryOk = true) :
    ∃ t, execPmov u f s = .next t ∧ t.memoryOk = true := ⟨_, rfl, State.luxStep_memoryOk _ _ _ _ hs luxPmov_keeps_memoryOk⟩
theorem execPaddi_memoryOk (u : Nat) (f : Fields) (s : State) (hs : s.memoryOk = true) :
    ∃ t, execPaddi u f s = .next t ∧ t.memoryOk = true := ⟨_, rfl, State.luxStep_memoryOk _ _ _ _ hs luxPaddi_keeps_memoryOk⟩
theorem execSfromp_memoryOk (u : Nat) (f : Fields) (s : State) (hs : s.memoryOk = true) :
    ∃ t, execSfromp u f s = .next t ∧ t.memoryOk = true := ⟨_, rfl, State.luxStep_memoryOk _ _ _ _ hs luxSfromp_keeps_memoryOk⟩

end Sys2Proof.Machine

/-! ### Machine/LuxVector -/

namespace Sys2Proof.Machine

@[simp] theorem aeOp_keeps_memoryOk (opc : Nat) (uses : Uses) (cost : Nat) (h : Fields → Lux → Lux) :
    ∀ (u : Nat) (f : Fields) (s : State), s.memoryOk = true → (((aeOp opc uses cost h).run u f s).after s).memoryOk = true := by
  intro u f s hs
  simp (maxDischargeDepth := 40) [aeOp, hs]
@[simp] theorem luxLdv_keeps_memoryOk  :
    ∀ (u : Nat) (f : Fields) (s : State), s.memoryOk = true → (((luxLdv).run u f s).after s).memoryOk = true := by
  intro u f s hs
  simp (maxDischargeDepth := 40) [luxLdv, hs]
@[simp] theorem luxStv_keeps_memoryOk  :
    ∀ (u : Nat) (f : Fields) (s : State), s.memoryOk = true → (((luxStv).run u f s).after s).memoryOk = true := by
  intro u f s hs
  simp only [luxStv]
  (repeat' split) <;> simp (maxDischargeDepth := 40) [hs]
@[simp] theorem luxLds_keeps_memoryOk  :
    ∀ (u : Nat) (f : Fields) (s : State), s.memoryOk = true → (((luxLds).run u f s).after s).memoryOk = true := by
  intro u f s hs
  simp (maxDischargeDepth := 40) [luxLds, hs]
@[simp] theorem luxSts_keeps_memoryOk  :
    ∀ (u : Nat) (f : Fields) (s : State), s.memoryOk = true → (((luxSts).run u f s).after s).memoryOk = true := by
  intro u f s hs
  simp only [luxSts]
  (repeat' split) <;> simp (maxDischargeDepth := 40) [hs]
@[simp] theorem luxSelld_keeps_memoryOk  :
    ∀ (u : Nat) (f : Fields) (s : State), s.memoryOk = true → (((luxSelld).run u f s).after s).memoryOk = true := by
  intro u f s hs
  simp only [luxSelld]
  (repeat' split) <;> simp (maxDischargeDepth := 40) [hs]
@[simp] theorem luxMacb_keeps_memoryOk  :
    ∀ (u : Nat) (f : Fields) (s : State), s.memoryOk = true → (((luxMacb).run u f s).after s).memoryOk = true := by
  intro u f s hs
  simp (maxDischargeDepth := 40) [luxMacb, hs]
@[simp] theorem luxMace_keeps_memoryOk  :
    ∀ (u : Nat) (f : Fields) (s : State), s.memoryOk = true → (((luxMace).run u f s).after s).memoryOk = true := by
  intro u f s hs
  simp (maxDischargeDepth := 40) [luxMace, hs]
@[simp] theorem luxMacr_keeps_memoryOk  :
    ∀ (u : Nat) (f : Fields) (s : State), s.memoryOk = true → (((luxMacr).run u f s).after s).memoryOk = true := by
  intro u f s hs
  simp (maxDischargeDepth := 40) [luxMacr, hs]
@[simp] theorem luxMacrb_keeps_memoryOk  :
    ∀ (u : Nat) (f : Fields) (s : State), s.memoryOk = true → (((luxMacrb).run u f s).after s).memoryOk = true := by
  intro u f s hs
  simp (maxDischargeDepth := 40) [luxMacrb, hs]
@[simp] theorem luxAdda_keeps_memoryOk  :
    ∀ (u : Nat) (f : Fields) (s : State), s.memoryOk = true → (((luxAdda).run u f s).after s).memoryOk = true := by
  intro u f s hs
  simp (maxDischargeDepth := 40) [luxAdda, hs]
@[simp] theorem luxMova_keeps_memoryOk  :
    ∀ (u : Nat) (f : Fields) (s : State), s.memoryOk = true → (((luxMova).run u f s).after s).memoryOk = true := by
  intro u f s hs
  simp (maxDischargeDepth := 40) [luxMova, hs]
@[simp] theorem luxFixv_keeps_memoryOk  :
    ∀ (u : Nat) (f : Fields) (s : State), s.memoryOk = true → (((luxFixv).run u f s).after s).memoryOk = true := by
  intro u f s hs
  simp (maxDischargeDepth := 40) [luxFixv, hs]
@[simp] theorem luxNormv_keeps_memoryOk  :
    ∀ (u : Nat) (f : Fields) (s : State), s.memoryOk = true → (((luxNormv).run u f s).after s).memoryOk = true := by
  intro u f s hs
  simp (maxDischargeDepth := 40) [luxNormv, hs]
@[simp] theorem luxVmov_keeps_memoryOk  :
    ∀ (u : Nat) (f : Fields) (s : State), s.memoryOk = true → (((luxVmov).run u f s).after s).memoryOk = true := by
  intro u f s hs
  simp (maxDischargeDepth := 40) [luxVmov, hs]
@[simp] theorem luxVclamp_keeps_memoryOk  :
    ∀ (u : Nat) (f : Fields) (s : State), s.memoryOk = true → (((luxVclamp).run u f s).after s).memoryOk = true := by
  intro u f s hs
  simp (maxDischargeDepth := 40) [luxVclamp, hs]
@[simp] theorem luxVcmp_keeps_memoryOk  :
    ∀ (u : Nat) (f : Fields) (s : State), s.memoryOk = true → (((luxVcmp).run u f s).after s).memoryOk = true := by
  intro u f s hs
  simp (maxDischargeDepth := 40) [luxVcmp, hs]
@[simp] theorem luxVsel_keeps_memoryOk  :
    ∀ (u : Nat) (f : Fields) (s : State), s.memoryOk = true → (((luxVsel).run u f s).after s).memoryOk = true := by
  intro u f s hs
  simp (maxDischargeDepth := 40) [luxVsel, hs]
@[simp] theorem luxVins_keeps_memoryOk  :
    ∀ (u : Nat) (f : Fields) (s : State), s.memoryOk = true → (((luxVins).run u f s).after s).memoryOk = true := by
  intro u f s hs
  simp (maxDischargeDepth := 40) [luxVins, hs]
@[simp] theorem luxVext_keeps_memoryOk  :
    ∀ (u : Nat) (f : Fields) (s : State), s.memoryOk = true → (((luxVext).run u f s).after s).memoryOk = true := by
  intro u f s hs
  simp (maxDischargeDepth := 40) [luxVext, hs]
@[simp] theorem luxVexp_keeps_memoryOk  :
    ∀ (u : Nat) (f : Fields) (s : State), s.memoryOk = true → (((luxVexp).run u f s).after s).memoryOk = true := by
  intro u f s hs
  simp (maxDischargeDepth := 40) [luxVexp, hs]
@[simp] theorem luxVsete_keeps_memoryOk  :
    ∀ (u : Nat) (f : Fields) (s : State), s.memoryOk = true → (((luxVsete).run u f s).after s).memoryOk = true := by
  intro u f s hs
  simp (maxDischargeDepth := 40) [luxVsete, hs]
@[simp] theorem luxVzero_keeps_memoryOk  :
    ∀ (u : Nat) (f : Fields) (s : State), s.memoryOk = true → (((luxVzero).run u f s).after s).memoryOk = true := by
  intro u f s hs
  simp (maxDischargeDepth := 40) [luxVzero, hs]
@[simp] theorem luxSincos_keeps_memoryOk  :
    ∀ (u : Nat) (f : Fields) (s : State), s.memoryOk = true → (((luxSincos).run u f s).after s).memoryOk = true := by
  intro u f s hs
  simp (maxDischargeDepth := 40) [luxSincos, hs]
@[simp] theorem luxVsqrt_keeps_memoryOk  :
    ∀ (u : Nat) (f : Fields) (s : State), s.memoryOk = true → (((luxVsqrt).run u f s).after s).memoryOk = true := by
  intro u f s hs
  simp (maxDischargeDepth := 40) [luxVsqrt, hs]
@[simp] theorem luxVresc_keeps_memoryOk  :
    ∀ (u : Nat) (f : Fields) (s : State), s.memoryOk = true → (((luxVresc).run u f s).after s).memoryOk = true := by
  intro u f s hs
  simp (maxDischargeDepth := 40) [luxVresc, hs]
@[simp] theorem luxVneg_keeps_memoryOk  :
    ∀ (u : Nat) (f : Fields) (s : State), s.memoryOk = true → (((luxVneg).run u f s).after s).memoryOk = true := by
  intro u f s hs
  simp (maxDischargeDepth := 40) [luxVneg, hs]
theorem execLdv_memoryOk (u : Nat) (f : Fields) (s : State) (hs : s.memoryOk = true) :
    ∃ t, execLdv u f s = .next t ∧ t.memoryOk = true := ⟨_, rfl, State.luxStep_memoryOk _ _ _ _ hs luxLdv_keeps_memoryOk⟩
theorem execStv_memoryOk (u : Nat) (f : Fields) (s : State) (hs : s.memoryOk = true) :
    ∃ t, execStv u f s = .next t ∧ t.memoryOk = true := ⟨_, rfl, State.luxStep_memoryOk _ _ _ _ hs luxStv_keeps_memoryOk⟩
theorem execLds_memoryOk (u : Nat) (f : Fields) (s : State) (hs : s.memoryOk = true) :
    ∃ t, execLds u f s = .next t ∧ t.memoryOk = true := ⟨_, rfl, State.luxStep_memoryOk _ _ _ _ hs luxLds_keeps_memoryOk⟩
theorem execSts_memoryOk (u : Nat) (f : Fields) (s : State) (hs : s.memoryOk = true) :
    ∃ t, execSts u f s = .next t ∧ t.memoryOk = true := ⟨_, rfl, State.luxStep_memoryOk _ _ _ _ hs luxSts_keeps_memoryOk⟩
theorem execSelld_memoryOk (u : Nat) (f : Fields) (s : State) (hs : s.memoryOk = true) :
    ∃ t, execSelld u f s = .next t ∧ t.memoryOk = true := ⟨_, rfl, State.luxStep_memoryOk _ _ _ _ hs luxSelld_keeps_memoryOk⟩
theorem execMacb_memoryOk (u : Nat) (f : Fields) (s : State) (hs : s.memoryOk = true) :
    ∃ t, execMacb u f s = .next t ∧ t.memoryOk = true := ⟨_, rfl, State.luxStep_memoryOk _ _ _ _ hs luxMacb_keeps_memoryOk⟩
theorem execMace_memoryOk (u : Nat) (f : Fields) (s : State) (hs : s.memoryOk = true) :
    ∃ t, execMace u f s = .next t ∧ t.memoryOk = true := ⟨_, rfl, State.luxStep_memoryOk _ _ _ _ hs luxMace_keeps_memoryOk⟩
theorem execMacr_memoryOk (u : Nat) (f : Fields) (s : State) (hs : s.memoryOk = true) :
    ∃ t, execMacr u f s = .next t ∧ t.memoryOk = true := ⟨_, rfl, State.luxStep_memoryOk _ _ _ _ hs luxMacr_keeps_memoryOk⟩
theorem execMacrb_memoryOk (u : Nat) (f : Fields) (s : State) (hs : s.memoryOk = true) :
    ∃ t, execMacrb u f s = .next t ∧ t.memoryOk = true := ⟨_, rfl, State.luxStep_memoryOk _ _ _ _ hs luxMacrb_keeps_memoryOk⟩
theorem execAdda_memoryOk (u : Nat) (f : Fields) (s : State) (hs : s.memoryOk = true) :
    ∃ t, execAdda u f s = .next t ∧ t.memoryOk = true := ⟨_, rfl, State.luxStep_memoryOk _ _ _ _ hs luxAdda_keeps_memoryOk⟩
theorem execMova_memoryOk (u : Nat) (f : Fields) (s : State) (hs : s.memoryOk = true) :
    ∃ t, execMova u f s = .next t ∧ t.memoryOk = true := ⟨_, rfl, State.luxStep_memoryOk _ _ _ _ hs luxMova_keeps_memoryOk⟩
theorem execFixv_memoryOk (u : Nat) (f : Fields) (s : State) (hs : s.memoryOk = true) :
    ∃ t, execFixv u f s = .next t ∧ t.memoryOk = true := ⟨_, rfl, State.luxStep_memoryOk _ _ _ _ hs luxFixv_keeps_memoryOk⟩
theorem execNormv_memoryOk (u : Nat) (f : Fields) (s : State) (hs : s.memoryOk = true) :
    ∃ t, execNormv u f s = .next t ∧ t.memoryOk = true := ⟨_, rfl, State.luxStep_memoryOk _ _ _ _ hs luxNormv_keeps_memoryOk⟩
theorem execVmov_memoryOk (u : Nat) (f : Fields) (s : State) (hs : s.memoryOk = true) :
    ∃ t, execVmov u f s = .next t ∧ t.memoryOk = true := ⟨_, rfl, State.luxStep_memoryOk _ _ _ _ hs luxVmov_keeps_memoryOk⟩
theorem execVclamp_memoryOk (u : Nat) (f : Fields) (s : State) (hs : s.memoryOk = true) :
    ∃ t, execVclamp u f s = .next t ∧ t.memoryOk = true := ⟨_, rfl, State.luxStep_memoryOk _ _ _ _ hs luxVclamp_keeps_memoryOk⟩
theorem execVcmp_memoryOk (u : Nat) (f : Fields) (s : State) (hs : s.memoryOk = true) :
    ∃ t, execVcmp u f s = .next t ∧ t.memoryOk = true := ⟨_, rfl, State.luxStep_memoryOk _ _ _ _ hs luxVcmp_keeps_memoryOk⟩
theorem execVsel_memoryOk (u : Nat) (f : Fields) (s : State) (hs : s.memoryOk = true) :
    ∃ t, execVsel u f s = .next t ∧ t.memoryOk = true := ⟨_, rfl, State.luxStep_memoryOk _ _ _ _ hs luxVsel_keeps_memoryOk⟩
theorem execVins_memoryOk (u : Nat) (f : Fields) (s : State) (hs : s.memoryOk = true) :
    ∃ t, execVins u f s = .next t ∧ t.memoryOk = true := ⟨_, rfl, State.luxStep_memoryOk _ _ _ _ hs luxVins_keeps_memoryOk⟩
theorem execVext_memoryOk (u : Nat) (f : Fields) (s : State) (hs : s.memoryOk = true) :
    ∃ t, execVext u f s = .next t ∧ t.memoryOk = true := ⟨_, rfl, State.luxStep_memoryOk _ _ _ _ hs luxVext_keeps_memoryOk⟩
theorem execVexp_memoryOk (u : Nat) (f : Fields) (s : State) (hs : s.memoryOk = true) :
    ∃ t, execVexp u f s = .next t ∧ t.memoryOk = true := ⟨_, rfl, State.luxStep_memoryOk _ _ _ _ hs luxVexp_keeps_memoryOk⟩
theorem execVsete_memoryOk (u : Nat) (f : Fields) (s : State) (hs : s.memoryOk = true) :
    ∃ t, execVsete u f s = .next t ∧ t.memoryOk = true := ⟨_, rfl, State.luxStep_memoryOk _ _ _ _ hs luxVsete_keeps_memoryOk⟩
theorem execVzero_memoryOk (u : Nat) (f : Fields) (s : State) (hs : s.memoryOk = true) :
    ∃ t, execVzero u f s = .next t ∧ t.memoryOk = true := ⟨_, rfl, State.luxStep_memoryOk _ _ _ _ hs luxVzero_keeps_memoryOk⟩
theorem execSincos_memoryOk (u : Nat) (f : Fields) (s : State) (hs : s.memoryOk = true) :
    ∃ t, execSincos u f s = .next t ∧ t.memoryOk = true := ⟨_, rfl, State.luxStep_memoryOk _ _ _ _ hs luxSincos_keeps_memoryOk⟩
theorem execVsqrt_memoryOk (u : Nat) (f : Fields) (s : State) (hs : s.memoryOk = true) :
    ∃ t, execVsqrt u f s = .next t ∧ t.memoryOk = true := ⟨_, rfl, State.luxStep_memoryOk _ _ _ _ hs luxVsqrt_keeps_memoryOk⟩
theorem execVresc_memoryOk (u : Nat) (f : Fields) (s : State) (hs : s.memoryOk = true) :
    ∃ t, execVresc u f s = .next t ∧ t.memoryOk = true := ⟨_, rfl, State.luxStep_memoryOk _ _ _ _ hs luxVresc_keeps_memoryOk⟩
theorem execVneg_memoryOk (u : Nat) (f : Fields) (s : State) (hs : s.memoryOk = true) :
    ∃ t, execVneg u f s = .next t ∧ t.memoryOk = true := ⟨_, rfl, State.luxStep_memoryOk _ _ _ _ hs luxVneg_keeps_memoryOk⟩

end Sys2Proof.Machine

/-! ### Machine/LuxDsp -/

namespace Sys2Proof.Machine

@[simp] theorem State.section__memoryOk (s : State) (u b : Nat) (x : Lanes (BitVec 24)) (hs : s.memoryOk = true) :
    (State.section_ s u b x).2.1.memoryOk = true := by
  simp (maxDischargeDepth := 40) [State.section_, hs]
@[simp] theorem State.cascade_memoryOk (s : State) (u b : Nat) (x : Lanes (BitVec 24)) (z0 : Nat)
    (hs : s.memoryOk = true) : (State.cascade s u b x z0).2.1.memoryOk = true := by
  induction z0 with
  | zero => simpa [State.cascade] using hs
  | succ n ih => simp (maxDischargeDepth := 40) [State.cascade, ih]
@[simp] theorem luxBiq_keeps_memoryOk  :
    ∀ (u : Nat) (f : Fields) (s : State), s.memoryOk = true → (((luxBiq).run u f s).after s).memoryOk = true := by
  intro u f s hs
  simp only [luxBiq]
  (repeat' split) <;> simp (maxDischargeDepth := 40) [hs]
@[simp] theorem luxFir_keeps_memoryOk  :
    ∀ (u : Nat) (f : Fields) (s : State), s.memoryOk = true → (((luxFir).run u f s).after s).memoryOk = true := by
  intro u f s hs
  simp only [luxFir]
  (repeat' split) <;> simp (maxDischargeDepth := 40) [hs]
@[simp] theorem State.storePoints_memoryOk (s : State) (u : Nat) (e : BitVec 8) (z0 : Nat) (z1 : Nat) (z2 : List Cpx)
    (hs : s.memoryOk = true) : (State.storePoints s u e z0 z1 z2).memoryOk = true := by
  induction z0 generalizing s z1 z2 with
  | zero => simpa [State.storePoints] using hs
  | succ n ih => simp (maxDischargeDepth := 40) [State.storePoints, ih, hs]
@[simp] theorem luxFft_keeps_memoryOk  :
    ∀ (u : Nat) (f : Fields) (s : State), s.memoryOk = true → (((luxFft).run u f s).after s).memoryOk = true := by
  intro u f s hs
  simp only [luxFft]
  (repeat' split) <;> simp (maxDischargeDepth := 40) [hs]
theorem execBiq_memoryOk (u : Nat) (f : Fields) (s : State) (hs : s.memoryOk = true) :
    ∃ t, execBiq u f s = .next t ∧ t.memoryOk = true := ⟨_, rfl, State.luxStep_memoryOk _ _ _ _ hs luxBiq_keeps_memoryOk⟩
theorem execFir_memoryOk (u : Nat) (f : Fields) (s : State) (hs : s.memoryOk = true) :
    ∃ t, execFir u f s = .next t ∧ t.memoryOk = true := ⟨_, rfl, State.luxStep_memoryOk _ _ _ _ hs luxFir_keeps_memoryOk⟩
theorem execFft_memoryOk (u : Nat) (f : Fields) (s : State) (hs : s.memoryOk = true) :
    ∃ t, execFft u f s = .next t ∧ t.memoryOk = true := ⟨_, rfl, State.luxStep_memoryOk _ _ _ _ hs luxFft_keeps_memoryOk⟩

end Sys2Proof.Machine

/-! ### Machine/GovOps -/

namespace Sys2Proof.Machine

@[simp] theorem State.logOther_memoryOk (s : State) (origin off value : Nat) (hs : s.memoryOk = true) :
    (State.logOther s origin off value).memoryOk = true := by
  simp (maxDischargeDepth := 40) [State.logOther, hs]
@[simp] theorem State.closeInterval_memoryOk (s : State) (energy : Nat) (temps : List Int) (hs : s.memoryOk = true) :
    (State.closeInterval s energy temps).memoryOk = true := by
  simp (maxDischargeDepth := 40) [State.closeInterval, hs]
@[simp] theorem cmdGovCommit_memoryOk (s : State) (hs : s.memoryOk = true) :
    (cmdGovCommit s).2.memoryOk = true := by
  simp (maxDischargeDepth := 40) [cmdGovCommit, hs]
@[simp] theorem State.govClear_memoryOk (s : State) (hs : s.memoryOk = true) :
    (State.govClear s).memoryOk = true := by
  simp (maxDischargeDepth := 40) [State.govClear, hs]

end Sys2Proof.Machine

/-! ### Machine/RegMask -/

namespace Sys2Proof.Machine

@[simp] theorem State.markStaged_memoryOk (s : State) (off : Nat) (hs : s.memoryOk = true) :
    (State.markStaged s off).memoryOk = true := by
  simp (maxDischargeDepth := 40) [State.markStaged, hs]

end Sys2Proof.Machine

/-! ### Machine/RegRead -/

namespace Sys2Proof.Machine

@[simp] theorem State.setRing_memoryOk (s : State) (r : Nat) (x : Ring) (hs : s.memoryOk = true) :
    (State.setRing s r x).memoryOk = true := by
  simp (maxDischargeDepth := 40) [State.setRing, hs]
@[simp] theorem State.setCmp_memoryOk (s : State) (k : Nat) (x : Cmp) (hs : s.memoryOk = true) :
    (State.setCmp s k x).memoryOk = true := by
  simp (maxDischargeDepth := 40) [State.setCmp, hs]
@[simp] theorem State.setEvio_memoryOk (s : State) (p : Nat) (x : Evio) (hs : s.memoryOk = true) :
    (State.setEvio s p x).memoryOk = true := by
  simp (maxDischargeDepth := 40) [State.setEvio, hs]
@[simp] theorem State.setTrg_memoryOk (s : State) (u : Nat) (x : Trg) (hs : s.memoryOk = true) :
    (State.setTrg s u x).memoryOk = true := by
  simp (maxDischargeDepth := 40) [State.setTrg, hs]
@[simp] theorem State.setPriv_memoryOk (s : State) (b : Nat) (x : Priv) (hs : s.memoryOk = true) :
    (State.setPriv s b x).memoryOk = true := by
  simp (maxDischargeDepth := 40) [State.setPriv, hs]
@[simp] theorem State.setBw_memoryOk (s : State) (m : Nat) (x : Bw) (hs : s.memoryOk = true) :
    (State.setBw s m x).memoryOk = true := by
  simp (maxDischargeDepth := 40) [State.setBw, hs]
@[simp] theorem State.setMbox_memoryOk (s : State) (k : Nat) (x : Mbox) (hs : s.memoryOk = true) :
    (State.setMbox s k x).memoryOk = true := by
  simp (maxDischargeDepth := 40) [State.setMbox, hs]

end Sys2Proof.Machine

/-! ### Machine/SafeOps -/

namespace Sys2Proof.Machine

@[simp] theorem State.switchOutputs_memoryOk (s : State) (hs : s.memoryOk = true) :
    (State.switchOutputs s).memoryOk = true := by
  unfold State.switchOutputs
  dsimp only
  simp_all (maxDischargeDepth := 40)
@[simp] theorem State.safetySample_memoryOk (s : State) (sins souts brks : Nat) (currents : List Nat) (hs : s.memoryOk = true) :
    (State.safetySample s sins souts brks currents).memoryOk = true := by
  simp (maxDischargeDepth := 40) [State.safetySample, hs]
@[simp] theorem State.safetyReactions_memoryOk (s : State)
    (hs : s.memoryOk = true) : (State.safetyReactions s).memoryOk = true := by
  simp only [State.safetyReactions]
  apply foldl_memoryOk
  · apply foldl_memoryOk _ _ _ hs
    intro s x h; (repeat' split) <;> simp (maxDischargeDepth := 40) [h]
  · intro s x h; split <;> simp (maxDischargeDepth := 40) [h]
@[simp] theorem State.upContainer_memoryOk (s : State) (r n : Nat) (c : Option (List Byte)) (hs : s.memoryOk = true) :
    (State.upContainer s r n c).memoryOk = true := by
  unfold State.upContainer
  dsimp only
  (repeat' split) <;> simp (maxDischargeDepth := 40) [hs]

end Sys2Proof.Machine

/-! ### Machine/RingSend -/

namespace Sys2Proof.Machine

@[simp] theorem State.countStale_memoryOk (s : State) (target : Nat) (hs : s.memoryOk = true) :
    (State.countStale s target).memoryOk = true := by
  simp (maxDischargeDepth := 40) [State.countStale, hs]
@[simp] theorem State.releaseOne_memoryOk (s : State) (r n slot : Nat) (rel : Release) (hs : s.memoryOk = true) :
    (State.releaseOne s r n slot rel).memoryOk = true := by
  unfold State.releaseOne
  (repeat' split) <;> simp (maxDischargeDepth := 40) [hs]
@[simp] theorem State.sendDown_memoryOk (s : State) (r : Nat) (hs : s.memoryOk = true) :
    (State.sendDown s r).memoryOk = true := by
  simp (maxDischargeDepth := 40) [State.sendDown, hs]
@[simp] theorem State.sendAcyclic_memoryOk (s : State) (r : Nat) (hs : s.memoryOk = true) :
    (State.sendAcyclic s r).memoryOk = true := by
  unfold State.sendAcyclic
  dsimp only
  (repeat' split) <;> simp (maxDischargeDepth := 40) [hs]
@[simp] theorem State.releaseRing_memoryOk (s : State) (r : Nat) (rel : Release) (hs : s.memoryOk = true) :
    (State.releaseRing s r rel).memoryOk = true := by
  unfold State.releaseRing
  dsimp only
  (repeat' split) <;> simp_all (maxDischargeDepth := 40)
@[simp] theorem State.releaseRates_memoryOk (s : State) (rel : Release) (hs : s.memoryOk = true) :
    (State.releaseRates s rel).memoryOk = true := by
  unfold State.releaseRates
  dsimp only
  (repeat' split) <;> simp_all (maxDischargeDepth := 40)

end Sys2Proof.Machine

/-! ### Machine/Mailbox -/

namespace Sys2Proof.Machine

@[simp] theorem State.capture_memoryOk (s : State) (sel : Nat) (hs : s.memoryOk = true) :
    (State.capture s sel).2.memoryOk = true := by
  simp (maxDischargeDepth := 40) [State.capture, hs]
@[simp] theorem State.selectMailbox_memoryOk (s : State) (k sel : Nat) (hs : s.memoryOk = true) :
    (State.selectMailbox s k sel).memoryOk = true := by
  simp (maxDischargeDepth := 40) [State.selectMailbox, hs]
@[simp] theorem State.completeCapture_memoryOk (s : State) (k : Nat) (hs : s.memoryOk = true) :
    (State.completeCapture s k).memoryOk = true := by
  simp (maxDischargeDepth := 40) [State.completeCapture, hs]

end Sys2Proof.Machine

/-! ### Machine/RegWrite -/

namespace Sys2Proof.Machine

@[simp] theorem State.clearPlain_memoryOk (s : State) (off : Nat) (w : Word) (hs : s.memoryOk = true) :
    (State.clearPlain s off w).memoryOk = true := by
  unfold State.clearPlain
  (repeat' split) <;> simp (maxDischargeDepth := 40) [hs]
@[simp] theorem State.clearFlags_memoryOk (s : State) (off : Nat) (w : Word) (hs : s.memoryOk = true) :
    (State.clearFlags s off w).memoryOk = true := by
  simp (maxDischargeDepth := 40) [State.clearFlags, hs]
@[simp] theorem State.plainEffect_memoryOk (s : State) (off : Nat) (w : Word) (hs : s.memoryOk = true) :
    (State.plainEffect s off w).memoryOk = true := by
  simp (maxDischargeDepth := 40) [State.plainEffect, hs]
@[simp] theorem State.sendEvio_memoryOk (s : State) (p reg : Nat) (push : Bool) (w target : Word) (hs : s.memoryOk = true) :
    (State.sendEvio s p reg push w target).memoryOk = true := by
  simp (maxDischargeDepth := 40) [State.sendEvio, hs]
@[simp] theorem State.writeEvio_memoryOk (s : State) (agent p o : Nat) (w : Word) (hs : s.memoryOk = true) :
    (State.writeEvio s agent p o w).memoryOk = true := by
  unfold State.writeEvio
  (repeat' split) <;> simp (maxDischargeDepth := 40) [hs]
@[simp] theorem State.writeCmp_memoryOk (s : State) (k o : Nat) (w : Word) (hs : s.memoryOk = true) :
    (State.writeCmp s k o w).memoryOk = true := by
  unfold State.writeCmp
  (repeat' split) <;> simp (maxDischargeDepth := 40) [hs]
@[simp] theorem State.pulse_memoryOk (s : State) (off : Nat) (w : Word) (hs : s.memoryOk = true) :
    (State.pulse s off w).memoryOk = true := by
  simp (maxDischargeDepth := 40) [State.pulse, hs]
@[simp] theorem State.writeOther_memoryOk (s : State) (agent off : Nat) (w : Word) (hs : s.memoryOk = true) :
    (State.writeOther s agent off w).memoryOk = true := by
  simp (maxDischargeDepth := 40) [State.writeOther, hs]
@[simp] theorem State.deny_memoryOk (s : State) (off : Nat) (hs : s.memoryOk = true) :
    (State.deny s off).memoryOk = true := by
  simp (maxDischargeDepth := 40) [State.deny, hs]
@[simp] theorem State.writeLk_memoryOk (s : State) (agent off : Nat) (m : Mask) (w : Word) (locked : Bool)
    (hs : s.memoryOk = true) :
    (State.writeLk s agent off m w locked).memoryOk = true := by
  simp (maxDischargeDepth := 40) [State.writeLk, hs]
@[simp] theorem State.writeStaged_memoryOk (s : State) (agent off : Nat) (m : Mask) (w : Word) (locked : Bool)
    (hs : s.memoryOk = true) :
    (State.writeStaged s agent off m w locked).memoryOk = true := by
  simp (maxDischargeDepth := 40) [State.writeStaged, hs]
@[simp] theorem State.writePlain_memoryOk (s : State) (off : Nat) (m : Mask) (w : Word) (hs : s.memoryOk = true) :
    (State.writePlain s off m w).memoryOk = true := by
  simp (maxDischargeDepth := 40) [State.writePlain, hs]
@[simp] theorem State.writeReg_memoryOk (s : State) (agent off : Nat) (w : Word) (hs : s.memoryOk = true) :
    (State.writeReg s agent off w).1.memoryOk = true := by
  unfold State.writeReg
  (repeat' split) <;> simp (maxDischargeDepth := 40) [hs]
@[simp] theorem State.readBy_memoryOk (s : State) (agent off : Nat) (hs : s.memoryOk = true) :
    (State.readBy s agent off).2.1.memoryOk = true := by
  simp (maxDischargeDepth := 40) [State.readBy, hs]
@[simp] theorem State.applyLk_memoryOk (s : State) (p : LkPend) (hs : s.memoryOk = true) :
    (State.applyLk s p).memoryOk = true := by
  unfold State.applyLk
  dsimp only
  (repeat' split) <;> simp (maxDischargeDepth := 40) [hs]

end Sys2Proof.Machine

/-! ### Machine/LuxSoft -/

namespace Sys2Proof.Machine

@[simp] theorem branchOp_keeps_memoryOk (opc : Nat) (test : Word → Word → Bool) :
    ∀ (u : Nat) (f : Fields) (s : State), s.memoryOk = true → (((branchOp opc test).run u f s).after s).memoryOk = true := by
  intro u f s hs
  simp (maxDischargeDepth := 40) [branchOp, hs]
@[simp] theorem luxBeq_keeps_memoryOk  :
    ∀ (u : Nat) (f : Fields) (s : State), s.memoryOk = true → (((luxBeq).run u f s).after s).memoryOk = true := by
  intro u f s hs
  simp (maxDischargeDepth := 40) [luxBeq, hs]
@[simp] theorem luxBne_keeps_memoryOk  :
    ∀ (u : Nat) (f : Fields) (s : State), s.memoryOk = true → (((luxBne).run u f s).after s).memoryOk = true := by
  intro u f s hs
  simp (maxDischargeDepth := 40) [luxBne, hs]
@[simp] theorem luxBlt_keeps_memoryOk  :
    ∀ (u : Nat) (f : Fields) (s : State), s.memoryOk = true → (((luxBlt).run u f s).after s).memoryOk = true := by
  intro u f s hs
  simp (maxDischargeDepth := 40) [luxBlt, hs]
@[simp] theorem luxBge_keeps_memoryOk  :
    ∀ (u : Nat) (f : Fields) (s : State), s.memoryOk = true → (((luxBge).run u f s).after s).memoryOk = true := by
  intro u f s hs
  simp (maxDischargeDepth := 40) [luxBge, hs]
@[simp] theorem luxBltu_keeps_memoryOk  :
    ∀ (u : Nat) (f : Fields) (s : State), s.memoryOk = true → (((luxBltu).run u f s).after s).memoryOk = true := by
  intro u f s hs
  simp (maxDischargeDepth := 40) [luxBltu, hs]
@[simp] theorem luxBgeu_keeps_memoryOk  :
    ∀ (u : Nat) (f : Fields) (s : State), s.memoryOk = true → (((luxBgeu).run u f s).after s).memoryOk = true := by
  intro u f s hs
  simp (maxDischargeDepth := 40) [luxBgeu, hs]
@[simp] theorem luxJal_keeps_memoryOk  :
    ∀ (u : Nat) (f : Fields) (s : State), s.memoryOk = true → (((luxJal).run u f s).after s).memoryOk = true := by
  intro u f s hs
  simp (maxDischargeDepth := 40) [luxJal, hs]
@[simp] theorem luxJr_keeps_memoryOk  :
    ∀ (u : Nat) (f : Fields) (s : State), s.memoryOk = true → (((luxJr).run u f s).after s).memoryOk = true := by
  intro u f s hs
  simp (maxDischargeDepth := 40) [luxJr, hs]
@[simp] theorem luxLdw_keeps_memoryOk  :
    ∀ (u : Nat) (f : Fields) (s : State), s.memoryOk = true → (((luxLdw).run u f s).after s).memoryOk = true := by
  intro u f s hs
  simp (maxDischargeDepth := 40) [luxLdw, softMem, hs]
@[simp] theorem luxStw_keeps_memoryOk  :
    ∀ (u : Nat) (f : Fields) (s : State), s.memoryOk = true → (((luxStw).run u f s).after s).memoryOk = true := by
  intro u f s hs
  simp (maxDischargeDepth := 40) [luxStw, softMem, hs]
@[simp] theorem luxLdbu_keeps_memoryOk  :
    ∀ (u : Nat) (f : Fields) (s : State), s.memoryOk = true → (((luxLdbu).run u f s).after s).memoryOk = true := by
  intro u f s hs
  simp (maxDischargeDepth := 40) [luxLdbu, softMem, hs]
@[simp] theorem luxStb_keeps_memoryOk  :
    ∀ (u : Nat) (f : Fields) (s : State), s.memoryOk = true → (((luxStb).run u f s).after s).memoryOk = true := by
  intro u f s hs
  simp (maxDischargeDepth := 40) [luxStb, softMem, hs]
@[simp] theorem luxLdd_keeps_memoryOk  : ∀ (u : Nat) (f : Fields) (s : State), s.memoryOk = true →
    (((luxLdd).run u f s).after s).memoryOk = true := by
  intro u f s hs
  simp only [luxLdd, softMem]
  split
  · exact hs
  · simp (maxDischargeDepth := 40) [hs]
@[simp] theorem luxStd_keeps_memoryOk  : ∀ (u : Nat) (f : Fields) (s : State), s.memoryOk = true →
    (((luxStd).run u f s).after s).memoryOk = true := by
  intro u f s hs
  simp only [luxStd, softMem]
  split
  · exact hs
  · simp (maxDischargeDepth := 40) [hs]
@[simp] theorem luxAmoadd_keeps_memoryOk  : ∀ (u : Nat) (f : Fields) (s : State), s.memoryOk = true →
    (((luxAmoadd).run u f s).after s).memoryOk = true := by
  intro u f s hs
  simp only [luxAmoadd]
  split
  · rename_i r hr; rw [State.sCheck_after _ _ _ _ _ _ hr]; exact hs
  · simp only [LuxRes.ite_after, ite_memoryOk]
    split <;> simp (maxDischargeDepth := 40) [hs]
@[simp] theorem luxRgr_keeps_memoryOk  :
    ∀ (u : Nat) (f : Fields) (s : State), s.memoryOk = true → (((luxRgr).run u f s).after s).memoryOk = true := by
  intro u f s hs
  simp (maxDischargeDepth := 40) [luxRgr, hs]
@[simp] theorem luxRgw_keeps_memoryOk  :
    ∀ (u : Nat) (f : Fields) (s : State), s.memoryOk = true → (((luxRgw).run u f s).after s).memoryOk = true := by
  intro u f s hs
  simp (maxDischargeDepth := 40) [luxRgw, hs]
@[simp] theorem luxTend_keeps_memoryOk  :
    ∀ (u : Nat) (f : Fields) (s : State), s.memoryOk = true → (((luxTend).run u f s).after s).memoryOk = true := by
  intro u f s hs
  simp (maxDischargeDepth := 40) [luxTend, hs]
@[simp] theorem luxTpost_keeps_memoryOk  :
    ∀ (u : Nat) (f : Fields) (s : State), s.memoryOk = true → (((luxTpost).run u f s).after s).memoryOk = true := by
  intro u f s hs
  simp (maxDischargeDepth := 40) [luxTpost, hs]
@[simp] theorem luxTdly_keeps_memoryOk  :
    ∀ (u : Nat) (f : Fields) (s : State), s.memoryOk = true → (((luxTdly).run u f s).after s).memoryOk = true := by
  intro u f s hs
  simp (maxDischargeDepth := 40) [luxTdly, hs]
@[simp] theorem luxFlt_keeps_memoryOk  :
    ∀ (u : Nat) (f : Fields) (s : State), s.memoryOk = true → (((luxFlt).run u f s).after s).memoryOk = true := by
  intro u f s hs
  simp (maxDischargeDepth := 40) [luxFlt, hs]
theorem execBeq_memoryOk (u : Nat) (f : Fields) (s : State) (hs : s.memoryOk = true) :
    ∃ t, execBeq u f s = .next t ∧ t.memoryOk = true := ⟨_, rfl, State.luxStep_memoryOk _ _ _ _ hs luxBeq_keeps_memoryOk⟩
theorem execBne_memoryOk (u : Nat) (f : Fields) (s : State) (hs : s.memoryOk = true) :
    ∃ t, execBne u f s = .next t ∧ t.memoryOk = true := ⟨_, rfl, State.luxStep_memoryOk _ _ _ _ hs luxBne_keeps_memoryOk⟩
theorem execBlt_memoryOk (u : Nat) (f : Fields) (s : State) (hs : s.memoryOk = true) :
    ∃ t, execBlt u f s = .next t ∧ t.memoryOk = true := ⟨_, rfl, State.luxStep_memoryOk _ _ _ _ hs luxBlt_keeps_memoryOk⟩
theorem execBge_memoryOk (u : Nat) (f : Fields) (s : State) (hs : s.memoryOk = true) :
    ∃ t, execBge u f s = .next t ∧ t.memoryOk = true := ⟨_, rfl, State.luxStep_memoryOk _ _ _ _ hs luxBge_keeps_memoryOk⟩
theorem execBltu_memoryOk (u : Nat) (f : Fields) (s : State) (hs : s.memoryOk = true) :
    ∃ t, execBltu u f s = .next t ∧ t.memoryOk = true := ⟨_, rfl, State.luxStep_memoryOk _ _ _ _ hs luxBltu_keeps_memoryOk⟩
theorem execBgeu_memoryOk (u : Nat) (f : Fields) (s : State) (hs : s.memoryOk = true) :
    ∃ t, execBgeu u f s = .next t ∧ t.memoryOk = true := ⟨_, rfl, State.luxStep_memoryOk _ _ _ _ hs luxBgeu_keeps_memoryOk⟩
theorem execJal_memoryOk (u : Nat) (f : Fields) (s : State) (hs : s.memoryOk = true) :
    ∃ t, execJal u f s = .next t ∧ t.memoryOk = true := ⟨_, rfl, State.luxStep_memoryOk _ _ _ _ hs luxJal_keeps_memoryOk⟩
theorem execJr_memoryOk (u : Nat) (f : Fields) (s : State) (hs : s.memoryOk = true) :
    ∃ t, execJr u f s = .next t ∧ t.memoryOk = true := ⟨_, rfl, State.luxStep_memoryOk _ _ _ _ hs luxJr_keeps_memoryOk⟩
theorem execLdw_memoryOk (u : Nat) (f : Fields) (s : State) (hs : s.memoryOk = true) :
    ∃ t, execLdw u f s = .next t ∧ t.memoryOk = true := ⟨_, rfl, State.luxStep_memoryOk _ _ _ _ hs luxLdw_keeps_memoryOk⟩
theorem execStw_memoryOk (u : Nat) (f : Fields) (s : State) (hs : s.memoryOk = true) :
    ∃ t, execStw u f s = .next t ∧ t.memoryOk = true := ⟨_, rfl, State.luxStep_memoryOk _ _ _ _ hs luxStw_keeps_memoryOk⟩
theorem execLdbu_memoryOk (u : Nat) (f : Fields) (s : State) (hs : s.memoryOk = true) :
    ∃ t, execLdbu u f s = .next t ∧ t.memoryOk = true := ⟨_, rfl, State.luxStep_memoryOk _ _ _ _ hs luxLdbu_keeps_memoryOk⟩
theorem execStb_memoryOk (u : Nat) (f : Fields) (s : State) (hs : s.memoryOk = true) :
    ∃ t, execStb u f s = .next t ∧ t.memoryOk = true := ⟨_, rfl, State.luxStep_memoryOk _ _ _ _ hs luxStb_keeps_memoryOk⟩
theorem execLdd_memoryOk (u : Nat) (f : Fields) (s : State) (hs : s.memoryOk = true) :
    ∃ t, execLdd u f s = .next t ∧ t.memoryOk = true := ⟨_, rfl, State.luxStep_memoryOk _ _ _ _ hs luxLdd_keeps_memoryOk⟩
theorem execStd_memoryOk (u : Nat) (f : Fields) (s : State) (hs : s.memoryOk = true) :
    ∃ t, execStd u f s = .next t ∧ t.memoryOk = true := ⟨_, rfl, State.luxStep_memoryOk _ _ _ _ hs luxStd_keeps_memoryOk⟩
theorem execAmoadd_memoryOk (u : Nat) (f : Fields) (s : State) (hs : s.memoryOk = true) :
    ∃ t, execAmoadd u f s = .next t ∧ t.memoryOk = true := ⟨_, rfl, State.luxStep_memoryOk _ _ _ _ hs luxAmoadd_keeps_memoryOk⟩
theorem execRgr_memoryOk (u : Nat) (f : Fields) (s : State) (hs : s.memoryOk = true) :
    ∃ t, execRgr u f s = .next t ∧ t.memoryOk = true := ⟨_, rfl, State.luxStep_memoryOk _ _ _ _ hs luxRgr_keeps_memoryOk⟩
theorem execRgw_memoryOk (u : Nat) (f : Fields) (s : State) (hs : s.memoryOk = true) :
    ∃ t, execRgw u f s = .next t ∧ t.memoryOk = true := ⟨_, rfl, State.luxStep_memoryOk _ _ _ _ hs luxRgw_keeps_memoryOk⟩
theorem execTend_memoryOk (u : Nat) (f : Fields) (s : State) (hs : s.memoryOk = true) :
    ∃ t, execTend u f s = .next t ∧ t.memoryOk = true := ⟨_, rfl, State.luxStep_memoryOk _ _ _ _ hs luxTend_keeps_memoryOk⟩
theorem execTpost_memoryOk (u : Nat) (f : Fields) (s : State) (hs : s.memoryOk = true) :
    ∃ t, execTpost u f s = .next t ∧ t.memoryOk = true := ⟨_, rfl, State.luxStep_memoryOk _ _ _ _ hs luxTpost_keeps_memoryOk⟩
theorem execTdly_memoryOk (u : Nat) (f : Fields) (s : State) (hs : s.memoryOk = true) :
    ∃ t, execTdly u f s = .next t ∧ t.memoryOk = true := ⟨_, rfl, State.luxStep_memoryOk _ _ _ _ hs luxTdly_keeps_memoryOk⟩
theorem execFlt_memoryOk (u : Nat) (f : Fields) (s : State) (hs : s.memoryOk = true) :
    ∃ t, execFlt u f s = .next t ∧ t.memoryOk = true := ⟨_, rfl, State.luxStep_memoryOk _ _ _ _ hs luxFlt_keeps_memoryOk⟩

end Sys2Proof.Machine

/-! ### Machine/LuxRun -/

namespace Sys2Proof.Machine

/-- Every instruction of the set keeps it. -/
theorem luxOps_keeps_memoryOk : ∀ o ∈ luxOps, ∀ (u : Nat) (f : Fields) (s : State), s.memoryOk = true →
    ((o.run u f s).after s).memoryOk = true := by
  have h1 : ∀ o ∈ luxScalarOps, ∀ (u : Nat) (f : Fields) (s : State), s.memoryOk = true →
      ((o.run u f s).after s).memoryOk = true := by
    simp +contextual [luxScalarOps]
  have h2 : ∀ o ∈ luxVectorOps, ∀ (u : Nat) (f : Fields) (s : State), s.memoryOk = true →
      ((o.run u f s).after s).memoryOk = true := by
    simp +contextual [luxVectorOps]
  have h3 : ∀ o ∈ luxSoftOps, ∀ (u : Nat) (f : Fields) (s : State), s.memoryOk = true →
      ((o.run u f s).after s).memoryOk = true := by
    simp +contextual [luxSoftOps]
  intro o ho
  rcases List.mem_append.mp ho with h | h
  · rcases List.mem_append.mp h with h | h
    · exact h1 o h
    · exact h2 o h
  · exact h3 o h

theorem luxOpOf_keeps_memoryOk (u opc : Nat) (o : LuxOp) (h : luxOpOf u opc = some o) :
    ∀ (u : Nat) (f : Fields) (s : State), s.memoryOk = true → ((o.run u f s).after s).memoryOk = true :=
  luxOps_keeps_memoryOk o (List.mem_of_find?_eq_some h)

@[simp] theorem State.runBlock_memoryOk (u budget : Nat) (z0 : Nat) (z1 : State)
    (hs : z1.memoryOk = true) : (State.runBlock u budget z0 z1).memoryOk = true := by
  induction z0 generalizing z1 with
  | zero => exact hs
  | succ n ih =>
    simp only [State.runBlock]
    split
    · exact hs
    · split
      · simp (maxDischargeDepth := 40) [hs]
      · split
        · simp (maxDischargeDepth := 40) [hs]
        · rename_i o ho
          rw [ite_memoryOk, ih _ (State.luxStep_memoryOk _ _ _ _ hs (luxOpOf_keeps_memoryOk _ _ _ ho)), hs, ite_self]
@[simp] theorem State.startBlock_memoryOk (s : State) (u off : Nat) (hs : s.memoryOk = true) :
    (State.startBlock s u off).memoryOk = true := by
  simp (maxDischargeDepth := 40) [State.startBlock, hs]
@[simp] theorem State.illegalWord_memoryOk (s : State) (u : Nat) (w : U64)
    (hs : s.memoryOk = true) : (State.illegalWord s u w).memoryOk = true := by
  simp only [State.illegalWord]
  split
  · exact hs
  · split
    · exact State.fetchFails_memoryOk _ _ _ hs
    · split
      · split <;> simp (maxDischargeDepth := 40) [hs]
      · rename_i o ho
        split
        · exact State.fetched_memoryOk _ _ _ (State.luxRun_memoryOk _ _ _ _ hs (luxOpOf_keeps_memoryOk _ _ _ ho))
        · exact hs
theorem execIllegalInstruction_memoryOk (u : Nat) (word : U64) (s : State) (hs : s.memoryOk = true) :
    ∃ t, execIllegalInstruction u word s = .next t ∧ t.memoryOk = true := ⟨_, rfl, by simp (maxDischargeDepth := 40) [hs]⟩

end Sys2Proof.Machine

/-! ### Machine/RingRows -/

namespace Sys2Proof.Machine

@[simp] theorem State.holdDisabled_memoryOk (s : State) (hs : s.memoryOk = true) :
    (State.holdDisabled s).memoryOk = true := by
  unfold State.holdDisabled
  dsimp only
  simp_all (maxDischargeDepth := 40)
@[simp] theorem State.driveEvios_memoryOk (s : State) (hs : s.memoryOk = true) :
    (State.driveEvios s).memoryOk = true := by
  simp (maxDischargeDepth := 40) [State.driveEvios, hs]
@[simp] theorem State.takeRole_memoryOk (s : State) (role : Nat) (hs : s.memoryOk = true) :
    (State.takeRole s role).memoryOk = true := by
  simp (maxDischargeDepth := 40) [State.takeRole, hs]
@[simp] theorem State.cfgFault_memoryOk (s : State) (code : Nat) (hs : s.memoryOk = true) :
    (State.cfgFault s code).memoryOk = true := by
  simp (maxDischargeDepth := 40) [State.cfgFault, hs]
@[simp] theorem State.until_memoryOk (s : State) (arrival : Nat) (hs : s.memoryOk = true) :
    (State.until s arrival).memoryOk = true := by
  simp (maxDischargeDepth := 40) [State.until, hs]
@[simp] theorem State.portCount_memoryOk (s : State) (event r port : Nat) (hs : s.memoryOk = true) :
    (State.portCount s event r port).memoryOk = true := by
  simp (maxDischargeDepth := 40) [State.portCount, hs]
@[simp] theorem State.badCheck_memoryOk (s : State) (r port : Nat) (hs : s.memoryOk = true) :
    (State.badCheck s r port).memoryOk = true := by
  simp (maxDischargeDepth := 40) [State.badCheck, hs]
@[simp] theorem State.folded_memoryOk (s : State) (r : Nat) (bs : List Byte) (hs : s.memoryOk = true) :
    (State.folded s r bs).memoryOk = true := by
  simp (maxDischargeDepth := 40) [State.folded, hs]
@[simp] theorem State.ownHeader_memoryOk (s : State) (r port arrival : Nat) (bs : List Byte) (cold : Bool)
    (hs : s.memoryOk = true) :
    (State.ownHeader s r port arrival bs cold).memoryOk = true := by
  unfold State.ownHeader
  (repeat' split) <;> simp (maxDischargeDepth := 40) [hs]
@[simp] theorem State.shiftTime_memoryOk (s : State) (d : Int) (hs : s.memoryOk = true) :
    (State.shiftTime s d).memoryOk = true := by simp (maxDischargeDepth := 40) [State.shiftTime, hs]
@[simp] theorem State.keepHeader_memoryOk (s : State) (r port : Nat) (bs : List Byte) (hs : s.memoryOk = true) :
    (State.keepHeader s r port bs).memoryOk = true := by
  unfold State.keepHeader
  (repeat' split) <;> simp (maxDischargeDepth := 40) [hs]
@[simp] theorem State.lockToHead_memoryOk (s : State) (r port : Nat) (bs : List Byte) (hs : s.memoryOk = true) :
    (State.lockToHead s r port bs).memoryOk = true := by
  simp (maxDischargeDepth := 40) [State.lockToHead, hs]
@[simp] theorem State.memberHeader_memoryOk (s : State) (r port : Nat) (bs : List Byte) (cold : Bool) (hs : s.memoryOk = true) :
    (State.memberHeader s r port bs cold).memoryOk = true := by
  unfold State.memberHeader
  dsimp only
  (repeat' split) <;> simp (maxDischargeDepth := 40) [hs]
@[simp] theorem State.peerHeader_memoryOk (s : State) (r port : Nat) (bs : List Byte) (cold : Bool) (hs : s.memoryOk = true) :
    (State.peerHeader s r port bs cold).memoryOk = true := by
  unfold State.peerHeader
  (repeat' split) <;> simp (maxDischargeDepth := 40) [hs]
@[simp] theorem State.foreignHeader_memoryOk (s : State) (r : Nat) (hs : s.memoryOk = true) :
    (State.foreignHeader s r).memoryOk = true := by
  simp (maxDischargeDepth := 40) [State.foreignHeader, hs]
@[simp] theorem State.header_memoryOk (s : State) (r port : Nat) (bs : List Byte) (arrival : Nat) (cold : Bool)
    (hs : s.memoryOk = true) :
    (State.header s r port bs arrival cold).memoryOk = true := by
  simp (maxDischargeDepth := 40) [State.header, hs]
@[simp] theorem State.carry_memoryOk (s : State) (r port : Nat) (bs : List Byte) (hs : s.memoryOk = true) :
    (State.carry s r port bs).memoryOk = true := by
  unfold State.carry
  (repeat' split) <;> simp (maxDischargeDepth := 40) [hs]
@[simp] theorem State.takeCopy_memoryOk (s : State) (r n : Nat) (laneY ok : Bool) (off : Int) (bs : List Byte)
    (hs : s.memoryOk = true) :
    (State.takeCopy s r n laneY ok off bs).memoryOk = true := by
  unfold State.takeCopy
  dsimp only
  (repeat' split) <;> simp (maxDischargeDepth := 40) [hs]
@[simp] theorem State.barge_memoryOk (s : State) (r port : Nat) (bs : List Byte) (arrival : Nat) (hs : s.memoryOk = true) :
    (State.barge s r port bs arrival).memoryOk = true := by
  unfold State.barge
  dsimp only
  (repeat' split) <;> simp (maxDischargeDepth := 40) [hs]
@[simp] theorem State.upEntryStep_memoryOk (s : State) (hit : List Nat) (r n slot : Nat) (hs : s.memoryOk = true) :
    (State.upEntryStep s hit r n slot).memoryOk = true := by
  unfold State.upEntryStep
  dsimp only
  (repeat' split) <;> simp (maxDischargeDepth := 40) [hs]
@[simp] theorem State.remoteStep_memoryOk (s : State) (r n slot i : Nat) (hs : s.memoryOk = true) :
    (State.remoteStep s r n slot i).memoryOk = true := by
  unfold State.remoteStep
  dsimp only
  (repeat' split) <;> simp (maxDischargeDepth := 40) [hs]
@[simp] theorem State.horizonBooks_memoryOk (s : State) (r n : Nat) (v : RNode) (guard : Nat) (hs : s.memoryOk = true) :
    (State.horizonBooks s r n v guard).memoryOk = true := by
  simp (maxDischargeDepth := 40) [State.horizonBooks, hs]
@[simp] theorem State.seeDiverge_memoryOk (s : State) (r : Nat) (used : Option RxBarge) (hs : s.memoryOk = true) :
    (State.seeDiverge s r used).memoryOk = true := by
  unfold State.seeDiverge
  (repeat' split) <;> simp (maxDischargeDepth := 40) [hs]
@[simp] theorem State.horizonData_memoryOk (s : State) (hit : List Nat) (r n : Nat) (used : Option RxBarge) (hs : s.memoryOk = true) :
    (State.horizonData s hit r n used).memoryOk = true := by
  simp only [State.horizonData]
  apply foldl_memoryOk
  · apply State.upContainer_memoryOk
    exact foldl_memoryOk _ _ _ hs (fun s x h => by simp [h])
  · intro s x h; split <;> simp [h]
@[simp] theorem State.nodeHorizon_memoryOk (s : State) (hit : List Nat) (r n : Nat) (hs : s.memoryOk = true) :
    (State.nodeHorizon s hit r n).memoryOk = true := by
  simp (maxDischargeDepth := 40) [State.nodeHorizon, hs]
@[simp] theorem State.grants_memoryOk (s : State) (r : Nat) (hs : s.memoryOk = true) :
    (State.grants s r).memoryOk = true := by
  simp (maxDischargeDepth := 40) [State.grants, hs]
@[simp] theorem State.queueFrame_memoryOk (s : State) (link : Nat) (bs : List Byte) (hs : s.memoryOk = true) :
    (State.queueFrame s link bs).memoryOk = true := by
  simp (maxDischargeDepth := 40) [State.queueFrame, hs]
@[simp] theorem State.installLocal_memoryOk (s : State) (c : LocalChan) (hs : s.memoryOk = true) :
    (State.installLocal s c).memoryOk = true := by
  simp (maxDischargeDepth := 40) [State.installLocal, hs]
@[simp] theorem State.installSerial_memoryOk (s : State) (c : LocalChan) (hs : s.memoryOk = true) :
    (State.installSerial s c).memoryOk = true := by
  simp (maxDischargeDepth := 40) [State.installSerial, hs]
@[simp] theorem State.installLocals_memoryOk (s : State) (hs : s.memoryOk = true) :
    (State.installLocals s).memoryOk = true := by
  unfold State.installLocals
  dsimp only
  (repeat' split) <;> simp_all (maxDischargeDepth := 40)
@[simp] theorem State.sendLedger_memoryOk (s : State) (hs : s.memoryOk = true) :
    (State.sendLedger s).memoryOk = true := by simp (maxDischargeDepth := 40) [State.sendLedger, hs]
@[simp] theorem State.ringInHorizon_memoryOk (s : State) (hs : s.memoryOk = true) :
    (State.ringInHorizon s).memoryOk = true := by
  unfold State.ringInHorizon
  dsimp only
  (repeat' split) <;> simp_all (maxDischargeDepth := 40)
@[simp] theorem State.edgeLimitReached_memoryOk (s : State) (r n : Nat) (hs : s.memoryOk = true) :
    (State.edgeLimitReached s r n).memoryOk = true := by
  simp (maxDischargeDepth := 40) [State.edgeLimitReached, hs]
@[simp] theorem State.joinCountReached_memoryOk (s : State) (r n : Nat) (hs : s.memoryOk = true) :
    (State.joinCountReached s r n).memoryOk = true := by
  simp (maxDischargeDepth := 40) [State.joinCountReached, hs]
@[simp] theorem State.bargeAbsence_memoryOk (s : State) (r n : Nat) (hs : s.memoryOk = true) :
    (State.bargeAbsence s r n).memoryOk = true := by
  simp (maxDischargeDepth := 40) [State.bargeAbsence, hs]
@[simp] theorem State.resyncNode_memoryOk (s : State) (r n : Nat) (hs : s.memoryOk = true) :
    (State.resyncNode s r n).memoryOk = true := by
  simp (maxDischargeDepth := 40) [State.resyncNode, hs]
@[simp] theorem State.creditResync_memoryOk (s : State) (r n : Nat) (hs : s.memoryOk = true) :
    (State.creditResync s r n).memoryOk = true := by
  simp (maxDischargeDepth := 40) [State.creditResync, hs]
@[simp] theorem State.passAcyclic_memoryOk (s : State) (r port : Nat) (bs : List Byte) (hs : s.memoryOk = true) :
    (State.passAcyclic s r port bs).memoryOk = true := by
  unfold State.passAcyclic
  (repeat' split) <;> simp (maxDischargeDepth := 40) [hs]
@[simp] theorem State.acyclicFrame_memoryOk (s : State) (r port : Nat) (bs : List Byte) (hs : s.memoryOk = true) :
    (State.acyclicFrame s r port bs).memoryOk = true := by
  simp (maxDischargeDepth := 40) [State.acyclicFrame, hs]
@[simp] theorem State.downstreamFrame_memoryOk (s : State) (r port : Nat) (bs : List Byte) (arrival : Nat)
    (hs : s.memoryOk = true) :
    (State.downstreamFrame s r port bs arrival).memoryOk = true := by
  simp (maxDischargeDepth := 40) [State.downstreamFrame, hs]
@[simp] theorem State.probeSend_memoryOk (s : State) (r port : Nat) (hs : s.memoryOk = true) :
    (State.probeSend s r port).memoryOk = true := by
  simp (maxDischargeDepth := 40) [State.probeSend, hs]
@[simp] theorem State.probe_memoryOk (s : State) (r port : Nat) (bs : List Byte) (arrival : Nat) (hs : s.memoryOk = true) :
    (State.probe s r port bs arrival).memoryOk = true := by
  simp (maxDischargeDepth := 40) [State.probe, hs]
@[simp] theorem State.probeReply_memoryOk (s : State) (r port : Nat) (bs : List Byte) (arrival : Nat) (hs : s.memoryOk = true) :
    (State.probeReply s r port bs arrival).memoryOk = true := by
  simp (maxDischargeDepth := 40) [State.probeReply, hs]
@[simp] theorem State.fibreDead_memoryOk (s : State) (r port : Nat) (hs : s.memoryOk = true) :
    (State.fibreDead s r port).memoryOk = true := by
  simp (maxDischargeDepth := 40) [State.fibreDead, hs]
@[simp] theorem State.blockLockLoss_memoryOk (s : State) (r port : Nat) (hs : s.memoryOk = true) :
    (State.blockLockLoss s r port).memoryOk = true := by
  simp (maxDischargeDepth := 40) [State.blockLockLoss, hs]
@[simp] theorem State.headerAbsence_memoryOk (s : State) (r port : Nat) (hs : s.memoryOk = true) :
    (State.headerAbsence s r port).memoryOk = true := by
  simp (maxDischargeDepth := 40) [State.headerAbsence, hs]
@[simp] theorem State.blockLockRegained_memoryOk (s : State) (r port : Nat) (hs : s.memoryOk = true) :
    (State.blockLockRegained s r port).memoryOk = true := by
  simp (maxDischargeDepth := 40) [State.blockLockRegained, hs]
@[simp] theorem State.holeClear_memoryOk (s : State) (r : Nat) (hs : s.memoryOk = true) :
    (State.holeClear s r).memoryOk = true := by
  simp (maxDischargeDepth := 40) [State.holeClear, hs]
theorem execPassageHeader_memoryOk (r port : Nat) (bs : List Byte) (arrival : Nat) (s : State) (hs : s.memoryOk = true) :
    ∃ t, execPassageHeader r port bs arrival s = .next t ∧ t.memoryOk = true := ⟨_, rfl, by simp (maxDischargeDepth := 40) [hs]⟩
theorem execColdStartHeader_memoryOk (r port : Nat) (bs : List Byte) (arrival : Nat) (s : State) (hs : s.memoryOk = true) :
    ∃ t, execColdStartHeader r port bs arrival s = .next t ∧ t.memoryOk = true :=
  ⟨_, rfl, by simp (maxDischargeDepth := 40) [hs]⟩
theorem execBarge_memoryOk (r port : Nat) (bs : List Byte) (arrival : Nat) (s : State) (hs : s.memoryOk = true) :
    ∃ t, execBarge r port bs arrival s = .next t ∧ t.memoryOk = true := ⟨_, rfl, by simp (maxDischargeDepth := 40) [hs]⟩
theorem execDownstreamFrame_memoryOk (r port : Nat) (bs : List Byte) (arrival : Nat) (s : State) (hs : s.memoryOk = true) :
    ∃ t, execDownstreamFrame r port bs arrival s = .next t ∧ t.memoryOk = true :=
  ⟨_, rfl, by simp (maxDischargeDepth := 40) [hs]⟩
theorem execAcyclicFrame_memoryOk (r port : Nat) (bs : List Byte) (s : State) (hs : s.memoryOk = true) :
    ∃ t, execAcyclicFrame r port bs s = .next t ∧ t.memoryOk = true := ⟨_, rfl, by simp (maxDischargeDepth := 40) [hs]⟩
theorem execPoundProbe_memoryOk (r port : Nat) (bs : List Byte) (arrival : Nat) (s : State) (hs : s.memoryOk = true) :
    ∃ t, execPoundProbe r port bs arrival s = .next t ∧ t.memoryOk = true := ⟨_, rfl, by simp (maxDischargeDepth := 40) [hs]⟩
theorem execPoundProbeReply_memoryOk (r port : Nat) (bs : List Byte) (arrival : Nat) (s : State) (hs : s.memoryOk = true) :
    ∃ t, execPoundProbeReply r port bs arrival s = .next t ∧ t.memoryOk = true :=
  ⟨_, rfl, by simp (maxDischargeDepth := 40) [hs]⟩
theorem execPoundProbeSend_memoryOk (r port : Nat) (s : State) (hs : s.memoryOk = true) :
    ∃ t, execPoundProbeSend r port s = .next t ∧ t.memoryOk = true := ⟨_, rfl, by simp (maxDischargeDepth := 40) [hs]⟩
theorem execRingInHorizon_memoryOk (s : State) (hs : s.memoryOk = true) :
    ∃ t, execRingInHorizon s = .next t ∧ t.memoryOk = true := ⟨_, rfl, by simp (maxDischargeDepth := 40) [hs]⟩
theorem execEdgeLimitReached_memoryOk (r n : Nat) (s : State) (hs : s.memoryOk = true) :
    ∃ t, execEdgeLimitReached r n s = .next t ∧ t.memoryOk = true := ⟨_, rfl, by simp (maxDischargeDepth := 40) [hs]⟩
theorem execJoinCountReached_memoryOk (r n : Nat) (s : State) (hs : s.memoryOk = true) :
    ∃ t, execJoinCountReached r n s = .next t ∧ t.memoryOk = true := ⟨_, rfl, by simp (maxDischargeDepth := 40) [hs]⟩
theorem execBargeAbsenceTimeout_memoryOk (r n : Nat) (s : State) (hs : s.memoryOk = true) :
    ∃ t, execBargeAbsenceTimeout r n s = .next t ∧ t.memoryOk = true := ⟨_, rfl, by simp (maxDischargeDepth := 40) [hs]⟩
theorem execCreditResync_memoryOk (r n : Nat) (s : State) (hs : s.memoryOk = true) :
    ∃ t, execCreditResync r n s = .next t ∧ t.memoryOk = true := ⟨_, rfl, by simp (maxDischargeDepth := 40) [hs]⟩
theorem execBlockLockLoss_memoryOk (r port : Nat) (s : State) (hs : s.memoryOk = true) :
    ∃ t, execBlockLockLoss r port s = .next t ∧ t.memoryOk = true := ⟨_, rfl, by simp (maxDischargeDepth := 40) [hs]⟩
theorem execHeaderAbsence_memoryOk (r port : Nat) (s : State) (hs : s.memoryOk = true) :
    ∃ t, execHeaderAbsence r port s = .next t ∧ t.memoryOk = true := ⟨_, rfl, by simp (maxDischargeDepth := 40) [hs]⟩
theorem execBlockLockRegained_memoryOk (r port : Nat) (s : State) (hs : s.memoryOk = true) :
    ∃ t, execBlockLockRegained r port s = .next t ∧ t.memoryOk = true := ⟨_, rfl, by simp (maxDischargeDepth := 40) [hs]⟩
theorem execHoleClear_memoryOk (r : Nat) (s : State) (hs : s.memoryOk = true) :
    ∃ t, execHoleClear r s = .next t ∧ t.memoryOk = true := ⟨_, rfl, by simp (maxDischargeDepth := 40) [hs]⟩

end Sys2Proof.Machine

/-! ### Machine/CmdOps -/

namespace Sys2Proof.Machine

@[simp] theorem Store.setSlot_mram (x : Store) (n : Nat) (v : Slot) : (x.setSlot n v).mram = x.mram := by
  unfold Store.setSlot; split <;> rfl

@[simp] theorem pointAt_memoryOk (np len rng : Nat) (r : Refusals × State) (hs : r.2.memoryOk = true) :
    (pointAt np len rng r).state.memoryOk = true := by
  simp (maxDischargeDepth := 40) [pointAt, hs]
@[simp] theorem cmdTtLoad_memoryOk (c : Ctx) (slot : Nat) (s : State) (hs : s.memoryOk = true) :
    (cmdTtLoad c slot s).2.memoryOk = true := by
  simp (maxDischargeDepth := 40) [cmdTtLoad, hs]
@[simp] theorem cmdTtSwap_memoryOk (c : Ctx) (p : Word) (s : State) (hs : s.memoryOk = true) :
    (cmdTtSwap c p s).2.memoryOk = true := by
  simp (maxDischargeDepth := 40) [cmdTtSwap, hs]
@[simp] theorem cmdTtCancel_memoryOk (c : Ctx) (s : State) (hs : s.memoryOk = true) :
    (cmdTtCancel c s).2.memoryOk = true := by
  simp (maxDischargeDepth := 40) [cmdTtCancel, hs]
@[simp] theorem cmdRgCommit_memoryOk (r : Nat) (s : State) (hs : s.memoryOk = true) :
    (cmdRgCommit r s).2.memoryOk = true := by
  simp (maxDischargeDepth := 40) [cmdRgCommit, hs]
@[simp] theorem cmdRgReopen_memoryOk (r n : Nat) (s : State) (hs : s.memoryOk = true) :
    (cmdRgReopen r n s).2.memoryOk = true := by
  simp (maxDischargeDepth := 40) [cmdRgReopen, hs]
@[simp] theorem cmdRgResync_memoryOk (r n : Nat) (s : State) (hs : s.memoryOk = true) :
    (cmdRgResync r n s).2.memoryOk = true := by
  unfold cmdRgResync
  dsimp only
  (repeat' split) <;> simp_all (maxDischargeDepth := 40)
@[simp] theorem State.fetchBytes_memoryOk (s : State) (a n : Nat) (hs : s.memoryOk = true) :
    (State.fetchBytes s a n).2.memoryOk = true := by
  unfold State.fetchBytes
  dsimp only
  (repeat' split) <;> simp_all (maxDischargeDepth := 40)
@[simp] theorem cmdRgAsend_memoryOk (r n proto len : Nat) (addr : Word) (s : State) (hs : s.memoryOk = true) :
    (cmdRgAsend r n proto len addr s).2.memoryOk = true := by
  simp (maxDischargeDepth := 40) [cmdRgAsend, hs]
@[simp] theorem State.stepTime_memoryOk (s : State) (d : Int) (hs : s.memoryOk = true) :
    (State.stepTime s d).memoryOk = true := by
  simp (maxDischargeDepth := 40) [State.stepTime, hs]
@[simp] theorem cmdTimeStep_memoryOk (delta : U64) (s : State) (hs : s.memoryOk = true) :
    (cmdTimeStep delta s).2.memoryOk = true := by
  simp (maxDischargeDepth := 40) [cmdTimeStep, hs]
@[simp] theorem cmdTimeRate_memoryOk (rate : Word) (s : State) (hs : s.memoryOk = true) :
    (cmdTimeRate rate s).2.memoryOk = true := by
  simp (maxDischargeDepth := 40) [cmdTimeRate, hs]
@[simp] theorem cmdPtpCommit_memoryOk (s : State) (hs : s.memoryOk = true) :
    (cmdPtpCommit s).2.memoryOk = true := by
  simp (maxDischargeDepth := 40) [cmdPtpCommit, hs]
@[simp] theorem State.dropDesc_memoryOk (s : State) (d : Nat) (hs : s.memoryOk = true) :
    (State.dropDesc s d).memoryOk = true := by
  simp (maxDischargeDepth := 40) [State.dropDesc, hs]
@[simp] theorem cmdSpDesc_memoryOk (d : Nat) (addr : Word) (s : State) (hs : s.memoryOk = true) :
    (cmdSpDesc d addr s).2.memoryOk = true := by
  unfold cmdSpDesc
  dsimp only
  (repeat' split) <;> simp (maxDischargeDepth := 40) [hs]
@[simp] theorem cmdSpPost_memoryOk (d slot : Nat) (value : Word) (s : State) (hs : s.memoryOk = true) :
    (cmdSpPost d slot value s).2.memoryOk = true := by
  simp (maxDischargeDepth := 40) [cmdSpPost, hs]
@[simp] theorem cmdSpDrop_memoryOk (d : Nat) (s : State) (hs : s.memoryOk = true) :
    (cmdSpDrop d s).2.memoryOk = true := by
  simp (maxDischargeDepth := 40) [cmdSpDrop, hs]

end Sys2Proof.Machine

/-! ### Machine/CmdAcq -/

namespace Sys2Proof.Machine

@[simp] theorem State.putSample_memoryOk (s : State) (b : Nat) (c : PrivCfg) (w v : Nat) (hs : s.memoryOk = true) :
    (State.putSample s b c w v).memoryOk = true := by
  unfold State.putSample
  (repeat' split) <;> simp (maxDischargeDepth := 40) [hs]
@[simp] theorem State.fillFast_memoryOk (s : State) (b : Nat) (hs : s.memoryOk = true) :
    (State.fillFast s b).memoryOk = true := by
  unfold State.fillFast
  dsimp only
  (repeat' split) <;> simp_all (maxDischargeDepth := 40)
@[simp] theorem State.fillAll_memoryOk (s : State) (hs : s.memoryOk = true) :
    (State.fillAll s).memoryOk = true := by
  simp only [State.fillAll]
  simp_all (maxDischargeDepth := 40)
@[simp] theorem State.triggerPriv_memoryOk (s : State) (b : Nat) (t : U64) (n : Word) (sub : Nat) (hs : s.memoryOk = true) :
    (State.triggerPriv s b t n sub).memoryOk = true := by
  simp (maxDischargeDepth := 40) [State.triggerPriv, hs]
@[simp] theorem State.anchorMask_memoryOk (s : State) (b : Nat) (n : Word) (hs : s.memoryOk = true) :
    (State.anchorMask s b n).memoryOk = true := by
  simp (maxDischargeDepth := 40) [State.anchorMask, hs]
@[simp] theorem State.fireUnit_memoryOk (s : State) (u : Nat) (t : U64) (n : Word) (sub : Nat) (hs : s.memoryOk = true) :
    (State.fireUnit s u t n sub).memoryOk = true := by
  unfold State.fireUnit
  dsimp only
  simp_all (maxDischargeDepth := 40)
@[simp] theorem State.fireNow_memoryOk (s : State) (u : Nat) (t : U64) (hs : s.memoryOk = true) :
    (State.fireNow s u t).memoryOk = true := by
  simp (maxDischargeDepth := 40) [State.fireNow, hs]
@[simp] theorem State.refreshTrg_memoryOk (s : State) (u : Nat) (hs : s.memoryOk = true) :
    (State.refreshTrg s u).memoryOk = true := by
  simp (maxDischargeDepth := 40) [State.refreshTrg, hs]
@[simp] theorem cmdAcqCommit_memoryOk (s : State) (hs : s.memoryOk = true) :
    (cmdAcqCommit s).2.memoryOk = true := by
  unfold cmdAcqCommit
  dsimp only
  (repeat' split) <;> simp_all (maxDischargeDepth := 40)
@[simp] theorem cmdAcqArm_memoryOk (b : Nat) (s : State) (hs : s.memoryOk = true) :
    (cmdAcqArm b s).2.memoryOk = true := by
  simp (maxDischargeDepth := 40) [cmdAcqArm, hs]
@[simp] theorem cmdAcqDisarm_memoryOk (b : Nat) (s : State) (hs : s.memoryOk = true) :
    (cmdAcqDisarm b s).2.memoryOk = true := by
  simp (maxDischargeDepth := 40) [cmdAcqDisarm, hs]
@[simp] theorem cmdAcqForce_memoryOk (b : Nat) (s : State) (hs : s.memoryOk = true) :
    (cmdAcqForce b s).2.memoryOk = true := by
  simp (maxDischargeDepth := 40) [cmdAcqForce, hs]
@[simp] theorem State.faultPriv_memoryOk (s : State) (b : Nat) (hs : s.memoryOk = true) :
    (State.faultPriv s b).memoryOk = true := by
  simp (maxDischargeDepth := 40) [State.faultPriv, hs]
@[simp] theorem coreAcqRead_memoryOk (b : Nat) (first count : Word) (addr : U64) (s : State) (hs : s.memoryOk = true) :
    (coreAcqRead b first count addr s).state.memoryOk = true := by
  simp (maxDischargeDepth := 40) [coreAcqRead, hs]
@[simp] theorem cmdAcqMaskLoad_memoryOk (b : Nat) (s : State) (hs : s.memoryOk = true) :
    (cmdAcqMaskLoad b s).2.memoryOk = true := by
  simp (maxDischargeDepth := 40) [cmdAcqMaskLoad, hs]

end Sys2Proof.Machine

/-! ### Machine/StoreOps -/

namespace Sys2Proof.Machine

@[simp] theorem State.applyRecord_memoryOk (s : State) (off : Nat) (w : Word) (hs : s.memoryOk = true) :
    (State.applyRecord s off w).memoryOk = true := by
  simp (maxDischargeDepth := 40) [State.applyRecord, hs]
@[simp] theorem State.startBank_memoryOk (s : State) (safe : Bool) (count : Nat) (body : List Byte) (hs : s.memoryOk = true) :
    (State.startBank s safe count body).memoryOk = true := by
  unfold State.startBank
  (repeat' split) <;> simp (maxDischargeDepth := 40) [hs]

end Sys2Proof.Machine

/-! ### Machine/CmdSafe -/

namespace Sys2Proof.Machine

@[simp] theorem coreSfLoad_memoryOk (addr : Word) (s : State) (hs : s.memoryOk = true) :
    (coreSfLoad addr s).state.memoryOk = true := by
  simp (maxDischargeDepth := 40) [coreSfLoad, hs]
@[simp] theorem coreSfConfirm_memoryOk (value : Word) (s : State) (hs : s.memoryOk = true) :
    (coreSfConfirm value s).state.memoryOk = true := by
  simp (maxDischargeDepth := 40) [coreSfConfirm, hs]
@[simp] theorem coreSfDemand_memoryOk (f : Nat) (s : State) (hs : s.memoryOk = true) :
    (coreSfDemand f s).state.memoryOk = true := by
  simp (maxDischargeDepth := 40) [coreSfDemand, hs]
@[simp] theorem coreSfReset_memoryOk (f : Nat) (s : State) (hs : s.memoryOk = true) :
    (coreSfReset f s).state.memoryOk = true := by
  simp (maxDischargeDepth := 40) [coreSfReset, hs]
@[simp] theorem coreSfBrakeTest_memoryOk (b : Nat) (s : State) (hs : s.memoryOk = true) :
    (coreSfBrakeTest b s).state.memoryOk = true := by
  simp (maxDischargeDepth := 40) [coreSfBrakeTest, hs]
@[simp] theorem State.btFinish_memoryOk (s : State) (outcome : Nat) (hs : s.memoryOk = true) :
    (State.btFinish s outcome).memoryOk = true := by
  simp (maxDischargeDepth := 40) [State.btFinish, hs]
@[simp] theorem State.btSettle_memoryOk (s : State) (hs : s.memoryOk = true) :
    (State.btSettle s).memoryOk = true := by
  simp (maxDischargeDepth := 40) [State.btSettle, hs]
@[simp] theorem State.btHold_memoryOk (s : State) (hs : s.memoryOk = true) :
    (State.btHold s).memoryOk = true := by
  unfold State.btHold
  (repeat' split) <;> simp (maxDischargeDepth := 40) [hs]
@[simp] theorem State.btCompare_memoryOk (s : State) (hs : s.memoryOk = true) :
    (State.btCompare s).memoryOk = true := by
  simp (maxDischargeDepth := 40) [State.btCompare, hs]
@[simp] theorem State.btStart_memoryOk (s : State) (hs : s.memoryOk = true) :
    (State.btStart s).memoryOk = true := by
  simp (maxDischargeDepth := 40) [State.btStart, hs]
theorem execBrakeTestSettleExpiry_memoryOk (s : State) (hs : s.memoryOk = true) :
    ∃ t, execBrakeTestSettleExpiry s = .next t ∧ t.memoryOk = true := ⟨_, rfl, by simp (maxDischargeDepth := 40) [hs]⟩
theorem execBrakeTestHoldExpiry_memoryOk (s : State) (hs : s.memoryOk = true) :
    ∃ t, execBrakeTestHoldExpiry s = .next t ∧ t.memoryOk = true := ⟨_, rfl, by simp (maxDischargeDepth := 40) [hs]⟩

end Sys2Proof.Machine

/-! ### Machine/CmdRope -/

namespace Sys2Proof.Machine

@[simp] theorem cmdRopeHandover_memoryOk (c : Ctx) (p : Word) (s : State) (hs : s.memoryOk = true) :
    (cmdRopeHandover c p s).2.memoryOk = true := by
  simp (maxDischargeDepth := 40) [cmdRopeHandover, hs]
@[simp] theorem cmdRopeRejoin_memoryOk (c : Ctx) (s : State) (hs : s.memoryOk = true) :
    (cmdRopeRejoin c s).2.memoryOk = true := by
  simp (maxDischargeDepth := 40) [cmdRopeRejoin, hs]
@[simp] theorem cmdRopeDismiss_memoryOk (c : Ctx) (s : State) (hs : s.memoryOk = true) :
    (cmdRopeDismiss c s).2.memoryOk = true := by
  simp (maxDischargeDepth := 40) [cmdRopeDismiss, hs]

end Sys2Proof.Machine

/-! ### Machine/CmdStore -/

namespace Sys2Proof.Machine

@[simp] theorem State.logStore_memoryOk (s : State) (origin code status : Nat) (subject value : Nat) (hs : s.memoryOk = true) :
    (State.logStore s origin code status subject value).memoryOk = true := by
  simp (maxDischargeDepth := 40) [State.logStore, hs]
@[simp] theorem coreStSave_memoryOk (s : State) (hs : s.memoryOk = true) :
    (coreStSave s).state.memoryOk = true := by
  simp (maxDischargeDepth := 40) [coreStSave, hs]
@[simp] theorem coreStImgWrite_memoryOk (slot : Nat) (offset addr length : Word) (s : State) (hs : s.memoryOk = true) :
    (coreStImgWrite slot offset addr length s).state.memoryOk = true := by
  simp (maxDischargeDepth := 40) [coreStImgWrite, hs]
@[simp] theorem coreStImgSeal_memoryOk (slot : Nat) (s : State) (hs : s.memoryOk = true) :
    (coreStImgSeal slot s).state.memoryOk = true := by
  simp (maxDischargeDepth := 40) [coreStImgSeal, hs]
@[simp] theorem coreStImgBoot_memoryOk (slot ratchet level : Nat) (s : State) (hs : s.memoryOk = true) :
    (coreStImgBoot slot ratchet level s).state.memoryOk = true := by
  simp (maxDischargeDepth := 40) [coreStImgBoot, hs]
@[simp] theorem coreStLogRead_memoryOk (first count : Word) (addr : U64) (s : State) (hs : s.memoryOk = true) :
    (coreStLogRead first count addr s).state.memoryOk = true := by
  simp (maxDischargeDepth := 40) [coreStLogRead, hs]
@[simp] theorem coreStLogAck_memoryOk (upto link : Word) (s : State) (hs : s.memoryOk = true) :
    (coreStLogAck upto link s).state.memoryOk = true := by
  simp (maxDischargeDepth := 40) [coreStLogAck, hs]
@[simp] theorem coreStDebugOpen_memoryOk (s : State) (hs : s.memoryOk = true) :
    (coreStDebugOpen s).state.memoryOk = true := by
  simp (maxDischargeDepth := 40) [coreStDebugOpen, hs]
@[simp] theorem coreStOwnerKey_memoryOk (k : Nat) (addr : Word) (s : State) (hs : s.memoryOk = true) :
    (coreStOwnerKey k addr s).state.memoryOk = true := by
  simp (maxDischargeDepth := 40) [coreStOwnerKey, hs]
@[simp] theorem coreStOwnerRevoke_memoryOk (k : Nat) (s : State) (hs : s.memoryOk = true) :
    (coreStOwnerRevoke k s).state.memoryOk = true := by
  simp (maxDischargeDepth := 40) [coreStOwnerRevoke, hs]
@[simp] theorem coreStTeam_memoryOk (addr : Word) (s : State) (hs : s.memoryOk = true) :
    (coreStTeam addr s).state.memoryOk = true := by
  simp (maxDischargeDepth := 40) [coreStTeam, hs]

end Sys2Proof.Machine

/-! ### Machine/HostCmds -/

namespace Sys2Proof.Machine

@[simp] theorem coreNop_memoryOk (s : State) (hs : s.memoryOk = true) :
    (coreNop s).state.memoryOk = true := by
  simp (maxDischargeDepth := 40) [coreNop, hs]
@[simp] theorem coreTtLoad_memoryOk (c : Ctx) (slot : Nat) (s : State) (hs : s.memoryOk = true) :
    (coreTtLoad c slot s).state.memoryOk = true := by
  simp (maxDischargeDepth := 40) [coreTtLoad, hs]
@[simp] theorem coreTtSwap_memoryOk (c : Ctx) (p : Word) (s : State) (hs : s.memoryOk = true) :
    (coreTtSwap c p s).state.memoryOk = true := by
  simp (maxDischargeDepth := 40) [coreTtSwap, hs]
@[simp] theorem coreTtCancel_memoryOk (c : Ctx) (s : State) (hs : s.memoryOk = true) :
    (coreTtCancel c s).state.memoryOk = true := by
  simp (maxDischargeDepth := 40) [coreTtCancel, hs]
@[simp] theorem coreAxEnable_memoryOk (i mode : Nat) (s : State) (hs : s.memoryOk = true) :
    (coreAxEnable i mode s).state.memoryOk = true := by
  simp (maxDischargeDepth := 40) [coreAxEnable, hs]
@[simp] theorem coreAxDisable_memoryOk (i : Nat) (s : State) (hs : s.memoryOk = true) :
    (coreAxDisable i s).state.memoryOk = true := by
  simp (maxDischargeDepth := 40) [coreAxDisable, hs]
@[simp] theorem coreAxMode_memoryOk (i mode : Nat) (noPreset : Bool) (s : State) (hs : s.memoryOk = true) :
    (coreAxMode i mode noPreset s).state.memoryOk = true := by
  simp (maxDischargeDepth := 40) [coreAxMode, hs]
@[simp] theorem coreAxCommit_memoryOk (i : Nat) (s : State) (hs : s.memoryOk = true) :
    (coreAxCommit i s).state.memoryOk = true := by
  simp (maxDischargeDepth := 40) [coreAxCommit, hs]
@[simp] theorem coreAxRetune_memoryOk (i k : Nat) (s : State) (hs : s.memoryOk = true) :
    (coreAxRetune i k s).state.memoryOk = true := by
  simp (maxDischargeDepth := 40) [coreAxRetune, hs]
@[simp] theorem coreAxSetLoad_memoryOk (i k f : Nat) (s : State) (hs : s.memoryOk = true) :
    (coreAxSetLoad i k f s).state.memoryOk = true := by
  simp (maxDischargeDepth := 40) [coreAxSetLoad, hs]
@[simp] theorem coreAxClear_memoryOk (i : Nat) (s : State) (hs : s.memoryOk = true) :
    (coreAxClear i s).state.memoryOk = true := by
  simp (maxDischargeDepth := 40) [coreAxClear, hs]
@[simp] theorem coreMvQueue_memoryOk (g : Nat) (target : Int) (vmax : Word) (relative blend : Bool) (s : State)
    (hs : s.memoryOk = true) :
    (coreMvQueue g target vmax relative blend s).state.memoryOk = true := by
  simp (maxDischargeDepth := 40) [coreMvQueue, hs]
@[simp] theorem coreMvChange_memoryOk (g : Nat) (target : Int) (vmax : Word) (chTarget chVmax : Bool) (s : State)
    (hs : s.memoryOk = true) :
    (coreMvChange g target vmax chTarget chVmax s).state.memoryOk = true := by
  simp (maxDischargeDepth := 40) [coreMvChange, hs]
@[simp] theorem coreMvFlush_memoryOk (g : Nat) (s : State) (hs : s.memoryOk = true) :
    (coreMvFlush g s).state.memoryOk = true := by
  simp (maxDischargeDepth := 40) [coreMvFlush, hs]
@[simp] theorem coreMvQstop_memoryOk (g : Nat) (s : State) (hs : s.memoryOk = true) :
    (coreMvQstop g s).state.memoryOk = true := by
  simp (maxDischargeDepth := 40) [coreMvQstop, hs]
@[simp] theorem coreMvHstop_memoryOk (g : Nat) (s : State) (hs : s.memoryOk = true) :
    (coreMvHstop g s).state.memoryOk = true := by
  simp (maxDischargeDepth := 40) [coreMvHstop, hs]
@[simp] theorem coreMvHome_memoryOk (g method dir : Nat) (vsearch : Word) (homePos : Int) (range : Nat) (fly : Bool)
    (s : State) (hs : s.memoryOk = true) :
    (coreMvHome g method dir vsearch homePos range fly s).state.memoryOk = true := by
  simp (maxDischargeDepth := 40) [coreMvHome, hs]
@[simp] theorem corePfCommit_memoryOk (g : Nat) (s : State) (hs : s.memoryOk = true) :
    (corePfCommit g s).state.memoryOk = true := by
  simp (maxDischargeDepth := 40) [corePfCommit, hs]
@[simp] theorem coreChEnable_memoryOk (ch : Nat) (enable : Bool) (s : State) (hs : s.memoryOk = true) :
    (coreChEnable ch enable s).state.memoryOk = true := by
  simp (maxDischargeDepth := 40) [coreChEnable, hs]
@[simp] theorem coreFbCommit_memoryOk (ch : Nat) (s : State) (hs : s.memoryOk = true) :
    (coreFbCommit ch s).state.memoryOk = true := by
  simp (maxDischargeDepth := 40) [coreFbCommit, hs]
@[simp] theorem coreFbClear_memoryOk (ch : Nat) (s : State) (hs : s.memoryOk = true) :
    (coreFbClear ch s).state.memoryOk = true := by
  simp (maxDischargeDepth := 40) [coreFbClear, hs]
@[simp] theorem coreRgCommit_memoryOk (r : Nat) (s : State) (hs : s.memoryOk = true) :
    (coreRgCommit r s).state.memoryOk = true := by
  simp (maxDischargeDepth := 40) [coreRgCommit, hs]
@[simp] theorem coreRgReopen_memoryOk (r n : Nat) (s : State) (hs : s.memoryOk = true) :
    (coreRgReopen r n s).state.memoryOk = true := by
  simp (maxDischargeDepth := 40) [coreRgReopen, hs]
@[simp] theorem coreRgResync_memoryOk (r n : Nat) (s : State) (hs : s.memoryOk = true) :
    (coreRgResync r n s).state.memoryOk = true := by
  simp (maxDischargeDepth := 40) [coreRgResync, hs]
@[simp] theorem coreRgAsend_memoryOk (r n proto len : Nat) (addr : Word) (s : State) (hs : s.memoryOk = true) :
    (coreRgAsend r n proto len addr s).state.memoryOk = true := by
  simp (maxDischargeDepth := 40) [coreRgAsend, hs]
@[simp] theorem coreTimeStep_memoryOk (delta : U64) (s : State) (hs : s.memoryOk = true) :
    (coreTimeStep delta s).state.memoryOk = true := by
  simp (maxDischargeDepth := 40) [coreTimeStep, hs]
@[simp] theorem coreTimeRate_memoryOk (rate : Word) (s : State) (hs : s.memoryOk = true) :
    (coreTimeRate rate s).state.memoryOk = true := by
  simp (maxDischargeDepth := 40) [coreTimeRate, hs]
@[simp] theorem corePtpCommit_memoryOk (s : State) (hs : s.memoryOk = true) :
    (corePtpCommit s).state.memoryOk = true := by
  simp (maxDischargeDepth := 40) [corePtpCommit, hs]
@[simp] theorem coreAcqCommit_memoryOk (s : State) (hs : s.memoryOk = true) :
    (coreAcqCommit s).state.memoryOk = true := by
  simp (maxDischargeDepth := 40) [coreAcqCommit, hs]
@[simp] theorem coreAcqArm_memoryOk (ch : Nat) (s : State) (hs : s.memoryOk = true) :
    (coreAcqArm ch s).state.memoryOk = true := by
  simp (maxDischargeDepth := 40) [coreAcqArm, hs]
@[simp] theorem coreAcqDisarm_memoryOk (ch : Nat) (s : State) (hs : s.memoryOk = true) :
    (coreAcqDisarm ch s).state.memoryOk = true := by
  simp (maxDischargeDepth := 40) [coreAcqDisarm, hs]
@[simp] theorem coreAcqForce_memoryOk (ch : Nat) (s : State) (hs : s.memoryOk = true) :
    (coreAcqForce ch s).state.memoryOk = true := by
  simp (maxDischargeDepth := 40) [coreAcqForce, hs]
@[simp] theorem coreAcqMaskLoad_memoryOk (ch : Nat) (s : State) (hs : s.memoryOk = true) :
    (coreAcqMaskLoad ch s).state.memoryOk = true := by
  simp (maxDischargeDepth := 40) [coreAcqMaskLoad, hs]
@[simp] theorem coreSpDesc_memoryOk (d : Nat) (addr : Word) (s : State) (hs : s.memoryOk = true) :
    (coreSpDesc d addr s).state.memoryOk = true := by
  simp (maxDischargeDepth := 40) [coreSpDesc, hs]
@[simp] theorem coreSpPost_memoryOk (d slot : Nat) (value : Word) (s : State) (hs : s.memoryOk = true) :
    (coreSpPost d slot value s).state.memoryOk = true := by
  simp (maxDischargeDepth := 40) [coreSpPost, hs]
@[simp] theorem coreSpDrop_memoryOk (d : Nat) (s : State) (hs : s.memoryOk = true) :
    (coreSpDrop d s).state.memoryOk = true := by
  simp (maxDischargeDepth := 40) [coreSpDrop, hs]
@[simp] theorem coreGovCommit_memoryOk (s : State) (hs : s.memoryOk = true) :
    (coreGovCommit s).state.memoryOk = true := by
  simp (maxDischargeDepth := 40) [coreGovCommit, hs]
@[simp] theorem coreRopeHandover_memoryOk (c : Ctx) (p : Word) (s : State) (hs : s.memoryOk = true) :
    (coreRopeHandover c p s).state.memoryOk = true := by
  simp (maxDischargeDepth := 40) [coreRopeHandover, hs]
@[simp] theorem coreRopeRejoin_memoryOk (c : Ctx) (s : State) (hs : s.memoryOk = true) :
    (coreRopeRejoin c s).state.memoryOk = true := by
  simp (maxDischargeDepth := 40) [coreRopeRejoin, hs]
@[simp] theorem coreRopeDismiss_memoryOk (c : Ctx) (s : State) (hs : s.memoryOk = true) :
    (coreRopeDismiss c s).state.memoryOk = true := by
  simp (maxDischargeDepth := 40) [coreRopeDismiss, hs]
@[simp] theorem coreOf_memoryOk (c : Ctx) (opc : Nat) (v : List Nat) (s : State) (hs : s.memoryOk = true) :
    (coreOf c opc v s).state.memoryOk = true := by
  unfold coreOf
  (repeat' split) <;> simp (maxDischargeDepth := 40) [hs]
@[simp] theorem State.finishEntry_memoryOk (s : State) (c : Ctx) (entry : List Byte) (aside : Nat) (hs : s.memoryOk = true) :
    (State.finishEntry s c entry aside).memoryOk = true := by
  unfold State.finishEntry
  dsimp only
  (repeat' split) <;> simp_all (maxDischargeDepth := 40)
@[simp] theorem State.hostCommand_memoryOk (s : State) (c : Ctx) (opc : Nat) (args : List Nat) (core : State → Answer)
    (hcore : ∀ (y0 : State), y0.memoryOk = true → (core y0).state.memoryOk = true) (hs : s.memoryOk = true) :
    (State.hostCommand s c opc args core).memoryOk = true := by
  simp only [State.hostCommand]
  simp_all (maxDischargeDepth := 40)
theorem execNopCommand_memoryOk (c : Ctx) (s : State) (hs : s.memoryOk = true) :
    ∃ t, execNopCommand c s = .next t ∧ t.memoryOk = true :=
  ⟨_, rfl, State.hostCommand_memoryOk _ _ _ _ _ (fun _ h => by simp (maxDischargeDepth := 40) [h, coreNop, answer]) hs⟩
theorem execTtLoad_memoryOk (c : Ctx) (slot : Nat) (s : State) (hs : s.memoryOk = true) :
    ∃ t, execTtLoad c slot s = .next t ∧ t.memoryOk = true :=
  ⟨_, rfl, State.hostCommand_memoryOk _ _ _ _ _ (fun _ h => by simp (maxDischargeDepth := 40) [h]) hs⟩
theorem execTtSwap_memoryOk (c : Ctx) (p : Word) (s : State) (hs : s.memoryOk = true) :
    ∃ t, execTtSwap c p s = .next t ∧ t.memoryOk = true :=
  ⟨_, rfl, State.hostCommand_memoryOk _ _ _ _ _ (fun _ h => by simp (maxDischargeDepth := 40) [h]) hs⟩
theorem execTtCancel_memoryOk (c : Ctx) (s : State) (hs : s.memoryOk = true) :
    ∃ t, execTtCancel c s = .next t ∧ t.memoryOk = true :=
  ⟨_, rfl, State.hostCommand_memoryOk _ _ _ _ _ (fun _ h => by simp (maxDischargeDepth := 40) [h]) hs⟩
theorem execAxEnable_memoryOk (c : Ctx) (i mode : Nat) (s : State) (hs : s.memoryOk = true) :
    ∃ t, execAxEnable c i mode s = .next t ∧ t.memoryOk = true :=
  ⟨_, rfl, State.hostCommand_memoryOk _ _ _ _ _ (fun _ h => by simp (maxDischargeDepth := 40) [h]) hs⟩
theorem execAxDisable_memoryOk (c : Ctx) (i : Nat) (s : State) (hs : s.memoryOk = true) :
    ∃ t, execAxDisable c i s = .next t ∧ t.memoryOk = true :=
  ⟨_, rfl, State.hostCommand_memoryOk _ _ _ _ _ (fun _ h => by simp (maxDischargeDepth := 40) [h]) hs⟩
theorem execAxMode_memoryOk (c : Ctx) (i mode : Nat) (noPreset : Bool) (s : State) (hs : s.memoryOk = true) :
    ∃ t, execAxMode c i mode noPreset s = .next t ∧ t.memoryOk = true :=
  ⟨_, rfl, State.hostCommand_memoryOk _ _ _ _ _ (fun _ h => by simp (maxDischargeDepth := 40) [h]) hs⟩
theorem execAxCommit_memoryOk (c : Ctx) (i : Nat) (s : State) (hs : s.memoryOk = true) :
    ∃ t, execAxCommit c i s = .next t ∧ t.memoryOk = true :=
  ⟨_, rfl, State.hostCommand_memoryOk _ _ _ _ _ (fun _ h => by simp (maxDischargeDepth := 40) [h]) hs⟩
theorem execAxRetune_memoryOk (c : Ctx) (i k : Nat) (s : State) (hs : s.memoryOk = true) :
    ∃ t, execAxRetune c i k s = .next t ∧ t.memoryOk = true :=
  ⟨_, rfl, State.hostCommand_memoryOk _ _ _ _ _ (fun _ h => by simp (maxDischargeDepth := 40) [h]) hs⟩
theorem execAxSetLoad_memoryOk (c : Ctx) (i k f : Nat) (s : State) (hs : s.memoryOk = true) :
    ∃ t, execAxSetLoad c i k f s = .next t ∧ t.memoryOk = true :=
  ⟨_, rfl, State.hostCommand_memoryOk _ _ _ _ _ (fun _ h => by simp (maxDischargeDepth := 40) [h]) hs⟩
theorem execAxClear_memoryOk (c : Ctx) (i : Nat) (s : State) (hs : s.memoryOk = true) :
    ∃ t, execAxClear c i s = .next t ∧ t.memoryOk = true :=
  ⟨_, rfl, State.hostCommand_memoryOk _ _ _ _ _ (fun _ h => by simp (maxDischargeDepth := 40) [h]) hs⟩
theorem execMvQueue_memoryOk (c : Ctx) (g : Nat) (target : U64) (vmax : Word) (relative blend : Bool) (s : State)
    (hs : s.memoryOk = true) :
    ∃ t, execMvQueue c g target vmax relative blend s = .next t ∧ t.memoryOk = true :=
  ⟨_, rfl, State.hostCommand_memoryOk _ _ _ _ _ (fun _ h => by simp (maxDischargeDepth := 40) [h]) hs⟩
theorem execMvChange_memoryOk (c : Ctx) (g : Nat) (target : U64) (vmax : Word) (chTarget chVmax : Bool) (s : State)
    (hs : s.memoryOk = true) :
    ∃ t, execMvChange c g target vmax chTarget chVmax s = .next t ∧ t.memoryOk = true :=
  ⟨_, rfl, State.hostCommand_memoryOk _ _ _ _ _ (fun _ h => by simp (maxDischargeDepth := 40) [h]) hs⟩
theorem execMvFlush_memoryOk (c : Ctx) (g : Nat) (s : State) (hs : s.memoryOk = true) :
    ∃ t, execMvFlush c g s = .next t ∧ t.memoryOk = true :=
  ⟨_, rfl, State.hostCommand_memoryOk _ _ _ _ _ (fun _ h => by simp (maxDischargeDepth := 40) [h]) hs⟩
theorem execMvQstop_memoryOk (c : Ctx) (g : Nat) (s : State) (hs : s.memoryOk = true) :
    ∃ t, execMvQstop c g s = .next t ∧ t.memoryOk = true :=
  ⟨_, rfl, State.hostCommand_memoryOk _ _ _ _ _ (fun _ h => by simp (maxDischargeDepth := 40) [h]) hs⟩
theorem execMvHstop_memoryOk (c : Ctx) (g : Nat) (s : State) (hs : s.memoryOk = true) :
    ∃ t, execMvHstop c g s = .next t ∧ t.memoryOk = true :=
  ⟨_, rfl, State.hostCommand_memoryOk _ _ _ _ _ (fun _ h => by simp (maxDischargeDepth := 40) [h]) hs⟩
theorem execMvHome_memoryOk (c : Ctx) (g method dir : Nat) (vsearch : Word) (homePos : U64) (range : Word) (fly : Bool)
    (s : State) (hs : s.memoryOk = true) :
    ∃ t, execMvHome c g method dir vsearch homePos range fly s = .next t ∧ t.memoryOk = true :=
  ⟨_, rfl, State.hostCommand_memoryOk _ _ _ _ _ (fun _ h => by simp (maxDischargeDepth := 40) [h]) hs⟩
theorem execPfCommit_memoryOk (c : Ctx) (g : Nat) (s : State) (hs : s.memoryOk = true) :
    ∃ t, execPfCommit c g s = .next t ∧ t.memoryOk = true :=
  ⟨_, rfl, State.hostCommand_memoryOk _ _ _ _ _ (fun _ h => by simp (maxDischargeDepth := 40) [h]) hs⟩
theorem execChEnable_memoryOk (c : Ctx) (ch : Nat) (enable : Bool) (s : State) (hs : s.memoryOk = true) :
    ∃ t, execChEnable c ch enable s = .next t ∧ t.memoryOk = true :=
  ⟨_, rfl, State.hostCommand_memoryOk _ _ _ _ _ (fun _ h => by simp (maxDischargeDepth := 40) [h]) hs⟩
theorem execFbCommit_memoryOk (c : Ctx) (ch : Nat) (s : State) (hs : s.memoryOk = true) :
    ∃ t, execFbCommit c ch s = .next t ∧ t.memoryOk = true :=
  ⟨_, rfl, State.hostCommand_memoryOk _ _ _ _ _ (fun _ h => by simp (maxDischargeDepth := 40) [h]) hs⟩
theorem execFbClear_memoryOk (c : Ctx) (ch : Nat) (s : State) (hs : s.memoryOk = true) :
    ∃ t, execFbClear c ch s = .next t ∧ t.memoryOk = true :=
  ⟨_, rfl, State.hostCommand_memoryOk _ _ _ _ _ (fun _ h => by simp (maxDischargeDepth := 40) [h]) hs⟩
theorem execRgCommit_memoryOk (c : Ctx) (r : Nat) (s : State) (hs : s.memoryOk = true) :
    ∃ t, execRgCommit c r s = .next t ∧ t.memoryOk = true :=
  ⟨_, rfl, State.hostCommand_memoryOk _ _ _ _ _ (fun _ h => by simp (maxDischargeDepth := 40) [h]) hs⟩
theorem execRgReopen_memoryOk (c : Ctx) (r n : Nat) (s : State) (hs : s.memoryOk = true) :
    ∃ t, execRgReopen c r n s = .next t ∧ t.memoryOk = true :=
  ⟨_, rfl, State.hostCommand_memoryOk _ _ _ _ _ (fun _ h => by simp (maxDischargeDepth := 40) [h]) hs⟩
theorem execRgResync_memoryOk (c : Ctx) (r n : Nat) (s : State) (hs : s.memoryOk = true) :
    ∃ t, execRgResync c r n s = .next t ∧ t.memoryOk = true :=
  ⟨_, rfl, State.hostCommand_memoryOk _ _ _ _ _ (fun _ h => by simp (maxDischargeDepth := 40) [h]) hs⟩
theorem execRgAsend_memoryOk (c : Ctx) (r n proto len : Nat) (addr : Word) (s : State) (hs : s.memoryOk = true) :
    ∃ t, execRgAsend c r n proto len addr s = .next t ∧ t.memoryOk = true :=
  ⟨_, rfl, State.hostCommand_memoryOk _ _ _ _ _ (fun _ h => by simp (maxDischargeDepth := 40) [h]) hs⟩
theorem execTimeStep_memoryOk (c : Ctx) (delta : U64) (s : State) (hs : s.memoryOk = true) :
    ∃ t, execTimeStep c delta s = .next t ∧ t.memoryOk = true :=
  ⟨_, rfl, State.hostCommand_memoryOk _ _ _ _ _ (fun _ h => by simp (maxDischargeDepth := 40) [h]) hs⟩
theorem execTimeRate_memoryOk (c : Ctx) (rate : Word) (s : State) (hs : s.memoryOk = true) :
    ∃ t, execTimeRate c rate s = .next t ∧ t.memoryOk = true :=
  ⟨_, rfl, State.hostCommand_memoryOk _ _ _ _ _ (fun _ h => by simp (maxDischargeDepth := 40) [h]) hs⟩
theorem execPtpCommit_memoryOk (c : Ctx) (s : State) (hs : s.memoryOk = true) :
    ∃ t, execPtpCommit c s = .next t ∧ t.memoryOk = true :=
  ⟨_, rfl, State.hostCommand_memoryOk _ _ _ _ _ (fun _ h => by simp (maxDischargeDepth := 40) [h]) hs⟩
theorem execAcqCommit_memoryOk (c : Ctx) (s : State) (hs : s.memoryOk = true) :
    ∃ t, execAcqCommit c s = .next t ∧ t.memoryOk = true :=
  ⟨_, rfl, State.hostCommand_memoryOk _ _ _ _ _ (fun _ h => by simp (maxDischargeDepth := 40) [h]) hs⟩
theorem execAcqArm_memoryOk (c : Ctx) (ch : Nat) (s : State) (hs : s.memoryOk = true) :
    ∃ t, execAcqArm c ch s = .next t ∧ t.memoryOk = true :=
  ⟨_, rfl, State.hostCommand_memoryOk _ _ _ _ _ (fun _ h => by simp (maxDischargeDepth := 40) [h]) hs⟩
theorem execAcqDisarm_memoryOk (c : Ctx) (ch : Nat) (s : State) (hs : s.memoryOk = true) :
    ∃ t, execAcqDisarm c ch s = .next t ∧ t.memoryOk = true :=
  ⟨_, rfl, State.hostCommand_memoryOk _ _ _ _ _ (fun _ h => by simp (maxDischargeDepth := 40) [h]) hs⟩
theorem execAcqForce_memoryOk (c : Ctx) (ch : Nat) (s : State) (hs : s.memoryOk = true) :
    ∃ t, execAcqForce c ch s = .next t ∧ t.memoryOk = true :=
  ⟨_, rfl, State.hostCommand_memoryOk _ _ _ _ _ (fun _ h => by simp (maxDischargeDepth := 40) [h]) hs⟩
theorem execAcqRead_memoryOk (c : Ctx) (ch : Nat) (first count : Word) (addr : U64) (s : State) (hs : s.memoryOk = true) :
    ∃ t, execAcqRead c ch first count addr s = .next t ∧ t.memoryOk = true :=
  ⟨_, rfl, State.hostCommand_memoryOk _ _ _ _ _ (fun _ h => by simp (maxDischargeDepth := 40) [h]) hs⟩
theorem execAcqMaskLoad_memoryOk (c : Ctx) (ch : Nat) (s : State) (hs : s.memoryOk = true) :
    ∃ t, execAcqMaskLoad c ch s = .next t ∧ t.memoryOk = true :=
  ⟨_, rfl, State.hostCommand_memoryOk _ _ _ _ _ (fun _ h => by simp (maxDischargeDepth := 40) [h]) hs⟩
theorem execSpDesc_memoryOk (c : Ctx) (d : Nat) (addr : Word) (s : State) (hs : s.memoryOk = true) :
    ∃ t, execSpDesc c d addr s = .next t ∧ t.memoryOk = true :=
  ⟨_, rfl, State.hostCommand_memoryOk _ _ _ _ _ (fun _ h => by simp (maxDischargeDepth := 40) [h]) hs⟩
theorem execSpPost_memoryOk (c : Ctx) (d slot : Nat) (value : Word) (s : State) (hs : s.memoryOk = true) :
    ∃ t, execSpPost c d slot value s = .next t ∧ t.memoryOk = true :=
  ⟨_, rfl, State.hostCommand_memoryOk _ _ _ _ _ (fun _ h => by simp (maxDischargeDepth := 40) [h]) hs⟩
theorem execSpDrop_memoryOk (c : Ctx) (d : Nat) (s : State) (hs : s.memoryOk = true) :
    ∃ t, execSpDrop c d s = .next t ∧ t.memoryOk = true :=
  ⟨_, rfl, State.hostCommand_memoryOk _ _ _ _ _ (fun _ h => by simp (maxDischargeDepth := 40) [h]) hs⟩
theorem execGovCommit_memoryOk (c : Ctx) (s : State) (hs : s.memoryOk = true) :
    ∃ t, execGovCommit c s = .next t ∧ t.memoryOk = true :=
  ⟨_, rfl, State.hostCommand_memoryOk _ _ _ _ _ (fun _ h => by simp (maxDischargeDepth := 40) [h]) hs⟩
theorem execRopeHandover_memoryOk (c : Ctx) (p : Word) (s : State) (hs : s.memoryOk = true) :
    ∃ t, execRopeHandover c p s = .next t ∧ t.memoryOk = true :=
  ⟨_, rfl, State.hostCommand_memoryOk _ _ _ _ _ (fun _ h => by simp (maxDischargeDepth := 40) [h]) hs⟩
theorem execRopeRejoin_memoryOk (c : Ctx) (s : State) (hs : s.memoryOk = true) :
    ∃ t, execRopeRejoin c s = .next t ∧ t.memoryOk = true :=
  ⟨_, rfl, State.hostCommand_memoryOk _ _ _ _ _ (fun _ h => by simp (maxDischargeDepth := 40) [h]) hs⟩
theorem execRopeDismiss_memoryOk (c : Ctx) (s : State) (hs : s.memoryOk = true) :
    ∃ t, execRopeDismiss c s = .next t ∧ t.memoryOk = true :=
  ⟨_, rfl, State.hostCommand_memoryOk _ _ _ _ _ (fun _ h => by simp (maxDischargeDepth := 40) [h]) hs⟩
theorem execSfLoad_memoryOk (c : Ctx) (addr : Word) (s : State) (hs : s.memoryOk = true) :
    ∃ t, execSfLoad c addr s = .next t ∧ t.memoryOk = true :=
  ⟨_, rfl, State.hostCommand_memoryOk _ _ _ _ _ (fun _ h => by simp (maxDischargeDepth := 40) [h]) hs⟩
theorem execSfConfirm_memoryOk (c : Ctx) (value : Word) (s : State) (hs : s.memoryOk = true) :
    ∃ t, execSfConfirm c value s = .next t ∧ t.memoryOk = true :=
  ⟨_, rfl, State.hostCommand_memoryOk _ _ _ _ _ (fun _ h => by simp (maxDischargeDepth := 40) [h]) hs⟩
theorem execSfDemand_memoryOk (c : Ctx) (f : Nat) (s : State) (hs : s.memoryOk = true) :
    ∃ t, execSfDemand c f s = .next t ∧ t.memoryOk = true :=
  ⟨_, rfl, State.hostCommand_memoryOk _ _ _ _ _ (fun _ h => by simp (maxDischargeDepth := 40) [h]) hs⟩
theorem execSfReset_memoryOk (c : Ctx) (f : Nat) (s : State) (hs : s.memoryOk = true) :
    ∃ t, execSfReset c f s = .next t ∧ t.memoryOk = true :=
  ⟨_, rfl, State.hostCommand_memoryOk _ _ _ _ _ (fun _ h => by simp (maxDischargeDepth := 40) [h]) hs⟩
theorem execSfBrakeTest_memoryOk (c : Ctx) (b : Nat) (s : State) (hs : s.memoryOk = true) :
    ∃ t, execSfBrakeTest c b s = .next t ∧ t.memoryOk = true :=
  ⟨_, rfl, State.hostCommand_memoryOk _ _ _ _ _ (fun _ h => by simp (maxDischargeDepth := 40) [h]) hs⟩
theorem execStSave_memoryOk (c : Ctx) (s : State) (hs : s.memoryOk = true) :
    ∃ t, execStSave c s = .next t ∧ t.memoryOk = true :=
  ⟨_, rfl, State.hostCommand_memoryOk _ _ _ _ _ (fun _ h => by simp (maxDischargeDepth := 40) [h]) hs⟩
theorem execStImgWrite_memoryOk (c : Ctx) (slot : Nat) (offset addr length : Word) (s : State) (hs : s.memoryOk = true) :
    ∃ t, execStImgWrite c slot offset addr length s = .next t ∧ t.memoryOk = true :=
  ⟨_, rfl, State.hostCommand_memoryOk _ _ _ _ _ (fun _ h => by simp (maxDischargeDepth := 40) [h]) hs⟩
theorem execStImgSeal_memoryOk (c : Ctx) (slot : Nat) (s : State) (hs : s.memoryOk = true) :
    ∃ t, execStImgSeal c slot s = .next t ∧ t.memoryOk = true :=
  ⟨_, rfl, State.hostCommand_memoryOk _ _ _ _ _ (fun _ h => by simp (maxDischargeDepth := 40) [h]) hs⟩
theorem execStImgBoot_memoryOk (c : Ctx) (slot ratchet level : Nat) (s : State) (hs : s.memoryOk = true) :
    ∃ t, execStImgBoot c slot ratchet level s = .next t ∧ t.memoryOk = true :=
  ⟨_, rfl, State.hostCommand_memoryOk _ _ _ _ _ (fun _ h => by simp (maxDischargeDepth := 40) [h]) hs⟩
theorem execStLogRead_memoryOk (c : Ctx) (first count : Word) (addr : U64) (s : State) (hs : s.memoryOk = true) :
    ∃ t, execStLogRead c first count addr s = .next t ∧ t.memoryOk = true :=
  ⟨_, rfl, State.hostCommand_memoryOk _ _ _ _ _ (fun _ h => by simp (maxDischargeDepth := 40) [h]) hs⟩
theorem execStLogAck_memoryOk (c : Ctx) (upto link : Word) (s : State) (hs : s.memoryOk = true) :
    ∃ t, execStLogAck c upto link s = .next t ∧ t.memoryOk = true :=
  ⟨_, rfl, State.hostCommand_memoryOk _ _ _ _ _ (fun _ h => by simp (maxDischargeDepth := 40) [h]) hs⟩
theorem execStDebugOpen_memoryOk (c : Ctx) (s : State) (hs : s.memoryOk = true) :
    ∃ t, execStDebugOpen c s = .next t ∧ t.memoryOk = true :=
  ⟨_, rfl, State.hostCommand_memoryOk _ _ _ _ _ (fun _ h => by simp (maxDischargeDepth := 40) [h]) hs⟩
theorem execStOwnerKey_memoryOk (c : Ctx) (k : Nat) (addr : Word) (s : State) (hs : s.memoryOk = true) :
    ∃ t, execStOwnerKey c k addr s = .next t ∧ t.memoryOk = true :=
  ⟨_, rfl, State.hostCommand_memoryOk _ _ _ _ _ (fun _ h => by simp (maxDischargeDepth := 40) [h]) hs⟩
theorem execStOwnerRevoke_memoryOk (c : Ctx) (k : Nat) (s : State) (hs : s.memoryOk = true) :
    ∃ t, execStOwnerRevoke c k s = .next t ∧ t.memoryOk = true :=
  ⟨_, rfl, State.hostCommand_memoryOk _ _ _ _ _ (fun _ h => by simp (maxDischargeDepth := 40) [h]) hs⟩
theorem execStTeam_memoryOk (c : Ctx) (addr : Word) (s : State) (hs : s.memoryOk = true) :
    ∃ t, execStTeam c addr s = .next t ∧ t.memoryOk = true :=
  ⟨_, rfl, State.hostCommand_memoryOk _ _ _ _ _ (fun _ h => by simp (maxDischargeDepth := 40) [h]) hs⟩

end Sys2Proof.Machine

/-! ### Machine/RegRows -/

namespace Sys2Proof.Machine

@[simp] theorem State.pushStop_memoryOk (s : State) (place : Nat) (p : Push) (hs : s.memoryOk = true) :
    (State.pushStop s place p).memoryOk = true := by
  unfold State.pushStop
  dsimp only
  (repeat' split) <;> simp (maxDischargeDepth := 40) [hs]
@[simp] theorem State.pushCommand_memoryOk (s : State) (origin : Nat) (hs : s.memoryOk = true) :
    (State.pushCommand s origin).memoryOk = true := by
  unfold State.pushCommand
  dsimp only
  (repeat' split) <;> simp (maxDischargeDepth := 40) [hs]
@[simp] theorem State.writeAt_memoryOk (s : State) (agent off : Nat) (w : Word) (hs : s.memoryOk = true) :
    (State.writeAt s agent off w).memoryOk = true := by
  simp (maxDischargeDepth := 40) [State.writeAt, hs]
@[simp] theorem State.hostWrite_memoryOk (s : State) (agent off : Nat) (w : Word) (hs : s.memoryOk = true) :
    (State.hostWrite s agent off w).memoryOk = true := by
  simp (maxDischargeDepth := 40) [State.hostWrite, hs]
@[simp] theorem State.aliasRead_memoryOk (s : State) (agent off : Nat) (hs : s.memoryOk = true) :
    (State.aliasRead s agent off).memoryOk = true := by
  simp (maxDischargeDepth := 40) [State.aliasRead, hs]
@[simp] theorem State.narrow_memoryOk (s : State) (off : Nat) (write : Bool) (hs : s.memoryOk = true) :
    (State.narrow s off write).memoryOk = true := by
  simp (maxDischargeDepth := 40) [State.narrow, hs]
@[simp] theorem State.lkWrite_memoryOk (s : State) (hs : s.memoryOk = true) :
    (State.lkWrite s).memoryOk = true := by
  unfold State.lkWrite
  (repeat' split) <;> simp (maxDischargeDepth := 40) [hs]
@[simp] theorem State.bar2Write_memoryOk (s : State) (a : Nat) (bs : List Byte) (poisoned : Bool) (hs : s.memoryOk = true) :
    (State.bar2Write s a bs poisoned).memoryOk = true := by
  simp (maxDischargeDepth := 40) [State.bar2Write, hs]
@[simp] theorem State.bar2Bytes_memoryOk (s : State) (a : Nat) (z0 : Nat)
    (hs : s.memoryOk = true) : (State.bar2Bytes s a z0).2.memoryOk = true := by
  induction z0 generalizing s a with
  | zero => exact hs
  | succ n ih => simp only [State.bar2Bytes]; split <;> simp (maxDischargeDepth := 40) [ih, hs]
@[simp] theorem State.bar2Read_memoryOk (s : State) (a n : Nat) (hs : s.memoryOk = true) :
    (State.bar2Read s a n).memoryOk = true := by
  unfold State.bar2Read
  dsimp only
  split
  · exact hs
  · split
    · simp (maxDischargeDepth := 40) [hs]
    · split
      · have h : ∀ (l : List Nat) (s0 : State), s0.memoryOk = true → (l.foldl (fun s w => s.idieFault w) s0).memoryOk = true :=
          fun l s0 h0 => foldl_memoryOk _ _ _ h0 (fun s w hw => State.idieFault_memoryOk s w hw)
        exact h _ _ (State.unitFault_memoryOk _ _ _ hs)
      · exact State.bar2Bytes_memoryOk _ _ _ (State.correct_memoryOk _ _ _ hs)
@[simp] theorem State.pcSample_memoryOk (s : State) (c : Nat) (waiting : Bool) (hs : s.memoryOk = true) :
    (State.pcSample s c waiting).memoryOk = true := by
  simp (maxDischargeDepth := 40) [State.pcSample, hs]
@[simp] theorem State.bwWindowEnd_memoryOk (s : State) (m bytes busy : Nat) (hs : s.memoryOk = true) :
    (State.bwWindowEnd s m bytes busy).memoryOk = true := by
  unfold State.bwWindowEnd
  dsimp only
  (repeat' split) <;> simp (maxDischargeDepth := 40) [hs]
theorem execCmdPush_memoryOk (agent : Nat) (s : State) (hs : s.memoryOk = true) :
    ∃ t, execCmdPush agent s = .next t ∧ t.memoryOk = true := ⟨_, rfl, by simp (maxDischargeDepth := 40) [hs]⟩
theorem execRegisterWrite_memoryOk (agent off : Nat) (w : Word) (s : State) (hs : s.memoryOk = true) :
    ∃ t, execRegisterWrite agent off w s = .next t ∧ t.memoryOk = true := ⟨_, rfl, by simp (maxDischargeDepth := 40) [hs]⟩
theorem execLkWrite_memoryOk (s : State) (hs : s.memoryOk = true) :
    ∃ t, execLkWrite s = .next t ∧ t.memoryOk = true := ⟨_, rfl, by simp (maxDischargeDepth := 40) [hs]⟩
theorem execNarrowAccess_memoryOk (off : Nat) (write : Bool) (s : State) (hs : s.memoryOk = true) :
    ∃ t, execNarrowAccess off write s = .next t ∧ t.memoryOk = true := ⟨_, rfl, by simp (maxDischargeDepth := 40) [hs]⟩
theorem execAliasAccess_memoryOk (agent off : Nat) (write : Bool) (w : Word) (s : State) (hs : s.memoryOk = true) :
    ∃ t, execAliasAccess agent off write w s = .next t ∧ t.memoryOk = true := ⟨_, rfl, by simp (maxDischargeDepth := 40) [hs]⟩
theorem execBar2Write_memoryOk (a : Nat) (bs : List Byte) (poisoned : Bool) (s : State) (hs : s.memoryOk = true) :
    ∃ t, execBar2Write a bs poisoned s = .next t ∧ t.memoryOk = true := ⟨_, rfl, by simp (maxDischargeDepth := 40) [hs]⟩
theorem execBar2Read_memoryOk (a n : Nat) (s : State) (hs : s.memoryOk = true) :
    ∃ t, execBar2Read a n s = .next t ∧ t.memoryOk = true := ⟨_, rfl, by simp (maxDischargeDepth := 40) [hs]⟩
theorem execMailboxSelect_memoryOk (agent k selector : Nat) (s : State) (hs : s.memoryOk = true) :
    ∃ t, execMailboxSelect agent k selector s = .next t ∧ t.memoryOk = true := ⟨_, rfl, by simp (maxDischargeDepth := 40) [hs]⟩
theorem execMailboxCaptureComplete_memoryOk (k : Nat) (s : State) (hs : s.memoryOk = true) :
    ∃ t, execMailboxCaptureComplete k s = .next t ∧ t.memoryOk = true := ⟨_, rfl, by simp (maxDischargeDepth := 40) [hs]⟩
theorem execDelayMaxClear_memoryOk (agent i : Nat) (s : State) (hs : s.memoryOk = true) :
    ∃ t, execDelayMaxClear agent i s = .next t ∧ t.memoryOk = true := ⟨_, rfl, by simp (maxDischargeDepth := 40) [hs]⟩
theorem execGovClear_memoryOk (agent : Nat) (s : State) (hs : s.memoryOk = true) :
    ∃ t, execGovClear agent s = .next t ∧ t.memoryOk = true := ⟨_, rfl, by simp (maxDischargeDepth := 40) [hs]⟩
theorem execPerfClear_memoryOk (agent : Nat) (s : State) (hs : s.memoryOk = true) :
    ∃ t, execPerfClear agent s = .next t ∧ t.memoryOk = true := ⟨_, rfl, by simp (maxDischargeDepth := 40) [hs]⟩
theorem execPerfFreeze_memoryOk (agent : Nat) (freeze : Bool) (s : State) (hs : s.memoryOk = true) :
    ∃ t, execPerfFreeze agent freeze s = .next t ∧ t.memoryOk = true := ⟨_, rfl, by simp (maxDischargeDepth := 40) [hs]⟩
theorem execPerfCfgWrite_memoryOk (agent k : Nat) (w : Word) (s : State) (hs : s.memoryOk = true) :
    ∃ t, execPerfCfgWrite agent k w s = .next t ∧ t.memoryOk = true := ⟨_, rfl, by simp (maxDischargeDepth := 40) [hs]⟩
theorem execCmpArm_memoryOk (agent k : Nat) (s : State) (hs : s.memoryOk = true) :
    ∃ t, execCmpArm agent k s = .next t ∧ t.memoryOk = true := ⟨_, rfl, by simp (maxDischargeDepth := 40) [hs]⟩
theorem execEvioModeWrite_memoryOk (agent p mode : Nat) (s : State) (hs : s.memoryOk = true) :
    ∃ t, execEvioModeWrite agent p mode s = .next t ∧ t.memoryOk = true := ⟨_, rfl, by simp (maxDischargeDepth := 40) [hs]⟩
theorem execEvioQt_memoryOk (agent p : Nat) (target : Word) (s : State) (hs : s.memoryOk = true) :
    ∃ t, execEvioQt agent p target s = .next t ∧ t.memoryOk = true := ⟨_, rfl, by simp (maxDischargeDepth := 40) [hs]⟩
theorem execEvioQpush_memoryOk (agent p : Nat) (level : Bool) (s : State) (hs : s.memoryOk = true) :
    ∃ t, execEvioQpush agent p level s = .next t ∧ t.memoryOk = true := ⟨_, rfl, by simp (maxDischargeDepth := 40) [hs]⟩
theorem execCapRdWrite_memoryOk (agent : Nat) (w : Word) (s : State) (hs : s.memoryOk = true) :
    ∃ t, execCapRdWrite agent w s = .next t ∧ t.memoryOk = true := ⟨_, rfl, by simp (maxDischargeDepth := 40) [hs]⟩
theorem execArxRdWrite_memoryOk (agent r : Nat) (w : Word) (s : State) (hs : s.memoryOk = true) :
    ∃ t, execArxRdWrite agent r w s = .next t ∧ t.memoryOk = true := ⟨_, rfl, by simp (maxDischargeDepth := 40) [hs]⟩
theorem execStrRdWrite_memoryOk (agent : Nat) (w : Word) (s : State) (hs : s.memoryOk = true) :
    ∃ t, execStrRdWrite agent w s = .next t ∧ t.memoryOk = true := ⟨_, rfl, by simp (maxDischargeDepth := 40) [hs]⟩
theorem execSchedWindowWrite_memoryOk (agent : Nat) (w : Word) (s : State) (hs : s.memoryOk = true) :
    ∃ t, execSchedWindowWrite agent w s = .next t ∧ t.memoryOk = true := ⟨_, rfl, by simp (maxDischargeDepth := 40) [hs]⟩
theorem execClassRightRemove_memoryOk (agent : Nat) (soft : Bool) (w : Word) (s : State) (hs : s.memoryOk = true) :
    ∃ t, execClassRightRemove agent soft w s = .next t ∧ t.memoryOk = true := ⟨_, rfl, by simp (maxDischargeDepth := 40) [hs]⟩
theorem execBwMonitorEnable_memoryOk (agent m : Nat) (w : Word) (s : State) (hs : s.memoryOk = true) :
    ∃ t, execBwMonitorEnable agent m w s = .next t ∧ t.memoryOk = true := ⟨_, rfl, by simp (maxDischargeDepth := 40) [hs]⟩
theorem execBwWindowEnd_memoryOk (m bytes busy : Nat) (s : State) (hs : s.memoryOk = true) :
    ∃ t, execBwWindowEnd m bytes busy s = .next t ∧ t.memoryOk = true := ⟨_, rfl, by simp (maxDischargeDepth := 40) [hs]⟩
theorem execPcSample_memoryOk (c : Nat) (waiting : Bool) (s : State) (hs : s.memoryOk = true) :
    ∃ t, execPcSample c waiting s = .next t ∧ t.memoryOk = true := ⟨_, rfl, by simp (maxDischargeDepth := 40) [hs]⟩

end Sys2Proof.Machine

/-! ### Machine/FeedbackRows -/

namespace Sys2Proof.Machine

@[simp] theorem State.toStamp_memoryOk (s : State) (stamp : U64) (hs : s.memoryOk = true) :
    (State.toStamp s stamp).memoryOk = true := by
  simp (maxDischargeDepth := 40) [State.toStamp, hs]
@[simp] theorem State.filterDone_memoryOk (s : State) (c : Nat) (stamp : U64) (hs : s.memoryOk = true) :
    (State.filterDone s c stamp).memoryOk = true := by simp (maxDischargeDepth := 40) [State.filterDone, hs]
@[simp] theorem State.countEdge_memoryOk (s : State) (c : Nat) (ab : BitVec 2) (stamp : U64) (hs : s.memoryOk = true) :
    (State.countEdge s c ab stamp).memoryOk = true := by simp (maxDischargeDepth := 40) [State.countEdge, hs]
@[simp] theorem State.encoderEdge_memoryOk (s : State) (c ab runA runB : Nat) (stamp : U64) (hs : s.memoryOk = true) :
    (State.encoderEdge s c ab runA runB stamp).memoryOk = true := by
  simp (maxDischargeDepth := 40) [State.encoderEdge, hs]
@[simp] theorem State.indexRise_memoryOk (s : State) (c : Nat) (stamp : U64) (hs : s.memoryOk = true) :
    (State.indexRise s c stamp).memoryOk = true := by
  unfold State.indexRise
  dsimp only
  (repeat' split) <;> simp (maxDischargeDepth := 40) [hs]
@[simp] theorem State.encoderIndex_memoryOk (s : State) (c ab : Nat) (level : Bool) (run : Nat) (stamp : U64) (hs : s.memoryOk = true) :
    (State.encoderIndex s c ab level run stamp).memoryOk = true := by
  unfold State.encoderIndex
  dsimp only
  (repeat' split) <;> simp (maxDischargeDepth := 40) [hs]
@[simp] theorem State.setWindow_memoryOk (s : State) (ch : Nat) (w : Option QWindow) (hs : s.memoryOk = true) :
    (State.setWindow s ch w).memoryOk = true := by
  simp (maxDischargeDepth := 40) [State.setWindow, hs]
@[simp] theorem State.qerrClose_memoryOk (s : State) (ch : Nat) (hs : s.memoryOk = true) :
    (State.qerrClose s ch).memoryOk = true := by
  unfold State.qerrClose
  (repeat' split) <;> simp (maxDischargeDepth := 40) [hs]
@[simp] theorem State.qerrLimit_memoryOk (s : State) (ch : Nat) (hs : s.memoryOk = true) :
    (State.qerrLimit s ch).memoryOk = true := by
  unfold State.qerrLimit
  (repeat' split) <;> simp (maxDischargeDepth := 40) [hs]
@[simp] theorem State.sendLocalSer_memoryOk (s : State) (p : Nat) (hs : s.memoryOk = true) :
    (State.sendLocalSer s p).memoryOk = true := by
  unfold State.sendLocalSer
  dsimp only
  (repeat' split) <;> simp (maxDischargeDepth := 40) [hs]
@[simp] theorem State.serialDeadline_memoryOk (s : State) (p : Nat) (edge0 : Bool) (samples : List Bool) (hs : s.memoryOk = true) :
    (State.serialDeadline s p edge0 samples).memoryOk = true := by
  simp (maxDischargeDepth := 40) [State.serialDeadline, hs]
@[simp] theorem State.serialFailLimit_memoryOk (s : State) (p : Nat) (hs : s.memoryOk = true) :
    (State.serialFailLimit s p).memoryOk = true := by
  simp (maxDischargeDepth := 40) [State.serialFailLimit, hs]
theorem execEncoderEdge_memoryOk (c : Nat) (lines : PairRun) (stamp : U64) (s : State) (hs : s.memoryOk = true) :
    ∃ t, execEncoderEdge c lines stamp s = .next t ∧ t.memoryOk = true := ⟨_, rfl, by simp (maxDischargeDepth := 40) [hs]⟩
theorem execEncoderIndexEdge_memoryOk (c : Nat) (seen : IndexRun) (s : State) (hs : s.memoryOk = true) :
    ∃ t, execEncoderIndexEdge c seen s = .next t ∧ t.memoryOk = true := ⟨_, rfl, by simp (maxDischargeDepth := 40) [hs]⟩
theorem execQerrWindowClose_memoryOk (ch : Nat) (s : State) (hs : s.memoryOk = true) :
    ∃ t, execQerrWindowClose ch s = .next t ∧ t.memoryOk = true := ⟨_, rfl, by simp (maxDischargeDepth := 40) [hs]⟩
theorem execQerrLimitReached_memoryOk (ch : Nat) (s : State) (hs : s.memoryOk = true) :
    ∃ t, execQerrLimitReached ch s = .next t ∧ t.memoryOk = true := ⟨_, rfl, by simp (maxDischargeDepth := 40) [hs]⟩
theorem execSerialDeadline_memoryOk (p : Nat) (edge0 : Bool) (samples : List Bool) (s : State) (hs : s.memoryOk = true) :
    ∃ t, execSerialDeadline p edge0 samples s = .next t ∧ t.memoryOk = true := ⟨_, rfl, by simp (maxDischargeDepth := 40) [hs]⟩
theorem execSerialFailLimit_memoryOk (p : Nat) (s : State) (hs : s.memoryOk = true) :
    ∃ t, execSerialFailLimit p s = .next t ∧ t.memoryOk = true := ⟨_, rfl, by simp (maxDischargeDepth := 40) [hs]⟩

end Sys2Proof.Machine

/-! ### Machine/SchedRows -/

namespace Sys2Proof.Machine

@[simp] theorem State.readContext_memoryOk (s : State) (core : Nat) (t : State) (ht : t.memoryOk = true) :
    (State.readContext s core t).memoryOk = true := by
  unfold State.readContext
  dsimp only
  (repeat' split) <;> simp (maxDischargeDepth := 40) [ht]
theorem execTaskStart_memoryOk (core : Nat) (s : State) (hs : s.memoryOk = true) :
    ∃ t, execTaskStart core s = .next t ∧ t.memoryOk = true := ⟨_, rfl, by simp (maxDischargeDepth := 40) [hs]⟩
@[simp] theorem State.retryToken_memoryOk (s : State) (k : Nat) (hs : s.memoryOk = true) :
    (State.retryToken s k).memoryOk = true := by
  simp (maxDischargeDepth := 40) [State.retryToken, hs]
theorem execPendingTokenAccept_memoryOk (source : Nat) (s : State) (hs : s.memoryOk = true) :
    ∃ t, execPendingTokenAccept source s = .next t ∧ t.memoryOk = true := ⟨_, rfl, by simp (maxDischargeDepth := 40) [hs]⟩
@[simp] theorem State.delayExpiry_memoryOk (s : State) (d : Nat) (hs : s.memoryOk = true) :
    (State.delayExpiry s d).memoryOk = true := by
  unfold State.delayExpiry
  (repeat' split) <;> simp (maxDischargeDepth := 40) [hs]
theorem execDelayExpiry_memoryOk (d : Nat) (s : State) (hs : s.memoryOk = true) :
    ∃ t, execDelayExpiry d s = .next t ∧ t.memoryOk = true := ⟨_, rfl, by simp (maxDischargeDepth := 40) [hs]⟩
@[simp] theorem State.schedWindowEnd_memoryOk (s : State) (hs : s.memoryOk = true) :
    (State.schedWindowEnd s).memoryOk = true := by
  simp (maxDischargeDepth := 40) [State.schedWindowEnd, hs]
theorem execSchedWindowEnd_memoryOk (s : State) (hs : s.memoryOk = true) :
    ∃ t, execSchedWindowEnd s = .next t ∧ t.memoryOk = true := ⟨_, rfl, by simp (maxDischargeDepth := 40) [hs]⟩

end Sys2Proof.Machine

/-! ### Machine/TimeRows -/

namespace Sys2Proof.Machine

@[simp] theorem State.cmpFire_memoryOk (s : State) (k : Nat) (hs : s.memoryOk = true) :
    (State.cmpFire s k).memoryOk = true := by
  unfold State.cmpFire
  dsimp only
  (repeat' split) <;> simp_all (maxDischargeDepth := 40)
@[simp] theorem State.serveCycle_memoryOk (s : State) (e : Evio) (hs : s.memoryOk = true) :
    (State.serveCycle s e).memoryOk = true := by
  unfold State.serveCycle
  (repeat' split) <;> simp (maxDischargeDepth := 40) [hs]
@[simp] theorem State.evioFire_memoryOk (s : State) (p : Nat) (hs : s.memoryOk = true) :
    (State.evioFire s p).memoryOk = true := by
  unfold State.evioFire
  dsimp only
  (repeat' split) <;> simp (maxDischargeDepth := 40) [hs]
@[simp] theorem State.evioEdge_memoryOk (s : State) (p : Nat) (hs : s.memoryOk = true) :
    (State.evioEdge s p).memoryOk = true := by
  simp (maxDischargeDepth := 40) [State.evioEdge, hs]
@[simp] theorem State.enterCapture_memoryOk (s : State) (p : Nat) (level : Bool) (quarters : Nat) (hs : s.memoryOk = true) :
    (State.enterCapture s p level quarters).memoryOk = true := by
  unfold State.enterCapture
  dsimp only
  have h (k : Nat) (a : Nat → Nat) (b : Nat → List Byte) (s0 : State) (h0 : s0.memoryOk = true) :
      ((List.range k).foldl (fun u j => u.store' (a j) (b j)) s0).memoryOk = true :=
    foldl_memoryOk _ _ _ h0 (fun u j hu => State.store'_memoryOk u _ _ hu)
  split
  · exact hs
  · split
    · exact State.offer_memoryOk _ _ (h _ _ _ _ (State.store'_memoryOk _ _ _ hs))
    · exact h _ _ _ _ (State.store'_memoryOk _ _ _ hs)
@[simp] theorem State.unitLevel_memoryOk (s : State) (u : Nat) (level : Bool) (quarters : Nat) (hs : s.memoryOk = true) :
    (State.unitLevel s u level quarters).memoryOk = true := by
  simp (maxDischargeDepth := 40) [State.unitLevel, hs]
@[simp] theorem State.evioCapture_memoryOk (s : State) (p : Nat) (rising : Bool) (run quarters : Nat) (hs : s.memoryOk = true) :
    (State.evioCapture s p rising run quarters).memoryOk = true := by
  unfold State.evioCapture
  dsimp only
  (repeat' split) <;> simp_all (maxDischargeDepth := 40)
@[simp] theorem State.idle_memoryOk (s : State) (hs : s.memoryOk = true) :
    (State.idle s).memoryOk = true := by
  simp (maxDischargeDepth := 40) [State.idle, hs]
theorem execCmpFire_memoryOk (k : Nat) (s : State) (hs : s.memoryOk = true) :
    ∃ t, execCmpFire k s = .next t ∧ t.memoryOk = true := ⟨_, rfl, by simp (maxDischargeDepth := 40) [hs]⟩
theorem execEvioEntryFire_memoryOk (p : Nat) (s : State) (hs : s.memoryOk = true) :
    ∃ t, execEvioEntryFire p s = .next t ∧ t.memoryOk = true := ⟨_, rfl, by simp (maxDischargeDepth := 40) [hs]⟩
theorem execEvioPeriodicEdge_memoryOk (p : Nat) (s : State) (hs : s.memoryOk = true) :
    ∃ t, execEvioPeriodicEdge p s = .next t ∧ t.memoryOk = true := ⟨_, rfl, by simp (maxDischargeDepth := 40) [hs]⟩
theorem execEvioCapture_memoryOk (p : Nat) (line : LevelRun) (quarters : Nat) (s : State) (hs : s.memoryOk = true) :
    ∃ t, execEvioCapture p line quarters s = .next t ∧ t.memoryOk = true := ⟨_, rfl, by simp (maxDischargeDepth := 40) [hs]⟩

end Sys2Proof.Machine

/-! ### Machine/IntakeOps -/

namespace Sys2Proof.Machine

@[simp] theorem State.accept_memoryOk (s : State) (seq : Word) (origin : Nat) (forwarded logFull own : Bool)
    (entry : List Byte) (hs : s.memoryOk = true) :
    (State.accept s seq origin forwarded logFull own entry).memoryOk = true := by
  simp (maxDischargeDepth := 40) [State.accept, hs]
@[simp] theorem State.forwardCommand_memoryOk (s : State) (seq : Word) (origin : Nat) (logFull : Bool) (entry : List Byte)
    (hs : s.memoryOk = true) :
    (State.forwardCommand s seq origin logFull entry).memoryOk = true := by
  simp (maxDischargeDepth := 40) [State.forwardCommand, hs]
@[simp] theorem State.takePush_memoryOk (s : State) (p : Push) (hs : s.memoryOk = true) :
    (State.takePush s p).memoryOk = true := by
  simp (maxDischargeDepth := 40) [State.takePush, hs]
@[simp] theorem State.takeStops_memoryOk (s : State) (hs : s.memoryOk = true) :
    (State.takeStops s).memoryOk = true := by
  unfold State.takeStops
  dsimp only
  simp_all (maxDischargeDepth := 40)
@[simp] theorem State.takeQueue_memoryOk (s : State) (hs : s.memoryOk = true) :
    (State.takeQueue s).memoryOk = true := by
  unfold State.takeQueue
  dsimp only
  simp_all (maxDischargeDepth := 40)
@[simp] theorem State.intentOf_memoryOk (s : State) (t : Taken) (hs : s.memoryOk = true) :
    (State.intentOf s t).memoryOk = true := by
  simp (maxDischargeDepth := 40) [State.intentOf, hs]
@[simp] theorem State.stepAnswer_memoryOk (s : State) (code : Nat) (hs : s.memoryOk = true) :
    (State.stepAnswer s code).memoryOk = true := by
  unfold State.stepAnswer
  (repeat' split) <;> simp (maxDischargeDepth := 40) [hs]
@[simp] theorem State.effectOf_memoryOk (s : State) (t : Taken) (hs : s.memoryOk = true) :
    (State.effectOf s t).memoryOk = true := by
  unfold State.effectOf
  dsimp only
  (repeat' split) <;> simp_all (maxDischargeDepth := 40)
@[simp] theorem State.effectsDue_memoryOk (s : State) (hs : s.memoryOk = true) :
    (State.effectsDue s).memoryOk = true := by
  unfold State.effectsDue
  dsimp only
  simp_all (maxDischargeDepth := 40)
@[simp] theorem State.intentsDue_memoryOk (s : State) (hs : s.memoryOk = true) :
    (State.intentsDue s).memoryOk = true := by
  simp only [State.intentsDue]
  simp_all (maxDischargeDepth := 40)
@[simp] theorem State.discardPush_memoryOk (s : State) (p : Push) (hs : s.memoryOk = true) :
    (State.discardPush s p).memoryOk = true := by
  simp (maxDischargeDepth := 40) [State.discardPush, hs]

end Sys2Proof.Machine

/-! ### Machine/PtpRows -/

namespace Sys2Proof.Machine

@[simp] theorem State.sendPtp_memoryOk (s : State) (m : PtpSent) (hs : s.memoryOk = true) :
    (State.sendPtp s m).memoryOk = true := by
  simp (maxDischargeDepth := 40) [State.sendPtp, hs]
@[simp] theorem State.servoUpdate_memoryOk (s : State) (o : Int) (at' : U64) (hs : s.memoryOk = true) :
    (State.servoUpdate s o at').memoryOk = true := by
  simp (maxDischargeDepth := 40) [State.servoUpdate, hs]
@[simp] theorem State.useSync_memoryOk (s : State) (t2 : U64) (t1 : U64) (correction : Int) (hs : s.memoryOk = true) :
    (State.useSync s t2 t1 correction).memoryOk = true := by
  simp (maxDischargeDepth := 40) [State.useSync, hs]
@[simp] theorem State.ptpSync_memoryOk (s : State) (m : PtpMsg) (hs : s.memoryOk = true) :
    (State.ptpSync s m).memoryOk = true := by
  simp (maxDischargeDepth := 40) [State.ptpSync, hs]
@[simp] theorem State.ptpFollowUp_memoryOk (s : State) (m : PtpMsg) (hs : s.memoryOk = true) :
    (State.ptpFollowUp s m).memoryOk = true := by
  unfold State.ptpFollowUp
  dsimp only
  (repeat' split) <;> simp (maxDischargeDepth := 40) [hs]
@[simp] theorem State.ptpDelayReq_memoryOk (s : State) (m : PtpMsg) (hs : s.memoryOk = true) :
    (State.ptpDelayReq s m).memoryOk = true := by
  simp (maxDischargeDepth := 40) [State.ptpDelayReq, hs]
@[simp] theorem State.ptpDelayResp_memoryOk (s : State) (m : PtpMsg) (hs : s.memoryOk = true) :
    (State.ptpDelayResp s m).memoryOk = true := by
  unfold State.ptpDelayResp
  dsimp only
  (repeat' split) <;> simp (maxDischargeDepth := 40) [hs]
@[simp] theorem State.ptpPdelayReq_memoryOk (s : State) (m : PtpMsg) (hs : s.memoryOk = true) :
    (State.ptpPdelayReq s m).memoryOk = true := by
  simp (maxDischargeDepth := 40) [State.ptpPdelayReq, hs]
@[simp] theorem State.ptpPdelayResp_memoryOk (s : State) (m : PtpMsg) (hs : s.memoryOk = true) :
    (State.ptpPdelayResp s m).memoryOk = true := by
  unfold State.ptpPdelayResp
  dsimp only
  (repeat' split) <;> simp (maxDischargeDepth := 40) [hs]
@[simp] theorem State.ptpPdelayFollow_memoryOk (s : State) (m : PtpMsg) (hs : s.memoryOk = true) :
    (State.ptpPdelayFollow s m).memoryOk = true := by
  unfold State.ptpPdelayFollow
  dsimp only
  (repeat' split) <;> simp (maxDischargeDepth := 40) [hs]
@[simp] theorem State.ptpRequest_memoryOk (s : State) (hs : s.memoryOk = true) :
    (State.ptpRequest s).memoryOk = true := by
  simp (maxDischargeDepth := 40) [State.ptpRequest, hs]
@[simp] theorem State.ptpAnnounce_memoryOk (s : State) (m : PtpMsg) (hs : s.memoryOk = true) :
    (State.ptpAnnounce s m).memoryOk = true := by
  simp (maxDischargeDepth := 40) [State.ptpAnnounce, hs]
@[simp] theorem State.ptpSilent_memoryOk (s : State) (hs : s.memoryOk = true) :
    (State.ptpSilent s).memoryOk = true := by
  simp (maxDischargeDepth := 40) [State.ptpSilent, hs]
@[simp] theorem State.ptpInterval_memoryOk (s : State) (hs : s.memoryOk = true) :
    (State.ptpInterval s).memoryOk = true := by
  simp (maxDischargeDepth := 40) [State.ptpInterval, hs]
@[simp] theorem State.ptpDiscard_memoryOk (s : State) (hs : s.memoryOk = true) :
    (State.ptpDiscard s).memoryOk = true := by
  simp (maxDischargeDepth := 40) [State.ptpDiscard, hs]
theorem execSync_memoryOk (m : PtpMsg) (s : State) (hs : s.memoryOk = true) :
    ∃ t, execSync m s = .next t ∧ t.memoryOk = true := ⟨_, rfl, by simp (maxDischargeDepth := 40) [hs]⟩
theorem execFollowUp_memoryOk (m : PtpMsg) (s : State) (hs : s.memoryOk = true) :
    ∃ t, execFollowUp m s = .next t ∧ t.memoryOk = true := ⟨_, rfl, by simp (maxDischargeDepth := 40) [hs]⟩
theorem execDelayReq_memoryOk (m : PtpMsg) (s : State) (hs : s.memoryOk = true) :
    ∃ t, execDelayReq m s = .next t ∧ t.memoryOk = true := ⟨_, rfl, by simp (maxDischargeDepth := 40) [hs]⟩
theorem execDelayResp_memoryOk (m : PtpMsg) (s : State) (hs : s.memoryOk = true) :
    ∃ t, execDelayResp m s = .next t ∧ t.memoryOk = true := ⟨_, rfl, by simp (maxDischargeDepth := 40) [hs]⟩
theorem execPdelayReq_memoryOk (m : PtpMsg) (s : State) (hs : s.memoryOk = true) :
    ∃ t, execPdelayReq m s = .next t ∧ t.memoryOk = true := ⟨_, rfl, by simp (maxDischargeDepth := 40) [hs]⟩
theorem execPdelayResp_memoryOk (m : PtpMsg) (s : State) (hs : s.memoryOk = true) :
    ∃ t, execPdelayResp m s = .next t ∧ t.memoryOk = true := ⟨_, rfl, by simp (maxDischargeDepth := 40) [hs]⟩
theorem execPdelayRespFollowUp_memoryOk (m : PtpMsg) (s : State) (hs : s.memoryOk = true) :
    ∃ t, execPdelayRespFollowUp m s = .next t ∧ t.memoryOk = true := ⟨_, rfl, by simp (maxDischargeDepth := 40) [hs]⟩
theorem execAnnounce_memoryOk (m : PtpMsg) (s : State) (hs : s.memoryOk = true) :
    ∃ t, execAnnounce m s = .next t ∧ t.memoryOk = true := ⟨_, rfl, by simp (maxDischargeDepth := 40) [hs]⟩
theorem execPtpDiscardedMessage_memoryOk (s : State) (hs : s.memoryOk = true) :
    ∃ t, execPtpDiscardedMessage s = .next t ∧ t.memoryOk = true := ⟨_, rfl, by simp (maxDischargeDepth := 40) [hs]⟩
theorem execPtpSyncInterval_memoryOk (s : State) (hs : s.memoryOk = true) :
    ∃ t, execPtpSyncInterval s = .next t ∧ t.memoryOk = true := ⟨_, rfl, by simp (maxDischargeDepth := 40) [hs]⟩
theorem execDelayReqInterval_memoryOk (s : State) (hs : s.memoryOk = true) :
    ∃ t, execDelayReqInterval s = .next t ∧ t.memoryOk = true := ⟨_, rfl, by simp (maxDischargeDepth := 40) [hs]⟩
theorem execAnnounceReceiptTimeout_memoryOk (s : State) (hs : s.memoryOk = true) :
    ∃ t, execAnnounceReceiptTimeout s = .next t ∧ t.memoryOk = true := ⟨_, rfl, by simp (maxDischargeDepth := 40) [hs]⟩

end Sys2Proof.Machine

/-! ### Machine/AcqRows -/

namespace Sys2Proof.Machine

@[simp] theorem State.readRecords_memoryOk (s : State) (n : Word) (hs : s.memoryOk = true) :
    (State.readRecords s n).memoryOk = true := by
  unfold State.readRecords
  dsimp only
  have h : ∀ (l : List Nat) (s0 : State), s0.memoryOk = true →
      (l.foldl (fun s i => s.correct none (wordsOf (acqRecord i) 192)) s0).memoryOk = true :=
    fun l s0 h0 => foldl_memoryOk _ _ _ h0 (fun s i hi => State.correct_memoryOk s none _ hi)
  split
  · exact State.unitFault_memoryOk _ _ _ (h _ _ hs)
  · exact h _ _ hs
@[simp] theorem State.clearMarks_memoryOk (s : State) (hs : s.memoryOk = true) :
    (State.clearMarks s).memoryOk = true := by
  simp (maxDischargeDepth := 40) [State.clearMarks, hs]
@[simp] theorem State.ringSlots_memoryOk (s : State) (cap at' : Nat) (z0 : List (List Byte))
    (hs : s.memoryOk = true) : (State.ringSlots s cap at' z0).memoryOk = true := by
  induction z0 generalizing s at' with
  | nil => simpa [State.ringSlots] using hs
  | cons o r ih => simp (maxDischargeDepth := 40) [State.ringSlots, ih, hs]
@[simp] theorem State.placeGroup_memoryOk (s : State) (n : Word) (slots : List (List Byte)) (hs : s.memoryOk = true) :
    (State.placeGroup s n slots).memoryOk = true := by
  simp (maxDischargeDepth := 40) [State.placeGroup, hs]
@[simp] theorem State.streamGroup_memoryOk (s : State) (n : Word) (tier : Nat) (hs : s.memoryOk = true) :
    (State.streamGroup s n tier).memoryOk = true := by
  simp (maxDischargeDepth := 40) [State.streamGroup, hs]
@[simp] theorem State.sendDatagram_memoryOk (s : State) (hs : s.memoryOk = true) :
    (State.sendDatagram s).memoryOk = true := by
  simp (maxDischargeDepth := 40) [State.sendDatagram, hs]
@[simp] theorem State.unitSample_memoryOk (s : State) (n : Word) (start : U64) (ns u : Nat) (hs : s.memoryOk = true) :
    (State.unitSample s n start ns u).memoryOk = true := by
  unfold State.unitSample
  dsimp only
  (repeat' split) <;> simp_all (maxDischargeDepth := 40)
@[simp] theorem State.maskPoint_memoryOk (s : State) (b : Nat) (c : PrivCfg) (n : Word) (start : U64) (w : Word)
    (stale : Bool) (hs : s.memoryOk = true) :
    (State.maskPoint s b c n start w stale).memoryOk = true := by
  unfold State.maskPoint
  dsimp only
  (repeat' split) <;> simp (maxDischargeDepth := 40) [hs]
@[simp] theorem State.numericSample_memoryOk (s : State) (n : Word) (start : U64) (b : Nat) (hs : s.memoryOk = true) :
    (State.numericSample s n start b).memoryOk = true := by
  simp (maxDischargeDepth := 40) [State.numericSample, hs]
@[simp] theorem State.acquire_memoryOk (s : State) (n : Word) (start : U64) (ns tier : Nat) (hs : s.memoryOk = true) :
    (State.acquire s n start ns tier).memoryOk = true := by
  unfold State.acquire
  dsimp only
  simp_all (maxDischargeDepth := 40)
@[simp] theorem State.lateMask_memoryOk (s : State) (u b : Nat) (n : Word) (start : U64) (hs : s.memoryOk = true) :
    (State.lateMask s u b n start).memoryOk = true := by
  unfold State.lateMask
  dsimp only
  (repeat' split) <;> simp (maxDischargeDepth := 40) [hs]
@[simp] theorem State.triggerTimeout_memoryOk (s : State) (u : Nat) (hs : s.memoryOk = true) :
    (State.triggerTimeout s u).memoryOk = true := by
  unfold State.triggerTimeout
  dsimp only
  (repeat' split) <;> first
    | exact foldl_memoryOk _ _ _ (by simp (maxDischargeDepth := 40) [hs]) (fun s b hb => State.lateMask_memoryOk s u b _ _ hb)
    | simp (maxDischargeDepth := 40) [hs]
@[simp] theorem State.postReached_memoryOk (s : State) (b : Nat) (hs : s.memoryOk = true) :
    (State.postReached s b).memoryOk = true := by
  simp (maxDischargeDepth := 40) [State.postReached, hs]
@[simp] theorem State.preValid_memoryOk (s : State) (b : Nat) (hs : s.memoryOk = true) :
    (State.preValid s b).memoryOk = true := by
  simp (maxDischargeDepth := 40) [State.preValid, hs]
@[simp] theorem State.maskLoaded_memoryOk (s : State) (b : Nat) (hs : s.memoryOk = true) :
    (State.maskLoaded s b).memoryOk = true := by
  unfold State.maskLoaded
  dsimp only
  split
  · exact hs
  · have h : ∀ (k : Nat) (l : List Nat) (s0 : State), s0.memoryOk = true →
        (l.foldl (fun s w => { s with bad := addNew (w - maskStage k + maskActive k) s.bad }) s0).memoryOk = true :=
      fun k l s0 h0 => foldl_memoryOk _ _ _ h0 (fun s w hw => hw)
    refine State.setPriv_memoryOk _ _ _ ?_
    split
    · exact h _ _ _ (State.store'_memoryOk _ _ _ (State.correct_memoryOk _ _ _ hs))
    · exact State.unitFault_memoryOk _ _ _ (h _ _ _ (State.store'_memoryOk _ _ _ (State.correct_memoryOk _ _ _ hs)))
theorem execTriggerTimeout_memoryOk (u : Nat) (s : State) (hs : s.memoryOk = true) :
    ∃ t, execTriggerTimeout u s = .next t ∧ t.memoryOk = true := ⟨_, rfl, by simp (maxDischargeDepth := 40) [hs]⟩
theorem execPostReached_memoryOk (b : Nat) (s : State) (hs : s.memoryOk = true) :
    ∃ t, execPostReached b s = .next t ∧ t.memoryOk = true := ⟨_, rfl, by simp (maxDischargeDepth := 40) [hs]⟩
theorem execPreValid_memoryOk (b : Nat) (s : State) (hs : s.memoryOk = true) :
    ∃ t, execPreValid b s = .next t ∧ t.memoryOk = true := ⟨_, rfl, by simp (maxDischargeDepth := 40) [hs]⟩
theorem execMaskLoadComplete_memoryOk (b : Nat) (s : State) (hs : s.memoryOk = true) :
    ∃ t, execMaskLoadComplete b s = .next t ∧ t.memoryOk = true := ⟨_, rfl, by simp (maxDischargeDepth := 40) [hs]⟩

end Sys2Proof.Machine

/-! ### Machine/Mirror -/

namespace Sys2Proof.Machine

@[simp] theorem State.releaseMirror_memoryOk (s : State) (hs : s.memoryOk = true) :
    (State.releaseMirror s).memoryOk = true := by
  simp (maxDischargeDepth := 40) [State.releaseMirror, hs]

end Sys2Proof.Machine

/-! ### Machine/RopeOps -/

namespace Sys2Proof.Machine

@[simp] theorem State.ropeFrame_memoryOk (s : State) (link : Nat) (hs : s.memoryOk = true) :
    (State.ropeFrame s link).memoryOk = true := by
  simp (maxDischargeDepth := 40) [State.ropeFrame, hs]
@[simp] theorem State.ropeDiscard_memoryOk (s : State) (link : Nat) (hs : s.memoryOk = true) :
    (State.ropeDiscard s link).memoryOk = true := by
  simp (maxDischargeDepth := 40) [State.ropeDiscard, hs]
@[simp] theorem State.ropeReceive_memoryOk (s : State) (link : Nat) (ok : Bool) (f : State → State) (hf : ∀ (y0 : State),
    y0.memoryOk = true → (f y0).memoryOk = true) (hs : s.memoryOk = true) :
    (State.ropeReceive s link ok f).memoryOk = true := by
  simp (maxDischargeDepth := 40) [State.ropeReceive, hs, hf]
@[simp] theorem State.becomeLead_memoryOk (s : State) (hs : s.memoryOk = true) :
    (State.becomeLead s).memoryOk = true := by
  simp (maxDischargeDepth := 40) [State.becomeLead, hs]
@[simp] theorem State.becomeSecond_memoryOk (s : State) (hs : s.memoryOk = true) :
    (State.becomeSecond s).memoryOk = true := by
  simp (maxDischargeDepth := 40) [State.becomeSecond, hs]
@[simp] theorem State.exchange_memoryOk (s : State) (hs : s.memoryOk = true) :
    (State.exchange s).memoryOk = true := by
  simp (maxDischargeDepth := 40) [State.exchange, hs]
@[simp] theorem State.becomeStandby_memoryOk (s : State) (hs : s.memoryOk = true) :
    (State.becomeStandby s).memoryOk = true := by
  simp (maxDischargeDepth := 40) [State.becomeStandby, hs]
@[simp] theorem State.compareDigests_memoryOk (s : State) (hs : s.memoryOk = true) :
    (State.compareDigests s).memoryOk = true := by
  simp (maxDischargeDepth := 40) [State.compareDigests, hs]
@[simp] theorem State.releaseBeat_memoryOk (s : State) (hs : s.memoryOk = true) :
    (State.releaseBeat s).memoryOk = true := by
  simp (maxDischargeDepth := 40) [State.releaseBeat, hs]

end Sys2Proof.Machine

/-! ### Machine/RopeRows -/

namespace Sys2Proof.Machine

@[simp] theorem State.peerBeat_memoryOk (s : State) (bs : List Byte) (hs : s.memoryOk = true) :
    (State.peerBeat s bs).memoryOk = true := by
  simp (maxDischargeDepth := 40) [State.peerBeat, hs]
@[simp] theorem State.lockToBeat_memoryOk (s : State) (dep : U64) (passage : Word) (hs : s.memoryOk = true) :
    (State.lockToBeat s dep passage).memoryOk = true := by
  simp (maxDischargeDepth := 40) [State.lockToBeat, hs]
@[simp] theorem State.belayBeat_memoryOk (s : State) (link : Nat) (bs : List Byte) (hs : s.memoryOk = true) :
    (State.belayBeat s link bs).memoryOk = true := by
  simp (maxDischargeDepth := 40) [State.belayBeat, hs]
@[simp] theorem State.heartbeat_memoryOk (s : State) (link : Nat) (bs : List Byte) (hs : s.memoryOk = true) :
    (State.heartbeat s link bs).memoryOk = true := by
  unfold State.heartbeat
  (repeat' split) <;> simp (maxDischargeDepth := 40) [hs]
@[simp] theorem State.takeForwarded_memoryOk (s : State) (tag : Word) (z0 : Forward) (hs : s.memoryOk = true) :
    (State.takeForwarded s tag z0).memoryOk = true := by
  unfold State.takeForwarded
  (repeat' split) <;> simp (maxDischargeDepth := 40) [hs]
@[simp] theorem State.applyForward_memoryOk (s : State) (z0 : Forward) (hs : s.memoryOk = true) :
    (State.applyForward s z0).memoryOk = true := by
  unfold State.applyForward
  (repeat' split) <;> simp (maxDischargeDepth := 40) [hs]
@[simp] theorem State.batchesDue_memoryOk (s : State) (hs : s.memoryOk = true) :
    (State.batchesDue s).memoryOk = true := by
  unfold State.batchesDue
  dsimp only
  simp_all (maxDischargeDepth := 40)
@[simp] theorem State.batch_memoryOk (s : State) (tag : Word) (items : List Forward) (hs : s.memoryOk = true) :
    (State.batch s tag items).memoryOk = true := by
  unfold State.batch
  dsimp only
  (repeat' split) <;> simp_all (maxDischargeDepth := 40)
@[simp] theorem State.installBook_memoryOk (s : State) (b : LedgerNode) (hs : s.memoryOk = true) :
    (State.installBook s b).memoryOk = true := by
  simp (maxDischargeDepth := 40) [State.installBook, hs]
@[simp] theorem State.ledger_memoryOk (s : State) (passage : Word) (books : List LedgerNode) (hs : s.memoryOk = true) :
    (State.ledger s passage books).memoryOk = true := by
  unfold State.ledger
  dsimp only
  (repeat' split) <;> simp_all (maxDischargeDepth := 40)
@[simp] theorem State.localFrame_memoryOk (s : State) (passage : Word) (chans : List LocalChan) (evio : U64)
    (hs : s.memoryOk = true) :
    (State.localFrame s passage chans evio).memoryOk = true := by
  simp (maxDischargeDepth := 40) [State.localFrame, hs]
@[simp] theorem State.localSerFrame_memoryOk (s : State) (passage : Word) (chans : List LocalChan) (hs : s.memoryOk = true) :
    (State.localSerFrame s passage chans).memoryOk = true := by
  simp (maxDischargeDepth := 40) [State.localSerFrame, hs]
@[simp] theorem State.evioFrame_memoryOk (s : State) (p reg : Nat) (w target : Word) (hs : s.memoryOk = true) :
    (State.evioFrame s p reg w target).memoryOk = true := by
  simp (maxDischargeDepth := 40) [State.evioFrame, hs]
@[simp] theorem State.install_memoryOk (s : State) (z0 : CopyBlock) (hs : s.memoryOk = true) :
    (State.install s z0).memoryOk = true := by
  unfold State.install
  (repeat' split) <;> simp (maxDischargeDepth := 40) [hs]
@[simp] theorem State.copy_memoryOk (s : State) (b : CopyBlock) (left : Nat) (hs : s.memoryOk = true) :
    (State.copy s b left).memoryOk = true := by
  simp (maxDischargeDepth := 40) [State.copy, hs]
@[simp] theorem State.sampleFrame_memoryOk (s : State) (link : Nat) (bs : List Byte) (hs : s.memoryOk = true) :
    (State.sampleFrame s link bs).memoryOk = true := by
  simp (maxDischargeDepth := 40) [State.sampleFrame, hs]
@[simp] theorem State.belayDecision_memoryOk (s : State) (hs : s.memoryOk = true) :
    (State.belayDecision s).memoryOk = true := by
  unfold State.belayDecision
  dsimp only
  (repeat' split) <;> simp (maxDischargeDepth := 40) [hs]
@[simp] theorem State.verdict_memoryOk (s : State) (link : Nat) (passage : Word) (action reason : Nat) (hs : s.memoryOk = true) :
    (State.verdict s link passage action reason).memoryOk = true := by
  simp (maxDischargeDepth := 40) [State.verdict, hs]
@[simp] theorem State.grant_memoryOk (s : State) (serial : Word) (hs : s.memoryOk = true) :
    (State.grant s serial).memoryOk = true := by
  simp (maxDischargeDepth := 40) [State.grant, hs]
@[simp] theorem State.belayGrant_memoryOk (s : State) (hs : s.memoryOk = true) :
    (State.belayGrant s).memoryOk = true := by
  simp (maxDischargeDepth := 40) [State.belayGrant, hs]
@[simp] theorem State.takeover_memoryOk (s : State) (hs : s.memoryOk = true) :
    (State.takeover s).memoryOk = true := by
  simp (maxDischargeDepth := 40) [State.takeover, hs]
@[simp] theorem State.handoverNow_memoryOk (s : State) (hs : s.memoryOk = true) :
    (State.handoverNow s).memoryOk = true := by
  simp (maxDischargeDepth := 40) [State.handoverNow, hs]
@[simp] theorem State.silence_memoryOk (s : State) (hs : s.memoryOk = true) :
    (State.silence s).memoryOk = true := by
  simp (maxDischargeDepth := 40) [State.silence, hs]
@[simp] theorem State.batchMissing_memoryOk (s : State) (kind : Nat) (hs : s.memoryOk = true) :
    (State.batchMissing s kind).memoryOk = true := by
  simp (maxDischargeDepth := 40) [State.batchMissing, hs]
@[simp] theorem State.downFallback_memoryOk (s : State) (ring : Nat) (hs : s.memoryOk = true) :
    (State.downFallback s ring).memoryOk = true := by
  simp (maxDischargeDepth := 40) [State.downFallback, hs]
@[simp] theorem State.leadIsolation_memoryOk (s : State) (hs : s.memoryOk = true) :
    (State.leadIsolation s).memoryOk = true := by
  simp (maxDischargeDepth := 40) [State.leadIsolation, hs]
@[simp] theorem State.sendHeader_memoryOk (s : State) (r : Nat) (cold : Bool) (hs : s.memoryOk = true) :
    (State.sendHeader s r cold).memoryOk = true := by
  simp (maxDischargeDepth := 40) [State.sendHeader, hs]
@[simp] theorem State.coldStart_memoryOk (s : State) (hs : s.memoryOk = true) :
    (State.coldStart s).memoryOk = true := by
  unfold State.coldStart
  dsimp only
  (repeat' split) <;> simp_all (maxDischargeDepth := 40)
@[simp] theorem State.rejoinCheck_memoryOk (s : State) (hs : s.memoryOk = true) :
    (State.rejoinCheck s).memoryOk = true := by
  simp (maxDischargeDepth := 40) [State.rejoinCheck, hs]
@[simp] theorem State.linkLoss_memoryOk (s : State) (link : Nat) (hs : s.memoryOk = true) :
    (State.linkLoss s link).memoryOk = true := by
  simp (maxDischargeDepth := 40) [State.linkLoss, hs]
@[simp] theorem State.linkRegained_memoryOk (s : State) (link : Nat) (hs : s.memoryOk = true) :
    (State.linkRegained s link).memoryOk = true := by
  simp (maxDischargeDepth := 40) [State.linkRegained, hs]
theorem execHeartbeat_memoryOk (link : Nat) (bs : List Byte) (s : State) (hs : s.memoryOk = true) :
    ∃ t, execHeartbeat link bs s = .next t ∧ t.memoryOk = true := ⟨_, rfl, by simp (maxDischargeDepth := 40) [hs]⟩
theorem execBatch_memoryOk (link : Nat) (ok : Bool) (tag : Word) (items : List Forward) (s : State) (hs : s.memoryOk = true) :
    ∃ t, execBatch link ok tag items s = .next t ∧ t.memoryOk = true :=
  ⟨_, rfl, by apply State.ropeReceive_memoryOk _ _ _ _ _ hs; intro y h; simp [h]⟩
theorem execLedger_memoryOk (link : Nat) (ok : Bool) (passage : Word) (books : List LedgerNode) (s : State)
    (hs : s.memoryOk = true) :
    ∃ t, execLedger link ok passage books s = .next t ∧ t.memoryOk = true :=
  ⟨_, rfl, by apply State.ropeReceive_memoryOk _ _ _ _ _ hs; intro y h; simp [h]⟩
theorem execLocal_memoryOk (link : Nat) (ok : Bool) (passage : Word) (chans : List LocalChan) (evio : U64) (s : State)
    (hs : s.memoryOk = true) :
    ∃ t, execLocal link ok passage chans evio s = .next t ∧ t.memoryOk = true :=
  ⟨_, rfl, by apply State.ropeReceive_memoryOk _ _ _ _ _ hs; intro y h; simp [h]⟩
theorem execLocalSer_memoryOk (link : Nat) (ok : Bool) (passage : Word) (chans : List LocalChan) (s : State)
    (hs : s.memoryOk = true) :
    ∃ t, execLocalSer link ok passage chans s = .next t ∧ t.memoryOk = true :=
  ⟨_, rfl, by apply State.ropeReceive_memoryOk _ _ _ _ _ hs; intro y h; simp [h]⟩
theorem execSample_memoryOk (link : Nat) (bs : List Byte) (s : State) (hs : s.memoryOk = true) :
    ∃ t, execSample link bs s = .next t ∧ t.memoryOk = true := ⟨_, rfl, by simp (maxDischargeDepth := 40) [hs]⟩
theorem execVerdict_memoryOk (link : Nat) (ok : Bool) (passage : Word) (action reason : Nat) (s : State) (hs : s.memoryOk = true) :
    ∃ t, execVerdict link ok passage action reason s = .next t ∧ t.memoryOk = true :=
  ⟨_, rfl, by apply State.ropeReceive_memoryOk _ _ _ _ _ hs; intro y h; simp [h]⟩
theorem execEvioFrame_memoryOk (link : Nat) (ok : Bool) (p reg : Nat) (w target : Word) (s : State) (hs : s.memoryOk = true) :
    ∃ t, execEvioFrame link ok p reg w target s = .next t ∧ t.memoryOk = true :=
  ⟨_, rfl, by apply State.ropeReceive_memoryOk _ _ _ _ _ hs; intro y h; simp [h]⟩
theorem execGrant_memoryOk (link : Nat) (ok : Bool) (serial : Word) (s : State) (hs : s.memoryOk = true) :
    ∃ t, execGrant link ok serial s = .next t ∧ t.memoryOk = true :=
  ⟨_, rfl, by apply State.ropeReceive_memoryOk _ _ _ _ _ hs; intro y h; simp [h]⟩
theorem execCopy_memoryOk (link : Nat) (ok : Bool) (block : CopyBlock) (left : Nat) (s : State) (hs : s.memoryOk = true) :
    ∃ t, execCopy link ok block left s = .next t ∧ t.memoryOk = true :=
  ⟨_, rfl, by apply State.ropeReceive_memoryOk _ _ _ _ _ hs; intro y h; simp [h]⟩
theorem execBelayDecision_memoryOk (s : State) (hs : s.memoryOk = true) :
    ∃ t, execBelayDecision s = .next t ∧ t.memoryOk = true := ⟨_, rfl, by simp (maxDischargeDepth := 40) [hs]⟩
theorem execBelayGrant_memoryOk (s : State) (hs : s.memoryOk = true) :
    ∃ t, execBelayGrant s = .next t ∧ t.memoryOk = true := ⟨_, rfl, by simp (maxDischargeDepth := 40) [hs]⟩
theorem execTakeover_memoryOk (s : State) (hs : s.memoryOk = true) :
    ∃ t, execTakeover s = .next t ∧ t.memoryOk = true := ⟨_, rfl, by simp (maxDischargeDepth := 40) [hs]⟩
theorem execSilenceTakeover_memoryOk (s : State) (hs : s.memoryOk = true) :
    ∃ t, execSilenceTakeover s = .next t ∧ t.memoryOk = true := ⟨_, rfl, by simp (maxDischargeDepth := 40) [hs]⟩
theorem execHandover_memoryOk (s : State) (hs : s.memoryOk = true) :
    ∃ t, execHandover s = .next t ∧ t.memoryOk = true := ⟨_, rfl, by simp (maxDischargeDepth := 40) [hs]⟩
theorem execBatchMissing_memoryOk (kind : Nat) (s : State) (hs : s.memoryOk = true) :
    ∃ t, execBatchMissing kind s = .next t ∧ t.memoryOk = true := ⟨_, rfl, by simp (maxDischargeDepth := 40) [hs]⟩
theorem execSecondDownstreamFallback_memoryOk (ring : Nat) (s : State) (hs : s.memoryOk = true) :
    ∃ t, execSecondDownstreamFallback ring s = .next t ∧ t.memoryOk = true := ⟨_, rfl, by simp (maxDischargeDepth := 40) [hs]⟩
theorem execLeadIsolation_memoryOk (s : State) (hs : s.memoryOk = true) :
    ∃ t, execLeadIsolation s = .next t ∧ t.memoryOk = true := ⟨_, rfl, by simp (maxDischargeDepth := 40) [hs]⟩
theorem execColdStartAttempt_memoryOk (s : State) (hs : s.memoryOk = true) :
    ∃ t, execColdStartAttempt s = .next t ∧ t.memoryOk = true := ⟨_, rfl, by simp (maxDischargeDepth := 40) [hs]⟩
theorem execRejoinCheckComplete_memoryOk (s : State) (hs : s.memoryOk = true) :
    ∃ t, execRejoinCheckComplete s = .next t ∧ t.memoryOk = true := ⟨_, rfl, by simp (maxDischargeDepth := 40) [hs]⟩
theorem execRopeLinkLockLoss_memoryOk (link : Nat) (s : State) (hs : s.memoryOk = true) :
    ∃ t, execRopeLinkLockLoss link s = .next t ∧ t.memoryOk = true := ⟨_, rfl, by simp (maxDischargeDepth := 40) [hs]⟩
theorem execRopeLinkLockRegained_memoryOk (link : Nat) (s : State) (hs : s.memoryOk = true) :
    ∃ t, execRopeLinkLockRegained link s = .next t ∧ t.memoryOk = true := ⟨_, rfl, by simp (maxDischargeDepth := 40) [hs]⟩

end Sys2Proof.Machine

/-! ### Machine/GovRows -/

namespace Sys2Proof.Machine

@[simp] theorem State.measurementClose_memoryOk (s : State) (energy : Nat) (temps : List Int) (hs : s.memoryOk = true) :
    (State.measurementClose s energy temps).memoryOk = true := by
  simp (maxDischargeDepth := 40) [State.measurementClose, hs]
@[simp] theorem State.sensorFailed_memoryOk (s : State) (k : Nat) (hs : s.memoryOk = true) :
    (State.sensorFailed s k).memoryOk = true := by
  simp (maxDischargeDepth := 40) [State.sensorFailed, hs]
@[simp] theorem State.thermalTripped_memoryOk (s : State) (hs : s.memoryOk = true) :
    (State.thermalTripped s).memoryOk = true := by
  simp (maxDischargeDepth := 40) [State.thermalTripped, hs]
@[simp] theorem State.tierLatch_memoryOk (s : State) (hs : s.memoryOk = true) :
    (State.tierLatch s).memoryOk = true := by
  simp (maxDischargeDepth := 40) [State.tierLatch, hs]
theorem execMeasurementClose_memoryOk (energy : Nat) (temps : List Int) (s : State) (hs : s.memoryOk = true) :
    ∃ t, execMeasurementClose energy temps s = .next t ∧ t.memoryOk = true := ⟨_, rfl, by simp (maxDischargeDepth := 40) [hs]⟩
theorem execSensorFail_memoryOk (k : Nat) (s : State) (hs : s.memoryOk = true) :
    ∃ t, execSensorFail k s = .next t ∧ t.memoryOk = true := ⟨_, rfl, by simp (maxDischargeDepth := 40) [hs]⟩
theorem execThermalTrip_memoryOk (s : State) (hs : s.memoryOk = true) :
    ∃ t, execThermalTrip s = .next t ∧ t.memoryOk = true := ⟨_, rfl, by simp (maxDischargeDepth := 40) [hs]⟩
theorem execTierLatch_memoryOk (s : State) (hs : s.memoryOk = true) :
    ∃ t, execTierLatch s = .next t ∧ t.memoryOk = true := ⟨_, rfl, by simp (maxDischargeDepth := 40) [hs]⟩

end Sys2Proof.Machine

/-! ### Machine/SafetyRows -/

namespace Sys2Proof.Machine

@[simp] theorem State.sampleSafety_memoryOk (s : State) (sins souts brks : Nat) (currents : List Nat) (hs : s.memoryOk = true) :
    (State.sampleSafety s sins souts brks currents).memoryOk = true := by
  simp (maxDischargeDepth := 40) [State.sampleSafety, hs]
@[simp] theorem State.discrepancy_memoryOk (s : State) (k : Nat) (hs : s.memoryOk = true) :
    (State.discrepancy s k).memoryOk = true := by
  simp (maxDischargeDepth := 40) [State.discrepancy, hs]
@[simp] theorem State.ss1Expiry_memoryOk (s : State) (f : Nat) (hs : s.memoryOk = true) :
    (State.ss1Expiry s f).memoryOk = true := by
  simp (maxDischargeDepth := 40) [State.ss1Expiry, hs]
@[simp] theorem State.offPulse_memoryOk (s : State) (j : Nat) (low : Bool) (hs : s.memoryOk = true) :
    (State.offPulse s j low).memoryOk = true := by
  simp (maxDischargeDepth := 40) [State.offPulse, hs]
@[simp] theorem State.offPulseEnd_memoryOk (s : State) (j : Nat) (high : Bool) (hs : s.memoryOk = true) :
    (State.offPulseEnd s j high).memoryOk = true := by
  simp (maxDischargeDepth := 40) [State.offPulseEnd, hs]
@[simp] theorem State.containerLoss_memoryOk (s : State) (r n : Nat) (hs : s.memoryOk = true) :
    (State.containerLoss s r n).memoryOk = true := by
  simp (maxDischargeDepth := 40) [State.containerLoss, hs]
@[simp] theorem State.stoFail_memoryOk (s : State) (r n : Nat) (hs : s.memoryOk = true) :
    (State.stoFail s r n).memoryOk = true := by
  simp (maxDischargeDepth := 40) [State.stoFail, hs]
@[simp] theorem State.diagFault_memoryOk (s : State) (diag : Nat) (hs : s.memoryOk = true) :
    (State.diagFault s diag).memoryOk = true := by
  simp (maxDischargeDepth := 40) [State.diagFault, hs]
@[simp] theorem State.safeSupplyLost_memoryOk (s : State) (hs : s.memoryOk = true) :
    (State.safeSupplyLost s).memoryOk = true := by
  simp (maxDischargeDepth := 40) [State.safeSupplyLost, hs]
theorem execSafetySample_memoryOk (sins souts brks : Nat) (currents : List Nat) (s : State) (hs : s.memoryOk = true) :
    ∃ t, execSafetySample sins souts brks currents s = .next t ∧ t.memoryOk = true :=
  ⟨_, rfl, by simp (maxDischargeDepth := 40) [hs]⟩
theorem execDiscrepancyTimeout_memoryOk (k : Nat) (s : State) (hs : s.memoryOk = true) :
    ∃ t, execDiscrepancyTimeout k s = .next t ∧ t.memoryOk = true := ⟨_, rfl, by simp (maxDischargeDepth := 40) [hs]⟩
theorem execSs1TimeExpiry_memoryOk (f : Nat) (s : State) (hs : s.memoryOk = true) :
    ∃ t, execSs1TimeExpiry f s = .next t ∧ t.memoryOk = true := ⟨_, rfl, by simp (maxDischargeDepth := 40) [hs]⟩
theorem execOffPulse_memoryOk (j : Nat) (low : Bool) (s : State) (hs : s.memoryOk = true) :
    ∃ t, execOffPulse j low s = .next t ∧ t.memoryOk = true := ⟨_, rfl, by simp (maxDischargeDepth := 40) [hs]⟩
theorem execOffPulseEnd_memoryOk (j : Nat) (high : Bool) (s : State) (hs : s.memoryOk = true) :
    ∃ t, execOffPulseEnd j high s = .next t ∧ t.memoryOk = true := ⟨_, rfl, by simp (maxDischargeDepth := 40) [hs]⟩
theorem execContainerLoss_memoryOk (ring n : Nat) (s : State) (hs : s.memoryOk = true) :
    ∃ t, execContainerLoss ring n s = .next t ∧ t.memoryOk = true := ⟨_, rfl, by simp (maxDischargeDepth := 40) [hs]⟩
theorem execStoFail_memoryOk (ring n : Nat) (s : State) (hs : s.memoryOk = true) :
    ∃ t, execStoFail ring n s = .next t ∧ t.memoryOk = true := ⟨_, rfl, by simp (maxDischargeDepth := 40) [hs]⟩
theorem execSafetyDiagFault_memoryOk (diag : Nat) (s : State) (hs : s.memoryOk = true) :
    ∃ t, execSafetyDiagFault diag s = .next t ∧ t.memoryOk = true := ⟨_, rfl, by simp (maxDischargeDepth := 40) [hs]⟩
theorem execVsafe24Undervoltage_memoryOk (s : State) (hs : s.memoryOk = true) :
    ∃ t, execVsafe24Undervoltage s = .next t ∧ t.memoryOk = true := ⟨_, rfl, by simp (maxDischargeDepth := 40) [hs]⟩

end Sys2Proof.Machine

/-! ### Machine/BootRows -/

namespace Sys2Proof.Machine

@[simp] theorem cutWrite_wf {x : Store} (h : Memory.wf x.mram = true) (stage : Nat) (safe : Bool) (w : Option BankWrite) :
    Memory.wf (cutWrite stage safe w x).mram = true := by
  unfold cutWrite
  split
  · exact h
  · dsimp only
    split
    · exact h
    · exact hostBytes_wf h _ _
    · exact hostBytes_wf h _ _

@[simp] theorem Store.kept_mram (x : Store) : x.kept.mram = x.mram := rfl

@[simp] theorem clearMem_wf : Memory.wf clearMem = true := by decide +kernel

/-- Blocks stored one after another keep the canonical form. -/
theorem foldl_setBytes_wf (l : List (Nat × List Byte)) {m : Mem} (h : Memory.wf m = true) :
    Memory.wf (l.foldl (fun (m : Mem) p => m.setBytes p.1 p.2) m) = true := by
  induction l generalizing m with
  | nil => exact h
  | cons p r ih => exact ih (Mem.setBytes_wf h _ _)

@[simp] theorem State.newKeyPair_memoryOk (s : State) (hs : s.memoryOk = true) :
    (State.newKeyPair s).memoryOk = true := by
  simp (maxDischargeDepth := 40) [State.newKeyPair, hs]
@[simp] theorem State.powerReset_memoryOk (s : State) (hs : s.memoryOk = true) : (State.powerReset s).memoryOk = true := by
  simp only [State.powerReset]
  split
  · apply State.newKeyPair_memoryOk
    simp (maxDischargeDepth := 40) [hs, State.reset]
  · simp (maxDischargeDepth := 40) [hs, State.reset]
@[simp] theorem State.porn_memoryOk (s : State) (lowNs straps : Nat) (hs : s.memoryOk = true) :
    (State.porn s lowNs straps).memoryOk = true := by
  simp (maxDischargeDepth := 40) [State.porn, hs]
@[simp] theorem State.railLow_memoryOk (s : State) (ns : Nat) (hs : s.memoryOk = true) :
    (State.railLow s ns).memoryOk = true := by
  simp (maxDischargeDepth := 40) [State.railLow, hs]
@[simp] theorem State.eraseVault_memoryOk (s : State) (hs : s.memoryOk = true) :
    (State.eraseVault s).memoryOk = true := by
  simp (maxDischargeDepth := 40) [State.eraseVault, hs]
@[simp] theorem State.tamperStore_memoryOk (s : State) (hs : s.memoryOk = true) :
    (State.tamperStore s).memoryOk = true := by
  simp (maxDischargeDepth := 40) [State.tamperStore, hs]
@[simp] theorem State.tampered_memoryOk (s : State) (powered : Bool) (hs : s.memoryOk = true) :
    (State.tampered s powered).memoryOk = true := by
  simp (maxDischargeDepth := 40) [State.tampered, hs]
@[simp] theorem State.vbatLost_memoryOk (s : State) (hs : s.memoryOk = true) :
    (State.vbatLost s).memoryOk = true := by
  simp (maxDischargeDepth := 40) [State.vbatLost, hs]
@[simp] theorem State.vaultErasedNow_memoryOk (s : State) (hs : s.memoryOk = true) :
    (State.vaultErasedNow s).memoryOk = true := by
  simp (maxDischargeDepth := 40) [State.vaultErasedNow, hs]
@[simp] theorem State.debugRequest_memoryOk (s : State) (hs : s.memoryOk = true) :
    (State.debugRequest s).memoryOk = true := by
  unfold State.debugRequest
  dsimp only
  (repeat' split) <;> simp_all (maxDischargeDepth := 40)
@[simp] theorem State.wakeDone_memoryOk (s : State) (hs : s.memoryOk = true) :
    (State.wakeDone s).memoryOk = true := by
  simp (maxDischargeDepth := 40) [State.wakeDone, hs]
@[simp] theorem State.clearDone_memoryOk (s : State) (hs : s.memoryOk = true) :
    (State.clearDone s).memoryOk = true := by
  simp (maxDischargeDepth := 40) [State.clearDone, hs]
@[simp] theorem State.slotCode_memoryOk (s : State) (n code : Nat) (hs : s.memoryOk = true) :
    (State.slotCode s n code).memoryOk = true := by
  simp (maxDischargeDepth := 40) [State.slotCode, hs]
@[simp] theorem State.refusedSlot_memoryOk (s : State) (n : Nat) (f : LoadFail) (hs : s.memoryOk = true) :
    (State.refusedSlot s n f).memoryOk = true := by simp (maxDischargeDepth := 40) [State.refusedSlot, hs]
@[simp] theorem State.bootSlot_memoryOk (s : State) (n : Nat) (fallback : Bool)
    (hs : s.memoryOk = true) : (State.bootSlot s n fallback).memoryOk = true := by
  simp only [State.bootSlot]
  have h := foldl_setBytes_wf (s.store.softCode n) (State.mem_wf hs)
  split <;> simp (maxDischargeDepth := 40) [hs, h, State.slotCode]
@[simp] theorem State.imageDone_memoryOk (s : State) (hs : s.memoryOk = true) :
    (State.imageDone s).memoryOk = true := by
  unfold State.imageDone
  dsimp only
  (repeat' split) <;> simp (maxDischargeDepth := 40) [hs]
@[simp] theorem State.loadDefaults_memoryOk (s : State) (hs : s.memoryOk = true) :
    (State.loadDefaults s).memoryOk = true := by
  simp only [State.loadDefaults]
  simp_all (maxDischargeDepth := 40)
@[simp] theorem State.loadRecord_memoryOk (s : State) (p : Nat × Word) (hs : s.memoryOk = true) :
    (State.loadRecord s p).memoryOk = true := by
  simp (maxDischargeDepth := 40) [State.loadRecord, hs]
@[simp] theorem State.groupDefaults_memoryOk (s def' : State) (offs : List Nat) (hs : s.memoryOk = true) :
    (State.groupDefaults s def' offs).memoryOk = true := by
  simp only [State.groupDefaults]
  simp_all (maxDischargeDepth := 40)
@[simp] theorem State.logBank_memoryOk (s : State) (safe : Bool) (hs : s.memoryOk = true) :
    (State.logBank s safe).memoryOk = true := by
  simp (maxDischargeDepth := 40) [State.logBank, hs]
@[simp] theorem State.loadBank_memoryOk (s : State) (hs : s.memoryOk = true) :
    (State.loadBank s).memoryOk = true := by
  unfold State.loadBank
  dsimp only
  (repeat' split) <;> simp_all (maxDischargeDepth := 40)
@[simp] theorem State.logLevels_memoryOk (s : State) (hs : s.memoryOk = true) :
    (State.logLevels s).memoryOk = true := by
  exact foldl_memoryOk _ _ _ hs fun s x h => foldl_memoryOk _ _ _ h fun s y h => by split <;> simp [h]
@[simp] theorem State.loadSafe_memoryOk (s : State) (hs : s.memoryOk = true) :
    (State.loadSafe s).memoryOk = true := by
  simp (maxDischargeDepth := 40) [State.loadSafe, hs]
@[simp] theorem State.startClock_memoryOk (s : State) (hs : s.memoryOk = true) :
    (State.startClock s).memoryOk = true := by
  simp (maxDischargeDepth := 40) [State.startClock, hs]
@[simp] theorem State.startListen_memoryOk (s : State) (hs : s.memoryOk = true) :
    (State.startListen s).memoryOk = true := by
  simp (maxDischargeDepth := 40) [State.startListen, hs]
@[simp] theorem State.armDone_memoryOk (s : State) (selfTest : Bool) (hs : s.memoryOk = true) :
    (State.armDone s selfTest).memoryOk = true := by
  unfold State.armDone
  dsimp only
  (repeat' split) <;> simp_all (maxDischargeDepth := 40)
@[simp] theorem State.perst_memoryOk (s : State) (low : Bool) (hs : s.memoryOk = true) :
    (State.perst s low).memoryOk = true := by
  unfold State.perst
  dsimp only
  (repeat' split) <;> simp_all (maxDischargeDepth := 40)
@[simp] theorem State.linkDown_memoryOk (s : State) (cause : Nat) (hs : s.memoryOk = true) :
    (State.linkDown s cause).memoryOk = true := by
  unfold State.linkDown
  (repeat' split) <;> simp (maxDischargeDepth := 40) [hs]
@[simp] theorem State.linkUp_memoryOk (s : State) (speed width : Nat) (bme : Bool) (hs : s.memoryOk = true) :
    (State.linkUp s speed width bme).memoryOk = true := by
  simp (maxDischargeDepth := 40) [State.linkUp, hs]
@[simp] theorem State.bankWritten_memoryOk (s : State) (safe ok : Bool) (hs : s.memoryOk = true) :
    (State.bankWritten s safe ok).memoryOk = true := by
  unfold State.bankWritten
  dsimp only
  (repeat' split) <;> simp (maxDischargeDepth := 40) [hs]
theorem execPorn_memoryOk (lowNs straps : Nat) (s : State) (hs : s.memoryOk = true) :
    ∃ t, execPorn lowNs straps s = .next t ∧ t.memoryOk = true := ⟨_, rfl, by simp (maxDischargeDepth := 40) [hs]⟩
theorem execRailUndervoltage_memoryOk (ns : Nat) (s : State) (hs : s.memoryOk = true) :
    ∃ t, execRailUndervoltage ns s = .next t ∧ t.memoryOk = true := ⟨_, rfl, by simp (maxDischargeDepth := 40) [hs]⟩
theorem execWakeComplete_memoryOk (s : State) (hs : s.memoryOk = true) :
    ∃ t, execWakeComplete s = .next t ∧ t.memoryOk = true := ⟨_, rfl, by simp (maxDischargeDepth := 40) [hs]⟩
theorem execClearComplete_memoryOk (s : State) (hs : s.memoryOk = true) :
    ∃ t, execClearComplete s = .next t ∧ t.memoryOk = true := ⟨_, rfl, by simp (maxDischargeDepth := 40) [hs]⟩
theorem execImageComplete_memoryOk (s : State) (hs : s.memoryOk = true) :
    ∃ t, execImageComplete s = .next t ∧ t.memoryOk = true := ⟨_, rfl, by simp (maxDischargeDepth := 40) [hs]⟩
theorem execArmComplete_memoryOk (selfTest : Bool) (s : State) (hs : s.memoryOk = true) :
    ∃ t, execArmComplete selfTest s = .next t ∧ t.memoryOk = true := ⟨_, rfl, by simp (maxDischargeDepth := 40) [hs]⟩
theorem execPerstn_memoryOk (low : Bool) (s : State) (hs : s.memoryOk = true) :
    ∃ t, execPerstn low s = .next t ∧ t.memoryOk = true := ⟨_, rfl, by simp (maxDischargeDepth := 40) [hs]⟩
theorem execPcieLinkDown_memoryOk (cause : Nat) (s : State) (hs : s.memoryOk = true) :
    ∃ t, execPcieLinkDown cause s = .next t ∧ t.memoryOk = true := ⟨_, rfl, by simp (maxDischargeDepth := 40) [hs]⟩
theorem execPcieLinkUp_memoryOk (speed width : Nat) (bme : Bool) (s : State) (hs : s.memoryOk = true) :
    ∃ t, execPcieLinkUp speed width bme s = .next t ∧ t.memoryOk = true := ⟨_, rfl, by simp (maxDischargeDepth := 40) [hs]⟩
theorem execTamper_memoryOk (powered : Bool) (s : State) (hs : s.memoryOk = true) :
    ∃ t, execTamper powered s = .next t ∧ t.memoryOk = true := ⟨_, rfl, by simp (maxDischargeDepth := 40) [hs]⟩
theorem execVbatLoss_memoryOk (s : State) (hs : s.memoryOk = true) :
    ∃ t, execVbatLoss s = .next t ∧ t.memoryOk = true := ⟨_, rfl, by simp (maxDischargeDepth := 40) [hs]⟩
theorem execVaultEraseComplete_memoryOk (s : State) (hs : s.memoryOk = true) :
    ∃ t, execVaultEraseComplete s = .next t ∧ t.memoryOk = true := ⟨_, rfl, by simp (maxDischargeDepth := 40) [hs]⟩
theorem execDbgReq_memoryOk (s : State) (hs : s.memoryOk = true) :
    ∃ t, execDbgReq s = .next t ∧ t.memoryOk = true := ⟨_, rfl, by simp (maxDischargeDepth := 40) [hs]⟩
theorem execBankWriteComplete_memoryOk (safe ok : Bool) (s : State) (hs : s.memoryOk = true) :
    ∃ t, execBankWriteComplete safe ok s = .next t ∧ t.memoryOk = true := ⟨_, rfl, by simp (maxDischargeDepth := 40) [hs]⟩

end Sys2Proof.Machine

/-! ### Machine/RopeCopy -/

namespace Sys2Proof.Machine

@[simp] theorem State.sendCopies_memoryOk (s : State) (hs : s.memoryOk = true) :
    (State.sendCopies s).memoryOk = true := by
  unfold State.sendCopies
  dsimp only
  split
  · exact hs
  · exact foldl_memoryOk _ _ _ (by simp (maxDischargeDepth := 40) [hs]) (fun s b h => State.queueFrame_memoryOk s 0 _ h)
end Sys2Proof.Machine

/-! ### Machine/PassageStart -/

namespace Sys2Proof.Machine

@[simp] theorem State.swapNow_memoryOk (s : State) (hs : s.memoryOk = true) :
    (State.swapNow s).memoryOk = true := by
  unfold State.swapNow
  (repeat' split) <;> simp (maxDischargeDepth := 40) [hs]
@[simp] theorem State.applyTier_memoryOk (s : State) (hs : s.memoryOk = true) :
    (State.applyTier s).memoryOk = true := by
  simp (maxDischargeDepth := 40) [State.applyTier, hs]
@[simp] theorem State.ringsEnd_memoryOk (s : State) (hs : s.memoryOk = true) :
    (State.ringsEnd s).memoryOk = true := by
  simp only [State.ringsEnd]
  simp_all (maxDischargeDepth := 40)
@[simp] theorem State.enterRun_memoryOk (s : State) (role : Nat) (hs : s.memoryOk = true) :
    (State.enterRun s role).memoryOk = true := by
  simp (maxDischargeDepth := 40) [State.enterRun, hs]
@[simp] theorem State.listenStart_memoryOk (s : State) (hs : s.memoryOk = true) :
    (State.listenStart s).memoryOk = true := by
  simp (maxDischargeDepth := 40) [State.listenStart, hs]
@[simp] theorem State.roleStart_memoryOk (s : State) (hs : s.memoryOk = true) :
    (State.roleStart s).memoryOk = true := by
  unfold State.roleStart
  dsimp only
  (repeat' split) <;> simp (maxDischargeDepth := 40) [hs]
@[simp] theorem State.singleReact_memoryOk (s : State) (hs : s.memoryOk = true) :
    (State.singleReact s).memoryOk = true := by
  unfold State.singleReact
  dsimp only
  simp_all (maxDischargeDepth := 40)
@[simp] theorem State.faultInstances_memoryOk (s : State) (hs : s.memoryOk = true) :
    (State.faultInstances s).memoryOk = true := by
  exact foldl_memoryOk _ _ _ hs fun s x h => by split <;> simp [h]
@[simp] theorem State.faultReact_memoryOk (s : State) (hs : s.memoryOk = true) :
    (State.faultReact s).memoryOk = true := by
  simp (maxDischargeDepth := 40) [State.faultReact, hs]
@[simp] theorem State.latchEnc_memoryOk (s : State) (c : Nat) (stamp : U64) (hs : s.memoryOk = true) :
    (State.latchEnc s c stamp).memoryOk = true := by
  simp (maxDischargeDepth := 40) [State.latchEnc, hs]
@[simp] theorem State.localSamples_memoryOk (s : State) (hs : s.memoryOk = true) :
    (State.localSamples s).memoryOk = true := by
  unfold State.localSamples
  dsimp only
  (repeat' split) <;> simp_all (maxDischargeDepth := 40)
@[simp] theorem State.takeDebug_memoryOk (s : State) (hs : s.memoryOk = true) :
    (State.takeDebug s).memoryOk = true := by
  simp (maxDischargeDepth := 40) [State.takeDebug, hs]
@[simp] theorem State.commandsStart_memoryOk (s : State) (hs : s.memoryOk = true) :
    (State.commandsStart s).memoryOk = true := by
  simp (maxDischargeDepth := 40) [State.commandsStart, hs]
@[simp] theorem State.sendHeaders_memoryOk (s : State) (hs : s.memoryOk = true) :
    (State.sendHeaders s).memoryOk = true := by
  simp only [State.sendHeaders]
  simp_all (maxDischargeDepth := 40)
@[simp] theorem State.sendLead_memoryOk (s : State) (hs : s.memoryOk = true) :
    (State.sendLead s).memoryOk = true := by
  simp (maxDischargeDepth := 40) [State.sendLead, hs]
@[simp] theorem State.upset_memoryOk (s : State) (hs : s.memoryOk = true) :
    (State.upset s).memoryOk = true := by
  unfold State.upset
  dsimp only
  (repeat' split) <;> simp (maxDischargeDepth := 40) [hs]
@[simp] theorem State.ropeUpset_memoryOk (s : State) (hs : s.memoryOk = true) :
    (State.ropeUpset s).memoryOk = true := by
  unfold State.ropeUpset
  dsimp only
  (repeat' split) <;> simp (maxDischargeDepth := 40) [hs]
@[simp] theorem State.advancePassage_memoryOk (s : State) (hs : s.memoryOk = true) :
    (State.advancePassage s).memoryOk = true := by
  simp (maxDischargeDepth := 40) [State.advancePassage, hs]
@[simp] theorem State.roles_memoryOk (s : State) (n : Word) (hs : s.memoryOk = true) :
    (State.roles s n).memoryOk = true := by
  unfold State.roles
  dsimp only
  (repeat' split) <;> simp (maxDischargeDepth := 40) [hs]
@[simp] theorem State.actions_memoryOk (s : State) (hs : s.memoryOk = true) :
    (State.actions s).memoryOk = true := by
  unfold State.actions
  dsimp only
  simp_all (maxDischargeDepth := 40)
@[simp] theorem State.passageStart_memoryOk (s : State) (hs : s.memoryOk = true) :
    (State.passageStart s).memoryOk = true := by
  unfold State.passageStart
  dsimp only
  (repeat' split) <;> simp_all (maxDischargeDepth := 40)
theorem execPassageStart_memoryOk (s : State) (hs : s.memoryOk = true) :
    ∃ t, execPassageStart s = .next t ∧ t.memoryOk = true := ⟨_, rfl, by simp (maxDischargeDepth := 40) [hs]⟩

end Sys2Proof.Machine

/-! ### Machine/TimetableRows -/

namespace Sys2Proof.Machine

@[simp] theorem State.takeHalf_memoryOk (s : State) (rel : Release) (hs : s.memoryOk = true) :
    (State.takeHalf s rel).memoryOk = true := by
  unfold State.takeHalf
  dsimp only
  simp_all (maxDischargeDepth := 40)
@[simp] theorem State.releaseStream_memoryOk (s : State) (rel : Release) (hs : s.memoryOk = true) :
    (State.releaseStream s rel).memoryOk = true := by
  simp (maxDischargeDepth := 40) [State.releaseStream, hs]
@[simp] theorem State.releaseTarget_memoryOk (s : State) (target : Nat) (hs : s.memoryOk = true) :
    (State.releaseTarget s target).memoryOk = true := by
  unfold State.releaseTarget
  (repeat' split) <;> simp (maxDischargeDepth := 40) [hs]
@[simp] theorem State.releaseAt_memoryOk (s : State) (target : Nat) (hs : s.memoryOk = true) :
    (State.releaseAt s target).memoryOk = true := by
  unfold State.releaseAt
  (repeat' split) <;> simp (maxDischargeDepth := 40) [hs]
@[simp] theorem State.openEntry_memoryOk (s : State) (k i : Nat) (hs : s.memoryOk = true) :
    (State.openEntry s k i).memoryOk = true := by
  simp (maxDischargeDepth := 40) [State.openEntry, hs]
@[simp] theorem State.closeEntry_memoryOk (s : State) (k i : Nat) (hs : s.memoryOk = true) :
    (State.closeEntry s k i).memoryOk = true := by
  simp (maxDischargeDepth := 40) [State.closeEntry, hs]
@[simp] theorem State.runServo_memoryOk (s : State) (i : Nat) (hs : s.memoryOk = true) :
    (State.runServo s i).memoryOk = true := by
  simp (maxDischargeDepth := 40) [State.runServo, hs]
@[simp] theorem State.runResults_memoryOk (s : State) (e : Entry) (hs : s.memoryOk = true) :
    (State.runResults s e).memoryOk = true := by
  unfold State.runResults
  dsimp only
  (repeat' split) <;> simp_all (maxDischargeDepth := 40)
@[simp] theorem State.runEntry_memoryOk (s : State) (k i : Nat) (hs : s.memoryOk = true) :
    (State.runEntry s k i).memoryOk = true := by
  unfold State.runEntry
  (repeat' split) <;> simp (maxDischargeDepth := 40) [hs]
@[simp] theorem State.moveWrite_memoryOk (s : State) (a : Nat) (bs : List Byte) (hs : s.memoryOk = true) :
    (State.moveWrite s a bs).memoryOk = true := by
  simp (maxDischargeDepth := 40) [State.moveWrite, hs]
@[simp] theorem State.wordFault_memoryOk (s : State) (a : Nat) (hs : s.memoryOk = true) :
    (State.wordFault s a).memoryOk = true := by
  simp (maxDischargeDepth := 40) [State.wordFault, hs]
@[simp] theorem State.copyWords_memoryOk (s : State) (k : Nat) (z0 : List (Nat × Nat)) (hs : s.memoryOk = true) :
    (State.copyWords s k z0).1.memoryOk = true := by
  induction z0 generalizing s with
  | nil => exact hs
  | cons p r ih =>
    simp only [State.copyWords]
    split
    · exact hs
    · apply ih; simp (maxDischargeDepth := 40) [hs]
@[simp] theorem State.moveEntry_memoryOk (s : State) (k i : Nat) (hs : s.memoryOk = true) :
    (State.moveEntry s k i).memoryOk = true := by
  unfold State.moveEntry
  dsimp only
  (repeat' split) <;> simp (maxDischargeDepth := 40) [hs]
@[simp] theorem State.moveComplete_memoryOk (s : State) (k i : Nat) (hs : s.memoryOk = true) :
    (State.moveComplete s k i).memoryOk = true := by
  unfold State.moveComplete
  (repeat' split) <;> simp (maxDischargeDepth := 40) [hs]
@[simp] theorem State.gateMiss_memoryOk (s : State) (k i : Nat) (e : Entry) (hs : s.memoryOk = true) :
    (State.gateMiss s k i e).memoryOk = true := by
  unfold State.gateMiss
  dsimp only
  (repeat' split) <;> simp (maxDischargeDepth := 40) [hs]
@[simp] theorem State.gateEntry_memoryOk (s : State) (k i : Nat) (hs : s.memoryOk = true) :
    (State.gateEntry s k i).memoryOk = true := by
  unfold State.gateEntry
  (repeat' split) <;> simp (maxDischargeDepth := 40) [hs]
@[simp] theorem State.reserveEntry_memoryOk (s : State) (k i : Nat) (hs : s.memoryOk = true) :
    (State.reserveEntry s k i).memoryOk = true := by
  unfold State.reserveEntry
  (repeat' split) <;> simp (maxDischargeDepth := 40) [hs]
@[simp] theorem State.overrunEntry_memoryOk (s : State) (k i : Nat) (hs : s.memoryOk = true) :
    (State.overrunEntry s k i).memoryOk = true := by
  unfold State.overrunEntry
  (repeat' split) <;> simp (maxDischargeDepth := 40) [hs]
@[simp] theorem State.dieLinkFailed_memoryOk (s : State) (link : Nat) (hs : s.memoryOk = true) :
    (State.dieLinkFailed s link).memoryOk = true := by
  simp (maxDischargeDepth := 40) [State.dieLinkFailed, hs]
@[simp] theorem State.scrubBad_memoryOk (s : State) (w : Nat) (hs : s.memoryOk = true) :
    (State.scrubBad s w).memoryOk = true := by
  simp (maxDischargeDepth := 40) [State.scrubBad, hs]
@[simp] theorem State.scrubbed_memoryOk (s : State) (w port : Nat) (bs : List Byte) (hs : s.memoryOk = true) :
    (State.scrubbed s w port bs).memoryOk = true := by
  unfold State.scrubbed
  dsimp only
  simp (maxDischargeDepth := 40) [hs]
@[simp] theorem State.scrubVisit_memoryOk (s : State) (addr symbols : Nat) (hs : s.memoryOk = true) :
    (State.scrubVisit s addr symbols).memoryOk = true := by
  unfold State.scrubVisit
  (repeat' split) <;> simp (maxDischargeDepth := 40) [hs]
@[simp] theorem State.setLoadDone_memoryOk (s : State) (i : Nat) (hs : s.memoryOk = true) :
    (State.setLoadDone s i).memoryOk = true := by
  unfold State.setLoadDone
  (repeat' split) <;> simp (maxDischargeDepth := 40) [hs]
@[simp] theorem State.loadDone_memoryOk (s : State) (hs : s.memoryOk = true) :
    (State.loadDone s).memoryOk = true := by
  simp (maxDischargeDepth := 40) [State.loadDone, hs]
@[simp] theorem State.swapRow_memoryOk (s : State) (hs : s.memoryOk = true) :
    (State.swapRow s).memoryOk = true := by
  simp (maxDischargeDepth := 40) [State.swapRow, hs]
theorem execRelease_memoryOk (target : Nat) (s : State) (hs : s.memoryOk = true) :
    ∃ t, execRelease target s = .next t ∧ t.memoryOk = true := ⟨_, rfl, by simp (maxDischargeDepth := 40) [hs]⟩
theorem execRun_memoryOk (island index : Nat) (s : State) (hs : s.memoryOk = true) :
    ∃ t, execRun island index s = .next t ∧ t.memoryOk = true := ⟨_, rfl, by simp (maxDischargeDepth := 40) [hs]⟩
theorem execMove_memoryOk (island index : Nat) (s : State) (hs : s.memoryOk = true) :
    ∃ t, execMove island index s = .next t ∧ t.memoryOk = true := ⟨_, rfl, by simp (maxDischargeDepth := 40) [hs]⟩
theorem execMoveComplete_memoryOk (island index : Nat) (s : State) (hs : s.memoryOk = true) :
    ∃ t, execMoveComplete island index s = .next t ∧ t.memoryOk = true := ⟨_, rfl, by simp (maxDischargeDepth := 40) [hs]⟩
theorem execGate_memoryOk (island index : Nat) (s : State) (hs : s.memoryOk = true) :
    ∃ t, execGate island index s = .next t ∧ t.memoryOk = true := ⟨_, rfl, by simp (maxDischargeDepth := 40) [hs]⟩
theorem execReserve_memoryOk (island index : Nat) (s : State) (hs : s.memoryOk = true) :
    ∃ t, execReserve island index s = .next t ∧ t.memoryOk = true := ⟨_, rfl, by simp (maxDischargeDepth := 40) [hs]⟩
theorem execOverrun_memoryOk (island index : Nat) (s : State) (hs : s.memoryOk = true) :
    ∃ t, execOverrun island index s = .next t ∧ t.memoryOk = true := ⟨_, rfl, by simp (maxDischargeDepth := 40) [hs]⟩
theorem execDieLinkFailure_memoryOk (link : Nat) (s : State) (hs : s.memoryOk = true) :
    ∃ t, execDieLinkFailure link s = .next t ∧ t.memoryOk = true := ⟨_, rfl, by simp (maxDischargeDepth := 40) [hs]⟩
theorem execScrubVisit_memoryOk (addr symbols : Nat) (s : State) (hs : s.memoryOk = true) :
    ∃ t, execScrubVisit addr symbols s = .next t ∧ t.memoryOk = true := ⟨_, rfl, by simp (maxDischargeDepth := 40) [hs]⟩
theorem execSupervisionTrip_memoryOk (i : Nat) (s : State) (hs : s.memoryOk = true) :
    ∃ t, execSupervisionTrip i s = .next t ∧ t.memoryOk = true := ⟨_, rfl, by simp (maxDischargeDepth := 40) [hs]⟩
theorem execStall_memoryOk (g : Nat) (s : State) (hs : s.memoryOk = true) :
    ∃ t, execStall g s = .next t ∧ t.memoryOk = true := ⟨_, rfl, by simp (maxDischargeDepth := 40) [hs]⟩
theorem execSetLoadComplete_memoryOk (i : Nat) (s : State) (hs : s.memoryOk = true) :
    ∃ t, execSetLoadComplete i s = .next t ∧ t.memoryOk = true := ⟨_, rfl, by simp (maxDischargeDepth := 40) [hs]⟩
theorem execTtLoadComplete_memoryOk (s : State) (hs : s.memoryOk = true) :
    ∃ t, execTtLoadComplete s = .next t ∧ t.memoryOk = true := ⟨_, rfl, by simp (maxDischargeDepth := 40) [hs]⟩
theorem execSwap_memoryOk (s : State) (hs : s.memoryOk = true) :
    ∃ t, execSwap s = .next t ∧ t.memoryOk = true := ⟨_, rfl, by simp (maxDischargeDepth := 40) [hs]⟩

end Sys2Proof.Machine
end

