-- ==== Sys2Proof/Laws/Reading.lean ====
section
/-! SUPPORT. What is read from a memory after a store: the bytes stored, and everywhere else what was there. -/

namespace Sys2Proof.Machine

@[simp] theorem Mem.byte_setByte (m : Mem) (a x : Nat) (b : Byte) : (m.setByte a b).byte x = if x = a then b else m.byte x := by
  simp [Mem.setByte, Mem.byte]

theorem nthD_eq_getD {α : Type} (d : α) (l : List α) (k : Nat) : nthD d l k = l.getD k d := by
  induction l generalizing k with
  | nil => simp [nthD]
  | cons a r ih => cases k with
    | zero => simp [nthD]
    | succ n => simp [nthD, ih]

/-- Bytes stored in a row. -/
theorem Mem.byte_setBytes (m : Mem) (a x : Nat) (bs : List Byte) :
    (m.setBytes a bs).byte x = if a ≤ x ∧ x < a + bs.length then nthD 0 bs (x - a) else m.byte x := by
  induction bs generalizing m a with
  | nil =>
    simp [Mem.setBytes]
  | cons b r ih =>
    simp only [Mem.setBytes, ih, Mem.byte_setByte, List.length_cons]
    by_cases h0 : x = a
    · subst h0
      rw [if_neg (by omega), if_pos rfl, if_pos (by omega)]; simp [nthD]
    · by_cases h : a + 1 ≤ x ∧ x < a + 1 + r.length
      · rw [if_pos h, if_pos (by omega)]
        obtain ⟨n, hn⟩ : ∃ n, x - a = n + 1 := ⟨x - a - 1, by omega⟩
        rw [hn, show x - (a + 1) = n by omega]; rfl
      · rw [if_neg h, if_neg h0, if_neg (by omega)]

theorem Mem.byte_setBytes_out (m : Mem) (a x : Nat) (bs : List Byte) (h : x < a ∨ a + bs.length ≤ x) :
    (m.setBytes a bs).byte x = m.byte x := by rw [Mem.byte_setBytes, if_neg (by omega)]

/-- What was stored is read back. -/
theorem Mem.bytes_setBytes (m : Mem) (a : Nat) (bs : List Byte) : (m.setBytes a bs).bytes a bs.length = bs := by
  have key : ∀ (n k : Nat), k + n = bs.length → (m.setBytes a bs).bytes (a + k) n = bs.drop k := by
    intro n
    induction n with
    | zero => intro k hk; simp [Mem.bytes]; omega
    | succ n ih =>
      intro k hk
      have hlt : k < bs.length := by omega
      rw [Mem.bytes, Mem.byte_setBytes, if_pos (by omega), show a + k - a = k by omega,
        show a + k + 1 = a + (k + 1) by omega, ih (k + 1) (by omega), nthD_eq_getD]
      rw [List.drop_eq_getElem_cons hlt]
      simp [hlt]
  have h := key bs.length 0 (by omega)
  simpa using h

theorem bytesLE_length (n v : Nat) : (bytesLE n v).length = n := by
  induction n generalizing v with
  | zero => rfl
  | succ n ih => simp [bytesLE, ih]

end Sys2Proof.Machine
end

