-- ==== Sys2Proof/Laws/State.lean ====
section
/-! SUPPORT. One lemma for each field of the state and each of its updates, all true by definition, and what is read after a
write. -/

namespace Sys2Proof.Machine

@[simp] theorem State.setCfg_tt (s : State) (off : Nat) (w : Word) :
    (State.setCfg s off w).tt = s.tt := rfl
@[simp] theorem State.setCfg_faults (s : State) (off : Nat) (w : Word) :
    (State.setCfg s off w).faults = s.faults := rfl
@[simp] theorem State.setCfg_time (s : State) (off : Nat) (w : Word) :
    (State.setCfg s off w).time = s.time := rfl
@[simp] theorem State.setCfg_plant (s : State) (off : Nat) (w : Word) :
    (State.setCfg s off w).plant = s.plant := rfl
@[simp] theorem State.setCfg_axes (s : State) (off : Nat) (w : Word) :
    (State.setCfg s off w).axes = s.axes := rfl
@[simp] theorem State.setCfg_gens (s : State) (off : Nat) (w : Word) :
    (State.setCfg s off w).gens = s.gens := rfl
@[simp] theorem State.setCfg_chans (s : State) (off : Nat) (w : Word) :
    (State.setCfg s off w).chans = s.chans := rfl
@[simp] theorem State.setCfg_encs (s : State) (off : Nat) (w : Word) :
    (State.setCfg s off w).encs = s.encs := rfl
@[simp] theorem State.setCfg_sers (s : State) (off : Nat) (w : Word) :
    (State.setCfg s off w).sers = s.sers := rfl
@[simp] theorem State.setCfg_rems (s : State) (off : Nat) (w : Word) :
    (State.setCfg s off w).rems = s.rems := rfl
@[simp] theorem State.setCfg_rings (s : State) (off : Nat) (w : Word) :
    (State.setCfg s off w).rings = s.rings := rfl
@[simp] theorem State.setCfg_acq (s : State) (off : Nat) (w : Word) :
    (State.setCfg s off w).acq = s.acq := rfl
@[simp] theorem State.setCfg_units (s : State) (off : Nat) (w : Word) :
    (State.setCfg s off w).units = s.units := rfl
@[simp] theorem State.setCfg_sched (s : State) (off : Nat) (w : Word) :
    (State.setCfg s off w).sched = s.sched := rfl
@[simp] theorem State.setCfg_gov (s : State) (off : Nat) (w : Word) :
    (State.setCfg s off w).gov = s.gov := rfl
@[simp] theorem State.setCfg_rope (s : State) (off : Nat) (w : Word) :
    (State.setCfg s off w).rope = s.rope := rfl
@[simp] theorem State.setCfg_safe (s : State) (off : Nat) (w : Word) :
    (State.setCfg s off w).safe = s.safe := rfl
@[simp] theorem State.setCfg_host (s : State) (off : Nat) (w : Word) :
    (State.setCfg s off w).host = s.host := rfl
@[simp] theorem State.setCfg_perf (s : State) (off : Nat) (w : Word) :
    (State.setCfg s off w).perf = s.perf := rfl
@[simp] theorem State.setCfg_store (s : State) (off : Nat) (w : Word) :
    (State.setCfg s off w).store = s.store := rfl
@[simp] theorem State.setCfg_mem (s : State) (off : Nat) (w : Word) :
    (State.setCfg s off w).mem = s.mem := rfl
@[simp] theorem State.setCfg_bad (s : State) (off : Nat) (w : Word) :
    (State.setCfg s off w).bad = s.bad := rfl
@[simp] theorem State.setCfg_badSeen (s : State) (off : Nat) (w : Word) :
    (State.setCfg s off w).badSeen = s.badSeen := rfl
@[simp] theorem State.setCfg_wrong (s : State) (off : Nat) (w : Word) :
    (State.setCfg s off w).wrong = s.wrong := rfl
@[simp] theorem State.setCfg_freeCtr (s : State) (off : Nat) (w : Word) :
    (State.setCfg s off w).freeCtr = s.freeCtr := rfl

@[simp] theorem State.setStg_tt (s : State) (off : Nat) (w : Word) :
    (State.setStg s off w).tt = s.tt := rfl
@[simp] theorem State.setStg_faults (s : State) (off : Nat) (w : Word) :
    (State.setStg s off w).faults = s.faults := rfl
@[simp] theorem State.setStg_time (s : State) (off : Nat) (w : Word) :
    (State.setStg s off w).time = s.time := rfl
@[simp] theorem State.setStg_plant (s : State) (off : Nat) (w : Word) :
    (State.setStg s off w).plant = s.plant := rfl
@[simp] theorem State.setStg_axes (s : State) (off : Nat) (w : Word) :
    (State.setStg s off w).axes = s.axes := rfl
@[simp] theorem State.setStg_gens (s : State) (off : Nat) (w : Word) :
    (State.setStg s off w).gens = s.gens := rfl
@[simp] theorem State.setStg_chans (s : State) (off : Nat) (w : Word) :
    (State.setStg s off w).chans = s.chans := rfl
@[simp] theorem State.setStg_encs (s : State) (off : Nat) (w : Word) :
    (State.setStg s off w).encs = s.encs := rfl
@[simp] theorem State.setStg_sers (s : State) (off : Nat) (w : Word) :
    (State.setStg s off w).sers = s.sers := rfl
@[simp] theorem State.setStg_rems (s : State) (off : Nat) (w : Word) :
    (State.setStg s off w).rems = s.rems := rfl
@[simp] theorem State.setStg_rings (s : State) (off : Nat) (w : Word) :
    (State.setStg s off w).rings = s.rings := rfl
@[simp] theorem State.setStg_acq (s : State) (off : Nat) (w : Word) :
    (State.setStg s off w).acq = s.acq := rfl
@[simp] theorem State.setStg_units (s : State) (off : Nat) (w : Word) :
    (State.setStg s off w).units = s.units := rfl
@[simp] theorem State.setStg_sched (s : State) (off : Nat) (w : Word) :
    (State.setStg s off w).sched = s.sched := rfl
@[simp] theorem State.setStg_gov (s : State) (off : Nat) (w : Word) :
    (State.setStg s off w).gov = s.gov := rfl
@[simp] theorem State.setStg_rope (s : State) (off : Nat) (w : Word) :
    (State.setStg s off w).rope = s.rope := rfl
@[simp] theorem State.setStg_safe (s : State) (off : Nat) (w : Word) :
    (State.setStg s off w).safe = s.safe := rfl
@[simp] theorem State.setStg_host (s : State) (off : Nat) (w : Word) :
    (State.setStg s off w).host = s.host := rfl
@[simp] theorem State.setStg_perf (s : State) (off : Nat) (w : Word) :
    (State.setStg s off w).perf = s.perf := rfl
@[simp] theorem State.setStg_store (s : State) (off : Nat) (w : Word) :
    (State.setStg s off w).store = s.store := rfl
@[simp] theorem State.setStg_mem (s : State) (off : Nat) (w : Word) :
    (State.setStg s off w).mem = s.mem := rfl
@[simp] theorem State.setStg_bad (s : State) (off : Nat) (w : Word) :
    (State.setStg s off w).bad = s.bad := rfl
@[simp] theorem State.setStg_badSeen (s : State) (off : Nat) (w : Word) :
    (State.setStg s off w).badSeen = s.badSeen := rfl
@[simp] theorem State.setStg_wrong (s : State) (off : Nat) (w : Word) :
    (State.setStg s off w).wrong = s.wrong := rfl
@[simp] theorem State.setStg_freeCtr (s : State) (off : Nat) (w : Word) :
    (State.setStg s off w).freeCtr = s.freeCtr := rfl

@[simp] theorem State.setAxis_regs (s : State) (i : Nat) (a : Axis) :
    (State.setAxis s i a).regs = s.regs := rfl
@[simp] theorem State.setAxis_tt (s : State) (i : Nat) (a : Axis) :
    (State.setAxis s i a).tt = s.tt := rfl
@[simp] theorem State.setAxis_faults (s : State) (i : Nat) (a : Axis) :
    (State.setAxis s i a).faults = s.faults := rfl
@[simp] theorem State.setAxis_time (s : State) (i : Nat) (a : Axis) :
    (State.setAxis s i a).time = s.time := rfl
@[simp] theorem State.setAxis_plant (s : State) (i : Nat) (a : Axis) :
    (State.setAxis s i a).plant = s.plant := rfl
@[simp] theorem State.setAxis_gens (s : State) (i : Nat) (a : Axis) :
    (State.setAxis s i a).gens = s.gens := rfl
@[simp] theorem State.setAxis_chans (s : State) (i : Nat) (a : Axis) :
    (State.setAxis s i a).chans = s.chans := rfl
@[simp] theorem State.setAxis_encs (s : State) (i : Nat) (a : Axis) :
    (State.setAxis s i a).encs = s.encs := rfl
@[simp] theorem State.setAxis_sers (s : State) (i : Nat) (a : Axis) :
    (State.setAxis s i a).sers = s.sers := rfl
@[simp] theorem State.setAxis_rems (s : State) (i : Nat) (a : Axis) :
    (State.setAxis s i a).rems = s.rems := rfl
@[simp] theorem State.setAxis_rings (s : State) (i : Nat) (a : Axis) :
    (State.setAxis s i a).rings = s.rings := rfl
@[simp] theorem State.setAxis_acq (s : State) (i : Nat) (a : Axis) :
    (State.setAxis s i a).acq = s.acq := rfl
@[simp] theorem State.setAxis_units (s : State) (i : Nat) (a : Axis) :
    (State.setAxis s i a).units = s.units := rfl
@[simp] theorem State.setAxis_sched (s : State) (i : Nat) (a : Axis) :
    (State.setAxis s i a).sched = s.sched := rfl
@[simp] theorem State.setAxis_gov (s : State) (i : Nat) (a : Axis) :
    (State.setAxis s i a).gov = s.gov := rfl
@[simp] theorem State.setAxis_rope (s : State) (i : Nat) (a : Axis) :
    (State.setAxis s i a).rope = s.rope := rfl
@[simp] theorem State.setAxis_safe (s : State) (i : Nat) (a : Axis) :
    (State.setAxis s i a).safe = s.safe := rfl
@[simp] theorem State.setAxis_host (s : State) (i : Nat) (a : Axis) :
    (State.setAxis s i a).host = s.host := rfl
@[simp] theorem State.setAxis_perf (s : State) (i : Nat) (a : Axis) :
    (State.setAxis s i a).perf = s.perf := rfl
@[simp] theorem State.setAxis_store (s : State) (i : Nat) (a : Axis) :
    (State.setAxis s i a).store = s.store := rfl
@[simp] theorem State.setAxis_mem (s : State) (i : Nat) (a : Axis) :
    (State.setAxis s i a).mem = s.mem := rfl
@[simp] theorem State.setAxis_bad (s : State) (i : Nat) (a : Axis) :
    (State.setAxis s i a).bad = s.bad := rfl
@[simp] theorem State.setAxis_badSeen (s : State) (i : Nat) (a : Axis) :
    (State.setAxis s i a).badSeen = s.badSeen := rfl
@[simp] theorem State.setAxis_wrong (s : State) (i : Nat) (a : Axis) :
    (State.setAxis s i a).wrong = s.wrong := rfl
@[simp] theorem State.setAxis_freeCtr (s : State) (i : Nat) (a : Axis) :
    (State.setAxis s i a).freeCtr = s.freeCtr := rfl

@[simp] theorem State.setGen_regs (s : State) (g : Nat) (x : Gen) :
    (State.setGen s g x).regs = s.regs := rfl
@[simp] theorem State.setGen_tt (s : State) (g : Nat) (x : Gen) :
    (State.setGen s g x).tt = s.tt := rfl
@[simp] theorem State.setGen_faults (s : State) (g : Nat) (x : Gen) :
    (State.setGen s g x).faults = s.faults := rfl
@[simp] theorem State.setGen_time (s : State) (g : Nat) (x : Gen) :
    (State.setGen s g x).time = s.time := rfl
@[simp] theorem State.setGen_plant (s : State) (g : Nat) (x : Gen) :
    (State.setGen s g x).plant = s.plant := rfl
@[simp] theorem State.setGen_axes (s : State) (g : Nat) (x : Gen) :
    (State.setGen s g x).axes = s.axes := rfl
@[simp] theorem State.setGen_chans (s : State) (g : Nat) (x : Gen) :
    (State.setGen s g x).chans = s.chans := rfl
@[simp] theorem State.setGen_encs (s : State) (g : Nat) (x : Gen) :
    (State.setGen s g x).encs = s.encs := rfl
@[simp] theorem State.setGen_sers (s : State) (g : Nat) (x : Gen) :
    (State.setGen s g x).sers = s.sers := rfl
@[simp] theorem State.setGen_rems (s : State) (g : Nat) (x : Gen) :
    (State.setGen s g x).rems = s.rems := rfl
@[simp] theorem State.setGen_rings (s : State) (g : Nat) (x : Gen) :
    (State.setGen s g x).rings = s.rings := rfl
@[simp] theorem State.setGen_acq (s : State) (g : Nat) (x : Gen) :
    (State.setGen s g x).acq = s.acq := rfl
@[simp] theorem State.setGen_units (s : State) (g : Nat) (x : Gen) :
    (State.setGen s g x).units = s.units := rfl
@[simp] theorem State.setGen_sched (s : State) (g : Nat) (x : Gen) :
    (State.setGen s g x).sched = s.sched := rfl
@[simp] theorem State.setGen_gov (s : State) (g : Nat) (x : Gen) :
    (State.setGen s g x).gov = s.gov := rfl
@[simp] theorem State.setGen_rope (s : State) (g : Nat) (x : Gen) :
    (State.setGen s g x).rope = s.rope := rfl
@[simp] theorem State.setGen_safe (s : State) (g : Nat) (x : Gen) :
    (State.setGen s g x).safe = s.safe := rfl
@[simp] theorem State.setGen_host (s : State) (g : Nat) (x : Gen) :
    (State.setGen s g x).host = s.host := rfl
@[simp] theorem State.setGen_perf (s : State) (g : Nat) (x : Gen) :
    (State.setGen s g x).perf = s.perf := rfl
@[simp] theorem State.setGen_store (s : State) (g : Nat) (x : Gen) :
    (State.setGen s g x).store = s.store := rfl
@[simp] theorem State.setGen_mem (s : State) (g : Nat) (x : Gen) :
    (State.setGen s g x).mem = s.mem := rfl
@[simp] theorem State.setGen_bad (s : State) (g : Nat) (x : Gen) :
    (State.setGen s g x).bad = s.bad := rfl
@[simp] theorem State.setGen_badSeen (s : State) (g : Nat) (x : Gen) :
    (State.setGen s g x).badSeen = s.badSeen := rfl
@[simp] theorem State.setGen_wrong (s : State) (g : Nat) (x : Gen) :
    (State.setGen s g x).wrong = s.wrong := rfl
@[simp] theorem State.setGen_freeCtr (s : State) (g : Nat) (x : Gen) :
    (State.setGen s g x).freeCtr = s.freeCtr := rfl

@[simp] theorem State.setChan_regs (s : State) (c : Nat) (x : StepChan) :
    (State.setChan s c x).regs = s.regs := rfl
@[simp] theorem State.setChan_tt (s : State) (c : Nat) (x : StepChan) :
    (State.setChan s c x).tt = s.tt := rfl
@[simp] theorem State.setChan_faults (s : State) (c : Nat) (x : StepChan) :
    (State.setChan s c x).faults = s.faults := rfl
@[simp] theorem State.setChan_time (s : State) (c : Nat) (x : StepChan) :
    (State.setChan s c x).time = s.time := rfl
@[simp] theorem State.setChan_plant (s : State) (c : Nat) (x : StepChan) :
    (State.setChan s c x).plant = s.plant := rfl
@[simp] theorem State.setChan_axes (s : State) (c : Nat) (x : StepChan) :
    (State.setChan s c x).axes = s.axes := rfl
@[simp] theorem State.setChan_gens (s : State) (c : Nat) (x : StepChan) :
    (State.setChan s c x).gens = s.gens := rfl
@[simp] theorem State.setChan_encs (s : State) (c : Nat) (x : StepChan) :
    (State.setChan s c x).encs = s.encs := rfl
@[simp] theorem State.setChan_sers (s : State) (c : Nat) (x : StepChan) :
    (State.setChan s c x).sers = s.sers := rfl
@[simp] theorem State.setChan_rems (s : State) (c : Nat) (x : StepChan) :
    (State.setChan s c x).rems = s.rems := rfl
@[simp] theorem State.setChan_rings (s : State) (c : Nat) (x : StepChan) :
    (State.setChan s c x).rings = s.rings := rfl
@[simp] theorem State.setChan_acq (s : State) (c : Nat) (x : StepChan) :
    (State.setChan s c x).acq = s.acq := rfl
@[simp] theorem State.setChan_units (s : State) (c : Nat) (x : StepChan) :
    (State.setChan s c x).units = s.units := rfl
@[simp] theorem State.setChan_sched (s : State) (c : Nat) (x : StepChan) :
    (State.setChan s c x).sched = s.sched := rfl
@[simp] theorem State.setChan_gov (s : State) (c : Nat) (x : StepChan) :
    (State.setChan s c x).gov = s.gov := rfl
@[simp] theorem State.setChan_rope (s : State) (c : Nat) (x : StepChan) :
    (State.setChan s c x).rope = s.rope := rfl
@[simp] theorem State.setChan_safe (s : State) (c : Nat) (x : StepChan) :
    (State.setChan s c x).safe = s.safe := rfl
@[simp] theorem State.setChan_host (s : State) (c : Nat) (x : StepChan) :
    (State.setChan s c x).host = s.host := rfl
@[simp] theorem State.setChan_perf (s : State) (c : Nat) (x : StepChan) :
    (State.setChan s c x).perf = s.perf := rfl
@[simp] theorem State.setChan_store (s : State) (c : Nat) (x : StepChan) :
    (State.setChan s c x).store = s.store := rfl
@[simp] theorem State.setChan_mem (s : State) (c : Nat) (x : StepChan) :
    (State.setChan s c x).mem = s.mem := rfl
@[simp] theorem State.setChan_bad (s : State) (c : Nat) (x : StepChan) :
    (State.setChan s c x).bad = s.bad := rfl
@[simp] theorem State.setChan_badSeen (s : State) (c : Nat) (x : StepChan) :
    (State.setChan s c x).badSeen = s.badSeen := rfl
@[simp] theorem State.setChan_wrong (s : State) (c : Nat) (x : StepChan) :
    (State.setChan s c x).wrong = s.wrong := rfl
@[simp] theorem State.setChan_freeCtr (s : State) (c : Nat) (x : StepChan) :
    (State.setChan s c x).freeCtr = s.freeCtr := rfl

@[simp] theorem State.setEnc_regs (s : State) (c : Nat) (x : Enc) :
    (State.setEnc s c x).regs = s.regs := rfl
@[simp] theorem State.setEnc_tt (s : State) (c : Nat) (x : Enc) :
    (State.setEnc s c x).tt = s.tt := rfl
@[simp] theorem State.setEnc_faults (s : State) (c : Nat) (x : Enc) :
    (State.setEnc s c x).faults = s.faults := rfl
@[simp] theorem State.setEnc_time (s : State) (c : Nat) (x : Enc) :
    (State.setEnc s c x).time = s.time := rfl
@[simp] theorem State.setEnc_plant (s : State) (c : Nat) (x : Enc) :
    (State.setEnc s c x).plant = s.plant := rfl
@[simp] theorem State.setEnc_axes (s : State) (c : Nat) (x : Enc) :
    (State.setEnc s c x).axes = s.axes := rfl
@[simp] theorem State.setEnc_gens (s : State) (c : Nat) (x : Enc) :
    (State.setEnc s c x).gens = s.gens := rfl
@[simp] theorem State.setEnc_chans (s : State) (c : Nat) (x : Enc) :
    (State.setEnc s c x).chans = s.chans := rfl
@[simp] theorem State.setEnc_sers (s : State) (c : Nat) (x : Enc) :
    (State.setEnc s c x).sers = s.sers := rfl
@[simp] theorem State.setEnc_rems (s : State) (c : Nat) (x : Enc) :
    (State.setEnc s c x).rems = s.rems := rfl
@[simp] theorem State.setEnc_rings (s : State) (c : Nat) (x : Enc) :
    (State.setEnc s c x).rings = s.rings := rfl
@[simp] theorem State.setEnc_acq (s : State) (c : Nat) (x : Enc) :
    (State.setEnc s c x).acq = s.acq := rfl
@[simp] theorem State.setEnc_units (s : State) (c : Nat) (x : Enc) :
    (State.setEnc s c x).units = s.units := rfl
@[simp] theorem State.setEnc_sched (s : State) (c : Nat) (x : Enc) :
    (State.setEnc s c x).sched = s.sched := rfl
@[simp] theorem State.setEnc_gov (s : State) (c : Nat) (x : Enc) :
    (State.setEnc s c x).gov = s.gov := rfl
@[simp] theorem State.setEnc_rope (s : State) (c : Nat) (x : Enc) :
    (State.setEnc s c x).rope = s.rope := rfl
@[simp] theorem State.setEnc_safe (s : State) (c : Nat) (x : Enc) :
    (State.setEnc s c x).safe = s.safe := rfl
@[simp] theorem State.setEnc_host (s : State) (c : Nat) (x : Enc) :
    (State.setEnc s c x).host = s.host := rfl
@[simp] theorem State.setEnc_perf (s : State) (c : Nat) (x : Enc) :
    (State.setEnc s c x).perf = s.perf := rfl
@[simp] theorem State.setEnc_store (s : State) (c : Nat) (x : Enc) :
    (State.setEnc s c x).store = s.store := rfl
@[simp] theorem State.setEnc_mem (s : State) (c : Nat) (x : Enc) :
    (State.setEnc s c x).mem = s.mem := rfl
@[simp] theorem State.setEnc_bad (s : State) (c : Nat) (x : Enc) :
    (State.setEnc s c x).bad = s.bad := rfl
@[simp] theorem State.setEnc_badSeen (s : State) (c : Nat) (x : Enc) :
    (State.setEnc s c x).badSeen = s.badSeen := rfl
@[simp] theorem State.setEnc_wrong (s : State) (c : Nat) (x : Enc) :
    (State.setEnc s c x).wrong = s.wrong := rfl
@[simp] theorem State.setEnc_freeCtr (s : State) (c : Nat) (x : Enc) :
    (State.setEnc s c x).freeCtr = s.freeCtr := rfl

@[simp] theorem State.setSer_regs (s : State) (c : Nat) (x : Ser) :
    (State.setSer s c x).regs = s.regs := rfl
@[simp] theorem State.setSer_tt (s : State) (c : Nat) (x : Ser) :
    (State.setSer s c x).tt = s.tt := rfl
@[simp] theorem State.setSer_faults (s : State) (c : Nat) (x : Ser) :
    (State.setSer s c x).faults = s.faults := rfl
@[simp] theorem State.setSer_time (s : State) (c : Nat) (x : Ser) :
    (State.setSer s c x).time = s.time := rfl
@[simp] theorem State.setSer_plant (s : State) (c : Nat) (x : Ser) :
    (State.setSer s c x).plant = s.plant := rfl
@[simp] theorem State.setSer_axes (s : State) (c : Nat) (x : Ser) :
    (State.setSer s c x).axes = s.axes := rfl
@[simp] theorem State.setSer_gens (s : State) (c : Nat) (x : Ser) :
    (State.setSer s c x).gens = s.gens := rfl
@[simp] theorem State.setSer_chans (s : State) (c : Nat) (x : Ser) :
    (State.setSer s c x).chans = s.chans := rfl
@[simp] theorem State.setSer_encs (s : State) (c : Nat) (x : Ser) :
    (State.setSer s c x).encs = s.encs := rfl
@[simp] theorem State.setSer_rems (s : State) (c : Nat) (x : Ser) :
    (State.setSer s c x).rems = s.rems := rfl
@[simp] theorem State.setSer_rings (s : State) (c : Nat) (x : Ser) :
    (State.setSer s c x).rings = s.rings := rfl
@[simp] theorem State.setSer_acq (s : State) (c : Nat) (x : Ser) :
    (State.setSer s c x).acq = s.acq := rfl
@[simp] theorem State.setSer_units (s : State) (c : Nat) (x : Ser) :
    (State.setSer s c x).units = s.units := rfl
@[simp] theorem State.setSer_sched (s : State) (c : Nat) (x : Ser) :
    (State.setSer s c x).sched = s.sched := rfl
@[simp] theorem State.setSer_gov (s : State) (c : Nat) (x : Ser) :
    (State.setSer s c x).gov = s.gov := rfl
@[simp] theorem State.setSer_rope (s : State) (c : Nat) (x : Ser) :
    (State.setSer s c x).rope = s.rope := rfl
@[simp] theorem State.setSer_safe (s : State) (c : Nat) (x : Ser) :
    (State.setSer s c x).safe = s.safe := rfl
@[simp] theorem State.setSer_host (s : State) (c : Nat) (x : Ser) :
    (State.setSer s c x).host = s.host := rfl
@[simp] theorem State.setSer_perf (s : State) (c : Nat) (x : Ser) :
    (State.setSer s c x).perf = s.perf := rfl
@[simp] theorem State.setSer_store (s : State) (c : Nat) (x : Ser) :
    (State.setSer s c x).store = s.store := rfl
@[simp] theorem State.setSer_mem (s : State) (c : Nat) (x : Ser) :
    (State.setSer s c x).mem = s.mem := rfl
@[simp] theorem State.setSer_bad (s : State) (c : Nat) (x : Ser) :
    (State.setSer s c x).bad = s.bad := rfl
@[simp] theorem State.setSer_badSeen (s : State) (c : Nat) (x : Ser) :
    (State.setSer s c x).badSeen = s.badSeen := rfl
@[simp] theorem State.setSer_wrong (s : State) (c : Nat) (x : Ser) :
    (State.setSer s c x).wrong = s.wrong := rfl
@[simp] theorem State.setSer_freeCtr (s : State) (c : Nat) (x : Ser) :
    (State.setSer s c x).freeCtr = s.freeCtr := rfl

@[simp] theorem State.setRem_regs (s : State) (c : Nat) (x : Rem) :
    (State.setRem s c x).regs = s.regs := rfl
@[simp] theorem State.setRem_tt (s : State) (c : Nat) (x : Rem) :
    (State.setRem s c x).tt = s.tt := rfl
@[simp] theorem State.setRem_faults (s : State) (c : Nat) (x : Rem) :
    (State.setRem s c x).faults = s.faults := rfl
@[simp] theorem State.setRem_time (s : State) (c : Nat) (x : Rem) :
    (State.setRem s c x).time = s.time := rfl
@[simp] theorem State.setRem_plant (s : State) (c : Nat) (x : Rem) :
    (State.setRem s c x).plant = s.plant := rfl
@[simp] theorem State.setRem_axes (s : State) (c : Nat) (x : Rem) :
    (State.setRem s c x).axes = s.axes := rfl
@[simp] theorem State.setRem_gens (s : State) (c : Nat) (x : Rem) :
    (State.setRem s c x).gens = s.gens := rfl
@[simp] theorem State.setRem_chans (s : State) (c : Nat) (x : Rem) :
    (State.setRem s c x).chans = s.chans := rfl
@[simp] theorem State.setRem_encs (s : State) (c : Nat) (x : Rem) :
    (State.setRem s c x).encs = s.encs := rfl
@[simp] theorem State.setRem_sers (s : State) (c : Nat) (x : Rem) :
    (State.setRem s c x).sers = s.sers := rfl
@[simp] theorem State.setRem_rings (s : State) (c : Nat) (x : Rem) :
    (State.setRem s c x).rings = s.rings := rfl
@[simp] theorem State.setRem_acq (s : State) (c : Nat) (x : Rem) :
    (State.setRem s c x).acq = s.acq := rfl
@[simp] theorem State.setRem_units (s : State) (c : Nat) (x : Rem) :
    (State.setRem s c x).units = s.units := rfl
@[simp] theorem State.setRem_sched (s : State) (c : Nat) (x : Rem) :
    (State.setRem s c x).sched = s.sched := rfl
@[simp] theorem State.setRem_gov (s : State) (c : Nat) (x : Rem) :
    (State.setRem s c x).gov = s.gov := rfl
@[simp] theorem State.setRem_rope (s : State) (c : Nat) (x : Rem) :
    (State.setRem s c x).rope = s.rope := rfl
@[simp] theorem State.setRem_safe (s : State) (c : Nat) (x : Rem) :
    (State.setRem s c x).safe = s.safe := rfl
@[simp] theorem State.setRem_host (s : State) (c : Nat) (x : Rem) :
    (State.setRem s c x).host = s.host := rfl
@[simp] theorem State.setRem_perf (s : State) (c : Nat) (x : Rem) :
    (State.setRem s c x).perf = s.perf := rfl
@[simp] theorem State.setRem_store (s : State) (c : Nat) (x : Rem) :
    (State.setRem s c x).store = s.store := rfl
@[simp] theorem State.setRem_mem (s : State) (c : Nat) (x : Rem) :
    (State.setRem s c x).mem = s.mem := rfl
@[simp] theorem State.setRem_bad (s : State) (c : Nat) (x : Rem) :
    (State.setRem s c x).bad = s.bad := rfl
@[simp] theorem State.setRem_badSeen (s : State) (c : Nat) (x : Rem) :
    (State.setRem s c x).badSeen = s.badSeen := rfl
@[simp] theorem State.setRem_wrong (s : State) (c : Nat) (x : Rem) :
    (State.setRem s c x).wrong = s.wrong := rfl
@[simp] theorem State.setRem_freeCtr (s : State) (c : Nat) (x : Rem) :
    (State.setRem s c x).freeCtr = s.freeCtr := rfl

@[simp] theorem State.setDescState_regs (s : State) (d st : Nat) :
    (State.setDescState s d st).regs = s.regs := rfl
@[simp] theorem State.setDescState_tt (s : State) (d st : Nat) :
    (State.setDescState s d st).tt = s.tt := rfl
@[simp] theorem State.setDescState_faults (s : State) (d st : Nat) :
    (State.setDescState s d st).faults = s.faults := rfl
@[simp] theorem State.setDescState_time (s : State) (d st : Nat) :
    (State.setDescState s d st).time = s.time := rfl
@[simp] theorem State.setDescState_plant (s : State) (d st : Nat) :
    (State.setDescState s d st).plant = s.plant := rfl
@[simp] theorem State.setDescState_axes (s : State) (d st : Nat) :
    (State.setDescState s d st).axes = s.axes := rfl
@[simp] theorem State.setDescState_gens (s : State) (d st : Nat) :
    (State.setDescState s d st).gens = s.gens := rfl
@[simp] theorem State.setDescState_chans (s : State) (d st : Nat) :
    (State.setDescState s d st).chans = s.chans := rfl
@[simp] theorem State.setDescState_encs (s : State) (d st : Nat) :
    (State.setDescState s d st).encs = s.encs := rfl
@[simp] theorem State.setDescState_sers (s : State) (d st : Nat) :
    (State.setDescState s d st).sers = s.sers := rfl
@[simp] theorem State.setDescState_rems (s : State) (d st : Nat) :
    (State.setDescState s d st).rems = s.rems := rfl
@[simp] theorem State.setDescState_rings (s : State) (d st : Nat) :
    (State.setDescState s d st).rings = s.rings := rfl
@[simp] theorem State.setDescState_acq (s : State) (d st : Nat) :
    (State.setDescState s d st).acq = s.acq := rfl
@[simp] theorem State.setDescState_units (s : State) (d st : Nat) :
    (State.setDescState s d st).units = s.units := rfl
@[simp] theorem State.setDescState_sched (s : State) (d st : Nat) :
    (State.setDescState s d st).sched = s.sched := rfl
@[simp] theorem State.setDescState_gov (s : State) (d st : Nat) :
    (State.setDescState s d st).gov = s.gov := rfl
@[simp] theorem State.setDescState_rope (s : State) (d st : Nat) :
    (State.setDescState s d st).rope = s.rope := rfl
@[simp] theorem State.setDescState_safe (s : State) (d st : Nat) :
    (State.setDescState s d st).safe = s.safe := rfl
@[simp] theorem State.setDescState_host (s : State) (d st : Nat) :
    (State.setDescState s d st).host = s.host := rfl
@[simp] theorem State.setDescState_perf (s : State) (d st : Nat) :
    (State.setDescState s d st).perf = s.perf := rfl
@[simp] theorem State.setDescState_store (s : State) (d st : Nat) :
    (State.setDescState s d st).store = s.store := rfl
@[simp] theorem State.setDescState_freeCtr (s : State) (d st : Nat) :
    (State.setDescState s d st).freeCtr = s.freeCtr := rfl

@[simp] theorem State.setCore_regs (s : State) (c : Nat) (x : Core) :
    (State.setCore s c x).regs = s.regs := rfl
@[simp] theorem State.setCore_tt (s : State) (c : Nat) (x : Core) :
    (State.setCore s c x).tt = s.tt := rfl
@[simp] theorem State.setCore_faults (s : State) (c : Nat) (x : Core) :
    (State.setCore s c x).faults = s.faults := rfl
@[simp] theorem State.setCore_time (s : State) (c : Nat) (x : Core) :
    (State.setCore s c x).time = s.time := rfl
@[simp] theorem State.setCore_plant (s : State) (c : Nat) (x : Core) :
    (State.setCore s c x).plant = s.plant := rfl
@[simp] theorem State.setCore_axes (s : State) (c : Nat) (x : Core) :
    (State.setCore s c x).axes = s.axes := rfl
@[simp] theorem State.setCore_gens (s : State) (c : Nat) (x : Core) :
    (State.setCore s c x).gens = s.gens := rfl
@[simp] theorem State.setCore_chans (s : State) (c : Nat) (x : Core) :
    (State.setCore s c x).chans = s.chans := rfl
@[simp] theorem State.setCore_encs (s : State) (c : Nat) (x : Core) :
    (State.setCore s c x).encs = s.encs := rfl
@[simp] theorem State.setCore_sers (s : State) (c : Nat) (x : Core) :
    (State.setCore s c x).sers = s.sers := rfl
@[simp] theorem State.setCore_rems (s : State) (c : Nat) (x : Core) :
    (State.setCore s c x).rems = s.rems := rfl
@[simp] theorem State.setCore_rings (s : State) (c : Nat) (x : Core) :
    (State.setCore s c x).rings = s.rings := rfl
@[simp] theorem State.setCore_acq (s : State) (c : Nat) (x : Core) :
    (State.setCore s c x).acq = s.acq := rfl
@[simp] theorem State.setCore_units (s : State) (c : Nat) (x : Core) :
    (State.setCore s c x).units = s.units := rfl
@[simp] theorem State.setCore_gov (s : State) (c : Nat) (x : Core) :
    (State.setCore s c x).gov = s.gov := rfl
@[simp] theorem State.setCore_rope (s : State) (c : Nat) (x : Core) :
    (State.setCore s c x).rope = s.rope := rfl
@[simp] theorem State.setCore_safe (s : State) (c : Nat) (x : Core) :
    (State.setCore s c x).safe = s.safe := rfl
@[simp] theorem State.setCore_host (s : State) (c : Nat) (x : Core) :
    (State.setCore s c x).host = s.host := rfl
@[simp] theorem State.setCore_perf (s : State) (c : Nat) (x : Core) :
    (State.setCore s c x).perf = s.perf := rfl
@[simp] theorem State.setCore_store (s : State) (c : Nat) (x : Core) :
    (State.setCore s c x).store = s.store := rfl
@[simp] theorem State.setCore_mem (s : State) (c : Nat) (x : Core) :
    (State.setCore s c x).mem = s.mem := rfl
@[simp] theorem State.setCore_bad (s : State) (c : Nat) (x : Core) :
    (State.setCore s c x).bad = s.bad := rfl
@[simp] theorem State.setCore_badSeen (s : State) (c : Nat) (x : Core) :
    (State.setCore s c x).badSeen = s.badSeen := rfl
@[simp] theorem State.setCore_wrong (s : State) (c : Nat) (x : Core) :
    (State.setCore s c x).wrong = s.wrong := rfl
@[simp] theorem State.setCore_freeCtr (s : State) (c : Nat) (x : Core) :
    (State.setCore s c x).freeCtr = s.freeCtr := rfl

@[simp] theorem State.setEntry_regs (s : State) (d : Nat) (m : Option Match) :
    (State.setEntry s d m).regs = s.regs := rfl
@[simp] theorem State.setEntry_tt (s : State) (d : Nat) (m : Option Match) :
    (State.setEntry s d m).tt = s.tt := rfl
@[simp] theorem State.setEntry_faults (s : State) (d : Nat) (m : Option Match) :
    (State.setEntry s d m).faults = s.faults := rfl
@[simp] theorem State.setEntry_time (s : State) (d : Nat) (m : Option Match) :
    (State.setEntry s d m).time = s.time := rfl
@[simp] theorem State.setEntry_plant (s : State) (d : Nat) (m : Option Match) :
    (State.setEntry s d m).plant = s.plant := rfl
@[simp] theorem State.setEntry_axes (s : State) (d : Nat) (m : Option Match) :
    (State.setEntry s d m).axes = s.axes := rfl
@[simp] theorem State.setEntry_gens (s : State) (d : Nat) (m : Option Match) :
    (State.setEntry s d m).gens = s.gens := rfl
@[simp] theorem State.setEntry_chans (s : State) (d : Nat) (m : Option Match) :
    (State.setEntry s d m).chans = s.chans := rfl
@[simp] theorem State.setEntry_encs (s : State) (d : Nat) (m : Option Match) :
    (State.setEntry s d m).encs = s.encs := rfl
@[simp] theorem State.setEntry_sers (s : State) (d : Nat) (m : Option Match) :
    (State.setEntry s d m).sers = s.sers := rfl
@[simp] theorem State.setEntry_rems (s : State) (d : Nat) (m : Option Match) :
    (State.setEntry s d m).rems = s.rems := rfl
@[simp] theorem State.setEntry_rings (s : State) (d : Nat) (m : Option Match) :
    (State.setEntry s d m).rings = s.rings := rfl
@[simp] theorem State.setEntry_acq (s : State) (d : Nat) (m : Option Match) :
    (State.setEntry s d m).acq = s.acq := rfl
@[simp] theorem State.setEntry_units (s : State) (d : Nat) (m : Option Match) :
    (State.setEntry s d m).units = s.units := rfl
@[simp] theorem State.setEntry_gov (s : State) (d : Nat) (m : Option Match) :
    (State.setEntry s d m).gov = s.gov := rfl
@[simp] theorem State.setEntry_rope (s : State) (d : Nat) (m : Option Match) :
    (State.setEntry s d m).rope = s.rope := rfl
@[simp] theorem State.setEntry_safe (s : State) (d : Nat) (m : Option Match) :
    (State.setEntry s d m).safe = s.safe := rfl
@[simp] theorem State.setEntry_host (s : State) (d : Nat) (m : Option Match) :
    (State.setEntry s d m).host = s.host := rfl
@[simp] theorem State.setEntry_perf (s : State) (d : Nat) (m : Option Match) :
    (State.setEntry s d m).perf = s.perf := rfl
@[simp] theorem State.setEntry_store (s : State) (d : Nat) (m : Option Match) :
    (State.setEntry s d m).store = s.store := rfl
@[simp] theorem State.setEntry_mem (s : State) (d : Nat) (m : Option Match) :
    (State.setEntry s d m).mem = s.mem := rfl
@[simp] theorem State.setEntry_bad (s : State) (d : Nat) (m : Option Match) :
    (State.setEntry s d m).bad = s.bad := rfl
@[simp] theorem State.setEntry_badSeen (s : State) (d : Nat) (m : Option Match) :
    (State.setEntry s d m).badSeen = s.badSeen := rfl
@[simp] theorem State.setEntry_wrong (s : State) (d : Nat) (m : Option Match) :
    (State.setEntry s d m).wrong = s.wrong := rfl
@[simp] theorem State.setEntry_freeCtr (s : State) (d : Nat) (m : Option Match) :
    (State.setEntry s d m).freeCtr = s.freeCtr := rfl

@[simp] theorem State.setLux_regs (s : State) (u : Nat) (x : Lux) :
    (State.setLux s u x).regs = s.regs := rfl
@[simp] theorem State.setLux_tt (s : State) (u : Nat) (x : Lux) :
    (State.setLux s u x).tt = s.tt := rfl
@[simp] theorem State.setLux_faults (s : State) (u : Nat) (x : Lux) :
    (State.setLux s u x).faults = s.faults := rfl
@[simp] theorem State.setLux_time (s : State) (u : Nat) (x : Lux) :
    (State.setLux s u x).time = s.time := rfl
@[simp] theorem State.setLux_plant (s : State) (u : Nat) (x : Lux) :
    (State.setLux s u x).plant = s.plant := rfl
@[simp] theorem State.setLux_axes (s : State) (u : Nat) (x : Lux) :
    (State.setLux s u x).axes = s.axes := rfl
@[simp] theorem State.setLux_gens (s : State) (u : Nat) (x : Lux) :
    (State.setLux s u x).gens = s.gens := rfl
@[simp] theorem State.setLux_chans (s : State) (u : Nat) (x : Lux) :
    (State.setLux s u x).chans = s.chans := rfl
@[simp] theorem State.setLux_encs (s : State) (u : Nat) (x : Lux) :
    (State.setLux s u x).encs = s.encs := rfl
@[simp] theorem State.setLux_sers (s : State) (u : Nat) (x : Lux) :
    (State.setLux s u x).sers = s.sers := rfl
@[simp] theorem State.setLux_rems (s : State) (u : Nat) (x : Lux) :
    (State.setLux s u x).rems = s.rems := rfl
@[simp] theorem State.setLux_rings (s : State) (u : Nat) (x : Lux) :
    (State.setLux s u x).rings = s.rings := rfl
@[simp] theorem State.setLux_acq (s : State) (u : Nat) (x : Lux) :
    (State.setLux s u x).acq = s.acq := rfl
@[simp] theorem State.setLux_sched (s : State) (u : Nat) (x : Lux) :
    (State.setLux s u x).sched = s.sched := rfl
@[simp] theorem State.setLux_gov (s : State) (u : Nat) (x : Lux) :
    (State.setLux s u x).gov = s.gov := rfl
@[simp] theorem State.setLux_rope (s : State) (u : Nat) (x : Lux) :
    (State.setLux s u x).rope = s.rope := rfl
@[simp] theorem State.setLux_safe (s : State) (u : Nat) (x : Lux) :
    (State.setLux s u x).safe = s.safe := rfl
@[simp] theorem State.setLux_host (s : State) (u : Nat) (x : Lux) :
    (State.setLux s u x).host = s.host := rfl
@[simp] theorem State.setLux_perf (s : State) (u : Nat) (x : Lux) :
    (State.setLux s u x).perf = s.perf := rfl
@[simp] theorem State.setLux_store (s : State) (u : Nat) (x : Lux) :
    (State.setLux s u x).store = s.store := rfl
@[simp] theorem State.setLux_mem (s : State) (u : Nat) (x : Lux) :
    (State.setLux s u x).mem = s.mem := rfl
@[simp] theorem State.setLux_bad (s : State) (u : Nat) (x : Lux) :
    (State.setLux s u x).bad = s.bad := rfl
@[simp] theorem State.setLux_badSeen (s : State) (u : Nat) (x : Lux) :
    (State.setLux s u x).badSeen = s.badSeen := rfl
@[simp] theorem State.setLux_wrong (s : State) (u : Nat) (x : Lux) :
    (State.setLux s u x).wrong = s.wrong := rfl
@[simp] theorem State.setLux_freeCtr (s : State) (u : Nat) (x : Lux) :
    (State.setLux s u x).freeCtr = s.freeCtr := rfl

@[simp] theorem State.setRing_regs (s : State) (r : Nat) (x : Ring) :
    (State.setRing s r x).regs = s.regs := rfl
@[simp] theorem State.setRing_tt (s : State) (r : Nat) (x : Ring) :
    (State.setRing s r x).tt = s.tt := rfl
@[simp] theorem State.setRing_faults (s : State) (r : Nat) (x : Ring) :
    (State.setRing s r x).faults = s.faults := rfl
@[simp] theorem State.setRing_time (s : State) (r : Nat) (x : Ring) :
    (State.setRing s r x).time = s.time := rfl
@[simp] theorem State.setRing_plant (s : State) (r : Nat) (x : Ring) :
    (State.setRing s r x).plant = s.plant := rfl
@[simp] theorem State.setRing_axes (s : State) (r : Nat) (x : Ring) :
    (State.setRing s r x).axes = s.axes := rfl
@[simp] theorem State.setRing_gens (s : State) (r : Nat) (x : Ring) :
    (State.setRing s r x).gens = s.gens := rfl
@[simp] theorem State.setRing_chans (s : State) (r : Nat) (x : Ring) :
    (State.setRing s r x).chans = s.chans := rfl
@[simp] theorem State.setRing_encs (s : State) (r : Nat) (x : Ring) :
    (State.setRing s r x).encs = s.encs := rfl
@[simp] theorem State.setRing_sers (s : State) (r : Nat) (x : Ring) :
    (State.setRing s r x).sers = s.sers := rfl
@[simp] theorem State.setRing_rems (s : State) (r : Nat) (x : Ring) :
    (State.setRing s r x).rems = s.rems := rfl
@[simp] theorem State.setRing_acq (s : State) (r : Nat) (x : Ring) :
    (State.setRing s r x).acq = s.acq := rfl
@[simp] theorem State.setRing_units (s : State) (r : Nat) (x : Ring) :
    (State.setRing s r x).units = s.units := rfl
@[simp] theorem State.setRing_sched (s : State) (r : Nat) (x : Ring) :
    (State.setRing s r x).sched = s.sched := rfl
@[simp] theorem State.setRing_gov (s : State) (r : Nat) (x : Ring) :
    (State.setRing s r x).gov = s.gov := rfl
@[simp] theorem State.setRing_rope (s : State) (r : Nat) (x : Ring) :
    (State.setRing s r x).rope = s.rope := rfl
@[simp] theorem State.setRing_safe (s : State) (r : Nat) (x : Ring) :
    (State.setRing s r x).safe = s.safe := rfl
@[simp] theorem State.setRing_host (s : State) (r : Nat) (x : Ring) :
    (State.setRing s r x).host = s.host := rfl
@[simp] theorem State.setRing_perf (s : State) (r : Nat) (x : Ring) :
    (State.setRing s r x).perf = s.perf := rfl
@[simp] theorem State.setRing_store (s : State) (r : Nat) (x : Ring) :
    (State.setRing s r x).store = s.store := rfl
@[simp] theorem State.setRing_mem (s : State) (r : Nat) (x : Ring) :
    (State.setRing s r x).mem = s.mem := rfl
@[simp] theorem State.setRing_bad (s : State) (r : Nat) (x : Ring) :
    (State.setRing s r x).bad = s.bad := rfl
@[simp] theorem State.setRing_badSeen (s : State) (r : Nat) (x : Ring) :
    (State.setRing s r x).badSeen = s.badSeen := rfl
@[simp] theorem State.setRing_wrong (s : State) (r : Nat) (x : Ring) :
    (State.setRing s r x).wrong = s.wrong := rfl
@[simp] theorem State.setRing_freeCtr (s : State) (r : Nat) (x : Ring) :
    (State.setRing s r x).freeCtr = s.freeCtr := rfl

@[simp] theorem State.setCmp_regs (s : State) (k : Nat) (x : Cmp) :
    (State.setCmp s k x).regs = s.regs := rfl
@[simp] theorem State.setCmp_tt (s : State) (k : Nat) (x : Cmp) :
    (State.setCmp s k x).tt = s.tt := rfl
@[simp] theorem State.setCmp_faults (s : State) (k : Nat) (x : Cmp) :
    (State.setCmp s k x).faults = s.faults := rfl
@[simp] theorem State.setCmp_plant (s : State) (k : Nat) (x : Cmp) :
    (State.setCmp s k x).plant = s.plant := rfl
@[simp] theorem State.setCmp_axes (s : State) (k : Nat) (x : Cmp) :
    (State.setCmp s k x).axes = s.axes := rfl
@[simp] theorem State.setCmp_gens (s : State) (k : Nat) (x : Cmp) :
    (State.setCmp s k x).gens = s.gens := rfl
@[simp] theorem State.setCmp_chans (s : State) (k : Nat) (x : Cmp) :
    (State.setCmp s k x).chans = s.chans := rfl
@[simp] theorem State.setCmp_encs (s : State) (k : Nat) (x : Cmp) :
    (State.setCmp s k x).encs = s.encs := rfl
@[simp] theorem State.setCmp_sers (s : State) (k : Nat) (x : Cmp) :
    (State.setCmp s k x).sers = s.sers := rfl
@[simp] theorem State.setCmp_rems (s : State) (k : Nat) (x : Cmp) :
    (State.setCmp s k x).rems = s.rems := rfl
@[simp] theorem State.setCmp_rings (s : State) (k : Nat) (x : Cmp) :
    (State.setCmp s k x).rings = s.rings := rfl
@[simp] theorem State.setCmp_acq (s : State) (k : Nat) (x : Cmp) :
    (State.setCmp s k x).acq = s.acq := rfl
@[simp] theorem State.setCmp_units (s : State) (k : Nat) (x : Cmp) :
    (State.setCmp s k x).units = s.units := rfl
@[simp] theorem State.setCmp_sched (s : State) (k : Nat) (x : Cmp) :
    (State.setCmp s k x).sched = s.sched := rfl
@[simp] theorem State.setCmp_gov (s : State) (k : Nat) (x : Cmp) :
    (State.setCmp s k x).gov = s.gov := rfl
@[simp] theorem State.setCmp_rope (s : State) (k : Nat) (x : Cmp) :
    (State.setCmp s k x).rope = s.rope := rfl
@[simp] theorem State.setCmp_safe (s : State) (k : Nat) (x : Cmp) :
    (State.setCmp s k x).safe = s.safe := rfl
@[simp] theorem State.setCmp_host (s : State) (k : Nat) (x : Cmp) :
    (State.setCmp s k x).host = s.host := rfl
@[simp] theorem State.setCmp_perf (s : State) (k : Nat) (x : Cmp) :
    (State.setCmp s k x).perf = s.perf := rfl
@[simp] theorem State.setCmp_store (s : State) (k : Nat) (x : Cmp) :
    (State.setCmp s k x).store = s.store := rfl
@[simp] theorem State.setCmp_mem (s : State) (k : Nat) (x : Cmp) :
    (State.setCmp s k x).mem = s.mem := rfl
@[simp] theorem State.setCmp_bad (s : State) (k : Nat) (x : Cmp) :
    (State.setCmp s k x).bad = s.bad := rfl
@[simp] theorem State.setCmp_badSeen (s : State) (k : Nat) (x : Cmp) :
    (State.setCmp s k x).badSeen = s.badSeen := rfl
@[simp] theorem State.setCmp_wrong (s : State) (k : Nat) (x : Cmp) :
    (State.setCmp s k x).wrong = s.wrong := rfl
@[simp] theorem State.setCmp_freeCtr (s : State) (k : Nat) (x : Cmp) :
    (State.setCmp s k x).freeCtr = s.freeCtr := rfl

@[simp] theorem State.setEvio_regs (s : State) (p : Nat) (x : Evio) :
    (State.setEvio s p x).regs = s.regs := rfl
@[simp] theorem State.setEvio_tt (s : State) (p : Nat) (x : Evio) :
    (State.setEvio s p x).tt = s.tt := rfl
@[simp] theorem State.setEvio_faults (s : State) (p : Nat) (x : Evio) :
    (State.setEvio s p x).faults = s.faults := rfl
@[simp] theorem State.setEvio_plant (s : State) (p : Nat) (x : Evio) :
    (State.setEvio s p x).plant = s.plant := rfl
@[simp] theorem State.setEvio_axes (s : State) (p : Nat) (x : Evio) :
    (State.setEvio s p x).axes = s.axes := rfl
@[simp] theorem State.setEvio_gens (s : State) (p : Nat) (x : Evio) :
    (State.setEvio s p x).gens = s.gens := rfl
@[simp] theorem State.setEvio_chans (s : State) (p : Nat) (x : Evio) :
    (State.setEvio s p x).chans = s.chans := rfl
@[simp] theorem State.setEvio_encs (s : State) (p : Nat) (x : Evio) :
    (State.setEvio s p x).encs = s.encs := rfl
@[simp] theorem State.setEvio_sers (s : State) (p : Nat) (x : Evio) :
    (State.setEvio s p x).sers = s.sers := rfl
@[simp] theorem State.setEvio_rems (s : State) (p : Nat) (x : Evio) :
    (State.setEvio s p x).rems = s.rems := rfl
@[simp] theorem State.setEvio_rings (s : State) (p : Nat) (x : Evio) :
    (State.setEvio s p x).rings = s.rings := rfl
@[simp] theorem State.setEvio_acq (s : State) (p : Nat) (x : Evio) :
    (State.setEvio s p x).acq = s.acq := rfl
@[simp] theorem State.setEvio_units (s : State) (p : Nat) (x : Evio) :
    (State.setEvio s p x).units = s.units := rfl
@[simp] theorem State.setEvio_sched (s : State) (p : Nat) (x : Evio) :
    (State.setEvio s p x).sched = s.sched := rfl
@[simp] theorem State.setEvio_gov (s : State) (p : Nat) (x : Evio) :
    (State.setEvio s p x).gov = s.gov := rfl
@[simp] theorem State.setEvio_rope (s : State) (p : Nat) (x : Evio) :
    (State.setEvio s p x).rope = s.rope := rfl
@[simp] theorem State.setEvio_safe (s : State) (p : Nat) (x : Evio) :
    (State.setEvio s p x).safe = s.safe := rfl
@[simp] theorem State.setEvio_host (s : State) (p : Nat) (x : Evio) :
    (State.setEvio s p x).host = s.host := rfl
@[simp] theorem State.setEvio_perf (s : State) (p : Nat) (x : Evio) :
    (State.setEvio s p x).perf = s.perf := rfl
@[simp] theorem State.setEvio_store (s : State) (p : Nat) (x : Evio) :
    (State.setEvio s p x).store = s.store := rfl
@[simp] theorem State.setEvio_mem (s : State) (p : Nat) (x : Evio) :
    (State.setEvio s p x).mem = s.mem := rfl
@[simp] theorem State.setEvio_bad (s : State) (p : Nat) (x : Evio) :
    (State.setEvio s p x).bad = s.bad := rfl
@[simp] theorem State.setEvio_badSeen (s : State) (p : Nat) (x : Evio) :
    (State.setEvio s p x).badSeen = s.badSeen := rfl
@[simp] theorem State.setEvio_wrong (s : State) (p : Nat) (x : Evio) :
    (State.setEvio s p x).wrong = s.wrong := rfl
@[simp] theorem State.setEvio_freeCtr (s : State) (p : Nat) (x : Evio) :
    (State.setEvio s p x).freeCtr = s.freeCtr := rfl

@[simp] theorem State.setTrg_regs (s : State) (u : Nat) (x : Trg) :
    (State.setTrg s u x).regs = s.regs := rfl
@[simp] theorem State.setTrg_tt (s : State) (u : Nat) (x : Trg) :
    (State.setTrg s u x).tt = s.tt := rfl
@[simp] theorem State.setTrg_faults (s : State) (u : Nat) (x : Trg) :
    (State.setTrg s u x).faults = s.faults := rfl
@[simp] theorem State.setTrg_time (s : State) (u : Nat) (x : Trg) :
    (State.setTrg s u x).time = s.time := rfl
@[simp] theorem State.setTrg_plant (s : State) (u : Nat) (x : Trg) :
    (State.setTrg s u x).plant = s.plant := rfl
@[simp] theorem State.setTrg_axes (s : State) (u : Nat) (x : Trg) :
    (State.setTrg s u x).axes = s.axes := rfl
@[simp] theorem State.setTrg_gens (s : State) (u : Nat) (x : Trg) :
    (State.setTrg s u x).gens = s.gens := rfl
@[simp] theorem State.setTrg_chans (s : State) (u : Nat) (x : Trg) :
    (State.setTrg s u x).chans = s.chans := rfl
@[simp] theorem State.setTrg_encs (s : State) (u : Nat) (x : Trg) :
    (State.setTrg s u x).encs = s.encs := rfl
@[simp] theorem State.setTrg_sers (s : State) (u : Nat) (x : Trg) :
    (State.setTrg s u x).sers = s.sers := rfl
@[simp] theorem State.setTrg_rems (s : State) (u : Nat) (x : Trg) :
    (State.setTrg s u x).rems = s.rems := rfl
@[simp] theorem State.setTrg_rings (s : State) (u : Nat) (x : Trg) :
    (State.setTrg s u x).rings = s.rings := rfl
@[simp] theorem State.setTrg_units (s : State) (u : Nat) (x : Trg) :
    (State.setTrg s u x).units = s.units := rfl
@[simp] theorem State.setTrg_sched (s : State) (u : Nat) (x : Trg) :
    (State.setTrg s u x).sched = s.sched := rfl
@[simp] theorem State.setTrg_gov (s : State) (u : Nat) (x : Trg) :
    (State.setTrg s u x).gov = s.gov := rfl
@[simp] theorem State.setTrg_rope (s : State) (u : Nat) (x : Trg) :
    (State.setTrg s u x).rope = s.rope := rfl
@[simp] theorem State.setTrg_safe (s : State) (u : Nat) (x : Trg) :
    (State.setTrg s u x).safe = s.safe := rfl
@[simp] theorem State.setTrg_host (s : State) (u : Nat) (x : Trg) :
    (State.setTrg s u x).host = s.host := rfl
@[simp] theorem State.setTrg_perf (s : State) (u : Nat) (x : Trg) :
    (State.setTrg s u x).perf = s.perf := rfl
@[simp] theorem State.setTrg_store (s : State) (u : Nat) (x : Trg) :
    (State.setTrg s u x).store = s.store := rfl
@[simp] theorem State.setTrg_mem (s : State) (u : Nat) (x : Trg) :
    (State.setTrg s u x).mem = s.mem := rfl
@[simp] theorem State.setTrg_bad (s : State) (u : Nat) (x : Trg) :
    (State.setTrg s u x).bad = s.bad := rfl
@[simp] theorem State.setTrg_badSeen (s : State) (u : Nat) (x : Trg) :
    (State.setTrg s u x).badSeen = s.badSeen := rfl
@[simp] theorem State.setTrg_wrong (s : State) (u : Nat) (x : Trg) :
    (State.setTrg s u x).wrong = s.wrong := rfl
@[simp] theorem State.setTrg_freeCtr (s : State) (u : Nat) (x : Trg) :
    (State.setTrg s u x).freeCtr = s.freeCtr := rfl

@[simp] theorem State.setPriv_regs (s : State) (b : Nat) (x : Priv) :
    (State.setPriv s b x).regs = s.regs := rfl
@[simp] theorem State.setPriv_tt (s : State) (b : Nat) (x : Priv) :
    (State.setPriv s b x).tt = s.tt := rfl
@[simp] theorem State.setPriv_faults (s : State) (b : Nat) (x : Priv) :
    (State.setPriv s b x).faults = s.faults := rfl
@[simp] theorem State.setPriv_time (s : State) (b : Nat) (x : Priv) :
    (State.setPriv s b x).time = s.time := rfl
@[simp] theorem State.setPriv_plant (s : State) (b : Nat) (x : Priv) :
    (State.setPriv s b x).plant = s.plant := rfl
@[simp] theorem State.setPriv_axes (s : State) (b : Nat) (x : Priv) :
    (State.setPriv s b x).axes = s.axes := rfl
@[simp] theorem State.setPriv_gens (s : State) (b : Nat) (x : Priv) :
    (State.setPriv s b x).gens = s.gens := rfl
@[simp] theorem State.setPriv_chans (s : State) (b : Nat) (x : Priv) :
    (State.setPriv s b x).chans = s.chans := rfl
@[simp] theorem State.setPriv_encs (s : State) (b : Nat) (x : Priv) :
    (State.setPriv s b x).encs = s.encs := rfl
@[simp] theorem State.setPriv_sers (s : State) (b : Nat) (x : Priv) :
    (State.setPriv s b x).sers = s.sers := rfl
@[simp] theorem State.setPriv_rems (s : State) (b : Nat) (x : Priv) :
    (State.setPriv s b x).rems = s.rems := rfl
@[simp] theorem State.setPriv_rings (s : State) (b : Nat) (x : Priv) :
    (State.setPriv s b x).rings = s.rings := rfl
@[simp] theorem State.setPriv_units (s : State) (b : Nat) (x : Priv) :
    (State.setPriv s b x).units = s.units := rfl
@[simp] theorem State.setPriv_sched (s : State) (b : Nat) (x : Priv) :
    (State.setPriv s b x).sched = s.sched := rfl
@[simp] theorem State.setPriv_gov (s : State) (b : Nat) (x : Priv) :
    (State.setPriv s b x).gov = s.gov := rfl
@[simp] theorem State.setPriv_rope (s : State) (b : Nat) (x : Priv) :
    (State.setPriv s b x).rope = s.rope := rfl
@[simp] theorem State.setPriv_safe (s : State) (b : Nat) (x : Priv) :
    (State.setPriv s b x).safe = s.safe := rfl
@[simp] theorem State.setPriv_host (s : State) (b : Nat) (x : Priv) :
    (State.setPriv s b x).host = s.host := rfl
@[simp] theorem State.setPriv_perf (s : State) (b : Nat) (x : Priv) :
    (State.setPriv s b x).perf = s.perf := rfl
@[simp] theorem State.setPriv_store (s : State) (b : Nat) (x : Priv) :
    (State.setPriv s b x).store = s.store := rfl
@[simp] theorem State.setPriv_mem (s : State) (b : Nat) (x : Priv) :
    (State.setPriv s b x).mem = s.mem := rfl
@[simp] theorem State.setPriv_bad (s : State) (b : Nat) (x : Priv) :
    (State.setPriv s b x).bad = s.bad := rfl
@[simp] theorem State.setPriv_badSeen (s : State) (b : Nat) (x : Priv) :
    (State.setPriv s b x).badSeen = s.badSeen := rfl
@[simp] theorem State.setPriv_wrong (s : State) (b : Nat) (x : Priv) :
    (State.setPriv s b x).wrong = s.wrong := rfl
@[simp] theorem State.setPriv_freeCtr (s : State) (b : Nat) (x : Priv) :
    (State.setPriv s b x).freeCtr = s.freeCtr := rfl

@[simp] theorem State.setBw_regs (s : State) (m : Nat) (x : Bw) :
    (State.setBw s m x).regs = s.regs := rfl
@[simp] theorem State.setBw_tt (s : State) (m : Nat) (x : Bw) :
    (State.setBw s m x).tt = s.tt := rfl
@[simp] theorem State.setBw_faults (s : State) (m : Nat) (x : Bw) :
    (State.setBw s m x).faults = s.faults := rfl
@[simp] theorem State.setBw_time (s : State) (m : Nat) (x : Bw) :
    (State.setBw s m x).time = s.time := rfl
@[simp] theorem State.setBw_plant (s : State) (m : Nat) (x : Bw) :
    (State.setBw s m x).plant = s.plant := rfl
@[simp] theorem State.setBw_axes (s : State) (m : Nat) (x : Bw) :
    (State.setBw s m x).axes = s.axes := rfl
@[simp] theorem State.setBw_gens (s : State) (m : Nat) (x : Bw) :
    (State.setBw s m x).gens = s.gens := rfl
@[simp] theorem State.setBw_chans (s : State) (m : Nat) (x : Bw) :
    (State.setBw s m x).chans = s.chans := rfl
@[simp] theorem State.setBw_encs (s : State) (m : Nat) (x : Bw) :
    (State.setBw s m x).encs = s.encs := rfl
@[simp] theorem State.setBw_sers (s : State) (m : Nat) (x : Bw) :
    (State.setBw s m x).sers = s.sers := rfl
@[simp] theorem State.setBw_rems (s : State) (m : Nat) (x : Bw) :
    (State.setBw s m x).rems = s.rems := rfl
@[simp] theorem State.setBw_rings (s : State) (m : Nat) (x : Bw) :
    (State.setBw s m x).rings = s.rings := rfl
@[simp] theorem State.setBw_acq (s : State) (m : Nat) (x : Bw) :
    (State.setBw s m x).acq = s.acq := rfl
@[simp] theorem State.setBw_units (s : State) (m : Nat) (x : Bw) :
    (State.setBw s m x).units = s.units := rfl
@[simp] theorem State.setBw_sched (s : State) (m : Nat) (x : Bw) :
    (State.setBw s m x).sched = s.sched := rfl
@[simp] theorem State.setBw_gov (s : State) (m : Nat) (x : Bw) :
    (State.setBw s m x).gov = s.gov := rfl
@[simp] theorem State.setBw_rope (s : State) (m : Nat) (x : Bw) :
    (State.setBw s m x).rope = s.rope := rfl
@[simp] theorem State.setBw_safe (s : State) (m : Nat) (x : Bw) :
    (State.setBw s m x).safe = s.safe := rfl
@[simp] theorem State.setBw_host (s : State) (m : Nat) (x : Bw) :
    (State.setBw s m x).host = s.host := rfl
@[simp] theorem State.setBw_store (s : State) (m : Nat) (x : Bw) :
    (State.setBw s m x).store = s.store := rfl
@[simp] theorem State.setBw_mem (s : State) (m : Nat) (x : Bw) :
    (State.setBw s m x).mem = s.mem := rfl
@[simp] theorem State.setBw_bad (s : State) (m : Nat) (x : Bw) :
    (State.setBw s m x).bad = s.bad := rfl
@[simp] theorem State.setBw_badSeen (s : State) (m : Nat) (x : Bw) :
    (State.setBw s m x).badSeen = s.badSeen := rfl
@[simp] theorem State.setBw_wrong (s : State) (m : Nat) (x : Bw) :
    (State.setBw s m x).wrong = s.wrong := rfl
@[simp] theorem State.setBw_freeCtr (s : State) (m : Nat) (x : Bw) :
    (State.setBw s m x).freeCtr = s.freeCtr := rfl

@[simp] theorem State.setMbox_regs (s : State) (k : Nat) (x : Mbox) :
    (State.setMbox s k x).regs = s.regs := rfl
@[simp] theorem State.setMbox_tt (s : State) (k : Nat) (x : Mbox) :
    (State.setMbox s k x).tt = s.tt := rfl
@[simp] theorem State.setMbox_faults (s : State) (k : Nat) (x : Mbox) :
    (State.setMbox s k x).faults = s.faults := rfl
@[simp] theorem State.setMbox_time (s : State) (k : Nat) (x : Mbox) :
    (State.setMbox s k x).time = s.time := rfl
@[simp] theorem State.setMbox_plant (s : State) (k : Nat) (x : Mbox) :
    (State.setMbox s k x).plant = s.plant := rfl
@[simp] theorem State.setMbox_axes (s : State) (k : Nat) (x : Mbox) :
    (State.setMbox s k x).axes = s.axes := rfl
@[simp] theorem State.setMbox_gens (s : State) (k : Nat) (x : Mbox) :
    (State.setMbox s k x).gens = s.gens := rfl
@[simp] theorem State.setMbox_chans (s : State) (k : Nat) (x : Mbox) :
    (State.setMbox s k x).chans = s.chans := rfl
@[simp] theorem State.setMbox_encs (s : State) (k : Nat) (x : Mbox) :
    (State.setMbox s k x).encs = s.encs := rfl
@[simp] theorem State.setMbox_sers (s : State) (k : Nat) (x : Mbox) :
    (State.setMbox s k x).sers = s.sers := rfl
@[simp] theorem State.setMbox_rems (s : State) (k : Nat) (x : Mbox) :
    (State.setMbox s k x).rems = s.rems := rfl
@[simp] theorem State.setMbox_rings (s : State) (k : Nat) (x : Mbox) :
    (State.setMbox s k x).rings = s.rings := rfl
@[simp] theorem State.setMbox_acq (s : State) (k : Nat) (x : Mbox) :
    (State.setMbox s k x).acq = s.acq := rfl
@[simp] theorem State.setMbox_units (s : State) (k : Nat) (x : Mbox) :
    (State.setMbox s k x).units = s.units := rfl
@[simp] theorem State.setMbox_sched (s : State) (k : Nat) (x : Mbox) :
    (State.setMbox s k x).sched = s.sched := rfl
@[simp] theorem State.setMbox_gov (s : State) (k : Nat) (x : Mbox) :
    (State.setMbox s k x).gov = s.gov := rfl
@[simp] theorem State.setMbox_rope (s : State) (k : Nat) (x : Mbox) :
    (State.setMbox s k x).rope = s.rope := rfl
@[simp] theorem State.setMbox_safe (s : State) (k : Nat) (x : Mbox) :
    (State.setMbox s k x).safe = s.safe := rfl
@[simp] theorem State.setMbox_perf (s : State) (k : Nat) (x : Mbox) :
    (State.setMbox s k x).perf = s.perf := rfl
@[simp] theorem State.setMbox_store (s : State) (k : Nat) (x : Mbox) :
    (State.setMbox s k x).store = s.store := rfl
@[simp] theorem State.setMbox_mem (s : State) (k : Nat) (x : Mbox) :
    (State.setMbox s k x).mem = s.mem := rfl
@[simp] theorem State.setMbox_bad (s : State) (k : Nat) (x : Mbox) :
    (State.setMbox s k x).bad = s.bad := rfl
@[simp] theorem State.setMbox_badSeen (s : State) (k : Nat) (x : Mbox) :
    (State.setMbox s k x).badSeen = s.badSeen := rfl
@[simp] theorem State.setMbox_wrong (s : State) (k : Nat) (x : Mbox) :
    (State.setMbox s k x).wrong = s.wrong := rfl
@[simp] theorem State.setMbox_freeCtr (s : State) (k : Nat) (x : Mbox) :
    (State.setMbox s k x).freeCtr = s.freeCtr := rfl

/-- What is read after a write. -/
@[simp] theorem State.axis_setAxis (s : State) (i j : Nat) (x : Axis) :
    (s.setAxis i x).axis j = if j = i then x else s.axis j := by simp [State.setAxis, State.axis]
/-- What is read after a write. -/
@[simp] theorem State.gen_setGen (s : State) (i j : Nat) (x : Gen) :
    (s.setGen i x).gen j = if j = i then x else s.gen j := by simp [State.setGen, State.gen]
/-- What is read after a write. -/
@[simp] theorem State.chan_setChan (s : State) (i j : Nat) (x : StepChan) :
    (s.setChan i x).chan j = if j = i then x else s.chan j := by simp [State.setChan, State.chan]
/-- What is read after a write. -/
@[simp] theorem State.enc_setEnc (s : State) (i j : Nat) (x : Enc) :
    (s.setEnc i x).enc j = if j = i then x else s.enc j := by simp [State.setEnc, State.enc]
/-- What is read after a write. -/
@[simp] theorem State.ser_setSer (s : State) (i j : Nat) (x : Ser) :
    (s.setSer i x).ser j = if j = i then x else s.ser j := by simp [State.setSer, State.ser]
/-- What is read after a write. -/
@[simp] theorem State.rem_setRem (s : State) (i j : Nat) (x : Rem) :
    (s.setRem i x).rem j = if j = i then x else s.rem j := by simp [State.setRem, State.rem]
/-- What is read after a write. -/
@[simp] theorem State.ring_setRing (s : State) (i j : Nat) (x : Ring) :
    (s.setRing i x).ring j = if j = i then x else s.ring j := by simp [State.setRing, State.ring]
/-- What is read after a write. -/
@[simp] theorem State.cmp_setCmp (s : State) (i j : Nat) (x : Cmp) :
    (s.setCmp i x).cmp j = if j = i then x else s.cmp j := by simp [State.setCmp, State.cmp]
/-- What is read after a write. -/
@[simp] theorem State.evio_setEvio (s : State) (i j : Nat) (x : Evio) :
    (s.setEvio i x).evio j = if j = i then x else s.evio j := by simp [State.setEvio, State.evio]
/-- What is read after a write. -/
@[simp] theorem State.trg_setTrg (s : State) (i j : Nat) (x : Trg) :
    (s.setTrg i x).trg j = if j = i then x else s.trg j := by simp [State.setTrg, State.trg]
/-- What is read after a write. -/
@[simp] theorem State.priv_setPriv (s : State) (i j : Nat) (x : Priv) :
    (s.setPriv i x).priv j = if j = i then x else s.priv j := by simp [State.setPriv, State.priv]
/-- What is read after a write. -/
@[simp] theorem State.lux_setLux (s : State) (i j : Nat) (x : Lux) :
    (s.setLux i x).lux j = if j = i then x else s.lux j := by simp [State.setLux, State.lux]
/-- What is read after a write. -/
@[simp] theorem State.core_setCore (s : State) (i j : Nat) (x : Core) :
    (s.setCore i x).core j = if j = i then x else s.core j := by simp [State.setCore, State.core]

@[simp] theorem State.cfgW_setCfg (s : State) (i j : Nat) (w : Word) :
    (s.setCfg i w).cfgW j = if j = i then w else s.cfgW j := by simp [State.setCfg, State.cfgW]
@[simp] theorem State.cfgW_setStg (s : State) (i j : Nat) (w : Word) : (s.setStg i w).cfgW j = s.cfgW j := rfl
@[simp] theorem State.stgW_setStg (s : State) (i j : Nat) (w : Word) :
    (s.setStg i w).stgW j = if j = i then w else s.stgW j := by
  unfold State.stgW
  rw [State.cfgW_setStg]
  simp only [State.setStg, Tab.get_put]
  split <;> rfl

/-- Only the registers change at a commit. -/
theorem State.commitRegs_eq (s : State) (l : List Nat) : ∃ r, s.commitRegs l = { s with regs := r } := by
  induction l generalizing s with
  | nil => exact ⟨s.regs, rfl⟩
  | cons o l ih =>
    unfold State.commitRegs
    obtain ⟨r, hr⟩ := ih { s.setCfg o (s.stgW o) with regs := { (s.setCfg o (s.stgW o)).regs with
      stg := Tab.erase (s.setCfg o (s.stgW o)).regs.stg o } }
    exact ⟨r, hr⟩

/-- One register's staged copy committed. -/
def State.commitOne (s : State) (k : Nat) : State :=
  { s.setCfg k (s.stgW k) with regs := { (s.setCfg k (s.stgW k)).regs with stg := Tab.erase (s.setCfg k (s.stgW k)).regs.stg k } }

theorem State.commitRegs_cons (s : State) (k : Nat) (l : List Nat) : s.commitRegs (k :: l) = (s.commitOne k).commitRegs l := rfl

theorem State.cfgW_commitOne (s : State) (k o : Nat) : (s.commitOne k).cfgW o = if o = k then s.stgW k else s.cfgW o :=
  State.cfgW_setCfg s k o (s.stgW k)

theorem State.stgW_commitOne (s : State) (k o : Nat) : (s.commitOne k).stgW o = s.stgW o := by
  have h1 : (s.commitOne k).stgW o = (Tab.get none (Tab.erase s.regs.stg k) o).getD ((s.commitOne k).cfgW o) := rfl
  rw [h1, State.cfgW_commitOne, Tab.get_erase]
  by_cases h : o = k
  · subst h; rw [if_pos rfl, if_pos rfl]; rfl
  · rw [if_neg h, if_neg h]; rfl

/-- What a commit does (R134): the staged copy of each register of the list becomes its value in use, and no other register
changes. -/
theorem State.cfgW_commitRegs (s : State) (l : List Nat) (o : Nat) :
    (s.commitRegs l).cfgW o = if o ∈ l then s.stgW o else s.cfgW o := by
  induction l generalizing s with
  | nil => simp [State.commitRegs]
  | cons k l ih =>
    rw [State.commitRegs_cons, ih, State.stgW_commitOne, State.cfgW_commitOne]
    by_cases h : o = k
    · subst h; simp
    · simp [h]

end Sys2Proof.Machine
end

