-- ==== Sys2Proof/Machine/Pins.lean ====
section
/-! DEFINITION. The levels of the output pins that follow from the state at its present TIME (R192, R195, R225, R567, R568): STEP, DIR and
SCLK. -/

namespace Sys2Proof.Machine

/-- Whether a step pulse of a channel is high now, WIDTH clocks from its start (R195). -/
def State.pulseHigh (s : State) (c : Nat) : Bool :=
  match s.lastPulse c with
  | none => false
  | some t => decide ((s.time.time - t).toNat < 5 * s.width (512 + c))

/-- The level of STEPc (R195, R203, R568): low until the part drives its outputs and the channel has been enabled for the first
time; then its pulses, active low with STEP_INV. -/
def State.stepPin (s : State) (c : Nat) : Bool :=
  s.drives && (s.chan c).driven && (s.pulseHigh c ^^ (s.cfgW (chOff c 0)).bit 1)

/-- The level of DIRc (R195, R203): high for forward, with DIR_INV low; low while the part does not drive its outputs. -/
def State.dirPin (s : State) (c : Nat) : Bool := s.drives && (!(s.chan c).backward ^^ (s.cfgW (chOff c 0)).bit 2)

/-- The level of SCLKs in the passage in progress, for falling edge 0 `first` ns after its start (R225): the word ends at edge BITS in
SSI, at the latest at edge START_TO + 48 in the Treong word format. None while the pin is not driven (R567). -/
def State.sclkPin (s : State) (p first : Nat) : Option Bool :=
  if s.host.phase = .run then
    let cfg := s.cfgW (serOff p 0)
    let clk := s.cfgW (serOff p 4)
    let dt := (s.time.time - s.tt.start).toNat
    some (decide (dt < first) || sclkLevel ((clk.bits 0 10 + 1) * 10) (clk.bits 24 8 * 5)
      (if cfg.bit 31 then cfg.bits 0 4 + 48 else cfg.bits 22 6) (dt - first))
  else none

end Sys2Proof.Machine
end

