-- ==== Sys2Proof/Tests/Slice0.lean ====
section
/-! SUPPORT. Tests. `test_meets_<Statement>` shows states and operands that meet the premises of that statement, at the ends of
their ranges. Premises that rest on an opaque constant of Config are not met by evaluation: that a signature verifies (the
clauses of a slot that authenticates) and which strap a heartbeat shows. `test_wf_…` gives an ill-formed term for each check of
WellFormed. The others follow the spec's worked examples, with the spec's own numbers. -/

open Sys2Proof Sys2Proof.Machine

namespace Sys2Proof.Tests

/-- A part in RUN in a role, with the passage clock on. -/
def running (role : Nat) : State :=
  { State.reset with
    host := { State.reset.host with phase := .run }
    tt := { State.reset.tt with clockOn := true }
    time := { State.reset.time with counting := true }
    rope := { State.reset.rope with role := role, strap := if role = 1 then 0 else 1 } }

/-- The context of a command that a LEAD has forwarded: its checks of right and role are made. -/
def sent : Ctx := ⟨1, 7, 0, true, false, 0⟩

/-- A part in RUN whose S-core 0 runs task 5, at the head of the soft-plane area. -/
def task5 : State :=
  { (running 1).setCore 0 { (running 1).core 0 with task := some 5 } with units := [(80, { pc := 0x03680000 })] }

/-- A state with these committed registers, at rising offsets, and no others. -/
def withCfg (s : State) (l : List (Nat × Word)) : State := { s with regs := { s.regs with cfg := l } }

/-- A state with these staged registers, at rising offsets, and no others. -/
def withStg (s : State) (l : List (Nat × Word)) : State :=
  { s with regs := { s.regs with stg := l.map (fun p => (p.1, some p.2)) } }

/-- A law with four measurements, five states and one output, in the first 40 words of a set. -/
def law : LawWire :=
  { states := 5, meas := 4, outs := 1, c := ⟨0, .norm⟩, l := ⟨5, .norm⟩, k := ⟨10, .norm⟩, a := ⟨15, .norm⟩, b := ⟨20, .norm⟩
    eStore := .norm, src := [0, 1, 2, 3].map (fun k => (k, 0x40000001#32)), yExp := 0 }

/-- A servo's wiring with one law of the basic level. -/
def servo : ServoWire :=
  { form := false, channel := 0, inAddr := 0, recAddr := 0x1000, acqAddr := 0x1800, stateAddr := none, base := 0, stride := 22
    stage := 0x10000, law1 := law, law2 := none, presets := [], iMax := [], uLim := [], residuals := [], setExps :=
        List.replicate 22 4 }

/-- A running image of four nodes on ring 0: instance 0 a servo, instance 1 a stepper. -/
def image : Image :=
  { rings := 1, nodes := [4, 0, 0, 0], axes := 2, axmap := [(0, 0x80000001), (1, 0x80400002)], wiring := { servos := [(0, servo)] } }

/-- A part with that image whose safety system runs and demands nothing. -/
def fitted : State :=
  { running 1 with tt := { (running 1).tt with running := some image }, safe := { (running 1).safe with state := 2 } }

/-- An instance, a generator or a channel of that part, as given. -/
def withAxis (a : Axis) : State := fitted.setAxis 0 a

theorem test_meets_ScalarsCompute :
    (running 1).unitReady 0 = true ∧ (running 1).unitReady 79 = true ∧ task5.unitReady 80 = true ∧
      (31#32).toNat < 32 ∧ (15#32).toNat < 16 := by decide

theorem test_meets_ControlAndBranches :
    let s := running 1
    s.unitReady 79 = true ∧ (15#32).toNat < 16 ∧ 79 < 80 ∧
      0 < (0xFFF0001#32).toNat / 2 ^ 16 ∧ (0xFFF0000#32).toNat / 2 ^ 16 < 4096 ∧ 0 < (0xFFF0001#32).toNat % 2 ^ 16 ∧
      (s.lux 0).loops = [] ∧ s.bodyHasEnd 0 ((s.lux 0).pc + 8) 1 = false ∧
      task5.unitReady 80 = true ∧ ((task5.lux 80).s 15).toNat % 8 = 0 := by decide

theorem test_meets_IndicesAndPointers :
    (running 1).unitReady 79 = true ∧ task5.unitReady 80 = true ∧ 7 < 8 ∧ 15 < 16 := by decide

/-- A selector word of STRIDE 512 in word 0 of engine 0, and x0 + 0 as the operand. -/
def selecting : State := { running 1 with mem := [(5, 2)] }

theorem test_meets_UnitMemoryAccesses :
    let f : Fields := ⟨15, 0, 0, 7, 1, 0, 0⟩
    let g : Fields := ⟨15, 0, 0, 7, 0, 8, 0⟩
    let h : Fields := ⟨0, 0, 0, 0, 0, 0, 0⟩
    let after := selecting.setLux 0 { selecting.lux 0 with mac := true }
    selecting.unitReady 0 = true ∧ (selecting.lux 0).names 0 f 0 ∧ selecting.unitBad 0 0 = false ∧ f.f < 8 ∧ f.d < 16 ∧
      selecting.unitReady 79 = true ∧ (selecting.lux 79).names 79 f 0 ∧
      after.unitReady 0 = true ∧ (after.lux 0).names 0 g 0 ∧ g.f < 16 ∧ (after.lux 0).mac = true ∧
      (selecting.lux 0).names 0 h 0 ∧ (selecting.unitLine 0 0).l1.bits 0 10 = 512 := by
  unfold Lux.names; decide

theorem test_meets_MacsAccumulate :
    let s := running 1
    let f : Fields := ⟨7, 31, 7, 0, 0, 3, 0⟩
    let g : Fields := ⟨7, 31, 0, 0, 2, 0, 0⟩
    s.unitReady 63 = true ∧ f.d < 8 ∧ f.a < 32 ∧ f.f < 4 ∧ f.b < 8 ∧ s.readsCoef 63 f (stageOfLine (s.unitLine 63 0)) ∧
      s.readsCoef 63 g (blend (stageOfLine (s.unitLine 63 0)) (stageOfLine (s.unitLine 63 0)) 0 true) ∧ (7#32).toNat < 8 := by
  refine ⟨by decide, by decide, by decide, by decide, by decide, .inl ⟨0, by unfold Lux.names; decide, by decide, rfl⟩,
    .inr ⟨by decide, by decide, by decide, 0, 0, by decide, by decide, by decide, by decide, by decide, by decide, rfl⟩, by decide⟩

theorem test_meets_the_stage_instructions :
    (running 1).unitReady 63 = true ∧ 31 < 32 ∧ (255#32).toNat < 256 ∧ (31#32).toNat < 32 ∧ (15#32).toNat < 16 := by decide

/-- The operands of a DSP instruction: its output, its input and its block at words 4, 0 and 8 of cluster 0. -/
def dspReady : State := (running 1).setLux 64 { (running 1).lux 64 with sr := [(1, 4), (3, 8)] }

theorem test_meets_FiltersRun :
    let s := dspReady
    let x := s.lux 64
    s.unitReady 64 = true ∧ (x.s 1).toNat = 4 ∧ (x.s 2).toNat = 0 ∧ (x.s 3).toNat = 8 ∧ s.unitBad 64 0 = false ∧
      8 + 10 * 16 ≤ 32768 ∧ (∀ k, k < 10 * 16 → s.unitBad 64 (8 + k) = false) ∧
      8 + 2 * 256 + 1 ≤ 32768 ∧ (∀ k, k < 2 * 256 + 1 → s.unitBad 64 (8 + k) = false) ∧ 4 < 8 :=
  ⟨by decide, by decide, by decide, by decide, rfl, by decide, fun _ _ => rfl, by decide, fun _ _ => rfl, by decide⟩

theorem test_meets_TransformsRun :
    let s := dspReady
    let x := s.lux 64
    s.unitReady 64 = true ∧ (x.s 1).toNat = 4 ∧ (x.s 2).toNat = 0 ∧
      (4 + 2 ^ 4 / 4 ≤ 32768 ∧ 0 + 2 ^ 4 / 4 ≤ 4 ∧ ∀ k, k < 2 ^ 4 / 4 → s.unitBad 64 (0 + k) = false) ∧
      ((x.s 2).toNat + 2 ^ 12 / 4 ≤ 32768 ∧ (x.s 2).toNat = (x.s 4).toNat ∧ ∀ k, k < 2 ^ 12 / 4 → s.unitBad 64 (0 + k) = false) :=
  ⟨by decide, by decide, by decide, ⟨by decide, by decide, fun _ _ => rfl⟩, by decide, by decide, fun _ _ => rfl⟩

/-- An S-core's task with pointer p1 at the soft-plane area. -/
def pointing (a : Word) : State := task5.setLux 80 { task5.lux 80 with pr := [(1, a)] }

theorem test_meets_SoftPlaneAccesses :
    let s := pointing 0x036BFFF8
    s.unitReady 80 = true ∧ ((s.lux 80).p 1).toNat = 0x036BFFF8 ∧ s.softReads 0x036BFFF8 = true ∧
      s.softWrites 0x036BFFF8 = true ∧ inMatching 0x036BFFF8 = false ∧ s.undecodable 0x036BFFF8 = false ∧ 0x036BFFF8 % 8 = 0 ∧
      (∀ n ∈ [0x1FFC, 0x20C0, 0xFFFFC], n % 4 = 0 ∧ n < 0x100000 ∧ (n < 0x2000 ∨ 0x20C0 ≤ n)) ∧
      (s.writeReg (80 - 79) 0x20C0 0).2 = false := by decide

/-- Task 5 with a valid descriptor of two tokens, and two registers. -/
def task5Ready : State :=
  { task5 with mem := [(descAddr 5 + 13, 1), (descAddr 5 + 14, 0x68), (descAddr 5 + 15, 3), (descAddr 5 + 18, 2), (descAddr 5 + 20, 4)]
               units := [(80, { sr := [(1, 5), (2, 0xFFFFFF)], pc := 0x03680000 })] }

/-- That task at another place in the code. -/
def task5At (pc : Nat) (bad : List Nat) : State := { task5Ready with units := [(80, { pc := pc })], bad := bad }

theorem test_meets_TaskInstructions :
    let s := task5Ready
    let full := s.setEntry 5 (some (({} : Match).setSlot 1 (some 7)))
    let ringFull := { s with mem := s.mem.setWord 0x021FF000 63 }
    (s.unitReady 80 = true ∧ (s.core 0).task = some 5 ∧ s.entry 5 = none ∧ ((s.lux 80).s 1).toNat = 5 ∧
      s.undecodable (descAddr 5) = false ∧ s.sched.fault = false ∧ s.descState 5 ≠ 0 ∧ 1 < s.descNtok 5 ∧ 2 ≤ s.descNtok 5 ∧
      s.sched.entries.length < 1024) ∧
      full.unitReady 80 = true ∧ full.undecodable (descAddr 5) = false ∧ full.sched.fault = false ∧ full.descState 5 ≠ 0 ∧
      full.entry 5 = some (({} : Match).setSlot 1 (some 7)) ∧ ((({} : Match).setSlot 1 (some 7)).slot 1).isSome = true ∧
      ((s.lux 80).s 2).toNat < 2 ^ 24 ∧ 1 ≤ ((s.lux 80).s 2).toNat ∧ (s.descWord 5 12).toNat ≠ 0 ∧
      (s.descWord 5 12).toNat + 128 ≤ descAddr 5 ∧ (s.lux 80).s 3 = 0 ∧ (0xFFFF#32).toNat < 2 ^ 16 ∧
      ringFull.unitReady 80 = true ∧ 63 ≤ (ringFull.mem.word 0x021FF000 - ringFull.mem.word (0x021FF000 + 4)).toNat ∧
      (s.mem.word 0x021FF000 - s.mem.word (0x021FF000 + 4)).toNat < 63 := by decide

theorem test_meets_IllegalWordsStop :
    let s := task5Ready
    (s.unitReady 79 = true ∧ luxOpOf 79 0xFF = none ∧ s.unitReady 80 = true ∧ luxOpOf 80 0xFF = none) ∧
      (∀ q ∈ [s, task5At 0x03680004 [], task5At 0x03700000 [], task5At 0x02000000 [0x02000000]], q.unitActs 80 = true ∧
        (q.core 0).task = some 5 ∧ q.entry 5 = none ∧ (q.mem.word 0x021FF000 - q.mem.word (0x021FF000 + 4)).toNat < 63) ∧
      ((task5At 0x03680004 []).lux 80).pc % 8 ≠ 0 ∧
      ((task5At 0x03700000 []).lux 80).pc % 8 = 0 ∧ (task5At 0x03700000 []).softReads 0x03700000 = false ∧
      ((task5At 0x02000000 [0x02000000]).lux 80).pc = 0x02000000 ∧
      (task5At 0x02000000 [0x02000000]).softReads 0x02000000 = true ∧
      (task5At 0x02000000 [0x02000000]).undecodable 0x02000000 = true ∧ inRings 0x02000000 = false ∧
      inRegion 0x02000000 = true := by decide

/-- The axis page of instance 0 in range, with KP to I_MAX of region 0 at 1.0, and slot 0 mapped to it. -/
def axPage : List (Nat × Word) :=
  [(axOff 0 0, 0), (axOff 0 0x0C, 0x02580000), (axOff 0 0x20, 0x00010000), (axOff 0 0x30, 0x00010000), (axOff 0 0x90, 1)] ++
    (List.range 8).map (fun k => (axOff 0 (0x200 + 4 * k), 0x40000001))

theorem test_meets_AxisCommands :
    let s := fitted
    let off := withAxis { st := .auto }
    let man := withCfg (withAxis { st := .manual }) [(axOff 0 0, 4)]
    let held := withAxis { st := .qstop }
    let page := withStg (withCfg fitted axPage) axPage
    let expert := withCfg fitted [(axOff 0 0, 2), (axOff 0 0x30, 0x00010000)]
    let row := page.cascadeRow 0 0
    s.mapped 0 = true ∧ s.admits sent 0x40 [0, 1] = true ∧ (s.axis 0).st = .disabled ∧ s.safetyHolds 0 = false ∧
      s.faults.pkg = false ∧ s.swapForbids 0 = false ∧
      off.mapped 0 = true ∧ (off.axis 0).st = .auto ∧ off.admits sent 0x41 [0] = true ∧ off.admits sent 0x42 [0, 1, 0] = true ∧
      man.mapped 0 = true ∧ (man.axis 0).st = .manual ∧ (man.cfgW (axOff 0 0)).bit 2 = true ∧
      held.mapped 0 = true ∧ (held.axis 0).st = .qstop ∧ (held.axis 0).latched = none ∧ held.safetyHolds 0 = false ∧
      page.mapped 0 = true ∧ page.admits sent 0x43 [0] = true ∧ (page.cfgW (axOff 0 0)).bit 31 = false ∧
      (page.axis 0).st.enabled = false ∧ page.servoWire 0 = some servo ∧ page.axPageInRange 0 servo = true ∧
      page.admits sent 0x44 [0, 0] = true ∧ 0 < page.axRegions 0 ∧ cascadeInRange row page.periodNs = true ∧
      cascadeSaturates servo (cascadeEntries servo row page.periodNs) = false ∧ servo.form = false ∧
      (page.cfgW (axOff 0 0)).bit 1 = false ∧ page.retuneSlot 0 0 = some 1 ∧ page.loadRefused 0 (some 1) = false ∧
      expert.mapped 0 = true ∧ 0 < expert.axRegions 0 ∧ (expert.cfgW (axOff 0 0)).bit 1 = true ∧ expert.servoWire 0 = some servo ∧
      expert.slotSuits 0 0 15 = true ∧ expert.loadRefused 0 (some 15) = false := by decide

/-- A generator of instance 0 in AUTO. -/
def withGen (g : Gen) : State := (withAxis { st := .auto }).setGen 0 g

theorem test_meets_MovesAreQueued :
    let s := withGen {}
    let m : Move := ⟨5, 1, false, true, false, false, 0⟩
    let going := withGen { gst := .run, moves := [m] }
    (s.genAbsent 0 = false ∧ s.genFaulted 0 = false ∧ s.admits sent 0x50 [0, 2 ^ 46, 0x40000001, 0, 1] = true ∧
      ((2 ^ 46 : U64).toInt - (s.gen 0).startPoint).natAbs < 2 ^ 47 ∧ s.vmaxBad 0 0x40000001 = false ∧
      (s.gen 0).gst = .idle ∧ s.genActive 0 = true ∧ s.mvBarred 0 = false ∧ (s.gen 0).intoLimit (2 ^ 46) = false ∧
      0 < (s.gen 0).nFree) ∧
      going.genAbsent 0 = false ∧ going.genFaulted 0 = false ∧ (going.gen 0).gst = .run ∧ (going.gen 0).current = some m ∧
      going.mvBarred 0 = false ∧ going.vmaxBad 0 0x40000001 = false ∧ going.admits sent 0x51 [0, 9, 0x40000001, 0, 1] = true ∧
      going.admits sent 0x51 [0, 9, 0, 1, 0] = true ∧ ((9 : U64).toInt - m.start).natAbs < 2 ^ 47 ∧
      (going.gen 0).intoLimit ((9 : U64).toInt * oneCount - (going.gen 0).p) = false ∧
      ((going.profile 0).stopDist (going.gen 0).v (going.profile 0).vstop : Int) ≤
        (going.gen 0).dir * ((9 : U64).toInt * oneCount - (going.gen 0).p) ∧
      going.admits sent 0x52 [0] = true ∧ (going.gen 0).gst ≠ .home ∧ going.admits sent 0x53 [0] = true ∧
      (going.gen 0).stop = none ∧ (going.gen 0).homing = none := by decide

theorem test_meets_StopsAndHoming :
    let s := withGen {}
    let ch := fitted.setChan 15 { enabled := true }
    (s.genAbsent 0 = false ∧ s.genFaulted 0 = false ∧ s.mvBarred 0 = false ∧ s.admits sent 0x54 [0] = true) ∧
      (s.genAbsent 1 = false ∧ s.genFaulted 1 = false ∧ s.kindOf 1 = 2 ∧ s.mvBarred 1 = false ∧ s.admits sent 0x54 [1] = true) ∧
      s.admits sent 0x55 [0, 0, 0, 1, 5, 2 ^ 31 - 1, 0] = true ∧ (s.gen 0).gst = .idle ∧
      fitted.genAbsent 527 = false ∧ fitted.genFaulted 527 = false ∧ fitted.admits sent 0x57 [15, 1] = true ∧
      (fitted.chan 15).enabled = false ∧ fitted.safetyBlocks 15 = false ∧
      ch.genAbsent 527 = false ∧ ch.genFaulted 527 = false ∧ ch.mvBarred 527 = false ∧ ch.admits sent 0x54 [527] = true ∧
      ch.admits sent 0x57 [15, 0] = true := by decide

/-- Staged pages in range: a local generator's, an encoder's, a ring's, the plant port's and the governor's. -/
def pages : List (Nat × Word) :=
  [(0x20008, 0x00000028), (0x2000C, 0), (0x20010, 0x553C0001), (0x20014, 0x01020002), (0x40008, 0x40010100)] ++
    [(chOff 15 0, 0x01000000)] ++
    [0x18, 0x1C, 0x20, 0x24, 0x28].map (fun o => (pfOff 527 o, (0x40000001 : Word))) ++
    [(pfOff 527 0x30, 0x00FFFFFF), (pfOff 527 0x3C, 0x01010101)]

theorem test_meets_CommitsTakeEffect :
    let s := withStg fitted pages
    let enc := withStg fitted [(encOff 0 4, 2), (encOff 0 8, 1), (encOff 0 12, 0x00010001)]
    let ring := withStg (withCfg fitted [(0x4C000, 1)]) [(0x4C008, 0x40010100)]
    let plant := withStg { fitted with plant := { fitted.plant with portState := 3 } } [(0xD0104, 0x00010000)]
    s.admits sent 0x56 [527] = true ∧ s.genAbsent 527 = false ∧ s.genFaulted 527 = false ∧ (s.cfgW (pfOff 527 0)).bit 31 = false ∧
      s.genPageInRange 527 = true ∧ (s.gen 527).gst ≠ .home ∧ (s.chan (527 - 512)).enabled = false ∧
      3 < 4 ∧ enc.admits sent 0x60 [0] = true ∧ enc.chAbsent 0 = false ∧ enc.fbPageOk 0 = true ∧ enc.fbFeedsEnabled 0 = false ∧
      ring.admits sent 0x70 [3] = true ∧ ringCfgOk (ring.stgW (0x40008 + 0x4000 * 3)) = true ∧ ring.ringExpert 3 = true ∧
      plant.admits sent 0x82 [] = true ∧ plant.plantOk = true ∧ plant.plant.portState = 3 ∧
      s.admits sent 0xB0 [] = true ∧ s.govInRange = true := by decide

/-- Slot 1 sealed; a shadow image that is ready, and one that is due in passage 4. -/
def sealed : State := { fitted with store := { fitted.store with slot1 := { state := 2 } } }

def shadowed (z : Shadow) : State :=
  { fitted with tt := { fitted.tt with shadowState := z, shadow := some image, swapAt := 4 } }

theorem test_meets_TimetableCommands :
    let s := sealed
    let r := shadowed .ready
    let p := shadowed .pending
    s.admits sent 0x00 [] = true ∧ s.admits sent 0x10 [1] = true ∧ (s.store.slot 1).state = 2 ∧ s.tt.shadowState = .empty ∧
      r.admits sent 0x11 [4] = true ∧ r.tt.shadowState = .ready ∧ r.swapAllowed = true ∧ r.twoParts = false ∧
      ((4#32 - sent.accepted).toInt = 4 ∧ (0xFFFFFF#32 - sent.accepted).toInt = 16777215) ∧
      p.admits sent 0x12 [] = true ∧ p.tt.shadowState = .pending ∧ (p.tt.swapAt - sent.accepted).toInt = 4 := by decide

theorem test_meets_TtCancelRule :
    let late : Ctx := { sent with accepted := 1 }
    let p := shadowed .pending
    p.admits late 0x12 [] = true ∧ (p.tt.swapAt - late.accepted).toInt < 4 ∧ fitted.admits sent 0x12 [] = true ∧
      fitted.tt.shadowState ≠ .pending := by decide

/-- Ring 0 in RUN with node 4 in a state, which may receive. -/
def withNode (l : NLock) : State :=
  withCfg { fitted with rings := [(0, { ({} : Ring).setNode 4 { lock := l, rxFree := 1 } with st := .run })] } [(0x40000, 1)]

theorem test_meets_FeedbackRingAndTimeCommands :
    let f := { fitted with encs := [(15, { fault := 1, ended := true })] }
    let s := withNode .closed
    let o := withNode .opened
    let d : U64 := BitVec.ofInt 64 (-15625)
    let m : Word := BitVec.ofInt 32 (-rateMax)
    (f.admits sent 0x61 [15] = true ∧ f.chAbsent 15 = false ∧ f.fbFault 15 ≠ 0 ∧ f.fbEnded 15 = true) ∧
      (s.admits sent 0x71 [0, 4] = true ∧ 4 ≤ s.nNodes 0 ∧ ((s.ring 0).node 4).lock = .closed ∧ s.ringExpert 0 = true) ∧
      (s.admits sent 0x72 [0, 4] = true ∧ (s.ring 0).st = .run ∧ 4 ≠ 0xFF) ∧
      (o.admits sent 0x73 [0, 4, 1, 256, 0x037FFF00] = true ∧ 4 ≤ o.nNodes 0 ∧ ((o.ring 0).node 4).lock = .opened ∧
        (o.ring 0).txq.length < 64 ∧ ((o.ring 0).node 4).rxFree ≠ 0 ∧ 0x037FFF00 + 256 ≤ 0x03800000 ∧ o.bad = []) ∧
      (fitted.admits sent 0x80 [d.toNat] = true ∧ d.toInt.natAbs < 2 ^ 62 ∧ fitted.stepAllowed d.toInt = true ∧
        (withCfg fitted [(0x50000, 1)]).stepAllowed 15625 = true) ∧
      fitted.admits sent 0x81 [m.toNat] = true ∧ m.toInt ≤ rateMax ∧ -rateMax ≤ m.toInt ∧ fitted.follower = false := by decide

/-- Acquisition registers in range: 16 samples kept of variable 0 of instance 0, one after the trigger. -/
def acqCfg : List (Nat × Word) :=
  (0x80010, 0x00100000) :: (0x80100, 0x80000000) ::
    [0, 1, 2, 3].flatMap (fun b => [(0x80808 + 0x40 * b, (16 : Word)), (0x80810 + 0x40 * b, 1), (0x80828 + 0x40 * b, 1)])

/-- The part with those registers, and channel 3 as given. -/
def withPriv (p : Priv) : State :=
  let s := withCfg fitted acqCfg
  { s with acq := { s.acq with privs := [(3, p)] } }

theorem test_meets_AcquisitionCommands :
    let s := withPriv {}
    let armed := withPriv { st := .armed, preValid := true }
    let ended := withPriv { st := .stopped, preHeld := 8, postHeld := 8, trigW := 8 }
    s.admits sent 0x90 [] = true ∧ (∀ b, b < 4 → (privCfgOf s.stgW b).guarded (s.privCfg b) = false ∧
        (privCfgOf s.stgW b).pre + (privCfgOf s.stgW b).post ≤ (privCfgOf s.stgW b).len) ∧ s.acqInRange = true ∧
      (∀ k, k < 64 → (s.stgW (0x80100 + 4 * k)).bit 31 = true → s.mapped ((s.stgW (0x80100 + 4 * k)).bits 16 9) = true) ∧
      s.admits sent 0x91 [3] = true ∧ (s.priv 3).st = .idle ∧ (s.priv 3).maskLoading = false ∧
      s.admits sent 0x92 [3] = true ∧ (s.privCfg 3).mode = 0 ∧
      armed.admits sent 0x93 [3] = true ∧ (armed.priv 3).st = .armed ∧ (armed.privCfg 3).mode = 0 ∧ (armed.priv 3).preValid = true ∧
      ended.admits sent 0x94 [3, 2 ^ 32 - 8, 16, 0] = true ∧ (ended.priv 3).st = .stopped ∧ (ended.privCfg 3).mode = 0 ∧
      16 ≤ (ended.privCfg 3).len ∧ ended.bad = [] ∧
      s.admits sent 0x95 [3] = true ∧ (∀ j, j < (s.privCfg 3).maskN → realLt
        (sampleReal (s.privCfg 3).sel (s.mem.word (maskStage 3 + 8 * j + 4)))
        (sampleReal (s.privCfg 3).sel (s.mem.word (maskStage 3 + 8 * j))) = false) := by decide

/-- A descriptor as a command gives it, at the end of the soft-plane area, and an IDLE descriptor 4095 of four tokens. -/
def described : State :=
  { fitted with mem := [(0x036BFFE3, 0x02), (0x036BFFF1, 0x01), (0x036BFFF2, 0x84), (descAddr 5 + 18, 2),
                       (descAddr 4095 + 18, 4), (descAddr 4095 + 20, 1)] }

/-- A LEAD with its peer in a role. -/
def leading (peer : Nat) : State :=
  let s := running 2
  { s with rope := { s.rope with peer := { role := peer }, peerSeen := true, belaySeen := true, secondRun := 1024 } }

theorem test_meets_SoftPlaneAndRopeCommands :
    let s := described
    let e := s.setEntry 5 (some (({} : Match).setSlot 1 (some 7)))
    let c : Ctx := ⟨1, 7, 6, false, false, 0⟩
    let l := leading 3
    (s.admits sent 0xA0 [0, 0x036BFFE0] = true ∧ s.schedFaulted 0 = false ∧ s.descState 0 = 0 ∧ 0x036BFFE0 % 32 = 0 ∧
        s.undecodable 0x036BFFE0 = false ∧ s.descOk (s.mem.bytes 0x036BFFE0 32) = true ∧
        (s.mem.byte (0x036BFFE0 + 18)).getLsbD 7 = true) ∧
      (s.admits sent 0xA1 [4095, 3, 9] = true ∧ s.schedFaulted 4095 = false ∧ s.descState 4095 ≠ 0 ∧ 3 < s.descNtok 4095 ∧
        2 ≤ s.descNtok 4095 ∧ s.entry 4095 = none ∧ s.sched.entries.length < 1024) ∧
      (e.admits sent 0xA2 [5] = true ∧ e.schedFaulted 5 = false ∧ e.entry 5 = some (({} : Match).setSlot 1 (some 7)) ∧
        (({} : Match).setSlot 1 (some 7)).complete (e.descNtok 5) = false) ∧
      l.rope.role = 2 ∧ c.forwarded = false ∧ l.admits c 0xC0 [4] = true ∧ (4#32 - c.accepted).toInt = 4 ∧
      l.hasSecond = true ∧ l.belayHealthy = true ∧ 1024 ≤ l.rope.secondRun ∧
      ((withCfg l [(0x90000, 1)]).cfgW 0x90000).bit 0 = true ∧
      (leading 5).admits c 0xC1 [] = true ∧ (leading 5).rope.peer.role = 5 ∧
      (leading 5).rope.peer.image = (leading 5).image.id ∧
      l.admits c 0xC2 [] = true ∧ (leading 4).hasJoiner = true ∧ (leading 4).admits c 0xC2 [] = true := by decide

/-- A safety set with every function off: its magic, FORMAT 1, LEN 0x760, SWD 15. -/
def emptySet : Tab Byte := [(0, 0x53), (1, 0x41), (2, 0x46), (3, 0x50), (4, 1), (6, 0x60), (7, 0x07), (0x0D, 15)]

/-- That set where a command finds it, at the end of the region. -/
def loadable : State := { fitted with mem := emptySet.map (fun p => (0x037FF8A0 + p.1, p.2)) }

theorem nthD_append_zeros (p : List Byte) (n k : Nat) : nthD 0 (p ++ List.replicate n 0) k = nthD 0 p k := by
  induction p generalizing k with
  | nil =>
    have h : ∀ n k, nthD (0 : Byte) (List.replicate n 0) k = 0 := by
      intro n
      induction n with
      | zero => intro k; cases k <;> rfl
      | succ n ih => intro k; cases k with
        | zero => rfl
        | succ k => simpa [List.replicate_succ, nthD] using ih k
    exact h n k
  | cons x r ih => cases k with
    | zero => rfl
    | succ k => simpa [nthD] using ih k

theorem nthD_beyond (p : List Byte) (k : Nat) (h : p.length ≤ k) : nthD 0 p k = 0 := by
  induction p generalizing k with
  | nil => rfl
  | cons x r ih => cases k with
    | zero => simp at h
    | succ k => simpa [nthD] using ih k (by simpa using h)

theorem setOfBytes_append_zeros (p : List Byte) (n : Nat) : setOfBytes (p ++ List.replicate n 0) = setOfBytes p := by
  have h : ((List.range n).map (p.length + ·)).filter (fun k => nthD 0 p k != 0) = [] := by
    simp only [List.filter_eq_nil_iff, List.mem_map, forall_exists_index, and_imp]
    rintro k j - rfl
    have := nthD_beyond p (p.length + j) (Nat.le_add_right _ _)
    simpa using this
  simp only [setOfBytes, nthD_append_zeros, List.length_append, List.length_replicate, List.range_add, List.filter_append, h,
    List.append_nil]

theorem bytes_unlisted (m : Mem) (a n : Nat) (h : ∀ k, a ≤ k → m.byte k = 0) : m.bytes a n = List.replicate n 0 := by
  induction n generalizing a with
  | zero => rfl
  | succ n ih => rw [Mem.bytes, h a (Nat.le_refl a), ih (a + 1) (fun k hk => h k (by omega)), List.replicate_succ]

theorem bytes_add (m : Mem) (a i j : Nat) : m.bytes a (i + j) = m.bytes a i ++ m.bytes (a + i) j := by
  induction i generalizing a with
  | zero => simp [Mem.bytes]
  | succ i ih => rw [Nat.succ_add, Mem.bytes, ih, Mem.bytes, List.cons_append, Nat.add_assoc a 1 i, Nat.add_comm 1 i]

theorem loadable_set : setOfBytes (loadable.mem.bytes 0x037FF8A0 0x760) = emptySet := by
  have h : loadable.mem.bytes (0x037FF8A0 + 16) 1872 = List.replicate 1872 0 := by
    apply bytes_unlisted
    intro k hk
    have : ∀ x, x < 16 → k ≠ 0x037FF8A0 + x := by omega
    simp [loadable, emptySet, Mem.byte, Tab.get]
    repeat' split
    all_goals first | omega | rfl
  rw [show 0x760 = 16 + 1872 from rfl, bytes_add, h, setOfBytes_append_zeros]
  decide

/-- Function 31 stops all (KIND 1) and is reset by the host (RESET 1); brake 7 is that of instance 0. -/
def someSet : Tab Byte := emptySet ++ [(0xE0 + 16 * 7, 1), (0x160 + 16 * 31 + 2, 1), (0x160 + 16 * 31 + 3, 1)]

def guarded (fn : Fn) (a : Axis) : State :=
  { withAxis a with safe := { state := 2, confirmed := some someSet, fns := [(31, fn)] } }

theorem test_meets_SafetyCommands :
    let s := loadable
    let w := { fitted with safe := { state := 1, awaiting := some emptySet, checkPending := 9 } }
    let g := guarded { demand := true, wait := true } {}
    let b := guarded { demand := false } { st := .auto }
    s.admits sent 0xD0 [0x037FF8A0] = true ∧ 0x037FF8A0 % 32 = 0 ∧ 0x037FF8A0 + 0x760 ≤ 0x03800000 ∧ s.bad = [] ∧
      setField emptySet 6 2 = 0x760 ∧ setInRange emptySet s.periodNs = true ∧ s.anyEnabled = false ∧ s.safe.state ≠ 15 ∧
      w.admits sent 0xD1 [w.safe.checkPending.toNat] = true ∧ w.safe.awaiting = some emptySet ∧ w.safe.state = 1 ∧
      w.store.busySafe = none ∧
      g.admits sent 0xD2 [31] = true ∧ (fnRule g.safe.rules 31).kind ≠ 0 ∧ g.safe.state = 2 ∧
      g.admits sent 0xD3 [31] = true ∧ (g.safe.fn 31).wait = true ∧ (fnRule g.safe.rules 31).reset = 1 ∧
      g.safe.inputDemand g.safe.rules 31 = false ∧
      b.admits sent 0xD4 [7] = true ∧ (brkRule b.safe.rules 7).used = true ∧ (brkRule b.safe.rules 7).inst = 0 ∧
      (b.axis 0).st = .auto ∧ (b.gen 0).gst = .idle ∧ b.safetyHolds 0 = false ∧ b.nodeRun (b.ringOf 0) (b.nodeOf 0) = true ∧
      b.safe.bt.step = .none ∧
      (brkRule b.safe.rules 7).btDir = 0 := by decide

/-- A part whose log holds one entry, whose slot 1 holds a written image and whose slot 0 is sealed. -/
def stored : State :=
  { fitted with
    store := { fitted.store with logWr := 1, slot0 := { state := 2 }, slot1 := { state := 1 } }
    host := { fitted.host with speed := 3, width := 4, bme := true } }

/-- The owner key whose hash is the one given. -/
def keyed (k0 k1 : Option (BitVec 256)) : State :=
  { fitted with store := { fitted.store with ident := { fitted.store.ident with key0 := { hash := k0 }, key1 := { hash := k1 } } } }

theorem other_hash (h : BitVec 256) : h + 1 ≠ h := by simp

theorem stored_records : stored.saveRecords.length ≤ 32764 := by
  unfold State.saveRecords
  rw [List.length_map]
  exact Nat.le_trans (List.length_filter_le _ _) (by decide +kernel)

theorem test_meets_StoreCommands :
    let s := stored
    let k := keyed none (some 5)
    let v := keyed (some (Config.sha256 (fitted.store.slotHead 0).key + 1)) (some 5)
    (s.admits sent 0xE0 [] = true ∧ s.store.busyParam = none ∧
      s.admits sent 0xE1 [1, 2097152 - 65536, 0x036E8000, 65536] = true ∧ s.bad = [] ∧ s.slotHeld = false ∧
      1 ≠ s.store.ident.bootSlot ∧ s.tt.shadowState ≠ .loading ∧
      s.admits sent 0xE2 [1] = true ∧ (s.store.slot 1).state = 1 ∧
      s.admits sent 0xE3 [0, 0, 1] = true ∧ (s.store.slot 0).state = 2 ∧
      s.admits sent 0xE4 [0, 1, 0x1000] = true ∧ (0#32 - s.store.logAck).toNat + 1 ≤ s.store.held ∧ s.dmaUp = true ∧
      s.admits sent 0xE5 [1, 0] = true ∧ (1#32 - s.store.logAck).toNat ≤ s.store.held ∧ s.store.held < 60000 ∧
      (0#32 = BitVec.ofNat 32 (natLE (s.store.bytes (0x400000 + 32 * ((1#32 - 1).toNat % 65536) + 28) 4))) ∧
      s.admits sent 0xE6 [] = true ∧ s.anyEnabled = false ∧
      k.admits sent 0xE7 [0, 0x037FFFE0] = true ∧
      s.admits sent 0xE9 [0x037FFFF0] = true ∧ (∀ j, j < 16 → 10 ≤ j → s.mem.byte (0x037FFFF0 + j) = 0) ∧ s.rope.role = 1) ∧
      s.saveRecords.length ≤ 32764 ∧ k.store.ident.key0.hash = none ∧ k.store.ident.next0 = none ∧
      v.admits sent 0xE8 [0] = true ∧ v.store.ident.bootSlot ≤ 1 ∧ v.store.ident.key1.hash ≠ none ∧
      v.store.ident.key1.revoked = false ∧
      v.store.ident.key0.hash ≠ some (Config.sha256 (v.store.slotHead v.store.ident.bootSlot).key) :=
  ⟨by decide, stored_records, rfl, rfl, rfl, Nat.zero_le 1, nofun, rfl, fun e => other_hash _ (Option.some.inj e)⟩

/-- A part in a phase of its start-up. -/
def inPhase (p : Phase) : State := { State.reset with host := { State.reset.host with phase := p } }

theorem test_meets_StartUpPhases :
    (999 < 1000 ∧ 1999 < 2000) ∧ (inPhase .wake).host.phase = .wake ∧ (inPhase .wake).store.tamperDue = false ∧
      (inPhase .wake).store.batDue = false ∧ (inPhase .clear).host.phase = .clear ∧
      (let s := { inPhase .image with store := { State.reset.store with level := 1 } }
       s.host.phase = .image ∧ s.authenticate s.store.ident.bootSlot = some ⟨codeAuth, 0xFFFF⟩ ∧ s.store.level = 1) ∧
      (let s := inPhase .image
       s.host.phase = .image ∧ s.authenticate s.store.ident.bootSlot = some ⟨codeAuth, 0xFFFF⟩ ∧ s.store.level ≠ 1 ∧
         s.authenticate (1 - s.store.ident.bootSlot) = some ⟨codeAuth, 0xFFFF⟩) ∧
      (inPhase .arm).host.phase = .arm ∧ (inPhase .arm).host.queue = [] ∧ (inPhase .arm).host.stops = [] := by decide

theorem test_meets_HostLinkEvents :
    let s := { fitted with host := { fitted.host with perstn := true, queue := [⟨0, 0, []⟩, ⟨255, 0, []⟩] } }
    (s.host.queue.map (fun p => 0x03604000 + 16 * (p.seq.toNat % 256))).Nodup ∧ s.host.phase ≠ .por ∧ s.host.perstn = true ∧
      fitted.host.perstn = false := by decide

theorem test_meets_StoreEvents :
    let s := { fitted with store := { fitted.store with opening := true, busyParam := some ⟨1, [], 1⟩, busySafe := some ⟨0, [], 1⟩ } }
    s.host.phase ≠ .por ∧ s.host.phase ≠ .halt ∧ s.store.opening = true ∧ fitted.store.opening = false ∧
      s.store.busyParam = some ⟨1, [], 1⟩ ∧ s.store.busySafe = some ⟨0, [], 1⟩ := by decide

theorem test_meets_PassagesBegin :
    let s := running 1
    let p := { shadowed .pending with tt := { (shadowed .pending).tt with passage := 4 } }
    State.reset.tt.clockOn = false ∧ s.tt.clockOn = true ∧ s.host.phase = .run ∧ s.rope.role = 1 ∧ s.faults.reactDue = false ∧
      s.faults.flagged = [] ∧ s.tt.shadowState = .empty ∧ s.host.queue = [] ∧ s.host.stops = [] ∧ s.host.taken = [] ∧
      s.store.dbgReq = false ∧
      p.tt.shadowState = .pending ∧ p.tt.shadow = some image ∧ p.tt.swapAt = p.tt.passage := by decide

/-- The entries of island 15 of tier 0: a RUN of END on its DSP core, a MOVE of one word with marker 5, a GATE on it, a MOVE
into a release source, and a RESERVE. -/
def entries : List Entry :=
  [⟨0, 1, 1, 0, 0, 0, 0, 4, 0xFFFF, 0, 0⟩, ⟨2, 9, 2, 0, 0, 0, 0, 0x01FFFFE0, 0x00010001, 0x05000000, 0⟩,
    ⟨3, 1, 3, 0, 0, 0, 5, 4, 0, 0, 0⟩, ⟨12, 9, 2, 0, 0, 0, 0, 0x03000000, 0x00010001, 0x05000000, 0⟩,
    ⟨0, 9, 4, 0, 0, 0, 0, 2, 0, 0, 0⟩]

def scheduled : Image :=
  { image with
    tiers := [(List.range 16).map (fun k => ⟨1, if k = 15 then entries else []⟩)]
    rel := [⟨100, 8, 5, 1, 0x03000000, 1⟩], code := [(0, BitVec.ofNat 64 (2 ^ 56))], codeLen := 8 }

/-- A part that runs those entries: those open, and the markers set, are as given. -/
def timetabled (opened : List (Nat × Nat)) (markers : List Nat) : State :=
  { fitted with tt := { fitted.tt with running := some scheduled, openEntries := opened, markers := markers } }

theorem test_meets_EntriesExecute :
    let s := timetabled [] []
    let m := timetabled [] [5]
    let o := timetabled [(15, 0), (15, 1)] []
    (m.tt.clockOn = true ∧ m.tt.released.contains 8 = false ∧ m.releaseOffset 8 = some 100 ∧
      m.relOf 8 = some ⟨100, 8, 5, 1, 0x03000000, 1⟩ ∧
      (∀ c, c < 16 → m.handedOver ⟨100, 8, 5, 1, 0x03000000, 1⟩ (0x03000000 + 32 * (c * 1 / 16)) = true)) ∧
      (let e : Entry := ⟨0, 1, 1, 0, 0, 0, 0, 4, 0xFFFF, 0, 0⟩
       s.entryAt 15 0 = some e ∧ e.kind = 1 ∧ e.op1.toNat ≤ 4 ∧ s.entryRuns 15 0 e = true ∧ s.openRun 15 4 = none ∧
       1 ≤ e.budget ∧ 512 ≤ e.op2.toNat ∧ s.image.wiring.locals = [] ∧ (15, 0) ∉ s.tt.openEntries ∧
       s.codeWord (luxUnit 15 4) e.op0.toNat = some (BitVec.ofNat 64 (2 ^ 56)) ∧
       o.entryAt 15 0 = some e ∧ (15, 0) ∈ o.tt.openEntries) ∧
      (let e : Entry := ⟨2, 9, 2, 0, 0, 0, 0, 0x01FFFFE0, 0x00010001, 0x05000000, 0⟩
       s.entryAt 15 1 = some e ∧ e.kind = 2 ∧ s.entryRuns 15 1 e = true ∧ e.op2.bits 16 5 = 1 ∧ e.op2.bits 0 13 = 1 ∧
       e.op0.toNat + 32 ≤ e.op1.toNat ∧ e.op1.toNat + 32 ≤ 0x02000000 ∧ s.undecodable e.op0.toNat = false ∧
       s.inSource e.op1.toNat = false ∧ s.bad = [] ∧ o.entryAt 15 1 = some e ∧ (15, 1) ∈ o.tt.openEntries) ∧
      (let e : Entry := ⟨3, 1, 3, 0, 0, 0, 5, 4, 0, 0, 0⟩
       s.entryAt 15 2 = some e ∧ e.kind = 3 ∧ s.entryRuns 15 2 e = true ∧ s.tt.markers.contains (e.op0.bits 0 8) = false ∧
       m.entryAt 15 2 = some e ∧ m.entryRuns 15 2 e = true ∧ m.tt.markers.contains (e.op0.bits 0 8) = true) ∧
      (let e : Entry := ⟨0, 9, 4, 0, 0, 0, 0, 2, 0, 0, 0⟩
       s.entryAt 15 4 = some e ∧ e.kind = 4 ∧ s.entryRuns 15 4 e = true) := by decide

theorem test_meets_CheckBytesMakeCodewords :
    let data := (List.range 32).map (BitVec.ofNat 8)
    data.length = 32 ∧ (checkBytes data).length = 8 ∧ isCodeword (data ++ checkBytes data) = true ∧
      isCodeword (data ++ List.replicate 8 0) = false := by decide +kernel

theorem test_meets_HardwareFaultsAreContained :
    let s := { fitted with bad := [0x00FFFFE0], wrong := [(0x00FFFFC0, 4), (0x00FFFFE0, 1)] }
    s.host.phase = .run ∧ 2 < 3 ∧ 0x00FFFFFF < 0x01000000 ∧ s.portHeld 0x00FFFFFF = false ∧ s.portHeld 0x00FFFFDF = false ∧
      s.undecodable 0x00FFFFFF = true ∧ s.undecodable 0x00FFFFDF = false ∧ max 1 (s.wrongAt 0x00FFFFDF) = 4 ∧
      max 5 (s.wrongAt 0x00FFFFDF) = 5 ∧ s.undecodable 0 = false ∧ max 0 (s.wrongAt 0) = 0 := by decide

theorem test_meets_AxisAndGovernorEvents :
    let t := withAxis { st := .auto, tripDue := true }
    let g := withGen { stallDue := true, stall := true }
    let l := withAxis { load := some ⟨15, 15, 0, [], none⟩ }
    let f := shadowed .loading
    let trip := { fitted with gov := { fitted.gov with tripRun := [0, 0, 0, 0, 0, 16] } }
    ((t.axis 0).tripDue = true ∧ (t.axis 0).st ≠ .disabled) ∧
      ((g.gen 0).stallDue = true ∧ (g.gen 0).gst ≠ .home ∧ (g.cfgW (pfOff 0 0)).bits 4 2 = 0 ∧
        (fitted.gen 0).stallDue = false) ∧
      ((l.axis 0).load = some ⟨15, 15, 0, [], none⟩ ∧ l.servoWire 0 = some servo ∧ later 0 l.tt.passage = false) ∧
      (f.tt.shadowState = .loading ∧ f.authenticate f.tt.loadSlot = some ⟨codeAuth, 0xFFFF⟩) ∧
      fitted.tt.clockOn = true ∧ (fitted.cfgW 0x20008).bit 31 = false ∧ fitted.gov.failed.length = 6 ∧
      nthD false fitted.gov.failed 5 = false ∧ trip.gov.tripRun.any (fun n => decide (16 ≤ n)) = true ∧
      fitted.gov.tripRun.any (fun n => decide (16 ≤ n)) = false := by decide

/-- The host's entry registers hold AX_DISABLE of instance 511, and perhaps its flag is set. -/
def disabling (flag : Tab (Option Push)) : State :=
  { fitted with host := { fitted.host with entry := [0x41, 511, 0, 0, 0, 0, 0, 0], stops := flag } }

theorem test_meets_PushesEnterTheQueue :
    let full := { fitted with host := { fitted.host with queue := List.replicate 256 ⟨0, 0, []⟩ } }
    let q : Push := ⟨9, 0, []⟩
    fitted.host.phase ≠ .por ∧ stopPlace fitted.host.entryBytes = none ∧ fitted.host.queue.length < 256 ∧
      stopPlace full.host.entryBytes = none ∧ full.host.queue.length = 256 ∧
      stopPlace (disabling []).host.entryBytes = some 511 ∧ Tab.get none (disabling []).host.stops 511 = none ∧
      stopPlace (disabling [(511, some q)]).host.entryBytes = some 511 ∧
      Tab.get none (disabling [(511, some q)]).host.stops 511 = some q := by
  refine ⟨by decide, by decide, by decide, by decide, List.length_replicate, by decide, by decide, by decide, by decide⟩

/-- The host with every right. -/
def privileged : State := withCfg fitted [(0x1004, 0x1FF)]

theorem test_meets_RegisterWritesTakeTheirFields :
    maskOf 0x1FFFFFC = none ∧ hostBarred 0x1FFFFFC = false ∧ (maskOf 0x20008).isSome = true ∧
      (∀ m, maskOf 0x20008 = some m → m.staged = true ∧ m.lk = 0) ∧ fitted.host.phase ≠ .por ∧
      fitted.lacks originHost (some 1) = true ∧ privileged.lacks originHost (some 1) = false ∧ privileged.rope.role ≠ 2 ∧
      0x3C = 0x20 + 4 * 7 := by decide

theorem test_meets_RegisterWritesKeepLocks :
    let o := axOff 511 0
    (maskOf o).isSome = true ∧ (∀ m, maskOf o = some m → m.lock = true) ∧ ((withCfg fitted [(o,
        0x80000000)]).cfgW o).bit 31 = true := by
  decide

theorem test_meets_PerfReservedOffsets :
    ∀ o ∈ [4, 0xFC, 0x300, 0x600, 0x900, 0xA80, 0xA08, 0xFFFC], o < 0x10000 ∧ o % 4 = 0 ∧
      ¬ (o = 0 ∨ (0x100 ≤ o ∧ o < 0x300) ∨ (0x400 ≤ o ∧ o < 0x600) ∨ (0x800 ≤ o ∧ o < 0x900) ∨
        (0xA00 ≤ o ∧ o < 0xA80 ∧ (o % 0x10 = 0 ∨ o % 0x10 = 4))) := by decide

theorem test_meets_LocksWindowsAndMailboxes :
    let o := 0x1000
    let s := { fitted with host := { fitted.host with lkPend := [⟨o, 1, 0⟩], mboxes := [(5, { busy := true })] } }
    (maskOf o).isSome = true ∧ (∀ m, maskOf o = some m → m.staged = false ∧ m.lock = true) ∧ s.lockedAt o = false ∧
        fitted.host.lkPend = [] ∧
      s.host.phase ≠ .por ∧ hostBarred (aliasOff 0x3FFFFFC) = false ∧
      bar2Range 0x036BFFFC 4 = 2 ∧ privileged.lacks originHost (some 1) = false ∧ privileged.rope.role ≠ 2 ∧
      bar2Range 0x036BFFFE 4 ≠ 2 ∧ bar2Range 0x036C0000 32 ≠ 0 ∧ s.bad = [] ∧ (∀ j, j < 32 → inMatching (0x036C0000 + j) = false) ∧
      bar2Range 0x03700000 1 = 0 ∧ (s.mbox 5).busy = true := by decide

theorem natLE_bytesLE (n v : Nat) : natLE (bytesLE n v) = v % 256 ^ n := by
  induction n generalizing v with
  | zero => simp [bytesLE, natLE, Nat.mod_one]
  | succ n ih => rw [bytesLE, natLE, ih, BitVec.toNat_ofNat, show 256 ^ (n + 1) = 256 * 256 ^ n by ring, Nat.mod_mul]

theorem bytesLE_size (n v : Nat) : (bytesLE n v).length = n := by
  induction n generalizing v with
  | zero => rfl
  | succ n ih => simp [bytesLE, ih]

theorem withCheck_length (bs : List Byte) : (withCheck bs).length = bs.length + 4 := by
  simp [withCheck, bytesLE_size]

/-- A frame that ends in its own CHECK is good. -/
theorem frameOk_withCheck (bs : List Byte) : frameOk (withCheck bs) = true := by
  have h : (withCheck bs).length - 4 = bs.length := by simp [withCheck, bytesLE_size]
  unfold frameOk
  simp only [h]
  simp only [withCheck, fieldLE, List.take_left, List.drop_left, List.length_append, bytesLE_size]
  rw [List.take_of_length_le (by simp [bytesLE_size]), natLE_bytesLE, Nat.mod_eq_of_lt (by simpa using (crc32c bs).isLt)]
  simp

theorem nthD_append (bs cs : List Byte) (k : Nat) (h : k < bs.length) : nthD 0 (bs ++ cs) k = nthD 0 bs k := by
  induction bs generalizing k with
  | nil => simp at h
  | cons b r ih => cases k with
    | zero => rfl
    | succ k => simpa [nthD] using ih k (by simpa using h)

theorem fieldLE_append (bs cs : List Byte) (k n : Nat) (h : k + n ≤ bs.length) : fieldLE (bs ++ cs) k n = fieldLE bs k n := by
  unfold fieldLE
  rw [List.drop_append_of_le_length (by omega), List.take_append_of_le_length (by simp; omega)]

theorem test_meets_CountersAndMonitors :
    let s := fitted
    let m := withCfg { s with perf := { s.perf with bws := [(15, { start := some 1000 })] } } [(0xB08F0, 0x80000000), (0xB0A70,
        0x80000000)]
    s.host.phase ≠ .por ∧ perfEventOk (Word.bits 0#32 0 16) (Word.bits 0#32 16 8) = false ∧
      perfEventOk (Word.bits 0x003F0104#32 0 16) (Word.bits 0x003F0104#32 16 8) = true ∧ (s.perfCfg 127).bit 31 = false ∧
      (let w : Word := 0x0A4F4240
       portOk (w.bits 20 8) = true ∧ w.bits 29 2 ≠ 3 ∧ 1 ≤ w.bits 0 20 ∧ w.bits 0 20 = 1000000) ∧
      m.host.phase ≠ .por ∧ (m.cfgW (0xB0800 + 0x10 * 15)).bit 31 = true ∧ (m.bw 15).start = some 1000 ∧
      (m.cfgW (0xB0A00 + 0x10 * 7)).bit 31 = true := by decide

/-- The scheduler's books and the descriptor 4095 of one token, of core 7, in a state; the tokens of ring 3 go into it. -/
def scheduling (st : Byte) (x : Sched) : State :=
  withCfg { fitted with mem := [(descAddr 4095 + 17, 0x80), (descAddr 4095 + 18, 1), (descAddr 4095 + 20, st)], sched := x }
    [(0x1004, 0x1FF), (0x30008, 1), (sourceRoute 99, 4095)]

theorem test_meets_SchedulerWindowsAndRights :
    let s := scheduling 2 { window := 1 }
    s.host.phase ≠ .por ∧ Word.bits 0xFFFF#32 0 16 ≠ 0 ∧ Word.bits 0x10000#32 0 16 = 0 ∧ (s.cfgW 0x30008).bits 0 16 ≠ 0 ∧
      (s.cfgW 0x30008).bits 0 16 ≤ s.sched.window ∧ (fitted.cfgW 0x30008).bits 0 16 = 0 ∧
      (scheduling 2 {}).sched.window < ((scheduling 2 {}).cfgW 0x30008).bits 0 16 ∧
      s.lacks originHost (some 6) = false ∧ fitted.lacks originHost (some 6) = true := by decide

theorem test_meets_TasksTokensAndDelays :
    let s := scheduling 2 { order := [(4095, 1)] }
    let r := scheduling 2 { order := [(4095, 1)], resume := [4095] }
    let p := scheduling 5 { dlyPassage := [(4095, 0)] }
    let m := scheduling 5 { dlyMicro := [(4095, 0)] }
    (∀ x ∈ [s, r], (x.core 7).task = none ∧ (x.core 7).out = false ∧ x.sched.fault = false ∧
        x.firstOf (x.startable 7) = some 4095 ∧ x.undecodable (descAddr 4095) = false) ∧
      s.sched.resume.contains 4095 = false ∧ r.sched.resume.contains 4095 = true ∧
      (wordsOf (r.descWord 4095 12).toNat 128).all (fun w => !r.undecodable w) = true ∧
      p.descState 4095 = dDelayed ∧ p.sched.dlyPassage.find? (fun q => q.1 == 4095) = some (4095, 0) ∧
      m.descState 4095 = dDelayed ∧ m.sched.dlyPassage.find? (fun q => q.1 == 4095) = none ∧
      m.sched.dlyMicro.find? (fun q => q.1 == 4095) = some (4095, 0) ∧ 1000 * 0 ≤ m.time.raw.toNat := by decide

theorem test_meets_pending_tokens_of_TasksTokensAndDelays :
    let full : Tab (Option Match) := [(4095, some (({} : Match).setSlot 0 (some 7)))]
    let idle := scheduling dIdle { pendRing := 8 }
    let busy := scheduling 3 { pendRing := 8 }
    let invalid := scheduling 0 { pendRing := 8 }
    let fault := scheduling dIdle { pendRing := 8, fault := true }
    let taken := scheduling dIdle { pendRing := 8, entries := full }
    let lost := { idle with bad := [descAddr 4095] }
    let m := ({} : Match).setSlot 0 (some 0)
    (∀ x ∈ [idle, busy, invalid, fault, taken, lost], x.sourcePending 99 = true ∧ (x.cfgW (sourceRoute 99)).bits 0 12 = 4095 ∧
        (x.cfgW (sourceRoute 99)).bits 12 2 = 0) ∧
      lost.undecodable (descAddr 4095) = true ∧ idle.undecodable (descAddr 4095) = false ∧ fault.sched.fault = true ∧
      invalid.descState 4095 = dInvalid ∧ idle.descState 4095 = dIdle ∧ 0 < idle.descNtok 4095 ∧ idle.entry 4095 = none ∧
      idle.freeMatches ≠ 0 ∧ m.complete (idle.descNtok 4095) = true ∧ busy.descState 4095 ≠ dIdle ∧
      taken.entry 4095 = some (({} : Match).setSlot 0 (some 7)) ∧ ((({} : Match).setSlot 0 (some 7)).slot 0).isNone = false := by
  decide

/-- A part with pin 63 and comparator 31 as given. -/
def pinned (e : Evio) (c : Cmp) : State :=
  { fitted with time := { fitted.time with evios := [(63, e)], cmps := [(31, c)] } }

theorem test_meets_TimeBlockActs :
    let off := pinned {} {}
    let q := pinned { mode := 1, edge := 3, latch := [(0, 1)], queue := List.replicate 15 (1, true), period := 8, phigh := 4 }
      { arm := true, skip := 65535 }
    let full := pinned { mode := 1, queue := List.replicate 16 (1, true), period := 8, phigh := 5 } {}
    let run := pinned { mode := 2 } {}
    let high := pinned { mode := 2, fallAt := some 4, nextRise := 8 } {}
    let lost := { q with time := { q.time with capWr := 1024 } }
    off.host.phase ≠ .por ∧ off.rope.role ≠ 2 ∧ (off.cmp 31).skip < 65536 ∧ (off.cmp 31).arm = false ∧
      (q.cmp 31).arm = true ∧ q.time.counting = true ∧ (off.evio 63).mode ≠ 1 ∧ (off.evio 63).mode ≠ 2 ∧
      (q.evio 63).mode = 1 ∧ 8 ≤ (q.evio 63).period.toNat ∧ 4 ≤ (q.evio 63).phigh.toNat ∧
      (q.evio 63).phigh.toNat + 4 = (q.evio 63).period.toNat ∧ (q.evio 63).queue.length < 16 ∧
      dueAt q.time.time (Tab.get 0 (q.evio 63).latch 0) = false ∧ (q.evio 63).queue.head? = some (1, true) ∧
      (full.evio 63).mode = 1 ∧ 16 ≤ (full.evio 63).queue.length ∧
      (full.evio 63).period.toNat < (full.evio 63).phigh.toNat + 4 ∧
      (run.evio 63).mode = 2 ∧ run.time.counting = true ∧ (run.evio 63).fallAt = none ∧ (run.evio 63).oldFalls = [] ∧
      (high.evio 63).mode = 2 ∧ (high.evio 63).fallAt = some 4 ∧ 0 ≤ ((high.evio 63).nextRise - 4).toInt ∧
      (high.evio 63).oldFalls = [] ∧ (off.evio 63).filt < 1 ∧ 0 ≤ (off.evio 63).filt ∧ q.laterCaptures 63 0 = 0 ∧
      (∀ b, b < 4 → (q.privCfg b).mode = 0) ∧
      (q.evio 63).level ≠ true ∧ (q.evio 63).edge.testBit 0 = true ∧ (off.evio 63).edge.testBit 0 = false ∧
      (q.time.capWr - q.time.capRd).toNat < 1024 ∧ (lost.time.capWr - lost.time.capRd).toNat = 1024 ∧
      (off.time.capWr - 0xFFFFFC00).toNat = 1024 ∧ 1024 < (off.time.capWr - 0xFFFFFBFF).toNat ∧
      ((off.ring 3).arxWr - 0xFFFFFE00).toNat = 512 ∧ 512 < ((off.ring 3).arxWr - 0xFFFFFDFF).toNat ∧
      (off.cfgW 0x80010).bits 30 2 ≠ 2 ∧ (off.acq.strWr - 0xFFFF0000 - off.acq.strDrop).toNat ≤ off.streamCap ∧
      off.streamCap < (off.acq.strWr - 0xFFFEFFFF - off.acq.strDrop).toNat := by decide

/-- Port 7 in SSI with a word of 16 data bits (with bit 28, an error bit that is an error at 0), a limit of 5, 1 failure allowed
and the hand-over at 1000 ns. -/
def listening (cfg : Word) (x : Ser) : State :=
  let wired := { image with wiring := { image.wiring with serialDeadline := [0, 0, 0, 0, 0, 0, 0, 100] } }
  withCfg { fitted with sers := [(7, x)], tt := { fitted.tt with running := some wired } }
    [(serOff 7 0, cfg), (serOff 7 8, 0x10000005)]

/-- The sixteen samples of a number. -/
def sampled (n : Nat) : List Bool := (List.range 16).map (fun k => n.testBit (15 - k))

theorem test_meets_crc_of_serial_words :
    (crc8 (1 / 256) 40 0).toNat ≠ 1 ∧ serialWord 0x84100000 (some 1) = .fail 2 false ∧
      (crc8 (32905 / 256) 40 0).toNat = 32905 % 256 ∧ Nat.testBit 32905 15 = true ∧ (crc8 (0 / 256) 40 0).toNat = 0 ∧
      Nat.testBit 0 15 = false := by decide +kernel

theorem test_meets_serial_words_of_EncodersAndSerialPorts :
    let s := listening 0x04100000 {}
    let p := listening 0x04100000 { last := some 0, failRun := 1 }
    let e := listening 0x14100000 {}
    let received (x : State) (edge0 : Bool) (n first : Nat) : Option Nat := serialReceived (x.cfgW (serOff 7 0))
      (x.cfgW (serOff 7 4)) (10 * nthD 0 x.image.wiring.serialDeadline 7) first edge0 (sampled n)
    (∀ k, k < 6 → received s true 5 (10 + k) = some 5 ∧ received s false 5 (10 + k) = none ∧
        received e true 5 (10 + k) = some 5 ∧ received p true 6 (10 + k) = some 6) ∧
      s.tt.clockOn = true ∧ s.rope.role ≠ 2 ∧ e.tt.clockOn = true ∧ p.tt.clockOn = true ∧
      (s.ser 7).last = none ∧ (p.ser 7).last = some 0 ∧ serialWord (s.cfgW (serOff 7 0)) (some 5) = .pos 5 false ∧
      serialWord (e.cfgW (serOff 7 0)) (some 5) = .fail 3 false ∧ serialWord (p.cfgW (serOff 7 0)) (some 6) = .pos 6 false ∧
      (signedDiff ((p.cfgW (serOff 7 0)).bits 16 6) 5).natAbs ≤ (p.cfgW (serOff 7 8)).bits 0 28 ∧
      (p.cfgW (serOff 7 8)).bits 0 28 < (signedDiff ((p.cfgW (serOff 7 0)).bits 16 6) 6).natAbs ∧
      1 ≤ (p.cfgW (serOff 7 8)).bits 28 4 ∧ (p.cfgW (serOff 7 8)).bits 28 4 ≤ (p.ser 7).failRun ∧ (p.ser 7).fault ≠ 3 := by
  decide

theorem test_meets_EncodersAndSerialPorts :
    let q := [(encOff 15 0, 0x02000000), (encOff 15 0xC, (0x00010001 : Word))]
    let e := withCfg { fitted with encs := [(15, { ab := 3, window := some ⟨1, 1, false⟩, idxThis := true, idxLevel := true })] } q
    let w := withCfg { fitted with encs := [(15, { ab := 3, window := some ⟨0, 0, true⟩ })] } q
    let r := { fitted with rems := [(511, { window := some ⟨0, 0, false⟩ })] }
    let filt := (e.cfgW (encOff 15 0)).bits 24 8
    e.host.phase ≠ .por ∧ filt = 2 ∧ filt < 3 ∧
      ((e.enc 15).ab.toNat, 1) ∈ [(0, 2), (2, 3), (3, 1), (1, 0)] ∧ ((e.enc 15).ab.toNat, 2) ∈ [(2, 0), (3, 2), (1, 3), (0, 1)] ∧
      ((e.enc 15).ab.toNat, 0) ∈ [(0, 3), (3, 0), (1, 2), (2, 1)] ∧
      (e.enc 15).idxThis = true ∧ (e.enc 15).idxLevel = true ∧ (w.enc 15).idxThis = false ∧ (w.enc 15).idxLevel = false ∧
      (e.cfgW (encOff 15 0)).bit 17 = false ∧ (e.cfgW (encOff 15 0)).bit 18 = false ∧
      e.qWindow 15 = some ⟨1, 1, false⟩ ∧ (e.qerrCfg 15).bits 16 16 ≤ 1 ∧ (e.qerrCfg 15).bits 0 8 ≤ 1 ∧
      w.qWindow 15 = some ⟨0, 0, true⟩ ∧ 0 < (w.qerrCfg 15).bits 16 16 ∧ r.qWindow 1023 = some ⟨0, 0, false⟩ ∧
      (r.qerrCfg 1023).bits 16 16 ≤ 0 ∧ (r.qerrCfg 1023).bits 0 8 ≤ 0 := by decide

/-- A header frame of kind `kind` on ring 0 from the part with serial `tag`. -/
def header (kind tag : Byte) : List Byte := withCheck ([kind, 0] ++ List.replicate 18 0 ++ [tag, 0, 0, 0] ++ List.replicate 4 0)

theorem header_good (kind tag : Byte) :
    (header kind tag).length = 32 ∧ frameOk (header kind tag) = true ∧ nthD 0 (header kind tag) 0 = kind ∧
      nthD 0 (header kind tag) 1 = 0 ∧ fieldLE (header kind tag) 20 4 = tag.toNat := by
  refine ⟨by simp [header, withCheck, bytesLE_size], frameOk_withCheck _, nthD_append _ _ 0 (by simp),
      nthD_append _ _ 1 (by simp), ?_⟩
  unfold header withCheck
  rw [fieldLE_append _ _ _ _ (by simp)]
  simp [fieldLE, natLE, List.replicate]

theorem test_meets_HeadersAreHeard :
    let s := fitted
    s.ringListens = true ∧ s.ringInUse 0 = true ∧ ([] : List Byte).length ≠ 32 ∧
      (∀ k : Byte, k = 1 ∨ k = 2 → frameOk (header k 0) = true ∧ (header k 0).length = 32 ∧ nthD 0 (header k 0) 0 = k ∧
        rlRing (nthD 0 (header k 0) 1) = 0 ∧ (nthD 0 (header k 0) 1).getLsbD 4 = false ∧ fieldLE (header k 0) 20 4 = s.ownTag ∧
        fieldLE (header k 1) 20 4 ≠ s.ownTag) ∧ s.team = false := by
  refine ⟨by decide, by decide, by decide, fun k _ => ?_, by decide⟩
  have h := header_good k 0
  have g := header_good k 1
  rw [h.2.2.2.1, h.2.2.2.2, g.2.2.2.2]
  exact ⟨h.2.1, h.1, h.2.2.1, by decide, by decide, by decide, by decide⟩

/-- A barge of node 4 of ring 0 on lane Y. -/
def bargeOf4 : List Byte := withCheck ([0x10, 0x20, 4] ++ List.replicate 47 0)

theorem test_meets_BargesReachTheHorizon :
    let s := withNode .opened
    let k := { s with rings := [(0, ({} : Ring).setNode 4 { lock := .opened, rx := some ⟨true, List.replicate 36 1, [], 0, false⟩ })] }
    let due := 10 * s.tt.start.toNat + slotInstant (zones s.image.period s.periodNs) (s.nNodes 0) 4 true
    s.ringInUse 0 = true ∧ s.host.phase = .run ∧ s.rope.role = 1 ∧ frameOk [] = false ∧
      frameOk bargeOf4 = true ∧ bargeLength bargeOf4 = true ∧ nthD 0 bargeOf4 0 = 0x10 ∧ rlRing (nthD 0 bargeOf4 1) = 0 ∧
      rlLaneY (nthD 0 bargeOf4 1) = true ∧ (nthD 0 bargeOf4 1).getLsbD 4 = false ∧ (nthD 0 bargeOf4 2).toNat = 4 ∧
      4 ≤ s.nNodes 0 ∧ ((s.ring 0).node 4).lock = .opened ∧ s.inWindow 0 (bargeOffset due due (s.ring 0).endY) = true ∧
      State.reset.tt.clockOn = false ∧ k.tt.clockOn = true ∧ (∀ j, k.nNodes j ≤ 64) ∧ 4 ≤ k.nNodes 0 ∧
      0 < perNode k.image.period ∧ ((k.ring 0).node 4).lock = .opened ∧
      ((k.ring 0).node 4).rx = some ⟨true, List.replicate 36 1, [], 0, false⟩ ∧
      36 * 0 + 36 ≤ (List.replicate 36 (1 : Byte)).length := by
  have b : ∀ i, i < 3 → nthD 0 bargeOf4 i = nthD 0 [0x10, 0x20, 4] i := fun i hi => by
    rw [bargeOf4, withCheck, nthD_append _ _ i (by simp; omega), nthD_append _ _ i (by simpa using hi)]
  have l : bargeOf4.length = 54 := by simp [bargeOf4, withCheck, bytesLE_size]
  simp only [b 0 (by omega), b 1 (by omega), b 2 (by omega)]
  refine ⟨by decide, by decide, by decide, by decide, frameOk_withCheck _, ?_, by decide, by decide, by decide, by decide,
    by decide, by decide, rfl, by decide, rfl, rfl, ?_, by decide, by decide, rfl, rfl, Nat.le_of_eq rfl⟩
  · rw [bargeLength, b 1 (by omega), l]
    decide
  · intro j
    unfold State.nNodes
    split
    · rename_i h
      have : j = 0 ∨ j = 1 ∨ j = 2 ∨ j = 3 := by omega
      rcases this with rfl | rfl | rfl | rfl <;> decide
    · omega

/-- A frame of node 4 to the head with 256 bytes. -/
def acyclic : List Byte := withCheck ([0x30, 0, 4, 9, 0, 0, 1, 0] ++ List.replicate 256 0)

theorem test_meets_FramesAreTakenUp :
    let s := withNode .opened
    let m := { fitted with rope := { fitted.rope with role := 3 } }
    s.ringInUse 0 = true ∧ s.host.phase = .run ∧ s.rope.role = 1 ∧ m.ringInUse 0 = true ∧ m.host.phase = .run ∧ m.rope.role = 3 ∧
      nthD 0 [0x20#8] 0 = 0x20 ∧ rlRing (nthD 0 [0x20#8] 1) = 0 ∧
      frameOk acyclic = true ∧ nthD 0 acyclic 0 = 0x30 ∧ rlRing (nthD 0 acyclic 1) = 0 ∧ (nthD 0 acyclic 2).toNat = 4 ∧
      fieldLE acyclic 5 2 = 256 ∧ acyclic.length = 256 + 12 ∧ 4 ≤ s.nNodes 0 ∧
      ((s.ring 0).node 4).upSeq ≠ some (nthD 0 acyclic 3) ∧ ((s.ring 0).arxWr - (s.ring 0).arxRd).toNat < 512 := by
  have n : ([0x30, 0, 4, 9, 0, 0, 1, 0] ++ List.replicate 256 (0 : Byte)).length = 264 := by
    rw [List.length_append, List.length_replicate, List.length_cons]; rfl
  have b : ∀ i, i < 8 → nthD 0 acyclic i = nthD 0 [0x30, 0, 4, 9, 0, 0, 1, 0] i := fun i hi => by
    rw [acyclic, withCheck, nthD_append _ _ i (by omega)]
    exact nthD_append [0x30, 0, 4, 9, 0, 0, 1, 0] _ i hi
  simp only [b 0 (by omega), b 1 (by omega), b 2 (by omega), b 3 (by omega)]
  refine ⟨by decide, rfl, rfl, by decide, rfl, trivial, rfl, rfl, frameOk_withCheck _, rfl, rfl, by decide, ?_,
    by rw [acyclic, withCheck_length, n], by decide, by decide, by decide⟩
  rw [acyclic, withCheck, fieldLE_append _ _ _ _ (by omega), fieldLE_append _ _ 5 2 (by decide)]
  decide

/-- A probe of 32 bytes and a reply of 40, with their stamps 0. -/
def probe (kind : Byte) (n : Nat) : List Byte := withCheck (kind :: List.replicate n 0)

theorem probe_good (kind : Byte) (n : Nat) :
    (probe kind n).length = n + 5 ∧ frameOk (probe kind n) = true ∧ nthD 0 (probe kind n) 0 = kind ∧
      (15 ≤ n → fieldLE (probe kind n) 8 8 = 0) := by
  refine ⟨by simp [probe, withCheck, bytesLE_size], frameOk_withCheck _, nthD_append _ _ 0 (by simp), fun h => ?_⟩
  unfold probe withCheck
  rw [fieldLE_append _ _ _ _ (by simp; omega)]
  unfold fieldLE
  rw [List.drop_succ_cons, List.drop_replicate, List.take_replicate, Nat.min_eq_left (by omega)]
  decide

theorem test_meets_PoundsNodesAndFibres :
    let s := { fitted with rings := [(0, { probe0 := some 0 }), (3, ({} : Ring).setNode 63 { lock := .opened, absence := 16, inflightRun := 2 })] }
    let e := withCfg { s with rings := [(3, { ({} : Ring).setNode 63 { lock := .opened, edgeRun := 1 } with noHdr1 := 2, got0 := 2 })] }
      [(0x4C008, 0x00010100)]
    let j := withCfg { s with rings := [(3, { ({} : Ring).setNode 63 { lock := .trial, joinRun := 1 } with dead1 := true })] }
        [(0x4C008, 0x00010100)]
    let f := { s with rings := [(3, { lastFold := some (-2) })] }
    s.ringSends = true ∧ s.ringInUse 0 = true ∧
      (probe 0x40 27).length = 32 ∧ frameOk (probe 0x40 27) = true ∧ nthD 0 (probe 0x40 27) 0 = 0x40 ∧
      (probe 0x41 35).length = 40 ∧ frameOk (probe 0x41 35) = true ∧ nthD 0 (probe 0x41 35) 0 = 0x41 ∧
      (s.ring 0).probe0 = some (BitVec.ofNat 64 (fieldLE (probe 0x41 35) 8 8)) ∧
      s.keepsBooks = true ∧ ((s.ring 3).node 63).lock = .opened ∧ 16 ≤ ((s.ring 3).node 63).absence ∧
          2 ≤ ((s.ring 3).node 63).inflightRun ∧
      e.keepsBooks = true ∧ ((e.ring 3).node 63).lock = .opened ∧ e.edgeLimit 3 ≤ ((e.ring 3).node 63).edgeRun ∧
      j.keepsBooks = true ∧ ((j.ring 3).node 63).lock = .trial ∧ j.joinCount 3 ≤ ((j.ring 3).node 63).joinRun ∧
      State.reset.ringSends = false ∧ e.ringSends = true ∧ 2 ≤ (e.ring 3).noHdr1 ∧ 2 ≤ (e.ring 3).got0 ∧
      (s.ring 3).lastFold = none ∧ (s.ring 3).dead0 = false ∧ (s.ring 3).dead1 = false ∧
      (f.ring 3).lastFold = some (-2) ∧ (f.tt.passage - (-2)).toNat = 2 ∧ (j.ring 3).dead1 = true := by
  have p := probe_good 0x40 27
  have q := probe_good 0x41 35
  simp only [p.1, p.2.1, p.2.2.1, q.1, q.2.1, q.2.2.1, q.2.2.2 (by omega)]
  decide

/-- Trigger unit 15 of kind TIMEOUT on variable 0 or, with bit 27, on an EVIO pin, and channel 3. -/
def triggered (w : Word) (t : Trg) (p : Priv) : State :=
  let s := withCfg fitted [(0x80400 + 0x20 * 15, w), (0x80408 + 0x20 * 15, 0), (0x80410 + 0x20 * 15, 0), (0x808C8, 16),
      (0x808CC, 1), (0x808D0, 1), (0x808E8, 1)]
  { s with acq := { s.acq with trgs := [(15, t)], privs := [(3, p)] } }

theorem test_meets_TriggersAndChannels :
    let n := triggered 0x60000000 { cond := true, trans := some 0, prev := some (0, 1, 0) }
        { st := .triggered, postHeld := 1, trigW := 1, written := 2 }
    let b := triggered 0x60000000 { cond := true, trans := some 257, prev := some (0, 1, 0) } { st := .triggered, postHeld := 0 }
    let d := triggered 0x68000000 { cond := true, trans := some 0 } { maskLoading := true }
    (n.trgCfg 15).kind = 3 ∧ (n.trg 15).timedOut = false ∧ ((n.trgCfg 15).dir = 0 ↔ (n.trg 15).cond = true) ∧
      (n.trg 15).trans = some 0 ∧ (n.trgCfg 15).srcKind = 0 ∧ (n.trg 15).prev = some (0, 1, 0) ∧ 0 + (n.trgCfg 15).w1 ≤ 1 * 256 ∧
      (b.trgCfg 15).kind = 3 ∧ (b.trg 15).trans = some 257 ∧ (b.trg 15).prev = some (0, 1, 0) ∧ 1 * 256 < 257 + (b.trgCfg 15).w1 ∧
      (d.trgCfg 15).kind = 3 ∧ (d.trg 15).timedOut = false ∧ ((d.trgCfg 15).dir = 0 ↔ (d.trg 15).cond = true) ∧
      (d.trg 15).trans = some 0 ∧ (d.trgCfg 15).srcKind ≠ 0 ∧ 0 + 10 * (d.trgCfg 15).w1 ≤ 4 * d.time.time.toNat ∧
      d.time.time.toNat < 2 ^ 62 ∧ (fitted.trgCfg 15).kind ≠ 3 ∧
      ((n.fillFast 3).priv 3).st = .triggered ∧ (n.privCfg 3).post ≤ ((n.fillFast 3).priv 3).postHeld ∧
      (n.privCfg 3).pre ≤ ((n.fillFast 3).priv 3).held ∧
      ((b.fillFast 3).priv 3).st = .triggered ∧ ((b.fillFast 3).priv 3).postHeld < (b.privCfg 3).post ∧
      (d.priv 3).maskLoading = true ∧ (wordsOf 0x03678000 (8 * (d.privCfg 3).maskN)).any d.undecodable = false ∧
      (let w := { d with bad := [0x03678000] }
       (w.priv 3).maskLoading = true ∧ 0x03678000 ∈ wordsOf 0x03678000 (8 * (w.privCfg 3).maskN) ∧
         w.undecodable 0x03678000 = true) ∧ (n.priv 3).maskLoading = false := by decide

theorem test_meets_RopeFramesAct :
    let s := fitted
    let m (r : Nat) : State := { fitted with rope := { fitted.rope with role := r } }
    s.host.phase = .run ∧ s.rope.role ≠ 15 ∧ (m 3).rope.role = 3 ∧ (m 4).rope.role = 4 ∧ (m 4).host.phase = .run ∧ (m 5).rope.role = 5 ∧
      (3 < 4 ∧ 63 < 64 ∧ 2 ^ 24 - 1 < 2 ^ 24 ∧ 1 < 2) := by decide

/-- A heartbeat of a part in a role. -/
def beat (role : Byte) : List Byte := withCheck ([0x50, role] ++ List.replicate 46 0)

theorem test_meets_Heartbeats :
    let s := { running 2 with rope := { (running 2).rope with strap := 1 } }
    (s.host.phase = .run ∧ s.rope.role ≠ 15 ∧ (s.rope.strap = 1 ∨ s.rope.strap = 2)) ∧
      (∀ r : Byte, (beat r).length = 52 ∧ frameOk (beat r) = true ∧ nthD 0 (beat r) 0 = 0x50 ∧ nthD 0 (beat r) 1 = r) ∧
      (7 : Byte).toNat = 7 ∧ ((3 : Byte).toNat = 7 → False) ∧
      (∀ r : Byte, Config.strapShown (beat r) ≠ 1 ∨ Config.strapShown (beat r) ≠ 2) ∧
      (∀ r : Byte, BitVec.ofNat 32 (fieldLE (beat r) 36 4) = s.store.ident.team) ∧
      (let x : List Byte := withCheck (0x54 :: List.replicate 15 0)
       20 ≤ x.length ∧ frameOk x = true ∧ nthD 0 x 0 = 0x54) ∧
      s.rope.verdictOf ≠ some 0 ∧ s.rope.role = 2 ∧
      ({ s with rope := { s.rope with verdictOf := some 0 } } : State).rope.verdictOf = some 0 := by
  refine ⟨by decide, fun r => ⟨by simp [beat, withCheck_length], frameOk_withCheck _, nthD_append _ _ 0 (by simp),
    nthD_append _ _ 1 (by simp)⟩, by decide, by decide, fun r => by omega, fun r => ?_, ⟨by simp [withCheck_length],
    frameOk_withCheck _, rfl⟩, by decide, by decide, by decide⟩
  unfold beat withCheck
  rw [fieldLE_append _ _ _ _ (by simp)]
  simp only [fieldLE]
  rfl

/-- A BELAY with the latest heartbeats of both parts, and the samples and the grant as given. -/
def belaying (a b : Beat) (grant heard : Nat) : State :=
  { running 7 with rope := { (running 7).rope with beatA := a, beatB := b, grantTo := grant, heardB := heard } }

theorem test_meets_TheBelayDecides :
    let good (r : Nat) (d : U64) (g : Word) : Beat := { passage := some 0, role := r, digest := d, diag := g }
    (∀ s ∈ [belaying (good 2 5 0) (good 3 5 0) 1 0, belaying { role := 2 } (good 3 5 0) 0 11,
        belaying (good 2 5 0) { role := 3 } 0 0,
        belaying (good 2 5 0) (good 3 6 0) 0 0, belaying (good 2 5 1) (good 3 6 0) 0 10],
      s.rope.role = 7 ∧ s.host.phase = .run ∧ s.rope.beatA.role = 2 ∧ s.rope.beatB.role = 3 ∧ s.rope.samples = []) ∧
      (let lead (s : State) : Prop := s.rope.beatA.passage = some s.tt.passage ∧ s.rope.beatA.fault = false ∧
          s.rope.beatA.resign = false
       let second (s : State) : Prop := s.rope.beatB.passage = some s.tt.passage ∧ s.rope.beatB.fault = false
       let equal := belaying (good 2 5 0) (good 3 5 0) 1 0
       let silent := belaying { role := 2 } (good 3 5 0) 0 11
       let alone := belaying (good 2 5 0) { role := 3 } 0 0
       let split := belaying (good 2 5 0) (good 3 6 0) 0 0
       let blamed := belaying (good 2 5 1) (good 3 6 0) 0 10
       (lead equal ∧ second equal ∧ equal.rope.beatA.digest = equal.rope.beatB.digest) ∧ (¬ lead silent ∧ second silent) ∧
           ¬ second alone ∧
         (lead split ∧ second split ∧ split.rope.beatA.digest ≠ split.rope.beatB.digest ∧ split.rope.beatA.diag.bits 0 24 = 0 ∧
           split.rope.beatB.diag.bits 0 24 = 0) ∧
         (lead blamed ∧ second blamed ∧ blamed.rope.beatA.diag.bits 0 24 ≠ 0 ∧ blamed.rope.beatB.diag.bits 0 24 = 0) ∧
         equal.rope.grantTo ≠ 0 ∧ split.rope.grantTo = 0 ∧ split.rope.beatA.passage.isSome = true ∧
         silent.rope.grantTo = 0 ∧ silent.rope.beatA.passage.isSome = false ∧ silent.rope.heardB = 11 ∧
         (belaying { role := 2 } (good 3 5 0) 0 10).rope.heardB < 11) := by decide

/-- A part in a role with its rope's books as given, and ring 0 in its image. -/
def roped (x : Rope) : State := { fitted with rope := x }

theorem test_meets_RolesChange :
    let second := roped { role := 3, take := true, handover := some 0, locked := (true, true) }
    let lead := roped { role := 2, handover := some 0, belayEver := true, peer := { role := 3, passage := some (-1) } }
    let heard := roped { role := 3, belayAt := some 0, batches := [(1, [])] }
    let cold := { fitted with host := { fitted.host with phase := .listen }, rope := { strap := 1 } }
    let joiner (bad : Bool) (run : Nat) : State := roped { role := 4, stage := 3, checkBad := bad, checkRun := run }
    second.rope.role = 3 ∧ second.rope.take = true ∧ lead.rope.role ≠ 3 ∧ heard.rope.take = false ∧
      second.rope.handover = some second.tt.passage ∧ lead.rope.handover = some lead.tt.passage ∧ lead.rope.role = 2 ∧
      heard.rope.handover ≠ some heard.tt.passage ∧ second.rope.belayAt ≠ some second.tt.passage ∧
      second.rope.peer.passage ≠ some second.tt.passage ∧ second.rope.leadHeader ≠ some second.tt.passage ∧
      heard.rope.belayAt = some heard.tt.passage ∧ second.rope.batches = [] ∧ second.rope.ledgerAt ≠ some (second.tt.passage - 1) ∧
      second.rope.localAt ≠ some second.tt.passage ∧ second.rope.localSerAt ≠ some second.tt.passage ∧
      heard.rope.batches.any (fun b => b.1 == heard.tt.passage + 1) = true ∧
      second.host.phase = .run ∧ second.image.rings.testBit 0 = true ∧
          Tab.get none second.rope.downSeen 0 ≠ some second.tt.passage ∧
      lead.rope.belayEver = true ∧ lead.rope.belayAt ≠ some lead.tt.passage ∧ lead.rope.peerAt ≠ some lead.tt.passage ∧
      lead.rope.peer.role = 3 ∧ lead.rope.peer.passage = some (lead.tt.passage - 1) ∧
      cold.host.phase = .listen ∧ cold.rope.role = 0 ∧ cold.rope.strap ≠ 3 ∧ cold.rope.listen = 0 ∧ cold.rope.attempt = false ∧
      cold.rope.joinNext = false ∧ cold.rope.belayEver = false ∧
      (joiner true 64).rope.stage = 3 ∧ (joiner true 64).rope.checkBad = true ∧ (joiner false 64).rope.checkBad = false ∧
      64 ≤ (joiner false 64).rope.checkRun ∧ (joiner false 63).rope.checkRun < 64 ∧ second.rope.locked.1 = true ∧
      second.rope.locked.2 = true := by decide

/-- Input 15 and input 14 single, in 0.5 ms; function 31 stops on input 15 and acts on output 7. -/
def sampledSet : Tab Byte :=
  [(0x20 + 8 * 15, 5), (0x20 + 8 * 15 + 1, 1), (0x160 + 16 * 31 + 1, 0x80), (0x160 + 16 * 31 + 2, 1)]

theorem test_meets_SafetySamples :
    let x : Safe := { state := 2, confirmed := some sampledSet, sins := [(15, { run := 49 })], souts := [(7, { fault := true })] }
    x.state ≠ 0 ∧ State.reset.safe.state = 0 ∧ (sinRule x.rules (pairBase x.rules 15)).filt = 5 ∧
      (32768).testBit 15 ≠ (x.sin 15).level ∧ 10 * 5 ≤ (x.sin 15).run + 1 ∧ (32768).testBit 14 = (x.sin 14).level ∧
      (fnRule x.rules 31).kind ≠ 0 ∧ (fnRule x.rules 31).sins.testBit 15 = true ∧ (x.sout 7).fault = true := by decide

/-- Inputs 14 and 15 a pair with DISC 1, tested by output 7; function 31 an SS1 of 10 ms on output 7 and brake 7; brake 7 tested
with BT_HOLD 1 and BT_SETTLE 1 in the direction given. -/
def eventSet (dir : Byte) : Tab Byte :=
  [(0x0D, 3), (0x20 + 8 * 14 + 1, 2), (0x20 + 8 * 14 + 2, 1), (0x20 + 8 * 14 + 4, 7), (0xE0 + 16 * 7 + 10, 1),
    (0xE0 + 16 * 7 + 12, 1), (0xE0 + 16 * 7 + 13, dir), (0x160 + 16 * 31 + 2, 2), (0x160 + 16 * 31 + 4, 1),
    (0x160 + 16 * 31 + 6, 0x80), (0x160 + 16 * 31 + 7, 0x80)]

/-- The safety island with that set and its books as given. -/
def islanded (dir : Byte) (ran : Nat) (sins : Tab Sin) (souts : Tab Sout) (bt : BrakeTest) : State :=
  { fitted with safe := { state := 2, confirmed := some (eventSet dir), fns := [(31, { ran := ran })], sins := sins, souts := souts
                          bt := bt } }

theorem test_meets_SafetyEventsAct :
    let d := islanded 2 100 [(14, { differ := 101 }), (15, { fault := true, low := true, byPulse := true, passes := 2 })]
      [(7, { on := true })] { channel := 7, step := .settle, ran := 100 }
    let e := islanded 2 99 [(14, { differ := 100 }), (15, { low := true })] [(7, { on := true, pulse := true })]
      { channel := 7, step := .settle, ran := 99 }
    let b := pairBase d.safe.rules 15
    (d.safe.state ≠ 0 ∧ b = 14 ∧ (sinRule d.safe.rules b).mode = 2 ∧ 100 * (sinRule d.safe.rules b).disc < (d.safe.sin b).differ ∧
        (e.safe.sin b).differ ≤ 100 * (sinRule e.safe.rules b).disc) ∧
      (d.safe.state = 2 ∧ (d.safe.fn 31).demand = true ∧ (fnRule d.safe.rules 31).kind = 2 ∧
        100 * (fnRule d.safe.rules 31).ss1 ≤ (d.safe.fn 31).ran ∧ (e.safe.fn 31).ran < 100 * (fnRule e.safe.rules 31).ss1 ∧
        (fnRule d.safe.rules 31).souts.testBit 7 = true ∧ (fnRule d.safe.rules 31).brks.testBit 7 = true) ∧
      ((d.safe.sout 7).on = true ∧ (d.safe.sout 7).fault = false ∧ (d.safe.sout 7).pulse = false ∧ (e.safe.sout 7).pulse = true ∧
        (e.safe.sout 7).fault = false ∧ (d.safe.sout 6).on = false) ∧
      ((sinRule e.safe.rules (pairBase e.safe.rules 15)).source = 7 ∧ (sinRule e.safe.rules (pairBase e.safe.rules 15)).mode ≠ 0 ∧
        (e.safe.sin 15).low = true ∧ (e.safe.sin 15).fault = false ∧ (e.safe.sin 14).low = false ∧
        (d.safe.sin 15).fault = true ∧ (d.safe.sin 15).byPulse = true ∧ 2 ≤ (d.safe.sin 15).passes) ∧
      d.safe.state ≠ 15 ∧ State.reset.safe.state = 0 ∧
      d.safe.bt.step = .settle ∧ 100 * (brkRule d.safe.rules d.safe.bt.channel).btSettle ≤ d.safe.bt.ran ∧
      ¬ 100 * (brkRule e.safe.rules e.safe.bt.channel).btSettle ≤ e.safe.bt.ran ∧ State.reset.safe.bt.step = .none := by decide

theorem test_meets_holds_of_SafetyEventsAct :
    let p := islanded 2 0 [] [] { channel := 7, step := .plus, ran := 100 }
    let o := islanded 1 0 [] [] { channel := 7, step := .plus, ran := 100 }
    let m := islanded 2 0 [] [] { channel := 7, step := .minus, ran := 100 }
    let y := islanded 2 0 [] [] { channel := 7, step := .minus, ran := 99 }
    let held (s : State) : Bool := decide (100 * (brkRule s.safe.rules s.safe.bt.channel).btHold ≤ s.safe.bt.ran)
    let dir (s : State) : Nat := (brkRule s.safe.rules s.safe.bt.channel).btDir
    p.safe.bt.step = .plus ∧ dir p ≠ 1 ∧ held p = true ∧ o.safe.bt.step = .plus ∧ dir o = 1 ∧ held o = true ∧
      m.safe.bt.step = .minus ∧ held m = true ∧ held y = false := by decide

/-- A keyed set, SWD 3, whose function 31 covers node 4 of ring 0 and names brake 7. -/
def watching (n : SNode) : State :=
  { fitted with
    safe := { state := 2, nodes := [(3, n)]
              confirmed := some [(0x0D, 3), (0xE0 + 16 * 7 + 13, 1), (0x160 + 16 * 31 + 2, 1), (0x160 + 16 * 31 + 7, 0x80),
                (0x160 + 16 * 31 + 8, 1), (0x160 + 16 * 31 + 9, 4), (0x160 + 16 * 31 + 10, 4)] } }

theorem test_meets_nodes_of_SafetyEventsAct :
    let s := watching { misses := 3, stoWait := 3 }
    let r := watching { misses := 2, run := true }
    s.watches 0 4 = true ∧ (s.safe.node 0 4).lost = false ∧ setSwd s.safe.rules ≤ (s.safe.node 0 4).misses ∧
      (s.safe.node 0 4).run = false ∧ 3 ≤ (s.safe.node 0 4).stoWait ∧
      r.watches 0 4 = true ∧ (r.safe.node 0 4).misses < setSwd r.safe.rules ∧ (r.safe.node 0 4).run = true ∧
      covers (fnRule s.safe.rules 31) 0 4 = true ∧ (fnRule s.safe.rules 31).brks.testBit 7 = true := by decide

/-- A message of sequence 1 from the leader 5 whose stamp and ingress are 0, and whose correction is 1 ns. -/
def message (two : Bool) : PtpMsg := ⟨1, two, 0, 65536, 0, 0, 1, 1, 5, 0⟩

/-- The plant port active in a role and a port state, with its books as given. -/
def ported (role : Word) (p : Plant) : State := withCfg { fitted with plant := p } [(0xD0100, role), (0xD0104, 0x00010000)]

theorem test_meets_ThePlantPort :
    let f := ported 0x40000000 { portState := 9, foreign := some (1, 0, 1, 5) }
    let l := ported 0x40000000 { portState := 9, foreign := some (1, 0, 1, 5), lastUpdate := some 7 }
    let w := ported 0x40000000 { portState := 9, foreign := some (1, 0, 1, 5), twoStep := some (1, 0), delayReq := some (1, 0) }
    let g := ported 0xC0000000 { portState := 6 }
    let p := ported 0x60000000 { portState := 9, pdelayReq := some (1, 0), pdelayResp := some (1, 0, 0) }
    let a := ported 0x80000000 { portState := 4 }
    let b := withCfg { fitted with plant := { portState := 4 } } [(0xD000C, 0x06000000), (0xD0100, 0xC000FF00), (0xD0104, 0x00010000)]
    let h := ported 0xC000FF00 { portState := 6 }
    let u : State → State := fun s => s.toStamp 0
    (∀ s ∈ [f, l, w, g, p, a, b, h], (u s).ptpActive = true ∧ s.ptpActive = true ∧ (message true).domain = (s.cfgW 0xD0100).bits 16 8) ∧
      (f.plant.portState = 9 ∧ f.fromLeader (message true) = true ∧ (message true).twoStep = true ∧
          (message false).twoStep = false ∧
        f.plant.lastUpdate = none ∧
        ((0 - 0 : U64).toInt - corrNs (message false).correction - f.plant.delay).natAbs ≤ (f.cfgW 0xD0104).bits 16 16 * 1000) ∧
      (l.plant.lastUpdate = some 7 ∧ (7 : U64) ≠ 0 - BitVec.ofNat 64 ((l.cfgW 0xD0108).bits 0 16)) ∧
      (w.plant.twoStep = some ((message true).seq, 0) ∧ w.plant.lastUpdate = none ∧ w.fromLeader (message true) = true ∧
        w.plant.delayReq = some ((message true).seq, 0) ∧ (w.cfgW 0xD0100).bit 29 = false) ∧ f.plant.twoStep = none ∧
      (g.plant.portState = 6 ∧ (g.cfgW 0xD0100).bit 29 = false ∧ 2 ≤ (g.cfgW 0xD0100).bits 30 2) ∧
      ((p.cfgW 0xD0100).bit 29 = true ∧ p.plant.pdelayReq = some ((message true).seq, 0) ∧
        p.plant.pdelayResp = some ((message true).seq, 0, 0)) ∧
      ((a.cfgW 0xD0100).bits 30 2 = 2 ∧ a.plant.foreign = none ∧ a.plant.portState ≠ 9 ∧ a.plant.portState ≠ 6) ∧
      (let x : Nat × Word × Nat × U64 := (1, 0, 1, 5)
       let first (s : State) : Bool := decide (1 ≤ (s.cfgW 0xD000C).bits 24 8 ∧ (s.cfgW 0xD000C).bits 24 8 ≤ 127)
       (∀ s ∈ [g, b, h], (s.cfgW 0xD0100).bits 30 2 = 3 ∧ s.plant.foreign = none) ∧
         betterClock x g.ownClock = false ∧ betterClock x b.ownClock = true ∧ first b = true ∧
         betterClock x h.ownClock = true ∧ first h = false) ∧
      ((f.cfgW 0xD0100).bits 30 2 < 2) ∧ State.reset.ptpActive = false := by decide

theorem test_meets_RefusedCommandsApplyNothing :
    let core : State → Answer := fun u => { refusals := { range := true }, detail := 0, state := u }
    (∀ u : State, (core u).refusals = { range := true }) ∧
      (if !sent.forwarded && fitted.lacks sent.origin (rightOf 0x00 []) then 0x07 else 0x02) ≠ 0 := by
  exact ⟨fun _ => rfl, by decide⟩

theorem test_meets_EveryStepKeepsTheMemories :
    let s := { State.reset with pending := [Instr.safetySample 0 0 0 []] }
    State.reset.memoryOk = true ∧ s.memoryOk = true ∧ s.queueOk = true ∧ step State.reset = .next State.reset := by
  exact ⟨by decide, by decide, by decide, rfl⟩

/-! ### The spec's worked examples. The expected values are the spec's own. -/

/-- The state that a command leaves. -/
def after (c : Instr) (s : State) : State :=
  match exec c s with
  | .next t => t
  | _ => s

/-- Check values over "123456789" (R226, R250, R277, R448, R489). -/
theorem test_check_values :
    let bs : List Byte := [0x31, 0x32, 0x33, 0x34, 0x35, 0x36, 0x37, 0x38, 0x39]
    crc32c bs = 0xE3069283 ∧ crcSafe 0xFFFFFFFF bs = 0x1697D06A ∧ (crc8 0x313233343536373839 72 0).toNat = 0xF4 ∧
      crcBytes 0xEDB88320#32 bs 0xFFFFFFFF#32 ^^^ 0xFFFFFFFF#32 = 0xCBF43926 := by decide +kernel

/-- Two gain rows of a Line K diverter axis (03_engines_numerics): two MACB of the coefficients at words 0 and 1. -/
def gainRows : State :=
  let st (a b : BitVec 24) (e : BitVec 8) : Stage := ⟨⟨a, b, 0, 0, 0, 0, 0, 0⟩, e⟩
  let s := running 1
  let s := { s with mem := (s.mem.setLine 0 (lineOfStage (st 0x400000 0xC00000 1))).setLine 32 (lineOfStage (st 0xA00000 0x600000 1)) }
  s.setLux 0 ((s.lux 0).setV 8 ⟨⟨0, 0, 0, 0x300000, 0x100001, 0, 0, 0⟩, -2⟩)

theorem test_macb_gain_rows :
    let s := after (.macb 0 ⟨0, 8, 3, 0, 0, 1, 0⟩) gainRows
    let t := after (.macb 0 ⟨0, 8, 4, 0, 0, 0, 1⟩) s
    let a := (t.lux 0).acc 0
    a.a.l0.toInt = 6597063475200 ∧ a.a.l1.toInt = -6597063475200 ∧ a.e.toInt = -1 ∧ (t.lux 0).cycles = 2 := by decide +kernel

theorem test_normv_gain_rows :
    let s := after (.macb 0 ⟨0, 8, 4, 0, 0, 0, 1⟩) (after (.macb 0 ⟨0, 8, 3, 0, 0, 1, 0⟩) gainRows)
    let v := ((after (.normv 0 ⟨9, 0, 0, 0, 0, 0, 0⟩) s).lux 0).v 9
    v.m.l0 = 0x5FFFFA ∧ v.m.l1 = 0xA00006 ∧ v.e.toInt = -4 := by decide +kernel

/-- The sum of the K row of a Line K diverter, stored at exponent 5 (10_luestox_isa, a stage product), and its clamp. -/
theorem test_fixv_and_vclamp :
    let x := (running 1).lux 0
    let s := (running 1).setLux 0 (x.setAcc 0 ⟨⟨40370110464, 0, 0, 0, 0, 0, 0, 0⟩, 15⟩)
    let t := after (.fixv 0 ⟨12, 0, 0, 0, 0, 0, 5⟩) s
    ((t.lux 0).v 12).m.l0.toInt = 4927992 ∧ (t.lux 0).flg = 0 := by decide

/-- A term of the Line K diverter's row at exponent 9, and 0.8 / 512 (R120, R121). -/
theorem test_cascade_entries :
    ((⟨-320, 1, 0⟩ : Exact).store 9).1 = 0xB00000 ∧ ((⟨4, 5, 0⟩ : Exact).store 9).1.toInt = 13107 := by decide

/-- One section of a biquad (10_luestox_isa, Line W web tension). -/
theorem test_biquad :
    (biquad 1048576 2097152 1048576 2516582 (-838861) 1 4194304 2097152 0 1677722 838861).1 = 2936013 ∧
      (biquad 1048576 2097152 1048576 2516582 (-838861) 1 4194304 2097152 0 1677722 838861).2 = false := by decide

/-- 1250 and -4000 counts/s (06_feedback, the Line K infeed wheel). -/
theorem test_encoder_speeds : speedWord 1 800000 = 0x4E20000B ∧ speedWord (-1) 250000 = 0x8300000C := by decide

/-- Slots of node 22 of 60 (07_mewyn_ring): 4493.6 ns on X and 3623.2 ns on Y. -/
theorem test_slot_instants :
    slotInstant (zones 1 31250) 60 22 false = 44936 ∧ slotInstant (zones 1 31250) 60 22 true = 36232 := by decide

/-- The speeds of the Line K gate in units of 2^-32 step per passage, and its rate word at cruise (05_motion_profiles). -/
theorem test_gate_speeds :
    speedUnits 0x4E200010 31250 = 0x140000000 ∧ (rateWord (5 * 2 ^ 30) 0 (2 ^ 47) 6250 200).1 = 56294995342 := by decide

/-- The comparison of R303 across the wrap of TIME[31:0] (08_time, Line K). -/
theorem test_due_across_the_wrap :
    dueAt 4252635648 0x005418B8 = false ∧ dueAt 0x1005418B8 0x005418B8 = true ∧ dueAt 0x1005418B7 0x005418B8 = false := by decide

/-- The entry of a Line K gate move (15_host_registers), and the place of its result. -/
theorem test_gate_move_entry :
    let h : HostIf := { entry := [0x00030050, 0x00000203, 0x00000320, 0, 0x4E200010, 1, 0, 0] }
    badByte h.entryBytes = none ∧ argValues 0x50 h.entryBytes = [515, 800, 0x4E200010, 1, 0] ∧ fieldLE h.entryBytes 2 2 = 3 ∧
      recordAt ⟨4711, 3, 0, false, false, 0⟩ = 0x03604670 := by decide

/-- A second post into the slot of a complete entry is refused with BACKPRESSURE (11_soft_plane, Line K verdicts). -/
theorem test_second_post :
    let s := { fitted with mem := [(descAddr 104 + 17, 3), (descAddr 104 + 18, 0x81), (descAddr 104 + 20, 1)] }
    let t := after (.spPost sent 104 0 17) s
    let u := after (.spPost { sent with seq := 2 } 104 0 18) t
    t.descState 104 = dReady ∧ t.freeMatches = 1023 ∧ u.freeMatches = 1023 ∧ u.entry 104 = t.entry 104 ∧
      u.mem.byte (0x03604020 + 7) = BitVec.ofNat 8 codeBackpressure := by decide +kernel

/-- The upward crossing of 200 between 120 and 340 lies at 93/256 of the passage (09_acquisition, R330). -/
theorem test_crossing :
    crossing true ⟨200, 1, 0⟩ ⟨120, 1, 0⟩ ⟨340, 1, 0⟩ = some ⟨true, true, 93⟩ := by decide

/-! ### Well-formedness: an ill-formed term for each check -/

/-- Fields and a context that keep to their widths. -/
def fields : Fields := ⟨31, 31, 31, 7, 3, 15, 0⟩
def context : Ctx := ⟨0, 65535, 255, false, false, 0⟩

theorem test_wf_fields :
    fields.wf = true ∧ ∀ f ∈ [{ fields with d := 32 }, { fields with a := 32 }, { fields with b := 32 }, { fields with x := 8 },
      { fields with m := 4 }, { fields with f := 16 }], Fields.wf f = false := by decide

theorem test_wf_context :
    context.wf = true ∧ ∀ c ∈ [{ context with tag := 65536 }, { context with origin := 256 }], Ctx.wf c = false := by decide

/-- A context and fields that do not. -/
def badContext : Ctx := { context with tag := 65536 }
def badFields : Fields := { fields with f := 16 }

def luxRows1 : List (Nat → Fields → Instr) :=
  [.nop, .end_, .loop, .rdf, .clrf, .add, .sub, .adds, .subs, .and, .or, .xor, .shl, .shr, .sar, .mul, .mulh, .min, .max, .slt,
    .sltu, .addi, .movi, .shli, .shri, .sari, .andi, .selz, .abs, .div, .divu, .xmov, .xaddi, .sfromx, .pmov, .paddi, .sfromp,
    .ldv, .stv, .lds]

def luxRows2 : List (Nat → Fields → Instr) :=
  [.sts, .selld, .macb, .mace, .macr, .macrb, .adda, .mova, .fixv, .normv, .vmov, .vclamp, .vcmp, .vsel, .vins, .vext, .vexp,
    .vsete, .vzero, .sincos, .vsqrt, .vresc, .vneg, .biq, .fir, .fft, .beq, .bne, .blt, .bge, .bltu, .bgeu, .jal, .jr, .ldw,
    .stw, .ldbu, .stb, .ldd, .std]

def luxRows3 : List (Nat → Fields → Instr) :=
  [.amoadd, .rgr, .rgw, .tend, .tpost, .tdly, .flt]

theorem test_wf_luestox :
    ∀ c ∈ luxRows1 ++ luxRows2 ++ luxRows3,
      (c 87 fields).wf = true ∧ (c 88 fields).wf = false ∧ (c 0 badFields).wf = false := by decide

theorem test_wf_refuses_1 : ([.porn 0 4, .pcieLinkDown 4, .release 256, .run 256 0, .run 0 65536, .move 256 0, .move 0 65536,
    .moveComplete 256 0,
    .moveComplete 0 65536, .gate 256 0, .gate 0 65536, .reserve 256 0, .reserve 0 65536, .overrun 256 0, .overrun 0 65536,
    .dieLinkFailure 3, .scrubVisit 0 33, .supervisionTrip 512, .stall 528, .setLoadComplete 512, .pcieLinkUp 8 0 false,
    .pcieLinkUp 0 32 false, .illegalInstruction 88 0, .nopCommand badContext, .ttLoad badContext 0, .ttLoad context 256,
    .ttSwap badContext 0, .ttCancel badContext, .axEnable badContext 0 0, .axEnable context 65536 0, .axEnable context 0 256,
    .axDisable badContext 0, .axDisable context 65536, .axMode badContext 0 0 false, .axMode context 65536 0 false,
    .axMode context 0 256 false] : List Instr).all (fun c => !c.wf) = true := by decide

theorem test_wf_refuses_2 : ([.axCommit badContext 0, .axCommit context 65536, .axRetune badContext 0 0, .axRetune context 65536 0,
    .axRetune context 0 256, .axSetLoad badContext 0 0 0, .axSetLoad context 65536 0 0, .axSetLoad context 0 256 0,
    .axSetLoad context 0 0 256, .axClear badContext 0, .axClear context 65536, .mvQueue badContext 0 0 0 false false,
    .mvQueue context 65536 0 0 false false, .mvChange badContext 0 0 0 false false, .mvChange context 65536 0 0 false false,
    .mvFlush badContext 0, .mvFlush context 65536, .mvQstop badContext 0, .mvQstop context 65536, .mvHstop badContext 0,
    .mvHstop context 65536, .mvHome badContext 0 0 0 0 0 0 false, .mvHome context 65536 0 0 0 0 0 false,
    .mvHome context 0 256 0 0 0 0 false, .mvHome context 0 0 256 0 0 0 false, .pfCommit badContext 0, .pfCommit context 65536,
    .chEnable badContext 0 false, .chEnable context 256 false, .fbCommit badContext 0, .fbCommit context 65536,
    .fbClear badContext 0, .fbClear context 65536, .rgCommit badContext 0, .rgCommit context 256, .rgReopen badContext 0 0]
        : List Instr).all (fun c => !c.wf) = true := by decide

theorem test_wf_refuses_3 : ([.rgReopen context 256 0, .rgReopen context 0 256, .rgResync badContext 0 0, .rgResync context 256 0,
    .rgResync context 0 256, .rgAsend badContext 0 0 0 0 0, .rgAsend context 256 0 0 0 0, .rgAsend context 0 256 0 0 0,
    .rgAsend context 0 0 256 0 0, .rgAsend context 0 0 0 65536 0, .timeStep badContext 0, .timeRate badContext 0,
    .ptpCommit badContext, .acqCommit badContext, .acqArm badContext 0, .acqArm context 256, .acqDisarm badContext 0,
    .acqDisarm context 256, .acqForce badContext 0, .acqForce context 256, .acqRead badContext 0 0 0 0,
    .acqRead context 256 0 0 0, .acqMaskLoad badContext 0, .acqMaskLoad context 256, .maskLoadComplete 4,
    .spDesc badContext 0 0, .spDesc context 65536 0, .spPost badContext 0 0 0, .spPost context 65536 0 0,
    .spPost context 0 256 0, .spDrop badContext 0, .spDrop context 65536, .govCommit badContext, .ropeHandover badContext 0,
    .ropeRejoin badContext, .ropeDismiss badContext] : List Instr).all (fun c => !c.wf) = true := by decide

theorem test_wf_refuses_4 : ([.sfLoad badContext 0, .sfConfirm badContext 0, .sfDemand badContext 0, .sfDemand context 256,
    .sfReset badContext 0,
    .sfReset context 256, .sfBrakeTest badContext 0, .sfBrakeTest context 256, .stSave badContext,
    .stImgWrite badContext 0 0 0 0, .stImgWrite context 256 0 0 0, .stImgSeal badContext 0, .stImgSeal context 256,
    .stImgBoot badContext 0 0 0, .stImgBoot context 256 0 0, .stImgBoot context 0 256 0, .stImgBoot context 0 0 256,
    .stLogRead badContext 0 0 0, .stLogAck badContext 0 0, .stDebugOpen badContext, .stOwnerKey badContext 0 0,
    .stOwnerKey context 256 0, .stOwnerRevoke badContext 0, .stOwnerRevoke context 256, .stTeam badContext 0, .cmdPush 10,
    .registerWrite 10 0 0, .registerWrite 0 67108864 0, .narrowAccess 67108864 false, .aliasAccess 10 0 false 0,
    .aliasAccess 0 67108864 false 0, .mailboxSelect 10 0 0, .mailboxSelect 0 8 0, .mailboxCaptureComplete 8,
    .delayMaxClear 10 0, .delayMaxClear 0 512] : List Instr).all (fun c => !c.wf) = true := by decide

theorem test_wf_refuses_5 : ([.govClear 10, .perfClear 10, .perfFreeze 10 false, .perfCfgWrite 10 0 0, .perfCfgWrite 0 128 0,
    .cmpArm 10 0, .cmpArm 0 32,
    .cmpFire 32, .evioModeWrite 10 0 0, .evioModeWrite 0 64 0, .evioModeWrite 0 0 16, .evioQt 10 0 0, .evioQt 0 64 0,
    .evioQpush 10 0 false, .evioQpush 0 64 false, .evioEntryFire 64, .evioPeriodicEdge 64, .evioCapture 64 ⟨false, 1⟩ 0,
    .evioCapture 0 ⟨false, 1⟩ 18446744073709551616, .capRdWrite 10 0, .arxRdWrite 10 0 0, .arxRdWrite 0 4 0, .strRdWrite 10 0, .schedWindowWrite 10 0,
    .classRightRemove 10 false 0, .bwMonitorEnable 10 0 0, .bwMonitorEnable 0 16 0, .bwWindowEnd 16 0 0, .pcSample 8 false,
    .encoderEdge 16 ⟨0, 1, 1⟩ 0, .encoderEdge 0 ⟨4, 1, 1⟩ 0, .encoderIndexEdge 16 ⟨0, ⟨true, 1⟩, 0⟩, .encoderIndexEdge 0 ⟨4, ⟨true, 1⟩, 0⟩,
    .qerrWindowClose 16, .qerrWindowClose 511, .qerrWindowClose 1024, .qerrLimitReached 16, .qerrLimitReached 1024,
    .serialDeadline 8 false [], .serialFailLimit 8] : List Instr).all (fun c => !c.wf) = true := by decide

theorem test_wf_refuses_6 : ([.passageHeader 4 0 [] 0, .passageHeader 0 2 [] 0, .coldStartHeader 4 0 [] 0,
    .coldStartHeader 0 2 [] 0, .barge 4 0 [] 0,
    .barge 0 2 [] 0, .downstreamFrame 4 0 [] 0, .downstreamFrame 0 2 [] 0, .acyclicFrame 4 0 [], .acyclicFrame 0 2 [],
    .poundProbe 4 0 [] 0, .poundProbe 0 2 [] 0, .poundProbeReply 4 0 [] 0, .poundProbeReply 0 2 [] 0, .poundProbeSend 4 0,
    .poundProbeSend 0 2, .edgeLimitReached 4 0, .edgeLimitReached 0 65, .joinCountReached 4 0, .joinCountReached 0 65,
    .bargeAbsenceTimeout 4 0, .bargeAbsenceTimeout 0 65, .creditResync 4 0, .creditResync 0 65, .blockLockLoss 4 0,
    .blockLockLoss 0 2, .headerAbsence 4 0, .headerAbsence 0 2, .blockLockRegained 4 0, .blockLockRegained 0 2, .holeClear 4,
    .triggerTimeout 16, .postReached 4, .taskStart 8, .pendingTokenAccept 100, .delayExpiry 4096]
        : List Instr).all (fun c => !c.wf) = true := by decide

theorem test_wf_refuses_7 : ([.sensorFail 8, .preValid 4, .heartbeat 2 [], .batch 2 false 0 [], .ledger 2 false 0 [],
    .local_ 2 false 0 [] 0,
    .localSer 2 false 0 [], .sample 2 [], .verdict 2 false 0 0 0, .verdict 0 false 0 256 0, .verdict 0 false 0 0 256,
    .evioFrame 2 false 0 0 0 0, .evioFrame 0 false 64 0 0 0, .evioFrame 0 false 0 9 0 0, .grant 2 false 0,
    .copy 2 false (.register 0 0) 0, .copy 0 false (.register 0 0) 4294967296, .batchMissing 4, .secondDownstreamFallback 4,
    .ropeLinkLockLoss 2, .ropeLinkLockRegained 2, .safetySample 65536 0 0 [], .safetySample 0 256 0 [],
    .safetySample 0 0 256 [], .discrepancyTimeout 16, .ss1TimeExpiry 32, .offPulse 16 false, .offPulseEnd 16 false,
    .containerLoss 4 0, .containerLoss 0 65, .stoFail 4 0, .stoFail 0 65, .safetyDiagFault 6]
        : List Instr).all (fun c => !c.wf) = true := by decide

end Sys2Proof.Tests
end

section
/-! PROOFS. What a refused host command leaves (R16). -/

namespace Sys2Proof.Machine

theorem refusalCode_eq_some_of_ne_zero (auth logFull : Bool) (r : Refusals) (code : Nat)
    (h : code = (refusalCode auth logFull r).getD 0) (h0 : code ≠ 0) : refusalCode auth logFull r = some code := by
  cases hr : refusalCode auth logFull r with
  | none => rw [hr] at h; exact absurd h h0
  | some k => rw [hr] at h; rw [h]; rfl

theorem resultBytes_length (seq : Word) (tag opc status : Nat) (detail passage : Word) :
    (resultBytes seq tag opc status detail passage).length = 16 := by
  simp [resultBytes, bytesLE_length]

theorem State.store'_memorySame (s : State) (a : Nat) (bs : List Byte) : s.memorySame (s.store' a bs) a bs.length :=
  fun x hx => Mem.byte_setBytes_out s.mem a x bs (by omega)

theorem State.store'_bytes (s : State) (a : Nat) (bs : List Byte) : (s.store' a bs).mem.bytes a bs.length = bs :=
  Mem.bytes_setBytes s.mem a bs

/-- Whatever an outcome logs, the state differs in the log alone. -/
theorem State.logOutcome_logged (s : State) (c : Ctx) (i : CmdInfo) (n code : Nat) :
    ∃ m wr l un res, s.logOutcome c i n code = s.logged m wr l un res := by
  unfold State.logOutcome
  by_cases hl : i.logged = true
  · rw [if_pos hl]
    by_cases hk : code = codeOk
    · rw [if_pos hk]
      split
      · exact ⟨_, _, _, _, _, rfl⟩
      · exact ⟨_, _, _, _, _, rfl⟩
    · rw [if_neg hk]
      split
      · exact State.logReserved_logged ..
      · exact State.logNow_logged ..
  · rw [if_neg hl]
    split
    · exact State.logNow_logged ..
    · exact ⟨_, _, _, _, _, rfl⟩

/-- A command that a check refuses (R16): log entries and a result record with the code of the refusal. -/
theorem State.hostCommand_refused (s : State) (c : Ctx) (opc : Nat) (args : List Nat) (core : State → Answer) (r : Refusals)
    (code : Nat) (hr : ∀ m wr l un res, (core (s.logged m wr l un res)).refusals = r)
    (hc : refusalCode (!c.forwarded && s.lacks c.origin (rightOf opc args)) c.logFull
      { r with illegal := r.illegal || (!c.forwarded && s.roleForbids opc) } = some code) :
    ∃ m wr l un res rs n detail, s.hostCommand c opc args core =
      s.concluded m wr l un res c (resultBytes c.seq c.tag opc code detail s.tt.passage) rs n := by
  obtain ⟨m, wr, l, un, res, hp⟩ := State.prepared_logged s c (infoOf opc args) s.tt.passage
  have hq : s.hostCommand c opc args core = (s.logged m wr l un res).finish c (infoOf opc args) core
      (s.setAside c (infoOf opc args)).1 := by rw [← hp]; rfl
  have hj : ∃ detail, (s.logged m wr l un res).judge c (infoOf opc args) core = (code, detail, s.logged m wr l un res) := by
    have hc' : refusalCode (!c.forwarded && (s.logged m wr l un res).lacks c.origin (infoOf opc args).right) c.logFull
        { (core (s.logged m wr l un res)).refusals with
          illegal := (core (s.logged m wr l un res)).refusals.illegal ||
            (!c.forwarded && (s.logged m wr l un res).roleForbids (infoOf opc args).opc) } = some code := by
      rw [hr]; exact hc
    unfold State.judge
    simp only []
    rw [hc']
    exact ⟨_, rfl⟩
  obtain ⟨detail, hj⟩ := hj
  obtain ⟨m', wr', l', un', res', ho⟩ := State.logOutcome_logged (s.logged m wr l un res) c (infoOf opc args)
    (s.setAside c (infoOf opc args)).1 code
  rw [hq]
  unfold State.finish State.settle
  rw [hj]
  dsimp only
  rw [ho]
  exact ⟨_, _, _, _, _, _, _, _, rfl⟩

/-- The order of R16's checks, by the code of the first that fails; 0 where none does. -/
theorem refusalCode_getD (auth logFull : Bool) (r : Refusals) :
    (refusalCode auth logFull r).getD 0 = if auth then 0x07 else if r.locked then 0x04 else if r.notPresent then 0x08
      else if r.faulted then 0x0B else if r.length then 0x03 else if r.range then 0x02 else if r.illegal then 0x01
      else if r.mismatch then 0x09 else if r.stale then 0x0A else if logFull then 0x06 else if r.backpressure then 0x05
      else 0 := by
  simp only [refusalCode, apply_ite (fun o : Option Nat => o.getD 0), Option.getD_some, Option.getD_none]
  rfl

/-- Settles O6: a refusal leaves log entries and the result record, whatever the command's effect would have been. -/
theorem refusedCommandsApplyNothing : Obligations.RefusedCommandsApplyNothing := by
  unfold Obligations.RefusedCommandsApplyNothing
  intro s c opc args core r hr auth illegal code h0
  have hc := refusalCode_eq_some_of_ne_zero auth c.logFull { r with illegal := illegal } code
    (refusalCode_getD auth c.logFull { r with illegal := illegal }).symm h0
  obtain ⟨m, wr, l, un, res, rs, n, detail, ht⟩ := State.hostCommand_refused s c opc args core r code
    (fun m wr l un res => hr (s.logged m wr l un res) rfl) hc
  have hlen := resultBytes_length c.seq c.tag opc code detail s.tt.passage
  have hsame := State.store'_memorySame s (recordAt c) (resultBytes c.seq c.tag opc code detail s.tt.passage)
  have hbytes := State.store'_bytes s (recordAt c) (resultBytes c.seq c.tag opc code detail s.tt.passage)
  rw [hlen] at hsame hbytes
  rw [ht]
  exact ⟨hsame, detail, hbytes, rfl⟩
end Sys2Proof.Machine
end

section
/-! PROOFS. The register map: where staged fields and LOCK bits stand (R12, R134). -/

namespace Sys2Proof.Machine

/-! ### The register map: where staged fields and LOCK bits stand -/

/-- A block or page that may hold staged fields: GOV, the rings, FBK, STEP, ACQ, PLANT, and the axis pages. -/
def stagedBlock (off : Nat) : Bool := decide (0x100000 ≤ off) || [2, 4, 6, 7, 8, 0xD].contains (off / 0x10000)

/-- A register with a LOCK bit has no other field at bit 31 that a write could clear, and stages nothing without LK fields. -/
def Mask.lockSafe (m : Mask) : Bool :=
  !m.lock || (!m.lk.bit 31 && (m.staged || !m.rw.bit 31) && (!m.staged || m.lk != 0))

/-- Fields that keep LOCK bits, staged ones only where `b` allows them. -/
def Mask.fits (b : Bool) (m : Mask) : Bool := m.lockSafe && (b || !m.staged)

theorem Mask.fits_of_direct {b : Bool} {x : Option Mask} (h : x.all (Mask.fits false) = true) : x.all (Mask.fits b) = true := by
  cases x with
  | none => rfl
  | some m =>
    simp only [Option.all_some, Mask.fits, Bool.false_or, Bool.and_eq_true] at h ⊢
    exact ⟨h.1, by rw [h.2, Bool.or_true]⟩

theorem axisMask_fits (o : Nat) : (axisMask o).all (Mask.fits true) = true := by unfold axisMask; (repeat' split) <;> rfl
theorem govMask_fits (o : Nat) : (govMask o).all (Mask.fits true) = true := by unfold govMask; (repeat' split) <;> rfl
theorem ringMask_fits (o : Nat) : (ringMask o).all (Mask.fits true) = true := by unfold ringMask; (repeat' split) <;> rfl
theorem fbkMask_fits (o : Nat) : (fbkMask o).all (Mask.fits true) = true := by unfold fbkMask; (repeat' split) <;> rfl
theorem genMask_fits (o : Nat) : (genMask o).all (Mask.fits true) = true := by unfold genMask; (repeat' split) <;> rfl
theorem stepMask_fits (o : Nat) : (stepMask o).all (Mask.fits true) = true := by
  unfold stepMask
  split
  · rfl
  · split
    · split <;> rfl
    · split
      · exact genMask_fits _
      · rfl
theorem acqMask_fits (o : Nat) : (acqMask o).all (Mask.fits true) = true := by unfold acqMask; (repeat' split) <;> rfl
theorem plantMask_fits (o : Nat) : (plantMask o).all (Mask.fits true) = true := by unfold plantMask; (repeat' split) <;> rfl
theorem gctlMask_fits (o : Nat) : (gctlMask o).all (Mask.fits false) = true := by unfold gctlMask; (repeat' split) <;> rfl
theorem accessMask_fits (o : Nat) : (accessMask o).all (Mask.fits false) = true := by unfold accessMask; (repeat' split) <;> rfl
theorem ttMask_fits (o : Nat) : (ttMask o).all (Mask.fits false) = true := by unfold ttMask; (repeat' split) <;> rfl
theorem schedMask_fits (o : Nat) : (schedMask o).all (Mask.fits false) = true := by unfold schedMask; (repeat' split) <;> rfl
theorem timeMask_fits (o : Nat) : (timeMask o).all (Mask.fits false) = true := by unfold timeMask; (repeat' split) <;> rfl
theorem ropeMask_fits (o : Nat) : (ropeMask o).all (Mask.fits false) = true := by unfold ropeMask; (repeat' split) <;> rfl
theorem safeMask_fits (o : Nat) : (safeMask o).all (Mask.fits false) = true := by unfold safeMask; (repeat' split) <;> rfl
theorem perfMask_fits (o : Nat) : (perfMask o).all (Mask.fits false) = true := by unfold perfMask; (repeat' split) <;> rfl
theorem storeMask_fits (o : Nat) : (storeMask o).all (Mask.fits false) = true := by unfold storeMask; (repeat' split) <;> rfl

theorem maskOf_fits (off : Nat) : (maskOf off).all (Mask.fits (stagedBlock off)) = true := by
  unfold maskOf
  by_cases h : 0x100000 ≤ off
  · have hb : stagedBlock off = true := by simp [stagedBlock, h]
    rw [if_pos h, hb]
    split
    · exact axisMask_fits _
    · rfl
  · rw [if_neg h]
    have hb (k : Nat) (hk : off / 0x10000 = k) (hc : [2, 4, 6, 7, 8, 0xD].contains k = true) : stagedBlock off = true := by
      rw [stagedBlock, hk, hc, Bool.or_true]
    dsimp only
    split
    case h_1 =>
      refine Mask.fits_of_direct ?_
      split
      · exact gctlMask_fits _
      · split
        · exact accessMask_fits _
        · split
          · split <;> rfl
          · rfl
    case h_2 => exact Mask.fits_of_direct (ttMask_fits _)
    case h_3 hk => rw [hb _ hk rfl]; exact govMask_fits _
    case h_4 => exact Mask.fits_of_direct (schedMask_fits _)
    case h_5 hk => rw [hb _ hk rfl]; exact ringMask_fits _
    case h_6 => exact Mask.fits_of_direct (timeMask_fits _)
    case h_7 hk => rw [hb _ hk rfl]; exact fbkMask_fits _
    case h_8 hk => rw [hb _ hk rfl]; exact stepMask_fits _
    case h_9 hk => rw [hb _ hk rfl]; exact acqMask_fits _
    case h_10 => exact Mask.fits_of_direct (ropeMask_fits _)
    case h_11 => exact Mask.fits_of_direct (safeMask_fits _)
    case h_12 => exact Mask.fits_of_direct (perfMask_fits _)
    case h_13 => exact Mask.fits_of_direct (storeMask_fits _)
    case h_14 hk => rw [hb _ hk rfl]; exact plantMask_fits _
    case h_15 => rfl

section
variable {off : Nat} {m : Mask} (h : maskOf off = some m)
include h

theorem maskOf_lockSafe : m.lockSafe = true := by
  have hf := maskOf_fits off
  rw [h, Option.all_some, Mask.fits, Bool.and_eq_true] at hf
  exact hf.1

theorem maskOf_stagedBlock (hs : m.staged = true) : stagedBlock off = true := by
  have hf := maskOf_fits off
  rw [h, Option.all_some, Mask.fits, hs, Bool.and_eq_true, Bool.not_true, Bool.or_false] at hf
  exact hf.2

theorem maskOf_lk_bit31 (hl : m.lock = true) : m.lk.bit 31 = false := by
  have hs := maskOf_lockSafe h
  simp only [Mask.lockSafe, hl, Bool.not_true, Bool.false_or, Bool.and_eq_true, Bool.not_eq_true'] at hs
  exact hs.1.1

theorem maskOf_rw_bit31 (hl : m.lock = true) (hs : m.staged = false) : m.rw.bit 31 = false := by
  have hf := maskOf_lockSafe h
  simp only [Mask.lockSafe, hl, hs, Bool.not_true, Bool.false_or, Bool.and_eq_true, Bool.not_eq_true'] at hf
  exact hf.1.2

theorem maskOf_lock_of_staged (hs : m.staged = true) (hlk : m.lk = 0) : m.lock = false := by
  have hf := maskOf_lockSafe h
  simpa [Mask.lockSafe, hs, hlk] using hf
end

theorem stagedBlock_iff (off : Nat) : stagedBlock off = true ↔ 0x100000 ≤ off ∨ off / 0x10000 = 2 ∨ off / 0x10000 = 4 ∨
    off / 0x10000 = 6 ∨ off / 0x10000 = 7 ∨ off / 0x10000 = 8 ∨ off / 0x10000 = 0xD := by
  simp [stagedBlock, List.contains_eq_mem]

end Sys2Proof.Machine
end

section
/-! PROOFS. REGISTER_WRITE of the host: reserved places, staged fields and the entry registers (R11-R13, R134, R515, R548). -/

namespace Sys2Proof.Machine

/-! ### Registers with staged fields, and registers without any field in the table -/

/-- The masks of the blocks that stage fields, by the block's own table. -/
theorem maskOf_axis {off : Nat} (h : 0x100000 ≤ off) :
    maskOf off = if off < 0x180000 then axisMask (off % 0x400) else none := by
  rw [maskOf, if_pos h]

theorem maskOf_ring {off : Nat} (h : off / 0x10000 = 4) : maskOf off = ringMask (off % 0x10000 % 0x4000) := by
  rw [maskOf, if_neg (by omega), h]
  rfl

theorem maskOf_fbk {off : Nat} (h : off / 0x10000 = 6) : maskOf off = fbkMask (off % 0x10000) := by
  rw [maskOf, if_neg (by omega), h]
  rfl

theorem maskOf_step {off : Nat} (h : off / 0x10000 = 7) : maskOf off = stepMask (off % 0x10000) := by
  rw [maskOf, if_neg (by omega), h]
  rfl

theorem maskOf_acq {off : Nat} (h : off / 0x10000 = 8) : maskOf off = acqMask (off % 0x10000) := by
  rw [maskOf, if_neg (by omega), h]
  rfl

/-- The status word of a trigger unit (R355). -/
theorem acqMask_triggerStat {o : Nat} (h1 : 0x400 ≤ o) (h2 : o < 0x600) (h3 : o % 0x20 = 0x1C) :
    acqMask o = some Mask.none' := by
  unfold acqMask
  split
  case h_10 => rw [if_neg (by omega), if_neg (by omega), if_pos ⟨h1, h2⟩, h3]; rfl
  all_goals omega

/-- No flag that a write of ones clears shares a register with staged fields. -/
theorem w1cOf_of_staged {off : Nat} {m : Mask} (h : maskOf off = some m) (hs : m.staged = true) : w1cOf off = 0 := by
  have hb := (stagedBlock_iff off).mp (maskOf_stagedBlock h hs)
  have unstaged (x : Option Mask) (hx : maskOf off = x) (hn : x = some Mask.none' ∨ x = none) : False := by
    rw [h] at hx
    rcases hn with rfl | rfl
    · cases hx; cases hs
    · cases hx
  unfold w1cOf
  by_cases axis : 0x100000 ≤ off
  · rw [if_pos axis]
    refine if_neg fun hr => unstaged _ (maskOf_axis axis) ?_
    rw [hr]
    split
    · exact .inl rfl
    · exact .inr rfl
  rw [if_neg axis]
  by_cases gen : 0x74000 ≤ off ∧ off < 0x80000
  · rw [if_pos gen]
    refine if_neg fun hr => unstaged _ (maskOf_step (by omega)) ?_
    unfold stepMask
    rw [if_neg (by omega), if_neg (by omega), show off % 0x10000 % 0x40 = 4 by omega]
    split
    · exact .inl rfl
    · exact .inr rfl
  rw [if_neg gen]
  by_cases chan : 0x70100 ≤ off ∧ off < 0x70200
  · rw [if_pos chan]
    refine if_neg fun hr => unstaged _ (maskOf_step (by omega)) (.inl ?_)
    unfold stepMask
    rw [if_neg (by omega), if_pos (by omega), show off % 0x10000 % 0x10 = 8 by omega]
    rfl
  rw [if_neg chan]
  by_cases enc : 0x61000 ≤ off ∧ off < 0x61400
  · rw [if_pos enc]
    refine if_neg fun hr => unstaged _ (maskOf_fbk (by omega)) (.inl ?_)
    unfold fbkMask
    rw [if_neg (by omega), if_neg (by omega), if_pos (by omega), show off % 0x10000 % 0x40 = 0x1C by omega]
    rfl
  rw [if_neg enc, if_neg (by omega), if_neg (by omega)]
  by_cases ring : 0x40000 ≤ off ∧ off < 0x50000
  · rw [if_pos ring]
    refine if_neg fun hr => unstaged _ (maskOf_ring (by omega)) (.inl ?_)
    rcases hr with hr | hr
    · rw [show off % 0x10000 % 0x4000 = 0x20 by omega]; rfl
    · rw [show off % 0x10000 % 0x4000 = 0x24 by omega]; rfl
  rw [if_neg ring]
  by_cases trg : 0x80400 ≤ off ∧ off < 0x80600
  · rw [if_pos trg]
    exact if_neg fun hr => unstaged _ (maskOf_acq (by omega)) (.inl (acqMask_triggerStat (by omega) (by omega) (by omega)))
  rw [if_neg trg]
  split
  case h_10 => rfl
  all_goals omega

/-- No field outside the register table shares a register with staged fields. -/
theorem State.writeOther_of_staged (s : State) (agent : Nat) (w : Word) {off : Nat} {m : Mask} (h : maskOf off = some m)
    (hs : m.staged = true) : s.writeOther agent off w = s := by
  have hb := (stagedBlock_iff off).mp (maskOf_stagedBlock h hs)
  have entry : ¬(0x20 ≤ off ∧ off < 0x40) := by omega
  have mbox : ¬(0x2000 ≤ off ∧ off < 0x2100) := by omega
  have arx : ¬(0x40000 ≤ off ∧ off < 0x50000 ∧ off % 0x4000 = 0x54) := by
    rintro ⟨h1, h2, h3⟩
    have hm := maskOf_ring (off := off) (by omega)
    rw [h, show off % 0x10000 % 0x4000 = 0x54 by omega] at hm
    cases hm
    cases hs
  have str : off ≠ 0x80024 := by
    rintro rfl
    cases h
    cases hs
  unfold State.writeOther
  rw [if_neg entry, if_neg mbox, if_neg arx, if_neg (by omega), if_neg (by omega), if_neg (by omega), if_neg str,
    if_neg (by omega)]

theorem State.lkChange_of_lk_zero (s : State) (off : Nat) {m : Mask} (w : Word) (h : m.lk = 0) : s.lkChange off m w = false := by
  simp [State.lkChange, h]

theorem State.lockSet_of_no_lock (s : State) (off : Nat) {m : Mask} (w : Word) (h : m.lock = false) :
    s.lockSet off m w = false := by
  simp [State.lockSet, h]

theorem State.writeLk_of_no_change (s : State) (agent : Nat) {off : Nat} {m : Mask} {w : Word} (locked : Bool)
    (hk : s.lkChange off m w = false) (hl : s.lockSet off m w = false) : s.writeLk agent off m w locked = s := by
  simp [State.writeLk, hk, hl]

theorem State.clearFlags_of_zero (s : State) {off : Nat} (w : Word) (h : w1cOf off = 0) : s.clearFlags off w = s := by
  simp [State.clearFlags, h]

/-- Only the tables of instances, generators and channels and the plant port hold marks of staged writes. -/
theorem State.markStaged_only (s : State) (off : Nat) : ∃ axes gens encs sers rems plant,
    s.markStaged off = { s with axes := axes, gens := gens, encs := encs, sers := sers, rems := rems, plant := plant } := by
  unfold State.markStaged
  (repeat' split) <;> exact ⟨_, _, _, _, _, _, rfl⟩

/-- What a pulse may change. -/
theorem State.pulse_only (s : State) (off : Nat) (w : Word) : ∃ axes gov perf,
    s.pulse off w = { s with axes := axes, gov := gov, perf := perf } := by
  unfold State.pulse
  (repeat' split) <;> exact ⟨_, _, _, rfl⟩

/-- Once PORn has risen the machine answers the host (R35). -/
theorem State.answers_host (s : State) (hp : s.host.phase ≠ .por) : s.answers 0 = true := by simp [State.answers, hp]

/-- The host's write of a register (R10, R13), once PORn has risen. -/
theorem State.hostWrite_host (s : State) {off : Nat} (w : Word) (hp : s.host.phase ≠ .por) (h2 : off < 0x2000000)
    (h4 : off % 4 = 0) : s.hostWrite 0 off w = s.writeAt 0 off w := by
  unfold State.hostWrite
  rw [s.answers_host hp, if_neg (by simp [isSoft]; omega), if_neg (by omega), if_neg (by omega)]

/-- Before PORn rises nobody answers (R35). -/
theorem State.hostWrite_por (s : State) (agent off : Nat) (w : Word) (hp : s.host.phase = .por) :
    s.hostWrite agent off w = s := by
  have ha : s.answers agent = false := by simp [State.answers, hp]
  unfold State.hostWrite
  rw [if_pos (by rw [ha]; rfl)]

/-- The host's write never ends as a REGISTER fault; at every place but the push register it is the write alone. -/
theorem State.writeAt_host (s t : State) {off : Nat} {w : Word} (h40 : off ≠ 0x40) (hw : s.writeReg 0 off w = (t, false)) :
    s.writeAt 0 off w = t := by
  unfold State.writeAt
  rw [hw]
  simp [h40]

/-- A reserved place ignores a write (R13). -/
theorem State.writeReg_reserved (s : State) {off : Nat} (w : Word) (hb : hostBarred off = false) (hm : maskOf off = none) :
    s.writeReg 0 off w = (s, false) := by
  unfold State.writeReg
  simp [isSoft, hb, hm]

/-- A write of a register that holds nothing in the register table and no flags. -/
theorem State.writeReg_none' (s : State) {off : Nat} (w : Word) (hb : hostBarred off = false)
    (hm : maskOf off = some Mask.none') (hf : w1cOf off = 0) (ho : off < 0x1000 ∨ 0x2000 ≤ off ∧ off < 0x20000) :
    s.writeReg 0 off w = (s.writeOther 0 off w, false) := by
  have hk : s.lkChange off Mask.none' w = false := s.lkChange_of_lk_zero off w rfl
  have hl : s.lockSet off Mask.none' w = false := s.lockSet_of_no_lock off w rfl
  have hr : s.writeLacks (agentOrigin 0) off Mask.none' w = false := by
    have : ¬(0x1000 ≤ off ∧ off < 0x2000) := by omega
    have hn : Mask.none'.staged = false := rfl
    simp [State.writeLacks, hk, hl, this, hn]
  have hp : s.pulse off w = s := by
    unfold State.pulse
    rw [if_neg (by omega), if_neg (by omega), if_neg (by omega)]
  have hlk := s.writeLk_of_no_change 0 (s.lockedAt off) hk hl
  have hst : s.writeStaged 0 off Mask.none' w (s.lockedAt off) = s := rfl
  have hpl : s.writePlain off Mask.none' w = s := rfl
  unfold State.writeReg
  simp [isSoft, hb, hm, hr, hk, hlk, hst, hpl, s.clearFlags_of_zero w hf, hp]

/-- The host's write of staged fields, with the right (R134, R548): the staged copy takes them and its page is marked. -/
theorem State.writeReg_staged (s : State) {off : Nat} {m : Mask} (w : Word) (hb : hostBarred off = false)
    (hm : maskOf off = some m) (hs : m.staged = true) (hlk : m.lk = 0) (hr : s.lacks originHost (some 1) = false)
    (hrole : s.rope.role ≠ 2) :
    s.writeReg 0 off w =
      ((((s.setStg off ((s.stgW off &&& ~~~m.rw) ||| (w &&& m.rw))).markStaged off).pulse off w), false) := by
  have hblk := (stagedBlock_iff off).mp (maskOf_stagedBlock hm hs)
  have hk : s.lkChange off m w = false := s.lkChange_of_lk_zero off w hlk
  have hl : s.lockSet off m w = false := s.lockSet_of_no_lock off w (maskOf_lock_of_staged hm hs hlk)
  have hlacks : s.writeLacks (agentOrigin 0) off m w = false := by
    have hacc : ¬(0x1000 ≤ off ∧ off < 0x2000) := by omega
    have ho : agentOrigin 0 = originHost := rfl
    simp [State.writeLacks, ho, hr, hk, hl, hacc]
  have hst : s.writeStaged 0 off m w (s.lockedAt off) =
      (s.setStg off ((s.stgW off &&& ~~~m.rw) ||| (w &&& m.rw))).markStaged off := by
    simp [State.writeStaged, hs, hlk, hrole]
  have hpl (u : State) : u.writePlain off m w = u := by simp [State.writePlain, hs]
  unfold State.writeReg
  simp [isSoft, hb, hm, hlacks, hk, s.writeLk_of_no_change 0 (s.lockedAt off) hk hl, hst, hpl,
    State.clearFlags_of_zero _ w (w1cOf_of_staged hm hs), State.writeOther_of_staged _ 0 w hm hs]

/-- Without the SETTINGS right the host's write of staged fields is denied (R548). -/
theorem State.writeReg_denied (s : State) {off : Nat} {m : Mask} (w : Word) (hb : hostBarred off = false)
    (hm : maskOf off = some m) (hs : m.staged = true) (hr : s.lacks originHost (some 1) = true) :
    s.writeReg 0 off w = (s.deny off, false) := by
  have hlacks : s.writeLacks (agentOrigin 0) off m w = true := by
    have ho : agentOrigin 0 = originHost := rfl
    simp [State.writeLacks, ho, hr, hs]
  unfold State.writeReg
  simp [isSoft, hb, hm, hlacks]

theorem maskOf_entry : ∀ k, k < 8 → maskOf (0x20 + 4 * k) = some Mask.none' ∧ w1cOf (0x20 + 4 * k) = 0 := by decide

/-- A write of an entry register (R515). -/
theorem State.writeOther_entry (s : State) (agent k : Nat) (w : Word) (hk : k < 8) :
    s.writeOther agent (0x20 + 4 * k) w = { s with host := { s.host with entry := setNth s.host.entry k w } } := by
  unfold State.writeOther
  rw [if_pos (by omega), show (0x20 + 4 * k - 0x20) / 4 = k by omega]

theorem exec_registerWrite (s : State) (agent off : Nat) (w : Word) :
    exec (.registerWrite agent off w) s = .next (s.hostWrite agent off w) := rfl

/-- Settles O41: the host's write reaches its register, and there one of three cases holds: no register, one with staged fields
(denied, or taken into the staged copy), an entry register. -/
theorem registerWritesTakeTheirFields : Obligations.RegisterWritesTakeTheirFields := by
  unfold Obligations.RegisterWritesTakeTheirFields
  intro s off w h2 h4 hb
  rw [exec_registerWrite]
  refine ⟨?_, ?_, ?_⟩
  · intro hm
    have h40 : off ≠ 0x40 := by rintro rfl; cases hm
    by_cases hp : s.host.phase = .por
    · rw [s.hostWrite_por 0 off w hp]
    · rw [s.hostWrite_host w hp h2 h4, s.writeAt_host s h40 (s.writeReg_reserved w hb hm)]
  · intro m hm hs hlk hp
    have h40 : off ≠ 0x40 := by rintro rfl; cases hm; cases hs
    rw [s.hostWrite_host w hp h2 h4]
    constructor
    · intro hr
      rw [s.writeAt_host _ h40 (s.writeReg_denied w hb hm hs hr)]
      rfl
    · intro hr hrole
      refine ⟨_, rfl, ?_⟩
      rw [s.writeAt_host _ h40 (s.writeReg_staged w hb hm hs hlk hr hrole)]
      obtain ⟨_, _, _, _, _, _, hmark⟩ := State.markStaged_only (s.setStg off ((s.stgW off &&& ~~~m.rw) ||| (w &&& m.rw))) off
      obtain ⟨_, _, _, hpulse⟩ := State.pulse_only
        ((s.setStg off ((s.stgW off &&& ~~~m.rw) ||| (w &&& m.rw))).markStaged off) off w
      rw [hpulse, hmark]
      exact ⟨(s.stgW_setStg off off _).trans (if_pos rfl), fun o ho => (s.stgW_setStg off o _).trans (if_neg ho),
        fun _ => rfl, rfl, rfl, rfl, rfl, rfl, rfl, rfl⟩
  · rintro k rfl hk hp
    obtain ⟨hm, hf⟩ := maskOf_entry k hk
    rw [s.hostWrite_host w hp h2 h4, s.writeAt_host _ (by omega) (s.writeReg_none' w hb hm hf (by omega)),
      s.writeOther_entry 0 k w hk]

end Sys2Proof.Machine
end

section
/-! PROOFS. Every register write keeps the LOCK bits (R12). -/

namespace Sys2Proof.Machine

/-! ### What keeps the register table -/

theorem foldl_regs {α : Type} (f : State → α → State) (l : List α) (s : State) (h : ∀ s x, (f s x).regs = s.regs) :
    (l.foldl f s).regs = s.regs := by
  induction l generalizing s with
  | nil => rfl
  | cons a r ih => rw [List.foldl_cons, ih, h]

theorem State.sameBesideCounts_regs {s t : State} (h : s.sameBesideCounts t) : t.regs = s.regs := by
  have := congrArg State.regs h; exact this

@[simp] theorem State.store'_regs (s : State) (a : Nat) (bs : List Byte) : (s.store' a bs).regs = s.regs := rfl

@[simp] theorem State.count_regs (s : State) (e u n : Nat) : (s.count e u n).regs = s.regs :=
  State.sameBesideCounts_regs (State.count_same s e u n)

@[simp] theorem State.prefetchOne_regs (s : State) (c : Nat) : (s.prefetchOne c).regs = s.regs := by
  unfold State.prefetchOne
  dsimp only
  (repeat' split) <;> rfl

@[simp] theorem State.prefetch_regs (s : State) : s.prefetch.regs = s.regs := by
  unfold State.prefetch
  split
  · rfl
  · refine foldl_regs _ _ s fun t c => ?_
    split
    · rw [State.prefetchOne_regs, State.prefetchOne_regs, State.prefetchOne_regs]
    · rfl

@[simp] theorem State.makeReady_regs (s : State) (d : Nat) (resume : Bool) : (s.makeReady d resume).regs = s.regs := by
  unfold State.makeReady
  dsimp only
  rw [State.prefetch_regs, foldl_regs _ _ _ fun t c => State.setCore_regs ..]
  rfl

@[simp] theorem State.checkComplete_regs (s : State) (d : Nat) : (s.checkComplete d).regs = s.regs := by
  unfold State.checkComplete
  split
  · split
    · exact State.makeReady_regs s d false
    · rfl
  · rfl

@[simp] theorem State.endTask_regs (s : State) (c : Nat) : (s.endTask c).regs = s.regs := by
  unfold State.endTask
  split
  · rfl
  · rw [State.checkComplete_regs]; rfl

@[simp] theorem State.sFault_regs (s : State) (c cause addr : Nat) (instr : U64) : (s.sFault c cause addr instr).regs = s.regs := by
  unfold State.sFault State.putRecord
  rw [State.endTask_regs]
  dsimp only
  split
  · rfl
  · rw [State.count_regs]; rfl

@[simp] theorem State.pushCommand_regs (s : State) (origin : Nat) : (s.pushCommand origin).regs = s.regs := by
  unfold State.pushCommand State.pushStop
  dsimp only
  (repeat' split) <;> rfl

@[simp] theorem State.plainEffect_regs (s : State) (off : Nat) (w : Word) : (s.plainEffect off w).regs = s.regs := by
  unfold State.plainEffect
  split
  · exact foldl_regs _ _ _ fun t c => State.setCore_regs ..
  · dsimp only
    (repeat' split) <;> rfl

/-- What a capture may change beside its words: the energy book, the counter of free values, the real-time counter. -/
theorem State.capture_only (s : State) (sel : Nat) : ∃ gov store n,
    (s.capture sel).2 = { s with gov := gov, store := store, freeCtr := n } := by
  unfold State.capture
  by_cases energy : sel = 0x0200
  · rw [if_pos energy]; exact ⟨_, _, _, rfl⟩
  rw [if_neg energy]
  by_cases clock : sel = 0x0C01
  · rw [if_pos clock]; exact ⟨_, _, _, rfl⟩
  · rw [if_neg clock]; exact ⟨_, _, _, rfl⟩

/-- A selector write changes its mailbox and what its capture may change. -/
theorem State.selectMailbox_only (s : State) (k sel : Nat) : ∃ gov store n x,
    s.selectMailbox k sel = { s.setMbox k x with gov := gov, store := store, freeCtr := n } := by
  obtain ⟨gov, store, n, hc⟩ := s.capture_only sel
  unfold State.selectMailbox
  dsimp only
  rw [hc]
  exact ⟨_, _, _, _, rfl⟩

@[simp] theorem State.sendEvio_regs (s : State) (p reg : Nat) (push : Bool) (w target : Word) :
    (s.sendEvio p reg push w target).regs = s.regs := by
  unfold State.sendEvio
  split
  · rw [State.count_regs]
  · rfl

@[simp] theorem State.writeEvio_regs (s : State) (agent p o : Nat) (w : Word) : (s.writeEvio agent p o w).regs = s.regs := by
  unfold State.writeEvio
  dsimp only
  (repeat' split) <;> simp

@[simp] theorem State.writeCmp_regs (s : State) (k o : Nat) (w : Word) : (s.writeCmp k o w).regs = s.regs := by
  unfold State.writeCmp
  dsimp only
  (repeat' split) <;> rfl

@[simp] theorem State.pulse_regs (s : State) (off : Nat) (w : Word) : (s.pulse off w).regs = s.regs := by
  obtain ⟨_, _, _, h⟩ := s.pulse_only off w
  rw [h]

@[simp] theorem State.writeOther_regs (s : State) (agent off : Nat) (w : Word) : (s.writeOther agent off w).regs = s.regs := by
  unfold State.writeOther
  split
  · rfl
  split
  · split
    · obtain ⟨_, _, _, _, h⟩ := s.selectMailbox_only ((off - 0x2000) / 0x20) (w.bits 0 16)
      rw [h]; rfl
    · rfl
  split
  · dsimp only
    split <;> rfl
  split
  · split <;> rfl
  split
  · exact State.writeCmp_regs ..
  split
  · exact State.writeEvio_regs ..
  split
  · dsimp only
    split <;> rfl
  split <;> rfl

@[simp] theorem State.writeLk_regs (s : State) (agent off : Nat) (m : Mask) (w : Word) (locked : Bool) :
    (s.writeLk agent off m w locked).regs = s.regs := by
  unfold State.writeLk
  dsimp only
  (repeat' split) <;> rfl

/-! ### LOCK bits (R12) -/

/-- Every LOCK bit that is set in `s` is set in `t`. -/
def State.keepsLocks (s t : State) : Prop :=
  ∀ o m, maskOf o = some m → m.lock = true → (s.cfgW o).bit 31 = true → (t.cfgW o).bit 31 = true

theorem State.keepsLocks_trans {a b c : State} (h : a.keepsLocks b) (g : b.keepsLocks c) : a.keepsLocks c :=
  fun o m hm hl hb => g o m hm hl (h o m hm hl hb)

theorem State.keepsLocks_of_cfgW {s t : State} (h : ∀ o, t.cfgW o = s.cfgW o) : s.keepsLocks t :=
  fun o _ _ _ hb => by rw [h o]; exact hb

theorem State.keepsLocks_of_regs {s t : State} (h : t.regs = s.regs) : s.keepsLocks t :=
  State.keepsLocks_of_cfgW fun o => by rw [State.cfgW, h, State.cfgW]

/-- A register rewritten with its LOCK bit as it was. -/
theorem State.setCfg_keepsLocks (s : State) (off : Nat) (w : Word)
    (h : ∀ m, maskOf off = some m → m.lock = true → (s.cfgW off).bit 31 = true → w.bit 31 = true) :
    s.keepsLocks (s.setCfg off w) := by
  intro o m hm hl hb
  rw [State.cfgW_setCfg]
  by_cases ho : o = off
  · subst ho
    rw [if_pos rfl]
    exact h m hm hl hb
  · rw [if_neg ho]
    exact hb

theorem Word.bit_or (a b : Word) (k : Nat) : Word.bit (a ||| b) k = (a.bit k || b.bit k) := BitVec.getLsbD_or

theorem Word.bit_and (a b : Word) (k : Nat) : Word.bit (a &&& b) k = (a.bit k && b.bit k) := BitVec.getLsbD_and

theorem Word.bit31_not (a : Word) : Word.bit (~~~a) 31 = !a.bit 31 := BitVec.getLsbD_not

/-- Staged fields go to the staged copy: no committed word changes. -/
theorem State.cfgW_writeStaged (s : State) (agent off : Nat) (m : Mask) (w : Word) (locked : Bool) (o : Nat) :
    (s.writeStaged agent off m w locked).cfgW o = s.cfgW o := by
  obtain ⟨_, _, _, _, _, _, hmark⟩ := State.markStaged_only
    (s.setStg off ((s.stgW off &&& ~~~(if locked then m.rw else m.rw ||| m.lk)) ||| (w &&& (if locked then m.rw else m.rw ||| m.lk)))) off
  unfold State.writeStaged
  split
  · rfl
  · dsimp only
    rw [hmark]
    split <;> rfl

/-- Plain fields leave bit 31 of a register with a LOCK bit. -/
theorem State.writePlain_keepsLocks (s : State) {off : Nat} {m : Mask} (w : Word) (hm : maskOf off = some m) :
    s.keepsLocks (s.writePlain off m w) := by
  unfold State.writePlain
  split
  · exact fun _ _ _ _ hb => hb
  next hw =>
    have hs : m.staged = false := by
      cases hs : m.staged with
      | false => rfl
      | true => exact absurd (by rw [hs]; rfl) hw
    refine State.keepsLocks_trans (b := s.setCfg off ((s.cfgW off &&& ~~~m.rw) ||| (w &&& m.rw))) ?_
      (State.keepsLocks_of_regs (State.plainEffect_regs ..))
    refine s.setCfg_keepsLocks off _ fun m' hm' hl hb => ?_
    rw [hm] at hm'
    cases hm'
    have hrw := maskOf_rw_bit31 hm hl hs
    rw [Word.bit_or, Word.bit_and, Word.bit31_not, hb, hrw]
    rfl

/-- Flags that a write of ones clears are no LOCK bits: only the classes of R549 stand in the register table. -/
theorem State.clearFlags_keepsLocks (s : State) (off : Nat) (w : Word) : s.keepsLocks (s.clearFlags off w) := by
  have plain : s.keepsLocks (s.clearPlain off w) := by
    unfold State.clearPlain
    split
    case h_8 =>
      refine s.setCfg_keepsLocks off _ fun m _ _ hb => ?_
      rw [Word.bit_and, Word.bit31_not, Word.bit_and, hb, show Word.bit 0x1FF 31 = false from rfl, Bool.and_false]
      rfl
    all_goals exact State.keepsLocks_of_regs rfl
  unfold State.clearFlags
  dsimp only
  iterate 9 (split; exact State.keepsLocks_of_regs rfl)
  exact plain

/-- A register write clears no LOCK bit (R12). -/
theorem State.writeReg_keepsLocks (s : State) (agent off : Nat) (w : Word) : s.keepsLocks (s.writeReg agent off w).1 := by
  unfold State.writeReg
  split
  · exact State.keepsLocks_of_regs rfl
  split
  · exact State.keepsLocks_of_regs rfl
  split
  · exact State.keepsLocks_of_regs rfl
  next m hm =>
  split
  · split <;> exact State.keepsLocks_of_regs rfl
  · dsimp only
    refine State.keepsLocks_trans ?_ (State.keepsLocks_of_regs (State.writeOther_regs ..))
    refine State.keepsLocks_trans ?_ (State.keepsLocks_of_regs (State.pulse_regs ..))
    refine State.keepsLocks_trans ?_ (State.clearFlags_keepsLocks _ off w)
    refine State.keepsLocks_trans ?_ (State.writePlain_keepsLocks _ w hm)
    refine State.keepsLocks_trans ?_ (State.keepsLocks_of_cfgW (State.cfgW_writeStaged _ agent off m w _))
    refine State.keepsLocks_trans ?_ (State.keepsLocks_of_regs (State.writeLk_regs ..))
    split <;> exact State.keepsLocks_of_regs rfl

theorem State.writeAt_keepsLocks (s : State) (agent off : Nat) (w : Word) : s.keepsLocks (s.writeAt agent off w) := by
  have hw := s.writeReg_keepsLocks agent off w
  unfold State.writeAt
  dsimp only
  split
  · exact State.keepsLocks_of_regs (State.sFault_regs s.tick.2 _ _ _ _)
  · split
    · exact State.keepsLocks_trans hw (State.keepsLocks_of_regs (State.pushCommand_regs ..))
    · exact hw

theorem State.hostWrite_keepsLocks (s : State) (agent off : Nat) (w : Word) : s.keepsLocks (s.hostWrite agent off w) := by
  unfold State.hostWrite
  split
  · exact State.keepsLocks_of_regs rfl
  split
  · exact State.keepsLocks_of_regs rfl
  split
  · exact s.writeAt_keepsLocks agent _ _
  · exact s.writeAt_keepsLocks agent _ _

/-- Settles O42: every part of a write, of whichever agent, keeps the LOCK bits that are set. -/
theorem registerWritesKeepLocks : Obligations.RegisterWritesKeepLocks := by
  unfold Obligations.RegisterWritesKeepLocks
  intro s agent off o w m hm hl hb
  exact ⟨s.hostWrite agent off w, rfl, s.hostWrite_keepsLocks agent off w o m hm hl hb⟩

end Sys2Proof.Machine
end

section
/-! PROOFS. LK_WRITE, accesses of a part of a word or of one bit, BAR2 and the mailboxes (R10-R14, R504-R508, R551). -/

namespace Sys2Proof.Machine

/-! ### LK and LOCK writes (R551) -/

/-- The word that a waiting LK or LOCK write gives its register. -/
def State.lkWord (s : State) (p : LkPend) (m : Mask) : Word :=
  (s.cfgW p.off &&& ~~~(m.lk ||| 0x80000000)) |||
    (if m.staged || s.lockedAt p.off then s.cfgW p.off &&& m.lk else p.word &&& m.lk) |||
    (if m.lock then (s.cfgW p.off ||| p.word) &&& 0x80000000 else 0)

/-- A waiting write that takes effect (R551): its entry in the log, its register, and perhaps the staged copy's LOCK bit. -/
theorem State.applyLk_cases (s : State) (p : LkPend) {m : Mask} (hm : maskOf p.off = some m) : ∃ u : State,
    (∃ b wr l un res, u = (s.logged b wr l un res).setCfg p.off (s.lkWord p m)) ∧
      (s.applyLk p = u ∨ ∃ w, s.applyLk p = u.setStg p.off w) := by
  obtain ⟨b, wr, l, un, res, hlog⟩ :=
    s.logNow_logged s.tt.passage p.origin 3 0 codeOk (BitVec.ofNat 32 p.off) (s.lkWord p m)
  refine ⟨_, ⟨b, wr, l, un, res, rfl⟩, ?_⟩
  rw [← hlog]
  unfold State.applyLk State.lkWord
  rw [hm]
  dsimp only
  split
  · exact .inr ⟨_, rfl⟩
  · exact .inl rfl

theorem State.cfgW_applyLk (s : State) (p : LkPend) {m : Mask} (hm : maskOf p.off = some m) (o : Nat) :
    (s.applyLk p).cfgW o = if o = p.off then s.lkWord p m else s.cfgW o := by
  obtain ⟨u, ⟨b, wr, l, un, res, hu⟩, h⟩ := s.applyLk_cases p hm
  have hcfg : u.cfgW o = if o = p.off then s.lkWord p m else s.cfgW o := by
    rw [hu]
    exact State.cfgW_setCfg (s.logged b wr l un res) p.off o _
  rcases h with h | ⟨w, h⟩
  · rw [h, hcfg]
  · rw [h, State.cfgW_setStg, hcfg]

theorem State.applyLk_only (s : State) (p : LkPend) {m : Mask} (hm : maskOf p.off = some m) : ∃ regs store,
    s.applyLk p = { s with regs := regs, store := store } := by
  obtain ⟨u, ⟨_, _, _, _, _, rfl⟩, h | ⟨w, h⟩⟩ := s.applyLk_cases p hm
  · exact ⟨_, _, h⟩
  · exact ⟨_, _, h⟩

theorem Word.getLsbD_top {i : Nat} (hi : i < 32) (h : i ≠ 31) : (0x80000000#32).getLsbD i = false := by
  have hall : ∀ i, i < 32 → i ≠ 31 → (0x80000000#32).getLsbD i = false := by decide
  exact hall i hi h

/-- The LK bits of the word: the register's own where they are staged or locked, else the write's (R12). -/
theorem State.lkWord_lk (s : State) (p : LkPend) {m : Mask} (hm : maskOf p.off = some m) :
    s.lkWord p m &&& m.lk =
      (if m.staged = true ∨ s.lockedAt p.off = true then s.cfgW p.off else p.word) &&& m.lk := by
  refine BitVec.eq_of_getLsbD_eq fun i hi => ?_
  rw [BitVec.getLsbD_and, BitVec.getLsbD_and]
  cases hlk : m.lk.getLsbD i with
  | false => rw [Bool.and_false, Bool.and_false]
  | true =>
    have hlock : (if m.lock then (s.cfgW p.off ||| p.word) &&& 0x80000000 else 0).getLsbD i = false := by
      split
      next hl =>
        have hne : i ≠ 31 := by
          rintro rfl
          exact absurd (hlk.symm.trans (maskOf_lk_bit31 hm hl)) (by decide)
        rw [BitVec.getLsbD_and]
        exact (congrArg _ (Word.getLsbD_top hi hne)).trans (Bool.and_false _)
      · exact BitVec.getLsbD_zero
    have hold : (s.cfgW p.off &&& ~~~(m.lk ||| 0x80000000)).getLsbD i = false := by
      simp [hlk, hi]
    rw [State.lkWord, BitVec.getLsbD_or, BitVec.getLsbD_or, hold, hlock]
    by_cases hc : m.staged = true ∨ s.lockedAt p.off = true
    · rw [if_pos hc, if_pos (Bool.or_eq_true_iff.mpr hc)]
      simp [hlk]
    · rw [if_neg hc, if_neg (fun h => hc (Bool.or_eq_true_iff.mp h))]
      simp [hlk]

/-- LOCK is set by a write and never cleared (R12). -/
theorem State.lkWord_lock (s : State) (p : LkPend) {m : Mask} (hm : maskOf p.off = some m) (hl : m.lock = true) :
    (s.lkWord p m).bit 31 = ((s.cfgW p.off).bit 31 || p.word.bit 31) := by
  have hlk := maskOf_lk_bit31 hm hl
  have htop : Word.bit 0x80000000#32 31 = true := rfl
  unfold State.lkWord
  rw [if_pos hl]
  split <;> simp [Word.bit_or, Word.bit_and, Word.bit31_not, hlk, htop]

/-! ### Accesses of a part of a word or of one bit (R10, R504) -/

theorem State.narrow_host (s : State) (off : Nat) (write : Bool) (hp : s.host.phase ≠ .por) :
    s.narrow off write = if write then s.accessError 1 false off else
      { s.accessError 1 false off with host := { (s.accessError 1 false off).host with readData := bytesLE 4 0, poisoned := false } } := by
  unfold State.narrow
  rw [s.answers_host hp]
  rfl

theorem bytesLE_bit (b : Bool) : bytesLE 4 (bitNat b) = [BitVec.ofNat 8 (bitNat b), 0, 0, 0] := by cases b <;> rfl

theorem State.aliasRead_host (s : State) {off : Nat} (h1 : 0x2000000 ≤ off) (h2 : off < 0x4000000)
    (hb : hostBarred (aliasOff off) = false) (hp : s.host.phase ≠ .por) :
    s.aliasRead 0 off = { s with host := { s.host with
      readData := bytesLE 4 (bitNat ((s.readReg (aliasOff off)).bit (aliasBit off))), poisoned := false } } := by
  unfold State.aliasRead State.readBy
  rw [s.answers_host hp, hb, if_neg (by simp [isSoft]; omega)]
  rfl

/-- A write of one bit is a write of its register with that bit replaced (R504). -/
theorem State.hostWrite_alias (s : State) {off : Nat} (w : Word) (h1 : 0x2000000 ≤ off) (h2 : off < 0x4000000)
    (h4 : off % 4 = 0) (hp : s.host.phase ≠ .por) :
    s.hostWrite 0 off w = s.hostWrite 0 (aliasOff off) (s.aliasWord 0 off (w.bit 0)) := by
  have hr : aliasOff off < 0x2000000 ∧ aliasOff off % 4 = 0 := by unfold aliasOff; omega
  rw [s.hostWrite_host (s.aliasWord 0 off (w.bit 0)) hp hr.1 hr.2]
  unfold State.hostWrite
  rw [s.answers_host hp, if_neg (by simp [isSoft]; omega), if_neg (by omega), if_pos ⟨h1, rfl⟩]

/-! ### BAR2 (R507, R508) -/

theorem foldl_min_le {α : Type} (f : α → Nat) (l : List α) (k : Nat) : l.foldl (fun m j => min m (f j)) k ≤ k := by
  induction l generalizing k with
  | nil => exact Nat.le_refl k
  | cons a r ih => exact Nat.le_trans (ih _) (Nat.min_le_left ..)

theorem bar2Range_le (a n : Nat) : bar2Range a n ≤ 2 := foldl_min_le (fun j => bar2Access (a + j)) (List.range n) 2

theorem State.bar2Write_allowed (s : State) (a : Nat) (bs : List Byte) (hp : s.host.phase ≠ .por) (hne : bs ≠ [])
    (hr : bar2Range a bs.length = 2) (hl : s.lacks originHost (some 1) = false) (hrole : s.rope.role ≠ 2) :
    s.bar2Write a bs false = s.store' a bs := by
  unfold State.bar2Write
  simp [s.answers_host hp, hne, hr, hl, hrole]

theorem State.bar2Write_refused (s : State) (a : Nat) (bs : List Byte) (hp : s.host.phase ≠ .por) (hne : bs ≠ [])
    (hr : bar2Range a bs.length ≠ 2) : ∃ kind, s.bar2Write a bs false = s.accessError kind true a := by
  have hle := bar2Range_le a bs.length
  have hc : bar2Range a bs.length = 0 ∨ bar2Range a bs.length = 1 := by omega
  unfold State.bar2Write
  rcases hc with hc | hc
  · exact ⟨2, by simp [s.answers_host hp, hne, hc]⟩
  · exact ⟨3, by simp [s.answers_host hp, hne, hc]⟩

theorem State.correct_same (s : State) (reader : Option (Nat × Nat)) (ws : List Nat) :
    s.sameBesideCounts (s.correct reader ws) := by
  unfold State.correct
  split
  · rfl
  · exact State.foldl_same _ _ (fun t w => State.correctOne_same t reader w) s

theorem State.sameBesideCounts_mem {s t : State} (h : s.sameBesideCounts t) : t.mem = s.mem := by
  have := congrArg State.mem h; exact this

theorem State.sameBesideCounts_host {s t : State} (h : s.sameBesideCounts t) : t.host = s.host := by
  have := congrArg State.host h; exact this

/-- Outside the matching store a read returns the bytes of memory and changes nothing. -/
theorem State.bar2Bytes_memory (s : State) (a n : Nat) (h : ∀ j, j < n → inMatching (a + j) = false) :
    s.bar2Bytes a n = (s.mem.bytes a n, s) := by
  induction n generalizing a with
  | zero => rfl
  | succ n ih =>
    have h0 : inMatching a = false := h 0 (by omega)
    have hr := ih (a + 1) fun j hj => by rw [Nat.add_assoc, Nat.add_comm 1]; exact h (j + 1) (by omega)
    rw [State.bar2Bytes, h0, hr]
    rfl

theorem State.bar2Read_decodes (s : State) (a n : Nat) (hp : s.host.phase ≠ .por) (hn : 0 < n) (hr : bar2Range a n ≠ 0)
    (hb : s.bad = []) (hm : ∀ j, j < n → inMatching (a + j) = false) :
    s.bar2Read a n = { s.correct none (wordsOf a n) with
      host := { s.host with readData := s.mem.bytes a n, poisoned := false } } := by
  have hsame := s.correct_same none (wordsOf a n)
  unfold State.bar2Read
  rw [s.answers_host hp, if_neg (by simp; omega)]
  dsimp only
  rw [if_neg hr, State.bar2Bytes_memory _ a n hm, State.sameBesideCounts_mem hsame, State.sameBesideCounts_host hsame]
  simp [hb]

theorem State.bar2Read_barred (s : State) (a n : Nat) (hp : s.host.phase ≠ .por) (hn : 0 < n) (hr : bar2Range a n = 0) :
    s.bar2Read a n = { s.accessError 2 true a with
      host := { (s.accessError 2 true a).host with readData := bytesLE n 0, poisoned := false } } := by
  unfold State.bar2Read
  rw [s.answers_host hp, if_neg (by simp; omega)]
  dsimp only
  rw [if_pos hr]

/-- What a fault of a port leaves alone: the memory, the axis instances, the registers, and the faults latched before. -/
structure State.FaultKeeps (s t : State) : Prop where
  mem : t.mem = s.mem
  axes : t.axes = s.axes
  regs : t.regs = s.regs
  units : ∀ u, u ∈ s.faults.units → u ∈ t.faults.units

theorem State.FaultKeeps.refl (s : State) : s.FaultKeeps s := ⟨rfl, rfl, rfl, fun _ h => h⟩

theorem State.FaultKeeps.trans {a b c : State} (h : a.FaultKeeps b) (g : b.FaultKeeps c) : a.FaultKeeps c :=
  ⟨g.mem.trans h.mem, g.axes.trans h.axes, g.regs.trans h.regs, fun u hu => g.units u (h.units u hu)⟩

theorem State.recordFault_keeps (s : State) (f : FaultRec) : s.FaultKeeps (s.recordFault f) := by
  unfold State.recordFault State.logEvent
  dsimp only
  obtain ⟨_, _, _, _, _, h⟩ := State.logNow_logged _ _ _ _ _ _ _ _
  rw [h]
  exact ⟨rfl, rfl, rfl, fun _ hu => hu⟩

theorem State.flag_keeps (s : State) (level kind identity : Nat) : s.FaultKeeps (s.flag level kind identity) := by
  unfold State.flag
  dsimp only
  split
  · exact ⟨rfl, rfl, rfl, fun _ hu => hu⟩
  · refine State.FaultKeeps.trans ?_ (State.recordFault_keeps ..)
    exact ⟨rfl, rfl, rfl, fun _ hu => hu⟩

theorem mem_addNew (k : Nat) (l : List Nat) (u : Nat) : u ∈ addNew k l ↔ u = k ∨ u ∈ l := by
  unfold addNew
  split
  next h =>
    have hk : k ∈ l := by simpa using h
    exact ⟨.inr, fun hu => hu.elim (fun e => e ▸ hk) id⟩
  · rw [List.mem_append, List.mem_singleton, or_comm]

/-- A fault of the acquisition port, the host port or the scheduler is its own and faults no cluster (R20). -/
theorem State.unitFault_port (s : State) (kind identity : Nat) (h : identity / 4096 = 6 ∨ identity / 4096 = 7 ∨ identity / 4096 = 8) :
    s.FaultKeeps (s.unitFault kind identity) ∧ identity ∈ (s.unitFault kind identity).faults.units := by
  have hk := s.flag_keeps 0 kind identity
  have hu : s.unitFault kind identity = { s.flag 0 kind identity with
      faults := { (s.flag 0 kind identity).faults with units := addNew identity (s.flag 0 kind identity).faults.units } } := by
    unfold State.unitFault
    dsimp only
    rcases h with h | h | h <;> rw [h] <;> rfl
  rw [hu]
  exact ⟨⟨hk.mem, hk.axes, hk.regs, fun u h => (mem_addNew ..).mpr (.inr (hk.units u h))⟩, (mem_addNew ..).mpr (.inl rfl)⟩

theorem idieUnit_port (a : Nat) : idieUnit a / 4096 = 6 ∨ idieUnit a / 4096 = 7 ∨ idieUnit a / 4096 = 8 := by
  unfold idieUnit
  split
  · exact .inl rfl
  · split
    · exact .inr (.inr rfl)
    · exact .inr (.inl rfl)

theorem State.idieFault_keeps (s : State) (a : Nat) : s.FaultKeeps (s.idieFault a) := by
  have hu := (s.unitFault_port 1 (idieUnit a) (idieUnit_port a)).1
  have hw (u : State) : u.FaultKeeps (u.acqWordFault a) := by
    unfold State.acqWordFault
    split
    · exact ⟨rfl, rfl, rfl, fun _ h => h⟩
    · exact .refl u
  refine hu.trans ((hw _).trans ?_)
  unfold State.idieFault
  dsimp only
  split
  · exact ⟨rfl, rfl, rfl, fun _ h => h⟩
  · exact .refl _

theorem State.foldl_keeps {α : Type} (f : State → α → State) (h : ∀ (s : State) x, s.FaultKeeps (f s x)) (l : List α) (s : State) :
    s.FaultKeeps (l.foldl f s) := by
  induction l generalizing s with
  | nil => exact .refl s
  | cons a r ih => exact (h s a).trans (ih (f s a))

theorem wordOf_of_mem_wordsOf {a n w : Nat} (h : w ∈ wordsOf a n) : wordOf w = w := by
  obtain ⟨k, -, rfl⟩ := List.mem_map.mp h
  unfold wordOf
  omega

/-- Where a word of a range does not decode, the read finds one. -/
theorem State.badWords_nonempty (s : State) (a n : Nat) (h : (wordsOf a n).any s.undecodable = true) :
    ((wordsOf a n).filter (fun w => s.bad.contains w)).isEmpty = false := by
  obtain ⟨w, hw, hu⟩ := List.any_eq_true.mp h
  rw [State.undecodable, wordOf_of_mem_wordsOf hw] at hu
  exact List.isEmpty_eq_false_iff_exists_mem.mpr ⟨w, List.mem_filter.mpr ⟨hw, hu⟩⟩

/-- A read of a word that does not decode (R110): a poisoned completion with data 0, and the host port's fault. -/
theorem State.bar2Read_undecodable (s : State) (a n : Nat) (hp : s.host.phase ≠ .por) (hn : 0 < n) (hr : bar2Range a n ≠ 0)
    (h : (wordsOf a n).any s.undecodable = true) : ∃ u : State, s.FaultKeeps u ∧ 0x7000 ∈ u.faults.units ∧
      s.bar2Read a n = { u with host := { u.host with readData := bytesLE n 0, poisoned := true } } := by
  have hbad := s.badWords_nonempty a n h
  obtain ⟨hport, hmem⟩ := s.unitFault_port 1 0x7000 (.inr (.inl rfl))
  have hrest := State.foldl_keeps (fun s w => s.idieFault w) (fun s w => s.idieFault_keeps w)
    (((wordsOf a n).filter (fun w => s.bad.contains w)).filter (fun w => !inRegion w && idieUnit w != 0x7000)) (s.unitFault 1 0x7000)
  refine ⟨_, hport.trans hrest, hrest.units _ hmem, ?_⟩
  unfold State.bar2Read
  rw [s.answers_host hp, if_neg (by simp; omega)]
  dsimp only
  rw [if_neg hr, hbad]
  rfl

/-! ### Mailboxes (R14, R505, R506) -/

@[simp] theorem State.mbox_setMbox (s : State) (i j : Nat) (x : Mbox) :
    (s.setMbox i x).mbox j = if j = i then x else s.mbox j := by simp [State.setMbox, State.mbox]

theorem maskOf_mailbox : ∀ k, k < 6 → maskOf (0x2000 + 0x20 * k) = some Mask.none' ∧ w1cOf (0x2000 + 0x20 * k) = 0 ∧
    hostBarred (0x2000 + 0x20 * k) = false := by decide

theorem Word.bits_selector {sel : Nat} (h : sel < 65536) : Word.bits (BitVec.ofNat 32 (sel % 65536)) 0 16 = sel := by
  unfold Word.bits
  rw [BitVec.toNat_ofNat]
  omega

theorem State.writeOther_mailbox (s : State) (agent k : Nat) (w : Word) (hk : k < 8) :
    s.writeOther agent (0x2000 + 0x20 * k) w = s.selectMailbox k (w.bits 0 16) := by
  unfold State.writeOther
  rw [if_neg (by omega), if_pos (by omega), if_pos (by omega), show (0x2000 + 0x20 * k - 0x2000) / 0x20 = k by omega]

/-- MAILBOX_SELECT by the host is the selector write of its mailbox (R505). -/
theorem State.hostWrite_mailbox (s : State) {k sel : Nat} (hk : k < 6) (hsel : sel < 65536) (hp : s.host.phase ≠ .por) :
    s.hostWrite 0 (0x2000 + 0x20 * k) (BitVec.ofNat 32 (sel % 65536)) = s.selectMailbox k sel := by
  obtain ⟨hm, hf, hb⟩ := maskOf_mailbox k hk
  rw [s.hostWrite_host _ hp (by omega) (by omega), s.writeAt_host _ (by omega) (s.writeReg_none' _ hb hm hf (by omega)),
    s.writeOther_mailbox 0 k _ (by omega), Word.bits_selector hsel]

theorem words64_eq (v : U64) : words64 v = [v.extractLsb' 0 32, v.extractLsb' 32 32] := by
  have hhi : hi32 v = v.extractLsb' 32 32 := by
    refine BitVec.eq_of_getLsbD_eq fun i hi => ?_
    simp [hi32, hi]
  have hlo : lo32 v = v.extractLsb' 0 32 := by
    refine BitVec.eq_of_getLsbD_eq fun i hi => ?_
    simp [lo32, hi]
  rw [words64, hhi, hlo]

/-- TIME and RAW of the instant of the selector write (R506). -/
theorem State.capture_time (s : State) : (s.capture 0x0500).1 = some [s.time.time.extractLsb' 0 32, s.time.time.extractLsb' 32 32,
    s.time.raw.extractLsb' 0 32, s.time.raw.extractLsb' 32 32] := by
  have hc : (s.capture 0x0500).1 = some (words64 s.time.time ++ words64 s.time.raw) := rfl
  rw [hc, words64_eq, words64_eq]
  rfl

/-- A selector that is not implemented (R506). -/
theorem State.capture_absent (s : State) : (s.capture 0x0503).1 = none := rfl

/-- The mailbox that a selector write leaves: its capture waits to complete (R505). -/
def State.selected (s : State) (sel : Nat) : Mbox :=
  { sel := sel, valid := false, busy := true
    code := if (s.capture sel).1.isSome then codeOk else codeNotPresent
    data := (s.capture sel).1.getD [0, 0, 0, 0] }

/-- A selector write changes its own mailbox alone. -/
theorem State.mbox_selectMailbox (s : State) (k sel j : Nat) :
    (s.selectMailbox k sel).mbox j = if j = k then s.selected sel else s.mbox j := by
  obtain ⟨_, _, _, hc⟩ := s.capture_only sel
  unfold State.selectMailbox
  dsimp only
  rw [State.mbox_setMbox, hc]
  rfl

theorem State.completeCapture_busy (s : State) {k : Nat} (h : (s.mbox k).busy = true) :
    s.completeCapture k = s.setMbox k { s.mbox k with busy := false, valid := true } := by
  unfold State.completeCapture
  dsimp only
  rw [if_pos h]

/-! ### The rows -/

theorem exec_lkWrite (s : State) : exec .lkWrite s = .next s.lkWrite := rfl

theorem exec_narrowAccess (s : State) (off : Nat) (write : Bool) : exec (.narrowAccess off write) s = .next (s.narrow off write) :=
  rfl

theorem exec_aliasAccess (s : State) (agent : Nat) {off : Nat} (write : Bool) (w : Word) (h : 0x2000000 ≤ off) :
    exec (.aliasAccess agent off write w) s = .next (if write then s.hostWrite agent off w else s.aliasRead agent off) := by
  have hx : exec (.aliasAccess agent off write w) s = execAliasAccess agent off write w s := rfl
  rw [hx, execAliasAccess, if_neg (by omega)]

/-- LK_WRITE with nothing waiting. -/
theorem State.lkWrite_nil (s : State) (h : s.host.lkPend = []) : s.lkWrite = s := by
  rw [State.lkWrite, h]

/-- LK_WRITE takes the oldest write that waits. -/
theorem State.lkWrite_cons (s : State) {p : LkPend} {r : List LkPend} (h : s.host.lkPend = p :: r) :
    s.lkWrite = State.applyLk { s with host := { s.host with lkPend := r } } p := by
  rw [State.lkWrite, h]

theorem exec_bar2Write (s : State) (a : Nat) (bs : List Byte) (poisoned : Bool) :
    exec (.bar2Write a bs poisoned) s = .next (s.bar2Write a bs poisoned) := rfl

theorem exec_bar2Read (s : State) (a n : Nat) : exec (.bar2Read a n) s = .next (s.bar2Read a n) := rfl

theorem exec_mailboxSelect (s : State) {k sel : Nat} (hk : k < 6) (hsel : sel < 65536) (hp : s.host.phase ≠ .por) :
    exec (.mailboxSelect 0 k sel) s = .next (s.selectMailbox k sel) := by
  have hx : exec (.mailboxSelect 0 k sel) s = execMailboxSelect 0 k sel s := rfl
  rw [hx, execMailboxSelect, if_pos (by omega), s.hostWrite_mailbox hk hsel hp]

theorem exec_mailboxCaptureComplete (s : State) (k : Nat) :
    exec (.mailboxCaptureComplete k) s = .next (s.completeCapture k) := rfl

/-- Settles O44, row by row: each row's effect is its lemma above, and what it leaves is read off it. -/
theorem locksWindowsAndMailboxes : Obligations.LocksWindowsAndMailboxes := by
  unfold Obligations.LocksWindowsAndMailboxes
  refine ⟨fun s off => ⟨?_, ?_, ?_, ?_, ?_⟩, fun s hp => ⟨?_, ?_, ?_, ?_, ?_, ?_, ?_⟩⟩
  · intro hn
    rw [exec_lkWrite, s.lkWrite_nil hn]
  · intro p r m hl hm
    refine ⟨_, exec_lkWrite s, ?_⟩
    rw [s.lkWrite_cons hl]
    obtain ⟨regs, store, ht⟩ := State.applyLk_only { s with host := { s.host with lkPend := r } } p hm
    have hc := State.cfgW_applyLk { s with host := { s.host with lkPend := r } } p hm
    refine ⟨?_, fun hlock => ?_, fun o ho => ?_, by rw [ht], by rw [ht]⟩
    · rw [hc, if_pos rfl]
      exact State.lkWord_lk { s with host := { s.host with lkPend := r } } p hm
    · rw [hc, if_pos rfl]
      exact State.lkWord_lock { s with host := { s.host with lkPend := r } } p hm hlock
    · rw [hc, if_neg ho]
      rfl
  · intro hp
    refine ⟨_, exec_narrowAccess s off true, ?_⟩
    rw [s.narrow_host off true hp]
    exact ⟨rfl, rfl, rfl, rfl⟩
  · intro hp
    refine ⟨_, exec_narrowAccess s off false, ?_⟩
    rw [s.narrow_host off false hp]
    exact ⟨rfl, rfl, rfl⟩
  · intro h1 h2 hb hp
    constructor
    · refine ⟨_, exec_aliasAccess s 0 false 0 h1, ?_⟩
      rw [if_neg Bool.false_ne_true, s.aliasRead_host h1 h2 hb hp]
      exact ⟨bytesLE_bit _, rfl⟩
    · intro w h4
      rw [exec_aliasAccess s 0 true w h1, if_pos rfl, s.hostWrite_alias w h1 h2 h4 hp, exec_registerWrite, aliasOff]
  · intro a bs hne hr hl hrole
    refine ⟨_, exec_bar2Write s a bs false, ?_⟩
    rw [s.bar2Write_allowed a bs hp hne hr hl hrole]
    exact ⟨s.store'_bytes a bs, s.store'_memorySame a bs, rfl⟩
  · intro a bs hne hr
    obtain ⟨kind, hw⟩ := s.bar2Write_refused a bs hp hne hr
    refine ⟨_, exec_bar2Write s a bs false, ?_⟩
    rw [hw]
    exact ⟨rfl, rfl⟩
  · intro a n hn hr hb hm
    refine ⟨_, exec_bar2Read s a n, ?_⟩
    rw [s.bar2Read_decodes a n hp hn hr hb hm]
    refine ⟨rfl, ?_⟩
    exact congrArg (fun u : State => { u with host := s.host }) (s.correct_same none (wordsOf a n))
  · intro a n hn hr hbad
    obtain ⟨u, hk, hu, hread⟩ := s.bar2Read_undecodable a n hp hn hr hbad
    refine ⟨_, exec_bar2Read s a n, ?_⟩
    rw [hread]
    exact ⟨rfl, rfl, hu, hk.mem, hk.axes, hk.regs⟩
  · intro a n hn hr
    refine ⟨_, exec_bar2Read s a n, ?_⟩
    rw [s.bar2Read_barred a n hp hn hr]
    exact ⟨rfl, rfl, rfl⟩
  · intro k sel hk hsel
    have hm := s.mbox_selectMailbox k sel
    have hk' : (s.selectMailbox k sel).mbox k = s.selected sel := (hm k).trans (if_pos rfl)
    refine ⟨_, exec_mailboxSelect s hk hsel hp, ?_⟩
    rw [hk']
    refine ⟨rfl, rfl, rfl, fun j hj => (hm j).trans (if_neg hj), ?_, ?_, ?_⟩
    · rintro rfl
      rw [State.selected, s.capture_time]
      exact ⟨rfl, rfl⟩
    · rintro rfl
      rw [State.selected, s.capture_absent]
      exact ⟨rfl, rfl⟩
    · obtain ⟨_, _, _, _, ht⟩ := s.selectMailbox_only k sel
      rw [ht]
      rfl
  · intro k hb
    refine ⟨_, exec_mailboxCaptureComplete s k, ?_⟩
    rw [s.completeCapture_busy hb]
    exact ⟨(s.mbox_setMbox k k _).trans (if_pos rfl), fun j hj => (s.mbox_setMbox k j _).trans (if_neg hj), rfl⟩

end Sys2Proof.Machine
end

section
/-! PROOFS. What log entries, faults, the switching of outputs and a change of role may change (R20-R24, R437, R445, R483). -/

namespace Sys2Proof.Machine

/-! ### The log and the counters -/

theorem State.logStore_logged (s : State) (origin code status subject value : Nat) :
    ∃ m wr l un res, s.logStore origin code status subject value = s.logged m wr l un res := State.logNow_logged ..

theorem State.logEvent_logged (s : State) (origin kind code subject value : Nat) :
    ∃ m wr l un res, s.logEvent origin kind code subject value = s.logged m wr l un res := State.logNow_logged ..

theorem State.logOther_logged (s : State) (origin off value : Nat) :
    ∃ m wr l un res, s.logOther origin off value = s.logged m wr l un res := State.logNow_logged ..

theorem State.bump_only (f k n : Nat) (s : State) : ∃ perf, s.bump f k n = { s with perf := perf } := by
  induction f generalizing s k n with
  | zero => exact ⟨_, rfl⟩
  | succ f ih =>
    unfold State.bump
    split
    · exact ⟨_, rfl⟩
    · dsimp only
      split
      · obtain ⟨perf, h⟩ := ih (k + 1) (((Tab.get 0 s.perf.counts k).toNat + n) / 2 ^ 32) { s with perf := { s.perf with
          counts := Tab.put 0 s.perf.counts k (BitVec.ofNat 32 ((Tab.get 0 s.perf.counts k).toNat + n)) } }
        exact ⟨perf, h⟩
      · exact ⟨_, rfl⟩

/-- Counting an event changes the performance counters alone. -/
theorem State.count_only (s : State) (event unit n : Nat) : ∃ perf, s.count event unit n = { s with perf := perf } := by
  unfold State.count
  split
  · refine List.foldlRecOn (motive := fun t => ∃ perf, t = { s with perf := perf }) _ _ ⟨s.perf, rfl⟩ ?_
    rintro _ ⟨p, rfl⟩ k -
    obtain ⟨q, h⟩ := State.bump_only 128 k n { s with perf := p }
    exact ⟨q, h⟩
  · exact ⟨_, rfl⟩

theorem satAdd_one (top n : Nat) : satAdd top n 1 = Nat.min top (n + 1) := by
  show (if top < n + 1 then top else n + 1) = min top (n + 1)
  split <;> omega

/-! ### Faults (R20-R24) -/

theorem mem_addNew_self (k : Nat) (l : List Nat) : k ∈ addNew k l := (mem_addNew k l k).mpr (.inl rfl)

/-- Two states that differ in nothing but what a fault of some level changes: DIAG, the latched faults, the books of GCTL, the log,
the rings' transmitters, and a swap that it cancels (R21-R23, R35, R75, R447). -/
def State.sameBesideFaults (s t : State) : Prop :=
  { t with
    rope := { t.rope with diagUnit := s.rope.diagUnit, diagWord := s.rope.diagWord, diagMiss := s.rope.diagMiss }
    faults := s.faults, host := s.host, store := s.store, rings := s.rings
    tt := { t.tt with shadowState := s.tt.shadowState, lastCode := s.tt.lastCode } } = s

/-- Faults have been flagged: `units` and `clusters` are latched now, and `pkg` says whether a package fault is. -/
structure State.Faulted (s t : State) (units clusters : List Nat) (pkg : Bool) : Prop where
  same : s.sameBesideFaults t
  units : t.faults.units = units
  clusters : t.faults.clusters = clusters
  pkg : t.faults.pkg = pkg

section
variable {s t u : State} {us ks : List Nat} {p : Bool}

theorem State.sameBesideFaults.trans (h : s.sameBesideFaults t) (g : t.sameBesideFaults u) : s.sameBesideFaults u :=
  Eq.trans (congrArg (fun z : State => { z with
    rope := { z.rope with diagUnit := s.rope.diagUnit, diagWord := s.rope.diagWord, diagMiss := s.rope.diagMiss }
    faults := s.faults, host := s.host, store := s.store, rings := s.rings
    tt := { z.tt with shadowState := s.tt.shadowState, lastCode := s.tt.lastCode } }) g) h

/-- What latches no further fault keeps those that are latched. -/
theorem State.Faulted.keep (h : s.Faulted t us ks p) (g : t.Faulted u t.faults.units t.faults.clusters t.faults.pkg) :
    s.Faulted u us ks p :=
  ⟨h.same.trans g.same, g.units.trans h.units, g.clusters.trans h.clusters, g.pkg.trans h.pkg⟩

theorem State.sameBesideFaults.mem (h : s.sameBesideFaults t) : t.mem = s.mem := (congrArg State.mem h :)
theorem State.sameBesideFaults.bad (h : s.sameBesideFaults t) : t.bad = s.bad := (congrArg State.bad h :)
theorem State.sameBesideFaults.axes (h : s.sameBesideFaults t) : t.axes = s.axes := (congrArg State.axes h :)
theorem State.sameBesideFaults.regs (h : s.sameBesideFaults t) : t.regs = s.regs := (congrArg State.regs h :)
theorem State.sameBesideFaults.passage (h : s.sameBesideFaults t) : t.tt.passage = s.tt.passage :=
  (congrArg (fun z : State => z.tt.passage) h :)
theorem State.sameBesideFaults.image (h : s.sameBesideFaults t) : t.image = s.image := (congrArg State.image h :)
theorem State.sameBesideFaults.locked (h : s.sameBesideFaults t) : t.rope.locked = s.rope.locked :=
  (congrArg (fun z : State => z.rope.locked) h :)
end

/-- A fault recorded: GCTL's books and the log. -/
theorem State.recordFault_only (s : State) (f : FaultRec) : ∃ host store,
    s.recordFault f = { s with host := host, store := store } := by
  unfold State.recordFault
  dsimp only
  obtain ⟨_, _, _, _, _, h⟩ := State.logEvent_logged { s with host := _ } originSelf 4 f.kind (f.level * 2 ^ 16 + f.identity) 0
  rw [h]
  exact ⟨_, _, rfl⟩

/-- A fault flagged (R23): nothing is latched yet. -/
theorem State.flag_faulted (s : State) (level kind identity : Nat) :
    s.Faulted (s.flag level kind identity) s.faults.units s.faults.clusters s.faults.pkg := by
  unfold State.flag
  dsimp only
  split
  · exact ⟨rfl, rfl, rfl, rfl⟩
  · obtain ⟨_, _, h⟩ := State.recordFault_only { s with rope := { s.rope with
      diagUnit := _, diagWord := _, diagMiss := _ } } ⟨level, kind, identity⟩
    rw [h]
    exact ⟨rfl, rfl, rfl, rfl⟩

theorem State.recordFaults_only (s : State) : ∃ host store,
    s.recordFaults = { s with host := host, store := store, faults := { s.faults with flagged := [] } } := by
  have h : ∃ host store, s.faults.flagged.foldl (fun s f => s.recordFault f) s = { s with host := host, store := store } := by
    refine List.foldlRecOn (motive := fun t => ∃ host store, t = { s with host := host, store := store }) _ _
      ⟨s.host, s.store, rfl⟩ ?_
    rintro _ ⟨host, store, rfl⟩ f -
    exact State.recordFault_only { s with host := host, store := store } f
  obtain ⟨host, store, h⟩ := h
  unfold State.recordFaults
  rw [h]
  exact ⟨_, _, rfl⟩

/-- A pending swap that a package fault cancels (R75). -/
def State.swapCancelled (s : State) : State :=
  if s.tt.shadowState = .pending then
    { s with tt := { s.tt with shadowState := .ready, lastCode := BitVec.ofNat 8 codeFaulted } }.logNow
      s.tt.passage originSelf 2 0x11 codeFaulted s.tt.swapSeq s.tt.swapAt
  else s

/-- A part that a package fault halts while it starts up (R35). -/
def State.startHalted (s : State) : State := match s.host.phase with
  | .run | .halt => s
  | _ => { (s.recordFaults.ringTx false) with host := { s.recordFaults.host with phase := .halt, haltCause := 2 } }

/-- A package fault is flagged and latched, cancels a pending swap, and halts a part that starts up. -/
theorem State.packageFault_eq (s : State) (kind : Nat) :
    s.packageFault kind = ({ s.flag 4 kind 0xD000 with
      faults := { (s.flag 4 kind 0xD000).faults with pkg := true, reactDue := true } }).swapCancelled.startHalted := rfl

theorem State.swapCancelled_faulted (s : State) :
    s.Faulted s.swapCancelled s.faults.units s.faults.clusters s.faults.pkg := by
  unfold State.swapCancelled
  split
  · obtain ⟨_, _, _, _, _, h⟩ := State.logNow_logged
      { s with tt := { s.tt with shadowState := .ready, lastCode := BitVec.ofNat 8 codeFaulted } }
      s.tt.passage originSelf 2 0x11 codeFaulted s.tt.swapSeq s.tt.swapAt
    rw [h]
    exact ⟨rfl, rfl, rfl, rfl⟩
  · exact ⟨rfl, rfl, rfl, rfl⟩

theorem State.startHalted_faulted (s : State) : s.Faulted s.startHalted s.faults.units s.faults.clusters s.faults.pkg := by
  obtain ⟨_, _, hrec⟩ := s.recordFaults_only
  unfold State.startHalted
  split
  · exact ⟨rfl, rfl, rfl, rfl⟩
  · exact ⟨rfl, rfl, rfl, rfl⟩
  · rw [hrec]
    exact ⟨rfl, rfl, rfl, rfl⟩

theorem State.Faulted.packageFault {s t : State} {us ks : List Nat} {p : Bool} (h : s.Faulted t us ks p) (kind : Nat) :
    s.Faulted (t.packageFault kind) us ks true := by
  have hflag := h.keep (t.flag_faulted 4 kind 0xD000)
  have hlatch : s.Faulted { t.flag 4 kind 0xD000 with
      faults := { (t.flag 4 kind 0xD000).faults with pkg := true, reactDue := true } } us ks true :=
    ⟨hflag.same, hflag.units, hflag.clusters, rfl⟩
  rw [State.packageFault_eq]
  exact (hlatch.keep (State.swapCancelled_faulted _)).keep (State.startHalted_faulted _)

/-- A cluster faulted, and the package with it (R20, R21). -/
theorem State.Faulted.faultCluster {s t : State} {us ks : List Nat} {p : Bool} (h : s.Faulted t us ks p) (kind k : Nat) :
    s.Faulted (t.faultClusters kind [k]) us (addNew k ks) true := by
  have hflag := h.keep (t.flag_faulted 1 kind (0xB000 + k))
  have hlatch : s.Faulted { t.flag 1 kind (0xB000 + k) with
      faults := { (t.flag 1 kind (0xB000 + k)).faults with clusters := addNew k t.faults.clusters } } us (addNew k ks) p :=
    ⟨hflag.same, hflag.units, congrArg (addNew k) h.clusters, hflag.pkg⟩
  exact hlatch.packageFault kind

/-- A unit's fault flagged and latched (R20). -/
def State.unitLatched (s : State) (kind identity : Nat) : State :=
  { s.flag 0 kind identity with faults := { (s.flag 0 kind identity).faults with
      units := addNew identity (s.flag 0 kind identity).faults.units } }

theorem State.unitLatched_faulted (s : State) (kind identity : Nat) :
    s.Faulted (s.unitLatched kind identity) (addNew identity s.faults.units) s.faults.clusters s.faults.pkg := by
  have hflag := s.flag_faulted 0 kind identity
  exact ⟨hflag.same, congrArg (addNew identity) hflag.units, hflag.clusters, hflag.pkg⟩

/-- An axis engine's fault is its cluster's, and the package's (R20). -/
theorem State.unitFault_engine (s : State) (kind : Nat) {n : Nat} (hn : n < 64) :
    s.Faulted (s.unitFault kind n) (addNew n s.faults.units) (addNew (n / 4) s.faults.clusters) true := by
  have heq : s.unitFault kind n = (s.unitLatched kind n).faultClusters kind [n / 4] := by
    unfold State.unitFault
    dsimp only
    rw [show n / 4096 = 0 by omega, show n % 4096 = n by omega]
    rfl
  rw [heq]
  exact (s.unitLatched_faulted kind n).faultCluster kind (n / 4)

/-- A rope link's fault is contained (R24). -/
theorem State.unitFault_ropeLink (s : State) (kind : Nat) {link : Nat} (hl : link < 2) :
    s.Faulted (s.unitFault kind (0x4000 + link)) (addNew (0x4000 + link) s.faults.units) s.faults.clusters s.faults.pkg := by
  have heq : s.unitFault kind (0x4000 + link) = s.unitLatched kind (0x4000 + link) := by
    unfold State.unitFault
    dsimp only
    rw [show (0x4000 + link) / 4096 = 4 by omega]
    rfl
  rw [heq]
  exact s.unitLatched_faulted kind (0x4000 + link)

/-! ### Outputs, instances and roles (R437, R443, R445, R483) -/

theorem State.switchOutputs_only (s : State) : ∃ souts brks,
    s.switchOutputs = { s with safe := { s.safe with souts := souts, brks := brks } } := by
  unfold State.switchOutputs
  let Only (t : State) : Prop := ∃ souts brks, t = { s with safe := { s.safe with souts := souts, brks := brks } }
  refine List.foldlRecOn (motive := Only) _ _ (List.foldlRecOn (motive := Only) _ _ ⟨s.safe.souts, s.safe.brks, rfl⟩ ?_) ?_
  · rintro _ ⟨souts, brks, rfl⟩ j -
    dsimp only
    split
    · exact ⟨souts, brks, rfl⟩
    · exact ⟨_, brks, rfl⟩
  · rintro _ ⟨souts, brks, rfl⟩ b -
    dsimp only
    split
    · exact ⟨souts, brks, rfl⟩
    · exact ⟨souts, _, rfl⟩

theorem State.enterAx_only (s : State) (i : Nat) (st : AxSt) : ∃ axes gens,
    s.enterAx i st = { s with axes := axes, gens := gens } := ⟨_, _, rfl⟩

theorem cmdAxDisable_only (i : Nat) (s : State) : ∃ axes gens, (cmdAxDisable i s).2 = { s with axes := axes, gens := gens } := by
  unfold cmdAxDisable
  dsimp only
  split
  · exact ⟨s.axes, s.gens, rfl⟩
  · obtain ⟨_, _, h⟩ := State.enterAx_only (s.setAxis i _) i .disabled
    exact ⟨_, _, h⟩

theorem State.stopChannel_only (s : State) (c cause : Nat) : ∃ gens chans,
    s.stopChannel c cause = { s with gens := gens, chans := chans } := ⟨_, _, rfl⟩

theorem cmdChEnable_off_only (blocked : Bool) (c : Nat) (s : State) : ∃ gens chans,
    (cmdChEnable blocked c false s).2 = { s with gens := gens, chans := chans } := by
  have heq : (cmdChEnable blocked c false s).2 =
      (let s2 := (s.setChan c { s.chan c with enabled := false }).stopChannel c 2
       s2.setGen (512 + c) { s2.gen (512 + c) with gst := .track }) := rfl
  obtain ⟨_, _, h⟩ := (s.setChan c { s.chan c with enabled := false }).stopChannel_only c 2
  rw [heq, h]
  exact ⟨_, _, rfl⟩

/-- Disabling instances and channels changes them and their generators alone (R445). -/
theorem State.holdDisabled_only (s : State) : ∃ axes gens chans,
    s.holdDisabled = { s with axes := axes, gens := gens, chans := chans } := by
  unfold State.holdDisabled
  let Only (t : State) : Prop := ∃ axes gens chans, t = { s with axes := axes, gens := gens, chans := chans }
  refine List.foldlRecOn (motive := Only) _ _ (List.foldlRecOn (motive := Only) _ _ ⟨s.axes, s.gens, s.chans, rfl⟩ ?_) ?_
  · rintro _ ⟨axes, gens, chans, rfl⟩ i -
    split
    · obtain ⟨axes', gens', h⟩ := cmdAxDisable_only i { s with axes := axes, gens := gens, chans := chans }
      exact ⟨axes', gens', chans, h⟩
    · exact ⟨axes, gens, chans, rfl⟩
  · rintro _ ⟨axes, gens, chans, rfl⟩ c -
    split
    · obtain ⟨gens', chans', h⟩ := cmdChEnable_off_only false c { s with axes := axes, gens := gens, chans := chans }
      exact ⟨axes, gens', chans', h⟩
    · exact ⟨axes, gens, chans, rfl⟩

/-- A role without instances of its own, taken (R437, R443): LEADON, the pin drivers and the island's outputs follow it. -/
theorem State.takeRole_only (s : State) {role : Nat} (h : role < 5) : ∃ evios souts brks,
    s.takeRole role = { s with
      rope := { s.rope with role := role, leadon := role == 1 || role == 2 }
      time := { s.time with evios := evios }, safe := { s.safe with souts := souts, brks := brks } } := by
  unfold State.takeRole
  dsimp only
  rw [if_neg (by omega)]
  obtain ⟨_, _, hsw⟩ := State.switchOutputs_only
    (State.driveEvios { s with rope := { s.rope with role := role, leadon := role == 1 || role == 2 } })
  exact ⟨_, _, _, hsw⟩

/-- A role taken: the instances, their generators and the channels beside. -/
theorem State.takeRole_any (s : State) (role : Nat) : ∃ axes gens chans evios souts brks,
    s.takeRole role = { s with
      rope := { s.rope with role := role, leadon := role == 1 || role == 2 }
      axes := axes, gens := gens, chans := chans
      time := { s.time with evios := evios }, safe := { s.safe with souts := souts, brks := brks } } := by
  by_cases h : role < 5
  · obtain ⟨_, _, _, hr⟩ := s.takeRole_only h
    exact ⟨s.axes, s.gens, s.chans, _, _, _, hr⟩
  · unfold State.takeRole
    dsimp only
    rw [if_pos (by omega)]
    obtain ⟨_, _, _, hd⟩ := State.holdDisabled_only { s with rope := { s.rope with role := role, leadon := role == 1 || role == 2 } }
    rw [hd]
    obtain ⟨_, _, hsw⟩ := State.switchOutputs_only (State.driveEvios { s with
      rope := { s.rope with role := role, leadon := role == 1 || role == 2 }, axes := _, gens := _, chans := _ })
    exact ⟨_, _, _, _, _, _, hsw⟩

end Sys2Proof.Machine
end

section
/-! PROOFS. A failed die link and the scrubber (R34, R109-R111). -/

namespace Sys2Proof.Tab

/-- What is read from a table without some of its keys. -/
theorem get_filter_key {α : Type} (d : α) (t : Tab α) (q : Nat → Bool) (k : Nat) :
    get d (t.filter (fun p => q p.1)) k = if q k then get d t k else d := by
  induction t with
  | nil => exact (ite_self d).symm
  | cons p r ih =>
    obtain ⟨j, v⟩ := p
    rw [List.filter_cons]
    by_cases hkj : k = j
    · subst hkj
      cases hq : q k <;> simp [get, hq, ih]
    · split <;> simp [get, hkj, ih]

end Sys2Proof.Tab

namespace Sys2Proof.Machine

/-! ### One word of memory: read, marked, stored -/

theorem Mem.length_bytes (m : Mem) (a n : Nat) : (m.bytes a n).length = n := by
  induction n generalizing a with
  | zero => rfl
  | succ n ih => exact congrArg (· + 1) (ih (a + 1))

theorem Mem.nthD_bytes (m : Mem) {a n k : Nat} (h : k < n) : nthD 0 (m.bytes a n) k = m.byte (a + k) := by
  induction n generalizing a k with
  | zero => omega
  | succ n ih =>
    cases k with
    | zero => rfl
    | succ k =>
      rw [Mem.bytes, nthD, ih (by omega), show a + 1 + k = a + (k + 1) by omega]

/-- Bytes written back where they were read change no byte. -/
theorem Mem.byte_setBytes_bytes (m : Mem) (a n x : Nat) : (m.setBytes a (m.bytes a n)).byte x = m.byte x := by
  rw [Mem.byte_setBytes, Mem.length_bytes]
  split
  next h => rw [m.nthD_bytes (by omega), show a + (x - a) = x by omega]
  · rfl

theorem State.byte_store'_bytes (s : State) (a n x : Nat) : (s.store' a (s.mem.bytes a n)).mem.byte x = s.mem.byte x :=
  s.mem.byte_setBytes_bytes a n x

theorem wordOf_wordOf (a : Nat) : wordOf (wordOf a) = wordOf a := by
  unfold wordOf
  omega

theorem wordsOf_wordOf (a : Nat) : wordsOf (wordOf a) 32 = [wordOf a] := by
  have h : (wordOf a + 32 - 1) / 32 + 1 - wordOf a / 32 = 1 := by
    unfold wordOf
    omega
  rw [wordsOf, h, wordOf_wordOf]
  rfl

theorem State.undecodable_wordOf (s : State) (a : Nat) : s.undecodable (wordOf a) = s.undecodable a := by
  rw [State.undecodable, State.undecodable, wordOf_wordOf]

/-- A word that is stored whole has no wrong symbol (R110). -/
theorem State.wrongAt_store'_word (s : State) (a : Nat) (bs : List Byte) (h : bs.length = 32) :
    (s.store' (wordOf a) bs).wrongAt a = 0 := by
  have hw : (s.store' (wordOf a) bs).wrong =
      if s.wrong.isEmpty then s.wrong else s.wrong.filter (fun p => !(wordsOf (wordOf a) bs.length).contains p.1) := rfl
  rw [State.wrongAt, hw, h, wordsOf_wordOf]
  split
  next he => rw [List.isEmpty_iff.mp he]; rfl
  · rw [Tab.get_filter_key 0 s.wrong (fun k => !([wordOf a] : List Nat).contains k) (wordOf a)]
    simp

/-- A store leaves no word that decodes undecodable. -/
theorem State.undecodable_store' (s : State) (a : Nat) (bs : List Byte) (x : Nat) (h : s.undecodable x = false) :
    (s.store' a bs).undecodable x = false := by
  have hb : (s.store' a bs).bad =
      if s.bad.isEmpty then s.bad else s.bad.filter (fun w => !(wordsOf a bs.length).contains w) := rfl
  rw [State.undecodable] at h ⊢
  rw [hb]
  split
  · exact h
  · rw [List.contains_eq_mem, decide_eq_false_iff_not] at h ⊢
    exact fun hm => h (List.mem_filter.mp hm).1

/-! ### Die links (R34) -/

theorem exec_dieLinkFailure (s : State) (link : Nat) : exec (.dieLinkFailure link) s = .next (s.dieLinkFailed link) := rfl

/-- A failed die link (R34): its own fault and the package's. -/
theorem State.dieLinkFailed_faulted (s : State) {link : Nat} (h : link < 3) :
    s.Faulted (s.dieLinkFailed link) (addNew (0xA000 + link) s.faults.units) s.faults.clusters true := by
  have hflag := s.flag_faulted 3 5 (0xA000 + link)
  have hlatch : s.Faulted { s.flag 3 5 (0xA000 + link) with faults := { (s.flag 3 5 (0xA000 + link)).faults with
      units := addNew (0xA000 + link) (s.flag 3 5 (0xA000 + link)).faults.units } }
      (addNew (0xA000 + link) s.faults.units) s.faults.clusters s.faults.pkg :=
    ⟨hflag.same, congrArg (addNew (0xA000 + link)) hflag.units, hflag.clusters, hflag.pkg⟩
  unfold State.dieLinkFailed
  rw [if_neg (by omega)]
  exact hlatch.packageFault 5

/-! ### The scrubber (R109-R111) -/

theorem exec_scrubVisit (s : State) (addr symbols : Nat) : exec (.scrubVisit addr symbols) s = .next (s.scrubVisit addr symbols) :=
  rfl

/-- What the scrubber's find of a word that does not decode leaves (R110): its mark, the faults of its engine, cluster and
package. -/
structure State.WordFound (s t : State) (addr : Nat) : Prop where
  undecodable : t.undecodable addr = true
  engine : addr / 0x40000 ∈ t.faults.units
  cluster : addr / 0x100000 ∈ t.faults.clusters
  pkg : t.faults.pkg = true
  mem : t.mem = s.mem
  axes : t.axes = s.axes
  regs : t.regs = s.regs

/-- The scrubber finds a word of an operand memory that does not decode. -/
theorem State.scrubBad_found (s : State) {addr : Nat} (h : addr < 0x01000000) : s.WordFound (s.scrubBad (wordOf addr)) addr := by
  have hw : wordOf addr < 0x01000000 ∧ wordOf addr / 0x40000 = addr / 0x40000 := by
    unfold wordOf
    omega
  obtain ⟨hlt, hengine⟩ := hw
  have heq : s.scrubBad (wordOf addr) = State.unitFault { s with
      bad := addNew (wordOf addr) s.bad, wrong := Tab.erase s.wrong (wordOf addr) } 1 (addr / 0x40000) := by
    unfold State.scrubBad State.wordFault
    dsimp only
    rw [if_neg (by simp [inRings]; omega), if_neg (by simp [inRegion]; omega), if_pos hlt, hengine]
  have hf := State.unitFault_engine { s with
    bad := addNew (wordOf addr) s.bad, wrong := Tab.erase s.wrong (wordOf addr) } 1 (n := addr / 0x40000) (by omega)
  rw [heq]
  refine ⟨?_, ?_, ?_, hf.pkg, hf.same.mem, hf.same.axes, hf.same.regs⟩
  · rw [State.undecodable, hf.same.bad, List.contains_eq_mem, decide_eq_true_iff]
    exact mem_addNew_self ..
  · rw [hf.units]
    exact mem_addNew_self ..
  · rw [hf.clusters, show addr / 0x100000 = addr / 0x40000 / 4 by omega]
    exact mem_addNew_self ..

/-- A word stored and counted as corrected. -/
def State.repaired (s : State) (w : Nat) (bs : List Byte) (perf : Perf) : State :=
  { s.store' w bs with rope := { s.rope with diagCorr := Nat.min 255 (s.rope.diagCorr + 1) }, perf := perf }

/-- A word repaired (R111): stored, and its write-back counted. -/
theorem State.scrubbed_repaired (s : State) (w port : Nat) (bs : List Byte) : ∃ perf, s.scrubbed w port bs = s.repaired w bs perf := by
  obtain ⟨perf, h⟩ := State.count_only { s.store' w bs with rope := { s.rope with diagCorr := satAdd 255 s.rope.diagCorr 1 } }
    0x0702 port 1
  refine ⟨perf, Eq.trans h ?_⟩
  rw [satAdd_one]
  rfl

/-- Only memory, its marks and the counters differ after a repair. -/
theorem State.repaired_memoryFrom (s : State) (w : Nat) (bs : List Byte) (perf : Perf) :
    (s.repaired w bs perf).memoryFrom s = s := by
  unfold State.memoryFrom State.countsFrom State.repaired
  rfl

theorem memoryPort_operand {addr : Nat} (h : addr < 0x01000000) : memoryPort addr = some (0x40 + addr / 0x40000) := if_pos h

section
variable (s : State) {addr : Nat} (symbols : Nat) (h : addr < 0x01000000) (hrun : s.host.phase = .run)
  (hport : s.portHeld addr = false)
include h hrun hport

theorem State.scrubVisit_undecodable (hb : s.undecodable addr = true) : s.scrubVisit addr symbols = s.scrubBad (wordOf addr) := by
  unfold State.scrubVisit
  simp [memoryPort_operand h, hrun, hport, hb]

variable (hb : s.undecodable addr = false)
include hb

theorem State.scrubVisit_clean (hn : max symbols (s.wrongAt addr) = 0) : s.scrubVisit addr symbols = s := by
  unfold State.scrubVisit
  simp [memoryPort_operand h, hrun, hport, hb, hn]

theorem State.scrubVisit_corrects (h1 : 1 ≤ max symbols (s.wrongAt addr)) (h4 : max symbols (s.wrongAt addr) ≤ 4) :
    s.scrubVisit addr symbols =
      s.scrubbed (wordOf addr) (0x40 + addr / 0x40000) (s.mem.bytes (wordOf addr) 32) := by
  unfold State.scrubVisit
  rw [memoryPort_operand h, hrun]
  dsimp only
  rw [hport, hb, if_neg Bool.false_ne_true, if_neg Bool.false_ne_true, if_neg (by omega), if_pos h4]

/-- More wrong symbols than four are found, or taken for another word. -/
theorem State.scrubVisit_more (h4 : 4 < max symbols (s.wrongAt addr)) :
    s.scrubVisit addr symbols = s.tick.2.scrubBad (wordOf addr) ∨ ∃ n bs, bs.length = 32 ∧
      s.scrubVisit addr symbols = ({ s with freeCtr := n }).scrubbed (wordOf addr) (0x40 + addr / 0x40000) bs := by
  have hlen (f : Nat) : ((List.range 4).flatMap (fun j => bytesLE 8 (Config.free (f + j)).toNat)).length = 32 := rfl
  unfold State.scrubVisit
  rw [memoryPort_operand h, hrun]
  dsimp only
  rw [hport, hb, if_neg Bool.false_ne_true, if_neg Bool.false_ne_true, if_neg (by omega), if_neg (by omega)]
  split
  · exact .inl rfl
  · exact .inr ⟨_, _, hlen _, rfl⟩
end

/-- Settles O38: a die link's fault is the package's; a visit of the scrubber is one of four cases, by whether the word decodes and
by its wrong symbols. -/
theorem hardwareFaultsAreContained : Obligations.HardwareFaultsAreContained := by
  unfold Obligations.HardwareFaultsAreContained
  intro s
  constructor
  · intro link hl
    have hf := s.dieLinkFailed_faulted hl
    refine ⟨_, exec_dieLinkFailure s link, hf.pkg, ?_, hf.clusters, hf.same.mem, hf.same.axes, hf.same.regs⟩
    rw [hf.units]
    exact mem_addNew_self ..
  · intro addr symbols ha hrun hport n found
    have hfound {t : State} (h : s.WordFound t addr) : found t :=
      ⟨h.undecodable, h.engine, h.cluster, h.pkg, h.mem, h.axes, h.regs⟩
    rw [exec_scrubVisit]
    refine ⟨fun hb => ⟨_, rfl, ?_⟩, fun hb hn => ?_, fun hb h1 h4 => ⟨_, rfl, ?_⟩, fun hb h4 => ⟨_, rfl, ?_⟩⟩
    · rw [s.scrubVisit_undecodable symbols ha hrun hport hb]
      exact hfound (s.scrubBad_found ha)
    · rw [s.scrubVisit_clean symbols ha hrun hport hb hn]
    · rw [s.scrubVisit_corrects symbols ha hrun hport hb h1 h4]
      obtain ⟨perf, hs⟩ := s.scrubbed_repaired (wordOf addr) (0x40 + addr / 0x40000) (s.mem.bytes (wordOf addr) 32)
      rw [hs]
      exact ⟨s.wrongAt_store'_word addr _ (Mem.length_bytes ..), s.byte_store'_bytes (wordOf addr) 32,
        s.repaired_memoryFrom .., rfl⟩
    · rcases s.scrubVisit_more symbols ha hrun hport hb h4 with hv | ⟨n, bs, hlen, hv⟩
      · have h := s.tick.2.scrubBad_found ha
        rw [hv]
        exact .inl (hfound ⟨h.undecodable, h.engine, h.cluster, h.pkg, h.mem, h.axes, h.regs⟩)
      · obtain ⟨perf, hs⟩ := State.scrubbed_repaired { s with freeCtr := n } (wordOf addr) (0x40 + addr / 0x40000) bs
        have hsame := s.store'_memorySame (wordOf addr) bs
        rw [hlen] at hsame
        rw [hv, hs]
        exact .inr ⟨s.undecodable_store' (wordOf addr) bs addr hb, hsame,
          congrArg (fun t : State => { t with freeCtr := s.freeCtr }) (State.repaired_memoryFrom ..)⟩

end Sys2Proof.Machine
end

section
/-! PROOFS. The changes of role in a rope team, and its links (R24, R446, R451, R452, R454, R456, R458, R461, R463, R466). -/

namespace Sys2Proof.Machine

/-! ### The rows -/

theorem exec_takeover (s : State) : exec .takeover s = .next s.takeover := rfl
theorem exec_handover (s : State) : exec .handover s = .next s.handoverNow := rfl
theorem exec_silenceTakeover (s : State) : exec .silenceTakeover s = .next s.silence := rfl
theorem exec_batchMissing (s : State) (kind : Nat) : exec (.batchMissing kind) s = .next (s.batchMissing kind) := rfl
theorem exec_secondDownstreamFallback (s : State) (g : Nat) :
    exec (.secondDownstreamFallback g) s = .next (s.downFallback g) := rfl
theorem exec_leadIsolation (s : State) : exec .leadIsolation s = .next s.leadIsolation := rfl
theorem exec_coldStartAttempt (s : State) : exec .coldStartAttempt s = .next s.coldStart := rfl
theorem exec_rejoinCheckComplete (s : State) : exec .rejoinCheckComplete s = .next s.rejoinCheck := rfl
theorem exec_ropeLinkLockLoss (s : State) (link : Nat) : exec (.ropeLinkLockLoss link) s = .next (s.linkLoss link) := rfl
theorem exec_ropeLinkLockRegained (s : State) (link : Nat) :
    exec (.ropeLinkLockRegained link) s = .next (s.linkRegained link) := rfl

/-! ### The change of LEAD (R451, R452, R454, R463) -/

/-- What a change of role keeps: memory, the committed registers, the passage and the image in use. -/
structure State.RoleKeeps (s t : State) : Prop where
  mem : t.mem = s.mem
  cfg : t.regs.cfg = s.regs.cfg
  passage : t.tt.passage = s.tt.passage
  image : t.image = s.image

/-- A SECOND has become LEAD (R427, R454, R455). -/
structure State.LeadNow (s t : State) : Prop where
  role : t.rope.role = 2
  leadon : t.rope.leadon = true
  widened : t.rope.widened = 2
  hold : t.gov.hold = 16
  chosen : t.gov.chosen = s.rope.leadTier
  takeovers : t.rope.takeovers = Nat.min 255 (s.rope.takeovers + 1)
  handover : t.rope.handover = none
  axes : t.axes = s.axes
  gens : t.gens = s.gens
  keeps : s.RoleKeeps t

theorem State.becomeLead_leadNow (s : State) : s.LeadNow s.becomeLead := by
  unfold State.becomeLead
  dsimp only
  obtain ⟨_, _, _, h⟩ := State.takeRole_only _ (show 2 < 5 by omega)
  rw [h]
  exact ⟨rfl, rfl, rfl, rfl, rfl, satAdd_one 255 _, rfl, rfl, rfl, rfl, rfl, rfl, rfl⟩

/-- A LEAD has become SECOND without leaving step (R463). -/
structure State.SecondNow (s t : State) : Prop where
  role : t.rope.role = 3
  leadon : t.rope.leadon = false
  handover : t.rope.handover = none
  origin : t.rope.origin = 1 - s.rope.origin
  axes : t.axes = s.axes
  gens : t.gens = s.gens
  keeps : s.RoleKeeps t

theorem State.becomeSecond_secondNow (s : State) : s.SecondNow s.becomeSecond := by
  unfold State.becomeSecond
  obtain ⟨_, _, _, h⟩ := State.takeRole_only _ (show 3 < 5 by omega)
  rw [h]
  exact ⟨rfl, rfl, rfl, rfl, rfl, rfl, rfl, rfl, rfl, rfl⟩

theorem State.takeover_due (s : State) (h3 : s.rope.role = 3) (ht : s.rope.take = true) : s.takeover = s.becomeLead :=
  if_pos ⟨h3, ht⟩

theorem State.takeover_idle (s : State) (h : s.rope.role ≠ 3 ∨ s.rope.take = false) : s.takeover = s := by
  refine if_neg ?_
  rintro ⟨h3, ht⟩
  rcases h with h | h
  · exact h h3
  · rw [h] at ht
    cases ht

theorem State.handoverNow_second (s : State) (h : s.rope.handover = some s.tt.passage) (h3 : s.rope.role = 3) :
    s.handoverNow = s.becomeLead := by
  rw [State.handoverNow, if_pos h, State.exchange, if_pos h3]

theorem State.handoverNow_lead (s : State) (h : s.rope.handover = some s.tt.passage) (h2 : s.rope.role = 2) :
    s.handoverNow = s.becomeSecond := by
  rw [State.handoverNow, if_pos h, State.exchange, if_neg (by omega), if_pos h2]

/-- SILENCE_TAKEOVER (R452): neither the BELAY nor the LEAD has been heard in the passage. -/
theorem State.silence_takes (s : State) (h3 : s.rope.role = 3) (hb : s.rope.belayAt ≠ some s.tt.passage)
    (hp : s.rope.peer.passage ≠ some s.tt.passage) (hl : s.rope.leadHeader ≠ some s.tt.passage) :
    s.silence = { s with rope := { s.rope with take := true } } := by
  have hsilent : ((s.rope.peer.passage == some s.tt.passage && s.rope.peer.resign) ||
      (s.rope.leadHeader != some s.tt.passage && !(s.rope.peer.passage == some s.tt.passage))) = true := by
    simp [hp, hl]
  exact if_pos ⟨h3, hb, hsilent⟩

theorem State.silence_idle (s : State) (h : s.rope.role ≠ 3 ∨ s.rope.belayAt = some s.tt.passage) : s.silence = s := by
  refine if_neg ?_
  rintro ⟨h3, hb, -⟩
  exact h.elim (fun h => h h3) hb

/-! ### What a follower misses (R446) -/

/-- What of the LEAD's frames BATCH_MISSING finds missing, by its kind. -/
def State.lacksFrame (s : State) (kind : Nat) : Bool := match kind with
  | 0 => !s.rope.batches.any (fun b => b.1 == s.tt.passage + 1)
  | 1 => s.rope.ledgerAt != some (s.tt.passage - 1)
  | 2 => s.rope.localAt != some s.tt.passage
  | 3 => s.rope.localSerAt != some s.tt.passage
  | _ => false

theorem State.batchMissing_eq (s : State) (kind : Nat) : s.batchMissing kind =
    if decide (s.rope.role = 3) && s.lacksFrame kind then
      if kind = 1 then (s.logOther originPeer 0x90004 kind).becomeStandby
      else { s.logOther originPeer 0x90004 kind with
        rope := { (s.logOther originPeer 0x90004 kind).rope with nextRole := some 5 } }
    else s := rfl

/-- A SECOND that misses a BATCH, LOCAL or LOCAL_SER leaves step at the next passage: logged, and its role to come. -/
theorem State.batchMissing_leaves (s : State) {kind : Nat} (h3 : s.rope.role = 3) (hl : s.lacksFrame kind = true) (hk : kind ≠ 1) :
    ∃ m wr l un res, s.batchMissing kind = { s.logged m wr l un res with rope := { s.rope with nextRole := some 5 } } := by
  obtain ⟨m, wr, l, un, res, h⟩ := s.logOther_logged originPeer 0x90004 kind
  refine ⟨m, wr, l, un, res, ?_⟩
  rw [s.batchMissing_eq, if_pos (by simp [h3, hl]), if_neg hk, h]
  rfl

theorem State.batchMissing_idle (s : State) {kind : Nat} (h : s.rope.role ≠ 3 ∨ s.lacksFrame kind = false) :
    s.batchMissing kind = s := by
  rw [s.batchMissing_eq, if_neg]
  rcases h with h | h <;> simp [h]

/-- A part has fallen back to STANDBY (R446, R451). -/
theorem State.becomeStandby_standby (s : State) : s.becomeStandby.rope.role = 5 ∧ s.becomeStandby.rope.batches = [] ∧
    s.becomeStandby.rope.leadon = false ∧ s.RoleKeeps s.becomeStandby := by
  unfold State.becomeStandby
  obtain ⟨_, _, _, _, _, _, h⟩ := State.takeRole_any { s with rope := { s.rope with
    stage := 0, take := false, handover := none, batches := [], matchRun := 0 } } 5
  rw [h]
  exact ⟨rfl, rfl, rfl, rfl, rfl, rfl, rfl⟩

/-- A SECOND that misses the LEDGER falls back at once. -/
theorem State.batchMissing_ledger (s : State) (h3 : s.rope.role = 3) (hl : s.lacksFrame 1 = true) :
    (s.batchMissing 1).rope.role = 5 ∧ (s.batchMissing 1).rope.batches = [] ∧ (s.batchMissing 1).rope.leadon = false ∧
      s.RoleKeeps (s.batchMissing 1) := by
  obtain ⟨m, wr, l, un, res, h⟩ := s.logOther_logged originPeer 0x90004 1
  obtain ⟨hrole, hbatches, hleadon, hk⟩ := State.becomeStandby_standby (s.logged m wr l un res)
  rw [s.batchMissing_eq, if_pos (by simp [h3, hl]), if_pos rfl, h]
  exact ⟨hrole, hbatches, hleadon, hk.mem, hk.cfg, hk.passage, hk.image⟩

/-! ### A SECOND's own downstream frames, and a LEAD alone (R451, R456) -/

theorem State.downFallback_sends (s : State) {g : Nat} (h3 : s.rope.role = 3) (hrun : s.host.phase = .run) (hg : g < 4)
    (hr : s.image.rings.testBit g = true) (hd : Tab.get none s.rope.downSeen g ≠ some s.tt.passage) :
    s.downFallback g = s.sendDown g := by
  have hu : s.ringInUse g = true := by simp [State.ringInUse, hg, hr]
  exact if_pos ⟨h3, hrun, hu, hd⟩

theorem State.downFallback_idle (s : State) {g : Nat} (h : s.rope.role ≠ 3 ∨ Tab.get none s.rope.downSeen g = some s.tt.passage) :
    s.downFallback g = s := by
  refine if_neg ?_
  rintro ⟨h3, -, -, hd⟩
  exact h.elim (fun h => h h3) hd

/-- The frame of lane Y holds the records in their order (R267). -/
theorem downFrame_laneY (r count : Nat) (passage : Word) (perN : Nat) (recs : List (List Byte)) :
    downFrame r count passage true perN recs =
      [0x20, BitVec.ofNat 8 (64 * r + 32), BitVec.ofNat 8 count, 0] ++ bytesLE 4 passage.toNat ++ recs.flatten := rfl

theorem State.setRing_frame (s : State) (r : Nat) (x : Ring) : { s.setRing r x with rings := s.rings } = s := by
  cases s
  rfl

/-- The downstream frames of a ring are sent on its two lanes, and nothing else changes. -/
theorem State.sendDown_ring (s : State) (g : Nat) : ∃ x,
    (∀ j, (s.sendDown g).ring j = if j = g then { s.ring g with
      txDownX := x
      txDownY := downFrame g (s.ring g).records.length s.tt.passage true (perNode s.image.period) (s.ring g).records }
      else s.ring j) ∧
    { s.sendDown g with rings := s.rings } = s := by
  exact ⟨_, fun j => State.ring_setRing s g j _, s.setRing_frame g _⟩

theorem State.leadIsolation_alone (s : State) (h2 : s.rope.role = 2) (he : s.rope.belayEver = true)
    (hb : s.rope.belayAt ≠ some s.tt.passage) (hp : s.rope.peerAt ≠ some s.tt.passage) (h3 : s.rope.peer.role = 3)
    (hl : s.rope.peer.passage = some (s.tt.passage - 1)) :
    s.leadIsolation = { s with rope := { s.rope with nextRole := some 6 } } := if_pos ⟨h2, he, hb, hp, h3, hl⟩

theorem State.leadIsolation_idle (s : State)
    (h : s.rope.role ≠ 2 ∨ s.rope.belayEver = false ∨ s.rope.belayAt = some s.tt.passage) : s.leadIsolation = s := by
  refine if_neg ?_
  rintro ⟨h2, he, hb, -⟩
  rcases h with h | h | h
  · exact h h2
  · rw [h] at he
    cases he
  · exact hb h

/-! ### The cold start (R458) -/

theorem Ring.tab_transmit (l : List Nat) (p : Nat → Bool) (on : Bool) (t : Tab Ring) (g : Nat) :
    Tab.get {} (l.foldl (fun t k => if p k then Tab.put {} t k { Tab.get {} t k with tx0 := on, tx1 := on } else t) t) g =
      if g ∈ l ∧ p g = true then { Tab.get {} t g with tx0 := on, tx1 := on } else Tab.get {} t g := by
  induction l generalizing t with
  | nil => simp
  | cons k r ih =>
    rw [List.foldl_cons, ih]
    by_cases hg : g = k
    · subst hg
      by_cases hp : p g = true <;> simp [hp]
    · by_cases hp : p k = true <;> simp [hp, hg]

/-- The transmitters of the rings in use (R36). -/
theorem State.ring_ringTx (s : State) (on : Bool) (g : Nat) : (s.ringTx on).ring g =
    if g < 4 ∧ s.image.rings.testBit g = true then { s.ring g with tx0 := on, tx1 := on } else s.ring g := by
  have h := Ring.tab_transmit (List.range 4) (fun k => s.image.rings.testBit k) on s.rings g
  exact h.trans (if_congr (and_congr_left' List.mem_range) rfl rfl)

/-- What sending headers changes: the rings, not their transmitters, and the counter of free values. -/
def State.HeadersSent (s t : State) : Prop :=
  { t with rings := s.rings, freeCtr := s.freeCtr } = s ∧ ∀ g, (t.ring g).tx0 = (s.ring g).tx0 ∧ (t.ring g).tx1 = (s.ring g).tx1

theorem State.HeadersSent.trans {a b c : State} (h : a.HeadersSent b) (g : b.HeadersSent c) : a.HeadersSent c :=
  ⟨Eq.trans (congrArg (fun z : State => { z with rings := a.rings, freeCtr := a.freeCtr }) g.1) h.1,
    fun r => ⟨(g.2 r).1.trans (h.2 r).1, (g.2 r).2.trans (h.2 r).2⟩⟩

theorem State.setRing_sent (s : State) (n r : Nat) (x : Ring) (h0 : x.tx0 = (s.ring r).tx0) (h1 : x.tx1 = (s.ring r).tx1) :
    s.HeadersSent (({ s with freeCtr := n }).setRing r x) := by
  refine ⟨by cases s; rfl, fun g => ?_⟩
  rw [State.ring_setRing]
  split
  next h => subst h; exact ⟨h0, h1⟩
  · exact ⟨rfl, rfl⟩

theorem State.sendHeader_sent (s : State) (r : Nat) (cold : Bool) : s.HeadersSent (s.sendHeader r cold) :=
  s.setRing_sent (s.freeCtr + 1 + 1) r _ rfl rfl

/-- A part that has listened attempts the cold start: cold headers on every ring in use. -/
theorem State.coldStart_attempts (s : State) (hl : s.host.phase = .listen) (h0 : s.rope.role = 0) (hs : s.rope.strap ≠ 3)
    (hn : s.rope.listen = 0) (ha : s.rope.attempt = false) (hj : s.rope.joinNext = false) (hb : s.rope.belayEver = false) :
    (State.ringTx { s with rope := { s.rope with attempt := true, returned := false, conflict := false } } true).HeadersSent
      s.coldStart := by
  unfold State.coldStart
  dsimp only
  rw [if_neg (by simp [hl, h0, hs, hn, ha, hj, hb])]
  refine List.foldlRecOn (motive := State.HeadersSent _) _ _ ⟨rfl, fun g => ⟨rfl, rfl⟩⟩ fun t ht r _ => ?_
  split
  · exact ht.trans (t.sendHeader_sent r true)
  · exact ht

/-! ### The end of a rejoin, and the rope links (R24, R461, R466) -/

/-- A joiner that a digest contradicts returns to STANDBY. -/
theorem State.rejoinCheck_bad (s : State) (h4 : s.rope.role = 4) (h3 : s.rope.stage = 3) (hb : s.rope.checkBad = true) :
    s.rejoinCheck.rope.role = 5 ∧ s.rejoinCheck.rope.stage = 15 ∧ s.RoleKeeps s.rejoinCheck := by
  unfold State.rejoinCheck
  dsimp only
  rw [if_neg (by omega), if_pos hb]
  obtain ⟨_, _, _, _, _, _, h⟩ := State.takeRole_any { s with rope := { s.rope with stage := 15 } } 5
  rw [h]
  exact ⟨rfl, rfl, rfl, rfl, rfl, rfl⟩

/-- A joiner in step becomes SECOND. -/
theorem State.rejoinCheck_joins (s : State) (h4 : s.rope.role = 4) (h3 : s.rope.stage = 3) (hb : s.rope.checkBad = false)
    (hr : 64 ≤ s.rope.checkRun) :
    s.rejoinCheck.rope = { s.rope with role := 3, stage := 4, leadon := false } ∧ s.rejoinCheck.axes = s.axes ∧
      s.RoleKeeps s.rejoinCheck := by
  unfold State.rejoinCheck
  dsimp only
  rw [if_neg (by omega), if_neg (by simp [hb]), if_pos hr]
  obtain ⟨_, _, _, h⟩ := State.takeRole_only { s with rope := { s.rope with stage := 4 } } (show 3 < 5 by omega)
  rw [h]
  exact ⟨rfl, rfl, rfl, rfl, rfl, rfl⟩

theorem State.rejoinCheck_idle (s : State)
    (h : s.rope.role ≠ 4 ∨ s.rope.stage ≠ 3 ∨ s.rope.checkBad = false ∧ s.rope.checkRun < 64) : s.rejoinCheck = s := by
  unfold State.rejoinCheck
  dsimp only
  by_cases hj : s.rope.role ≠ 4 ∨ s.rope.stage ≠ 3
  · rw [if_pos hj]
  · obtain ⟨hb, hr⟩ : s.rope.checkBad = false ∧ s.rope.checkRun < 64 := by tauto
    rw [if_neg hj, if_neg (by simp [hb]), if_neg (by omega)]

/-- A rope link that was locked and is not any more: its fault, contained. -/
theorem State.linkLoss_faulted (s : State) {link : Nat} (hl : link < 2)
    (hw : (if link = 0 then s.rope.locked.1 else s.rope.locked.2) = true) :
    State.Faulted { s with rope := { s.rope with
      locked := if link = 0 then (false, s.rope.locked.2) else (s.rope.locked.1, false) } }
      (s.linkLoss link) (addNew (0x4000 + link) s.faults.units) s.faults.clusters s.faults.pkg := by
  unfold State.linkLoss
  dsimp only
  rw [if_neg (show ¬2 ≤ link by omega), if_pos hw]
  exact State.unitFault_ropeLink _ 8 hl

/-- Settles O57, row by row: each change of role is its lemma above, and a row whose condition does not hold does nothing. -/
theorem rolesChange : Obligations.RolesChange := by
  unfold Obligations.RolesChange
  intro s r n kept leads
  have hkept {t : State} (h : s.RoleKeeps t) : kept t := ⟨h.mem, h.cfg, h.passage, h.image⟩
  have hleads : leads s.becomeLead :=
    have h := s.becomeLead_leadNow
    ⟨h.role, h.leadon, h.widened, h.hold, h.chosen, h.takeovers, h.handover, h.axes, h.gens, hkept h.keeps⟩
  refine ⟨?_, ?_, ?_, ?_, ?_, ?_, ?_, ?_, ?_, ?_, ?_, ?_, ?_, ?_, ?_, ?_, ?_, ?_, ?_, ?_, ?_, ?_, ?_⟩
  · intro h3 ht
    rw [exec_takeover, s.takeover_due h3 ht]
    exact ⟨_, rfl, hleads⟩
  · intro h
    rw [exec_takeover, s.takeover_idle h]
  · intro hh
    constructor
    · intro h3
      rw [exec_handover, s.handoverNow_second hh h3]
      exact ⟨_, rfl, hleads⟩
    · intro h2
      have h := s.becomeSecond_secondNow
      rw [exec_handover, s.handoverNow_lead hh h2]
      exact ⟨_, rfl, h.role, h.leadon, h.handover, h.origin, h.axes, h.gens, hkept h.keeps⟩
  · intro hh
    rw [exec_handover, State.handoverNow, if_neg hh]
  · intro h3 hb hp hl
    rw [exec_silenceTakeover, s.silence_takes h3 hb hp hl]
  · intro h
    rw [exec_silenceTakeover, s.silence_idle h]
  · intro h3 hb
    have hl : s.lacksFrame 0 = true := by
      simp only [State.lacksFrame, Bool.not_eq_true', List.any_eq_false, beq_iff_eq]
      exact hb
    obtain ⟨_, _, _, _, _, h⟩ := s.batchMissing_leaves h3 hl (by omega)
    rw [exec_batchMissing, h]
    exact ⟨_, rfl, rfl, rfl, rfl, rfl, rfl, rfl⟩
  · intro h3 hn
    obtain ⟨hrole, hbatches, hleadon, hk⟩ := s.batchMissing_ledger h3 (bne_iff_ne.mpr hn)
    exact ⟨_, exec_batchMissing s 1, hrole, hbatches, hleadon, hkept hk⟩
  · intro h3 hn
    obtain ⟨_, _, _, _, _, h⟩ := s.batchMissing_leaves (kind := 2) h3 (bne_iff_ne.mpr hn) (by omega)
    rw [exec_batchMissing, h]
    exact ⟨_, rfl, rfl⟩
  · intro h3 hn
    obtain ⟨_, _, _, _, _, h⟩ := s.batchMissing_leaves (kind := 3) h3 (bne_iff_ne.mpr hn) (by omega)
    rw [exec_batchMissing, h]
    exact ⟨_, rfl, rfl⟩
  · intro h
    have hl : s.rope.role ≠ 3 ∨ s.lacksFrame 0 = false := h.imp_right (congrArg not)
    rw [exec_batchMissing, s.batchMissing_idle hl]
  · intro g h3 hrun hg hr hd
    obtain ⟨x, hring, hrest⟩ := s.sendDown_ring g
    refine ⟨_, exec_secondDownstreamFallback s g, ?_⟩
    rw [s.downFallback_sends h3 hrun hg hr hd, hring g, if_pos rfl]
    exact ⟨downFrame_laneY .., rfl, fun j hj => (hring j).trans (if_neg hj), hrest⟩
  · intro g h
    rw [exec_secondDownstreamFallback, s.downFallback_idle h]
  · intro h2 he hb hp h3 hl
    rw [exec_leadIsolation, s.leadIsolation_alone h2 he hb hp h3 hl]
  · intro h
    rw [exec_leadIsolation, s.leadIsolation_idle h]
  · intro hl h0 hs hn ha hj hb
    obtain ⟨hrest, htx⟩ := s.coldStart_attempts hl h0 hs hn ha hj hb
    refine ⟨_, exec_coldStartAttempt s, (congrArg State.rope hrest :), fun g hg hr => ?_,
      congrArg (fun t : State => { t with rope := s.rope, rings := s.rings }) hrest⟩
    rw [(htx g).1, (htx g).2, State.ring_ringTx, if_pos ⟨hg, hr⟩]
    exact ⟨rfl, rfl⟩
  · intro h4 h3 hb
    obtain ⟨hrole, hstage, hk⟩ := s.rejoinCheck_bad h4 h3 hb
    exact ⟨_, exec_rejoinCheckComplete s, hrole, hstage, hkept hk⟩
  · intro h4 h3 hb hr
    obtain ⟨hrope, haxes, hk⟩ := s.rejoinCheck_joins h4 h3 hb hr
    exact ⟨_, exec_rejoinCheckComplete s, hrope, haxes, hkept hk⟩
  · intro h
    rw [exec_rejoinCheckComplete, s.rejoinCheck_idle h]
  · intro hw
    have h := s.linkLoss_faulted (link := 0) (by omega) hw
    refine ⟨_, exec_ropeLinkLockLoss s 0, h.same.locked, ?_, h.pkg, h.same.axes, h.same.mem,
      congrArg Regs.cfg h.same.regs, h.same.passage, h.same.image⟩
    rw [h.units]
    exact mem_addNew_self ..
  · intro hw
    have h := s.linkLoss_faulted (link := 1) (by omega) hw
    refine ⟨_, exec_ropeLinkLockLoss s 1, h.same.locked, ?_, h.pkg, h.same.axes, h.same.mem,
      congrArg Regs.cfg h.same.regs, h.same.passage, h.same.image⟩
    rw [h.units]
    exact mem_addNew_self ..
  · rfl
  · rfl

end Sys2Proof.Machine
end

section
/-! PROOFS. The start-up phases (R35, R541, R545, R573, R574). -/

namespace Sys2Proof.Tab

/-- What is read at a listed key of a table all of whose entries hold one value. -/
theorem get_of_mem {α : Type} {d v : α} {t : Tab α} {k : Nat} (h : ∀ p ∈ t, p.2 = v) (hk : ∃ p ∈ t, p.1 = k) : get d t k = v := by
  induction t with
  | nil => simp at hk
  | cons p r ih =>
    obtain ⟨hp, hr⟩ := List.forall_mem_cons.mp h
    rw [get]
    split
    · exact hp
    next hne =>
      refine ih hr ?_
      obtain ⟨q, hq, hqk⟩ := hk
      rcases List.mem_cons.mp hq with rfl | hq
      · exact absurd hqk.symm hne
      · exact ⟨q, hq, hqk⟩

/-- An unlisted key reads as the default. -/
theorem get_of_not_mem {α : Type} {d : α} {t : Tab α} {k : Nat} (hk : ∀ p ∈ t, p.1 ≠ k) : get d t k = d := by
  induction t with
  | nil => rfl
  | cons p r ih =>
    obtain ⟨hp, hr⟩ := List.forall_mem_cons.mp hk
    rw [get, if_neg (Ne.symm hp), ih hr]

end Sys2Proof.Tab

namespace Sys2Proof.Machine

/-! ### The rows -/

theorem exec_porn (s : State) (low straps : Nat) : exec (.porn low straps) s = .next (s.porn low straps) := rfl
theorem exec_railUndervoltage (s : State) (ns : Nat) : exec (.railUndervoltage ns) s = .next (s.railLow ns) := rfl
theorem exec_wakeComplete (s : State) : exec .wakeComplete s = .next s.wakeDone := rfl
theorem exec_clearComplete (s : State) : exec .clearComplete s = .next s.clearDone := rfl
theorem exec_imageComplete (s : State) : exec .imageComplete s = .next s.imageDone := rfl
theorem exec_armComplete (s : State) (selfTest : Bool) : exec (.armComplete selfTest) s = .next (s.armDone selfTest) := rfl

/-! ### Reset (R573, R574) -/

/-- A bank write cut short changes the MRAM alone (R540). -/
theorem cutWrite_only (stage : Nat) (safe : Bool) (w : Option BankWrite) (x : Store) : ∃ mram,
    cutWrite stage safe w x = { x with mram := mram } := by
  unfold cutWrite
  split
  · exact ⟨x.mram, rfl⟩
  · dsimp only
    split
    · exact ⟨x.mram, rfl⟩
    · exact ⟨_, rfl⟩
    · exact ⟨_, rfl⟩

/-- A new key pair changes the vault and the counter of free values alone. -/
theorem State.newKeyPair_only (s : State) : ∃ attest n, s.newKeyPair = { s with
    freeCtr := n
    store := { s.store with
      ident := { s.store.ident with attest := attest }, vaultErased := false, kek := true, batLost := false } } := by
  cases s
  exact ⟨_, _, rfl⟩

/-- The state after PORn has fallen: what reset holds, but for the commands that wait, host memory, PERSTn and the store. -/
def State.resetWith (s : State) (n : Nat) (store : Store) : State :=
  { State.reset with
    pending := s.pending, freeCtr := n, store := store
    host := { State.reset.host with memory := s.host.memory, perstn := s.host.perstn } }

/-- The store keeps its log over a reset, and counts it (R35, R537). -/
structure Store.Survives (x y : Store) : Prop where
  logWr : y.logWr = x.logWr
  logAck : y.logAck = x.logAck
  porns : y.ident.porns = x.ident.porns + 1

theorem Store.survives_kept (x : Store) (m : Tab Byte) : x.Survives (Store.kept { x with mram := m }) := ⟨rfl, rfl, rfl⟩

theorem State.newKeyPair_resetWith (s : State) (n : Nat) {x store : Store} (h : x.Survives store) : ∃ n' store',
    x.Survives store' ∧ (s.resetWith n store).newKeyPair = s.resetWith n' store' := by
  obtain ⟨attest, n', hk⟩ := State.newKeyPair_only (s.resetWith n store)
  exact ⟨n', { store with
    ident := { store.ident with attest := attest }, vaultErased := false, kek := true, batLost := false },
    ⟨h.logWr, h.logAck, h.porns⟩, hk⟩

theorem State.powerReset_resetWith (s : State) : ∃ n store, s.store.Survives store ∧ s.powerReset = s.resetWith n store := by
  obtain ⟨m, hm⟩ := cutWrite_only ((Config.free s.tick.1).toNat % 3) false s.store.busyParam s.store
  obtain ⟨m', hm'⟩ := cutWrite_only ((Config.free s.tick.1).toNat / 3 % 3) true s.store.busySafe { s.store with mram := m }
  have heq : s.powerReset = if s.store.debugOpen then
      (s.resetWith s.tick.2.freeCtr (Store.kept { s.store with mram := m' })).newKeyPair
      else s.resetWith s.tick.2.freeCtr (Store.kept { s.store with mram := m' }) := by
    unfold State.powerReset
    dsimp only
    rw [hm, hm']
    rfl
  have hs := s.store.survives_kept m'
  rw [heq]
  split
  · exact s.newKeyPair_resetWith _ hs
  · exact ⟨_, _, hs, rfl⟩

/-- The part at the rising edge of PORn (R2, R35): the straps latched, and WAKE begun. -/
def State.woken (s : State) (n : Nat) (store : Store) (straps : Nat) : State :=
  { s.resetWith n store with
    host := { (s.resetWith n store).host with phase := .wake }, rope := { (s.resetWith n store).rope with strap := straps % 4 } }

theorem State.porn_short (s : State) {low : Nat} (straps : Nat) (h : low < 1000) : s.porn low straps = s := if_pos h

/-- A pulse of 1 µs and more resets, or does nothing (R574). -/
theorem State.porn_cases (s : State) {low : Nat} (straps : Nat) (h : 1000 ≤ low) :
    (low < 10000 ∧ s.porn low straps = s.tick.2) ∨
      ∃ n store, s.store.Survives store ∧ s.porn low straps = s.woken n store straps := by
  obtain ⟨n, store, hs, hr⟩ := s.tick.2.powerReset_resetWith
  unfold State.porn
  dsimp only
  rw [if_neg (by omega)]
  split
  next hmiss =>
    refine .inl ⟨?_, rfl⟩
    by_contra hlong
    simp [show 10000 ≤ low by omega] at hmiss
  · rw [hr]
    exact .inr ⟨n, store, ⟨hs.logWr, hs.logAck, hs.porns⟩, rfl⟩

/-! ### WAKE and CLEAR (R35, R266) -/

theorem State.wakeDone_plain (s : State) (hp : s.host.phase = .wake) (ht : s.store.tamperDue = false)
    (hb : s.store.batDue = false) : s.wakeDone = { s with
      host := { s.host with phase := .clear }, time := { s.time with counting := true }
      store := { s.store with level := s.store.ident.bootLevel, rtcValid := true } } := by
  unfold State.wakeDone
  dsimp only
  rw [if_neg (by simp [hp]), ht, hb]
  rfl

theorem State.clearDone_clear (s : State) (hp : s.host.phase = .clear) : s.clearDone =
    { s with host := { s.host with phase := .image }, mem := clearMem, bad := [], badSeen := [], wrong := [] } :=
  if_neg (by simp [hp])

/-- The place of an upstream entry's AGE. -/
def ageAt (r e : Nat) : Nat := 0x03400000 + 0x80000 * r + 48 * e + 36

theorem byte_clearMem_age {r e : Nat} (hr : r < 4) (he : e < 128) : clearMem.byte (ageAt r e) = 15 := by
  refine Tab.get_of_mem ?_ ⟨(ageAt r e, 15), ?_, rfl⟩
  · intro p hp
    simp only [clearMem, List.mem_flatMap, List.mem_map] at hp
    obtain ⟨_, -, _, -, rfl⟩ := hp
    rfl
  · simp only [clearMem, List.mem_flatMap, List.mem_map, List.mem_range]
    exact ⟨r, hr, e, he, rfl⟩

theorem byte_clearMem_other {a : Nat} (h : ∀ r e, r < 4 → e < 128 → a ≠ ageAt r e) : clearMem.byte a = 0 := by
  refine Tab.get_of_not_mem fun p hp => ?_
  simp only [clearMem, List.mem_flatMap, List.mem_map, List.mem_range] at hp
  obtain ⟨r, hr, e, he, rfl⟩ := hp
  exact (h r e hr he).symm

/-! ### IMAGE (R545, R563) -/

theorem Store.slot_setSlot (x : Store) (n : Nat) (v : Slot) : (x.setSlot n v).slot n = v := by
  unfold Store.setSlot Store.slot
  split <;> rfl

/-- A slot's image lies in the MRAM, its record does not. -/
theorem Store.slotImage_setSlot (x : Store) (n k : Nat) (v : Slot) : (x.setSlot n v).slotImage k = x.slotImage k := by
  unfold Store.setSlot
  split <;> rfl

/-- A slot image run (R545): what it loads into memory and logs, beside the phase, the timetable in use and the slot's record. -/
theorem State.bootSlot_only (s : State) (n : Nat) (fallback : Bool) : ∃ mem m wr l un res, s.bootSlot n fallback =
    State.logged { s with
      mem := mem, host := { s.host with phase := .arm }
      tt := { s.tt with running := some (s.store.slotImage n), lastCode := 0, loadDetail := 0 }
      store := { s.store.setSlot n { s.store.slot n with code := codeOk } with runSlot := n, fellBack := fallback } }
      m wr l un res := by
  unfold State.bootSlot
  dsimp only
  obtain ⟨_, _, _, _, _, h⟩ := State.logStore_logged { s.slotCode n codeOk with
    mem := _, host := { s.host with phase := .arm }
    tt := { s.tt with running := some (s.store.slotImage n), lastCode := 0, loadDetail := 0 }
    store := { (s.slotCode n codeOk).store with runSlot := n, fellBack := fallback } } originBoot 0x05 0 n 0
  split
  · obtain ⟨_, _, _, _, _, h'⟩ := State.logStore_logged (State.logged _ _ _ _ _ _) originBoot 0x06 0 n 0
    exact ⟨_, _, _, _, _, _, (congrArg (fun t : State => t.logStore originBoot 0x06 0 n 0) h).trans h'⟩
  · exact ⟨_, _, _, _, _, _, h⟩

/-- A part halted in start-up (R35). -/
def State.haltedBy (s : State) (cause : Nat) : State := { s with host := { s.host with phase := .halt, haltCause := cause } }

section
variable (s : State) (hp : s.host.phase = .image)
include hp

theorem State.imageDone_boots (h : s.authenticate s.store.ident.bootSlot = none) :
    s.imageDone = s.bootSlot s.store.ident.bootSlot false := by
  unfold State.imageDone
  dsimp only
  rw [if_neg (by simp [hp]), h]

variable {f : LoadFail} (h : s.authenticate s.store.ident.bootSlot = some f)
include h

theorem State.imageDone_expert (hl : s.store.level = 1) :
    s.imageDone = (s.refusedSlot s.store.ident.bootSlot f).haltedBy 3 := by
  unfold State.imageDone
  dsimp only
  rw [if_neg (by simp [hp]), h]
  exact if_pos hl

theorem State.imageDone_fallsBack (hl : s.store.level ≠ 1) (h' : s.authenticate (1 - s.store.ident.bootSlot) = none) :
    s.imageDone = (s.refusedSlot s.store.ident.bootSlot f).bootSlot (1 - s.store.ident.bootSlot) true := by
  unfold State.imageDone
  dsimp only
  rw [if_neg (by simp [hp]), h]
  dsimp only
  rw [if_neg hl, h']

theorem State.imageDone_halts {g : LoadFail} (hl : s.store.level ≠ 1)
    (h' : s.authenticate (1 - s.store.ident.bootSlot) = some g) : s.imageDone =
      ((s.refusedSlot s.store.ident.bootSlot f).refusedSlot (1 - s.store.ident.bootSlot) g).haltedBy 1 := by
  unfold State.imageDone
  dsimp only
  rw [if_neg (by simp [hp]), h]
  dsimp only
  rw [if_neg hl, h']
  rfl
end

/-! ### ARM: the banks (R541) -/

/-- Two states that differ in nothing but the registers and the store. -/
def State.sameBesideBanks (s t : State) : Prop := { t with regs := s.regs, store := s.store } = s

section
variable {a b c : State}

theorem State.sameBesideBanks.trans (h : a.sameBesideBanks b) (g : b.sameBesideBanks c) : a.sameBesideBanks c :=
  Eq.trans (congrArg (fun z : State => { z with regs := a.regs, store := a.store }) g) h

theorem State.sameBesideBanks.host (h : a.sameBesideBanks b) : b.host = a.host := (congrArg State.host h :)
theorem State.sameBesideBanks.tt (h : a.sameBesideBanks b) : b.tt = a.tt := (congrArg State.tt h :)
theorem State.sameBesideBanks.safe (h : a.sameBesideBanks b) : b.safe = a.safe := (congrArg State.safe h :)
end

theorem State.foldl_banks {α : Type} (f : State → α → State) (hf : ∀ (s : State) x, s.sameBesideBanks (f s x)) (l : List α)
    (s : State) : s.sameBesideBanks (l.foldl f s) :=
  List.foldlRecOn (motive := State.sameBesideBanks s) l f rfl fun t ht x _ => ht.trans (hf t x)

theorem State.sameBesideBanks.logStore {s t : State} (h : s.sameBesideBanks t) (origin code status subject value : Nat) :
    s.sameBesideBanks (t.logStore origin code status subject value) := by
  obtain ⟨_, _, _, _, _, hlog⟩ := t.logStore_logged origin code status subject value
  rw [hlog]
  exact h

theorem State.loadRecord_banks (s : State) (p : Nat × Word) : s.sameBesideBanks (s.loadRecord p) := by
  unfold State.loadRecord
  split
  · rfl
  · refine State.sameBesideBanks.logStore ?_ ..
    rfl

theorem State.loadDefaults_banks (s : State) : s.sameBesideBanks s.loadDefaults := by
  refine State.foldl_banks _ (fun t p => ?_) _ s
  split <;> rfl

theorem State.groupDefaults_banks (s base : State) (offs : List Nat) : s.sameBesideBanks (s.groupDefaults base offs) :=
  (State.foldl_banks (fun s o => s.setCfg o (base.cfgW o)) (fun _ _ => rfl) offs s).logStore ..

/-- A missing or recovered bank is an entry of the log, at most. -/
theorem State.logBank_logged (s : State) (safe : Bool) : ∃ m wr l un res, s.logBank safe = s.logged m wr l un res := by
  unfold State.logBank
  split
  · exact State.logStore_logged ..
  · split
    · exact State.logStore_logged ..
    · exact ⟨_, _, _, _, _, s.logged_self⟩

/-- The parameter bank's records are registers, and entries of the log for those it skips; then the store says that it is loaded. -/
theorem State.loadBank_eq (s : State) : ∃ u bank, s.sameBesideBanks u ∧
    s.loadBank = State.logBank { u with store := { u.store with paramBank := bank, loaded := true } } false := by
  refine ⟨_, _, ?_, rfl⟩
  refine State.sameBesideBanks.trans ?_ (State.foldl_banks _ (fun t g => ?_) _ _)
  · split
    · exact s.loadDefaults_banks.trans (State.foldl_banks _ State.loadRecord_banks _ _)
    · exact s.loadDefaults_banks
  · split
    · rfl
    · exact t.groupDefaults_banks ..

theorem State.loadBank_banks (s : State) : s.sameBesideBanks s.loadBank ∧ s.loadBank.store.loaded = true := by
  obtain ⟨u, bank, hu, heq⟩ := s.loadBank_eq
  obtain ⟨_, _, _, _, _, hlog⟩ := State.logBank_logged { u with store := { u.store with paramBank := bank, loaded := true } } false
  rw [heq, hlog]
  exact ⟨hu, rfl⟩

/-- Nothing but the log differs. -/
def State.LogsTo (s t : State) : Prop := ∃ m wr l un res, t = s.logged m wr l un res

/-- The expert levels are entries of the log (R3). -/
theorem State.logLevels_logged (s : State) : s.LogsTo s.logLevels := by
  refine List.foldlRecOn (motive := s.LogsTo) _ _ ⟨_, _, _, _, _, s.logged_self⟩ fun t ht r _ => ?_
  refine List.foldlRecOn (motive := s.LogsTo) _ _ ht ?_
  rintro _ ⟨m, wr, l, un, res, rfl⟩ k -
  split
  · obtain ⟨m', wr', l', un', res', h⟩ := State.logEvent_logged (s.logged m wr l un res) originBoot 3 0 r.1
      ((s.logged m wr l un res).cfgW r.1).toNat
    exact ⟨m', wr', l', un', res', h⟩
  · exact ⟨m, wr, l, un, res, rfl⟩

/-- The safety bank taken (R470, R489): the island runs its set or awaits one, and keeps its LOCK. -/
theorem State.loadSafe_only (s : State) : ∃ regs store safe, s.loadSafe = { s with regs := regs, store := store, safe := safe } ∧
    store.loaded = s.store.loaded ∧ safe.lock = s.safe.lock ∧ (safe.state = 1 ∨ safe.state = 2) := by
  unfold State.loadSafe
  extract_lets x t check formed run waits base u
  have hu : ∃ regs store, u = { s with regs := regs, store := store } := by
    unfold u
    split
    · obtain ⟨_, _, _, _, _, h⟩ := base.logEvent_logged originBoot 3 0 0xA0000 0x80000001
      exact ⟨_, _, h⟩
    · exact ⟨_, _, rfl⟩
  obtain ⟨regs, store, hu⟩ := hu
  obtain ⟨_, _, _, _, _, h⟩ := State.logBank_logged { u with
    store := { x with safeBank := x.activeBank true }
    safe := { u.safe with state := if run then 2 else 1, confirmed := if run then some t else none
                          awaiting := if waits then some t else none, checkPending := if waits then check else 0
                          check := if run then check else 0 } } true
  rw [h, hu]
  refine ⟨_, _, _, rfl, rfl, rfl, ?_⟩
  cases run
  · exact .inl rfl
  · exact .inr rfl

/-! ### ARM: the clock, and LISTEN (R36, R299, R437, R462) -/

theorem State.startClock_only (s : State) : ∃ time tt, s.startClock = { s with time := time, tt := tt } ∧ tt.clockOn = true ∧
    tt.passage = 0 := ⟨_, _, rfl, rfl, rfl⟩

/-- What the last steps of ARM leave as it is: the host interface, the timetable, the word that the bank is loaded, and the
island's LOCK and state. -/
structure State.ArmKeeps (s t : State) : Prop where
  host : t.host = s.host
  tt : t.tt = s.tt
  loaded : t.store.loaded = s.store.loaded
  lock : t.safe.lock = s.safe.lock
  state : t.safe.state = s.safe.state

theorem State.ArmKeeps.refl (s : State) : s.ArmKeeps s := ⟨rfl, rfl, rfl, rfl, rfl⟩

theorem State.ArmKeeps.trans {a b c : State} (h : a.ArmKeeps b) (g : b.ArmKeeps c) : a.ArmKeeps c :=
  ⟨g.host.trans h.host, g.tt.trans h.tt, g.loaded.trans h.loaded, g.lock.trans h.lock, g.state.trans h.state⟩

theorem State.foldl_armKeeps (f : State → Nat → State) (hf : ∀ (s : State) x, s.ArmKeeps (f s x)) (l : List Nat) (s : State) :
    s.ArmKeeps (l.foldl f s) :=
  List.foldlRecOn (motive := s.ArmKeeps) l f (.refl s) fun t ht x _ => ht.trans (hf t x)

theorem State.takeRole_armKeeps (s : State) (role : Nat) : s.ArmKeeps (s.takeRole role) := by
  obtain ⟨_, _, _, _, _, _, h⟩ := s.takeRole_any role
  rw [h]
  exact ⟨rfl, rfl, rfl, rfl, rfl⟩

theorem State.logged_armKeeps (s : State) (m : Tab Byte) (wr link un : Word) (res : Nat) : s.ArmKeeps (s.logged m wr link un res) :=
  ⟨rfl, rfl, rfl, rfl, rfl⟩

theorem State.logLevels_armKeeps (s : State) : s.ArmKeeps s.logLevels := by
  obtain ⟨m, wr, l, un, res, h⟩ := s.logLevels_logged
  rw [h]
  exact s.logged_armKeeps m wr l un res

theorem State.ringTx_armKeeps (s : State) (on : Bool) : s.ArmKeeps (s.ringTx on) := ⟨rfl, rfl, rfl, rfl, rfl⟩

theorem State.logOther_armKeeps (s : State) (origin off value : Nat) : s.ArmKeeps (s.logOther origin off value) := by
  obtain ⟨m, wr, l, un, res, h⟩ := s.logOther_logged origin off value
  rw [h]
  exact s.logged_armKeeps m wr l un res

theorem State.cfgFault_armKeeps (s : State) (code : Nat) : s.ArmKeeps (s.cfgFault code) := by
  unfold State.cfgFault
  split
  · exact .refl s
  · have hs : s.ArmKeeps { s with rope := { s.rope with cfg := code } } := ⟨rfl, rfl, rfl, rfl, rfl⟩
    exact ((hs.trans (State.takeRole_armKeeps _ 15)).trans (State.ringTx_armKeeps _ false)).trans (State.logOther_armKeeps ..)

theorem State.setAxis_armKeeps (s : State) (i : Nat) (a : Axis) : s.ArmKeeps (s.setAxis i a) := ⟨rfl, rfl, rfl, rfl, rfl⟩

theorem State.setTrg_armKeeps (s : State) (u : Nat) (x : Trg) : s.ArmKeeps (s.setTrg u x) := ⟨rfl, rfl, rfl, rfl, rfl⟩

theorem State.settleSelector_armKeeps (s : State) (i : Nat) : s.ArmKeeps (s.settleSelector i) := by
  unfold State.settleSelector
  dsimp only
  split
  · exact .refl s
  · exact s.setAxis_armKeeps i _

theorem State.refreshTrg_armKeeps (s : State) (u : Nat) : s.ArmKeeps (s.refreshTrg u) := s.setTrg_armKeeps u _

/-- A part that begins to listen, whatever its straps say of its image: the phase is LISTEN. -/
theorem State.startListen_armKeeps (s : State) :
    State.ArmKeeps { s with host := { s.host with phase := .listen } } s.startListen := by
  unfold State.startListen
  dsimp only
  split
  · refine State.ArmKeeps.trans ?_ (State.cfgFault_armKeeps _ 4)
    exact ⟨rfl, rfl, rfl, rfl, rfl⟩
  · split
    · refine State.ArmKeeps.trans ?_ (State.takeRole_armKeeps _ 7)
      exact ⟨rfl, rfl, rfl, rfl, rfl⟩
    · exact ⟨rfl, rfl, rfl, rfl, rfl⟩

theorem State.takeStops_nil (s : State) (h : s.host.stops = []) : s.takeStops = s := by
  have hs : { s with host := { s.host with stops := [] } } = s := by rw [← h]
  unfold State.takeStops
  rw [h]
  exact hs

theorem State.takeQueue_nil (s : State) (h : s.host.queue = []) : s.takeQueue = s := by
  have hs : { s with host := { s.host with queue := [] } } = s := by rw [← h]
  unfold State.takeQueue
  rw [h]
  exact hs

/-- The last steps of ARM (R36, R139, R346): selectors and trigger units follow the running image and levels. -/
theorem State.settleAll_armKeeps (s : State) : s.ArmKeeps
    ((List.range 16).foldl (fun s u => s.refreshTrg u) (s.instances.foldl (fun s i => s.settleSelector i) s)) :=
  (State.foldl_armKeeps _ State.settleSelector_armKeeps _ s).trans (State.foldl_armKeeps _ State.refreshTrg_armKeeps _ _)

/-- ARM once its banks are in force (R35, R299): the clock is started, the part listens, and nothing waits to be taken. -/
theorem State.armDone_keeps (s u : State) (hp : s.host.phase = .arm) (hq : u.host.queue = []) (hs : u.host.stops = [])
    (hu : State.loadSafe { s.loadBank.logLevels with safe := { s.loadBank.logLevels.safe with lock := true } } = u)
    (hup : u.host.phase ≠ .halt) :
    State.ArmKeeps { u.startClock with host := { u.startClock.host with phase := .listen } } (s.armDone true) := by
  have hk := (u.startClock.startListen_armKeeps).trans (State.settleAll_armKeeps _)
  have hh := hk.host
  unfold State.armDone
  dsimp only
  rw [if_neg (by simp [hp]), if_pos rfl, hu, if_neg hup, State.takeStops_nil _ (by rw [hh]; exact hs),
    State.takeQueue_nil _ (by rw [hh]; exact hq)]
  exact hk

/-- ARM with nothing waiting (R35, R541): the part listens in passage 0, its bank loaded and its island locked. -/
structure State.Listening (t : State) : Prop where
  phase : t.host.phase = .listen
  clockOn : t.tt.clockOn = true
  passage : t.tt.passage = 0
  loaded : t.store.loaded = true
  lock : t.safe.lock = true
  state : t.safe.state = 1 ∨ t.safe.state = 2

/-- The safety bank taken by an island that is locked. -/
theorem State.loadSafe_locked (s u : State) (hu : State.loadSafe { s with safe := { s.safe with lock := true } } = u) :
    u.host = s.host ∧ u.store.loaded = s.store.loaded ∧ u.safe.lock = true ∧ (u.safe.state = 1 ∨ u.safe.state = 2) := by
  obtain ⟨_, _, _, h, hloaded, hlock, hstate⟩ := State.loadSafe_only { s with safe := { s.safe with lock := true } }
  rw [← hu, h]
  exact ⟨rfl, hloaded, hlock, hstate⟩

theorem State.startClock_keeps (s : State) : s.startClock.tt.clockOn = true ∧ s.startClock.tt.passage = 0 ∧
    s.startClock.host = s.host ∧ s.startClock.store = s.store ∧ s.startClock.safe = s.safe := ⟨rfl, rfl, rfl, rfl, rfl⟩

theorem State.armDone_listening (s : State) (hp : s.host.phase = .arm) (hq : s.host.queue = []) (hs : s.host.stops = []) :
    (s.armDone true).Listening := by
  obtain ⟨hbank, hloaded⟩ := s.loadBank_banks
  have hlevels := s.loadBank.logLevels_armKeeps
  have hhost : s.loadBank.logLevels.host = s.host := hlevels.host.trans hbank.host
  obtain ⟨u, hu⟩ : ∃ u, State.loadSafe { s.loadBank.logLevels with
      safe := { s.loadBank.logLevels.safe with lock := true } } = u := ⟨_, rfl⟩
  obtain ⟨hsafe, hstore, hlock, hstate⟩ := State.loadSafe_locked s.loadBank.logLevels u hu
  have huhost : u.host = s.host := hsafe.trans hhost
  have hk := s.armDone_keeps u hp (by rw [huhost, hq]) (by rw [huhost, hs]) hu (by rw [huhost, hp]; decide)
  obtain ⟨hon, hzero, -, hsame, hisland⟩ := u.startClock_keeps
  refine ⟨?_, ?_, ?_, ?_, ?_, ?_⟩
  · rw [hk.host]
  · rw [hk.tt, hon]
  · rw [hk.tt, hzero]
  · rw [hk.loaded, hsame, hstore, hlevels.loaded, hloaded]
  · rw [hk.lock, hisland, hlock]
  · rw [hk.state, hisland]
    exact hstate

/-- Settles O32, phase by phase: each row's effect is its lemma above. -/
theorem startUpPhases : Obligations.StartUpPhases := by
  unfold Obligations.StartUpPhases
  intro s
  refine ⟨fun low straps => ⟨?_, ?_, ?_⟩, fun ns => ⟨?_, ?_⟩, ?_, ?_, ?_, ?_⟩
  · intro h
    rw [exec_porn, s.porn_short straps h]
  · intro h
    rcases s.porn_cases (low := low) straps (by omega) with ⟨hlow, -⟩ | ⟨n, store, hs, hr⟩
    · omega
    · rw [exec_porn, hr]
      exact ⟨_, rfl, rfl, rfl, rfl, rfl, rfl, rfl, rfl, rfl, rfl, hs.logWr, hs.logAck, hs.porns, rfl⟩
  · intro h _
    rw [exec_porn]
    rcases s.porn_cases straps h with ⟨-, hr⟩ | ⟨n, store, -, hr⟩
    · rw [hr]
      exact ⟨_, rfl, .inl rfl⟩
    · rw [hr]
      exact ⟨_, rfl, .inr ⟨rfl, rfl, rfl, rfl⟩⟩
  · intro h
    rw [exec_railUndervoltage, State.railLow, if_pos h]
  · intro h
    obtain ⟨n, store, hs, hr⟩ := s.powerReset_resetWith
    rw [exec_railUndervoltage, State.railLow, if_neg (by omega), hr]
    exact ⟨_, rfl, rfl, rfl, rfl, rfl, rfl, hs.logWr, rfl⟩
  · intro hp ht hb
    rw [exec_wakeComplete, s.wakeDone_plain hp ht hb]
  · intro hp
    rw [exec_clearComplete, s.clearDone_clear hp]
    exact ⟨_, rfl, rfl, rfl, rfl, fun r e => byte_clearMem_age, fun a => byte_clearMem_other, rfl⟩
  · intro hp b
    rw [exec_imageComplete]
    constructor
    · intro h
      obtain ⟨_, _, _, _, _, _, hboot⟩ := s.bootSlot_only b false
      rw [s.imageDone_boots hp h, hboot]
      exact ⟨_, rfl, rfl, rfl, rfl, rfl, rfl, rfl⟩
    · intro f h
      refine ⟨?_, ?_, ?_⟩
      · intro hl
        rw [s.imageDone_expert hp h hl]
        exact ⟨_, rfl, rfl, rfl, rfl, congrArg Slot.code (Store.slot_setSlot ..), rfl, rfl⟩
      · intro hl h'
        obtain ⟨_, _, _, _, _, _, hboot⟩ := (s.refusedSlot b f).bootSlot_only (1 - b) true
        have hslot : (s.refusedSlot b f).store.slotImage (1 - b) = s.store.slotImage (1 - b) := Store.slotImage_setSlot ..
        rw [s.imageDone_fallsBack hp h hl h', hboot, hslot]
        exact ⟨_, rfl, rfl, rfl, rfl, rfl, rfl⟩
      · intro g hl h'
        rw [s.imageDone_halts hp h hl h']
        exact ⟨_, rfl, rfl, rfl, rfl, rfl⟩
  · intro hp hq hs
    have h := s.armDone_listening hp hq hs
    exact ⟨_, exec_armComplete s true, h.phase, h.clockOn, h.passage, h.loaded, h.lock, h.state⟩

end Sys2Proof.Machine
end

section
/-! PROOFS. The state after reset, and the host link (R25, R27, R36, R37, R130, R437, R470, R478, R499, R501). -/

namespace Sys2Proof.Machine

/-- Settles O2: the fields of the state at their reset values; nothing is listed in its tables. -/
theorem resetLeaves : Obligations.ResetLeaves := by
  unfold Obligations.ResetLeaves
  exact ⟨rfl, rfl, rfl, rfl, rfl, rfl, rfl, rfl, rfl, rfl, fun _ => ⟨rfl, rfl⟩, fun _ => rfl, fun _ => ⟨rfl, rfl⟩, fun _ => rfl⟩

/-! ### The rows -/

theorem exec_perstn (s : State) (low : Bool) : exec (.perstn low) s = .next (s.perst low) := rfl
theorem exec_pcieLinkDown (s : State) (cause : Nat) : exec (.pcieLinkDown cause) s = .next (s.linkDown cause) := rfl
theorem exec_pcieLinkUp (s : State) (speed width : Nat) (bme : Bool) :
    exec (.pcieLinkUp speed width bme) s = .next (s.linkUp speed width bme) := rfl

/-! ### Commands discarded (R501) -/

/-- Where the result record of a push lies (R519). -/
def pushAt (p : Push) : Nat := 0x03604000 + 16 * (p.seq.toNat % 256)

/-- The record of a discarded push. -/
def discardRecord (p : Push) : List Byte := resultBytes p.seq (fieldLE p.entry 2 2) (nthD 0 p.entry 0).toNat codeDiscarded 0 0

theorem discardRecord_length (p : Push) : (discardRecord p).length = 16 := resultBytes_length ..

theorem Mem.bytes_congr {m m' : Mem} {a n : Nat} (h : ∀ x, a ≤ x → x < a + n → m.byte x = m'.byte x) : m.bytes a n = m'.bytes a n := by
  induction n generalizing a with
  | zero => rfl
  | succ n ih =>
    rw [Mem.bytes, Mem.bytes, h a (by omega) (by omega), ih fun x hx hx' => h x (by omega) (by omega)]

/-- Two records lie apart or at the same place. -/
theorem pushAt_apart {p q : Push} (h : pushAt p ≠ pushAt q) {x : Nat} (h1 : pushAt p ≤ x) (h2 : x < pushAt p + 16) :
    x < pushAt q ∨ pushAt q + 16 ≤ x := by
  unfold pushAt at *
  omega

/-- A state after `n` commands were discarded: their records stored, each counted as taken, the mirror's list of results. -/
def State.discarded (s : State) (n : Nat) (mem : Mem) (bad badSeen : List Nat) (wrong : Tab Nat) (results : Tab Byte)
    (resCount : Word) : State :=
  { s with
    mem := mem, bad := bad, badSeen := badSeen, wrong := wrong
    host := { s.host with takenCount := s.host.takenCount + BitVec.ofNat 32 n, results := results, resCount := resCount } }

theorem State.discarded_mem (s : State) (n : Nat) (mem : Mem) (bad badSeen : List Nat) (wrong : Tab Nat) (results : Tab Byte)
    (resCount : Word) : (s.discarded n mem bad badSeen wrong results resCount).mem = mem := rfl

/-- Two rounds of discarding are one: the counts add. -/
theorem State.discarded_discarded (s : State) (n k : Nat) (m₁ m₂ : Mem) (b₁ b₂ bs₁ bs₂ : List Nat) (w₁ w₂ : Tab Nat) (r₁ r₂ : Tab Byte)
    (c₁ c₂ : Word) : (s.discarded n m₁ b₁ bs₁ w₁ r₁ c₁).discarded k m₂ b₂ bs₂ w₂ r₂ c₂ =
      s.discarded (n + k) m₂ b₂ bs₂ w₂ r₂ c₂ := by
  unfold State.discarded
  rw [BitVec.ofNat_add, ← BitVec.add_assoc]

/-- One push discarded: its record stored. -/
theorem State.discardPush_discarded (s : State) (p : Push) : ∃ bad badSeen wrong results resCount, s.discardPush p =
    s.discarded 1 (s.mem.setBytes (pushAt p) (discardRecord p)) bad badSeen wrong results resCount := by
  unfold State.discardPush State.result State.discarded
  exact ⟨_, _, _, _, _, rfl⟩

/-- The queue discarded: each push counted, and a byte outside their records as it was. -/
theorem State.foldl_discardPush (q : List Push) (s : State) : ∃ mem bad badSeen wrong results resCount,
    q.foldl (fun s p => s.discardPush p) s = s.discarded q.length mem bad badSeen wrong results resCount ∧
    (∀ x, (∀ p ∈ q, x < pushAt p ∨ pushAt p + 16 ≤ x) → mem.byte x = s.mem.byte x) ∧
    ((q.map pushAt).Nodup → ∀ p ∈ q, mem.bytes (pushAt p) 16 = discardRecord p) := by
  induction q generalizing s with
  | nil =>
    refine ⟨s.mem, s.bad, s.badSeen, s.wrong, s.host.results, s.host.resCount, ?_, fun _ _ => rfl, nofun⟩
    unfold State.discarded
    simp
  | cons p r ih =>
    obtain ⟨_, _, _, _, _, hp⟩ := s.discardPush_discarded p
    obtain ⟨mem, bad, badSeen, wrong, results, resCount, hr, hout, hrec⟩ := ih (s.discardPush p)
    rw [hp] at hr hout
    rw [State.discarded_mem] at hout
    have hlen := discardRecord_length p
    refine ⟨mem, bad, badSeen, wrong, results, resCount, ?_, ?_, ?_⟩
    · rw [List.foldl_cons, hp, hr, State.discarded_discarded, List.length_cons, Nat.add_comm]
    · intro x hx
      obtain ⟨hxp, hxr⟩ := List.forall_mem_cons.mp hx
      rw [hout x hxr]
      exact Mem.byte_setBytes_out _ _ _ _ (by rw [hlen]; exact hxp)
    · intro hnd
      obtain ⟨hnot, hnd⟩ := List.nodup_cons.mp hnd
      refine List.forall_mem_cons.mpr ⟨?_, hrec hnd⟩
      have happ : ∀ p' ∈ r, pushAt p ≠ pushAt p' := fun p' hp' he => hnot (he ▸ List.mem_map_of_mem hp')
      have hsame : mem.bytes (pushAt p) 16 = (s.mem.setBytes (pushAt p) (discardRecord p)).bytes (pushAt p) 16 :=
        Mem.bytes_congr fun x h1 h2 => hout x fun p' hp' => pushAt_apart (happ p' hp') h1 h2
      have hbytes := Mem.bytes_setBytes s.mem (pushAt p) (discardRecord p)
      rw [hlen] at hbytes
      exact hsame.trans hbytes

/-! ### The endpoint's reset (R501) -/

/-- The state at PERSTn low, before the waiting commands are discarded: MIRROR_CTRL.EN clear, the link down, the queue empty. -/
def State.endpointReset (s : State) : State :=
  { s.setCfg 0x10 (s.cfgW 0x10 &&& 0x7FFFFFFF#32) with
    host := { s.host with perstn := false, speed := 0, width := 0, bme := false, d3 := false, corr := 0, queue := [] } }

theorem State.perst_low (s : State) : s.perst true = s.host.queue.foldl (fun s p => s.discardPush p) s.endpointReset := rfl

theorem State.endpointReset_mem (s : State) : s.endpointReset.mem = s.mem := rfl

theorem State.endpointReset_cfgW (s : State) (o : Nat) :
    s.endpointReset.cfgW o = if o = 0x10 then s.cfgW 0x10 &&& 0x7FFFFFFF#32 else s.cfgW o := State.cfgW_setCfg s 0x10 o _

theorem State.discarded_cfgW (s : State) (n : Nat) (mem : Mem) (bad badSeen : List Nat) (wrong : Tab Nat) (results : Tab Byte)
    (resCount : Word) (o : Nat) : (s.discarded n mem bad badSeen wrong results resCount).cfgW o = s.cfgW o := rfl

/-- Beside the memory, the host's fields and the registers the endpoint's reset changes nothing. -/
theorem State.endpointReset_discarded_only (s : State) (n : Nat) (mem : Mem) (bad badSeen : List Nat) (wrong : Tab Nat)
    (results : Tab Byte) (resCount : Word) :
    { (s.endpointReset.discarded n mem bad badSeen wrong results resCount).memoryFrom s with host := s.host, regs := s.regs } = s := by
  cases s
  rfl

/-- What the endpoint's reset leaves of the host's side: the link down, the queue empty, each waiting command counted as taken. -/
theorem State.endpointReset_discarded_host (s : State) (n : Nat) (mem : Mem) (bad badSeen : List Nat) (wrong : Tab Nat)
    (results : Tab Byte) (resCount : Word) :
    { (s.endpointReset.discarded n mem bad badSeen wrong results resCount).host with
      results := s.host.results, resCount := s.host.resCount } = { s.host with
      perstn := false, speed := 0, width := 0, bme := false, d3 := false, corr := 0, queue := []
      takenCount := s.host.takenCount + BitVec.ofNat 32 n } := rfl

/-! ### The link (R37, R499) -/

/-- PCIE_LINK_UP with PORn and PERSTn high, at a speed and a width that exist. -/
theorem State.linkUp_accepted (s : State) {speed width : Nat} (bme : Bool) (hpor : s.host.phase ≠ .por) (hperst : s.host.perstn = true)
    (hlow : 1 ≤ speed) (hhigh : speed ≤ 3) (hwidth : width = 1 ∨ width = 2 ∨ width = 4) :
    s.linkUp speed width bme = { s with host := { s.host with speed := speed, width := width, bme := bme, d3 := false } } := by
  have hlanes : (!(width == 1 || width == 2 || width == 4)) = false := by
    obtain rfl | rfl | rfl := hwidth <;> rfl
  refine if_neg ?_
  rintro (h | h | h | h | h)
  · exact hpor h
  · rw [hperst] at h
    cases h
  · omega
  · omega
  · rw [hlanes] at h
    cases h

/-- PCIE_LINK_UP with PORn or PERSTn low changes nothing. -/
theorem State.linkUp_ignored (s : State) (speed width : Nat) (bme : Bool) (h : s.host.phase = .por ∨ s.host.perstn = false) :
    s.linkUp speed width bme = s := if_pos (h.imp_right .inl)

/-- Settles O33: the waiting commands are discarded one after the other, each with its record at its own place; beside them only
the link's fields and MIRROR_CTRL.EN change. -/
theorem hostLinkEvents : Obligations.HostLinkEvents := by
  unfold Obligations.HostLinkEvents
  intro s
  obtain ⟨mem, bad, badSeen, wrong, results, resCount, ht, hout, hrec⟩ := State.foldl_discardPush s.host.queue s.endpointReset
  rw [State.endpointReset_mem] at hout
  refine ⟨rfl, ⟨_, (exec_perstn s true).trans (congrArg Host.Outcome.next (s.perst_low.trans ht)), ?_, ?_, ?_, hrec, hout, ?_⟩, rfl, rfl, rfl,
    ?_, ?_⟩
  · rw [State.discarded_cfgW, State.endpointReset_cfgW, if_pos rfl]
  · intro o ho
    rw [State.discarded_cfgW, State.endpointReset_cfgW, if_neg ho]
  · exact State.endpointReset_discarded_host ..
  · exact State.endpointReset_discarded_only ..
  · intro speed width bme hpor hperst hlow hhigh hwidth
    rw [exec_pcieLinkUp, State.linkUp_accepted s bme hpor hperst hlow hhigh hwidth]
  · intro speed width bme h
    rw [exec_pcieLinkUp, State.linkUp_ignored s speed width bme h]

end Sys2Proof.Machine
end

section
/-! PROOFS. NOP, TT_LOAD, TT_SWAP and TT_CANCEL (R73, R74, R76). -/

namespace Sys2Proof.Machine

/-! ### A host command that takes effect -/

/-- The end of a command that took effect: its result record, and log entries (R16, R519, R551). -/
theorem State.concluded_carriedOut (s u : State) (c : Ctx) (opc : Nat) (detail : Word) (m : Tab Byte) (wr l un : Word) (res : Nat)
    (rs : Tab Byte) (n : Word) :
    s.carriedOut (u.concluded m wr l un res c (resultBytes c.seq c.tag opc codeOk detail s.tt.passage) rs n) c opc detail u := by
  have hlen := resultBytes_length c.seq c.tag opc codeOk detail s.tt.passage
  have hbytes := u.store'_bytes (recordAt c) (resultBytes c.seq c.tag opc codeOk detail s.tt.passage)
  have hsame := u.store'_memorySame (recordAt c) (resultBytes c.seq c.tag opc codeOk detail s.tt.passage)
  rw [hlen] at hbytes hsame
  exact ⟨hbytes, hsame, rfl⟩

theorem State.logged_concluded (u : State) (c : Ctx) (m m' : Tab Byte) (wr l un wr' l' un' : Word) (res res' : Nat)
    (rec16 : List Byte) (rs : Tab Byte) (n : Word) :
    (u.logged m wr l un res).concluded m' wr' l' un' res' c rec16 rs n = u.concluded m' wr' l' un' res' c rec16 rs n := rfl

/-- A command that no check refuses has taken effect where its answer's state is `u` but for the log. -/
theorem State.hostCommand_carriedOut (s u : State) (c : Ctx) (opc : Nat) (args : List Nat) (core : State → Answer) (detail : Word)
    (ha : s.admits c opc args = true)
    (hr : ∀ m wr l un res, (core (s.logged m wr l un res)).refusals = {} ∧ (core (s.logged m wr l un res)).status = codeOk)
    (hu : ∀ m wr l un res, (core (s.logged m wr l un res)).detail = detail ∧
      ∃ m' wr' l' un' res', (core (s.logged m wr l un res)).state = u.logged m' wr' l' un' res') :
    s.carriedOut (s.hostCommand c opc args core) c opc detail u := by
  obtain ⟨m, wr, l, un, res, m', wr', l', un', res', rs, n, ht⟩ := s.hostCommand_accepted c opc args core ha hr
  obtain ⟨hd, m'', wr'', l'', un'', res'', hs⟩ := hu m wr l un res
  rw [ht, hd, hs, State.logged_concluded]
  exact s.concluded_carriedOut u c opc detail m' wr' l' un' res' rs n

/-! ### The rows -/

theorem exec_nopCommand (s : State) (c : Ctx) : exec (.nopCommand c) s = .next (s.hostCommand c 0x00 [] coreNop) := rfl
theorem exec_ttLoad (s : State) (c : Ctx) (slot : Nat) :
    exec (.ttLoad c slot) s = .next (s.hostCommand c 0x10 [slot] (coreTtLoad c slot)) := rfl
theorem exec_ttSwap (s : State) (c : Ctx) (p : Word) :
    exec (.ttSwap c p) s = .next (s.hostCommand c 0x11 [p.toNat] (coreTtSwap c p)) := rfl
theorem exec_ttCancel (s : State) (c : Ctx) : exec (.ttCancel c) s = .next (s.hostCommand c 0x12 [] (coreTtCancel c)) := rfl

/-! ### What each answers -/

/-- TT_LOAD of a sealed slot is refused by nothing while no load and no swap is pending (R73). -/
theorem cmdTtLoad_accepted (c : Ctx) {s : State} {slot : Nat} (h1 : slot ≤ 1) (h2 : (s.store.slot slot).state = 2)
    (hl : s.tt.shadowState ≠ .loading) (hp : s.tt.shadowState ≠ .pending) : (cmdTtLoad c slot s).1 = {} := by
  simp [cmdTtLoad, h2, hl, hp, h1]

/-- TT_SWAP of a READY image is refused by nothing where the swap is allowed and falls 4 to 2^24 - 1 passages after the command is
accepted, in a part that computes alone (R74, R77). -/
theorem cmdTtSwap_accepted (c : Ctx) {s : State} {p : Word} (hr : s.tt.shadowState = .ready) (ha : s.swapAllowed = true)
    (ht : s.twoParts = false) (h4 : 4 ≤ (p - c.accepted).toInt) (h24 : (p - c.accepted).toInt < 16777216) :
    (cmdTtSwap c p s).1 = {} := by
  have hrange : (decide ((p - c.accepted).toInt < 4) || decide (16777216 ≤ (p - c.accepted).toInt)) = false := by
    rw [decide_eq_false (by omega), decide_eq_false (by omega)]
    rfl
  simp only [cmdTtSwap, hrange, hr, ha, ht]
  rfl

/-- TT_CANCEL meets one check (R76). -/
theorem cmdTtCancel_refusals (c : Ctx) (s : State) : (cmdTtCancel c s).1 =
    { illegal := decide (s.tt.shadowState ≠ .pending ∨ (s.tt.swapAt - c.accepted).toInt < 4) } := by
  simp [cmdTtCancel]

theorem cmdTtCancel_logged (c : Ctx) (s : State) : ∃ m wr l un res, (cmdTtCancel c s).2 =
    State.logged { s with tt := { s.tt with shadowState := .ready, lastCode := 0 } } m wr l un res := State.logNow_logged ..

/-! ### TT_CANCEL (R76) -/

/-- TT_CANCEL of a swap that is pending and at least 4 passages away. -/
theorem State.ttCancel_carriedOut (s : State) (c : Ctx) (ha : s.admits c 0x12 [] = true) (hp : s.tt.shadowState = .pending)
    (h4 : 4 ≤ (s.tt.swapAt - c.accepted).toInt) : s.carriedOut (s.hostCommand c 0x12 [] (coreTtCancel c)) c 0x12 0
      { s with tt := { s.tt with shadowState := .ready, lastCode := 0 } } := by
  refine s.hostCommand_carriedOut _ c 0x12 [] _ 0 ha (fun m wr l un res => ⟨?_, rfl⟩) fun m wr l un res => ⟨rfl, ?_⟩
  · have hd : decide (s.tt.shadowState ≠ .pending ∨ (s.tt.swapAt - c.accepted).toInt < 4) = false :=
      decide_eq_false (not_or.mpr ⟨not_not.mpr hp, by omega⟩)
    exact (cmdTtCancel_refusals c (s.logged m wr l un res)).trans (by rw [← hd]; rfl)
  · exact cmdTtCancel_logged c (s.logged m wr l un res)

/-- STATUS lies in byte 7 of a result record (R519). -/
theorem status_of_bytes {m : Mem} {a opc status : Nat} {seq detail passage : Word} {tag : Nat}
    (h : m.bytes a 16 = resultBytes seq tag opc status detail passage) : m.byte (a + 7) = BitVec.ofNat 8 status := by
  rw [← Mem.nthD_bytes m (show 7 < 16 by omega), h]
  rfl

/-- TT_CANCEL where its check fails. -/
theorem State.ttCancel_refused (s : State) (c : Ctx) (ha : s.admits c 0x12 [] = true)
    (hx : s.tt.shadowState ≠ .pending ∨ (s.tt.swapAt - c.accepted).toInt < 4) :
    (s.hostCommand c 0x12 [] (coreTtCancel c)).tt = s.tt ∧
    (s.hostCommand c 0x12 [] (coreTtCancel c)).mem.byte (recordAt c + 7) = BitVec.ofNat 8 codeIllegal := by
  have hc : refusalCode (!c.forwarded && s.lacks c.origin (rightOf 0x12 [])) c.logFull
      { ({ illegal := true } : Refusals) with illegal := true || (!c.forwarded && s.roleForbids 0x12) } = some codeIllegal := by
    simp only [State.admits, Bool.and_eq_true, Bool.or_eq_true, Bool.not_eq_true'] at ha
    obtain ⟨-, hf | ⟨hf, -⟩⟩ := ha
    · simp [refusalCode, hf]
    · simp [refusalCode, hf]
  have hr (m : Tab Byte) (wr l un : Word) (res : Nat) :
      (coreTtCancel c (s.logged m wr l un res)).refusals = { illegal := true } :=
    (cmdTtCancel_refusals c (s.logged m wr l un res)).trans (by rw [← decide_eq_true hx]; rfl)
  obtain ⟨m, wr, l, un, res, rs, n, detail, ht⟩ := s.hostCommand_refused c 0x12 [] (coreTtCancel c) _ codeIllegal hr hc
  have hbytes := s.store'_bytes (recordAt c) (resultBytes c.seq c.tag 0x12 codeIllegal detail s.tt.passage)
  rw [resultBytes_length] at hbytes
  rw [ht]
  exact ⟨rfl, status_of_bytes hbytes⟩

/-- What a command carried out leaves of the timetable's books. -/
theorem State.carriedOut_tt {s t u : State} {c : Ctx} {opc : Nat} {detail : Word} (h : s.carriedOut t c opc detail u) : t.tt = u.tt :=
  (congrArg State.tt h.2.2 :)

/-- Settles O26: the one check of TT_CANCEL decides between its refusal and its effect. -/
theorem ttCancelRule : Obligations.TtCancelRule := by
  unfold Obligations.TtCancelRule
  intro s c ha
  refine ⟨_, exec_ttCancel s c, ?_⟩
  split
  next hx => exact s.ttCancel_refused c ha hx
  next hx =>
    obtain ⟨hp, h4⟩ := not_or.mp hx
    have h := s.ttCancel_carriedOut c ha (not_not.mp hp) (by omega)
    exact ⟨congrArg Tt.shadowState (State.carriedOut_tt h), status_of_bytes h.1⟩

/-- Settles O25, row by row: each command meets none of its checks, and its answer's state is the one stated but for the log. -/
theorem timetableCommands : Obligations.TimetableCommands := by
  unfold Obligations.TimetableCommands
  intro s c
  refine ⟨fun ha => ⟨_, exec_nopCommand s c, ?_⟩, fun slot ha h1 h2 hl hp => ⟨_, exec_ttLoad s c slot, ?_⟩,
    fun p ha hr hs ht h4 h24 => ⟨_, exec_ttSwap s c p, ?_⟩, fun ha hp h4 => ⟨_, exec_ttCancel s c, s.ttCancel_carriedOut c ha hp h4⟩⟩
  · exact s.hostCommand_carriedOut s c 0x00 [] coreNop 0 ha (fun _ _ _ _ _ => ⟨rfl, rfl⟩)
      fun m wr l un res => ⟨rfl, m, wr, l, un, res, rfl⟩
  · have hr (m : Tab Byte) (wr l un : Word) (res : Nat) : (cmdTtLoad c slot (s.logged m wr l un res)).1 = {} :=
      cmdTtLoad_accepted c h1 h2 hl hp
    exact s.hostCommand_carriedOut _ c 0x10 [slot] _ 0 ha (fun m wr l un res => ⟨hr m wr l un res, rfl⟩)
      fun m wr l un res => ⟨by simp [coreTtLoad, pointAt, hr], m, wr, l, un, res, rfl⟩
  · have hr (m : Tab Byte) (wr l un : Word) (res : Nat) : (cmdTtSwap c p (s.logged m wr l un res)).1 = {} :=
      cmdTtSwap_accepted c hr hs ht h4 h24
    have hstate (m : Tab Byte) (wr l un : Word) (res : Nat) : (cmdTtSwap c p (s.logged m wr l un res)).2 =
        State.logged { s with tt := { s.tt with shadowState := .pending, swapAt := p, swapSeq := c.seq
                                                swapOrigin := c.originByte } } m wr l un res := by
      have ht' : (s.logged m wr l un res).twoParts = false := ht
      simp only [cmdTtSwap, ht']
      rfl
    exact s.hostCommand_carriedOut _ c 0x11 [p.toNat] _ 0 ha (fun m wr l un res => ⟨hr m wr l un res, rfl⟩)
      fun m wr l un res => ⟨by simp [coreTtSwap, pointAt, hr], m, wr, l, un, res, hstate m wr l un res⟩

end Sys2Proof.Machine
end
section
/-! PROOFS. Trips, stalls, completed loads, and the governor's events (R68, R73, R141, R142, R201, R414-R417, R423, R424). -/

namespace Sys2Proof.Machine

/-! ### Fields and entries replaced -/

/-- A field of a word reads what was put into it. -/
theorem Word.bits_setBits (w : Word) {lo n : Nat} (v : Nat) (h : lo + n ≤ 32) : (w.setBits lo n v).bits lo n = v % 2 ^ n := by
  have hp : 0 < 2 ^ lo := Nat.two_pow_pos lo
  have hm : 0 < 2 ^ n := Nat.two_pow_pos n
  have hq : w.toNat / 2 ^ lo / 2 ^ n + 1 ≤ 2 ^ (32 - (lo + n)) := by
    rw [Nat.div_div_eq_div_mul, ← pow_add, Nat.succ_le_iff, Nat.div_lt_iff_lt_mul (Nat.two_pow_pos _), ← pow_add]
    exact lt_of_lt_of_eq w.isLt (by congr 1; omega)
  have hw := Nat.div_add_mod w.toNat (2 ^ lo)
  have hd := Nat.div_add_mod (w.toNat / 2 ^ lo) (2 ^ n)
  have hr := Nat.mod_lt w.toNat hp
  have he := Nat.mod_lt v hm
  have htop : 2 ^ lo * (2 ^ n * 2 ^ (32 - (lo + n))) = 2 ^ 32 := by rw [← pow_add, ← pow_add]; congr 1; omega
  unfold Word.bits Word.setBits
  rw [BitVec.toNat_ofNat]
  have hsum : w.toNat - w.toNat / 2 ^ lo % 2 ^ n * 2 ^ lo + v % 2 ^ n * 2 ^ lo =
      w.toNat % 2 ^ lo + 2 ^ lo * (2 ^ n * (w.toNat / 2 ^ lo / 2 ^ n) + v % 2 ^ n) := by
    have hsplit : 2 ^ lo * (w.toNat / 2 ^ lo) =
        2 ^ lo * (2 ^ n * (w.toNat / 2 ^ lo / 2 ^ n)) + w.toNat / 2 ^ lo % 2 ^ n * 2 ^ lo := by
      conv_lhs => rw [← hd]
      ring
    rw [Nat.mul_add, Nat.mul_comm (v % 2 ^ n)]
    omega
  have hlt : w.toNat % 2 ^ lo + 2 ^ lo * (2 ^ n * (w.toNat / 2 ^ lo / 2 ^ n) + v % 2 ^ n) < 2 ^ 32 := by
    calc _ < 2 ^ lo * (2 ^ n * (w.toNat / 2 ^ lo / 2 ^ n) + v % 2 ^ n + 1) := by rw [Nat.mul_succ]; omega
      _ ≤ 2 ^ lo * (2 ^ n * (w.toNat / 2 ^ lo / 2 ^ n + 1)) := Nat.mul_le_mul_left _ (by rw [Nat.mul_succ]; omega)
      _ ≤ 2 ^ 32 := htop ▸ Nat.mul_le_mul_left _ (Nat.mul_le_mul_left _ hq)
  rw [hsum, Nat.mod_eq_of_lt hlt, Nat.add_mul_div_left _ _ hp, Nat.div_eq_of_lt hr, Nat.zero_add, Nat.mul_add_mod_self_left,
    Nat.mod_mod]

theorem setNth_same {α : Type} (d : α) (l : List α) {k : Nat} (v : α) (h : k < l.length) : nthD d (setNth l k v) k = v := by
  induction l generalizing k with
  | nil => exact absurd h (Nat.not_lt_zero k)
  | cons a r ih => cases k with
    | zero => rfl
    | succ k => exact ih (Nat.lt_of_succ_lt_succ h)

theorem setNth_other {α : Type} (d : α) (l : List α) {k j : Nat} (v : α) (h : j ≠ k) : nthD d (setNth l k v) j = nthD d l j := by
  induction l generalizing k j with
  | nil => rfl
  | cons a r ih => cases k with
    | zero => cases j with
      | zero => exact absurd rfl h
      | succ j => rfl
    | succ k => cases j with
      | zero => rfl
      | succ j => exact ih (fun e => h (congrArg (· + 1) e))

/-! ### Faults of several clusters, and of any unit (R20, R21) -/

theorem mem_foldl_addNew_of_mem (l : List Nat) {ks : List Nat} {k : Nat} (h : k ∈ ks) : k ∈ l.foldl (fun ks k => addNew k ks) ks :=
  List.foldlRecOn (motive := fun ks => k ∈ ks) l _ h fun _ hk j _ => (mem_addNew j _ k).mpr (.inr hk)

theorem mem_foldl_addNew (l : List Nat) (ks : List Nat) {k : Nat} (h : k ∈ l) : k ∈ l.foldl (fun ks k => addNew k ks) ks := by
  induction l generalizing ks with
  | nil => exact absurd h List.not_mem_nil
  | cons j r ih =>
    rcases List.mem_cons.mp h with rfl | hr
    · exact mem_foldl_addNew_of_mem r (mem_addNew_self k ks)
    · exact ih _ hr

/-- Clusters flagged and latched one after the other, and the package with them (R20, R21). -/
theorem State.Faulted.faultClusters {s t : State} {us ks : List Nat} {p : Bool} (h : s.Faulted t us ks p) (kind : Nat) (l : List Nat) :
    s.Faulted (t.faultClusters kind l) us (l.foldl (fun ks k => addNew k ks) ks) true := by
  suffices hl : s.Faulted (l.foldl (fun t k => { t.flag 1 kind (0xB000 + k) with
      faults := { (t.flag 1 kind (0xB000 + k)).faults with clusters := addNew k t.faults.clusters } }) t) us
      (l.foldl (fun ks k => addNew k ks) ks) p from hl.packageFault kind
  induction l generalizing t ks with
  | nil => exact h
  | cons k r ih =>
    have hflag := h.keep (t.flag_faulted 1 kind (0xB000 + k))
    exact ih ⟨hflag.same, hflag.units, congrArg (addNew k) h.clusters, hflag.pkg⟩

/-- A unit's fault is latched, whatever it faults beside (R20). -/
theorem State.unitFault_faulted (s : State) (kind identity : Nat) : ∃ ks p,
    s.Faulted (s.unitFault kind identity) (addNew identity s.faults.units) ks p := by
  have hu := s.unitLatched_faulted kind identity
  unfold State.unitFault
  dsimp only
  split
  · exact ⟨_, _, hu.faultClusters kind _⟩
  · exact ⟨_, _, hu.faultClusters kind _⟩
  · exact ⟨_, _, hu.faultClusters kind _⟩
  · exact ⟨_, _, hu.packageFault kind⟩
  · exact ⟨_, _, hu.packageFault kind⟩
  · split
    · exact ⟨_, _, hu.faultClusters kind _⟩
    · exact ⟨_, _, hu.packageFault kind⟩
  · exact ⟨_, _, hu⟩

/-! ### The rows -/

theorem exec_supervisionTrip (s : State) (i : Nat) : exec (.supervisionTrip i) s = .next (s.supervisionTrip i) := rfl
theorem exec_stall (s : State) (g : Nat) : exec (.stall g) s = .next (s.stallNow g) := rfl
theorem exec_setLoadComplete (s : State) (i : Nat) : exec (.setLoadComplete i) s = .next (s.setLoadDone i) := rfl
theorem exec_ttLoadComplete (s : State) : exec .ttLoadComplete s = .next s.loadDone := rfl
theorem exec_measurementClose (s : State) (energy : Nat) (temps : List Int) :
    exec (.measurementClose energy temps) s = .next (s.measurementClose energy temps) := rfl
theorem exec_sensorFail (s : State) (k : Nat) : exec (.sensorFail k) s = .next (s.sensorFailed k) := rfl
theorem exec_thermalTrip (s : State) : exec .thermalTrip s = .next s.thermalTripped := rfl

/-! ### Trips and stalls (R142, R201) -/

theorem State.supervisionTrip_raises (s : State) (i : Nat) (hd : (s.axis i).tripDue = true) (hst : (s.axis i).st ≠ .disabled) :
    ∃ axes, s.supervisionTrip i = { s with axes := axes } ∧ (s.supervisionTrip i).axis i =
      { s.axis i with tripDue := false, trips := Nat.min 0xFFFF ((s.axis i).trips + 1)
                      raised := (s.axis i).raised ++ [⟨(s.cfgW (axOff i 0x20)).bits 24 2, 1⟩] } ∧
      ∀ j, j ≠ i → (s.supervisionTrip i).axis j = s.axis j := by
  have heq : s.supervisionTrip i = (s.setAxis i { s.axis i with tripDue := false, trips := satAdd 0xFFFF (s.axis i).trips 1 }).raise i
      ⟨s.axReact i, 1⟩ := by
    unfold State.supervisionTrip
    dsimp only
    rw [if_neg (by simp [hd]), if_neg hst]
  rw [heq]
  refine ⟨_, rfl, ?_, fun j hj => ?_⟩
  · simp [State.raise, satAdd_one, State.axReact, State.axCfg]
  · simp [State.raise, hj]

/-- A stall with STALL_REACT 0 sets STALL and ends HOMED, and the generator goes on (R201). -/
theorem State.stallNow_marks (s : State) (g : Nat) (hd : (s.gen g).stallDue = true) (hh : (s.gen g).gst ≠ .home)
    (hr : (s.cfgW (pfOff g 0)).bits 4 2 = 0) :
    ∃ gens, s.stallNow g = { s with gens := gens } ∧
      (s.stallNow g).gen g = { s.gen g with stall := true, homed := false, stallDue := false } ∧
      ∀ j, j ≠ g → (s.stallNow g).gen j = s.gen j := by
  let x : Gen := { s.gen g with stall := true, homed := false, stallDue := false }
  have heq : s.stallNow g = (s.setGen g x).setGen g { (s.setGen g x).gen g with stall := true, homed := false } := by
    unfold State.stallNow
    dsimp only
    rw [if_neg (by simp [hd]), hr, if_neg (by decide), if_neg (by simp [hh])]
  rw [heq]
  refine ⟨_, rfl, ?_, fun j hj => ?_⟩
  · simp [x]
  · simp [hj]

/-! ### The end of a set load (R141) -/

theorem State.storeSet_only (s : State) (ae base stride f : Nat) (l : List Line) (n : Nat) : ∃ mem bad badSeen wrong,
    s.storeSet ae base stride f l n = { s with mem := mem, bad := bad, badSeen := badSeen, wrong := wrong } := by
  induction l generalizing s n with
  | nil => exact ⟨s.mem, s.bad, s.badSeen, s.wrong, rfl⟩
  | cons a r ih =>
    obtain ⟨_, _, _, _, h⟩ := ih (s.store' (opAddr ae (base + f * stride + n)) (lineBytes a)) (n + 1)
    exact ⟨_, _, _, _, h⟩

theorem State.setAxMap_only (s : State) (i k f : Nat) : ∃ regs, s.setAxMap i k f = { s with regs := regs } := by
  unfold State.setAxMap
  dsimp only
  split
  · exact ⟨_, rfl⟩
  · exact ⟨_, rfl⟩

theorem State.cfgW_setAxMap (s : State) (i k f : Nat) : (s.setAxMap i k f).cfgW (axOff i (if k < 8 then 0x38 else 0x3C)) =
    (s.cfgW (axOff i (if k < 8 then 0x38 else 0x3C))).setBits (4 * (k % 8)) 4 f := by
  unfold State.setAxMap
  dsimp only
  rw [← apply_ite (axOff i)]
  split <;> simp

theorem State.axMap_setAxMap (s : State) (i f : Nat) {k : Nat} (hk : k < 16) : (s.setAxMap i k f).axMap i k = f % 16 := by
  have h := s.cfgW_setAxMap i k f
  unfold State.axMap mapOf State.axCfg
  split
  next h8 =>
    rw [if_pos h8] at h
    rw [h, show 4 * k = 4 * (k % 8) by omega]
    exact Word.bits_setBits _ f (by omega)
  next h8 =>
    rw [if_neg h8] at h
    rw [h, show 4 * (k - 8) = 4 * (k % 8) by omega]
    exact Word.bits_setBits _ f (by omega)

/-- A completed load stores its set, maps the region to its slot, and ends there (R141). -/
theorem State.finishLoad_eq (s : State) (i : Nat) (w : ServoWire) (l : SetLoad) : ∃ a : Axis, a.load = none ∧
    s.finishLoad i w l = ((s.storeSet (s.aeOf i) w.base w.stride l.slot l.words 0).setAxMap i l.region l.slot).setAxis i a := by
  unfold State.finishLoad
  dsimp only
  split
  · exact ⟨_, rfl, rfl⟩
  · split
    · exact ⟨_, rfl, rfl⟩
    · exact ⟨_, rfl, rfl⟩

theorem State.setLoadDone_due (s : State) {i : Nat} {l : SetLoad} {w : ServoWire} (hl : (s.axis i).load = some l)
    (hw : s.servoWire i = some w) (hd : later l.at_ s.tt.passage = false) : s.setLoadDone i = s.finishLoad i w l := by
  unfold State.setLoadDone
  rw [hl, hw]
  exact if_neg (by simp [hd])

theorem State.finishLoad_ends (s : State) (i : Nat) (w : ServoWire) (l : SetLoad) (hr : l.region < 16) :
    ((s.finishLoad i w l).axis i).load = none ∧ (s.finishLoad i w l).axMap i l.region = l.slot % 16 ∧
    (∀ j, j ≠ i → (s.finishLoad i w l).axis j = s.axis j) ∧ (s.finishLoad i w l).gens = s.gens ∧
    (s.finishLoad i w l).units = s.units := by
  obtain ⟨a, ha, heq⟩ := s.finishLoad_eq i w l
  obtain ⟨_, _, _, _, hset⟩ := s.storeSet_only (s.aeOf i) w.base w.stride l.slot l.words 0
  have hmap := (s.storeSet (s.aeOf i) w.base w.stride l.slot l.words 0).axMap_setAxMap i l.slot hr
  obtain ⟨_, hregs⟩ := (s.storeSet (s.aeOf i) w.base w.stride l.slot l.words 0).setAxMap_only i l.region l.slot
  rw [heq]
  refine ⟨by simp [ha], hmap, fun j hj => ?_, ?_, ?_⟩
  · rw [State.axis_setAxis, if_neg hj, hregs, hset]
    rfl
  · rw [State.setAxis_gens, hregs, hset]
  · rw [State.setAxis_units, hregs, hset]

/-! ### The end of an image load (R68, R73) -/

theorem State.loadDone_ready (s : State) (hl : s.tt.shadowState = .loading) (ha : s.authenticate s.tt.loadSlot = none) :
    ∃ store m wr l un res, s.loadDone = State.logged { s with store := store, tt := { s.tt with
      shadowState := .ready, shadow := some (s.store.slotImage s.tt.loadSlot), lastCode := 0, loadDetail := 0 } } m wr l un res := by
  unfold State.loadDone
  rw [if_neg (not_not.mpr hl)]
  dsimp only
  rw [ha]
  exact ⟨_, State.logNow_logged ..⟩

theorem State.loadDone_refused (s : State) {f : LoadFail} (hl : s.tt.shadowState = .loading)
    (ha : s.authenticate s.tt.loadSlot = some f) :
    ∃ store m wr l un res, s.loadDone = State.logged { s with store := store, tt := { s.tt with
      shadowState := .empty, shadow := none, lastCode := BitVec.ofNat 8 f.code, loadDetail := f.detail } } m wr l un res := by
  unfold State.loadDone
  rw [if_neg (not_not.mpr hl)]
  dsimp only
  rw [ha]
  exact ⟨_, State.logNow_logged ..⟩

/-! ### The governor (R414-R417, R423, R424) -/

/-- The close of a measurement interval: its books, and the tier chosen before it for the next passage; the log beside. -/
theorem State.measurementClose_closes (s : State) (energy : Nat) (temps : List Int) (hon : s.tt.clockOn = true) :
    ∃ demand chosen dwell reason m wr l un res, s.measurementClose energy temps = State.logged { s with
      gov := { s.gov.closeBooks s.govCfg (energy + s.gov.monitors * 28 * s.periodNs) s.periodNs s.tt.tier temps s.tt.passage with
        demand := demand, chosen := chosen, dwell := dwell, reason := reason }
      tt := { s.tt with tierChoice := s.gov.chosen } } m wr l un res := by
  unfold State.measurementClose
  rw [if_pos hon]
  unfold State.closeInterval
  dsimp only
  obtain ⟨m, wr, l, un, res, hlog⟩ := s.logOther_logged originSelf 0x20004 (2 ^ 25)
  split
  · rw [hlog]
    exact ⟨_, _, _, _, m, wr, l, un, res, rfl⟩
  · exact ⟨_, _, _, _, _, _, _, _, _, rfl⟩

/-- A sensor that fails is failed from then on; the others are as before (R415). -/
theorem State.sensorFailed_fails (s : State) {k : Nat} (hk : k < 6) (hf : nthD false s.gov.failed k = false) :
    ∃ m wr l un res, s.sensorFailed k = State.logged { s with gov := { s.gov with
      failed := setNth s.gov.failed k true, sensorFail := true, tempNow := setNth s.gov.tempNow k 32767
      tripRun := setNth s.gov.tripRun k 0 } } m wr l un res := by
  unfold State.sensorFailed
  dsimp only
  rw [if_pos hk, if_neg (by simp [hf])]
  exact State.logOther_logged ..

/-- A thermal trip faults all sixteen clusters and the package (R423). -/
theorem State.thermalTripped_faulted (s : State) (h : s.gov.tripRun.any (fun n => decide (16 ≤ n)) = true) :
    s.Faulted s.thermalTripped s.faults.units ((List.range 16).foldl (fun ks k => addNew k ks) s.faults.clusters) true := by
  have hs : s.Faulted s s.faults.units s.faults.clusters s.faults.pkg := ⟨rfl, rfl, rfl, rfl⟩
  unfold State.thermalTripped
  rw [if_pos h]
  exact hs.faultClusters 6 (List.range 16)

/-- Settles O39, row by row: each row's effect is its lemma above. -/
theorem axisAndGovernorEvents : Obligations.AxisAndGovernorEvents := by
  unfold Obligations.AxisAndGovernorEvents
  refine ⟨fun s i => ⟨fun hd hst => ?_, ⟨fun hd => ?_, fun hd hh hr => ?_⟩, fun l w hl hw hd hr => ?_, fun hl =>
    ⟨fun ha => ?_, fun f ha => ?_⟩⟩, fun s => ⟨fun energy temps hon => ?_, fun k hk hlen hf => ?_, fun h => ?_, fun h => ?_⟩⟩
  · obtain ⟨axes, heq, hi, hj⟩ := s.supervisionTrip_raises i hd hst
    exact ⟨_, exec_supervisionTrip s i, hi, hj, by rw [heq]⟩
  · rw [exec_stall, State.stallNow]
    exact congrArg _ (if_pos (by simp [hd]))
  · obtain ⟨gens, heq, hi, hj⟩ := s.stallNow_marks i hd hh hr
    exact ⟨_, exec_stall s i, hi, hj, by rw [heq]⟩
  · refine ⟨_, exec_setLoadComplete s i, ?_⟩
    rw [s.setLoadDone_due hl hw hd]
    exact s.finishLoad_ends i w l hr
  · obtain ⟨store, m, wr, lk, un, res, heq⟩ := s.loadDone_ready hl ha
    refine ⟨_, exec_ttLoadComplete s, ?_⟩
    rw [heq]
    exact ⟨rfl, rfl, rfl, rfl, rfl⟩
  · obtain ⟨store, m, wr, lk, un, res, heq⟩ := s.loadDone_refused hl ha
    refine ⟨_, exec_ttLoadComplete s, ?_⟩
    rw [heq]
    exact ⟨rfl, rfl, rfl, rfl, rfl, rfl⟩
  · obtain ⟨_, _, _, _, m, wr, l, un, res, heq⟩ := s.measurementClose_closes energy temps hon
    refine ⟨_, exec_measurementClose s energy temps, ?_⟩
    rw [heq]
    exact ⟨rfl, rfl, rfl, rfl, fun hcap => if_neg (by simp [State.govCfg, hcap]), rfl, rfl, rfl⟩
  · obtain ⟨m, wr, l, un, res, heq⟩ := s.sensorFailed_fails hk hf
    refine ⟨_, exec_sensorFail s k, ?_⟩
    rw [heq]
    exact ⟨setNth_same false _ true (hlen ▸ hk), fun j hj => setNth_other false _ true hj, rfl, rfl, rfl, rfl⟩
  · have hf := s.thermalTripped_faulted h
    refine ⟨_, exec_thermalTrip s, hf.pkg, fun k hk => ?_, hf.same.mem, hf.same.axes, hf.same.regs⟩
    rw [hf.clusters]
    exact mem_foldl_addNew _ _ (List.mem_range.mpr hk)
  · rw [exec_thermalTrip, State.thermalTripped, if_neg (by simp [h])]

end Sys2Proof.Machine
end
section
/-! PROOFS. PASSAGE_START, TIER_LATCH and SWAP (R54, R75, R132, R299). -/

namespace Sys2Proof.Machine

/-! ### What most of a passage start leaves as it is -/

/-- What decides the passage, its tier and its commands: the books of the passage, whether the shadow image is EMPTY, and what
waits to be taken (R54, R75, R132, R516). -/
structure PassageView where
  passage : Word
  tier : Nat
  tierNext : Nat
  markers : List Nat
  released : List Nat
  noShadow : Bool
  queue : List Push
  stops : Tab (Option Push)
  taken : List Taken
  dbgReq : Bool

def State.view (s : State) : PassageView :=
  { passage := s.tt.passage, tier := s.tt.tier, tierNext := s.tt.tierNext, markers := s.tt.markers, released := s.tt.released
    noShadow := decide (s.tt.shadowState = .empty), queue := s.host.queue, stops := s.host.stops, taken := s.host.taken
    dbgReq := s.store.dbgReq }

theorem State.view_of {s t : State} (htt : t.tt = s.tt) (hhost : t.host = s.host) (hstore : t.store = s.store) : t.view = s.view := by
  unfold State.view
  rw [htt, hhost, hstore]

theorem foldl_view {α : Type} (f : State → α → State) (hf : ∀ s x, (f s x).view = s.view) (l : List α) (s : State) :
    (l.foldl f s).view = s.view := by
  induction l generalizing s with
  | nil => rfl
  | cons a r ih => exact (ih (f s a)).trans (hf s a)

theorem ite_view (p : Prop) [Decidable p] {a b : State} {v : PassageView} (ha : a.view = v) (hb : b.view = v) :
    (if p then a else b).view = v := by
  split
  · exact ha
  · exact hb

/-! ### The log, the counters and the faults -/

theorem State.logged_view (s : State) (m : Tab Byte) (wr link un : Word) (res : Nat) : (s.logged m wr link un res).view = s.view := rfl

theorem State.logNow_view (s : State) (passage : Word) (o k c st : Nat) (a b : Word) : (s.logNow passage o k c st a b).view = s.view := by
  obtain ⟨m, wr, l, un, res, h⟩ := s.logNow_logged passage o k c st a b
  rw [h]
  exact s.logged_view m wr l un res

theorem State.logOther_view (s : State) (origin off value : Nat) : (s.logOther origin off value).view = s.view := State.logNow_view ..

theorem State.sameBesideCounts_view {s t : State} (h : s.sameBesideCounts t) : t.view = s.view :=
  (congrArg State.view h :)

theorem State.count_view (s : State) (e u n : Nat) : (s.count e u n).view = s.view := State.sameBesideCounts_view (s.count_same e u n)

theorem State.recordFault_view (s : State) (f : FaultRec) : (s.recordFault f).view = s.view := State.logNow_view ..

theorem State.recordFaults_view (s : State) : s.recordFaults.view = s.view :=
  (State.view_of rfl rfl rfl).trans (foldl_view _ State.recordFault_view s.faults.flagged s)

theorem State.flag_view (s : State) (level kind identity : Nat) : (s.flag level kind identity).view = s.view :=
  ite_view _ (State.view_of rfl rfl rfl) (State.recordFault_view ..)

theorem State.swapCancelled_view (s : State) : s.swapCancelled.view = s.view := by
  unfold State.swapCancelled
  split
  next hp =>
    refine (State.logNow_view ..).trans ?_
    simp [State.view, hp]
  · rfl

theorem State.startHalted_view (s : State) : s.startHalted.view = s.view := by
  unfold State.startHalted
  split
  · rfl
  · rfl
  · exact (rfl : _ = s.recordFaults.view).trans s.recordFaults_view

theorem State.packageFault_view (s : State) (kind : Nat) : (s.packageFault kind).view = s.view := by
  rw [State.packageFault_eq]
  refine (State.startHalted_view _).trans ((State.swapCancelled_view _).trans ?_)
  exact (State.view_of rfl rfl rfl).trans (s.flag_view 4 kind 0xD000)

theorem State.faultClusters_view (s : State) (kind : Nat) (ks : List Nat) : (s.faultClusters kind ks).view = s.view := by
  refine (State.packageFault_view _ kind).trans (foldl_view _ (fun s k => ?_) ks s)
  exact (State.view_of rfl rfl rfl).trans (s.flag_view 1 kind (0xB000 + k))

theorem State.unitFault_view (s : State) (kind identity : Nat) : (s.unitFault kind identity).view = s.view := by
  have hu : (s.unitLatched kind identity).view = s.view := (State.view_of rfl rfl rfl).trans (s.flag_view 0 kind identity)
  have hc (ks : List Nat) : ((s.unitLatched kind identity).faultClusters kind ks).view = s.view :=
    (State.faultClusters_view _ kind ks).trans hu
  have hp : ((s.unitLatched kind identity).packageFault kind).view = s.view := (State.packageFault_view _ kind).trans hu
  unfold State.unitFault
  dsimp only
  split
  · exact hc _
  · exact hc _
  · exact hc _
  · exact hp
  · exact hp
  · exact ite_view _ (hc _) hp
  · exact hu

/-! ### The end of a passage (R23, R270, R299, R326, R485) -/

theorem State.setPriv_view (s : State) (b : Nat) (x : Priv) : (s.setPriv b x).view = s.view := rfl

theorem State.dma_view (s : State) (a : Nat) (bs : List Byte) : (s.dma a bs).view = s.view := ite_view _ rfl rfl

theorem State.readRecords_view (s : State) (n : Word) : (s.readRecords n).view = s.view := by
  have hread (l : List Nat) (fresh : Tab Word) : (l.foldl (fun (u : State) i => u.correct none (wordsOf (acqRecord i) 192))
      { s with acq := { s.acq with fresh := fresh } }).view = s.view := by
    refine (foldl_view _ (fun u i => ?_) l _).trans (State.view_of rfl rfl rfl)
    exact State.sameBesideCounts_view (State.correct_same ..)
  exact ite_view _ ((State.unitFault_view _ 1 0x6000).trans (hread _ _)) (hread _ _)

theorem State.ringSlots_view (s : State) (cap at' : Nat) (l : List (List Byte)) : (s.ringSlots cap at' l).view = s.view := by
  induction l generalizing s at' with
  | nil => rfl
  | cons b r ih => exact (ih _ _).trans (s.dma_view _ b)

theorem State.placeGroup_view (s : State) (n : Word) (slots : List (List Byte)) : (s.placeGroup n slots).view = s.view := by
  unfold State.placeGroup
  dsimp only
  refine ite_view _ (State.view_of rfl rfl rfl) (ite_view _ ?_ (State.view_of rfl rfl rfl))
  exact (State.view_of rfl rfl rfl).trans (s.ringSlots_view _ _ _)

theorem State.streamGroup_view (s : State) (n : Word) (tier : Nat) : (s.streamGroup n tier).view = s.view := by
  have hmarks : s.clearMarks.view = s.view := State.view_of rfl rfl rfl
  unfold State.streamGroup
  dsimp only
  exact ite_view _ hmarks (ite_view _ (State.view_of rfl rfl rfl) (ite_view _ hmarks ((State.placeGroup_view ..).trans hmarks)))

theorem State.triggerPriv_view (s : State) (b : Nat) (t : U64) (n : Word) (sub : Nat) : (s.triggerPriv b t n sub).view = s.view := by
  unfold State.triggerPriv
  dsimp only
  exact ite_view _ rfl (ite_view _ (s.setPriv_view b _) (ite_view _ (s.setPriv_view b _) (s.setPriv_view b _)))

theorem State.anchorMask_view (s : State) (b : Nat) (n : Word) : (s.anchorMask b n).view = s.view := ite_view _ (s.setPriv_view b _) rfl

theorem State.fireUnit_view (s : State) (u : Nat) (t : U64) (n : Word) (sub : Nat) : (s.fireUnit u t n sub).view = s.view := by
  unfold State.fireUnit
  refine (foldl_view _ (fun s b => ?_) _ _).trans (State.view_of rfl rfl rfl)
  have ht : (if (s.privCfg b).trg = u then s.triggerPriv b t n sub else s).view = s.view := ite_view _ (s.triggerPriv_view b t n sub) rfl
  exact ite_view _ ((State.anchorMask_view _ b n).trans ht) ht

theorem State.unitSample_view (s : State) (n : Word) (start : U64) (ns u : Nat) : (s.unitSample n start ns u).view = s.view := by
  unfold State.unitSample
  dsimp only
  exact ite_view _ rfl ((foldl_view _ (fun s t => s.fireUnit_view u t _ _) _ _).trans (State.view_of rfl rfl rfl))

theorem State.maskPoint_view (s : State) (b : Nat) (c : PrivCfg) (n : Word) (start : U64) (w : Word) (stale : Bool) :
    (s.maskPoint b c n start w stale).view = s.view := by
  unfold State.maskPoint
  dsimp only
  split
  · rfl
  next a _ =>
    have hend (q : Priv) : (if c.maskN ≤ (s.priv b).written - 1 - a + 1 then s.setPriv b q else s).view = s.view :=
      ite_view _ (s.setPriv_view b q) rfl
    refine ite_view _ rfl (ite_view _ (hend _) (ite_view _ ((State.unitFault_view _ 1 0x6000).trans (hend _))
      (ite_view _ (hend _) (ite_view _ ?_ (ite_view _ ?_ ?_)))))
    · exact (State.triggerPriv_view ..).trans ((State.setPriv_view ..).trans (hend _))
    · exact (State.setPriv_view ..).trans ((State.setPriv_view ..).trans (hend _))
    · exact (State.setPriv_view ..).trans (hend _)

theorem State.putSample_view (s : State) (b : Nat) (c : PrivCfg) (w v : Nat) : (s.putSample b c w v).view = s.view := by
  unfold State.putSample
  dsimp only
  split <;> rfl

theorem State.numericSample_view (s : State) (n : Word) (start : U64) (b : Nat) : (s.numericSample n start b).view = s.view := by
  unfold State.numericSample
  dsimp only
  refine ite_view _ rfl (ite_view _ (s.setPriv_view b _) ?_)
  exact (State.maskPoint_view ..).trans ((State.setPriv_view ..).trans (s.putSample_view b _ _ _))

theorem State.acquire_view (s : State) (n : Word) (start : U64) (ns tier : Nat) : (s.acquire n start ns tier).view = s.view := by
  unfold State.acquire
  refine (foldl_view _ (fun s b => s.numericSample_view n start b) _ _).trans
    ((foldl_view _ (fun s u => s.unitSample_view n start ns u) _ _).trans ?_)
  exact (State.streamGroup_view ..).trans (s.readRecords_view n)

theorem State.btCompare_view (s : State) : s.btCompare.view = s.view := ite_view _ (State.view_of rfl rfl rfl) rfl

theorem State.ringsEnd_view (s : State) : s.ringsEnd.view = s.view := by
  refine foldl_view _ (fun u r => ?_) _ s
  exact ite_view _ (State.view_of rfl rfl rfl) rfl

/-- The passage is counted (R299). -/
theorem State.advancePassage_view (s : State) : s.advancePassage.view = { s.view with passage := s.tt.passage + 1 } := by
  unfold State.advancePassage
  refine (State.ringsEnd_view _).trans ((State.acquire_view ..).trans ((State.btCompare_view _).trans ?_))
  exact congrArg (fun v : PassageView => { v with passage := s.tt.passage + 1 }) s.recordFaults_view

/-! ### The tier and the role (R54, R71, R446-R463) -/

/-- The tier latched for the passage applies (R54). -/
theorem State.applyTier_view (s : State) : s.applyTier.view = { s.view with tier := s.tt.tierNext } := by
  have h0 : ({ s with
      tt := { s.tt with tier := s.tt.tierNext
                        tierPassages := setNth s.tt.tierPassages s.tt.tierNext (nthD 0 s.tt.tierPassages s.tt.tierNext + 1) }
      gov := { s.gov with changes := if s.tt.tierNext != s.tt.tier then satAdd 0xFFFF s.gov.changes 1 else s.gov.changes } }
        : State).view = { s.view with tier := s.tt.tierNext } := rfl
  have h1 := (State.count_view _ 0x0900 0 1).trans h0
  exact ite_view _ ((State.count_view _ 0x0901 0 1).trans h1) h1

theorem State.takeRole_view (s : State) (role : Nat) : (s.takeRole role).view = s.view := by
  obtain ⟨_, _, _, _, _, _, h⟩ := s.takeRole_any role
  rw [h]
  exact State.view_of rfl rfl rfl

/-- A part that becomes LEAD takes the tier that it heard last (R454). -/
theorem State.becomeLead_view (s : State) : s.becomeLead.view = { s.view with tierNext := s.rope.leadTier } := by
  unfold State.becomeLead
  exact (State.takeRole_view _ 2).trans rfl

theorem State.enterRun_view (s : State) (role : Nat) : (s.enterRun role).view = s.view := by
  unfold State.enterRun
  refine (State.takeRole_view _ role).trans ((State.view_of (s := _) rfl rfl rfl).trans ?_)
  rfl

theorem State.listenStart_view (s : State) : s.listenStart.view = s.view := by
  unfold State.listenStart
  dsimp only
  refine ite_view _ (s.enterRun_view 7) (ite_view _ rfl (ite_view _ (s.enterRun_view _) (ite_view _ (ite_view _ ?_ rfl) rfl)))
  exact (State.enterRun_view _ _).trans (State.view_of rfl rfl rfl)

/-- Whatever role is taken, all that it changes in the passage's books is the tier of the next passage. -/
theorem State.roleStart_view (s : State) : ∃ n, s.roleStart.view = { s.view with tierNext := n } := by
  have hlead : s.becomeLead.view = { s.view with tierNext := s.rope.leadTier } := s.becomeLead_view
  unfold State.roleStart State.exchange State.becomeSecond State.becomeStandby
  dsimp only
  split
  · exact ⟨_, hlead⟩
  · split
    · split
      · exact ⟨_, hlead⟩
      · split
        · exact ⟨_, State.takeRole_view _ 3⟩
        · exact ⟨_, rfl⟩
    · split
      · exact ⟨_, State.takeRole_view _ 6⟩
      · split
        · exact ⟨_, rfl⟩
        · split
          · exact ⟨_, State.takeRole_view _ 5⟩
          · exact ⟨_, State.takeRole_view _ _⟩

/-- What each passage begins with: no markers, entries, stops or releases (R67, R71, R72), and its counts one on. -/
def State.renewed (s : State) (n : Word) : State :=
  { s with
    tt := s.tt.fresh
    gens := Tab.onAll {} Gen.roll s.gens
    gov := { s.gov with hold := s.gov.hold - 1 }
    sched := { s.sched.tick with window := s.sched.window + 1 }
    rope := s.rope.passageEnd n }

theorem State.renewed_view (s : State) (n : Word) : (s.renewed n).view = { s.view with markers := [], released := [] } := rfl

/-- A passage that begins without a swap runs in the tier latched for it, with no marker set and nothing released (R54, R67). -/
theorem State.roles_view (s : State) (n : Word) (h : s.view.noShadow = true) : ∃ m,
    (s.roles n).view = { s.view with tier := s.tt.tierNext, markers := [], released := [], tierNext := m } := by
  have hswap : s.swapDue s.tt.passage = false := by
    have he : s.tt.shadowState = .empty := of_decide_eq_true h
    simp [State.swapDue, he]
  have hfresh : (s.applyTier.renewed n).view = { s.view with tier := s.tt.tierNext, markers := [], released := [] } := by
    rw [State.renewed_view, s.applyTier_view]
  unfold State.roles
  rw [hswap]
  dsimp only
  rw [if_neg Bool.false_ne_true]
  split
  · exact ⟨s.tt.tierNext, (State.listenStart_view (s.applyTier.renewed n)).trans hfresh⟩
  · obtain ⟨m, hm⟩ := (s.applyTier.renewed n).roleStart_view
    rw [hfresh] at hm
    exact ⟨m, hm⟩
  · exact ⟨s.tt.tierNext, hfresh⟩

/-! ### The reactions, the selectors and the commands (R132) -/

theorem State.enterAx_view (s : State) (i : Nat) (st : AxSt) : (s.enterAx i st).view = s.view := State.view_of rfl rfl rfl

theorem State.faultReact_view (s : State) : s.faultReact.view = s.view := by
  have hinst (u : State) : u.faultInstances.view = u.view :=
    foldl_view _ (fun s i => ite_view _ (s.enterAx_view i .faulted) rfl) _ u
  have hsingle (u : State) : u.singleReact.view = u.view := by
    refine (foldl_view _ (fun v i => ?_) _ _).trans (State.view_of rfl rfl rfl)
    exact ite_view _ (State.view_of rfl rfl rfl) rfl
  have h1 := hinst { s with faults := { s.faults with reactDue := false } }
  unfold State.faultReact
  exact ite_view _ rfl (ite_view _ h1 (ite_view _ ((hsingle _).trans h1) h1))

theorem State.safetyReactions_view (s : State) : s.safetyReactions.view = s.view := by
  have hstop (u : State) (g : Nat) : (cmdMvHstop g u).2.view = u.view := by
    unfold cmdMvHstop
    exact ite_view _ rfl (ite_view _ rfl rfl)
  unfold State.safetyReactions
  refine (foldl_view _ (fun u c => ite_view _ (hstop u _) rfl) _ _).trans (foldl_view _ (fun u i => ite_view _ rfl ?_) _ s)
  split
  · exact ite_view _ rfl (ite_view _ rfl rfl)
  · rfl

theorem State.applyReaction_view (s : State) (i : Nat) (l : Latch) : (s.applyReaction i l).view = s.view := by
  unfold State.applyReaction
  dsimp only
  split
  · rfl
  · rfl
  · exact ite_view _ rfl (ite_view _ rfl ((State.enterAx_view ..).trans rfl))

theorem State.applyReactions_view (s : State) (i : Nat) : (s.applyReactions i).view = s.view := by
  unfold State.applyReactions
  dsimp only
  refine (foldl_view _ (fun s l => s.applyReaction_view i l) _ _).trans ?_
  split
  · exact ite_view _ rfl rfl
  · rfl

theorem State.advanceSelector_view (s : State) (i : Nat) : (s.advanceSelector i).view = s.view := by
  unfold State.advanceSelector
  dsimp only
  split
  · exact ite_view _ rfl rfl
  · split
    · exact ite_view _ rfl rfl
    · exact ite_view _ rfl rfl

theorem State.switchOutputs_view (s : State) : s.switchOutputs.view = s.view := by
  obtain ⟨_, _, h⟩ := s.switchOutputs_only
  rw [h]
  exact State.view_of rfl rfl rfl

theorem State.btFinish_view (s : State) (outcome : Nat) : (s.btFinish outcome).view = s.view := by
  unfold State.btFinish
  dsimp only
  refine (State.logOther_view ..).trans ((State.switchOutputs_view _).trans ?_)
  split
  · exact State.view_of rfl rfl rfl
  · exact State.view_of rfl rfl rfl

theorem State.btStart_view (s : State) : s.btStart.view = s.view :=
  ite_view _ rfl (ite_view _ (s.btFinish_view 4) (ite_view _ (s.btFinish_view _) rfl))

theorem State.markStaged_view (s : State) (off : Nat) : (s.markStaged off).view = s.view := by
  obtain ⟨_, _, _, _, _, _, h⟩ := s.markStaged_only off
  rw [h]
  exact State.view_of rfl rfl rfl

theorem State.writeStaged_view (s : State) (agent off : Nat) (m : Mask) (w : Word) (locked : Bool) :
    (s.writeStaged agent off m w locked).view = s.view := by
  have hm (v : Word) : ((s.setStg off v).markStaged off).view = s.view := (State.markStaged_view _ off).trans rfl
  unfold State.writeStaged
  dsimp only
  exact ite_view _ rfl (ite_view _ ((State.view_of rfl rfl rfl).trans (hm _)) (hm _))

theorem State.applyForward_view (s : State) (f : Forward) : (s.applyForward f).view = s.view := by
  cases f with
  | reg off w =>
    unfold State.applyForward
    refine ite_view _ rfl ?_
    split
    · exact s.writeStaged_view ..
    · rfl
  | mem a bs => exact State.view_of rfl rfl rfl
  | cmd => rfl

theorem State.batchesDue_view (s : State) : s.batchesDue.view = s.view := by
  unfold State.batchesDue
  refine (State.view_of rfl rfl rfl).trans (foldl_view _ (fun u b => ?_) _ s)
  exact foldl_view _ State.applyForward_view b.2 u

/-- With no command waiting or taken, the commands' part of a passage start is the writes of a LEAD's batches (R132, R516). -/
theorem State.commandsStart_view (s : State) (hq : s.view.queue = []) (hs : s.view.stops = []) (ht : s.view.taken = [])
    (hd : s.view.dbgReq = false) : s.commandsStart.view = s.view := by
  have htaken (u : State) (h : u.view.taken = []) : u.effectsDue.view = u.view := by
    have h' : u.host.taken = [] := h
    unfold State.effectsDue
    simp [h', State.view]
  have hdebug : s.takeDebug = s := if_pos (by simp [show s.store.dbgReq = false from hd])
  have hintents : s.intentsDue = s := by
    have ht' : s.host.taken = [] := ht
    simp [State.intentsDue, ht']
  unfold State.commandsStart
  rw [s.takeStops_nil hs, s.takeQueue_nil hq, hdebug, hintents, htaken _ ((congrArg PassageView.taken s.batchesDue_view).trans ht)]
  exact s.batchesDue_view

theorem State.actions_view (s : State) (hq : s.view.queue = []) (hs : s.view.stops = []) (ht : s.view.taken = [])
    (hd : s.view.dbgReq = false) : s.actions.view = s.view := by
  have hbefore : ((s.faultReact.safetyReactions.instances.foldl (fun s i => (s.applyReactions i).advanceSelector i)
      s.faultReact.safetyReactions).btStart).view = s.view :=
    (State.btStart_view _).trans ((foldl_view _ (fun s i => (State.advanceSelector_view _ i).trans (s.applyReactions_view i)) _ _).trans
      ((State.safetyReactions_view _).trans s.faultReact_view))
  unfold State.actions
  refine (State.switchOutputs_view _).trans ((State.commandsStart_view _ ?_ ?_ ?_ ?_).trans hbefore) <;> rw [hbefore] <;> assumption

/-! ### The samples, and what is sent (R185, R220, R255, R445) -/

theorem State.localSamples_view (s : State) : s.localSamples.view = s.view := by
  have henc (stamp : U64) : ((List.range 16).foldl (fun u c => (u.latchEnc c stamp).sampleCount c) s.tick.2).view = s.view := by
    refine (foldl_view _ (fun u c => ?_) _ s.tick.2).trans (State.view_of rfl rfl rfl)
    exact State.view_of rfl rfl rfl
  unfold State.localSamples
  refine ite_view _ (henc _) ((foldl_view _ (fun u g => ?_) _ _).trans (henc _))
  exact State.view_of rfl rfl rfl

theorem State.sendHeaders_view (s : State) : s.sendHeaders.view = s.view := by
  refine foldl_view _ (fun u r => ?_) _ s
  exact ite_view _ (State.view_of rfl rfl rfl) rfl

theorem State.queueFrame_view (s : State) (link : Nat) (bs : List Byte) : (s.queueFrame link bs).view = s.view :=
  (State.count_view _ 0x0501 link 1).trans (State.view_of rfl rfl rfl)

theorem State.sendCopies_view (s : State) : s.sendCopies.view = s.view := by
  unfold State.sendCopies
  exact ite_view _ rfl ((foldl_view _ (fun s _ => s.queueFrame_view 0 [0x58]) _ _).trans (State.view_of rfl rfl rfl))

theorem State.sendLead_view (s : State) : s.sendLead.view = s.view := by
  unfold State.sendLead
  refine ite_view _ rfl ((State.sendCopies_view _).trans ?_)
  exact (State.queueFrame_view ..).trans ((State.queueFrame_view ..).trans ((State.queueFrame_view ..).trans (State.view_of rfl rfl rfl)))

theorem State.countFree_view (s : State) : s.countFree.view = s.view := by
  unfold State.countFree
  refine ite_view _ rfl (foldl_view _ (fun u p => ?_) _ s)
  exact (State.sameBesideCounts_view (State.bump_same ..)).trans (State.view_of rfl rfl rfl)

theorem State.upset_view (s : State) : s.upset.view = s.view := by
  unfold State.upset
  exact ite_view _ rfl (ite_view _ rfl rfl)

theorem State.ropeUpset_view (s : State) : s.ropeUpset.view = s.view := by
  unfold State.ropeUpset
  refine ite_view _ rfl ?_
  exact (State.view_of rfl rfl rfl).trans ((State.unitFault_view _ 1 _).trans rfl)

/-! ### The passage start as a whole -/

theorem exec_passageStart (s : State) : exec .passageStart s = .next s.passageStart := rfl

/-- A passage start without a swap and without commands (R54, R67, R299). -/
theorem State.passageStart_view (s : State) (hon : s.tt.clockOn = true) (hsh : s.tt.shadowState = .empty) (hq : s.host.queue = [])
    (hs : s.host.stops = []) (ht : s.host.taken = []) (hd : s.store.dbgReq = false) : ∃ n, s.passageStart.view =
      { s.view with passage := s.tt.passage + 1, tier := s.tt.tierNext, markers := [], released := [], tierNext := n } := by
  have hadv := s.advancePassage_view
  obtain ⟨n, hroles⟩ := s.advancePassage.roles_view s.tt.passage (by rw [hadv]; exact decide_eq_true hsh)
  have htier : s.advancePassage.tt.tierNext = s.tt.tierNext := (congrArg PassageView.tierNext hadv :)
  rw [hadv, htier] at hroles
  have hact := (s.advancePassage.roles s.tt.passage).actions_view (by rw [hroles]; exact hq) (by rw [hroles]; exact hs)
    (by rw [hroles]; exact ht) (by rw [hroles]; exact hd)
  refine ⟨n, ?_⟩
  unfold State.passageStart
  rw [if_neg (by simp [hon])]
  refine (State.ropeUpset_view _).trans ((State.upset_view _).trans ((State.countFree_view _).trans ((State.sendLead_view _).trans
    ((State.sendHeaders_view _).trans ((State.localSamples_view _).trans ?_)))))
  exact hact.trans hroles

/-! ### TIER_LATCH and SWAP (R54, R75) -/

theorem exec_tierLatch (s : State) : exec .tierLatch s = .next s.tierLatch := rfl
theorem exec_swap (s : State) : exec .swap s = .next s.swapRow := rfl

theorem State.tierLatch_latches (s : State) (h : s.tt.clockOn = true) : s.tierLatch = { s with
    tt := { s.tt with tierNext := s.latchedTier }
    gov := { s.gov with tierMiss := (if s.followsTier && s.rope.leadHeader != some s.tt.passage then
      Nat.min 0xFFFF (s.gov.tierMiss + 1) else s.gov.tierMiss) } } := by
  unfold State.tierLatch
  rw [if_neg (by simp [h])]
  dsimp only
  rw [satAdd_one]

/-- A swap that stands (R75, R546): the image runs, SHADOW is EMPTY, and beside the rings and the log nothing else changes. -/
theorem State.swapRow_swaps (s : State) {b : Image} (hp : s.tt.shadowState = .pending) (hb : s.tt.shadow = some b)
    (ha : s.tt.swapAt = s.tt.passage) : ∃ rings m wr l un res, s.swapRow =
      State.logged { s with
        tt := { s.tt with running := some b, shadow := none, shadowState := .empty, lastCode := 0, idle := [] }
        store := { s.store with runSlot := s.tt.loadSlot }, rings := rings } m wr l un res := by
  have hdue : s.swapDue s.tt.passage = true := by simp [State.swapDue, hp, ha]
  unfold State.swapRow State.swapNow
  rw [if_pos hdue, hb]
  exact ⟨_, State.logNow_logged ..⟩

/-- Settles O35: a passage start keeps all of the passage's books but those that it begins anew. -/
theorem passagesBegin : Obligations.PassagesBegin := by
  unfold Obligations.PassagesBegin
  intro s
  refine ⟨fun hoff => ?_, fun hon _ _ _ _ hsh hq hs ht hd => ?_, fun hon => ?_, fun b hp hb ha => ?_⟩
  · rw [exec_passageStart, State.passageStart, if_pos (by simp [hoff])]
  · obtain ⟨n, hv⟩ := s.passageStart_view hon hsh hq hs ht hd
    exact ⟨_, exec_passageStart s, congrArg PassageView.passage hv, congrArg PassageView.tier hv, congrArg PassageView.markers hv,
      congrArg PassageView.released hv⟩
  · rw [exec_tierLatch, s.tierLatch_latches hon]
  · obtain ⟨rings, m, wr, l, un, res, ht⟩ := s.swapRow_swaps hp hb ha
    refine ⟨_, exec_swap s, ?_⟩
    rw [ht]
    exact ⟨rfl, rfl, rfl, rfl, rfl, rfl, rfl, rfl, rfl⟩

end Sys2Proof.Machine
end
section
/-! PROOFS. The entries of an island: RELEASE, RUN, MOVE, GATE, RESERVE and OVERRUN (R43, R47-R50, R63-R67, R71, R72, R373). -/

namespace Sys2Proof.Machine

/-! ### The rows -/

theorem exec_release (s : State) (target : Nat) : exec (.release target) s = .next (s.releaseAt target) := rfl
theorem exec_run (s : State) (k i : Nat) : exec (.run k i) s = .next (s.runEntry k i) := rfl
theorem exec_move (s : State) (k i : Nat) : exec (.move k i) s = .next (s.moveEntry k i) := rfl
theorem exec_moveComplete (s : State) (k i : Nat) : exec (.moveComplete k i) s = .next (s.moveComplete k i) := rfl
theorem exec_gate (s : State) (k i : Nat) : exec (.gate k i) s = .next (s.gateEntry k i) := rfl
theorem exec_reserve (s : State) (k i : Nat) : exec (.reserve k i) s = .next (s.reserveEntry k i) := rfl
theorem exec_overrun (s : State) (k i : Nat) : exec (.overrun k i) s = .next (s.overrunEntry k i) := rfl

/-! ### The release of the step rates (R47-R49, R65, R196) -/

/-- The half handed over is written into its source and nowhere else (R49). -/
theorem State.takeHalf_only (s : State) (rel : Release) : ∃ mem bad badSeen wrong,
    s.takeHalf rel = { s with mem := mem, bad := bad, badSeen := badSeen, wrong := wrong } ∧
    s.memorySame (s.takeHalf rel) rel.source (32 * rel.words) := by
  let Only (t : State) : Prop := ∃ mem bad badSeen wrong,
    t = { s with mem := mem, bad := bad, badSeen := badSeen, wrong := wrong } ∧ s.memorySame t rel.source (32 * rel.words)
  refine List.foldlRecOn (motive := Only) _ _ ⟨s.mem, s.bad, s.badSeen, s.wrong, rfl, fun _ _ => rfl⟩ ?_
  rintro t ⟨mem, bad, badSeen, wrong, ht, hsame⟩ j hj
  have hj := List.mem_range.mp hj
  dsimp only
  split
  · refine ⟨_, _, _, _, by rw [ht]; rfl, fun x hx => ?_⟩
    rw [← hsame x hx]
    exact t.store'_memorySame _ _ x (by rw [Mem.length_bytes]; omega)
  · exact ⟨mem, bad, badSeen, wrong, ht, hsame⟩

/-- What the release of a fresh rate word leaves in its channel: the word is the rate, from now on (R193, R196). -/
structure StepChan.RateReleased (x : StepChan) (now : U64) (y : StepChan) : Prop where
  rate : y.rate = x.rateNext.getD x.rate
  next : y.rateNext = none
  since : y.relAt = now

/-- The release of one channel's rate word (R193, R194, R196). -/
def State.releaseRate (s : State) (c : Nat) : State :=
  let x := s.chan c
  let rate := x.rateNext.getD x.rate
  let back := if rate < 0 then true else if 0 < rate then false else x.backward
  s.setChan c { x with q := s.chanPhase c, relAt := s.time.time, rate := rate, rateNext := none
                       backward := back, turned := back != x.backward, pulseAt := s.lastPulse c }

theorem State.releaseRate_released (s : State) (c : Nat) : (s.chan c).RateReleased s.time.time ((s.releaseRate c).chan c) := by
  unfold State.releaseRate
  dsimp only
  rw [State.chan_setChan, if_pos rfl]
  exact ⟨rfl, rfl, rfl⟩

theorem State.releaseRate_other (s : State) {c d : Nat} (h : d ≠ c) : (s.releaseRate c).chan d = s.chan d := by
  unfold State.releaseRate
  dsimp only
  rw [State.chan_setChan, if_neg h]

/-- Rate words released one after the other: nothing but the channels changes, and a channel released again keeps its rate. -/
theorem State.foldl_releaseRate (l : List Nat) (s : State) : ∃ chans,
    l.foldl (fun s c => s.releaseRate c) s = { s with chans := chans } ∧
    (∀ c, c ∈ l → (s.chan c).RateReleased s.time.time (Tab.get {} chans c)) ∧ ∀ c, c ∉ l → Tab.get {} chans c = s.chan c := by
  induction l generalizing s with
  | nil => exact ⟨s.chans, rfl, fun c hc => absurd hc List.not_mem_nil, fun _ _ => rfl⟩
  | cons a r ih =>
    obtain ⟨chans, heq, hin, hout⟩ := ih (s.releaseRate a)
    refine ⟨chans, heq, fun c hc => ?_, fun c hc => ?_⟩
    · have ha := s.releaseRate_released a
      by_cases hca : c = a
      · subst hca
        by_cases hr : c ∈ r
        · obtain ⟨hrate, hnext, hsince⟩ := hin c hr
          rw [ha.next, Option.getD_none] at hrate
          exact ⟨hrate.trans ha.rate, hnext, hsince⟩
        · rw [hout c hr]
          exact ha
      · have h := hin c ((List.mem_cons.mp hc).resolve_left hca)
        rwa [s.releaseRate_other hca] at h
    · rw [hout c fun h => hc (List.mem_cons_of_mem a h)]
      exact s.releaseRate_other fun h => hc (h ▸ List.mem_cons_self)

/-- The local rate words, all of them fresh, released (R65, R196). -/
theorem State.releaseRates_fresh (s : State) (rel : Release)
    (hf : ∀ c, c < 16 → s.handedOver rel (rel.source + 32 * (c * rel.words / 16)) = true) : ∃ chans,
    s.releaseRates rel = { s with chans := chans } ∧
    ∀ c, c < 16 → (s.chan c).RateReleased s.time.time (Tab.get {} chans c) := by
  obtain ⟨chans, heq, hin, -⟩ := State.foldl_releaseRate (List.range 16) s
  have hstale : (List.range 16).any (fun c => !s.handedOver rel (rel.source + 32 * (c * rel.words / 16))) = false := by
    rw [List.any_eq_false]
    intro c hc
    simp [hf c (List.mem_range.mp hc)]
  refine ⟨chans, ?_, fun c hc => hin c (List.mem_range.mpr hc)⟩
  rw [← heq]
  unfold State.releaseRates
  dsimp only
  rw [hstale]
  refine (if_neg Bool.false_ne_true).trans (List.foldl_ext _ _ s fun u c hc => ?_)
  exact if_neg (by simp [hf c (List.mem_range.mp hc)])

/-- RELEASE of the step rates: at its time the source's half is taken and every channel's rate word put into use. -/
theorem State.releaseAt_rates (s : State) {rel : Release} {o : Nat} (hon : s.tt.clockOn = true)
    (hrel : s.tt.released.contains 8 = false) (ho : s.releaseOffset 8 = some o) (hr : s.relOf 8 = some rel) :
    s.releaseAt 8 = (State.takeHalf { s.toStamp (s.tt.start + BitVec.ofNat 64 o) with
      tt := { s.tt with released := s.tt.released ++ [8] } } rel).releaseRates rel := by
  have hadd : addNew 8 s.tt.released = s.tt.released ++ [8] := if_neg (by simp only [hrel]; exact Bool.false_ne_true)
  unfold State.releaseAt
  rw [if_neg (by simp only [hon, hrel]; decide), ho]
  dsimp only
  rw [show (s.toStamp (s.tt.start + BitVec.ofNat 64 o)).tt = s.tt from rfl, hadd]
  unfold State.releaseTarget
  rw [if_neg (by decide), if_neg (by decide), show State.relOf { s.toStamp (s.tt.start + BitVec.ofNat 64 o) with
    tt := { s.tt with released := s.tt.released ++ [8] } } 8 = some rel from hr]
  dsimp only
  rw [if_neg (by decide), if_pos rfl]

/-! ### A block that ends at its first instruction (R63, R373) -/

theorem luxUnit_lt {k unit : Nat} (hk : k < 16) (hu : unit ≤ 4) : luxUnit k unit < 80 := by
  unfold luxUnit
  split <;> omega

/-- The island and the UNIT of a cluster's Luestox unit. -/
theorem island_of_luxUnit {k unit : Nat} (hk : k < 16) (hu : unit ≤ 4) :
    (if luxUnit k unit < 64 then luxUnit k unit / 4 else luxUnit k unit - 64) = k ∧
    (if luxUnit k unit < 64 then luxUnit k unit % 4 else 4) = unit := by
  by_cases h4 : unit < 4
  · rw [luxUnit, if_pos h4, if_pos (by omega), if_pos (by omega)]
    omega
  · rw [luxUnit, if_neg h4, if_neg (by omega), if_neg (by omega)]
    omega

/-- The word of END: its opcode, and every field 0 (R363, R373). -/
def endWord : U64 := BitVec.ofNat 64 (2 ^ 56)
def noFields : Fields := ⟨0, 0, 0, 0, 0, 0, 0⟩

theorem fieldsOf_endWord : fieldsOf endWord = (1, noFields) := by decide

/-- Axis engines and DSP units execute END (R361, R373). -/
theorem luxEnd_on {u : Nat} (hu : u < 80) : luxEnd.on u = true := by
  unfold LuxOp.on unitKind
  by_cases h64 : u < 64
  · rw [if_pos h64]; rfl
  · rw [if_neg h64, if_pos hu]; rfl

theorem luxOpOf_end {u : Nat} (hu : u < 80) : luxOpOf u 1 = some luxEnd := by
  have hops : luxOps = luxNop :: luxEnd :: luxOps.drop 2 := rfl
  have hnop : ¬(luxNop.opc == 1 && luxNop.on u) = true := by simp [luxNop]
  have hend : (luxEnd.opc == 1 && luxEnd.on u) = true := by rw [luxEnd_on hu]; rfl
  unfold luxOpOf
  rw [hops]
  rw [List.find?_cons_of_neg (p := fun o : LuxOp => o.opc == 1 && o.on u) hnop,
    List.find?_cons_of_pos (p := fun o : LuxOp => o.opc == 1 && o.on u) hend]

theorem luxEnd_legal {u : Nat} (hu : u < 80) (x : Lux) : luxEnd.legal u noFields x = true := by
  have hfits : luxEnd.uses.fits noFields = true := by decide
  unfold LuxOp.legal
  rw [luxEnd_on hu, hfits]
  rfl

theorem State.sameBesideCounts_tt {s t : State} (h : s.sameBesideCounts t) : t.tt = s.tt := (congrArg State.tt h :)

/-- Which entries are open, and the unit of each, are said by the timetable's state alone. -/
theorem State.openRun_of_tt {s t : State} (h : t.tt = s.tt) (k unit : Nat) : t.openRun k unit = s.openRun k unit := by
  unfold State.openRun State.entryAt State.image
  rw [h]

theorem State.unitStopped_of_tt {s t : State} (h : t.tt = s.tt) (hf : t.faults = s.faults) (u : Nat) :
    t.unitStopped u = s.unitStopped u := by
  unfold State.unitStopped State.islandHeld
  rw [h, hf]

/-- A RUN entry started on a unit without one is the open RUN entry of that unit. -/
theorem State.openRun_openEntry (s : State) {k i : Nat} {e : Entry} (he : s.entryAt k i = some e) (hkind : e.kind = 1)
    (hopen : s.openRun k e.op1.toNat = none) : (s.openEntry k i).openRun k e.op1.toNat = some i := by
  have hold := Option.map_eq_none_iff.mp hopen
  have hentry (j : Nat) : (s.openEntry k i).entryAt k j = s.entryAt k j := rfl
  unfold State.openRun
  rw [show (s.openEntry k i).tt.openEntries = s.tt.openEntries ++ [(k, i)] from rfl, List.find?_append]
  simp only [hentry]
  rw [hold]
  simp [he, hkind]

/-- END ends its unit's block, and beside the counters nothing more happens. -/
theorem State.luxStep_end (s : State) {u : Nat} (hu : u < 80) (hst : s.unitStopped u = false) :
    (s.endBlock u).sameBesideCounts (s.luxStep u luxEnd noFields) := by
  have hready : s.unitReady u = true := by simp [State.unitReady, State.unitActs, hu, hst]
  have hluxRun : s.luxRun u luxEnd noFields = s.endBlock u := by
    unfold State.luxRun
    dsimp only
    rw [if_pos (luxEnd_legal hu _)]
    exact if_pos hu
  have hcount := s.luxCount_same u luxEnd noFields (s.endBlock u)
  have hfetch := s.luxStep_ready u luxEnd noFields hready
  rw [hluxRun] at hfetch
  exact State.sameBesideCounts_trans hcount hfetch

theorem State.endBlock_idle (s : State) (u : Nat) : ((s.endBlock u).lux u).running = false := by
  unfold State.endBlock
  dsimp only
  split <;> simp [State.lux, State.setLux]

/-- A block whose next instruction is END, within its budget, ends there. -/
theorem State.runBlock_end (s : State) {u budget : Nat} (fuel : Nat) (hu : u < 80) (hrun : (s.lux u).running = true)
    (hst : s.unitStopped u = false) (hw : s.codeWord u (s.lux u).pc = some endWord)
    (hb : (s.lux u).cycles + 1 ≤ budget) : (s.endBlock u).sameBesideCounts (State.runBlock u budget (fuel + 2) s) := by
  have hstep := s.luxStep_end hu hst
  have hidle : ((s.luxStep u luxEnd noFields).lux u).running = false := by
    rw [State.sameBesideCounts_lux hstep]
    exact s.endBlock_idle u
  have hcost : ¬budget < (s.lux u).cycles + (if luxEnd.coissue && noFields.p then 0 else luxEnd.cost noFields) :=
    Nat.not_lt.mpr hb
  rw [State.runBlock]
  dsimp only
  rw [if_neg (by simp [hrun, hst]), hw]
  dsimp only
  rw [fieldsOf_endWord]
  dsimp only
  rw [luxOpOf_end hu]
  dsimp only
  rw [if_neg hcost, State.runBlock]
  dsimp only
  rw [if_pos (by simp [hidle])]
  exact hstep

/-- A RUN entry starts (R43, R63, R531): it is open, counted on an axis engine, and its unit begins the block. -/
def State.runStart (s : State) (k i : Nat) (e : Entry) : State :=
  let u := luxUnit k e.op1.toNat
  (if e.op1.toNat < 4 then (s.openEntry k i).count 0x0100 u e.budget else s.openEntry k i).startBlock u e.op0.toNat

section
variable {s t r : State} {u : Nat}

theorem State.onlyUnit_tt (h : s.onlyUnit t u) : t.tt = s.tt := (congrArg State.tt h.2 :)
theorem State.onlyUnit_faults (h : s.onlyUnit t u) : t.faults = s.faults := (congrArg State.faults h.2 :)

theorem State.onlyUnit_counted (h : s.onlyUnit t u) (g : t.sameBesideCounts r) : s.onlyUnit r u :=
  ⟨fun v hv => (State.sameBesideCounts_lux g v).trans (h.1 v hv),
    Eq.trans (congrArg (fun z : State => { z.countsFrom s with units := s.units }) g) h.2⟩

end

/-- A started block: its unit is at the block's first instruction, and beside the entry's books nothing else differs. -/
theorem State.runStart_starts (s : State) (k i : Nat) (e : Entry) :
    (s.openEntry k i).onlyUnit (s.runStart k i e) (luxUnit k e.op1.toNat) ∧
    ((s.runStart k i e).lux (luxUnit k e.op1.toNat)).pc = e.op0.toNat ∧
    ((s.runStart k i e).lux (luxUnit k e.op1.toNat)).running = true ∧
    ((s.runStart k i e).lux (luxUnit k e.op1.toNat)).cycles = 0 := by
  have hcount := State.countIf_same (e.op1.toNat < 4) (s.openEntry k i) 0x0100 (luxUnit k e.op1.toNat) e.budget
  unfold State.runStart State.startBlock
  dsimp only
  refine ⟨⟨fun v hv => ?_, ?_⟩, ?_, ?_, ?_⟩
  · rw [State.lux_setLux, if_neg hv]
    exact State.sameBesideCounts_lux hcount v
  · exact congrArg (fun z : State => { z with units := s.units }) hcount
  all_goals rw [State.lux_setLux, if_pos rfl]

/-- The end of the block of an entry that was started: the entry is complete, and its unit idles. -/
theorem State.endBlock_closes (s : State) {t : State} {k unit i : Nat} (hk : k < 16) (hu : unit ≤ 4)
    (hnew : (k, i) ∉ s.tt.openEntries) (h : (s.openEntry k i).onlyUnit t (luxUnit k unit)) (hopen : t.openRun k unit = some i) :
    State.onlyUnit { s with tt := { s.tt with started := s.tt.started ++ [(k, i)] } } (t.endBlock (luxUnit k unit))
      (luxUnit k unit) := by
  obtain ⟨hisland, hunit⟩ := island_of_luxUnit hk hu
  have hclosed : t.tt.openEntries.filter (· != (k, i)) = s.tt.openEntries := by
    have hold : s.tt.openEntries.filter (· != (k, i)) = s.tt.openEntries :=
      List.filter_eq_self.mpr fun p hp => bne_iff_ne.mpr fun he => hnew (he ▸ hp)
    rw [State.onlyUnit_tt h]
    simp [State.openEntry, hold]
  have heq : t.endBlock (luxUnit k unit) = { t.setLux (luxUnit k unit)
        { t.lux (luxUnit k unit) with running := false, loops := [], mac := false } with
      tt := { t.tt with openEntries := s.tt.openEntries } } := by
    unfold State.endBlock
    dsimp only
    rw [hisland, hunit, State.openRun_of_tt (s := t) (State.setLux_tt ..), hopen, ← hclosed]
    rfl
  rw [heq]
  refine ⟨fun v hv => ?_, ?_⟩
  · refine Eq.trans ?_ (h.1 v hv)
    exact (State.lux_setLux ..).trans (if_neg hv)
  · exact congrArg (fun z : State => { z with tt := { z.tt with openEntries := s.tt.openEntries } }) h.2

/-- An entry that runs has its unit at its disposal: not stopped, and its cluster not held (R21, R71). -/
theorem State.unitStopped_of_entryRuns (s : State) {k i : Nat} {e : Entry} (hk : k < 16) (hu : e.op1.toNat ≤ 4) (hkind : e.kind = 1)
    (h : s.entryRuns k i e = true) : s.unitStopped (luxUnit k e.op1.toNat) = false := by
  obtain ⟨hisland, hunit⟩ := island_of_luxUnit hk hu
  simp only [State.entryRuns, Bool.and_eq_true, Bool.not_eq_true'] at h
  obtain ⟨⟨⟨⟨-, hstop⟩, -⟩, hheld⟩, -⟩ := h
  have hunits : s.entryUnit k i e = e.op1.toNat := if_pos hkind
  rw [hunits] at hstop
  have hpair : (if luxUnit k e.op1.toNat < 64 then (luxUnit k e.op1.toNat / 4, luxUnit k e.op1.toNat % 4)
      else (luxUnit k e.op1.toNat - 64, 4)) = (k, e.op1.toNat) := by
    by_cases h64 : luxUnit k e.op1.toNat < 64
    · rw [if_pos h64] at hisland hunit ⊢
      exact Prod.ext hisland hunit
    · rw [if_neg h64] at hisland hunit ⊢
      exact Prod.ext hisland hunit
  unfold State.unitStopped
  rw [hpair, hisland, hstop, hheld]
  rfl

theorem State.runEntry_eq (s : State) {k i : Nat} {e : Entry} (he : s.entryAt k i = some e) (hkind : e.kind = 1) (hk : k < 16)
    (hu : e.op1.toNat ≤ 4) (hruns : s.entryRuns k i e = true) (hopen : s.openRun k e.op1.toNat = none) {t : State}
    (ht : State.runBlock (luxUnit k e.op1.toNat) e.budget (2 * e.budget + 2) (s.runStart k i e) = t)
    (hclosed : t.tt.openEntries.contains (k, i) = false) (hst : t.unitStopped (luxUnit k e.op1.toNat) = false) :
    s.runEntry k i = t.runResults e := by
  have hcond : ¬(e.kind ≠ 1 ∨ 16 ≤ k ∨ 4 < e.op1.toNat ∨ s.entryRuns k i e = false ∨ (s.openRun k e.op1.toNat).isSome = true) := by
    simp [hkind, hruns, hopen]
    omega
  unfold State.runEntry
  rw [he]
  dsimp only
  rw [if_neg hcond]
  dsimp only [State.runStart] at ht
  rw [ht, hclosed, hst]
  rfl

/-- An entry that names none of the 512 outputs, in an image without local channels, computes nothing beside its block (R63). -/
theorem State.runResults_none (s : State) {e : Entry} (hi : 512 ≤ e.op2.toNat) (hl : s.image.wiring.locals = []) :
    s.runResults e = s := by
  unfold State.runResults
  dsimp only
  rw [if_pos hi, hl]
  rfl

/-- RUN of a block that ends at its first instruction: the entry is complete, and its unit idles. -/
theorem State.runEntry_ends (s : State) {k i : Nat} {e : Entry} (he : s.entryAt k i = some e) (hkind : e.kind = 1) (hk : k < 16)
    (hu : e.op1.toNat ≤ 4) (hruns : s.entryRuns k i e = true) (hopen : s.openRun k e.op1.toNat = none) (hb : 1 ≤ e.budget)
    (hi : 512 ≤ e.op2.toNat) (hl : s.image.wiring.locals = []) (hnew : (k, i) ∉ s.tt.openEntries)
    (hw : s.codeWord (luxUnit k e.op1.toNat) e.op0.toNat = some endWord) :
    ((s.runEntry k i).lux (luxUnit k e.op1.toNat)).running = false ∧
    State.onlyUnit { s with tt := { s.tt with started := s.tt.started ++ [(k, i)] } } (s.runEntry k i) (luxUnit k e.op1.toNat) := by
  obtain ⟨hstart, hpc, hrun, hcycles⟩ := s.runStart_starts k i e
  have hlt := luxUnit_lt hk hu
  have hidle := s.unitStopped_of_entryRuns hk hu hkind hruns
  have hst : (s.runStart k i e).unitStopped (luxUnit k e.op1.toNat) = false :=
    (State.unitStopped_of_tt (s := s.openEntry k i) (State.onlyUnit_tt hstart) (State.onlyUnit_faults hstart) _).trans hidle
  have hcode : (s.runStart k i e).codeWord (luxUnit k e.op1.toNat) ((s.runStart k i e).lux (luxUnit k e.op1.toNat)).pc =
      some endWord := by
    rw [hpc, ← hw]
    unfold State.codeWord State.image
    rw [if_pos hlt, if_pos hlt, State.onlyUnit_tt hstart]
    rfl
  have hopened : (s.runStart k i e).openRun k e.op1.toNat = some i :=
    (State.openRun_of_tt (State.onlyUnit_tt hstart) k _).trans (s.openRun_openEntry he hkind hopen)
  have hended := (s.runStart k i e).runBlock_end (budget := e.budget) (2 * e.budget) hlt hrun hst hcode (by rw [hcycles]; omega)
  have honly := State.onlyUnit_counted (s.endBlock_closes hk hu hnew hstart hopened) hended
  have htt := State.onlyUnit_tt honly
  have heq : s.runEntry k i = State.runBlock (luxUnit k e.op1.toNat) e.budget (2 * e.budget + 2) (s.runStart k i e) := by
    rw [s.runEntry_eq he hkind hk hu hruns hopen rfl]
    · refine State.runResults_none _ hi ?_
      unfold State.image
      rw [htt]
      exact hl
    · rw [htt]
      simpa using hnew
    · exact (State.unitStopped_of_tt (s := { s with tt := { s.tt with started := s.tt.started ++ [(k, i)] } }) htt
        (State.onlyUnit_faults honly) _).trans hidle
  rw [heq]
  refine ⟨?_, honly⟩
  rw [State.sameBesideCounts_lux hended]
  exact State.endBlock_idle _ _

/-! ### MOVE (R49, R63, R67) -/

/-- The words of a MOVE of one block, from `a` on to `b` on (R63). -/
def movePairs (a b n : Nat) : List (Nat × Nat) := (List.range n).map (fun w => (a + 32 * w, b + 32 * w))

theorem Entry.moveWords_one (e : Entry) (h : e.op2.bits 16 5 = 1) :
    e.moveWords = movePairs e.op0.toNat e.op1.toNat (e.op2.bits 0 13) := by
  unfold Entry.moveWords movePairs
  rw [h]
  simp

theorem movePairs_succ (a b n : Nat) : movePairs a b (n + 1) = (a, b) :: movePairs (a + 32) (b + 32) n := by
  unfold movePairs
  rw [List.range_succ_eq_map, List.map_cons, List.map_map]
  refine congrArg _ (List.map_congr_left fun w _ => ?_)
  simp only [Function.comp_apply]
  exact Prod.ext (by dsimp only; omega) (by dsimp only; omega)

theorem State.memoryFrom_trans {s t u : State} (h : t.memoryFrom s = s) (g : u.memoryFrom t = t) : u.memoryFrom s = s :=
  (congrArg (fun z : State => z.memoryFrom s) g :).trans h

theorem inRings_low {a : Nat} (h : a < 0x02000000) : inRings a = false := by
  unfold inRings
  exact decide_eq_false (by omega)

theorem State.correctMove_same (s : State) (links : List Nat) (w : Nat) : s.sameBesideCounts (s.correctMove links w) := by
  unfold State.correctMove
  split
  · rfl
  · split
    · exact s.correctOne_same none w
    · exact State.sameBesideCounts_trans (b := { s with rope := { s.rope with diagCorr := satAdd 255 s.rope.diagCorr 1 } }) rfl
        (State.count_same ..)

/-- One word moved between memories that decode, outside the rings and the release sources. -/
theorem State.copyWords_cons (s : State) (k : Nat) {a b : Nat} (rest : List (Nat × Nat)) (hbad : s.bad = []) (ha : a < 0x02000000)
    (hb : b < 0x02000000) (hsrc : s.inSource b = false) : ∃ t : State, s.copyWords k ((a, b) :: rest) = t.copyWords k rest ∧
      t.memoryFrom s = s ∧ t.bad = [] ∧ t.mem = s.mem.setBytes b (s.mem.bytes a 32) := by
  have hund : s.undecodable a = false := by simp [State.undecodable, hbad]
  have hread : s.moveRead a = some (s.mem.bytes a 32) := by
    unfold State.moveRead
    rw [if_neg (by simp [inRings_low ha]), if_neg (by simp [hund])]
  have hsee : s.seeRingWords [wordOf a] = s := by simp [State.seeRingWords, hbad]
  have hcorr := s.correctMove_same (moveLinks k a b) (wordOf a)
  generalize hx : s.correctMove (moveLinks k a b) (wordOf a) = x at hcorr
  have hwrite : x.moveWrite b (s.mem.bytes a 32) = x.store' b (s.mem.bytes a 32) := by
    have hsrc' : x.inSource b = false := by
      unfold State.inSource State.image at hsrc ⊢
      rw [State.sameBesideCounts_tt hcorr]
      exact hsrc
    unfold State.moveWrite
    rw [if_neg (by simp [inRings_low hb]), if_neg (by simp [hsrc'])]
  refine ⟨x.store' b (s.mem.bytes a 32), ?_, ?_, ?_, ?_⟩
  · rw [State.copyWords, hread]
    dsimp only
    rw [hsee, hx, hwrite]
  · exact (congrArg (fun z : State => z.memoryFrom s) hcorr :)
  · have hxb : x.bad = [] := Eq.trans (congrArg State.bad hcorr :) hbad
    simp [State.store', hxb]
  · rw [← State.sameBesideCounts_mem hcorr]
    rfl

/-- Words moved between two ranges that do not meet: all are copied, and nothing else changes but the counters. -/
theorem State.copyWords_copies (k n : Nat) : ∀ (s : State) (a b : Nat), s.bad = [] → a + 32 * n ≤ 0x02000000 →
    b + 32 * n ≤ 0x02000000 → a + 32 * n ≤ b ∨ b + 32 * n ≤ a → (∀ w, w < n → s.inSource (b + 32 * w) = false) →
    ∃ t, s.copyWords k (movePairs a b n) = (t, none) ∧ t.memoryFrom s = s ∧
      (∀ j, j < 32 * n → t.mem.byte (b + j) = s.mem.byte (a + j)) ∧ s.memorySame t b (32 * n) := by
  induction n with
  | zero => exact fun s _ _ _ _ _ _ _ => ⟨s, rfl, rfl, fun j hj => absurd hj (Nat.not_lt_zero j), fun _ _ => rfl⟩
  | succ n ih =>
    intro s a b hbad ha hb hapart hsrc
    obtain ⟨x, heq, hfrom, hxbad, hmem⟩ := s.copyWords_cons k (movePairs (a + 32) (b + 32) n) hbad (by omega : a < 0x02000000)
      (by omega : b < 0x02000000) (hsrc 0 (Nat.succ_pos n))
    have hsrc' (w : Nat) (hw : w < n) : x.inSource (b + 32 + 32 * w) = false := by
      have h := hsrc (w + 1) (by omega)
      rw [show b + 32 * (w + 1) = b + 32 + 32 * w by omega] at h
      exact Eq.trans (congrArg (fun z : State => z.inSource (b + 32 + 32 * w)) hfrom :) h
    obtain ⟨t, hrest, htfrom, hcopied, hsame⟩ := ih x (a + 32) (b + 32) hxbad (by omega) (by omega) (by omega) hsrc'
    have hbyte (y : Nat) : x.mem.byte y = if b ≤ y ∧ y < b + 32 then s.mem.byte (a + (y - b)) else s.mem.byte y := by
      rw [hmem, Mem.byte_setBytes, Mem.length_bytes]
      split
      next h => exact Mem.nthD_bytes _ (Nat.sub_lt_left_of_lt_add h.1 h.2)
      · rfl
    refine ⟨t, by rw [movePairs_succ, heq, hrest], State.memoryFrom_trans hfrom htfrom, fun j hj => ?_, fun y hy => ?_⟩
    · by_cases h32 : j < 32
      · rw [hsame (b + j) (by omega), hbyte, if_pos (by omega), Nat.add_sub_cancel_left]
      · obtain ⟨l, rfl⟩ : ∃ l, j = 32 + l := ⟨j - 32, by omega⟩
        rw [← Nat.add_assoc, hcopied l (by omega), hbyte, if_neg (by omega), Nat.add_assoc]
    · rw [hsame y (by omega), hbyte, if_neg (by omega)]

/-- A MOVE started (R43, R63): open, its channel held. -/
def State.moveStart (s : State) (k i : Nat) (e : Entry) : State :=
  { s.openEntry k i with tt := { (s.openEntry k i).tt with reserved := (s.openEntry k i).tt.reserved ++ [(k, e.channel)] } }

theorem State.moveEntry_copies (s : State) {k i : Nat} {e : Entry} {t : State} (he : s.entryAt k i = some e) (hkind : e.kind = 2)
    (hruns : s.entryRuns k i e = true) (ht : (s.moveStart k i e).copyWords k e.moveWords = (t, none)) : s.moveEntry k i = t := by
  unfold State.moveEntry
  rw [he]
  dsimp only
  rw [if_neg (by simp [hkind, hruns])]
  dsimp only [State.moveStart] at ht
  rw [ht]

theorem State.moveComplete_closes (s : State) {k i : Nat} {e : Entry} (he : s.entryAt k i = some e) (hkind : e.kind = 2)
    (hopen : (k, i) ∈ s.tt.openEntries) : ∃ markers, s.moveComplete k i = { s with tt := { s.tt with
      openEntries := s.tt.openEntries.filter (· != (k, i))
      reserved := s.tt.reserved.filter (· != (k, e.channel)), markers := markers } } ∧ ∀ m, e.marker = some m → m ∈ markers := by
  have hcond : ¬(e.kind ≠ 2 ∨ s.tt.openEntries.contains (k, i) = false) := by simp [hkind, hopen]
  unfold State.moveComplete
  rw [he]
  dsimp only
  rw [if_neg hcond]
  refine ⟨_, rfl, fun m hm => ?_⟩
  rw [hm]
  exact mem_addNew_self m _

/-! ### GATE, RESERVE and OVERRUN (R50, R71, R72) -/

theorem State.gateEntry_started (s : State) {k i : Nat} {e : Entry} (he : s.entryAt k i = some e) (hkind : e.kind = 3)
    (hruns : s.entryRuns k i e = true) : s.gateEntry k i =
      if s.tt.markers.contains (e.op0.bits 0 8) then { s with tt := { s.tt with started := s.tt.started ++ [(k, i)] } }
      else State.gateMiss { s with tt := { s.tt with started := s.tt.started ++ [(k, i)] } } k i e := by
  unfold State.gateEntry
  rw [he]
  dsimp only
  rw [if_neg (by simp [hkind, hruns])]

/-- A fault leaves the books of the entries, of the misses and of the overruns, and the units, as they are. -/
theorem State.Faulted.books {s t : State} {us ks : List Nat} {p : Bool} (h : s.Faulted t us ks p) :
    t.tt.openEntries = s.tt.openEntries ∧ t.tt.skipped = s.tt.skipped ∧ t.tt.stopped = s.tt.stopped ∧
    t.tt.gateFlag = s.tt.gateFlag ∧ t.tt.gateCount = s.tt.gateCount ∧ t.tt.ovrFlag = s.tt.ovrFlag ∧
    t.tt.ovrCount = s.tt.ovrCount ∧ t.units = s.units :=
  have field {α : Type} (f : State → α) := congrArg f h.same
  ⟨field (·.tt.openEntries), field (·.tt.skipped), field (·.tt.stopped), field (·.tt.gateFlag), field (·.tt.gateCount),
    field (·.tt.ovrFlag), field (·.tt.ovrCount), field (·.units)⟩

/-- A GATE miss is booked and faults its unit, whether or not the entry it skips has outputs to age. -/
theorem State.gateMiss_eq (s : State) (k i : Nat) (e : Entry) : ∃ aged gateWhere, s.gateMiss k i e =
    State.unitFault { s with tt := { s.tt with
      skipped := s.tt.skipped ++ [(k, i + 1)], gateCount := Nat.min 0xFFFF (s.tt.gateCount + 1), gateFlag := true
      gateWhere := gateWhere, aged := aged } } 4 (islandUnit k (e.op1.bits 0 3)) := by
  rw [← satAdd_one]
  unfold State.gateMiss
  dsimp only
  generalize State.entryAt _ k (i + 1) = next
  cases next with
  | some n => exact ⟨_, _, rfl⟩
  | none => exact ⟨_, _, rfl⟩

/-- A GATE miss (R72): the next entry is skipped, the miss counted, and the unit that the GATE names faulted. -/
theorem State.gateMiss_faults (s : State) (k i : Nat) (e : Entry) : ∃ aged gateWhere ks p,
    State.Faulted { s with tt := { s.tt with
      skipped := s.tt.skipped ++ [(k, i + 1)], gateCount := Nat.min 0xFFFF (s.tt.gateCount + 1), gateFlag := true
      gateWhere := gateWhere, aged := aged } } (s.gateMiss k i e)
      (addNew (islandUnit k (e.op1.bits 0 3)) s.faults.units) ks p := by
  obtain ⟨aged, gateWhere, heq⟩ := s.gateMiss_eq k i e
  obtain ⟨ks, p, h⟩ := State.unitFault_faulted { s with tt := { s.tt with
    skipped := s.tt.skipped ++ [(k, i + 1)], gateCount := Nat.min 0xFFFF (s.tt.gateCount + 1), gateFlag := true
    gateWhere := gateWhere, aged := aged } } 4 (islandUnit k (e.op1.bits 0 3))
  rw [← heq] at h
  exact ⟨aged, gateWhere, ks, p, h⟩

theorem State.reserveEntry_holds (s : State) {k i : Nat} {e : Entry} (he : s.entryAt k i = some e) (hkind : e.kind = 4)
    (hruns : s.entryRuns k i e = true) : s.reserveEntry k i = { s with tt := { s.tt with
      started := s.tt.started ++ [(k, i)], reserved := s.tt.reserved ++ [(k, e.channel)] } } := by
  unfold State.reserveEntry
  rw [he]
  exact if_neg (by simp [hkind, hruns])

theorem mem_addPair_self (p : Nat × Nat) (l : List (Nat × Nat)) : p ∈ addPair p l := by
  unfold addPair
  split
  next h => simpa using h
  · simp

/-- OVERRUN of a RUN entry (R71): the entry is aborted, the overrun counted, its unit stopped and idle. -/
theorem State.overrunEntry_aborts (s : State) {k i : Nat} {e : Entry} (he : s.entryAt k i = some e) (hkind : e.kind = 1)
    (hopen : (k, i) ∈ s.tt.openEntries) : ∃ ovrWhere aged us ks p t x, s.overrunEntry k i = State.setLux t (luxUnit k e.op1.toNat) x ∧
      x.running = false ∧ State.Faulted { s with tt := { s.tt with
        openEntries := s.tt.openEntries.filter (· != (k, i)), stopped := addPair (k, e.unitCode) s.tt.stopped
        ovrCount := Nat.min 0xFFFF (s.tt.ovrCount + 1), ovrFlag := true, ovrWhere := ovrWhere, aged := aged } } t us ks p := by
  have hunit : s.entryUnit k i e = e.unitCode := (if_pos hkind).trans (if_pos hkind).symm
  obtain ⟨ks, p, h⟩ := State.unitFault_faulted (s.abortBooks k i) 2 (islandUnit k e.unitCode)
  have habort : s.abortEntry k i 2 = (s.abortBooks k i).unitFault 2 (islandUnit k e.unitCode) := by
    unfold State.abortEntry
    rw [he]
  have hbooks : s.abortBooks k i = { s with tt := { s.tt with
      openEntries := s.tt.openEntries.filter (· != (k, i)), stopped := addPair (k, e.unitCode) s.tt.stopped
      ovrCount := Nat.min 0xFFFF (s.tt.ovrCount + 1), ovrFlag := true
      ovrWhere := if s.tt.ovrFlag then s.tt.ovrWhere else whereWord k e.unitCode s.tt.tier i
      aged := s.tt.aged ++ e.instances } } := by
    unfold State.abortBooks
    rw [he, ← satAdd_one]
    dsimp only
    rw [hunit]
  have heq : s.overrunEntry k i = (s.abortEntry k i 2).setLux (luxUnit k e.op1.toNat)
      { (s.abortEntry k i 2).lux (luxUnit k e.op1.toNat) with running := false, loops := [], mac := false } := by
    unfold State.overrunEntry
    rw [he]
    dsimp only
    rw [if_neg (by simp [hopen]), if_pos hkind]
  rw [habort] at heq
  generalize (s.abortBooks k i).unitFault 2 (islandUnit k e.unitCode) = t at h heq
  rw [hbooks] at h
  exact ⟨_, _, _, ks, p, t, _, heq, rfl, h⟩

/-- Settles O36, entry by entry: each row's effect is its lemma above. -/
theorem entriesExecute : Obligations.EntriesExecute := by
  unfold Obligations.EntriesExecute
  intro s k i
  refine ⟨fun rel o hon hrel ho hr hf => ?_, fun e he => ⟨fun hkind hk hu hruns hopen hb hi hl hnew hw => ?_,
    fun n hkind hruns h1 hn ha hb hapart hok hbad => ?_, fun hkind hopen => ?_, fun hkind hruns hm => ?_, fun hkind hruns hm => ?_,
    fun hkind hruns => ?_, fun hkind hopen => ?_⟩⟩
  · refine ⟨_, exec_release s 8, ?_⟩
    rw [s.releaseAt_rates hon hrel ho hr]
    obtain ⟨mem, bad, badSeen, wrong, hhalf, hsame⟩ := State.takeHalf_only
      { s.toStamp (s.tt.start + BitVec.ofNat 64 o) with tt := { s.tt with released := s.tt.released ++ [8] } } rel
    rw [hhalf] at hsame ⊢
    obtain ⟨chans, hrates, hreleased⟩ := State.releaseRates_fresh { s.toStamp (s.tt.start + BitVec.ofNat 64 o) with
      tt := { s.tt with released := s.tt.released ++ [8] }, mem := mem, bad := bad, badSeen := badSeen, wrong := wrong } rel hf
    rw [hrates]
    exact ⟨fun c hc => ⟨(hreleased c hc).rate, (hreleased c hc).next, (hreleased c hc).since⟩, hsame, rfl, rfl⟩
  · obtain ⟨hidle, hothers, hsame⟩ := s.runEntry_ends he hkind hk hu hruns hopen hb hi hl hnew hw
    exact ⟨_, exec_run s k i, hidle, (congrArg State.tt hsame :), (congrArg State.mem hsame :), (congrArg State.axes hsame :), hothers⟩
  · obtain ⟨t, hcopy, hfrom, hcopied, hsame⟩ := State.copyWords_copies k n (s.moveStart k i e) e.op0.toNat e.op1.toNat hbad ha hb
      hapart fun w hw => (hok w hw).2
    rw [← hn, ← e.moveWords_one h1] at hcopy
    refine ⟨t, (exec_move s k i).trans (congrArg _ (s.moveEntry_copies he hkind hruns hcopy)), hcopied, hsame,
      (congrArg State.tt hfrom :), (congrArg (fun z : State => { z with tt := s.tt }) hfrom :)⟩
  · obtain ⟨markers, heq, hmark⟩ := s.moveComplete_closes he hkind hopen
    refine ⟨_, exec_moveComplete s k i, ?_⟩
    rw [heq]
    exact ⟨by simp, by simp, hmark, rfl⟩
  · rw [exec_gate, s.gateEntry_started he hkind hruns, if_pos hm]
  · refine ⟨_, exec_gate s k i, ?_⟩
    rw [s.gateEntry_started he hkind hruns, if_neg (by rw [hm]; exact Bool.false_ne_true)]
    obtain ⟨aged, gateWhere, ks, p, h⟩ := State.gateMiss_faults
      { s with tt := { s.tt with started := s.tt.started ++ [(k, i)] } } k i e
    obtain ⟨-, hskip, -, hflag, hcount, -, -, hunits⟩ := h.books
    refine ⟨?_, hflag, hcount, ?_, h.same.mem, hunits⟩
    · rw [hskip]
      exact List.mem_append_right _ List.mem_cons_self
    · rw [h.units]
      exact mem_addNew_self _ _
  · rw [exec_reserve, s.reserveEntry_holds he hkind hruns]
  · obtain ⟨_, _, us, ks, p, t, x, heq, hx, h⟩ := s.overrunEntry_aborts he hkind hopen
    obtain ⟨hopens, -, hstop, -, -, hflag, hcount, -⟩ := h.books
    refine ⟨_, exec_overrun s k i, ?_⟩
    rw [heq]
    refine ⟨?_, ?_, hflag, hcount, h.same.mem, ?_⟩
    · rw [State.setLux_tt, hopens]
      simp
    · rw [State.setLux_tt, hstop]
      exact mem_addPair_self _ _
    · rw [State.lux_setLux, if_pos rfl]
      exact hx

end Sys2Proof.Machine
end

section
/-! PROOFS. The three memories stay in their canonical form: every command keeps it, and so does a step (R64, R108). -/

namespace Sys2Proof.Machine

/-- Every command answers a next state whose memories are canonical where those of its state are: row by row. -/
theorem exec_memoryOk (c : Instr) (s : State) (hs : s.memoryOk = true) : ∃ t, exec c s = .next t ∧ t.memoryOk = true :=
  match c with
  | .porn lowNs straps => execPorn_memoryOk lowNs straps s hs
  | .railUndervoltage ns => execRailUndervoltage_memoryOk ns s hs
  | .armComplete selfTest => execArmComplete_memoryOk selfTest s hs
  | .perstn low => execPerstn_memoryOk low s hs
  | .pcieLinkDown cause => execPcieLinkDown_memoryOk cause s hs
  | .release target => execRelease_memoryOk target s hs
  | .run island index => execRun_memoryOk island index s hs
  | .move island index => execMove_memoryOk island index s hs
  | .moveComplete island index => execMoveComplete_memoryOk island index s hs
  | .gate island index => execGate_memoryOk island index s hs
  | .reserve island index => execReserve_memoryOk island index s hs
  | .overrun island index => execOverrun_memoryOk island index s hs
  | .dieLinkFailure link => execDieLinkFailure_memoryOk link s hs
  | .scrubVisit addr symbols => execScrubVisit_memoryOk addr symbols s hs
  | .supervisionTrip ax => execSupervisionTrip_memoryOk ax s hs
  | .stall g => execStall_memoryOk g s hs
  | .setLoadComplete ax => execSetLoadComplete_memoryOk ax s hs
  | .pcieLinkUp speed width bme => execPcieLinkUp_memoryOk speed width bme s hs
  | .nop u f => execNop_memoryOk u f s hs
  | .end_ u f => execEnd_memoryOk u f s hs
  | .loop u f => execLoop_memoryOk u f s hs
  | .rdf u f => execRdf_memoryOk u f s hs
  | .clrf u f => execClrf_memoryOk u f s hs
  | .add u f => execAdd_memoryOk u f s hs
  | .sub u f => execSub_memoryOk u f s hs
  | .adds u f => execAdds_memoryOk u f s hs
  | .subs u f => execSubs_memoryOk u f s hs
  | .and u f => execAnd_memoryOk u f s hs
  | .or u f => execOr_memoryOk u f s hs
  | .xor u f => execXor_memoryOk u f s hs
  | .shl u f => execShl_memoryOk u f s hs
  | .shr u f => execShr_memoryOk u f s hs
  | .sar u f => execSar_memoryOk u f s hs
  | .mul u f => execMul_memoryOk u f s hs
  | .mulh u f => execMulh_memoryOk u f s hs
  | .min u f => execMin_memoryOk u f s hs
  | .max u f => execMax_memoryOk u f s hs
  | .slt u f => execSlt_memoryOk u f s hs
  | .sltu u f => execSltu_memoryOk u f s hs
  | .addi u f => execAddi_memoryOk u f s hs
  | .movi u f => execMovi_memoryOk u f s hs
  | .shli u f => execShli_memoryOk u f s hs
  | .shri u f => execShri_memoryOk u f s hs
  | .sari u f => execSari_memoryOk u f s hs
  | .andi u f => execAndi_memoryOk u f s hs
  | .selz u f => execSelz_memoryOk u f s hs
  | .abs u f => execAbs_memoryOk u f s hs
  | .div u f => execDiv_memoryOk u f s hs
  | .divu u f => execDivu_memoryOk u f s hs
  | .xmov u f => execXmov_memoryOk u f s hs
  | .xaddi u f => execXaddi_memoryOk u f s hs
  | .sfromx u f => execSfromx_memoryOk u f s hs
  | .pmov u f => execPmov_memoryOk u f s hs
  | .paddi u f => execPaddi_memoryOk u f s hs
  | .sfromp u f => execSfromp_memoryOk u f s hs
  | .ldv u f => execLdv_memoryOk u f s hs
  | .stv u f => execStv_memoryOk u f s hs
  | .lds u f => execLds_memoryOk u f s hs
  | .sts u f => execSts_memoryOk u f s hs
  | .selld u f => execSelld_memoryOk u f s hs
  | .macb u f => execMacb_memoryOk u f s hs
  | .mace u f => execMace_memoryOk u f s hs
  | .macr u f => execMacr_memoryOk u f s hs
  | .macrb u f => execMacrb_memoryOk u f s hs
  | .adda u f => execAdda_memoryOk u f s hs
  | .mova u f => execMova_memoryOk u f s hs
  | .fixv u f => execFixv_memoryOk u f s hs
  | .normv u f => execNormv_memoryOk u f s hs
  | .vmov u f => execVmov_memoryOk u f s hs
  | .vclamp u f => execVclamp_memoryOk u f s hs
  | .vcmp u f => execVcmp_memoryOk u f s hs
  | .vsel u f => execVsel_memoryOk u f s hs
  | .vins u f => execVins_memoryOk u f s hs
  | .vext u f => execVext_memoryOk u f s hs
  | .vexp u f => execVexp_memoryOk u f s hs
  | .vsete u f => execVsete_memoryOk u f s hs
  | .vzero u f => execVzero_memoryOk u f s hs
  | .sincos u f => execSincos_memoryOk u f s hs
  | .vsqrt u f => execVsqrt_memoryOk u f s hs
  | .vresc u f => execVresc_memoryOk u f s hs
  | .vneg u f => execVneg_memoryOk u f s hs
  | .biq u f => execBiq_memoryOk u f s hs
  | .fir u f => execFir_memoryOk u f s hs
  | .fft u f => execFft_memoryOk u f s hs
  | .beq u f => execBeq_memoryOk u f s hs
  | .bne u f => execBne_memoryOk u f s hs
  | .blt u f => execBlt_memoryOk u f s hs
  | .bge u f => execBge_memoryOk u f s hs
  | .bltu u f => execBltu_memoryOk u f s hs
  | .bgeu u f => execBgeu_memoryOk u f s hs
  | .jal u f => execJal_memoryOk u f s hs
  | .jr u f => execJr_memoryOk u f s hs
  | .ldw u f => execLdw_memoryOk u f s hs
  | .stw u f => execStw_memoryOk u f s hs
  | .ldbu u f => execLdbu_memoryOk u f s hs
  | .stb u f => execStb_memoryOk u f s hs
  | .ldd u f => execLdd_memoryOk u f s hs
  | .std u f => execStd_memoryOk u f s hs
  | .amoadd u f => execAmoadd_memoryOk u f s hs
  | .rgr u f => execRgr_memoryOk u f s hs
  | .rgw u f => execRgw_memoryOk u f s hs
  | .tend u f => execTend_memoryOk u f s hs
  | .tpost u f => execTpost_memoryOk u f s hs
  | .tdly u f => execTdly_memoryOk u f s hs
  | .flt u f => execFlt_memoryOk u f s hs
  | .illegalInstruction u word => execIllegalInstruction_memoryOk u word s hs
  | .nopCommand c => execNopCommand_memoryOk c s hs
  | .ttLoad c slot => execTtLoad_memoryOk c slot s hs
  | .ttSwap c p => execTtSwap_memoryOk c p s hs
  | .ttCancel c => execTtCancel_memoryOk c s hs
  | .axEnable c ax mode => execAxEnable_memoryOk c ax mode s hs
  | .axDisable c ax => execAxDisable_memoryOk c ax s hs
  | .axMode c ax mode noPreset => execAxMode_memoryOk c ax mode noPreset s hs
  | .axCommit c ax => execAxCommit_memoryOk c ax s hs
  | .axRetune c ax k => execAxRetune_memoryOk c ax k s hs
  | .axSetLoad c ax k f => execAxSetLoad_memoryOk c ax k f s hs
  | .axClear c ax => execAxClear_memoryOk c ax s hs
  | .mvQueue c g target vmax relative blend => execMvQueue_memoryOk c g target vmax relative blend s hs
  | .mvChange c g target vmax chTarget chVmax => execMvChange_memoryOk c g target vmax chTarget chVmax s hs
  | .mvFlush c g => execMvFlush_memoryOk c g s hs
  | .mvQstop c g => execMvQstop_memoryOk c g s hs
  | .mvHstop c g => execMvHstop_memoryOk c g s hs
  | .mvHome c g method dir vsearch homePos range fly => execMvHome_memoryOk c g method dir vsearch homePos range fly s hs
  | .pfCommit c g => execPfCommit_memoryOk c g s hs
  | .chEnable c ch enable => execChEnable_memoryOk c ch enable s hs
  | .fbCommit c ch => execFbCommit_memoryOk c ch s hs
  | .fbClear c ch => execFbClear_memoryOk c ch s hs
  | .rgCommit c r => execRgCommit_memoryOk c r s hs
  | .rgReopen c r n => execRgReopen_memoryOk c r n s hs
  | .rgResync c r n => execRgResync_memoryOk c r n s hs
  | .rgAsend c r n proto len addr => execRgAsend_memoryOk c r n proto len addr s hs
  | .timeStep c delta => execTimeStep_memoryOk c delta s hs
  | .timeRate c rate => execTimeRate_memoryOk c rate s hs
  | .ptpCommit c => execPtpCommit_memoryOk c s hs
  | .acqCommit c => execAcqCommit_memoryOk c s hs
  | .acqArm c ch => execAcqArm_memoryOk c ch s hs
  | .acqDisarm c ch => execAcqDisarm_memoryOk c ch s hs
  | .acqForce c ch => execAcqForce_memoryOk c ch s hs
  | .acqRead c ch first count addr => execAcqRead_memoryOk c ch first count addr s hs
  | .acqMaskLoad c ch => execAcqMaskLoad_memoryOk c ch s hs
  | .maskLoadComplete ch => execMaskLoadComplete_memoryOk ch s hs
  | .spDesc c d addr => execSpDesc_memoryOk c d addr s hs
  | .spPost c d slot value => execSpPost_memoryOk c d slot value s hs
  | .spDrop c d => execSpDrop_memoryOk c d s hs
  | .govCommit c => execGovCommit_memoryOk c s hs
  | .ropeHandover c p => execRopeHandover_memoryOk c p s hs
  | .ropeRejoin c => execRopeRejoin_memoryOk c s hs
  | .ropeDismiss c => execRopeDismiss_memoryOk c s hs
  | .sfLoad c addr => execSfLoad_memoryOk c addr s hs
  | .sfConfirm c value => execSfConfirm_memoryOk c value s hs
  | .sfDemand c f => execSfDemand_memoryOk c f s hs
  | .sfReset c f => execSfReset_memoryOk c f s hs
  | .sfBrakeTest c b => execSfBrakeTest_memoryOk c b s hs
  | .stSave c => execStSave_memoryOk c s hs
  | .bankWriteComplete safe ok => execBankWriteComplete_memoryOk safe ok s hs
  | .stImgWrite c slot offset addr length => execStImgWrite_memoryOk c slot offset addr length s hs
  | .stImgSeal c slot => execStImgSeal_memoryOk c slot s hs
  | .stImgBoot c slot ratchet level => execStImgBoot_memoryOk c slot ratchet level s hs
  | .stLogRead c first count addr => execStLogRead_memoryOk c first count addr s hs
  | .stLogAck c upto link => execStLogAck_memoryOk c upto link s hs
  | .stDebugOpen c => execStDebugOpen_memoryOk c s hs
  | .stOwnerKey c k addr => execStOwnerKey_memoryOk c k addr s hs
  | .stOwnerRevoke c k => execStOwnerRevoke_memoryOk c k s hs
  | .stTeam c addr => execStTeam_memoryOk c addr s hs
  | .cmdPush agent => execCmdPush_memoryOk agent s hs
  | .registerWrite agent off w => execRegisterWrite_memoryOk agent off w s hs
  | .narrowAccess off write => execNarrowAccess_memoryOk off write s hs
  | .aliasAccess agent off write w => execAliasAccess_memoryOk agent off write w s hs
  | .bar2Write addr bytes poisoned => execBar2Write_memoryOk addr bytes poisoned s hs
  | .bar2Read addr len => execBar2Read_memoryOk addr len s hs
  | .mailboxSelect agent k selector => execMailboxSelect_memoryOk agent k selector s hs
  | .mailboxCaptureComplete k => execMailboxCaptureComplete_memoryOk k s hs
  | .delayMaxClear agent ax => execDelayMaxClear_memoryOk agent ax s hs
  | .govClear agent => execGovClear_memoryOk agent s hs
  | .perfClear agent => execPerfClear_memoryOk agent s hs
  | .perfFreeze agent freeze => execPerfFreeze_memoryOk agent freeze s hs
  | .perfCfgWrite agent k w => execPerfCfgWrite_memoryOk agent k w s hs
  | .cmpArm agent k => execCmpArm_memoryOk agent k s hs
  | .cmpFire k => execCmpFire_memoryOk k s hs
  | .evioModeWrite agent p mode => execEvioModeWrite_memoryOk agent p mode s hs
  | .evioQt agent p target => execEvioQt_memoryOk agent p target s hs
  | .evioQpush agent p level => execEvioQpush_memoryOk agent p level s hs
  | .evioEntryFire p => execEvioEntryFire_memoryOk p s hs
  | .evioPeriodicEdge p => execEvioPeriodicEdge_memoryOk p s hs
  | .evioCapture p line quarters => execEvioCapture_memoryOk p line quarters s hs
  | .capRdWrite agent w => execCapRdWrite_memoryOk agent w s hs
  | .arxRdWrite agent r w => execArxRdWrite_memoryOk agent r w s hs
  | .strRdWrite agent w => execStrRdWrite_memoryOk agent w s hs
  | .schedWindowWrite agent w => execSchedWindowWrite_memoryOk agent w s hs
  | .classRightRemove agent soft w => execClassRightRemove_memoryOk agent soft w s hs
  | .bwMonitorEnable agent m w => execBwMonitorEnable_memoryOk agent m w s hs
  | .bwWindowEnd m bytes busy => execBwWindowEnd_memoryOk m bytes busy s hs
  | .pcSample core waiting => execPcSample_memoryOk core waiting s hs
  | .encoderEdge c lines stamp => execEncoderEdge_memoryOk c lines stamp s hs
  | .encoderIndexEdge c seen => execEncoderIndexEdge_memoryOk c seen s hs
  | .qerrWindowClose ch => execQerrWindowClose_memoryOk ch s hs
  | .qerrLimitReached ch => execQerrLimitReached_memoryOk ch s hs
  | .serialDeadline port edge0 samples => execSerialDeadline_memoryOk port edge0 samples s hs
  | .serialFailLimit port => execSerialFailLimit_memoryOk port s hs
  | .passageHeader ring port bytes arrival => execPassageHeader_memoryOk ring port bytes arrival s hs
  | .coldStartHeader ring port bytes arrival => execColdStartHeader_memoryOk ring port bytes arrival s hs
  | .barge ring port bytes arrival => execBarge_memoryOk ring port bytes arrival s hs
  | .downstreamFrame ring port bytes arrival => execDownstreamFrame_memoryOk ring port bytes arrival s hs
  | .acyclicFrame ring port bytes => execAcyclicFrame_memoryOk ring port bytes s hs
  | .poundProbe ring port bytes arrival => execPoundProbe_memoryOk ring port bytes arrival s hs
  | .poundProbeReply ring port bytes arrival => execPoundProbeReply_memoryOk ring port bytes arrival s hs
  | .poundProbeSend ring port => execPoundProbeSend_memoryOk ring port s hs
  | .edgeLimitReached ring n => execEdgeLimitReached_memoryOk ring n s hs
  | .joinCountReached ring n => execJoinCountReached_memoryOk ring n s hs
  | .bargeAbsenceTimeout ring n => execBargeAbsenceTimeout_memoryOk ring n s hs
  | .creditResync ring n => execCreditResync_memoryOk ring n s hs
  | .blockLockLoss ring port => execBlockLockLoss_memoryOk ring port s hs
  | .headerAbsence ring port => execHeaderAbsence_memoryOk ring port s hs
  | .blockLockRegained ring port => execBlockLockRegained_memoryOk ring port s hs
  | .holeClear ring => execHoleClear_memoryOk ring s hs
  | .triggerTimeout t => execTriggerTimeout_memoryOk t s hs
  | .postReached ch => execPostReached_memoryOk ch s hs
  | .taskStart core => execTaskStart_memoryOk core s hs
  | .pendingTokenAccept source => execPendingTokenAccept_memoryOk source s hs
  | .delayExpiry d => execDelayExpiry_memoryOk d s hs
  | .measurementClose energy temps => execMeasurementClose_memoryOk energy temps s hs
  | .sensorFail k => execSensorFail_memoryOk k s hs
  | .preValid ch => execPreValid_memoryOk ch s hs
  | .heartbeat link bytes => execHeartbeat_memoryOk link bytes s hs
  | .batch link ok tag items => execBatch_memoryOk link ok tag items s hs
  | .ledger link ok passage books => execLedger_memoryOk link ok passage books s hs
  | .local_ link ok passage chans evio => execLocal_memoryOk link ok passage chans evio s hs
  | .localSer link ok passage chans => execLocalSer_memoryOk link ok passage chans s hs
  | .sample link bytes => execSample_memoryOk link bytes s hs
  | .verdict link ok passage action reason => execVerdict_memoryOk link ok passage action reason s hs
  | .evioFrame link ok p reg w target => execEvioFrame_memoryOk link ok p reg w target s hs
  | .grant link ok serial => execGrant_memoryOk link ok serial s hs
  | .copy link ok block left => execCopy_memoryOk link ok block left s hs
  | .batchMissing kind => execBatchMissing_memoryOk kind s hs
  | .secondDownstreamFallback ring => execSecondDownstreamFallback_memoryOk ring s hs
  | .ropeLinkLockLoss link => execRopeLinkLockLoss_memoryOk link s hs
  | .ropeLinkLockRegained link => execRopeLinkLockRegained_memoryOk link s hs
  | .safetySample sins souts brks currents => execSafetySample_memoryOk sins souts brks currents s hs
  | .discrepancyTimeout k => execDiscrepancyTimeout_memoryOk k s hs
  | .ss1TimeExpiry f => execSs1TimeExpiry_memoryOk f s hs
  | .offPulse j low => execOffPulse_memoryOk j low s hs
  | .offPulseEnd j high => execOffPulseEnd_memoryOk j high s hs
  | .containerLoss ring n => execContainerLoss_memoryOk ring n s hs
  | .stoFail ring n => execStoFail_memoryOk ring n s hs
  | .safetyDiagFault diag => execSafetyDiagFault_memoryOk diag s hs
  | .tamper powered => execTamper_memoryOk powered s hs
  | .sync m => execSync_memoryOk m s hs
  | .followUp m => execFollowUp_memoryOk m s hs
  | .delayReq m => execDelayReq_memoryOk m s hs
  | .delayResp m => execDelayResp_memoryOk m s hs
  | .pdelayReq m => execPdelayReq_memoryOk m s hs
  | .pdelayResp m => execPdelayResp_memoryOk m s hs
  | .pdelayRespFollowUp m => execPdelayRespFollowUp_memoryOk m s hs
  | .announce m => execAnnounce_memoryOk m s hs
  | .wakeComplete => execWakeComplete_memoryOk s hs
  | .clearComplete => execClearComplete_memoryOk s hs
  | .imageComplete => execImageComplete_memoryOk s hs
  | .passageStart => execPassageStart_memoryOk s hs
  | .tierLatch => execTierLatch_memoryOk s hs
  | .ttLoadComplete => execTtLoadComplete_memoryOk s hs
  | .swap => execSwap_memoryOk s hs
  | .handover => execHandover_memoryOk s hs
  | .brakeTestSettleExpiry => execBrakeTestSettleExpiry_memoryOk s hs
  | .brakeTestHoldExpiry => execBrakeTestHoldExpiry_memoryOk s hs
  | .dbgReq => execDbgReq_memoryOk s hs
  | .lkWrite => execLkWrite_memoryOk s hs
  | .schedWindowEnd => execSchedWindowEnd_memoryOk s hs
  | .ringInHorizon => execRingInHorizon_memoryOk s hs
  | .thermalTrip => execThermalTrip_memoryOk s hs
  | .belayDecision => execBelayDecision_memoryOk s hs
  | .belayGrant => execBelayGrant_memoryOk s hs
  | .takeover => execTakeover_memoryOk s hs
  | .silenceTakeover => execSilenceTakeover_memoryOk s hs
  | .leadIsolation => execLeadIsolation_memoryOk s hs
  | .coldStartAttempt => execColdStartAttempt_memoryOk s hs
  | .rejoinCheckComplete => execRejoinCheckComplete_memoryOk s hs
  | .vbatLoss => execVbatLoss_memoryOk s hs
  | .vaultEraseComplete => execVaultEraseComplete_memoryOk s hs
  | .ptpDiscardedMessage => execPtpDiscardedMessage_memoryOk s hs
  | .ptpSyncInterval => execPtpSyncInterval_memoryOk s hs
  | .vsafe24Undervoltage => execVsafe24Undervoltage_memoryOk s hs
  | .delayReqInterval => execDelayReqInterval_memoryOk s hs
  | .announceReceiptTimeout => execAnnounceReceiptTimeout_memoryOk s hs

/-- Settles O4: taking the front command changes no memory, and the command itself keeps the three. -/
theorem everyStepKeepsTheMemories : Obligations.EveryStepKeepsTheMemories := by
  unfold Obligations.EveryStepKeepsTheMemories
  intro s t hs hstep
  unfold step at hstep
  split at hstep
  · rw [← Host.Outcome.next.inj hstep]
    exact s.idle_memoryOk hs
  next c rest hp =>
    obtain ⟨u, hu, hmem⟩ := exec_memoryOk c { s with pending := rest } hs
    rw [← Host.Outcome.next.inj (hu.symm.trans hstep)]
    exact hmem

end Sys2Proof.Machine
end

section
/-! PROOFS. The check bytes of a word (R108): the remainder modulo the generator is linear, so the eight last bytes of a codeword
are the check bytes of the others. -/

namespace Sys2Proof.Machine

/-! ### The field and the remainder are linear -/

theorem gfDouble_xor (a b : Byte) : gfDouble (a ^^^ b) = gfDouble a ^^^ gfDouble b := by
  unfold gfDouble
  rw [BitVec.getLsbD_xor, BitVec.shiftLeft_xor_distrib]
  cases a.getLsbD 7 <;> cases b.getLsbD 7
  · rfl
  · exact BitVec.xor_assoc ..
  · change a <<< 1 ^^^ b <<< 1 ^^^ 29#8 = a <<< 1 ^^^ 29#8 ^^^ b <<< 1
    ac_rfl
  · change a <<< 1 ^^^ b <<< 1 = a <<< 1 ^^^ 29#8 ^^^ (b <<< 1 ^^^ 29#8)
    calc a <<< 1 ^^^ b <<< 1 = a <<< 1 ^^^ b <<< 1 ^^^ (29#8 ^^^ 29#8) := by rw [BitVec.xor_self, BitVec.xor_zero]
      _ = a <<< 1 ^^^ 29#8 ^^^ (b <<< 1 ^^^ 29#8) := by ac_rfl

theorem foldl_gfDouble_xor (l : List Nat) (a b : Byte) : l.foldl (fun x _ => gfDouble x) (a ^^^ b) =
    l.foldl (fun x _ => gfDouble x) a ^^^ l.foldl (fun x _ => gfDouble x) b := by
  induction l generalizing a b with
  | nil => rfl
  | cons _ l ih => rw [List.foldl_cons, gfDouble_xor, ih]; rfl

theorem gfMulBits_xor (a b c : Byte) (n : Nat) : gfMulBits (a ^^^ b) c n = gfMulBits a c n ^^^ gfMulBits b c n := by
  induction n with
  | zero => exact (BitVec.xor_self (x := 0#8)).symm
  | succ n ih =>
    rw [gfMulBits, gfMulBits, gfMulBits, ih, foldl_gfDouble_xor]
    split
    · ac_rfl
    · simp

theorem gfMul_xor (a b c : Byte) : gfMul (a ^^^ b) c = gfMul a c ^^^ gfMul b c := gfMulBits_xor a b c 8

theorem gfMul_zero (c : Byte) : gfMul 0 c = 0 := by
  have h := gfMul_xor 0 0 c
  rwa [BitVec.xor_self, BitVec.xor_self] at h

/-- Two rows of bytes added, byte by byte. -/
def xorBytes (xs ys : List Byte) : List Byte := List.zipWith (· ^^^ ·) xs ys

theorem xorBytes_eq_zero_iff {xs ys : List Byte} (h : xs.length = ys.length) :
    xorBytes xs ys = List.replicate ys.length 0 ↔ xs = ys := by
  induction xs generalizing ys with
  | nil => cases ys <;> simp_all [xorBytes]
  | cons x xs ih =>
    cases ys with
    | nil => simp at h
    | cons y ys =>
      have ih := ih (ys := ys) (by simpa using h)
      rw [xorBytes] at ih ⊢
      rw [List.zipWith_cons_cons, List.length_cons, List.replicate_succ, List.cons.injEq, List.cons.injEq, ih]
      exact and_congr_left' BitVec.xor_eq_zero_iff

theorem xorBytes_zero_left {n : Nat} {ys : List Byte} (h : ys.length = n) : xorBytes (List.replicate n 0) ys = ys := by
  induction ys generalizing n with
  | nil => subst h; rfl
  | cons y ys ih =>
    subst h
    exact congrArg₂ List.cons (BitVec.zero_xor) (ih rfl)

theorem xorBytes_zero_right {n : Nat} {xs : List Byte} (h : xs.length = n) : xorBytes xs (List.replicate n 0) = xs := by
  rw [xorBytes, List.zipWith_comm_of_comm (fun a b => BitVec.xor_comm a b)]
  exact xorBytes_zero_left h

/-- One step of the division on a sum of rows. -/
theorem zipWith_gfMul_xor (h k : Byte) (xs ys gs : List Byte) :
    List.zipWith (fun x g => x ^^^ gfMul (h ^^^ k) g) (xorBytes xs ys) gs =
      xorBytes (List.zipWith (fun x g => x ^^^ gfMul h g) xs gs) (List.zipWith (fun x g => x ^^^ gfMul k g) ys gs) := by
  induction gs generalizing xs ys with
  | nil => simp [xorBytes]
  | cons g gs ih =>
    match xs, ys with
    | [], _ => rfl
    | _ :: _, [] => rfl
    | x :: xs, y :: ys =>
      refine congrArg₂ List.cons ?_ (ih xs ys)
      dsimp only
      rw [gfMul_xor]
      ac_rfl

theorem length_rsStep {r : List Byte} (d : Byte) (h : r.length = 8) : (rsStep r d).length = 8 := by
  match r with
  | x :: t =>
    have hg : (rsGenerator.drop 1).length = 8 := rfl
    rw [rsStep, List.length_zipWith, hg, List.length_append]
    simp at h ⊢
    omega

theorem rsStep_xor {r q : List Byte} (c d : Byte) (h : r.length = q.length) :
    rsStep (xorBytes r q) (c ^^^ d) = xorBytes (rsStep r c) (rsStep q d) := by
  match r, q with
  | [], [] => rfl
  | x :: r, y :: q =>
    have happ : xorBytes r q ++ [c ^^^ d] = xorBytes (r ++ [c]) (q ++ [d]) :=
      (List.zipWith_append (f := (· ^^^ · : Byte → Byte → Byte)) (l₁' := [c]) (l₂' := [d]) (Nat.succ.inj h)).symm
    change List.zipWith _ (xorBytes r q ++ [c ^^^ d]) _ = _
    rw [happ]
    exact zipWith_gfMul_xor ..

theorem length_foldl_rsStep (ds : List Byte) {r : List Byte} (h : r.length = 8) : (ds.foldl rsStep r).length = 8 := by
  induction ds generalizing r with
  | nil => exact h
  | cons d ds ih => exact ih (length_rsStep d h)

/-- The division of a sum, from the sum of two remainders, leaves the sum of what it leaves of each. -/
theorem foldl_rsStep_xor {ds es r q : List Byte} (hd : ds.length = es.length) (hr : r.length = 8) (hq : q.length = 8) :
    (xorBytes ds es).foldl rsStep (xorBytes r q) = xorBytes (ds.foldl rsStep r) (es.foldl rsStep q) := by
  induction ds generalizing es r q with
  | nil => rw [List.length_eq_zero_iff.mp hd.symm]; rfl
  | cons d ds ih =>
    match es with
    | e :: es =>
      change (xorBytes ds es).foldl rsStep (rsStep (xorBytes r q) (d ^^^ e)) = _
      rw [rsStep_xor d e (hr.trans hq.symm)]
      exact ih (Nat.succ.inj hd) (length_rsStep d hr) (length_rsStep e hq)

/-! ### Codewords -/

theorem zipWith_gfMul_zero {xs gs : List Byte} (h : xs.length = gs.length) :
    List.zipWith (fun x g => x ^^^ gfMul 0 g) xs gs = xs := by
  induction xs generalizing gs with
  | nil => rfl
  | cons x xs ih =>
    match gs with
    | g :: gs => exact congrArg₂ List.cons ((congrArg (x ^^^ ·) (gfMul_zero g)).trans BitVec.xor_zero) (ih (Nat.succ.inj h))

/-- While the leading coefficient is 0 the division only shifts. -/
theorem rsStep_zero {t : List Byte} (d : Byte) (h : t.length = 7) : rsStep (0 :: t) d = t ++ [d] := by
  have hg : (rsGenerator.drop 1).length = 8 := rfl
  exact zipWith_gfMul_zero (by rw [hg, List.length_append, h]; rfl)

theorem foldl_rsStep_zeros (ds xs : List Byte) (h : ds.length + xs.length = 8) :
    ds.foldl rsStep (List.replicate ds.length 0 ++ xs) = xs ++ ds := by
  induction ds generalizing xs with
  | nil => exact (List.append_nil xs).symm
  | cons d ds ih =>
    have hlen : (List.replicate ds.length (0 : Byte) ++ xs).length = 7 := by
      rw [List.length_append, List.length_replicate]
      exact Nat.succ.inj ((Nat.succ_add ..).symm.trans h)
    rw [List.foldl_cons, List.length_cons, List.replicate_succ, List.cons_append, rsStep_zero d hlen, List.append_assoc,
      ih (xs ++ [d]) (by rw [List.length_append]; exact (Nat.add_right_comm ..).symm.trans h), List.append_assoc]
    rfl

/-- Eight bytes are their own remainder: their polynomial's degree is below 8. -/
theorem rsRemainder_eight {bs : List Byte} (h : bs.length = 8) : rsRemainder bs = bs := by
  have hfold := foldl_rsStep_zeros bs [] h
  rwa [h, List.append_nil] at hfold

theorem rsRemainder_zeros (n : Nat) : rsRemainder (List.replicate n 0) = List.replicate 8 0 := by
  induction n with
  | zero => rfl
  | succ n ih =>
    rw [List.replicate_succ, rsRemainder, List.foldl_cons]
    rw [show List.replicate 8 (0 : Byte) = 0 :: List.replicate 7 0 from rfl, rsStep_zero 0 (List.length_replicate ..)]
    exact ih

theorem length_checkBytes (data : List Byte) : (checkBytes data).length = 8 :=
  length_foldl_rsStep (data ++ List.replicate 8 0) rfl

/-- What data followed by any eight bytes leave: the check bytes added to those eight. -/
theorem rsRemainder_append (data : List Byte) {other : List Byte} (h : other.length = 8) :
    rsRemainder (data ++ other) = xorBytes (checkBytes data) other := by
  have hr : (data.foldl rsStep (List.replicate 8 0)).length = 8 := length_foldl_rsStep data rfl
  calc rsRemainder (data ++ other)
      = other.foldl rsStep (data.foldl rsStep (List.replicate 8 0)) := List.foldl_append
    _ = (xorBytes (List.replicate 8 0) other).foldl rsStep
          (xorBytes (data.foldl rsStep (List.replicate 8 0)) (List.replicate 8 0)) := by
        rw [xorBytes_zero_left h, xorBytes_zero_right hr]
    _ = xorBytes ((List.replicate 8 0).foldl rsStep (data.foldl rsStep (List.replicate 8 0))) (rsRemainder other) :=
        foldl_rsStep_xor (by rw [h]; rfl) hr rfl
    _ = xorBytes (checkBytes data) other := by rw [rsRemainder_eight h, checkBytes, rsRemainder, List.foldl_append]

theorem isCodeword_append_iff {data other : List Byte} (hd : data.length = 32) (h : other.length = 8) :
    isCodeword (data ++ other) = true ↔ other = checkBytes data := by
  have hzero : List.replicate 8 (0 : Byte) = List.replicate other.length 0 := by rw [h]
  rw [isCodeword, rsRemainder_append data h, List.length_append, hd, h, Bool.and_eq_true, beq_iff_eq, beq_iff_eq, hzero,
    xorBytes_eq_zero_iff ((length_checkBytes data).trans h.symm)]
  exact ⟨fun p => p.2.symm, fun p => ⟨rfl, p.symm⟩⟩

/-! ### The bits that the array stores -/

theorem ofNat_natLE_div (bs : List Byte) (j : Nat) : BitVec.ofNat 8 (natLE bs / 2 ^ (8 * j)) = nthD 0 bs j := by
  induction bs generalizing j with
  | nil => simp [natLE, nthD]
  | cons b bs ih =>
    cases j with
    | zero =>
      apply BitVec.eq_of_toNat_eq
      have hb := b.isLt
      simp only [natLE, nthD, BitVec.toNat_ofNat]
      omega
    | succ j =>
      rw [show 8 * (j + 1) = 8 + 8 * j by omega, Nat.pow_add, ← Nat.div_div_eq_div_mul, nthD, ← ih j, natLE]
      have hb := b.isLt
      congr 2
      omega

theorem codewordBits_byte (data : List Byte) {j : Nat} (hj : j < 40) :
    (codewordBits data).extractLsb' (8 * j) 8 = nthD 0 (data ++ checkBytes data) j := by
  rw [← ofNat_natLE_div]
  apply BitVec.eq_of_getLsbD_eq
  intro i hi
  rw [codewordBits, BitVec.getLsbD_extractLsb', BitVec.getLsbD_ofNat, BitVec.getLsbD_ofNat, Nat.testBit_div_two_pow]
  simp only [hi, decide_true, Bool.true_and]
  rw [decide_eq_true (by omega : 8 * j + i < 320), Bool.true_and, Nat.add_comm]

/-- Settles O37: eight bytes after 32 data bytes make a codeword just where they are the check bytes, and the stored bits are these
40 bytes in order. -/
theorem checkBytesMakeCodewords : Obligations.CheckBytesMakeCodewords := by
  unfold Obligations.CheckBytesMakeCodewords
  refine ⟨rsRemainder_zeros 40, fun data hd => ⟨?_, length_checkBytes data, fun j hj => ?_, fun j hj => ?_, fun other h hc => ?_⟩⟩
  · exact (isCodeword_append_iff hd (length_checkBytes data)).mpr rfl
  · rw [codewordBits_byte data (by omega), nthD_eq_getD, nthD_eq_getD, List.getD_append _ _ _ _ (by omega)]
  · rw [show 256 + 8 * j = 8 * (32 + j) by omega, codewordBits_byte data (by omega), nthD_eq_getD, nthD_eq_getD,
      List.getD_append_right _ _ _ _ (by omega), hd, Nat.add_sub_cancel_left]
  · exact (isCodeword_append_iff hd h).mp hc

end Sys2Proof.Machine
end

section
/-! PROOFS. How an instruction of a Luestox unit completes: legality, the frame of what it reads and writes, and the words of a T
unit's memory (R90, R361-R371). -/

namespace Sys2Proof.Machine

/-! ### Legality (R361, R364, R365, R369) -/

theorem LuxOp.on_engine (o : LuxOp) {u : Nat} (hu : u < 64) : o.on u = o.ae := by
  rw [LuxOp.on, unitKind, if_pos hu]

theorem LuxOp.on_dsp (o : LuxOp) {u : Nat} (h : 64 ≤ u) (hu : u < 80) : o.on u = o.dsp := by
  rw [LuxOp.on, unitKind, if_neg (by omega), if_pos hu]

theorem LuxOp.on_tUnit (o : LuxOp) {u : Nat} (hu : u < 80) (ha : o.ae = true) (hd : o.dsp = true) : o.on u = true := by
  rcases Nat.lt_or_ge u 64 with h | h
  · rw [o.on_engine h, ha]
  · rw [o.on_dsp h hu, hd]

theorem LuxOp.legal_of_fits {o : LuxOp} {u : Nat} {f : Fields} {x : Lux} (hon : o.on u = true) (hfits : o.uses.fits f = true)
    (hco : o.coissueOk u f x = true) : o.legal u f x = true := by
  rw [LuxOp.legal, hon, hfits, hco]
  rfl

/-- An instruction that is never co-issued may stand anywhere. -/
theorem LuxOp.coissueOk_of_not {o : LuxOp} (h : o.coissue = false) (u : Nat) (f : Fields) (x : Lux) : o.coissueOk u f x = true := by
  rw [LuxOp.coissueOk, h]
  rfl

/-- P is the top bit of F. -/
theorem Fields.p_eq {f : Fields} (h : f.f < 16) : f.p = decide (8 ≤ f.f) := by
  have hall : ∀ n < 16, Nat.testBit n 3 = decide (8 ≤ n) := by decide
  exact hall f.f h

/-- An immediate below 2^n has no bit outside the mask of its `n` low bits (R364). -/
theorem Word.and_not_mask {w : Word} {n : Nat} (h : w.toNat < 2 ^ n) : w &&& ~~~(BitVec.ofNat 32 (2 ^ n - 1)) = 0 := by
  apply BitVec.eq_of_getLsbD_eq
  intro i hi
  rw [BitVec.getLsbD_and, BitVec.getLsbD_not, BitVec.getLsbD_ofNat, Nat.testBit_two_pow_sub_one]
  rcases Nat.lt_or_ge i n with hin | hin
  · simp [hi, hin]
  · have hbit : w.getLsbD i = false := Nat.testBit_lt_two_pow (Nat.lt_of_lt_of_le h (Nat.pow_le_pow_right (by omega) hin))
    simp [hbit]

/-! ### What an instruction leaves alone -/

section
variable {s t r : State} {u : Nat}

theorem State.onlyUnit_refl (s : State) (u : Nat) : s.onlyUnit s u := ⟨fun _ _ => rfl, rfl⟩

theorem State.onlyUnit_setLux (h : s.onlyUnit t u) (x : Lux) : s.onlyUnit (t.setLux u x) u := by
  refine ⟨fun v hv => ?_, h.2⟩
  rw [State.lux_setLux, if_neg hv]
  exact h.1 v hv

theorem State.unitReads_same (s : State) (u : Nat) (ws : List Nat) : s.sameBesideCounts (s.unitReads u ws) := s.correct_same ..

theorem State.onlyUnit_unitReads (h : s.onlyUnit t u) (ws : List Nat) : s.onlyUnit (t.unitReads u ws) u :=
  State.onlyUnit_counted h (t.unitReads_same u ws)

theorem State.onlyUnit.unitAndMemory (h : s.onlyUnit t u) : s.unitAndMemory t u :=
  ⟨h.1, congrArg (fun z : State => { z with mem := s.mem, bad := s.bad, badSeen := s.badSeen, wrong := s.wrong }) h.2⟩

theorem State.unitAndMemory_setLux (h : s.unitAndMemory t u) (x : Lux) : s.unitAndMemory (t.setLux u x) u := by
  refine ⟨fun v hv => ?_, h.2⟩
  rw [State.lux_setLux, if_neg hv]
  exact h.1 v hv

theorem State.unitAndMemory_counted (h : s.unitAndMemory t u) (g : t.sameBesideCounts r) : s.unitAndMemory r u :=
  ⟨fun v hv => (State.sameBesideCounts_lux g v).trans (h.1 v hv),
    Eq.trans (congrArg (fun z : State => { z.memoryFrom s with units := s.units }) g) h.2⟩

theorem State.unitAndMemory_setUnitLine (h : s.unitAndMemory t u) (w : Nat) (l : Line) :
    s.unitAndMemory (t.setUnitLine u w l) u := h

theorem State.sameBesideCounts_bad (h : s.sameBesideCounts t) : t.bad = s.bad := (congrArg State.bad h :)

/-- An instruction that completes with `y` in its unit and nothing else changed but memory. -/
theorem State.luxStep_completes {o : LuxOp} {f : Fields} {y : Lux} {cost : Nat} (ha : s.unitReady u = true)
    (hl : o.legal u f (s.lux u) = true) (hr : o.run u f s = .done t) (hy : t.lux u = y)
    (hc : (if o.coissue && f.p then 0 else o.cost f) = cost) (hplace : (s.lux u).inPlace y = y) :
    s.executes (s.luxStep u o f) u cost y ∧ (s.luxStep u o f).mem = t.mem ∧ (s.luxStep u o f).bad = t.bad ∧
      (s.onlyUnit t u → s.onlyUnit (s.luxStep u o f) u) ∧ (s.unitAndMemory t u → s.unitAndMemory (s.luxStep u o f) u) := by
  obtain ⟨mac, h⟩ := State.luxStep_done s t u o f ha hl hr
  exact ⟨s.luxStep_executes t u cost o f y ha hl hr hy hc hplace,
    (State.sameBesideCounts_mem h).trans (State.setLux_mem ..), (State.sameBesideCounts_bad h).trans (State.setLux_bad ..),
    fun g => State.onlyUnit_counted (State.onlyUnit_setLux g _) h,
    fun g => State.unitAndMemory_counted (State.unitAndMemory_setLux g _) h⟩

end

/-! ### Registers written: what else a unit holds stays in place -/

theorem Lux.inPlace_postModify {x y : Lux} (h : x.inPlace y = y) (u : Nat) (f : Fields) :
    x.inPlace (y.postModify u f) = y.postModify u f := by
  unfold Lux.postModify Lux.setX
  split
  · split
    · exact h
    · exact congrArg (fun z : Lux => { z with xr := Tab.put 0 y.xr f.x ((y.x f.x + f.inc) % 2 ^ xWidth u).toNat }) h
  · exact h

/-- An instruction of an axis engine that touches no memory (R379-R382). -/
theorem State.luxStep_aeOp (s : State) {u opc cost : Nat} {uses : Uses} {h : Fields → Lux → Lux} {f : Fields} {y : Lux}
    (ha : s.unitReady u = true) (hu : u < 64) (hf : uses.fits f = true) (hy : h f (s.lux u) = y)
    (hplace : (s.lux u).inPlace y = y) :
    s.onlyUnit (s.luxStep u (aeOp opc uses cost h) f) u ∧ s.executes (s.luxStep u (aeOp opc uses cost h) f) u cost y := by
  have hl : (aeOp opc uses cost h).legal u f (s.lux u) = true :=
    LuxOp.legal_of_fits (LuxOp.on_engine _ hu) hf (LuxOp.coissueOk_of_not rfl ..)
  obtain ⟨hexec, -, -, honly, -⟩ := State.luxStep_completes (t := s.setLux u (h f (s.lux u))) (cost := cost) ha hl rfl
    ((State.lux_setLux ..).trans (if_pos rfl)) rfl (by rw [hy]; exact hplace)
  rw [← hy]
  exact ⟨honly (State.onlyUnit_setLux (s.onlyUnit_refl u) _), hexec⟩

/-! ### A word of memory as eight lanes (R90, R108) -/

/-- Two vectors that agree lane by lane. -/
theorem Lanes.gen_congr {α : Type} {f g : Nat → α} (h : ∀ k, k < 8 → f k = g k) : Lanes.gen f = Lanes.gen g := by
  unfold Lanes.gen
  rw [h 0, h 1, h 2, h 3, h 4, h 5, h 6, h 7] <;> decide

theorem Lanes.gen_get {α : Type} (v : Lanes α) : Lanes.gen v.get = v := rfl

theorem length_lineBytes (l : Line) : (lineBytes l).length = 32 := rfl

/-- The four bytes of a register word, least significant first. -/
theorem Word.ofNat_bytes (w : Word) : BitVec.ofNat 8 (w.toNat / 256 / 256 / 256) ++ BitVec.ofNat 8 (w.toNat / 256 / 256) ++
    BitVec.ofNat 8 (w.toNat / 256) ++ BitVec.ofNat 8 w.toNat = w := by
  apply BitVec.eq_of_toNat_eq
  have hw := w.isLt
  simp only [BitVec.toNat_append, BitVec.toNat_ofNat, Nat.shiftLeft_eq]
  rw [← Nat.shiftLeft_eq, ← Nat.shiftLeft_eq, ← Nat.shiftLeft_eq, ← Nat.shiftLeft_add_eq_or_of_lt (by omega),
    ← Nat.shiftLeft_add_eq_or_of_lt (by omega), ← Nat.shiftLeft_add_eq_or_of_lt (by omega)]
  simp only [Nat.shiftLeft_eq]
  omega

theorem Mem.word_setBytes (m : Mem) {a k : Nat} (bs : List Byte) (h : k + 4 ≤ bs.length) : (m.setBytes a bs).word (a + k) =
    nthD 0 bs (k + 3) ++ nthD 0 bs (k + 2) ++ nthD 0 bs (k + 1) ++ nthD 0 bs k := by
  have hbyte {j : Nat} (hj : j < bs.length) : (m.setBytes a bs).byte (a + j) = nthD 0 bs j := by
    rw [Mem.byte_setBytes, if_pos (by omega), Nat.add_sub_cancel_left]
  simp only [Mem.word, Nat.add_assoc]
  rw [hbyte (by omega), hbyte (by omega), hbyte (by omega), hbyte (by omega)]

/-- The word stored is the word read. -/
theorem Mem.line_setBytes (m : Mem) (a : Nat) (l : Line) : (m.setBytes a (lineBytes l)).line a = l := by
  refine (Lanes.gen_congr fun k hk => ?_).trans (Lanes.gen_get l)
  rw [m.word_setBytes (lineBytes l) (by rw [length_lineBytes]; omega)]
  match k, hk with
  | 0, _ => exact Word.ofNat_bytes l.l0
  | 1, _ => exact Word.ofNat_bytes l.l1
  | 2, _ => exact Word.ofNat_bytes l.l2
  | 3, _ => exact Word.ofNat_bytes l.l3
  | 4, _ => exact Word.ofNat_bytes l.l4
  | 5, _ => exact Word.ofNat_bytes l.l5
  | 6, _ => exact Word.ofNat_bytes l.l6
  | 7, _ => exact Word.ofNat_bytes l.l7

theorem Mem.line_congr {m m' : Mem} {a : Nat} (h : ∀ x, a ≤ x → x < a + 32 → m.byte x = m'.byte x) : m.line a = m'.line a := by
  refine Lanes.gen_congr fun k hk => ?_
  rw [Mem.word, Mem.word, h _ (by omega) (by omega), h _ (by omega) (by omega), h _ (by omega) (by omega),
    h (a + 4 * k) (by omega) (by omega)]

/-! ### The words of a T unit's memory (R359, R367) -/

theorem wordOf_unitAddr (u w : Nat) : wordOf (unitAddr u w) = unitAddr u w := by
  unfold wordOf unitAddr opAddr
  split <;> omega

theorem unitAddr_add (u w k : Nat) : unitAddr u (w + k) = unitAddr u w + 32 * k := by
  unfold unitAddr opAddr
  split <;> omega

theorem State.unitLine_of_mem {s t : State} (h : t.mem = s.mem) (u w : Nat) : t.unitLine u w = s.unitLine u w :=
  congrArg (fun m : Mem => m.line (unitAddr u w)) h

theorem State.unitLine_setUnitLine (s : State) (u w : Nat) (l : Line) : (s.setUnitLine u w l).unitLine u w = l :=
  Mem.line_setBytes s.mem (unitAddr u w) l

theorem State.unitLine_setUnitLine_ne (s : State) (u : Nat) {w v : Nat} (l : Line) (h : v ≠ w) :
    (s.setUnitLine u w l).unitLine u v = s.unitLine u v := by
  refine Mem.line_congr fun x h1 h2 => Mem.byte_setBytes_out _ _ _ _ ?_
  rw [length_lineBytes]
  have hv := unitAddr_add u 0 v
  have hw := unitAddr_add u 0 w
  rw [Nat.zero_add] at hv hw
  omega

theorem State.memorySame_setUnitLine (s : State) (u w : Nat) (l : Line) : s.memorySame (s.setUnitLine u w l) (unitAddr u w) 32 :=
  s.store'_memorySame (unitAddr u w) (lineBytes l)

/-- A word that is stored whole decodes (R110). -/
theorem State.unitBad_setUnitLine (s : State) (u w : Nat) (l : Line) : (s.setUnitLine u w l).unitBad u w = false := by
  have hwords : wordsOf (unitAddr u w) 32 = [unitAddr u w] := by rw [← wordOf_unitAddr, wordsOf_wordOf]
  have hbad : (s.setUnitLine u w l).bad =
      if s.bad.isEmpty then s.bad else s.bad.filter (fun v => !(wordsOf (unitAddr u w) 32).contains v) := rfl
  rw [State.unitBad, State.undecodable, wordOf_unitAddr, hbad, hwords, List.contains_eq_mem, decide_eq_false_iff_not]
  split
  next h => rw [List.isEmpty_iff.mp h]; exact List.not_mem_nil
  · simp

/-! ### The memory operand (R367) -/

theorem Lux.ea_of_names {x : Lux} {u w : Nat} {f : Fields} (h : x.names u f w) : x.ea u f = some w := by
  obtain ⟨-, hm, -, hw, hlt⟩ := h
  have hmem : (w : Int) < unitWords u := by
    unfold unitWords
    split at hlt <;> split <;> omega
  rw [Lux.ea, if_pos hm, inMemory, Fields.off, ← hw, if_pos ⟨Int.natCast_nonneg w, hmem⟩]
  rfl

end Sys2Proof.Machine
end

section
/-! PROOFS. LDV, STV, LDS, STS and SELLD (R90, R367-R369, R378). -/

namespace Sys2Proof.Machine

/-! ### Legality -/

/-- A co-issued access stands directly after a MACB or MACE of an axis engine (R369). -/
theorem LuxOp.coissueOk_of {o : LuxOp} {u : Nat} {f : Fields} {x : Lux}
    (h : f.f < 8 ∨ (f.f < 16 ∧ u < 64 ∧ x.mac = true)) : o.coissueOk u f x = true := by
  unfold LuxOp.coissueOk
  rcases h with h | ⟨-, hu, hmac⟩
  · rw [Fields.p_eq (by omega), decide_eq_false (by omega), Bool.and_false]
    rfl
  · rw [hmac, unitKind, if_pos hu]
    exact Bool.or_true _

/-- What a co-issued access costs. -/
theorem LuxOp.coissue_cost {o : LuxOp} {f : Fields} (h : o.coissue = true) (hf : f.f < 16) (h1 : o.cost f = 1) :
    (if o.coissue && f.p then 0 else o.cost f) = if f.f < 8 then 1 else 0 := by
  rw [h, Bool.true_and, Fields.p_eq hf, h1]
  by_cases h8 : f.f < 8
  · rw [if_pos h8, if_neg (by simp; omega)]
  · rw [if_neg h8, if_pos (by simp; omega)]

/-- An instruction whose memory operand is named and whose other fields are in range. -/
theorem Uses.fits_of_names {d b : Cls} {mask : Nat} {x : Lux} {u w : Nat} {f : Fields} (h : x.names u f w) (hd : f.d < d.limit)
    (ha : f.a = 0) (hb : f.b < b.limit) (hF : within f.f mask = true) (h16 : f.f < 16) :
    Uses.fits { d := d, b := b, ea := true, f := mask } f = true := by
  obtain ⟨hx, hm, himm, -, -⟩ := h
  have heq : f.imm &&& ~~~(eaImm f.m) = 0 := himm
  have hnone : Cls.none.limit = 1 := rfl
  have hm3 : f.m < 3 := by omega
  simp [Uses.fits, hd, ha, hb, hx, hm3, hF, h16, heq, hnone]

theorem within_eight {n : Nat} (h : n < 16) (h8 : n % 8 = 0) : within n 8 = true := by
  rcases (by omega : n = 0 ∨ n = 8) with rfl | rfl
  · rfl
  · rfl

theorem within_low {n k : Nat} (h : n < 2 ^ k) : within n (2 ^ k - 1) = true := by
  rw [within, Nat.and_two_pow_sub_one_of_lt_two_pow h, beq_self_eq_true]

/-! ### What each does -/

section
variable {s : State} {u w : Nat} {f : Fields}

/-- A read of one word (R367). -/
theorem State.withLine_reads {h : Line → Lux → Lux} (hw : (s.lux u).names u f w) (hb : s.unitBad u w = false) :
    s.withLine u f h = .done ((s.unitReads u [w]).setLux u ((h (s.unitLine u w) (s.lux u)).postModify u f)) := by
  rw [State.withLine, Lux.ea_of_names hw]
  dsimp only
  rw [hb]
  rfl

/-- An instruction that reads words of memory and writes the registers of its unit. -/
theorem State.luxStep_reading {o : LuxOp} {ws : List Nat} {y : Lux} {cost : Nat} (ha : s.unitReady u = true)
    (hl : o.legal u f (s.lux u) = true) (hr : o.run u f s = .done ((s.unitReads u ws).setLux u y))
    (hc : (if o.coissue && f.p then 0 else o.cost f) = cost) (hplace : (s.lux u).inPlace y = y) :
    s.executes (s.luxStep u o f) u cost y ∧ s.onlyUnit (s.luxStep u o f) u := by
  obtain ⟨hexec, -, -, honly, -⟩ := State.luxStep_completes ha hl hr ((State.lux_setLux ..).trans (if_pos rfl)) hc hplace
  exact ⟨hexec, honly (State.onlyUnit_setLux (State.onlyUnit_unitReads (s.onlyUnit_refl u) ws) y)⟩

/-- An instruction that stores one word of memory, after it may have read it, and writes the registers of its unit. -/
theorem State.luxStep_storing {o : LuxOp} {t : State} {l : Line} {y : Lux} {cost : Nat} (ha : s.unitReady u = true)
    (hl : o.legal u f (s.lux u) = true) (hsame : s.sameBesideCounts t)
    (hr : o.run u f s = .done ((t.setUnitLine u w l).setLux u y))
    (hc : (if o.coissue && f.p then 0 else o.cost f) = cost) (hplace : (s.lux u).inPlace y = y) :
    s.executes (s.luxStep u o f) u cost y ∧ (s.luxStep u o f).unitLine u w = l ∧ (s.luxStep u o f).unitBad u w = false ∧
      s.stored (s.luxStep u o f) u (unitAddr u w) 32 := by
  obtain ⟨hexec, hmem, hbad, -, hframe⟩ := State.luxStep_completes ha hl hr ((State.lux_setLux ..).trans (if_pos rfl)) hc hplace
  have hthere : s.unitAndMemory t u := (State.onlyUnit_counted (s.onlyUnit_refl u) hsame).unitAndMemory
  have hstore : s.memorySame (t.setUnitLine u w l) (unitAddr u w) 32 := by
    rw [State.memorySame, ← State.sameBesideCounts_mem hsame]
    exact t.memorySame_setUnitLine u w l
  refine ⟨hexec, (State.unitLine_of_mem hmem u w).trans (t.unitLine_setUnitLine u w l), ?_, ?_,
    hframe (State.unitAndMemory_setLux (State.unitAndMemory_setUnitLine hthere w l) y)⟩
  · rw [State.unitBad, State.undecodable, hbad]
    exact t.unitBad_setUnitLine u w l
  · rw [State.memorySame, hmem]
    exact hstore

theorem exec_ldv (s : State) (u : Nat) (f : Fields) : exec (.ldv u f) s = .next (s.luxStep u luxLdv f) := rfl
theorem exec_stv (s : State) (u : Nat) (f : Fields) : exec (.stv u f) s = .next (s.luxStep u luxStv f) := rfl
theorem exec_lds (s : State) (u : Nat) (f : Fields) : exec (.lds u f) s = .next (s.luxStep u luxLds f) := rfl
theorem exec_sts (s : State) (u : Nat) (f : Fields) : exec (.sts u f) s = .next (s.luxStep u luxSts f) := rfl
theorem exec_selld (s : State) (u : Nat) (f : Fields) : exec (.selld u f) s = .next (s.luxStep u luxSelld f) := rfl

theorem luxLdv_run (hw : (s.lux u).names u f w) (hb : s.unitBad u w = false) : luxLdv.run u f s =
    .done ((s.unitReads u [w]).setLux u (((s.lux u).setV f.d (stageOfLine (s.unitLine u w))).postModify u f)) :=
  State.withLine_reads (h := fun l x => x.setV f.d (stageOfLine l)) hw hb

theorem luxLds_run (hw : (s.lux u).names u f w) (hb : s.unitBad u w = false) : luxLds.run u f s =
    .done ((s.unitReads u [w]).setLux u (((s.lux u).setS f.d ((s.unitLine u w).get (f.f % 8))).postModify u f)) :=
  State.withLine_reads (h := fun l x => x.setS f.d (l.get (f.f % 8))) hw hb

theorem luxStv_run (hw : (s.lux u).names u f w) : luxStv.run u f s =
    .done ((s.setUnitLine u w (lineOfStage ((s.lux u).v f.d))).setLux u ((s.lux u).postModify u f)) := by
  dsimp only [luxStv]
  rw [Lux.ea_of_names hw]

theorem luxSts_run (hw : (s.lux u).names u f w) (hb : s.unitBad u w = false) (hf : f.f < 8) : luxSts.run u f s =
    .done (((s.unitReads u [w]).setUnitLine u w ((s.unitLine u w).set f.f ((s.lux u).s f.d))).setLux u
      ((s.lux u).postModify u f)) := by
  dsimp only [luxSts]
  rw [Lux.ea_of_names hw, Nat.mod_eq_of_lt hf]
  dsimp only
  rw [hb]
  rfl

/-- The selector that a word holds (R368). -/
theorem luxSelld_run (hw : (s.lux u).names u f w) (hb : s.unitBad u w = false) (h1 : 1 ≤ (s.unitLine u w).l1.bits 0 10)
    (h512 : (s.unitLine u w).l1.bits 0 10 ≤ 512) : luxSelld.run u f s = .done ((s.unitReads u [w]).setLux u
      ({ s.lux u with sel := ⟨(s.unitLine u w).l0.bits 0 13, (s.unitLine u w).l1.bits 0 10, (s.unitLine u w).l2.bits 0 4,
          (s.unitLine u w).l2.bits 4 4, (s.unitLine u w).l2.bits 8 8⟩ }.postModify u f)) := by
  dsimp only [luxSelld]
  rw [Lux.ea_of_names hw]
  dsimp only
  rw [hb, if_neg Bool.false_ne_true, if_neg (by omega)]

end

/-- Settles O10: each access completes at the word that its operand names. -/
theorem unitMemoryAccesses : Obligations.UnitMemoryAccesses := by
  unfold Obligations.UnitMemoryAccesses
  intro s u w f hready hw ha hb x cost coissue
  have hb1 : f.b < Cls.none.limit := by rw [hb]; decide
  have h16 (hco : coissue) : f.f < 16 := by rcases hco with h | h <;> omega
  refine ⟨fun hok hu hd h8 hco => ⟨_, exec_ldv s u f, ?_⟩, fun hok hu hd hco => ⟨_, exec_lds s u f, ?_⟩,
    fun hu hd h8 hco => ⟨_, exec_stv s u f, ?_⟩, fun hok hu hd hf => ⟨_, exec_sts s u f, ?_⟩,
    fun hok hu hd hf => ?_⟩
  · have hfits := Uses.fits_of_names (d := .v) (mask := 8) hw hd ha hb1 (within_eight (h16 hco) h8) (h16 hco)
    exact State.luxStep_reading hready (LuxOp.legal_of_fits (LuxOp.on_engine luxLdv hu) hfits (LuxOp.coissueOk_of hco))
      (luxLdv_run hw hok) (LuxOp.coissue_cost rfl (h16 hco) rfl) (Lux.inPlace_postModify rfl u f)
  · have hfits := Uses.fits_of_names (d := .s) (mask := 15) hw hd ha hb1 (within_low (k := 4) (h16 hco)) (h16 hco)
    exact State.luxStep_reading hready (LuxOp.legal_of_fits (luxLds.on_tUnit hu rfl rfl) hfits (LuxOp.coissueOk_of hco))
      (luxLds_run hw hok) (LuxOp.coissue_cost rfl (h16 hco) rfl) (Lux.inPlace_postModify rfl u f)
  · have hfits := Uses.fits_of_names (d := .v) (mask := 8) hw hd ha hb1 (within_eight (h16 hco) h8) (h16 hco)
    exact State.luxStep_storing hready (LuxOp.legal_of_fits (LuxOp.on_engine luxStv hu) hfits (LuxOp.coissueOk_of hco)) rfl
      (luxStv_run hw) (LuxOp.coissue_cost rfl (h16 hco) rfl) (Lux.inPlace_postModify rfl u f)
  · have hfits := Uses.fits_of_names (d := .s) (mask := 7) hw hd ha hb1 (within_low (k := 3) hf) (by omega)
    obtain ⟨hexec, hline, -, hstored⟩ := State.luxStep_storing hready (LuxOp.legal_of_fits (luxSts.on_tUnit hu rfl rfl) hfits
      (LuxOp.coissueOk_of_not rfl ..)) (s.unitReads_same u [w]) (luxSts_run hw hok hf) rfl (Lux.inPlace_postModify rfl u f)
    exact ⟨hexec, hline, hstored⟩
  · intro l h1 h512
    have hfits := Uses.fits_of_names (d := .none) (mask := 0) hw (by rw [hd]; decide) ha hb1 (by rw [hf]; rfl) (by omega)
    refine ⟨_, exec_selld s u f, And.symm ?_⟩
    exact State.luxStep_reading hready (LuxOp.legal_of_fits (LuxOp.on_engine luxSelld hu) hfits (LuxOp.coissueOk_of_not rfl ..))
      (luxSelld_run hw hok h1 h512) rfl (Lux.inPlace_postModify rfl u f)

end Sys2Proof.Machine
end

section
/-! PROOFS. MACB, MACE, MACR, MACRB, ADDA and MOVA (R93, R95-R97, R379). -/

namespace Sys2Proof.Machine

/-! ### Legality of an instruction without a memory operand (R364, R365) -/

theorem Uses.fits_plain {D A B : Cls} {F : Nat} {imm : Word} {f : Fields} (hd : f.d < D.limit) (ha : f.a < A.limit)
    (hb : f.b < B.limit) (hx : f.x = 0) (hm : f.m = 0) (hF : within f.f F = true) (h16 : f.f < 16) (himm : f.imm &&& ~~~imm = 0) :
    Uses.fits { d := D, a := A, b := B, f := F, imm := imm } f = true := by
  simp [Uses.fits, hd, ha, hb, hx, hm, hF, h16, himm]

theorem Uses.fits_literal {D A B : Cls} {F d a b n : Nat} {imm i : Word} (hd : d < D.limit) (ha : a < A.limit) (hb : b < B.limit)
    (hF : within n F = true) (hn : n < 16) (hi : i &&& ~~~imm = 0) :
    Uses.fits { d := D, a := A, b := B, f := F, imm := imm } ⟨d, a, b, 0, 0, n, i⟩ = true :=
  Uses.fits_plain hd ha hb rfl rfl hF hn hi

/-- The low bits of a word that has no others are the whole word. -/
theorem Word.bits_low {w : Word} {n : Nat} (h : w.toNat < 2 ^ n) : w.bits 0 n = w.toNat := by
  rw [Word.bits, Nat.pow_zero, Nat.div_one, Nat.mod_eq_of_lt h]

/-! ### Flags raised (R370) -/

theorem Events.flg_ovf (b : Bool) : Events.flg { ovf := b } = if b then 2 else 0 := by cases b <;> rfl

theorem Lux.raise_ovf (x : Lux) (b : Bool) : x.raise { ovf := b } = { x with flg := x.flg ||| (if b then 2 else 0) } := by
  rw [Lux.raise, Events.flg_ovf]

/-! ### Accumulation (R96, R97) -/

/-- An accumulation raises at most OVF, in the flags as they stood. -/
theorem Lux.accumulate_add {x : Lux} {f : Fields} (h : f.c = false) (p : Lanes Int) (e : Int) :
    let r := accAdd (x.acc f.d) (if f.n then p.map (fun y => -y) else p) e
    x.accumulate f p e = { x.setAcc f.d r.1 with flg := x.flg ||| (if r.2.ovf then 2 else 0) } := by
  intro r
  rw [Lux.accumulate]
  dsimp only
  rw [h, if_neg Bool.false_ne_true]
  exact Lux.raise_ovf (x.setAcc f.d r.1) _

theorem Lux.accumulate_clear {x : Lux} {f : Fields} (h : f.c = true) (p : Lanes Int) (e : Int) :
    x.accumulate f p e = x.setAcc f.d (accClear (if f.n then p.map (fun y => -y) else p) e) := by
  rw [Lux.accumulate]
  dsimp only
  rw [if_pos h]

theorem Lux.inPlace_accumulate (x : Lux) (f : Fields) (p : Lanes Int) (e : Int) :
    x.inPlace (x.accumulate f p e) = x.accumulate f p e := by
  cases h : f.c
  · rw [Lux.accumulate_add h]; rfl
  · rw [Lux.accumulate_clear h]; rfl

/-- The negation of an accumulator lane, of which only the most negative one saturates. -/
theorem satAcc_neg (y : BitVec 56) : satAcc (-y.toInt) =
    (if y = BitVec.intMin 56 then BitVec.intMax 56 else -y, decide (y = BitVec.intMin 56)) := by
  have hrange : -(2 ^ 55) ≤ y.toInt ∧ y.toInt < 2 ^ 55 := ⟨BitVec.le_toInt y, BitVec.toInt_lt⟩
  by_cases h : y = BitVec.intMin 56
  · subst h; decide
  · have hne : y.toInt ≠ -(2 ^ 55) := fun hy => h (BitVec.eq_of_toInt_eq hy)
    have hin : satBits 56 (-y.toInt) = (-y.toInt, false) := by
      rw [satBits, if_neg (by omega), if_neg (by omega)]
    rw [if_neg h, decide_eq_false h, satAcc, hin]
    exact congrArg (·, false) ((BitVec.ofInt_neg ..).trans (congrArg _ BitVec.ofInt_toInt))

/-! ### The coefficient operand (R92, R93) -/

/-- A MAC with a coefficient operand reads it and enters it into its accumulator. -/
theorem State.coefWord_reads {s : State} {u : Nat} {f : Fields} {c : Stage} (h : Stage → Lux → Lux) (hu : u < 64)
    (hc : s.readsCoef u f c) : ∃ ws, s.coefWord u f h = .done ((s.unitReads u ws).setLux u ((h c (s.lux u)).postModify u f)) := by
  rcases hc with ⟨w, hw, hb, rfl⟩ | ⟨hm, -, -, a, b, ha, hb, hae, hbe, hba, hbb, rfl⟩
  · have hm : f.m ≠ 2 := Nat.ne_of_lt hw.2.1
    rw [State.coefWord, if_neg hm]
    exact ⟨[w], State.withLine_reads (h := fun l x => h (stageOfLine l) x) hw hb⟩
  · have hwords : unitWords u = 8192 := if_pos hu
    have hin {k : Int} {n : Nat} (hk : (n : Int) = k) (hn : n < 8192) : inMemory u k = some n := by
      rw [inMemory, ← hk, hwords, if_pos (by omega)]
      rfl
    have hpost (x : Lux) : x.postModify u f = x := if_neg (by omega)
    refine ⟨[a, b], ?_⟩
    rw [State.coefWord, if_pos hm]
    dsimp only [Fields.off]
    rw [hin (hae.trans (Int.add_assoc ..)) ha, hin (hbe.trans (Int.add_assoc ..)) hb, hpost]
    dsimp only
    rw [hba, hbb]
    rfl

theorem Uses.fits_of_readsCoef {b : Cls} {s : State} {u : Nat} {f : Fields} {c : Stage} (hc : s.readsCoef u f c) (hd : f.d < 8)
    (ha : f.a < 32) (hb : f.b < b.limit) (hF : f.f < 4) : (macUses b).fits f = true := by
  have hw := within_low (k := 2) hF
  have hv : Cls.v.limit = 32 := rfl
  have hacc : Cls.acc.limit = 8 := rfl
  have hop : f.x < 8 ∧ f.m < 3 ∧ f.imm &&& ~~~(eaImm f.m) = 0 := by
    rcases hc with ⟨w, ⟨hx, hm, himm, -, -⟩, -, -⟩ | ⟨hm, hx, himm, -⟩
    · exact ⟨hx, by omega, himm⟩
    · rw [hm]
      exact ⟨hx, by omega, Word.and_not_mask (n := 14) himm⟩
  obtain ⟨hx, hm, himm⟩ := hop
  simp [Uses.fits, macUses, hv, hacc, hd, ha, hb, hx, hm, himm, show f.f < 16 by omega, show within f.f 3 = true from hw]

/-! ### The commands -/

theorem exec_macb (s : State) (u : Nat) (f : Fields) : exec (.macb u f) s = .next (s.luxStep u luxMacb f) := rfl
theorem exec_mace (s : State) (u : Nat) (f : Fields) : exec (.mace u f) s = .next (s.luxStep u luxMace f) := rfl
theorem exec_macr (s : State) (u : Nat) (f : Fields) : exec (.macr u f) s = .next (s.luxStep u luxMacr f) := rfl
theorem exec_macrb (s : State) (u : Nat) (f : Fields) : exec (.macrb u f) s = .next (s.luxStep u luxMacrb f) := rfl
theorem exec_adda (s : State) (u : Nat) (f : Fields) : exec (.adda u f) s = .next (s.luxStep u luxAdda f) := rfl
theorem exec_mova (s : State) (u : Nat) (f : Fields) : exec (.mova u f) s = .next (s.luxStep u luxMova f) := rfl

/-- MACB and MACE: a product with a coefficient operand, lane by lane. -/
theorem State.luxStep_mac {s : State} {u : Nat} {f : Fields} {c : Stage} {o : LuxOp} {b : Cls} {p : Stage → Stage → Lanes Int}
    (hready : s.unitReady u = true) (hu : u < 64) (hd : f.d < 8) (ha : f.a < 32) (hF : f.f < 4) (hc : s.readsCoef u f c)
    (hb : f.b < b.limit) (hon : o.ae = true) (hco : o.coissue = false) (huses : o.uses = macUses b)
    (hcost : o.cost f = if f.m = 2 then 2 else 1)
    (hrun : o.run u f s = s.coefWord u f (fun c x => x.accumulate f (p c (x.v f.a)) (c.e.toInt + (x.v f.a).e.toInt))) :
    s.onlyUnit (s.luxStep u o f) u ∧ s.executes (s.luxStep u o f) u (if f.m = 2 then 2 else 1)
      (((s.lux u).accumulate f (p c ((s.lux u).v f.a)) (c.e.toInt + ((s.lux u).v f.a).e.toInt)).postModify u f) := by
  have hfits : o.uses.fits f = true := by rw [huses]; exact Uses.fits_of_readsCoef hc hd ha hb hF
  obtain ⟨ws, hread⟩ := State.coefWord_reads
    (fun c x => x.accumulate f (p c (x.v f.a)) (c.e.toInt + (x.v f.a).e.toInt)) hu hc
  exact (State.luxStep_reading hready (LuxOp.legal_of_fits ((o.on_engine hu).trans hon) hfits (LuxOp.coissueOk_of_not hco ..))
    (hrun.trans hread) (by rw [hco, hcost]; rfl) (Lux.inPlace_postModify (Lux.inPlace_accumulate ..) u f)).symm

/-- MOVA with N: every lane negated, the most negative one to the largest value, with OVF. -/
theorem luxMova_negates (x : Lux) (d a : Nat) :
    (x.setAcc d { x.acc a with a := ((x.acc a).a.map (fun y => satAcc (-y.toInt))).map (·.1) }).raise
      { ovf := ((x.acc a).a.map (fun y => satAcc (-y.toInt))).toList.any (·.2) } =
    { x.setAcc d { x.acc a with a := (x.acc a).a.map (fun y => if y = BitVec.intMin 56 then BitVec.intMax 56 else -y) } with
      flg := x.flg ||| (if (x.acc a).a.toList.contains (BitVec.intMin 56) then 2 else 0) } := by
  have hany (l : Lanes (BitVec 56)) : ((l.map (fun y => satAcc (-y.toInt))).toList.any (·.2)) =
      l.toList.contains (BitVec.intMin 56) := by
    rw [List.contains_eq_any_beq]
    simp only [Lanes.map, Lanes.toList, List.any, satAcc_neg]
    simp [Bool.beq_eq_decide_eq, eq_comm]
  rw [Lux.raise_ovf, hany]
  simp only [Lanes.map, satAcc_neg]
  rfl

/-- Settles O11: a product enters its accumulator, or starts it with C, and MOVA negates lane by lane. -/
theorem macsAccumulate : Obligations.MacsAccumulate := by
  unfold Obligations.MacsAccumulate
  intro s u f hready hu hd x v e into
  have hinto (p : Lanes Int) (g : Int) : x.accumulate f p g = into p g := by
    cases hC : f.c
    · rw [Lux.accumulate_add hC]
      exact (if_neg (by rw [← Fields.c, hC]; exact Bool.false_ne_true)).symm
    · rw [Lux.accumulate_clear hC]
      exact (if_pos hC).symm
  have hwithin (hF : f.f < 4) : within f.f 3 = true := within_low (k := 2) hF
  have hplain (a : Nat) : ¬Fields.n ⟨f.d, a, 0, 0, 0, 0, 0⟩ = true := (by decide : ¬Nat.testBit 0 1 = true)
  have hnegates (a : Nat) : Fields.n ⟨f.d, a, 0, 0, 0, 2, 0⟩ = true := (by decide : Nat.testBit 2 1 = true)
  refine ⟨fun ha hF c hc => ⟨fun hb => ⟨_, exec_macb s u f, ?_⟩, fun hb => ⟨_, exec_mace s u f, ?_⟩⟩,
    fun ha hF hx hm => ⟨fun hb himm => ⟨_, exec_macr s u f, ?_⟩, fun hb himm => ⟨_, exec_macrb s u f, ?_⟩,
      fun hb himm => ⟨_, exec_adda s u f, ?_⟩⟩, fun a ha => ⟨⟨_, exec_mova s u _, ?_⟩, ⟨_, exec_mova s u _, ?_⟩⟩⟩
  · rw [← hinto]
    exact State.luxStep_mac (o := luxMacb) (b := .lane) (p := fun c v => c.m.map (fun k => prod k (v.m.get f.b))) hready hu hd ha hF
      hc hb rfl rfl rfl rfl rfl
  · rw [← hinto]
    exact State.luxStep_mac (o := luxMace) (b := .none) (p := fun c v => Lanes.zip prod c.m v.m) hready hu hd ha hF
      hc (by rw [hb]; decide) rfl rfl rfl rfl rfl
  · rw [← hinto]
    have hfits := Uses.fits_plain (D := .acc) (A := .v) (B := .v) (imm := 0) hd ha hb hx hm (hwithin hF) (by omega)
      (by rw [himm]; rfl)
    exact s.luxStep_aeOp hready hu hfits rfl (Lux.inPlace_accumulate ..)
  · have hlane : f.imm.bits 0 3 = f.imm.toNat := Word.bits_low (n := 3) himm
    rw [← hinto]
    have hfits := Uses.fits_plain (D := .acc) (A := .v) (B := .v) (imm := 7#32) hd ha hb hx hm (hwithin hF) (by omega)
      (Word.and_not_mask (n := 3) himm)
    exact s.luxStep_aeOp hready hu hfits (by rw [hlane]; rfl) (Lux.inPlace_accumulate ..)
  · rw [← hinto]
    have hfits := Uses.fits_plain (D := .acc) (A := .v) (B := .none) (imm := 0) hd ha (by rw [hb]; decide) hx hm (hwithin hF)
      (by omega) (by rw [himm]; rfl)
    exact s.luxStep_aeOp hready hu hfits rfl (Lux.inPlace_accumulate ..)
  · exact s.luxStep_aeOp hready hu (Uses.fits_literal (D := .acc) (A := .acc) (B := .none) (imm := 0) (n := 0) hd ha
      Nat.one_pos rfl (by decide) rfl) (if_neg (hplain a)) rfl
  · exact s.luxStep_aeOp hready hu (Uses.fits_literal (D := .acc) (A := .acc) (B := .none) (imm := 0) (n := 2) hd ha
      Nat.one_pos rfl (by decide) rfl) (Eq.trans (if_pos (hnegates a)) (luxMova_negates x f.d a)) rfl

end Sys2Proof.Machine
end

section
/-! PROOFS. FIXV, NORMV and the stage instructions (R98-R100, R380). -/

namespace Sys2Proof.Machine

/-! ### Saturation and flags (R98, R370) -/

theorem Lux.raise_sat (x : Lux) (b : Bool) : x.raise { sat := b } = { x with flg := x.flg ||| (if b then 1 else 0) } := by
  cases b <;> rfl

theorem Lux.raise_eclamp (x : Lux) (b : Bool) : x.raise { eclamp := b } = { x with flg := x.flg ||| (if b then 4 else 0) } := by
  cases b <;> rfl

/-- The flags of events among which there is no OVF. -/
theorem Lux.raise_of_not_ovf (x : Lux) {e : Events} (h : e.ovf = false) : x.raise e = { x with
    flg := x.flg ||| ((if e.sat then 1 else 0) ||| (if e.eclamp then 4 else 0) ||| (if e.zero then 8 else 0)) } := by
  obtain ⟨sat, ovf, eclamp, zero⟩ := e
  subst h
  cases sat <;> cases eclamp <;> cases zero <;> rfl

theorem satBits_mant (z : Int) : satBits 24 z =
    if z < -2 ^ 23 then (-2 ^ 23, true) else if 2 ^ 23 - 1 < z then (2 ^ 23 - 1, true) else (z, false) := rfl

/-- Saturation to a mantissa, and its event. -/
theorem sat24_eq (y : Int) : sat24 y =
    (if y < -2 ^ 23 then 0x800000 else if 2 ^ 23 ≤ y then 0x7FFFFF else BitVec.ofInt 24 y, decide (y < -2 ^ 23 ∨ 2 ^ 23 ≤ y)) := by
  unfold sat24
  rw [satBits_mant]
  by_cases hlow : y < -2 ^ 23
  · rw [if_pos hlow, if_pos hlow, decide_eq_true (Or.inl hlow)]
    rfl
  · by_cases hhigh : 2 ^ 23 ≤ y
    · have hover : 2 ^ 23 - 1 < y := by omega
      rw [if_neg hlow, if_pos hover, if_neg hlow, if_pos hhigh, decide_eq_true (Or.inr hhigh)]
      rfl
    · have hin : ¬2 ^ 23 - 1 < y := by omega
      rw [if_neg hlow, if_neg hin, if_neg hlow, if_neg hhigh, decide_eq_false (by omega)]
      rfl

/-- Saturation to an exponent, and its event. -/
theorem satBits_eight (n : Int) : satBits 8 n = (max (-128) (min 127 n), decide (n < -128 ∨ 127 < n)) := by
  have hbits : satBits 8 n = if n < -2 ^ 7 then (-2 ^ 7, true) else if 2 ^ 7 - 1 < n then (2 ^ 7 - 1, true) else (n, false) := rfl
  rw [hbits]
  by_cases hlow : n < -128
  · rw [if_pos (by omega), decide_eq_true (Or.inl hlow)]
    exact Prod.ext (by dsimp only; omega) rfl
  · by_cases hhigh : 127 < n
    · rw [if_neg (by omega), if_pos (by omega), decide_eq_true (Or.inr hhigh)]
      exact Prod.ext (by dsimp only; omega) rfl
    · rw [if_neg (by omega), if_neg (by omega), decide_eq_false (by omega)]
      exact Prod.ext (by dsimp only; omega) rfl

/-- A lane taken from one exponent to another (R98). -/
theorem shiftLane_sub (m i e : Int) : shiftLane m (i - e) = if e < i then shrRound m (i - e).toNat else m * 2 ^ (e - i).toNat := by
  unfold shiftLane
  by_cases h : e < i
  · rw [if_pos h, if_pos (by omega)]
  · rw [if_neg h, if_neg (by omega), Int.neg_sub]

/-- A normalising store raises no OVF (R100). -/
theorem storeNorm_ovf (a : Acc) : (storeNorm a).2.ovf = false := by
  unfold storeNorm
  dsimp only
  (repeat' split) <;> rfl

/-! ### The commands -/

theorem exec_vmov (s : State) (u : Nat) (f : Fields) : exec (.vmov u f) s = .next (s.luxStep u luxVmov f) := rfl
theorem exec_vzero (s : State) (u : Nat) (f : Fields) : exec (.vzero u f) s = .next (s.luxStep u luxVzero f) := rfl
theorem exec_vclamp (s : State) (u : Nat) (f : Fields) : exec (.vclamp u f) s = .next (s.luxStep u luxVclamp f) := rfl
theorem exec_vneg (s : State) (u : Nat) (f : Fields) : exec (.vneg u f) s = .next (s.luxStep u luxVneg f) := rfl
theorem exec_vexp (s : State) (u : Nat) (f : Fields) : exec (.vexp u f) s = .next (s.luxStep u luxVexp f) := rfl
theorem exec_vext (s : State) (u : Nat) (f : Fields) : exec (.vext u f) s = .next (s.luxStep u luxVext f) := rfl
theorem exec_vsel (s : State) (u : Nat) (f : Fields) : exec (.vsel u f) s = .next (s.luxStep u luxVsel f) := rfl
theorem exec_vins (s : State) (u : Nat) (f : Fields) : exec (.vins u f) s = .next (s.luxStep u luxVins f) := rfl
theorem exec_vsete (s : State) (u : Nat) (f : Fields) : exec (.vsete u f) s = .next (s.luxStep u luxVsete f) := rfl
theorem exec_vresc (s : State) (u : Nat) (f : Fields) : exec (.vresc u f) s = .next (s.luxStep u luxVresc f) := rfl
theorem exec_fixv (s : State) (u : Nat) (f : Fields) : exec (.fixv u f) s = .next (s.luxStep u luxFixv f) := rfl
theorem exec_normv (s : State) (u : Nat) (f : Fields) : exec (.normv u f) s = .next (s.luxStep u luxNormv f) := rfl

/-- Lanes saturated one by one into a stage register, with SAT where one saturated. -/
theorem Lux.setV_saturated (x : Lux) (d : Nat) (e : BitVec 8) (v : Lanes (BitVec 24)) (g : BitVec 24 → Int) :
    (x.setV d ⟨(v.map (fun m => sat24 (g m))).map (·.1), e⟩).raiseSat ((v.map (fun m => sat24 (g m))).toList.any (·.2)) =
    { x.setV d ⟨v.map (fun m => if g m < -2 ^ 23 then 0x800000 else if 2 ^ 23 ≤ g m then 0x7FFFFF
        else BitVec.ofInt 24 (g m)), e⟩ with
      flg := x.flg ||| (if v.toList.any (fun m => decide (g m < -2 ^ 23 ∨ 2 ^ 23 ≤ g m)) then 1 else 0) } := by
  rw [Lux.raiseSat, Lux.raise_sat]
  simp only [sat24_eq]
  rfl

/-- Settles O12, instruction by instruction. -/
theorem stagesCompute : Obligations.StagesCompute := by
  unfold Obligations.StagesCompute
  intro s u d a b imm hready hu hd ha hb x v w flags sat out half align top
  have hc0 (i : Word) : Fields.c ⟨d, a, 0, 0, 0, 0, i⟩ = false := (by decide : Nat.testBit 0 0 = false)
  have hc1 (i : Word) : Fields.c ⟨d, a, 0, 0, 0, 1, i⟩ = true := (by decide : Nat.testBit 1 0 = true)
  refine ⟨fun z hz => ?_, fun hd => ⟨_, exec_vexp s u _, ?_⟩, fun hd l hl => ⟨_, exec_vext s u _, ?_⟩,
    fun hi => ⟨_, exec_vsel s u _, ?_⟩, fun hi ha l hl => ?_, fun hi => ?_, fun ha => ?_⟩
  · have hVV {A B : Cls} {F n b : Nat} (hA : a < A.limit) (hB : b < B.limit) (hF : within n F = true) (hn : n < 16) :
        Uses.fits { d := .v, a := A, b := B, f := F } ⟨d, a, b, 0, 0, n, 0⟩ = true := Uses.fits_literal hd hA hB hF hn rfl
    simp only [List.mem_cons, List.not_mem_nil, or_false] at hz
    rcases hz with rfl | rfl | rfl | rfl | rfl
    · exact ⟨_, exec_vmov s u _, And.symm (s.luxStep_aeOp hready hu (hVV ha Nat.one_pos rfl (by decide)) rfl rfl)⟩
    · exact ⟨_, exec_vzero s u _, And.symm (s.luxStep_aeOp hready hu
        (Uses.fits_literal (A := .none) (B := .none) hd Nat.one_pos Nat.one_pos rfl (by decide) rfl) rfl rfl)⟩
    · exact ⟨_, exec_vclamp s u _, And.symm (s.luxStep_aeOp hready hu (hVV ha hb rfl (by decide)) rfl rfl)⟩
    · exact ⟨_, exec_vneg s u _, And.symm (s.luxStep_aeOp hready hu (hVV ha Nat.one_pos rfl (by decide))
        (by simp only [hc0, Bool.false_eq_true, if_false]; exact x.setV_saturated d v.e v.m (fun m => -m.toInt)) rfl)⟩
    · exact ⟨_, exec_vneg s u _, And.symm (s.luxStep_aeOp hready hu (hVV ha Nat.one_pos rfl (by decide))
        (by simp only [hc1, if_true]; exact x.setV_saturated d v.e v.m (fun m => m.toInt.natAbs)) rfl)⟩
  · exact s.luxStep_aeOp hready hu (Uses.fits_literal (B := .none) hd ha Nat.one_pos rfl (by decide) rfl) rfl rfl
  · have hlane : l % 8 = l := Nat.mod_eq_of_lt hl
    exact s.luxStep_aeOp hready hu (Uses.fits_literal (B := .none) hd ha Nat.one_pos (within_low (k := 3) hl) (by omega) rfl)
      (by dsimp only; rw [hlane]) rfl
  · have hmask : imm &&& ~~~0xF#32 = 0 := Word.and_not_mask (n := 4) hi
    have hlow : imm.bits 0 4 = imm.toNat := Word.bits_low hi
    exact s.luxStep_aeOp hready hu (Uses.fits_literal hd ha hb rfl (by decide) hmask) (by rw [hlow]; rfl) rfl
  · intro y
    have hmask : imm &&& ~~~0x1F#32 = 0 := Word.and_not_mask (n := 5) hi
    have hlow : imm.bits 0 5 = imm.toNat := Word.bits_low hi
    have hlane : l % 8 = l := Nat.mod_eq_of_lt hl
    refine ⟨_, exec_vins s u _, s.luxStep_aeOp hready hu (Uses.fits_literal (B := .none) hd ha Nat.one_pos (within_low (k := 3) hl)
      (by omega) hmask) ?_ rfl⟩
    dsimp only
    rw [hlow, hlane, sat24_eq]
    exact Lux.raise_sat ..
  · intro i n r
    have hmask : imm &&& ~~~0xFF#32 = 0 := Word.and_not_mask (n := 8) hi
    have hr (m : BitVec 24) : shiftLane m.toInt (i.toInt - v.e.toInt) = r m := shiftLane_sub ..
    refine ⟨⟨_, exec_vsete s u _, ?_⟩, ⟨_, exec_vsete s u _, ?_⟩, ⟨_, exec_vresc s u _, ?_⟩, fun ha => ⟨_, exec_fixv s u _, ?_⟩⟩
    · exact s.luxStep_aeOp hready hu (Uses.fits_literal (B := .none) hd ha Nat.one_pos rfl (by decide) hmask)
        (if_neg (by rw [hc0]; decide)) rfl
    · refine s.luxStep_aeOp hready hu (Uses.fits_literal (B := .none) hd ha Nat.one_pos rfl (by decide) hmask) ?_ rfl
      refine Eq.trans (if_pos (hc1 imm)) ?_
      dsimp only
      rw [satBits_eight, Lux.raise_eclamp]
      simp only [decide_eq_true_eq]
      rfl
    · refine s.luxStep_aeOp hready hu (Uses.fits_literal (B := .none) hd ha Nat.one_pos rfl (by decide) hmask) ?_ rfl
      have hsat := x.setV_saturated d i v.m r
      simp only [← hr] at hsat ⊢
      exact hsat
    · exact s.luxStep_aeOp hready hu (Uses.fits_literal (B := .none) hd ha Nat.one_pos rfl (by decide) hmask)
        (Lux.raise_sat ..) rfl
  · intro r
    exact ⟨_, exec_normv s u _, s.luxStep_aeOp hready hu (Uses.fits_literal (B := .none) hd ha Nat.one_pos rfl (by decide) rfl)
      (Lux.raise_of_not_ovf (x.setV d r.1) (storeNorm_ovf _)) rfl⟩

end Sys2Proof.Machine
end

section
/-! PROOFS. The instructions of a DSP unit: the words of cluster SRAM that they read and write (R102, R383). -/

namespace Sys2Proof.Machine

/-! ### Lanes -/

theorem Lanes.get_gen {α : Type} (f : Nat → α) {k : Nat} (h : k < 8) : (Lanes.gen f).get k = f k := by
  match k, h with
  | 0, _ | 1, _ | 2, _ | 3, _ | 4, _ | 5, _ | 6, _ | 7, _ => rfl

theorem Lanes.get_map {α β : Type} (f : α → β) (v : Lanes α) (k : Nat) : (v.map f).get k = f (v.get k) := by
  unfold Lanes.get
  split <;> rfl

/-! ### The words of an area -/

theorem unitAddr_dsp {u : Nat} (h : 64 ≤ u) (w : Nat) : unitAddr u w = 0x01000000 + (u - 64) * 0x100000 + 32 * w :=
  if_neg (by omega)

theorem State.unitLine_setUnitLine_if (s : State) (u w v : Nat) (l : Line) :
    (s.setUnitLine u w l).unitLine u v = if v = w then l else s.unitLine u v := by
  split
  next h => rw [h]; exact s.unitLine_setUnitLine u w l
  next h => exact s.unitLine_setUnitLine_ne u l h

theorem State.byte_setUnitLine (s : State) {u w c : Nat} (l : Line) (h : c < unitAddr u w ∨ unitAddr u w + 32 ≤ c) :
    (s.setUnitLine u w l).mem.byte c = s.mem.byte c := s.memorySame_setUnitLine u w l c h

theorem State.badIn_none {s : State} {u a n : Nat} (h : ∀ k, k < n → s.unitBad u (a + k) = false) : s.badIn u a n = none := by
  rw [State.badIn, Option.map_eq_none_iff, List.find?_eq_none]
  intro k hk
  rw [h k (List.mem_range.mp hk)]
  exact Bool.false_ne_true

theorem State.unitLine_unitReads (s : State) (u w : Nat) (ws : List Nat) : (s.unitReads u ws).unitLine u w = s.unitLine u w :=
  State.unitLine_of_mem (State.sameBesideCounts_mem (s.unitReads_same u ws)) u w

/-- The word's mantissas are those that were stored; nothing is lost of them in the word. -/
theorem lineMants_mantLine (m : Lanes (BitVec 24)) : lineMants (mantLine m) = m := by
  have hlane (x : BitVec 24) : (x ++ 0#8).extractLsb' 8 24 = x := by
    apply BitVec.eq_of_getLsbD_eq
    intro i hi
    rw [BitVec.getLsbD_extractLsb', BitVec.getLsbD_append]
    simp [hi]
  unfold lineMants mantLine Lanes.map
  simp only [hlane]

/-- An instruction of a DSP unit that has written the words of `t` and the flags of `y`. -/
theorem State.luxStep_dsp {s t : State} {u cost : Nat} {o : LuxOp} {f : Fields} {y : Lux} (ha : s.unitReady u = true)
    (h64 : 64 ≤ u) (hu : u < 80) (hon : o.dsp = true) (hfits : o.uses.fits f = true) (hco : o.coissue = false)
    (hr : o.run u f s = .done (t.setLux u y)) (hc : o.cost f = cost) (hplace : (s.lux u).inPlace y = y) (ht : s.unitAndMemory t u) :
    s.executes (s.luxStep u o f) u cost y ∧ (s.luxStep u o f).mem = t.mem ∧ s.unitAndMemory (s.luxStep u o f) u := by
  have hl := LuxOp.legal_of_fits (x := s.lux u) ((o.on_dsp h64 hu).trans hon) hfits (LuxOp.coissueOk_of_not hco ..)
  have hcost : (if o.coissue && f.p then 0 else o.cost f) = cost := by
    rw [hco]
    exact hc
  obtain ⟨hexec, hmem, -, -, hframe⟩ := State.luxStep_completes ha hl hr ((State.lux_setLux ..).trans (if_pos rfl)) hcost hplace
  exact ⟨hexec, hmem, hframe (State.unitAndMemory_setLux ht y)⟩

end Sys2Proof.Machine
end

section
/-! PROOFS. FFT: the words of its output area, and its frame (R105-R107, R383). -/

namespace Sys2Proof.Machine

theorem exec_fft (s : State) (u : Nat) (f : Fields) : exec (.fft u f) s = .next (s.luxStep u luxFft f) := rfl

/-! ### The points stored -/

theorem nthD_drop {α : Type} (d : α) (l : List α) (n k : Nat) : nthD d (l.drop n) k = nthD d l (n + k) := by
  rw [nthD_eq_getD, nthD_eq_getD, List.getD_eq_getElem?_getD, List.getElem?_drop, List.getD_eq_getElem?_getD]

/-- The word of the first four points of a list (R105, R106). -/
def fourPoints (e : BitVec 8) (pts : List Cpx) : Line := Lanes.gen (fun k =>
  mant (if k % 2 = 0 then (nthD ⟨0, 0⟩ pts (k / 2)).re else (nthD ⟨0, 0⟩ pts (k / 2)).im) ++ e)

theorem State.storePoints_succ (s : State) (u : Nat) (e : BitVec 8) (n a : Nat) (pts : List Cpx) :
    s.storePoints u e (n + 1) a pts = (s.setUnitLine u a (fourPoints e pts)).storePoints u e n (a + 1) (pts.drop 4) := rfl

theorem fourPoints_get (e : BitVec 8) (pts : List Cpx) {j : Nat} (hj : j < 4) :
    (fourPoints e pts).get (2 * j) = BitVec.ofInt 24 (nthD ⟨0, 0⟩ pts j).re ++ e ∧
    (fourPoints e pts).get (2 * j + 1) = BitVec.ofInt 24 (nthD ⟨0, 0⟩ pts j).im ++ e := by
  match j, hj with
  | 0, _ | 1, _ | 2, _ | 3, _ => exact ⟨rfl, rfl⟩

/-- What a transform stores of its points: one word for four points, and nothing else (R105, R106). -/
theorem State.storePoints_words (u : Nat) (e : BitVec 8) (n : Nat) (s : State) (a : Nat) (pts : List Cpx) :
    (∀ k j, k < n → j < 4 →
      ((s.storePoints u e n a pts).unitLine u (a + k)).get (2 * j) = BitVec.ofInt 24 (nthD ⟨0, 0⟩ pts (4 * k + j)).re ++ e ∧
      ((s.storePoints u e n a pts).unitLine u (a + k)).get (2 * j + 1) = BitVec.ofInt 24 (nthD ⟨0, 0⟩ pts (4 * k + j)).im ++ e) ∧
    (∀ v, v < a → (s.storePoints u e n a pts).unitLine u v = s.unitLine u v) ∧
    s.memorySame (s.storePoints u e n a pts) (unitAddr u a) (32 * n) := by
  induction n generalizing s a pts with
  | zero => exact ⟨fun k j hk => absurd hk (Nat.not_lt_zero k), fun _ _ => rfl, fun _ _ => rfl⟩
  | succ n ih =>
    obtain ⟨hrest, hbelow, hsame⟩ := ih (s.setUnitLine u a (fourPoints e pts)) (a + 1) (pts.drop 4)
    rw [State.storePoints_succ]
    refine ⟨fun k j hk hj => ?_, fun v hv => ?_, fun c hc => ?_⟩
    · cases k with
      | zero =>
        rw [Nat.add_zero a, hbelow a (Nat.lt_succ_self a), State.unitLine_setUnitLine, Nat.mul_zero, Nat.zero_add]
        exact fourPoints_get e pts hj
      | succ k =>
        have hword := hrest k j (Nat.lt_of_succ_lt_succ hk) hj
        rw [nthD_drop, show 4 + (4 * k + j) = 4 * (k + 1) + j by omega, Nat.add_assoc a 1 k, Nat.add_comm 1 k] at hword
        exact hword
    · rw [hbelow v (Nat.lt_succ_of_lt hv), State.unitLine_setUnitLine_ne _ _ _ (Nat.ne_of_lt hv)]
    · have hnext := unitAddr_add u a 1
      rw [hsame c (by omega)]
      exact s.byte_setUnitLine _ (by omega)

theorem State.unitAndMemory_storePoints {s t : State} {u : Nat} (h : s.unitAndMemory t u) (e : BitVec 8) (n a : Nat)
    (pts : List Cpx) : s.unitAndMemory (t.storePoints u e n a pts) u := by
  induction n generalizing t a pts with
  | zero => exact h
  | succ n ih => exact ih (State.unitAndMemory_setUnitLine h a _) _ _

theorem State.points_unitReads (s : State) (u a n : Nat) (ws : List Nat) : (s.unitReads u ws).points u a n = s.points u a n := by
  unfold State.points
  simp only [State.unitLine_unitReads]

/-! ### The instruction -/

/-- The immediate of FFT: its number of points in four bits, and the direction (R383). -/
theorem fftImm_fields : ∀ p < 16, ∀ inverse, let i : Word := BitVec.ofNat 32 (p + 16 * bitNat inverse)
    i.bits 0 4 = p ∧ i.bit 4 = inverse ∧ i &&& ~~~0x1F#32 = 0 := by decide

/-- The flags of a transform (R106). -/
theorem Lux.raise_fft (x : Lux) (sat high : Bool) : x.raise { sat := sat, eclamp := high } =
    { x with flg := x.flg ||| ((if sat then 1 else 0) ||| (if high then 4 else 0)) } := by
  cases sat <;> cases high <;> rfl

/-- FFT on areas that lie in the memory, apart or the same, whose words decode. -/
theorem luxFft_run {s : State} {u d a p : Nat} {inverse : Bool} (h4 : 4 ≤ p) (h12 : p ≤ 12)
    (hout : ((s.lux u).s d).toNat + 2 ^ p / 4 ≤ 32768) (hinp : ((s.lux u).s a).toNat + 2 ^ p / 4 ≤ 32768)
    (hapart : ((s.lux u).s d).toNat = ((s.lux u).s a).toNat ∨ ((s.lux u).s d).toNat + 2 ^ p / 4 ≤ ((s.lux u).s a).toNat ∨
      ((s.lux u).s a).toNat + 2 ^ p / 4 ≤ ((s.lux u).s d).toNat)
    (hok : ∀ k, k < 2 ^ p / 4 → s.unitBad u (((s.lux u).s a).toNat + k) = false) :
    let out := ((s.lux u).s d).toNat
    let inp := ((s.lux u).s a).toNat
    let r := transform p inverse (twiddles (2 ^ p) inverse) (s.points u inp (2 ^ p / 4))
      ((s.unitLine u inp).l0.extractLsb' 0 8).toInt
    luxFft.run u ⟨d, a, 0, 0, 0, 0, BitVec.ofNat 32 (p + 16 * bitNat inverse)⟩ s =
      .done ((((s.unitReads u ((List.range (2 ^ p / 4)).map (inp + ·))).storePoints u (BitVec.ofInt 8 (min 127 r.2.1)) (2 ^ p / 4)
        out r.1)).setLux u { s.lux u with
          flg := (s.lux u).flg ||| ((if r.2.2 then 1 else 0) ||| (if 127 < r.2.1 then 4 else 0)) }) := by
  intro out inp r
  obtain ⟨hp, hdir, -⟩ := fftImm_fields p (by omega) inverse
  have hclash : (out != inp && decide (out < inp + 2 ^ p / 4) && decide (inp < out + 2 ^ p / 4)) = false := by
    rcases hapart with h | h | h
    · rw [show out = inp from h]
      simp
    · rw [decide_eq_false (by omega : ¬inp < out + 2 ^ p / 4), Bool.and_false]
    · rw [decide_eq_false (by omega : ¬out < inp + 2 ^ p / 4), Bool.and_false, Bool.false_and]
  have hin : (!(wordsIn out (2 ^ p / 4) && wordsIn inp (2 ^ p / 4))) = false := by
    rw [wordsIn, wordsIn, decide_eq_true hout, decide_eq_true hinp]
    rfl
  have hexp : BitVec.ofInt 8 (if decide (127 < r.2.1) = true then 127 else r.2.1) = BitVec.ofInt 8 (min 127 r.2.1) := by
    simp only [decide_eq_true_eq]
    split
    · rw [Int.min_eq_left (by omega)]
    · rw [Int.min_eq_right (by omega)]
  dsimp only [luxFft]
  rw [hp, hdir, hclash, hin, if_neg (by simp; omega), State.badIn_none hok]
  dsimp only
  rw [State.points_unitReads, State.unitLine_unitReads, hexp, Lux.raise_fft]
  simp only [decide_eq_true_eq]
  rfl

/-- Settles O17: FFT reads its input area whole and stores the transform's points, four to a word. -/
theorem transformsRun : Obligations.TransformsRun := by
  unfold Obligations.TransformsRun
  intro s u d a p inverse hready h64 hu hd ha h4 h12 x out inp n hout hinp hapart hok r e g
  obtain ⟨hp, -, hmask⟩ := fftImm_fields p (by omega) inverse
  have hfits : luxFft.uses.fits ⟨d, a, 0, 0, 0, 0, BitVec.ofNat 32 (p + 16 * bitNat inverse)⟩ = true :=
    Uses.fits_literal (B := .none) hd ha Nat.one_pos rfl (by decide) hmask
  have hreads := (State.onlyUnit_unitReads (s.onlyUnit_refl u) ((List.range n).map (inp + ·))).unitAndMemory
  have hcost : luxFft.cost ⟨d, a, 0, 0, 0, 0, BitVec.ofNat 32 (p + 16 * bitNat inverse)⟩ = fftCost p := by
    dsimp only [luxFft]
    rw [hp]
  obtain ⟨hexec, hmem, hframe⟩ := State.luxStep_dsp hready h64 hu rfl hfits rfl (luxFft_run h4 h12 hout hinp hapart hok) hcost rfl
    (State.unitAndMemory_storePoints hreads e n out r.1)
  obtain ⟨hwords, -, hsame⟩ := State.storePoints_words u e n (s.unitReads u ((List.range n).map (inp + ·))) out r.1
  refine ⟨_, exec_fft s u _, hexec, fun k j hk hj => ?_, fun c hc => ?_, hframe⟩
  · rw [State.unitLine_of_mem hmem]
    exact hwords k j hk hj
  · rw [← unitAddr_dsp h64] at hc
    rw [hmem, hsame c hc, State.sameBesideCounts_mem (s.unitReads_same u _)]

end Sys2Proof.Machine
end

section
/-! PROOFS. BIQ and FIR: the outputs, the state words and the frame of a filter (R102-R104, R383). -/

namespace Sys2Proof.Machine

theorem exec_biq (s : State) (u : Nat) (f : Fields) : exec (.biq u f) s = .next (s.luxStep u luxBiq f) := rfl
theorem exec_fir (s : State) (u : Nat) (f : Fields) : exec (.fir u f) s = .next (s.luxStep u luxFir f) := rfl

/-! ### Sums saturated once (R103) -/

/-- A sum in the range of a mantissa. -/
def clamp24 (z : Int) : Int := max (-2 ^ 23) (min (2 ^ 23 - 1) z)

theorem satBits_clamp (z : Int) : satBits 24 z = (clamp24 z, z != clamp24 z) := by
  unfold clamp24
  rw [satBits_mant]
  by_cases hlow : z < -2 ^ 23
  · rw [if_pos hlow, show max (-2 ^ 23) (min (2 ^ 23 - 1) z) = -2 ^ 23 by omega, bne_iff_ne.mpr (by omega)]
  · by_cases hhigh : 2 ^ 23 - 1 < z
    · rw [if_neg hlow, if_pos hhigh, show max (-2 ^ 23) (min (2 ^ 23 - 1) z) = 2 ^ 23 - 1 by omega, bne_iff_ne.mpr (by omega)]
    · rw [if_neg hlow, if_neg hhigh, show max (-2 ^ 23) (min (2 ^ 23 - 1) z) = z by omega, bne_self_eq_false]

theorem sat24_clamp (z : Int) : sat24 z = (mant (clamp24 z), z != clamp24 z) := by
  unfold sat24
  rw [satBits_clamp]

theorem toInt_mant_clamp (z : Int) : (mant (clamp24 z)).toInt = clamp24 z := by
  have hrange : -2 ^ 23 ≤ clamp24 z ∧ clamp24 z < 2 ^ 23 := by
    unfold clamp24
    omega
  rw [mant, BitVec.toInt_ofInt, Int.bmod_eq_of_le (by omega) (by omega)]

theorem get_mantLine (m : Lanes (BitVec 24)) (k : Nat) : (mantLine m).get k = m.get k ++ 0#8 := Lanes.get_map ..

/-- The word of a mantissa (R102). -/
theorem mantLine_lane (m : Lanes (BitVec 24)) (k : Nat) : (mantLine m).get k = BitVec.ofInt 24 (m.get k).toInt ++ 0#8 := by
  rw [get_mantLine, BitVec.ofInt_toInt]

/-! ### One section (R103) -/

/-- A mantissa of a word of cluster SRAM. -/
def State.mantAt (s : State) (u w k : Nat) : Int := ((lineMants (s.unitLine u w)).get k).toInt

/-- The biquad sum of lane `k` of the section whose block starts at word `b`, with the input `x` (R103). -/
def State.sectionSum (s : State) (u b : Nat) (x : Int) (k : Nat) : Int :=
  shrRound (s.mantAt u (b + 1) k * x + s.mantAt u (b + 2) k * s.mantAt u (b + 6) k + s.mantAt u (b + 3) k * s.mantAt u (b + 7) k +
    s.mantAt u (b + 4) k * s.mantAt u (b + 8) k + s.mantAt u (b + 5) k * s.mantAt u (b + 9) k)
    (23 - (s.unitLine u b).l0.bits 0 2)

section
variable (s : State) (u b : Nat) (x : Lanes (BitVec 24))

theorem State.section_lanes : (s.section_ u b x).1 =
      Lanes.gen (fun k => mant (clamp24 (s.sectionSum u b (x.get k).toInt k))) ∧
    (s.section_ u b x).2.2 = (List.range 8).any (fun k =>
      s.sectionSum u b (x.get k).toInt k != clamp24 (s.sectionSum u b (x.get k).toInt k)) := by
  have hlane (k : Nat) : biquad ((lineMants (s.unitLine u (b + 1))).get k) ((lineMants (s.unitLine u (b + 2))).get k)
      ((lineMants (s.unitLine u (b + 3))).get k) ((lineMants (s.unitLine u (b + 4))).get k)
      ((lineMants (s.unitLine u (b + 5))).get k) ((s.unitLine u b).l0.bits 0 2) (x.get k)
      ((lineMants (s.unitLine u (b + 6))).get k) ((lineMants (s.unitLine u (b + 7))).get k)
      ((lineMants (s.unitLine u (b + 8))).get k) ((lineMants (s.unitLine u (b + 9))).get k) =
      (mant (clamp24 (s.sectionSum u b (x.get k).toInt k)),
        s.sectionSum u b (x.get k).toInt k != clamp24 (s.sectionSum u b (x.get k).toInt k)) := sat24_clamp _
  unfold State.section_
  simp only [hlane]
  exact ⟨rfl, rfl⟩

/-- The state words that a section leaves: the delayed inputs and outputs have moved up by one (R103). -/
theorem State.unitLine_section (w : Nat) : (s.section_ u b x).2.1.unitLine u w =
    if w = b + 8 then mantLine (s.section_ u b x).1 else if w = b + 9 then mantLine (lineMants (s.unitLine u (b + 8)))
    else if w = b + 6 then mantLine x else if w = b + 7 then mantLine (lineMants (s.unitLine u (b + 6)))
    else s.unitLine u w := by
  unfold State.section_
  dsimp only
  rw [State.unitLine_setUnitLine_if, State.unitLine_setUnitLine_if, State.unitLine_setUnitLine_if, State.unitLine_setUnitLine_if]

theorem State.byte_section {c : Nat} (h : c < unitAddr u (b + 6) ∨ unitAddr u (b + 10) ≤ c) :
    (s.section_ u b x).2.1.mem.byte c = s.mem.byte c := by
  have h6 := unitAddr_add u b 6
  have h7 := unitAddr_add u b 7
  have h8 := unitAddr_add u b 8
  have h9 := unitAddr_add u b 9
  have h10 := unitAddr_add u b 10
  unfold State.section_
  dsimp only
  rw [State.byte_setUnitLine _ _ (by omega), State.byte_setUnitLine _ _ (by omega), State.byte_setUnitLine _ _ (by omega),
    State.byte_setUnitLine _ _ (by omega)]

theorem State.unitAndMemory_section {r : State} (h : r.unitAndMemory s u) : r.unitAndMemory (s.section_ u b x).2.1 u := by
  unfold State.section_
  have h7 := State.unitAndMemory_setUnitLine h (b + 7) (mantLine (lineMants (s.unitLine u (b + 6))))
  have h6 := State.unitAndMemory_setUnitLine h7 (b + 6) (mantLine x)
  have h9 := State.unitAndMemory_setUnitLine h6 (b + 9) (mantLine (lineMants (s.unitLine u (b + 8))))
  exact State.unitAndMemory_setUnitLine h9 (b + 8) _

end

/-! ### The cascade (R104) -/

/-- One section after the `n` before it. -/
theorem State.cascade_succ (s : State) (u b : Nat) (x : Lanes (BitVec 24)) (n : Nat) : s.cascade u b x (n + 1) =
    (((s.cascade u b x n).2.1.section_ u (b + 10 * n) (s.cascade u b x n).1).1,
      ((s.cascade u b x n).2.1.section_ u (b + 10 * n) (s.cascade u b x n).1).2.1,
      (s.cascade u b x n).2.2 || ((s.cascade u b x n).2.1.section_ u (b + 10 * n) (s.cascade u b x n).1).2.2) := rfl

section
variable (s : State) (u b : Nat) (x : Lanes (BitVec 24))

/-- What goes into section `i`, lane by lane; after the last section, the filter's output. -/
def State.cascadeIn (i k : Nat) : Int := ((s.cascade u b x i).1.get k).toInt

/-- The sum of section `i`, of the words as they were before the filter. -/
def State.cascadeSum (i k : Nat) : Int := s.sectionSum u (b + 10 * i) (s.cascadeIn u b x i k) k

/-- The first `n` sections write nothing outside their blocks. -/
theorem State.unitLine_cascade_beyond (n : Nat) {w : Nat} (h : b + 10 * n ≤ w) :
    (s.cascade u b x n).2.1.unitLine u w = s.unitLine u w := by
  induction n with
  | zero => rfl
  | succ n ih =>
    rw [State.cascade_succ, State.unitLine_section, if_neg (by omega), if_neg (by omega), if_neg (by omega), if_neg (by omega)]
    exact ih (by omega)

theorem State.sectionSum_cascade (i k : Nat) :
    (s.cascade u b x i).2.1.sectionSum u (b + 10 * i) ((s.cascade u b x i).1.get k).toInt k = s.cascadeSum u b x i k := by
  unfold State.cascadeSum State.sectionSum State.mantAt
  simp only [State.unitLine_cascade_beyond s u b x i (Nat.le_add_right ..), State.unitLine_cascade_beyond s u b x i (Nat.le_refl _)]
  rfl

theorem State.cascade_out (i : Nat) {k : Nat} (hk : k < 8) :
    (s.cascade u b x (i + 1)).1.get k = mant (clamp24 (s.cascadeSum u b x i k)) := by
  rw [State.cascade_succ]
  dsimp only
  rw [(State.section_lanes ..).1, Lanes.get_gen _ hk, State.sectionSum_cascade]

theorem State.cascadeIn_succ (i : Nat) {k : Nat} (hk : k < 8) :
    s.cascadeIn u b x (i + 1) k = clamp24 (s.cascadeSum u b x i k) := by
  rw [State.cascadeIn, State.cascade_out s u b x i hk, toInt_mant_clamp]

theorem State.cascade_sat (n : Nat) : (s.cascade u b x n).2.2 = (List.range n).any (fun i => (List.range 8).any (fun k =>
    s.cascadeSum u b x i k != clamp24 (s.cascadeSum u b x i k))) := by
  induction n with
  | zero => rfl
  | succ n ih =>
    rw [State.cascade_succ, List.range_succ, List.any_append, ← ih]
    dsimp only
    rw [(State.section_lanes ..).2]
    simp only [State.sectionSum_cascade, List.any_cons, List.any_nil, Bool.or_false]

/-- The state words of section `i` after the whole cascade. -/
theorem State.unitLine_cascade (n : Nat) {i j : Nat} (hi : i < n) (h6 : 6 ≤ j) (h9 : j ≤ 9) :
    (s.cascade u b x n).2.1.unitLine u (b + 10 * i + j) =
      if j = 6 then mantLine (s.cascade u b x i).1 else if j = 7 then mantLine (lineMants (s.unitLine u (b + 10 * i + 6)))
      else if j = 8 then mantLine (s.cascade u b x (i + 1)).1 else mantLine (lineMants (s.unitLine u (b + 10 * i + 8))) := by
  induction n with
  | zero => exact absurd hi (Nat.not_lt_zero i)
  | succ n ih =>
    rw [State.cascade_succ s u b x n]
    dsimp only
    rw [State.unitLine_section]
    rcases Nat.lt_succ_iff_lt_or_eq.mp hi with hlt | rfl
    · rw [if_neg (by omega), if_neg (by omega), if_neg (by omega), if_neg (by omega)]
      exact ih hlt
    · rw [State.unitLine_cascade_beyond s u b x i (by omega), State.unitLine_cascade_beyond s u b x i (by omega)]
      rcases (by omega : j = 6 ∨ j = 7 ∨ j = 8 ∨ j = 9) with rfl | rfl | rfl | rfl
      · rw [if_neg (by omega), if_neg (by omega), if_pos rfl, if_pos rfl]
      · rw [if_neg (by omega), if_neg (by omega), if_neg (by omega), if_pos rfl, if_neg (by omega), if_pos rfl]
      · rw [if_pos rfl, if_neg (by omega), if_neg (by omega), if_pos rfl]
        rfl
      · rw [if_neg (by omega), if_pos rfl, if_neg (by omega), if_neg (by omega), if_neg (by omega)]

/-- The mantissas of those words: the delayed inputs and outputs of section `i` moved up by one (R103). -/
theorem State.cascade_stateWords (n : Nat) {i : Nat} (hi : i < n) (k : Nat) : ∀ j v, (j, v) ∈ [(6, s.cascadeIn u b x i k),
      (7, s.mantAt u (b + 10 * i + 6) k), (8, s.cascadeIn u b x (i + 1) k), (9, s.mantAt u (b + 10 * i + 8) k)] →
    ((s.cascade u b x n).2.1.unitLine u (b + 10 * i + j)).get k = BitVec.ofInt 24 v ++ 0#8 := by
  intro j v hj
  simp only [List.mem_cons, List.not_mem_nil, or_false, Prod.mk.injEq] at hj
  rcases hj with ⟨rfl, rfl⟩ | ⟨rfl, rfl⟩ | ⟨rfl, rfl⟩ | ⟨rfl, rfl⟩
  · rw [s.unitLine_cascade u b x n hi (by omega) (by omega), if_pos rfl]
    exact mantLine_lane ..
  · rw [s.unitLine_cascade u b x n hi (by omega) (by omega), if_neg (by omega), if_pos rfl]
    exact mantLine_lane ..
  · rw [s.unitLine_cascade u b x n hi (by omega) (by omega), if_neg (by omega), if_neg (by omega), if_pos rfl]
    exact mantLine_lane ..
  · rw [s.unitLine_cascade u b x n hi (by omega) (by omega), if_neg (by omega), if_neg (by omega), if_neg (by omega)]
    exact mantLine_lane ..

theorem State.byte_cascade (n : Nat) {c : Nat}
    (h : ∀ i, i < n → c < unitAddr u (b + 10 * i + 6) ∨ unitAddr u (b + 10 * i + 10) ≤ c) :
    (s.cascade u b x n).2.1.mem.byte c = s.mem.byte c := by
  induction n with
  | zero => rfl
  | succ n ih =>
    rw [State.cascade_succ]
    dsimp only
    rw [State.byte_section _ _ _ _ (h n (Nat.lt_succ_self n))]
    exact ih fun i hi => h i (Nat.lt_succ_of_lt hi)

theorem State.unitAndMemory_cascade {r : State} (h : r.unitAndMemory s u) (n : Nat) :
    r.unitAndMemory (s.cascade u b x n).2.1 u := by
  induction n with
  | zero => exact h
  | succ n ih => exact State.unitAndMemory_section _ _ _ _ ih

end

/-! ### BIQ (R383) -/

theorem shrRound_pos (z : Int) {n : Nat} (h : n ≠ 0) : shrRound z n = (z + 2 ^ (n - 1)) / 2 ^ n := if_neg h

theorem State.mantAt_eq (s : State) (u w k : Nat) : s.mantAt u w k = (((s.unitLine u w).get k).extractLsb' 8 24).toInt :=
  congrArg BitVec.toInt (Lanes.get_map ..)

theorem State.mantAt_unitReads (s : State) (u w k : Nat) (ws : List Nat) : (s.unitReads u ws).mantAt u w k = s.mantAt u w k := by
  unfold State.mantAt
  rw [State.unitLine_unitReads]

/-- A number of sections or taps in its field of the immediate. -/
theorem Word.ofNat_low {n k : Nat} (h : n < 2 ^ k) (hk : k ≤ 32) :
    Word.bits (BitVec.ofNat 32 n) 0 k = n ∧ BitVec.ofNat 32 n &&& ~~~(BitVec.ofNat 32 (2 ^ k - 1)) = 0 := by
  have hn : (BitVec.ofNat 32 n).toNat = n :=
    BitVec.toNat_ofNat .. ▸ Nat.mod_eq_of_lt (Nat.lt_of_lt_of_le h (Nat.pow_le_pow_right (by omega) hk))
  have hlt : (BitVec.ofNat 32 n).toNat < 2 ^ k := by rw [hn]; exact h
  exact ⟨(Word.bits_low hlt).trans hn, Word.and_not_mask hlt⟩

theorem wordsIn_of_le {a n : Nat} (h : a + n ≤ 32768) : wordsIn a n = true := decide_eq_true h

/-- The words that BIQ reads. -/
def biqWords (inp blk n : Nat) : List Nat := inp :: (List.range (10 * n)).map (blk + ·)

/-- BIQ on areas that lie in the memory and whose words decode. -/
theorem luxBiq_run {s : State} {u d a b n : Nat} (h1 : 1 ≤ n) (h16 : n ≤ 16) (hout : ((s.lux u).s d).toNat < 32768)
    (hinp : ((s.lux u).s a).toNat < 32768) (hblk : ((s.lux u).s b).toNat + 10 * n ≤ 32768)
    (hok : s.unitBad u ((s.lux u).s a).toNat = false) (hoks : ∀ k, k < 10 * n → s.unitBad u (((s.lux u).s b).toNat + k) = false) :
    let inp := ((s.lux u).s a).toNat
    let blk := ((s.lux u).s b).toNat
    let r := (s.unitReads u (biqWords inp blk n)).cascade u blk (lineMants (s.unitLine u inp)) n
    luxBiq.run u ⟨d, a, b, 0, 0, 0, BitVec.ofNat 32 n⟩ s =
      .done ((r.2.1.setUnitLine u ((s.lux u).s d).toNat (mantLine r.1)).setLux u ((s.lux u).raiseSat r.2.2)) := by
  intro inp blk r
  obtain ⟨hn, -⟩ := Word.ofNat_low (n := n) (k := 5) (by omega) (by decide)
  have hinp1 : s.badIn u inp 1 = none := State.badIn_none fun k hk => by rw [Nat.lt_one_iff.mp hk]; exact hok
  have hin : (!(wordsIn ((s.lux u).s d).toNat 1 && wordsIn inp 1 && wordsIn blk (10 * n))) = false := by
    rw [wordsIn_of_le hout, wordsIn_of_le hinp, wordsIn_of_le hblk]
    rfl
  dsimp only [luxBiq]
  rw [hn, hin, if_neg (by simp; omega), hinp1, State.badIn_none hoks]
  dsimp only
  rw [State.unitLine_unitReads]
  rfl

/-! ### FIR (R104, R383) -/

theorem fir_eq_sum (l : List (BitVec 24 × BitVec 24)) (acc : Int) :
    fir l acc = acc + (l.map (fun p => p.1.toInt * p.2.toInt)).sum := by
  induction l generalizing acc with
  | nil => exact (Int.add_zero acc).symm
  | cons p l ih => rw [fir, ih, List.map_cons, List.sum_cons, Int.add_assoc]; rfl

/-- Every tap with its place of the delay line, the input standing at the head (R104). -/
def State.firSum (s : State) (u inp blk n h k : Nat) : Int := ((List.range n).map (fun j => s.mantAt u (blk + 1 + j) k *
  (if (h + n - j) % n = h then s.mantAt u inp k else s.mantAt u (blk + n + 1 + (h + n - j) % n) k))).sum

/-- The sum that FIR makes after it has put its input at the head of the delay line. -/
theorem State.fir_firSum (s : State) (u inp blk n h k : Nat) :
    let s1 := s.setUnitLine u (blk + n + 1 + h) (mantLine (lineMants (s.unitLine u inp)))
    fir ((List.range n).map (fun j => ((lineMants (s1.unitLine u (blk + 1 + j))).get k,
      (lineMants (s1.unitLine u (blk + n + 1 + (h + n - j) % n))).get k))) 0 = s.firSum u inp blk n h k := by
  intro s1
  rw [fir_eq_sum, Int.zero_add, List.map_map, State.firSum]
  refine congrArg List.sum (List.map_congr_left fun j hj => ?_)
  have hj := List.mem_range.mp hj
  dsimp only [Function.comp_apply, s1]
  rw [State.unitLine_setUnitLine_if, if_neg (by omega), State.unitLine_setUnitLine_if]
  by_cases hh : (h + n - j) % n = h
  · rw [if_pos (by omega), if_pos hh, lineMants_mantLine]
    rfl
  · rw [if_neg (by omega), if_neg hh]
    rfl

/-- The output of lane `k` before it is saturated. -/
def State.firOut (s : State) (u inp blk n h k : Nat) : Int := shrRound (s.firSum u inp blk n h k) 23

/-- The words that FIR reads. -/
def firWords (inp blk n : Nat) : List Nat := inp :: (List.range (2 * n + 1)).map (blk + ·)

/-- What FIR writes: the delay line, the output and the head (R383). -/
def State.firStored (s : State) (u out inp blk n h : Nat) : State :=
  let s1 := s.setUnitLine u (blk + n + 1 + h) (mantLine (lineMants (s.unitLine u inp)))
  let s2 := s1.setUnitLine u out (mantLine (Lanes.gen (fun k => mant (clamp24 (s.firOut u inp blk n h k)))))
  s2.setUnitLine u blk { s2.unitLine u blk with l0 := (s2.unitLine u blk).l0.setBits 0 8 ((h + 1) % n) }

/-- FIR on areas that lie in the memory and whose words decode. -/
theorem luxFir_run {s : State} {u d a b n : Nat} (h1 : 1 ≤ n) (h256 : n ≤ 256) (hout : ((s.lux u).s d).toNat < 32768)
    (hinp : ((s.lux u).s a).toNat < 32768) (hblk : ((s.lux u).s b).toNat + 2 * n + 1 ≤ 32768)
    (hok : s.unitBad u ((s.lux u).s a).toNat = false)
    (hoks : ∀ k, k < 2 * n + 1 → s.unitBad u (((s.lux u).s b).toNat + k) = false) :
    let inp := ((s.lux u).s a).toNat
    let blk := ((s.lux u).s b).toNat
    let h := (s.unitLine u blk).l0.bits 0 8 % n
    let t := s.unitReads u (firWords inp blk n)
    luxFir.run u ⟨d, a, b, 0, 0, 0, BitVec.ofNat 32 n⟩ s = .done ((t.firStored u ((s.lux u).s d).toNat inp blk n h).setLux u
      ((s.lux u).raiseSat ((List.range 8).any (fun k => t.firOut u inp blk n h k != clamp24 (t.firOut u inp blk n h k))))) := by
  intro inp blk h t
  obtain ⟨hn, -⟩ := Word.ofNat_low (n := n) (k := 9) (by omega) (by decide)
  have hinp1 : s.badIn u inp 1 = none := State.badIn_none fun k hk => by rw [Nat.lt_one_iff.mp hk]; exact hok
  have hin : (!(wordsIn ((s.lux u).s d).toNat 1 && wordsIn inp 1 && wordsIn blk (2 * n + 1))) = false := by
    rw [wordsIn_of_le hout, wordsIn_of_le hinp, wordsIn_of_le (n := 2 * n + 1) hblk]
    rfl
  have hhead : (t.unitLine u blk).l0.bits 0 8 % n = h := by rw [State.unitLine_unitReads]
  dsimp only [luxFir]
  rw [hn, hin, if_neg (by simp; omega), hinp1, State.badIn_none hoks]
  dsimp only
  change LuxRes.done _ = _
  rw [show s.unitReads u (inp :: (List.range (2 * n + 1)).map (blk + ·)) = t from rfl, hhead]
  simp only [State.fir_firSum, sat24_clamp]
  rfl

section
variable (s : State) {u out inp blk n h : Nat} (hh : h < n) (hout : out < blk ∨ blk + 2 * n + 1 ≤ out)
include hh hout

/-- The words that FIR leaves: the output, the head of its delay line and the block's first word. -/
theorem State.unitLine_firStored :
    (s.firStored u out inp blk n h).unitLine u out = mantLine (Lanes.gen (fun k => mant (clamp24 (s.firOut u inp blk n h k)))) ∧
    (s.firStored u out inp blk n h).unitLine u (blk + n + 1 + h) = mantLine (lineMants (s.unitLine u inp)) ∧
    (s.firStored u out inp blk n h).unitLine u blk =
      { s.unitLine u blk with l0 := (s.unitLine u blk).l0.setBits 0 8 ((h + 1) % n) } := by
  unfold State.firStored
  dsimp only
  refine ⟨?_, ?_, ?_⟩
  · rw [State.unitLine_setUnitLine_ne _ _ _ (by omega), State.unitLine_setUnitLine]
  · rw [State.unitLine_setUnitLine_ne _ _ _ (by omega), State.unitLine_setUnitLine_ne _ _ _ (by omega), State.unitLine_setUnitLine]
  · rw [State.unitLine_setUnitLine, State.unitLine_setUnitLine_ne _ _ _ (by omega), State.unitLine_setUnitLine_ne _ _ _ (by omega)]

end

theorem State.byte_firStored (s : State) {u out inp blk n h c : Nat} (h1 : c < unitAddr u out ∨ unitAddr u out + 32 ≤ c)
    (h2 : c < unitAddr u blk ∨ unitAddr u (blk + 1) ≤ c)
    (h3 : c < unitAddr u (blk + n + 1 + h) ∨ unitAddr u (blk + n + 2 + h) ≤ c) :
    (s.firStored u out inp blk n h).mem.byte c = s.mem.byte c := by
  have hblk := unitAddr_add u blk 1
  have hline := unitAddr_add u (blk + n + 1 + h) 1
  rw [show blk + n + 1 + h + 1 = blk + n + 2 + h by omega] at hline
  unfold State.firStored
  dsimp only
  rw [State.byte_setUnitLine _ _ (by omega), State.byte_setUnitLine _ _ h1, State.byte_setUnitLine _ _ (by omega)]

theorem State.unitAndMemory_firStored {r s : State} {u : Nat} (g : r.unitAndMemory s u) (out inp blk n h : Nat) :
    r.unitAndMemory (s.firStored u out inp blk n h) u := by
  unfold State.firStored
  have h1 := State.unitAndMemory_setUnitLine g (blk + n + 1 + h) (mantLine (lineMants (s.unitLine u inp)))
  have h2 := State.unitAndMemory_setUnitLine h1 out (mantLine (Lanes.gen (fun k => mant (clamp24 (s.firOut u inp blk n h k)))))
  exact State.unitAndMemory_setUnitLine h2 blk _

/-- The head, in the low byte of its word, replaced (R383). -/
theorem Word.setBits_low_byte (w : Word) {v : Nat} (h : v < 256) : w.setBits 0 8 v = w &&& 0xFFFFFF00#32 ||| BitVec.ofNat 32 v := by
  have hmask : ∀ i < 32, (0xFFFFFF00#32).getLsbD i = decide (8 ≤ i) := by decide
  have hsplit : w.setBits 0 8 v = BitVec.ofNat 32 (2 ^ 8 * (w.toNat / 256) + v) := by
    unfold Word.setBits
    congr 1
    omega
  rw [hsplit]
  apply BitVec.eq_of_getLsbD_eq
  intro i hi
  rw [BitVec.getLsbD_or, BitVec.getLsbD_and, hmask i hi, BitVec.getLsbD_ofNat, BitVec.getLsbD_ofNat, decide_eq_true hi,
    Bool.true_and, Bool.true_and, Nat.testBit_two_pow_mul_add _ h]
  by_cases h8 : i < 8
  · rw [if_pos h8, decide_eq_false (by omega), Bool.and_false, Bool.false_or]
  · have hv : v.testBit i = false :=
      Nat.testBit_lt_two_pow (Nat.lt_of_lt_of_le h (Nat.pow_le_pow_right (n := 2) (by decide) (Nat.not_lt.mp h8)))
    have hw : (w.toNat / 256).testBit (i - 8) = w.getLsbD i := by
      rw [show 256 = 2 ^ 8 from rfl, Nat.testBit_div_two_pow, Nat.sub_add_cancel (Nat.not_lt.mp h8)]
      rfl
    rw [if_neg h8, hv, hw, decide_eq_true (by omega : 8 ≤ i), Bool.and_true, Bool.or_false]

/-! ### The statement -/

/-- A section's sum, with the rounding and the shift written out (R103). -/
theorem State.sectionSum_round (s : State) (u b : Nat) (x : Int) (k : Nat) :
    let shift := ((s.unitLine u b).get 0).toNat % 4
    s.sectionSum u b x k = (s.mantAt u (b + 1) k * x + s.mantAt u (b + 2) k * s.mantAt u (b + 6) k +
      s.mantAt u (b + 3) k * s.mantAt u (b + 7) k + s.mantAt u (b + 4) k * s.mantAt u (b + 8) k +
      s.mantAt u (b + 5) k * s.mantAt u (b + 9) k + 2 ^ (23 - shift - 1)) / 2 ^ (23 - shift) := by
  intro shift
  have hshift : (s.unitLine u b).l0.bits 0 2 = shift := congrArg (· % 4) (Nat.div_one _)
  rw [State.sectionSum, hshift, shrRound_pos _ (by omega)]

/-- Settles O16: the cascade's sections in turn, and the taps of a FIR on its delay line. -/
theorem filtersRun : Obligations.FiltersRun := by
  unfold Obligations.FiltersRun
  intro s u d a b imm hready h64 hu hd ha hb x out inp blk at' old word sat round flags hout hinp hok
  have hat (w : Nat) : at' w = unitAddr u w := (unitAddr_dsp h64 w).symm
  have hold (w k : Nat) : old w k = s.mantAt u w k := (s.mantAt_eq u w k).symm
  refine ⟨fun n h1 h16 himm hblk hoks => ?_, fun n h1 h256 himm hblk hoks hapart => ?_⟩
  · subst himm
    obtain ⟨hn, hmask⟩ := Word.ofNat_low (n := n) (k := 5) (by omega) (by decide)
    have hreads := (State.onlyUnit_unitReads (s.onlyUnit_refl u) (biqWords inp blk n)).unitAndMemory
    have hcost : luxBiq.cost ⟨d, a, b, 0, 0, 0, BitVec.ofNat 32 n⟩ = 7 * n + 3 := by
      dsimp only [luxBiq]
      rw [hn]
    have hfits : luxBiq.uses.fits ⟨d, a, b, 0, 0, 0, BitVec.ofNat 32 n⟩ = true := Uses.fits_literal hd ha hb rfl (by decide) hmask
    obtain ⟨hexec, hmem, hframe⟩ := State.luxStep_dsp (o := luxBiq) hready h64 hu rfl hfits rfl
      (luxBiq_run h1 h16 hout hinp hblk hok hoks) hcost rfl
      (State.unitAndMemory_setUnitLine (State.unitAndMemory_cascade _ u blk _ hreads n) out _)
    generalize hr : s.unitReads u (biqWords inp blk n) = r at hexec hmem hframe
    have hline (w : Nat) : r.unitLine u w = s.unitLine u w := by rw [← hr, State.unitLine_unitReads]
    have hmant (w k : Nat) : r.mantAt u w k = old w k := by rw [← hr, State.mantAt_unitReads, hold]
    generalize hx0 : lineMants (s.unitLine u inp) = x0 at hexec hmem hframe
    refine ⟨_, r.cascadeIn u blk x0, r.cascadeSum u blk x0, exec_biq s u _, fun k hk => ?_, fun i k hi hk => ?_, fun k hk => ?_, ?_,
      fun c h1 h2 => ?_, hframe⟩
    · rw [hold, ← hx0]
      rfl
    · intro w shift
      refine ⟨?_, r.cascadeIn_succ u blk x0 i hk, fun j v hj hne => ?_⟩
      · rw [State.cascadeSum, State.sectionSum_round]
        simp only [hmant, hline]
        rfl
      · rw [State.unitLine_of_mem hmem, State.unitLine_setUnitLine_ne _ _ _ hne]
        refine r.cascade_stateWords u blk x0 n hi k j v ?_
        rw [hmant, hmant]
        exact hj
    · rw [State.unitLine_of_mem hmem, State.unitLine_setUnitLine]
      exact mantLine_lane ..
    · rw [Lux.raiseSat, Lux.raise_sat, State.cascade_sat] at hexec
      exact hexec
    · rw [hat] at h1
      simp only [hat] at h2
      rw [hmem, State.byte_setUnitLine _ _ h1, r.byte_cascade u blk x0 n h2, ← hr,
        State.sameBesideCounts_mem (s.unitReads_same u _)]
  · subst himm
    intro head h line sum y
    have hh : h < n := Nat.mod_lt _ (by omega)
    have hnext : (h + 1) % n < 256 := Nat.lt_of_lt_of_le (Nat.mod_lt _ (by omega)) h256
    obtain ⟨hn, hmask⟩ := Word.ofNat_low (n := n) (k := 9) (by omega) (by decide)
    have hreads := (State.onlyUnit_unitReads (s.onlyUnit_refl u) (firWords inp blk n)).unitAndMemory
    have hcost : luxFir.cost ⟨d, a, b, 0, 0, 0, BitVec.ofNat 32 n⟩ = n + 5 := by
      dsimp only [luxFir]
      rw [hn]
    have hfits : luxFir.uses.fits ⟨d, a, b, 0, 0, 0, BitVec.ofNat 32 n⟩ = true := Uses.fits_literal hd ha hb rfl (by decide) hmask
    obtain ⟨hexec, hmem, hframe⟩ := State.luxStep_dsp (o := luxFir) hready h64 hu rfl hfits rfl
      (luxFir_run h1 h256 hout hinp hblk hok hoks) hcost rfl (State.unitAndMemory_firStored hreads out inp blk n h)
    generalize hr : s.unitReads u (firWords inp blk n) = r at hexec hmem hframe
    have hline (w : Nat) : r.unitLine u w = s.unitLine u w := by rw [← hr, State.unitLine_unitReads]
    have hmant (w k : Nat) : r.mantAt u w k = old w k := by rw [← hr, State.mantAt_unitReads, hold]
    have hy (k : Nat) : r.firOut u inp blk n h k = y k := by
      rw [State.firOut, shrRound_pos _ (by decide), State.firSum]
      simp only [hmant]
      rfl
    obtain ⟨hwout, hwline, hwhead⟩ := r.unitLine_firStored (inp := inp) hh hapart
    rw [hline] at hwline
    rw [hline, Word.setBits_low_byte _ hnext] at hwhead
    refine ⟨_, exec_fir s u _, ?_, fun k hk => ⟨?_, ?_⟩, (State.unitLine_of_mem hmem u blk).trans hwhead, fun c h1 h2 h3 => ?_,
      hframe⟩
    · rw [Lux.raiseSat, Lux.raise_sat] at hexec
      have hsat : (List.range 8).any (fun k => r.firOut u inp blk n h k != clamp24 (r.firOut u inp blk n h k)) =
          (List.range 8).any (fun k => y k != sat (y k)) := by
        simp only [hy]
        rfl
      rw [← hsat]
      exact hexec
    · rw [State.unitLine_of_mem hmem, hwout, get_mantLine, Lanes.get_gen _ hk, hy]
      rfl
    · rw [State.unitLine_of_mem hmem, hwline, mantLine_lane, hold]
      rfl
    · rw [hat] at h1
      rw [hat, hat] at h2 h3
      rw [hmem, r.byte_firStored h1 h2 h3, ← hr, State.sameBesideCounts_mem (s.unitReads_same u _)]

end Sys2Proof.Machine
end

section
/-! PROOFS. A host command that meets no check, and what it leaves when it is carried out (R16, R134). -/

namespace Sys2Proof.Machine

/-! ### A command that points at its arguments and meets no check -/

/-- A command that meets no check has taken effect: `P` says what it does to the state. -/
theorem State.pointAt_carriedOut_exists {s : State} {c : Ctx} {opc : Nat} {args : List Nat} {np len : Nat} {rng : State → Nat}
    {cmd : State → Refusals × State} {P : State → Prop} (ha : s.admits c opc args = true)
    (hcmd : ∀ m wr l un res, ∃ u, P u ∧ cmd (s.logged m wr l un res) = ({}, u.logged m wr l un res)) :
    ∃ u, P u ∧ s.carriedOut (s.hostCommand c opc args fun x => pointAt np len (rng x) (cmd x)) c opc 0 u := by
  obtain ⟨m, wr, l, un, res, m', wr', l', un', res', rs, n, ht⟩ := s.hostCommand_accepted c opc args
    (fun x => pointAt np len (rng x) (cmd x)) ha fun m wr l un res => by
      obtain ⟨u, -, hu⟩ := hcmd m wr l un res
      exact ⟨congrArg Prod.fst hu, rfl⟩
  obtain ⟨u, hp, hu⟩ := hcmd m wr l un res
  refine ⟨u, hp, ?_⟩
  rw [ht, hu]
  exact s.concluded_carriedOut u c opc 0 m' wr' l' un' res' rs n

/-- A command that meets no check has taken effect: `u` is what it does to the state. -/
theorem State.pointAt_carriedOut {s u : State} {c : Ctx} {opc : Nat} {args : List Nat} {np len : Nat} {rng : State → Nat}
    {cmd : State → Refusals × State} (ha : s.admits c opc args = true)
    (hcmd : ∀ m wr l un res, cmd (s.logged m wr l un res) = ({}, u.logged m wr l un res)) :
    s.carriedOut (s.hostCommand c opc args fun x => pointAt np len (rng x) (cmd x)) c opc 0 u := by
  obtain ⟨_, rfl, h⟩ := State.pointAt_carriedOut_exists (P := (· = u)) ha fun m wr l un res => ⟨u, rfl, hcmd m wr l un res⟩
  exact h

/-! ### What a command carried out leaves -/

/-- A command carried out leaves its effect, and beside it memory, the host's books and the store alone can differ. -/
theorem State.carriedOut_effect {s t u : State} {c : Ctx} {opc : Nat} {detail : Word} (h : s.carriedOut t c opc detail u) :
    { t with mem := u.mem, bad := u.bad, badSeen := u.badSeen, wrong := u.wrong, host := u.host, store := u.store } = u :=
  congrArg (fun z : State => { z with mem := u.mem, bad := u.bad, badSeen := u.badSeen, wrong := u.wrong, host := u.host
                                      store := u.store }) h.2.2

section
variable {s t u : State} {c : Ctx} {opc : Nat} {detail : Word} (h : s.carriedOut t c opc detail u)
include h

theorem State.carriedOut_axes : t.axes = u.axes := (congrArg State.axes (State.carriedOut_effect h) :)
theorem State.carriedOut_gens : t.gens = u.gens := (congrArg State.gens (State.carriedOut_effect h) :)
theorem State.carriedOut_regs : t.regs = u.regs := (congrArg State.regs (State.carriedOut_effect h) :)
theorem State.carriedOut_encs : t.encs = u.encs := (congrArg State.encs (State.carriedOut_effect h) :)
theorem State.carriedOut_sers : t.sers = u.sers := (congrArg State.sers (State.carriedOut_effect h) :)
theorem State.carriedOut_rems : t.rems = u.rems := (congrArg State.rems (State.carriedOut_effect h) :)
theorem State.carriedOut_plant : t.plant = u.plant := (congrArg State.plant (State.carriedOut_effect h) :)
theorem State.carriedOut_gov : t.gov = u.gov := (congrArg State.gov (State.carriedOut_effect h) :)
theorem State.carriedOut_axis (i : Nat) : t.axis i = u.axis i := (congrArg (State.axis · i) (State.carriedOut_effect h) :)
theorem State.carriedOut_gen (g : Nat) : t.gen g = u.gen g := (congrArg (State.gen · g) (State.carriedOut_effect h) :)
end

/-! ### The log beside a change -/

theorem State.logged_commitRegs (s : State) (l : List Nat) (m : Tab Byte) (wr lk un : Word) (res : Nat) :
    (s.logged m wr lk un res).commitRegs l = (s.commitRegs l).logged m wr lk un res := by
  induction l generalizing s with
  | nil => rfl
  | cons o r ih => exact ih (s.commitOne o)

theorem State.logged_setAxis (s : State) (i : Nat) (a : Axis) (m : Tab Byte) (wr lk un : Word) (res : Nat) :
    (s.logged m wr lk un res).setAxis i a = (s.setAxis i a).logged m wr lk un res := rfl

theorem State.logged_setGen (s : State) (g : Nat) (x : Gen) (m : Tab Byte) (wr l un : Word) (res : Nat) :
    (s.logged m wr l un res).setGen g x = (s.setGen g x).logged m wr l un res := rfl

/-! ### Registers committed (R134) -/

/-- A register of the list reads its staged copy, any other one what it read (R134). -/
theorem State.cfgW_of_committed {s t : State} {l : List Nat} {regs : Regs} (hl : s.commitRegs l = { s with regs := regs })
    (h : t.regs = regs) (o : Nat) : t.cfgW o = if l.contains o then s.stgW o else s.cfgW o := by
  have hcfg : t.cfgW o = (s.commitRegs l).cfgW o := by
    rw [hl, State.cfgW, h]
    rfl
  rw [hcfg, s.cfgW_commitRegs l o]
  simp only [List.contains_iff_mem]

end Sys2Proof.Machine
end

section
/-! PROOFS. AX_ENABLE, AX_DISABLE, AX_MODE, AX_CLEAR, AX_COMMIT, AX_RETUNE and AX_SET_LOAD (R120, R130, R133-R141, R147). -/

namespace Sys2Proof.Machine

/-! ### The rows -/

theorem exec_axEnable (s : State) (c : Ctx) (i mode : Nat) :
    exec (.axEnable c i mode) s = .next (s.hostCommand c 0x40 [i, mode] (coreAxEnable i mode)) := rfl
theorem exec_axDisable (s : State) (c : Ctx) (i : Nat) :
    exec (.axDisable c i) s = .next (s.hostCommand c 0x41 [i] (coreAxDisable i)) := rfl
theorem exec_axMode (s : State) (c : Ctx) (i mode : Nat) (noPreset : Bool) : exec (.axMode c i mode noPreset) s =
    .next (s.hostCommand c 0x42 [i, mode, bitNat noPreset] (coreAxMode i mode noPreset)) := rfl
theorem exec_axCommit (s : State) (c : Ctx) (i : Nat) :
    exec (.axCommit c i) s = .next (s.hostCommand c 0x43 [i] (coreAxCommit i)) := rfl
theorem exec_axRetune (s : State) (c : Ctx) (i k : Nat) :
    exec (.axRetune c i k) s = .next (s.hostCommand c 0x44 [i, k] (coreAxRetune i k)) := rfl
theorem exec_axSetLoad (s : State) (c : Ctx) (i k f : Nat) :
    exec (.axSetLoad c i k f) s = .next (s.hostCommand c 0x45 [i, k, f] (coreAxSetLoad i k f)) := rfl
theorem exec_axClear (s : State) (c : Ctx) (i : Nat) :
    exec (.axClear c i) s = .next (s.hostCommand c 0x46 [i] (coreAxClear i)) := rfl

/-! ### What each command answers where it meets no check -/

/-- The manual outputs in use (R135, R160). -/
def State.umanWords (s : State) (i : Nat) : List Word := (List.range 4).map fun j => s.cfgW (axOff i (0x80 + 4 * j))

/-- The manual outputs with which AX_MODE enters MANUAL: the registers' at XFER_LEVEL 1, else the ones that law 1 gave (R135). -/
def State.transferWords (s : State) (i : Nat) : List Word :=
  if (s.cfgW (axOff i 0)).bit 2 then s.umanWords i else (List.range 4).map (stageWord (s.axis i).uSat1)

/-- What AX_DISABLE keeps of a latched reaction: a WARN (R144). -/
def warnOnly : Option Latch → Option Latch
  | some l => if l.react = 0 then some l else none
  | none => none

theorem State.axAbsent_of_mapped {s : State} {i : Nat} (hm : s.mapped i = true) : s.axAbsent i = false := by
  simp [State.axAbsent, hm]

section
variable {s : State} {i mode : Nat} (hm : s.mapped i = true) (hd : (s.axis i).st = .disabled) (hp : s.faults.pkg = false)
  (hs : s.swapForbids i = false) (h1 : mode ≤ 1)
include hm hd hp hs h1

/-- AX_ENABLE (R133, R135). -/
theorem cmdAxEnable_takes : cmdAxEnable false i mode s = ({}, if mode = 1 then
    (s.setAxis i { s.axis i with manual := s.umanWords i }).enterAx i .manual else s.enterAx i .auto) := by
  have hr : decide (1 < mode) = false := decide_eq_false (by omega)
  simp only [cmdAxEnable, State.axAbsent_of_mapped hm, State.axFaulted, hd, hp, hs, hr]
  rfl

theorem State.axEnable_carriedOut {c : Ctx} (ha : s.admits c 0x40 [i, mode] = true) (hh : s.safetyHolds i = false) :
    s.carriedOut (s.hostCommand c 0x40 [i, mode] (coreAxEnable i mode)) c 0x40 0 (if mode = 1 then
      (s.setAxis i { s.axis i with manual := s.umanWords i }).enterAx i .manual else s.enterAx i .auto) := by
  refine State.pointAt_carriedOut (cmd := fun x => cmdAxEnable (x.safetyHolds i) i mode x) ha fun m wr l un res => ?_
  have hcmd := cmdAxEnable_takes (s := s.logged m wr l un res) hm hd hp hs h1
  have hh' : (s.logged m wr l un res).safetyHolds i = false := hh
  rw [hh', hcmd]
  split <;> rfl
end

section
variable {s : State} {i : Nat} (hm : s.mapped i = true) (hf : (s.axis i).st ≠ .faulted) (hd : (s.axis i).st ≠ .disabled)
include hm hf hd

/-- AX_DISABLE of an enabled axis (R130, R133). -/
theorem cmdAxDisable_takes : cmdAxDisable i s =
    ({}, (s.setAxis i { s.axis i with latched := warnOnly (s.axis i).latched }).enterAx i .disabled) := by
  simp only [cmdAxDisable, State.axAbsent_of_mapped hm, State.axFaulted, decide_eq_false hf, if_neg hd]
  cases (s.axis i).latched <;> rfl

theorem State.axDisable_carriedOut {c : Ctx} (ha : s.admits c 0x41 [i] = true) :
    s.carriedOut (s.hostCommand c 0x41 [i] (coreAxDisable i)) c 0x41 0
      ((s.setAxis i { s.axis i with latched := warnOnly (s.axis i).latched }).enterAx i .disabled) :=
  State.pointAt_carriedOut (cmd := cmdAxDisable i) ha fun m wr l un res =>
    cmdAxDisable_takes (s := s.logged m wr l un res) hm hf hd
end

section
variable {s : State} {i : Nat} (hm : s.mapped i = true) (hst : (s.axis i).st = .auto)
include hm hst

/-- AX_MODE from AUTO to MANUAL (R135). -/
theorem cmdAxMode_manual : cmdAxMode i 1 0 s =
    ({}, (s.setAxis i { s.axis i with manual := s.transferWords i }).enterAx i .manual) := by
  simp only [cmdAxMode, State.axAbsent_of_mapped hm, State.axFaulted, hst]
  rfl

theorem State.axMode_manual_carriedOut {c : Ctx} (ha : s.admits c 0x42 [i, 1, 0] = true) :
    s.carriedOut (s.hostCommand c 0x42 [i, 1, 0] (coreAxMode i 1 false)) c 0x42 0
      ((s.setAxis i { s.axis i with manual := s.transferWords i }).enterAx i .manual) :=
  State.pointAt_carriedOut (cmd := cmdAxMode i 1 0) ha fun m wr l un res =>
    cmdAxMode_manual (s := s.logged m wr l un res) hm hst
end

section
variable {s : State} {i : Nat} (hm : s.mapped i = true) (hst : (s.axis i).st = .manual)
  (hx : (s.cfgW (axOff i 0)).bit 2 = true)
include hm hst hx

/-- AX_MODE from MANUAL back to AUTO without a preset, at XFER_LEVEL 1 (R135, R137). -/
theorem cmdAxMode_auto : cmdAxMode i 0 1 s = ({}, (s.setAxis i { s.axis i with firstAuto := false }).enterAx i .auto) := by
  simp [cmdAxMode, State.axAbsent_of_mapped hm, State.axFaulted, hst, State.axCfg, hx]

theorem State.axMode_auto_carriedOut {c : Ctx} (ha : s.admits c 0x42 [i, 0, 1] = true) :
    s.carriedOut (s.hostCommand c 0x42 [i, 0, 1] (coreAxMode i 0 true)) c 0x42 0
      ((s.setAxis i { s.axis i with firstAuto := false }).enterAx i .auto) :=
  State.pointAt_carriedOut (cmd := cmdAxMode i 0 1) ha fun m wr l un res =>
    cmdAxMode_auto (s := s.logged m wr l un res) hm hst hx
end

section
variable {s : State} {i : Nat} (hm : s.mapped i = true) (hl : (s.axis i).latched = none)
  (hst : (s.axis i).st = .hold ∨ (s.axis i).st = .qstop ∨ (s.axis i).st = .sto)
include hm hl hst

/-- AX_CLEAR where no reaction is latched any longer (R147). -/
theorem cmdAxClear_takes : cmdAxClear true i s =
    ({}, (s.setAxis i { s.axis i with supCount := 0 }).enterAx i (if (s.axis i).st = .sto then .disabled else .auto)) := by
  rcases hst with hs | hs | hs <;> simp [cmdAxClear, State.axAbsent_of_mapped hm, State.axFaulted, hs, hl]

theorem State.axClear_carriedOut {c : Ctx} (ha : s.admits c 0x46 [i] = true) (hh : s.safetyHolds i = false) :
    s.carriedOut (s.hostCommand c 0x46 [i] (coreAxClear i)) c 0x46 0
      ((s.setAxis i { s.axis i with supCount := 0 }).enterAx i (if (s.axis i).st = .sto then .disabled else .auto)) := by
  refine State.pointAt_carriedOut (cmd := fun x => cmdAxClear (!x.safetyHolds i) i x) ha fun m wr l un res => ?_
  have hh' : (s.logged m wr l un res).safetyHolds i = false := hh
  rw [hh']
  exact cmdAxClear_takes (s := s.logged m wr l un res) hm hl hst
end

section
variable {s : State} {i k f : Nat} {w : ServoWire} (hm : s.mapped i = true) (hf : (s.axis i).st ≠ .faulted)
  (hw : s.servoWire i = some w) (hk : k < s.axRegions i) (hload : s.loadRefused i (some f) = false)
include hm hf hw hk hload

section
variable (hrow : cascadeInRange (s.cascadeRow i k) s.periodNs = true)
  (hsat : cascadeSaturates w (cascadeEntries w (s.cascadeRow i k) s.periodNs) = false) (hform : w.form = false)
  (hx : (s.cfgW (axOff i 0)).bit 1 = false) (hslot : s.retuneSlot i k = some f)
include hrow hsat hform hx hslot

/-- AX_RETUNE of a basic axis (R120, R121, R141). -/
theorem cmdAxRetune_takes : cmdAxRetune i k s = ({}, s.startLoad i k f
    (cascadeSet w (cascadeEntries w (s.cascadeRow i k) s.periodNs)) (some (nthD 0 (s.cascadeRow i k) 7))) := by
  simp only [cmdAxRetune, hw, State.axAbsent_of_mapped hm, State.axFaulted, decide_eq_false hf, decide_eq_false (not_le.mpr hk),
    hrow, hsat, hform, State.axCfg, hx, hslot, hload]
  rfl

theorem State.axRetune_carriedOut {c : Ctx} (ha : s.admits c 0x44 [i, k] = true) :
    s.carriedOut (s.hostCommand c 0x44 [i, k] (coreAxRetune i k)) c 0x44 0 (s.startLoad i k f
      (cascadeSet w (cascadeEntries w (s.cascadeRow i k) s.periodNs)) (some (nthD 0 (s.cascadeRow i k) 7))) :=
  State.pointAt_carriedOut (rng := fun x => if x.axRegions i ≤ k then 6 else 0) (cmd := cmdAxRetune i k) ha
    fun m wr l un res => cmdAxRetune_takes (s := s.logged m wr l un res) hm hf hw hk hload hrow hsat hform hx hslot
end

section
variable (hf16 : f < 16) (hx : (s.cfgW (axOff i 0)).bit 1 = true) (hslot : s.slotSuits i k f = true)
include hf16 hx hslot

/-- AX_SET_LOAD of an expert axis (R141). -/
theorem cmdAxSetLoad_takes : cmdAxSetLoad i k f s = ({}, s.startLoad i k f (s.stagingSet w) none) := by
  simp only [cmdAxSetLoad, hw, State.axAbsent_of_mapped hm, State.axFaulted, decide_eq_false hf, decide_eq_false (not_le.mpr hk),
    decide_eq_false (show ¬15 < f by omega), State.axCfg, hx, hslot, if_pos, hload]
  rfl

theorem State.axSetLoad_carriedOut {c : Ctx} (ha : s.admits c 0x45 [i, k, f] = true) :
    s.carriedOut (s.hostCommand c 0x45 [i, k, f] (coreAxSetLoad i k f)) c 0x45 0 (s.startLoad i k f (s.stagingSet w) none) :=
  State.pointAt_carriedOut (rng := fun x => if x.axRegions i ≤ k then 6 else 7) (cmd := cmdAxSetLoad i k f) ha
    fun m wr l un res => cmdAxSetLoad_takes (s := s.logged m wr l un res) hm hf hw hk hload hf16 hx hslot
end
end

/-! ### What each leaves -/

/-- An axis has entered a state, its generator with it (R130, R177), and nothing else differs. -/
def State.axisMoved (s t : State) (c : Ctx) (opc i : Nat) : Prop :=
  s.carriedOut t c opc 0 { s with axes := t.axes, gens := t.gens } ∧ s.axesSame t i ∧
    t.gen i = followState (t.axis i).st (s.kindOf i == 2) (s.gen i)

theorem State.axis_enterAx (s : State) (i : Nat) (st : AxSt) (j : Nat) :
    (s.enterAx i st).axis j = if j = i then { s.axis i with st := st } else s.axis j :=
  s.axis_setAxis i j _

theorem State.gen_enterAx (s : State) (i : Nat) (st : AxSt) (j : Nat) :
    (s.enterAx i st).gen j = if j = i then followState st (s.kindOf i == 2) (s.gen i) else s.gen j :=
  State.gen_setGen (s.setAxis i { s.axis i with st := st }) i j _

/-- A command that may set fields of an axis and lets it enter a state. -/
theorem State.enterAx_axisMoved {s t x : State} {c : Ctx} {opc i : Nat} {st : AxSt}
    (h : s.carriedOut t c opc 0 (x.enterAx i st)) (hx : x = { s with axes := x.axes })
    (hj : ∀ j, j ≠ i → x.axis j = s.axis j) :
    s.axisMoved t c opc i ∧ t.axis i = { x.axis i with st := st } := by
  have haxis (j : Nat) := (State.carriedOut_axis h j).trans (x.axis_enterAx i st j)
  have hgen (j : Nat) := (State.carriedOut_gen h j).trans (x.gen_enterAx i st j)
  have hgens (j : Nat) : x.gen j = s.gen j := by rw [hx]; rfl
  have hkind : x.kindOf i = s.kindOf i := by rw [hx]; rfl
  have hi : t.axis i = { x.axis i with st := st } := (haxis i).trans (if_pos rfl)
  refine ⟨⟨?_, fun j h' => ⟨?_, ?_⟩, ?_⟩, hi⟩
  · have hs : x.enterAx i st = { s with axes := (x.enterAx i st).axes, gens := (x.enterAx i st).gens } := by
      conv_lhs => rw [hx]
      conv_rhs => rw [hx]
      rfl
    rw [State.carriedOut_axes h, State.carriedOut_gens h, ← hs]
    exact h
  · rw [haxis, if_neg h', hj j h']
  · rw [hgen, if_neg h', hgens]
  · rw [hgen, if_pos rfl, hi, hkind, hgens]

/-- A command that sets fields of an axis and lets it enter a state. -/
theorem State.setAxis_enterAx_axisMoved {s t : State} {c : Ctx} {opc i : Nat} {st : AxSt} {a : Axis}
    (h : s.carriedOut t c opc 0 ((s.setAxis i a).enterAx i st)) : s.axisMoved t c opc i ∧ t.axis i = { a with st := st } := by
  obtain ⟨hmoved, hi⟩ := State.enterAx_axisMoved h rfl fun j hj => (s.axis_setAxis i j a).trans (if_neg hj)
  rw [State.axis_setAxis, if_pos rfl] at hi
  exact ⟨hmoved, hi⟩

/-- A set load that is carried out stands in its axis, due 64 passages later (R141). -/
theorem State.startLoad_carriedOut {s t : State} {c : Ctx} {opc i k f : Nat} {words : List Line} {iMax : Option Word}
    (h : s.carriedOut t c opc 0 (s.startLoad i k f words iMax)) : s.carriedOut t c opc 0 { s with axes := t.axes } ∧
      t.axis i = { s.axis i with load := some ⟨k, f, s.tt.passage + 64, words, iMax⟩ } ∧
      ∀ j, j ≠ i → t.axis j = s.axis j := by
  have haxis (j : Nat) := (State.carriedOut_axis h j).trans (s.axis_setAxis i j _)
  refine ⟨?_, (haxis i).trans (if_pos rfl), fun j hj => (haxis j).trans (if_neg hj)⟩
  rw [State.carriedOut_axes h]
  exact h

/-! ### AX_COMMIT (R134, R139) -/

/-- A page committed and its mark cleared (R134): the selector stands where it stood. -/
def State.axCommitted (s : State) (i : Nat) : State :=
  (s.commitRegs (axisStagedOffs.map (axOff i))).setAxis i { s.axis i with staged := false }

theorem State.logged_settleSelector (s : State) (i : Nat) (m : Tab Byte) (wr lk un : Word) (res : Nat) :
    (s.logged m wr lk un res).settleSelector i = (s.settleSelector i).logged m wr lk un res := by
  by_cases h : ((s.axis i).blend.isSome || (s.axis i).decided.isSome) = true
  · exact (if_pos h).trans (congrArg (·.logged m wr lk un res) (if_pos h : s.settleSelector i = s)).symm
  · exact (if_neg h).trans (congrArg (·.logged m wr lk un res) (if_neg h : s.settleSelector i = _)).symm

theorem State.logged_axCommitted (s : State) (i : Nat) (m : Tab Byte) (wr lk un : Word) (res : Nat) :
    (s.logged m wr lk un res).axCommitted i = (s.axCommitted i).logged m wr lk un res := by
  rw [State.axCommitted, State.logged_commitRegs, State.logged_setAxis]
  rfl

theorem State.settleSelector_only (s : State) (i : Nat) : ∃ axes, s.settleSelector i = { s with axes := axes } := by
  unfold State.settleSelector
  dsimp only
  split <;> exact ⟨_, rfl⟩

theorem State.axis_settleSelector_other (s : State) {i j : Nat} (hj : j ≠ i) : (s.settleSelector i).axis j = s.axis j := by
  unfold State.settleSelector
  dsimp only
  split
  · rfl
  · exact (s.axis_setAxis i j _).trans (if_neg hj)

/-- A selector in a blend stays (R139). -/
theorem State.settleSelector_blending {s : State} {i : Nat}
    (h : (s.axis i).blend.isSome = true ∨ (s.axis i).decided.isSome = true) : s.settleSelector i = s :=
  if_pos ((Bool.or_eq_true _ _).mpr h)

/-- A selector outside a blend stands on the set of its region (R139; log 98). -/
theorem State.axis_settleSelector {s : State} {i : Nat} (hb : (s.axis i).blend = none) (hd : (s.axis i).decided = none) :
    (s.settleSelector i).axis i =
      let r := if (s.axis i).region < s.axRegions i then (s.axis i).region else 0
      { s.axis i with region := r, sel := s.axMap i r, nxt := s.axMap i r, w := 0 } := by
  unfold State.settleSelector
  rw [if_neg (by simp [hb, hd])]
  exact (s.axis_setAxis i i _).trans (if_pos rfl)

theorem State.axMap_of_regs {s t : State} (h : t.regs = s.regs) (i k : Nat) : t.axMap i k = s.axMap i k := by
  simp only [State.axMap, State.axCfg, State.cfgW, h]

theorem State.axRegions_of_regs {s t : State} (h : t.regs = s.regs) (i : Nat) : t.axRegions i = s.axRegions i := by
  simp only [State.axRegions, State.axCfg, State.cfgW, h]

theorem State.axis_axCommitted (s : State) (i j : Nat) :
    (s.axCommitted i).axis j = if j = i then { s.axis i with staged := false } else s.axis j := by
  obtain ⟨_, hregs⟩ := s.commitRegs_eq (axisStagedOffs.map (axOff i))
  rw [State.axCommitted, State.axis_setAxis, hregs]
  rfl

section
variable {s : State} {i : Nat} (hm : s.mapped i = true) (hf : (s.axis i).st ≠ .faulted)
  (hlock : (s.cfgW (axOff i 0)).bit 31 = false) (hman : (s.axis i).st ≠ .manual)
  (hfix : (s.axis i).st.enabled = false ∨ s.axPageFixedChange i = false) (hr : s.axPageInRange i (s.servoWire i) = true)
include hm hf hlock hman hfix hr

/-- AX_COMMIT of an axis out of MANUAL (R134). -/
theorem cmdAxCommit_takes : cmdAxCommit i s = ({}, (s.axCommitted i).settleSelector i) := by
  have hill : ((s.axis i).st.enabled && s.axPageFixedChange i) = false := by
    rcases hfix with h | h <;> simp [h]
  simp only [cmdAxCommit, State.axAbsent_of_mapped hm, State.axFaulted, decide_eq_false hf, State.axCfg, hlock, if_neg hman, hill,
    hr]
  rfl

theorem State.axCommit_carriedOut {c : Ctx} (ha : s.admits c 0x43 [i] = true) :
    s.carriedOut (s.hostCommand c 0x43 [i] (coreAxCommit i)) c 0x43 0 ((s.axCommitted i).settleSelector i) := by
  refine State.pointAt_carriedOut (cmd := cmdAxCommit i) ha fun m wr l un res => ?_
  rw [cmdAxCommit_takes (s := s.logged m wr l un res) hm hf hlock hman hfix hr, State.logged_axCommitted,
    State.logged_settleSelector]
end

/-- What an AX_COMMIT that is carried out leaves: beside its axes and the registers of its page nothing differs. -/
theorem State.axCommitted_carriedOut {s t : State} {c : Ctx} {i : Nat}
    (h : s.carriedOut t c 0x43 0 ((s.axCommitted i).settleSelector i)) :
    ∃ regs, s.commitRegs (axisStagedOffs.map (axOff i)) = { s with regs := regs } ∧ t.regs = regs ∧
      (s.axCommitted i).regs = regs ∧ s.carriedOut t c 0x43 0 { s with axes := t.axes, regs := t.regs } := by
  obtain ⟨regs, hl⟩ := s.commitRegs_eq (axisStagedOffs.map (axOff i))
  obtain ⟨axes, hset⟩ := (s.axCommitted i).settleSelector_only i
  rw [hset, State.axCommitted, hl] at h
  refine ⟨regs, hl, State.carriedOut_regs h, by rw [State.axCommitted, hl]; rfl, ?_⟩
  rw [State.carriedOut_axes h, State.carriedOut_regs h]
  exact h

/-- Settles O21: each command meets no check, and its effect is read off what it leaves. -/
theorem axisCommands : Obligations.AxisCommands := by
  unfold Obligations.AxisCommands
  refine ⟨fun s c i hm => ⟨fun mode ha hd hh hp hs h1 => ⟨_, exec_axEnable s c i mode, ?_⟩,
      fun ha hf hd => ⟨_, exec_axDisable s c i, ?_⟩, fun ha hst => ⟨_, exec_axMode s c i 1 false, ?_⟩,
      fun ha hst hx => ⟨_, exec_axMode s c i 0 true, ?_⟩, fun ha hl hh hst => ⟨_, exec_axClear s c i, ?_⟩⟩,
    fun s c i hm hf => ⟨fun ha hlock hman hfix hr => ⟨_, exec_axCommit s c i, ?_⟩,
      fun k f w ha hw hk hrow hsat hform hx hslot hload => ⟨_, exec_axRetune s c i k, ?_⟩,
      fun k f w ha hw hk hf16 hx hslot hload => ⟨_, exec_axSetLoad s c i k f, ?_⟩⟩⟩
  · have h := State.axEnable_carriedOut hm hd hp hs h1 ha hh
    obtain rfl | rfl : mode = 0 ∨ mode = 1 := by omega
    · exact State.enterAx_axisMoved h rfl fun _ _ => rfl
    · exact State.setAxis_enterAx_axisMoved h
  · obtain ⟨hmoved, hi⟩ := State.setAxis_enterAx_axisMoved (State.axDisable_carriedOut hm hf hd ha)
    refine ⟨hmoved, congrArg Axis.st hi, fun l hl => (congrArg Axis.latched hi).trans ?_⟩
    exact congrArg warnOnly hl
  · exact State.setAxis_enterAx_axisMoved (State.axMode_manual_carriedOut hm hst ha)
  · exact State.setAxis_enterAx_axisMoved (State.axMode_auto_carriedOut hm hst hx ha)
  · exact State.setAxis_enterAx_axisMoved (State.axClear_carriedOut hm hl hst ha hh)
  · have h := State.axCommit_carriedOut hm hf hlock hman hfix hr ha
    obtain ⟨regs, hl, hregs, hcommitted, hc⟩ := State.axCommitted_carriedOut h
    have haxis := State.carriedOut_axis h
    have hi : (s.axCommitted i).axis i = { s.axis i with staged := false } := (s.axis_axCommitted i i).trans (if_pos rfl)
    refine ⟨hc, State.cfgW_of_committed hl hregs, fun hb => ?_, fun hb hd => ?_, fun j hj => ?_⟩
    · rw [haxis, State.settleSelector_blending (by rw [hi]; exact hb), hi]
    · rw [haxis, State.axis_settleSelector (by rw [hi]; exact hb) (by rw [hi]; exact hd), hi]
      simp only [State.axRegions_of_regs (hregs.trans hcommitted.symm), State.axMap_of_regs (hregs.trans hcommitted.symm)]
    · rw [haxis, State.axis_settleSelector_other _ hj, State.axis_axCommitted, if_neg hj]
  · exact State.startLoad_carriedOut (State.axRetune_carriedOut hm hf hw hk hload hrow hsat hform hx hslot ha)
  · exact State.startLoad_carriedOut (State.axSetLoad_carriedOut hm hf hw hk hload hf16 hx hslot ha)

end Sys2Proof.Machine
end

section
/-! PROOFS. PF_COMMIT, FB_COMMIT, RG_COMMIT, PTP_COMMIT and GOV_COMMIT (R134, R174, R236, R281, R317, R428). -/

namespace Sys2Proof.Machine

/-! ### The rows -/

theorem exec_pfCommit (s : State) (c : Ctx) (g : Nat) :
    exec (.pfCommit c g) s = .next (s.hostCommand c 0x56 [g] (corePfCommit g)) := rfl
theorem exec_fbCommit (s : State) (c : Ctx) (ch : Nat) :
    exec (.fbCommit c ch) s = .next (s.hostCommand c 0x60 [ch] (coreFbCommit ch)) := rfl
theorem exec_rgCommit (s : State) (c : Ctx) (r : Nat) :
    exec (.rgCommit c r) s = .next (s.hostCommand c 0x70 [r] (coreRgCommit r)) := rfl
theorem exec_ptpCommit (s : State) (c : Ctx) : exec (.ptpCommit c) s = .next (s.hostCommand c 0x82 [] corePtpCommit) := rfl
theorem exec_govCommit (s : State) (c : Ctx) : exec (.govCommit c) s = .next (s.hostCommand c 0xB0 [] coreGovCommit) := rfl

/-! ### The marks of a channel's page -/

/-- The staged mark stands in the tables of the channels. -/
theorem State.fbUnstage_only (s : State) (ch : Nat) : ∃ encs sers rems,
    s.fbUnstage ch = { s with encs := encs, sers := sers, rems := rems } := by
  unfold State.fbUnstage
  (repeat' split) <;> exact ⟨_, _, _, rfl⟩

theorem State.logged_fbUnstage (s : State) (ch : Nat) (m : Tab Byte) (wr l un : Word) (res : Nat) :
    (s.logged m wr l un res).fbUnstage ch = (s.fbUnstage ch).logged m wr l un res := by
  unfold State.fbUnstage
  (repeat' split) <;> rfl

/-! ### What each command answers where it meets no check, and its effect -/

section
variable {s : State} {g : Nat} (hab : s.genAbsent g = false) (hf : s.genFaulted g = false)
  (hlock : (s.cfgW (pfOff g 0)).bit 31 = false) (hr : s.genPageInRange g = true) (hst : (s.gen g).gst ≠ .home)
  (hch : 512 ≤ g → (s.chan (g - 512)).enabled = false)
include hab hf hlock hr hst hch

/-- PF_COMMIT outside a homing and of a channel that is off (R174, R175, R190). -/
theorem cmdPfCommit_takes :
    ∃ x : Gen, x.staged = false ∧ cmdPfCommit g s = ({}, (s.commitRegs (genStagedOffs g)).setGen g x) := by
  have hoff : (decide (512 ≤ g) && (s.chan (g - 512)).enabled) = false := by
    by_cases h : 512 ≤ g
    · rw [hch h, Bool.and_false]
    · rw [decide_eq_false h, Bool.false_and]
  refine ⟨_, ?_, Prod.ext ?_ rfl⟩
  · rfl
  · simp only [cmdPfCommit, hab, hf, hlock, hr, decide_eq_false hst, hoff]
    rfl

theorem State.pfCommit_carriedOut {c : Ctx} (ha : s.admits c 0x56 [g] = true) :
    ∃ u, (∃ x : Gen, x.staged = false ∧ u = (s.commitRegs (genStagedOffs g)).setGen g x) ∧
      s.carriedOut (s.hostCommand c 0x56 [g] (corePfCommit g)) c 0x56 0 u := by
  refine State.pointAt_carriedOut_exists (cmd := cmdPfCommit g) ha fun m wr l un res => ?_
  obtain ⟨x, hx, hcmd⟩ := cmdPfCommit_takes (s := s.logged m wr l un res) hab hf hlock hr hst hch
  rw [hcmd, State.logged_commitRegs, State.logged_setGen]
  exact ⟨_, ⟨x, hx, rfl⟩, rfl⟩
end

section
variable {s : State} {ch : Nat} (hab : s.chAbsent ch = false) (hr : s.fbPageOk ch = true) (hf : s.fbFeedsEnabled ch = false)
include hab hr hf

/-- FB_COMMIT of a channel that feeds no enabled axis (R236). -/
theorem cmdFbCommit_takes : cmdFbCommit ch s = ({}, (s.commitRegs (fbStagedOffs ch)).fbUnstage ch) := by
  simp only [cmdFbCommit, hab, hr, hf]
  rfl

theorem State.fbCommit_carriedOut {c : Ctx} (ha : s.admits c 0x60 [ch] = true) :
    s.carriedOut (s.hostCommand c 0x60 [ch] (coreFbCommit ch)) c 0x60 0 ((s.commitRegs (fbStagedOffs ch)).fbUnstage ch) :=
  State.pointAt_carriedOut (cmd := cmdFbCommit ch) ha fun m wr l un res => by
    rw [cmdFbCommit_takes (s := s.logged m wr l un res) hab hr hf, State.logged_commitRegs, State.logged_fbUnstage]
end

section
variable {s : State} {r : Nat} (h4 : r < 4) (hr : ringCfgOk (s.stgW (0x40008 + 0x4000 * r)) = true) (hx : s.ringExpert r = true)
include h4 hr hx

/-- RG_COMMIT at the expert level (R281). -/
theorem cmdRgCommit_takes : cmdRgCommit r s = ({}, s.commitRegs [0x40008 + 0x4000 * r]) := by
  simp only [cmdRgCommit, decide_eq_false (not_le.mpr h4), hr, hx]
  rfl

theorem State.rgCommit_carriedOut {c : Ctx} (ha : s.admits c 0x70 [r] = true) :
    s.carriedOut (s.hostCommand c 0x70 [r] (coreRgCommit r)) c 0x70 0 (s.commitRegs [0x40008 + 0x4000 * r]) :=
  State.pointAt_carriedOut (cmd := cmdRgCommit r) ha fun m wr l un res => by
    rw [cmdRgCommit_takes (s := s.logged m wr l un res) h4 hr hx, State.logged_commitRegs]
end

/-- What PTP_COMMIT leaves of the port: no staged mark, and a new ROLE in its first port state (R313; log 39). -/
def State.plantCommitted (s : State) (q : Plant) : Prop :=
  q.staged = false ∧ ((s.stgW 0xD0100).bits 30 2 ≠ (s.cfgW 0xD0100).bits 30 2 →
    q.portState = rolePortState ((s.stgW 0xD0100).bits 30 2))

section
variable {s : State} (hr : s.plantOk = true) (hp : s.plant.portState = 3)
include hr hp

/-- PTP_COMMIT while the port is DISABLED (R317). -/
theorem cmdPtpCommit_takes :
    ∃ q, s.plantCommitted q ∧ cmdPtpCommit s = ({}, { s.commitRegs plantStagedOffs with plant := q }) := by
  have hcfg : (s.commitRegs plantStagedOffs).cfgW 0xD0100 = s.stgW 0xD0100 :=
    (s.cfgW_commitRegs plantStagedOffs 0xD0100).trans (if_pos (by decide))
  refine ⟨_, ⟨?_, fun h => ?_⟩, Prod.ext ?_ rfl⟩
  · rfl
  · rw [← hcfg]
    exact if_pos (bne_iff_ne.mpr h)
  · simp only [cmdPtpCommit, hr, hp, bne_self_eq_false, Bool.and_false]
    rfl

theorem State.ptpCommit_carriedOut {c : Ctx} (ha : s.admits c 0x82 [] = true) :
    ∃ u, (∃ q, s.plantCommitted q ∧ u = { s.commitRegs plantStagedOffs with plant := q }) ∧
      s.carriedOut (s.hostCommand c 0x82 [] corePtpCommit) c 0x82 0 u := by
  refine State.pointAt_carriedOut_exists (cmd := cmdPtpCommit) ha fun m wr l un res => ?_
  obtain ⟨q, hq, hcmd⟩ := cmdPtpCommit_takes (s := s.logged m wr l un res) hr hp
  rw [hcmd, State.logged_commitRegs]
  exact ⟨_, ⟨q, hq, rfl⟩, rfl⟩
end

section
variable {s : State} (hr : s.govInRange = true)
include hr

/-- GOV_COMMIT of settings in range (R428). -/
theorem cmdGovCommit_takes :
    ∃ g : Gov, cmdGovCommit s = ({}, { s.commitRegs [0x20008, 0x2000C, 0x20010, 0x20014] with gov := g }) := by
  refine ⟨_, Prod.ext ?_ rfl⟩
  simp only [cmdGovCommit, hr]
  rfl

theorem State.govCommit_carriedOut {c : Ctx} (ha : s.admits c 0xB0 [] = true) :
    ∃ u, (∃ g : Gov, u = { s.commitRegs [0x20008, 0x2000C, 0x20010, 0x20014] with gov := g }) ∧
      s.carriedOut (s.hostCommand c 0xB0 [] coreGovCommit) c 0xB0 0 u := by
  refine State.pointAt_carriedOut_exists (cmd := cmdGovCommit) ha fun m wr l un res => ?_
  obtain ⟨g, hcmd⟩ := cmdGovCommit_takes (s := s.logged m wr l un res) hr
  rw [hcmd, State.logged_commitRegs]
  exact ⟨_, ⟨g, rfl⟩, rfl⟩
end

/-- Settles O24, command by command: the page's registers are committed, and beside them only the marks and values of their
own block change. -/
theorem commitsTakeEffect : Obligations.CommitsTakeEffect := by
  unfold Obligations.CommitsTakeEffect
  intro s c
  refine ⟨fun g ha hab hf hlock hr hst hch => ⟨_, exec_pfCommit s c g, ?_⟩,
    fun ch ha hab hr hf => ⟨_, exec_fbCommit s c ch, ?_⟩, fun r ha h4 hr hx => ⟨_, exec_rgCommit s c r, ?_⟩,
    fun ha hr hp => ⟨_, exec_ptpCommit s c, ?_⟩, fun ha hr => ⟨_, exec_govCommit s c, ?_⟩⟩
  · obtain ⟨_, ⟨x, hx, rfl⟩, h⟩ := State.pfCommit_carriedOut hab hf hlock hr hst hch ha
    obtain ⟨regs, hl⟩ := s.commitRegs_eq (genStagedOffs g)
    rw [hl] at h
    have hgen (j : Nat) := (State.carriedOut_gen h j).trans (State.gen_setGen _ g j x)
    refine ⟨?_, State.cfgW_of_committed hl (State.carriedOut_regs h), ?_, fun j hj => (hgen j).trans (if_neg hj)⟩
    · rw [State.carriedOut_regs h, State.carriedOut_gens h]
      exact h
    · rw [hgen, if_pos rfl, hx]
  · have h := State.fbCommit_carriedOut hab hr hf ha
    obtain ⟨regs, hl⟩ := s.commitRegs_eq (fbStagedOffs ch)
    obtain ⟨_, _, _, hun⟩ := State.fbUnstage_only { s with regs := regs } ch
    rw [hl, hun] at h
    refine ⟨State.cfgW_of_committed hl (State.carriedOut_regs h), ?_⟩
    rw [State.carriedOut_encs h, State.carriedOut_sers h, State.carriedOut_rems h, State.carriedOut_regs h]
    exact h
  · have h := State.rgCommit_carriedOut h4 hr hx ha
    obtain ⟨regs, hl⟩ := s.commitRegs_eq [0x40008 + 0x4000 * r]
    rw [hl] at h
    refine ⟨State.cfgW_of_committed hl (State.carriedOut_regs h), ?_⟩
    rw [State.carriedOut_regs h]
    exact h
  · obtain ⟨_, ⟨q, ⟨hstaged, hrole⟩, rfl⟩, h⟩ := State.ptpCommit_carriedOut hr hp ha
    obtain ⟨regs, hl⟩ := s.commitRegs_eq plantStagedOffs
    rw [hl] at h
    have hplant : _ = q := State.carriedOut_plant h
    refine ⟨State.cfgW_of_committed hl (State.carriedOut_regs h), ?_, ?_, ?_⟩
    · rw [State.carriedOut_regs h, hplant]
      exact h
    · rw [hplant, hstaged]
    · rw [hplant]
      exact hrole
  · obtain ⟨_, ⟨g, rfl⟩, h⟩ := State.govCommit_carriedOut hr ha
    obtain ⟨regs, hl⟩ := s.commitRegs_eq [0x20008, 0x2000C, 0x20010, 0x20014]
    rw [hl] at h
    refine ⟨State.cfgW_of_committed hl (State.carriedOut_regs h), ?_⟩
    rw [State.carriedOut_regs h, State.carriedOut_gov h]
    exact h

end Sys2Proof.Machine
end

section
/-! PROOFS. Clears, the performance counters, the bandwidth monitor and the PC sampler (R153, R429, R530-R534). -/

namespace Sys2Proof.Machine

/-! ### The rows -/

theorem exec_delayMaxClear (s : State) (agent : Nat) {i : Nat} (hi : i < 512) :
    exec (.delayMaxClear agent i) s = .next (s.hostWrite agent (axOff i 0x14) 0x80000000#32) := congrArg _ (if_pos hi)
theorem exec_govClear (s : State) (agent : Nat) :
    exec (.govClear agent) s = .next (s.hostWrite agent 0x20000 (s.keepWord 0x20000 ||| 2#32)) := rfl
theorem exec_perfClear (s : State) (agent : Nat) :
    exec (.perfClear agent) s = .next (s.hostWrite agent 0xB0000 (s.keepWord 0xB0000 ||| 2#32)) := rfl
theorem exec_perfFreeze (s : State) (agent : Nat) (f : Bool) : exec (.perfFreeze agent f) s =
    .next (s.hostWrite agent 0xB0000 ((s.keepWord 0xB0000 &&& ~~~(4#32)) ||| (if f then 4#32 else 0#32))) := rfl
theorem exec_perfCfgWrite (s : State) (agent : Nat) {k : Nat} (w : Word) (hk : k < 128) :
    exec (.perfCfgWrite agent k w) s = .next (s.hostWrite agent (0xB0100 + 4 * k) w) := congrArg _ (if_pos hk)
theorem exec_bwMonitorEnable (s : State) (agent : Nat) {m : Nat} (w : Word) (hm : m < 16) :
    exec (.bwMonitorEnable agent m w) s = .next (s.hostWrite agent (0xB0800 + 0x10 * m) (w ||| 0x80000000#32)) :=
  congrArg _ (if_pos hm)
theorem exec_bwWindowEnd (s : State) (m bytes busy : Nat) :
    exec (.bwWindowEnd m bytes busy) s = .next (s.bwWindowEnd m bytes busy) := rfl
theorem exec_pcSample (s : State) (c : Nat) (waiting : Bool) : exec (.pcSample c waiting) s = .next (s.pcSample c waiting) := rfl

/-! ### Words written back -/

/-- Fields of `k` that are kept in `f` and not in `x` are those of `a`. -/
theorem Word.keptFields_xor {a f x k : Word} (hf : k &&& ~~~f = 0#32) (hx : x &&& k = 0#32) :
    (((a &&& f) ||| x) ^^^ a) &&& k = 0#32 := by
  refine BitVec.eq_of_getLsbD_eq fun i hi => ?_
  have hfi := congrArg (BitVec.getLsbD · i) hf
  have hxi := congrArg (BitVec.getLsbD · i) hx
  simp only [BitVec.getLsbD_and, BitVec.getLsbD_not, BitVec.getLsbD_or, BitVec.getLsbD_xor, BitVec.getLsbD_zero, hi,
    decide_true, Bool.true_and] at hfi hxi ⊢
  generalize a.getLsbD i = a', f.getLsbD i = f', x.getLsbD i = x', k.getLsbD i = k' at hfi hxi ⊢
  revert a' f' x' k'
  decide

/-- A register whose RW fields `r` are written back as they were. -/
theorem Word.writtenBack {a f x r : Word} (hf : r &&& ~~~f = 0#32) (hx : x &&& r = 0#32) :
    (a &&& ~~~r) ||| (((a &&& f) ||| x) &&& r) = a := by
  refine BitVec.eq_of_getLsbD_eq fun i hi => ?_
  have hfi := congrArg (BitVec.getLsbD · i) hf
  have hxi := congrArg (BitVec.getLsbD · i) hx
  simp only [BitVec.getLsbD_and, BitVec.getLsbD_not, BitVec.getLsbD_or, BitVec.getLsbD_zero, hi, decide_true,
    Bool.true_and] at hfi hxi ⊢
  generalize a.getLsbD i = a', f.getLsbD i = f', x.getLsbD i = x', r.getLsbD i = k' at hfi hxi ⊢
  revert a' f' x' k'
  decide

/-- Bit 31 lies in no field below it. -/
theorem Word.bits_or_top (w : Word) {lo n : Nat} (h : lo + n ≤ 31) : Word.bits (w ||| 0x80000000#32) lo n = w.bits lo n := by
  refine Nat.eq_of_testBit_eq fun j => ?_
  rw [Word.bits, Word.bits, Nat.testBit_mod_two_pow, Nat.testBit_mod_two_pow, Nat.testBit_div_two_pow, Nat.testBit_div_two_pow,
    BitVec.toNat_or, Nat.testBit_or, show (0x80000000#32).toNat = 2 ^ 31 from rfl, Nat.testBit_two_pow]
  by_cases hj : j < n
  · rw [decide_eq_false (show 31 ≠ j + lo by omega), Bool.or_false]
  · rw [decide_eq_false hj, Bool.false_and, Bool.false_and]

/-! ### The host's write of a register without staged fields -/

/-- A place of GOV.CONTROL, of PERF beside its counters, or of a DELAY register (R153, R429, R534). -/
def counterPlace (off : Nat) : Prop :=
  off = 0x20000 ∨ 0xB0000 ≤ off ∧ off < 0xB0400 ∨ 0xB0600 ≤ off ∧ off < 0xC0000 ∨
    0x100000 ≤ off ∧ off < 0x180000 ∧ off % 0x400 = 0x14

theorem w1cOf_of_counterPlace {off : Nat} (h : counterPlace off) : w1cOf off = 0 := by
  unfold counterPlace at h
  unfold w1cOf
  by_cases axis : 0x100000 ≤ off
  · rw [if_pos axis, if_neg (by omega)]
  rw [if_neg axis, if_neg (by omega), if_neg (by omega), if_neg (by omega), if_neg (by omega), if_neg (by omega), if_neg (by omega),
    if_neg (by omega)]
  split
  case h_10 => rfl
  all_goals omega

theorem State.writeOther_of_counterPlace (s : State) (agent : Nat) {off : Nat} (w : Word) (h : counterPlace off) :
    s.writeOther agent off w = s := by
  unfold counterPlace at h
  unfold State.writeOther
  rw [if_neg (by omega), if_neg (by omega), if_neg (by omega), if_neg (by omega), if_neg (by omega), if_neg (by omega),
    if_neg (by omega), if_neg (by omega)]

/-- The host's write that changes no LK and no LOCK field takes the plain fields and acts on the pulses (R11, R548). -/
theorem State.hostWrite_counter (s : State) {off : Nat} {m : Mask} {w : Word} (hp : s.host.phase ≠ .por)
    (hplace : counterPlace off) (h4 : off % 4 = 0) (hm : maskOf off = some m) (hs : m.staged = false)
    (hk : s.lkChange off m w = false) (hl : s.lockSet off m w = false) :
    s.hostWrite 0 off w = (s.writePlain off m w).pulse off w := by
  have hw : s.writeReg 0 off w = ((s.writePlain off m w).pulse off w, false) := by
    have hb : hostBarred off = false := by
      unfold counterPlace at hplace
      exact decide_eq_false (by omega)
    have hlacks : s.writeLacks (agentOrigin 0) off m w = false := by
      unfold counterPlace at hplace
      have hacc : ¬(0x1000 ≤ off ∧ off < 0x2000) := by omega
      simp [State.writeLacks, hs, hk, hl, hacc]
    have hst : s.writeStaged 0 off m w (s.lockedAt off) = s := by simp [State.writeStaged, hs]
    unfold State.writeReg
    simp [isSoft, hb, hm, hlacks, hk, s.writeLk_of_no_change 0 (s.lockedAt off) hk hl, hst,
      State.clearFlags_of_zero _ w (w1cOf_of_counterPlace hplace), State.writeOther_of_counterPlace _ 0 w hplace]
  unfold counterPlace at hplace
  rw [s.hostWrite_host w hp (by omega) h4, s.writeAt_host _ (by omega) hw]

/-! ### CONTROL of GOV and PERF (R429, R534) -/

/-- A register without staged fields, without flags and without fields outside the register table, as it is written back. -/
theorem State.keepWord_stored (s : State) {off : Nat} {m : Mask} (hm : maskOf off = some m) (hs : m.staged = false)
    (hro : s.roWord off = 0) (hf : w1cOf off = 0) :
    s.keepWord off = s.cfgW off &&& (m.rw ||| m.lk ||| if m.lock then 0x80000000#32 else 0) := by
  have hread : s.readReg off = s.cfgW off &&& (m.rw ||| m.lk ||| if m.lock then 0x80000000#32 else 0) := by
    rw [State.readReg, hm]
    dsimp only
    rw [hs, hro]
    exact BitVec.or_zero.trans BitVec.and_or_distrib_left.symm
  rw [State.keepWord, hread, hf]
  exact BitVec.and_allOnes

/-- The host's write of a CONTROL register that keeps its LEVEL and its LOCK (R12). -/
theorem State.hostWrite_control (s : State) {off : Nat} {m : Mask} {w : Word} (hp : s.host.phase ≠ .por)
    (hplace : counterPlace off) (h4 : off % 4 = 0) (hm : maskOf off = some m) (hs : m.staged = false) (hlk : m.lk = 1#32)
    (hw : (w ^^^ s.cfgW off) &&& 0x80000001#32 = 0#32) : s.hostWrite 0 off w = (s.writePlain off m w).pulse off w := by
  have hk : s.lkChange off m w = false := by
    have hlevel : (w ^^^ s.cfgW off) &&& 1#32 = 0#32 := by
      rw [show 1#32 = 0x80000001#32 &&& 1#32 from rfl, ← BitVec.and_assoc, hw, BitVec.zero_and]
    have hsafe : off ≠ 0xA0000 := by unfold counterPlace at hplace; omega
    rw [State.lkChange, hs, if_neg Bool.false_ne_true, if_neg hsafe, hlk]
    exact bne_eq_false_iff_eq.mpr hlevel
  have hl : s.lockSet off m w = false := by
    have hlock : w.bit 31 = (s.cfgW off).bit 31 := by
      have h31 := congrArg (Word.bit · 31) hw
      simpa [Word.bit] using h31
    rw [State.lockSet, hlock]
    cases (s.cfgW off).bit 31 <;> simp
  exact s.hostWrite_counter hp hplace h4 hm hs hk hl

theorem State.keepWord_govControl (s : State) : s.keepWord 0x20000 = s.cfgW 0x20000 &&& 0x80000001#32 :=
  s.keepWord_stored (m := Mask.control) rfl rfl rfl rfl

theorem State.keepWord_perfControl (s : State) : s.keepWord 0xB0000 = s.cfgW 0xB0000 &&& 0x80000005#32 :=
  s.keepWord_stored (m := { rw := 4, lk := 1, lock := true, bank := 1 }) rfl rfl rfl rfl

/-- CONTROL.CLEAR of GOV (R429). -/
theorem State.hostWrite_govClear (s : State) (hp : s.host.phase ≠ .por) :
    s.hostWrite 0 0x20000 (s.keepWord 0x20000 ||| 2#32) = s.govClear := by
  rw [s.keepWord_govControl, s.hostWrite_control (m := Mask.control) hp (.inl rfl) rfl rfl rfl rfl
    (Word.keptFields_xor (by decide) (by decide))]
  have hbit : Word.bit (s.cfgW 0x20000 &&& 0x80000001#32 ||| 2#32) 1 = true := by rw [Word.bit_or, Bool.or_eq_true]; exact .inr rfl
  exact if_pos hbit

/-- PERF.CONTROL written: FREEZE is taken, the counters are cleared at CLEAR (R534). -/
theorem State.hostWrite_perfControl (s : State) {w : Word} (hp : s.host.phase ≠ .por)
    (hw : (w ^^^ s.cfgW 0xB0000) &&& 0x80000001#32 = 0#32) : s.hostWrite 0 0xB0000 w =
      let t := s.setCfg 0xB0000 ((s.cfgW 0xB0000 &&& ~~~4#32) ||| (w &&& 4#32))
      if w.bit 1 then { t with perf := { t.perf with counts := [] } } else t :=
  s.hostWrite_control (m := { rw := 4, lk := 1, lock := true, bank := 1 }) hp (.inr (.inl ⟨le_refl _, by decide⟩)) rfl rfl rfl
    rfl hw

/-- FREEZE written alone (R534). -/
theorem State.hostWrite_perfFreeze (s : State) (hp : s.host.phase ≠ .por) (f : Bool) :
    ∃ w : Word, s.hostWrite 0 0xB0000 ((s.keepWord 0xB0000 &&& ~~~(4#32)) ||| (if f then 4#32 else 0#32)) = s.setCfg 0xB0000 w ∧
      w.bit 2 = f ∧ w.bit 0 = (s.cfgW 0xB0000).bit 0 := by
  have hx : (if f then 4#32 else 0#32) &&& 0x80000001#32 = 0#32 := by cases f <;> rfl
  have hx1 : Word.bit (if f then 4#32 else 0#32) 1 = false := by cases f <;> rfl
  have hx2 : Word.bit (if f then 4#32 else 0#32) 2 = f := by cases f <;> rfl
  have hclear : Word.bit (s.cfgW 0xB0000 &&& (0x80000005#32 &&& ~~~4#32) ||| (if f then 4#32 else 0#32)) 1 = false := by
    rw [Word.bit_or, Word.bit_and, hx1, show Word.bit (0x80000005#32 &&& ~~~4#32) 1 = false from rfl, Bool.and_false]
    rfl
  rw [s.keepWord_perfControl, BitVec.and_assoc, s.hostWrite_perfControl hp (Word.keptFields_xor (by decide) hx)]
  dsimp only
  rw [if_neg (by rw [hclear]; exact Bool.false_ne_true)]
  refine ⟨_, rfl, ?_, ?_⟩
  · rw [Word.bit_or, Word.bit_and, Word.bit_and, Word.bit_or, Word.bit_and, hx2, show Word.bit (~~~4#32) 2 = false from rfl,
      show Word.bit (0x80000005#32 &&& ~~~4#32) 2 = false from rfl, show Word.bit 4#32 2 = true from rfl]
    simp
  · rw [Word.bit_or, Word.bit_and, Word.bit_and, show Word.bit (~~~4#32) 0 = true from rfl, show Word.bit 4#32 0 = false from rfl]
    simp

/-! ### Counters and monitors (R531, R532, R534) -/

theorem maskOf_perf {off : Nat} (h : off / 0x10000 = 0xB) : maskOf off = perfMask (off % 0x10000) := by
  rw [maskOf, if_neg (by omega), h]
  rfl

theorem maskOf_perfCfg {k : Nat} (hk : k < 128) : maskOf (0xB0100 + 4 * k) = some { rw := 0xC0FFFFFF } := by
  rw [maskOf_perf (by omega), perfMask, if_neg (by omega), if_neg (by omega), if_pos (by omega)]

theorem maskOf_bwCfg {m : Nat} (hm : m < 16) : maskOf (0xB0800 + 0x10 * m) = some { rw := 0xEFFFFFFF } := by
  rw [maskOf_perf (by omega), perfMask, if_neg (by omega), if_neg (by omega), if_neg (by omega), if_neg (by omega),
    if_pos (by omega), if_pos (by omega)]

/-- A PERF register of plain fields: its write has no pulse. -/
theorem State.hostWrite_perf (s : State) {off : Nat} {r : Word} (w : Word) (hp : s.host.phase ≠ .por)
    (hplace : counterPlace off) (h4 : off % 4 = 0) (hm : maskOf off = some { rw := r }) (hpulse : 0xB0000 < off ∧ off < 0xC0000) :
    s.hostWrite 0 off w = s.writePlain off { rw := r } w := by
  rw [s.hostWrite_counter hp hplace h4 hm rfl (s.lkChange_of_lk_zero off w rfl) (s.lockSet_of_no_lock off w rfl), State.pulse,
    if_neg (by omega), if_neg (by omega), if_neg (by omega)]

/-- The configuration of a counter is taken where its event is defined, and at the basic level while the counter is off (R531,
R534). -/
theorem State.plainOk_perfCfg (s : State) {k : Nat} (w : Word) (hk : k < 128) : s.plainOk (0xB0100 + 4 * k) w =
    (perfEventOk (w.bits 0 16) (w.bits 16 8) && ((s.cfgW 0xB0000).bit 0 || !(s.perfCfg k).bit 31 || !w.bit 31)) := by
  rw [State.plainOk, if_neg (by omega), if_neg (by omega), if_pos (by omega)]
  rfl

theorem State.plainEffect_perfCfg (s : State) {k : Nat} (w : Word) (hk : k < 128) : s.plainEffect (0xB0100 + 4 * k) w = s := by
  rw [State.plainEffect, if_neg (by omega), if_neg (by omega)]

theorem State.hostWrite_perfCfg (s : State) {k : Nat} (w : Word) (hp : s.host.phase ≠ .por) (hk : k < 128) :
    s.hostWrite 0 (0xB0100 + 4 * k) w =
      if perfEventOk (w.bits 0 16) (w.bits 16 8) && ((s.cfgW 0xB0000).bit 0 || !(s.perfCfg k).bit 31 || !w.bit 31) then
        s.setCfg (0xB0100 + 4 * k) ((s.perfCfg k &&& ~~~0xC0FFFFFF#32) ||| (w &&& 0xC0FFFFFF#32)) else s := by
  rw [s.hostWrite_perf w hp (by unfold counterPlace; omega) (by omega) (maskOf_perfCfg hk) (by omega), State.writePlain,
    s.plainOk_perfCfg w hk]
  cases perfEventOk (w.bits 0 16) (w.bits 16 8) && ((s.cfgW 0xB0000).bit 0 || !(s.perfCfg k).bit 31 || !w.bit 31) with
  | false => rfl
  | true => exact State.plainEffect_perfCfg _ w hk

@[simp] theorem State.bw_setBw (s : State) (i j : Nat) (x : Bw) : (s.setBw i x).bw j = if j = i then x else s.bw j := by
  simp [State.setBw, State.bw]

/-- A monitor that is turned on begins its windows at the next microsecond of RAW (R532). -/
theorem State.hostWrite_bwEnable (s : State) {m : Nat} {w : Word} (hp : s.host.phase ≠ .por) (hm : m < 16)
    (hport : portOk (w.bits 20 8) = true) (hkind : w.bits 29 2 ≠ 3) (h1 : 1 ≤ w.bits 0 20) (hmax : w.bits 0 20 ≤ 1000000)
    (hon : w.bit 31 = true) : s.hostWrite 0 (0xB0800 + 0x10 * m) w =
      (s.setCfg (0xB0800 + 0x10 * m) ((s.cfgW (0xB0800 + 0x10 * m) &&& ~~~0xEFFFFFFF#32) ||| (w &&& 0xEFFFFFFF#32))).setBw m
        { s.bw m with peak := 0, start := some (BitVec.ofNat 64 ((s.time.raw.toNat / 1000 + 1) * 1000)) } := by
  have hok : s.plainOk (0xB0800 + 0x10 * m) w = true := by
    rw [State.plainOk, if_neg (by omega), if_neg (by omega), if_neg (by omega), if_pos (by omega), hport, bne_iff_ne.mpr hkind,
      decide_eq_true ⟨h1, hmax⟩]
    rfl
  rw [s.hostWrite_perf w hp (by unfold counterPlace; omega) (by omega) (maskOf_bwCfg hm) (by omega), State.writePlain, hok]
  refine Eq.trans (if_neg (by decide)) ?_
  rw [State.plainEffect, if_neg (by omega), if_pos (by omega), show (0xB0800 + 0x10 * m - 0xB0800) / 0x10 = m by omega]
  exact if_pos hon

/-! ### DELAY (R153) -/

theorem maskOf_axDelay {i : Nat} (hi : i < 512) : maskOf (axOff i 0x14) = some Mask.none' := by
  rw [axOff, maskOf_axis (by omega), if_pos (by omega), show (0x100000 + 0x400 * i + 0x14) % 0x400 = 0x14 by omega]
  rfl

/-- DELAY.CLEAR (R153). -/
theorem State.hostWrite_delayClear (s : State) {i : Nat} (hp : s.host.phase ≠ .por) (hi : i < 512) :
    s.hostWrite 0 (axOff i 0x14) 0x80000000#32 = s.setAxis i { s.axis i with delayMax := 0 } := by
  have hplace : counterPlace (axOff i 0x14) := by unfold counterPlace axOff; omega
  rw [s.hostWrite_counter hp hplace (by unfold axOff; omega) (maskOf_axDelay hi) rfl (s.lkChange_of_lk_zero _ _ rfl)
    (s.lockSet_of_no_lock _ _ rfl), State.pulse, if_pos (by unfold axOff; omega)]
  have hinst : (axOff i 0x14 - 0x100000) / 0x400 = i := by unfold axOff; omega
  rw [hinst]
  rfl

/-! ### Windows and samples (R532, R533) -/

/-- The window that ends and the next one that begins where it ended (R532). -/
theorem State.bwWindowEnd_running (s : State) {m : Nat} {st : U64} (bytes busy : Nat) (hm : m < 16)
    (hen : (s.cfgW (0xB0800 + 0x10 * m)).bit 31 = true) (hst : (s.bw m).start = some st) :
    ∃ time rate peak windows, s.bwWindowEnd m bytes busy = State.setBw { s with time := time } m { s.bw m with
      rate := rate, peak := peak, bytes := BitVec.ofNat 64 bytes, busy := Nat.min 1000 busy, windows := windows
      number := (s.bw m).number + 1
      start := some (st + BitVec.ofNat 64 (1000 * (s.cfgW (0xB0800 + 0x10 * m)).bits 0 20)) } := by
  unfold State.bwWindowEnd
  dsimp only
  rw [if_neg (by simp [hm, hen]), hst]
  exact ⟨_, _, _, _, rfl⟩

/-- A store, whatever the performance counters do beside. -/
theorem State.memoryFrom_stored (s : State) (a : Nat) (bs : List Byte) (perf : Perf) :
    State.memoryFrom { s.store' a bs with perf := perf } s = s := rfl

/-- The eight bytes of a PC sample (R533). -/
def State.pcRecord (s : State) (c : Nat) (waiting : Bool) : List Byte :=
  bytesLE 4 (s.lux (80 + c)).pc ++ bytesLE 2 ((s.core c).task.getD 0xFFFF) ++
    [BitVec.ofNat 8 (bitNat (waiting && (s.core c).task.isSome) + 2 * bitNat (s.core c).task.isNone), 0]

theorem State.pcRecord_length (s : State) (c : Nat) (waiting : Bool) : (s.pcRecord c waiting).length = 8 := by
  simp [State.pcRecord, bytesLE_length]

/-- The place of a core's next PC sample in its ring (R533). -/
def State.pcPlace (s : State) (c : Nat) : Nat := 0x036F8000 + 0x1000 * c + 8 * ((Tab.get 0 s.perf.pcs c).toNat % 512)

theorem State.pcSample_on (s : State) {c : Nat} (waiting : Bool) (hc : c < 8) (hen : (s.cfgW (0xB0A00 + 0x10 * c)).bit 31 = true) :
    s.pcSample c waiting = { s.store' (s.pcPlace c) (s.pcRecord c waiting) with perf := { s.perf with
      pcs := Tab.put 0 s.perf.pcs c (Tab.get 0 s.perf.pcs c + 1) } } := by
  unfold State.pcSample
  rw [if_neg (by simp [hen, hc])]
  rfl

/-- Settles O45, row by row: a write of the host is one of its register alone. -/
theorem countersAndMonitors : Obligations.CountersAndMonitors := by
  unfold Obligations.CountersAndMonitors
  intro s hp
  refine ⟨fun i hi => ⟨_, exec_delayMaxClear s 0 hi, ?_⟩, ?_, ⟨_, exec_perfClear s 0, ?_⟩,
    fun f => ⟨_, exec_perfFreeze s 0 f, ?_⟩,
    fun k w hk => ⟨fun hev => ?_, fun hev hoff => ⟨_, exec_perfCfgWrite s 0 w hk, ?_⟩⟩,
    fun m w hm hport hkind h1 hmax => ⟨_, exec_bwMonitorEnable s 0 w hm, ?_⟩,
    fun m bytes busy st hm hen hst => ⟨_, exec_bwWindowEnd s m bytes busy, ?_⟩,
    fun c waiting hc hen => ⟨_, exec_pcSample s c waiting, ?_⟩⟩
  · rw [s.hostWrite_delayClear hp hi]
    exact ⟨(s.axis_setAxis i i _).trans (if_pos rfl), fun j hj => (s.axis_setAxis i j _).trans (if_neg hj), rfl⟩
  · rw [exec_govClear, s.hostWrite_govClear hp]
    rfl
  · have hw : (s.keepWord 0xB0000 ||| 2#32) = s.cfgW 0xB0000 &&& 0x80000005#32 ||| 2#32 := by rw [s.keepWord_perfControl]
    have hclear : Word.bit (s.cfgW 0xB0000 &&& 0x80000005#32 ||| 2#32) 1 = true := by
      rw [Word.bit_or, Bool.or_eq_true]; exact .inr rfl
    rw [hw, s.hostWrite_perfControl hp (Word.keptFields_xor (by decide) (by decide))]
    dsimp only
    rw [if_pos hclear, Word.writtenBack (by decide) (by decide)]
    refine ⟨fun _ => rfl, fun o => (s.cfgW_setCfg 0xB0000 o _).trans ?_, rfl⟩
    split
    next ho => rw [ho]
    · rfl
  · obtain ⟨w, heq, hfreeze, hlevel⟩ := s.hostWrite_perfFreeze hp f
    have hcfg := (s.cfgW_setCfg 0xB0000 0xB0000 w).trans (if_pos rfl)
    rw [heq, hcfg]
    exact ⟨hfreeze, hlevel, fun o ho => (s.cfgW_setCfg 0xB0000 o w).trans (if_neg ho), rfl⟩
  · rw [exec_perfCfgWrite s 0 w hk, s.hostWrite_perfCfg w hp hk, hev]
    rfl
  · have hok : (perfEventOk (w.bits 0 16) (w.bits 16 8) &&
        ((s.cfgW 0xB0000).bit 0 || !(s.perfCfg k).bit 31 || !w.bit 31)) = true := by
      rcases hoff with h | h <;> simp [hev, h]
    rw [s.hostWrite_perfCfg w hp hk, if_pos hok]
    exact ⟨(s.cfgW_setCfg _ _ _).trans (if_pos rfl), fun o ho => (s.cfgW_setCfg _ o _).trans (if_neg ho), rfl⟩
  · have hon : Word.bit (w ||| 0x80000000#32) 31 = true := by rw [Word.bit_or, Bool.or_eq_true]; exact .inr rfl
    have hbits {lo n : Nat} (h : lo + n ≤ 31) := Word.bits_or_top w h
    rw [s.hostWrite_bwEnable hp hm (by rw [hbits (by decide)]; exact hport) (by rw [hbits (by decide)]; exact hkind)
      (by rw [hbits (by decide)]; exact h1) (by rw [hbits (by decide)]; exact hmax) hon]
    refine ⟨?_, (State.bw_setBw _ m m _).trans (if_pos rfl), fun j hj => (State.bw_setBw _ m j _).trans (if_neg hj), rfl⟩
    have hcfg := s.cfgW_setCfg (0xB0800 + 0x10 * m) (0xB0800 + 0x10 * m)
      ((s.cfgW (0xB0800 + 0x10 * m) &&& ~~~0xEFFFFFFF#32) ||| ((w ||| 0x80000000#32) &&& 0xEFFFFFFF#32))
    rw [if_pos rfl] at hcfg
    refine (congrArg (Word.bit · 31) hcfg).trans ?_
    rw [Word.bit_or, Word.bit_and (w ||| _), hon, show Word.bit 0xEFFFFFFF#32 31 = true from rfl, Bool.and_true, Bool.or_true]
  · obtain ⟨time, rate, peak, windows, heq⟩ := s.bwWindowEnd_running bytes busy hm hen hst
    have hbw (j : Nat) := (congrArg (State.bw · j) heq).trans (State.bw_setBw { s with time := time } m j _)
    have hm' := (hbw m).trans (if_pos rfl)
    refine ⟨congrArg Bw.number hm', congrArg Bw.bytes hm', congrArg Bw.busy hm', congrArg Bw.start hm',
      fun j hj => (hbw j).trans (if_neg hj), ?_⟩
    rw [heq]
    rfl
  · have hbytes := s.store'_bytes (s.pcPlace c) (s.pcRecord c waiting)
    have hsame := s.store'_memorySame (s.pcPlace c) (s.pcRecord c waiting)
    rw [s.pcRecord_length] at hbytes hsame
    rw [s.pcSample_on waiting hc hen]
    exact ⟨hbytes, (Tab.get_put ..).trans (if_pos rfl), fun j hj => (Tab.get_put ..).trans (if_neg hj), hsame,
      s.memoryFrom_stored _ _ _⟩

end Sys2Proof.Machine
end

section
/-! PROOFS. MV_QUEUE, MV_CHANGE, MV_FLUSH and MV_QSTOP (R168-R173, R178). -/

namespace Sys2Proof.Machine

/-! ### The rows -/

theorem exec_mvQueue (s : State) (c : Ctx) (g : Nat) (target : U64) (vmax : Word) (relative blend : Bool) :
    exec (.mvQueue c g target vmax relative blend) s =
      .next (s.hostCommand c 0x50 [g, target.toNat, vmax.toNat, bitNat relative, bitNat blend]
        (coreMvQueue g target.toInt vmax relative blend)) := rfl
theorem exec_mvChange (s : State) (c : Ctx) (g : Nat) (target : U64) (vmax : Word) (chTarget chVmax : Bool) :
    exec (.mvChange c g target vmax chTarget chVmax) s =
      .next (s.hostCommand c 0x51 [g, target.toNat, vmax.toNat, bitNat chTarget, bitNat chVmax]
        (coreMvChange g target.toInt vmax chTarget chVmax)) := rfl
theorem exec_mvFlush (s : State) (c : Ctx) (g : Nat) :
    exec (.mvFlush c g) s = .next (s.hostCommand c 0x52 [g] (coreMvFlush g)) := rfl
theorem exec_mvQstop (s : State) (c : Ctx) (g : Nat) :
    exec (.mvQstop c g) s = .next (s.hostCommand c 0x53 [g] (coreMvQstop g)) := rfl

/-! ### The generator's own operations -/

/-- The target of a move queued behind the ones that wait (R168). -/
def Gen.goal (x : Gen) (target : Int) (relative : Bool) : Int := if relative then x.startPoint + target else target

/-- The generator with a move queued behind its others (R168, R169). -/
def Gen.enqueue (x : Gen) (goal : Int) (vmax : Nat) (blend : Bool) : Gen :=
  { x with moves := x.moves ++ [⟨goal, vmax, blend, false, true, false, x.startPoint⟩] }

theorem Gen.moveStart_of_current {x : Gen} {m : Move} (h : x.current = some m) : x.moveStart = m.start := by
  rw [Gen.moveStart, h]

/-- The clamped deceleration leaves the slots, the position and the speed (R176). -/
theorem Gen.clamp_motion (f : Profile) (x : Gen) :
    (x.clamp f).moves = x.moves ∧ (x.clamp f).p = x.p ∧ (x.clamp f).v = x.v := by
  unfold Gen.clamp
  split <;> exact ⟨rfl, rfl, rfl⟩

/-- A flush frees the QUEUED slots and moves nothing (R171). -/
theorem Gen.flushQueue_motion (f : Profile) (x : Gen) :
    (x.flushQueue f).moves = x.moves.filter (·.executing) ∧ (x.flushQueue f).p = x.p ∧ (x.flushQueue f).v = x.v := by
  unfold Gen.flushQueue
  dsimp only
  split
  · split
    · exact Gen.clamp_motion f _
    · exact ⟨rfl, rfl, rfl⟩
  · exact ⟨rfl, rfl, rfl⟩

/-- A soft stop of a generator that performs none and homes not: the slots are freed (R177, R178). -/
theorem Gen.askStop_running {x : Gen} (kind : StopKind) (hrun : x.gst = .run) (hstop : x.stop = none) (hhom : x.homing = none) :
    x.askStop kind = { x with gst := .stop, stop := some kind, moves := [], clampDec := none, braking := false } := by
  have habort : x.homeAbort 0x33 = x := by rw [Gen.homeAbort, hhom]
  rw [Gen.askStop, if_neg (by rw [hrun]; decide), hstop, habort]
  rfl

/-! ### What each command answers where it meets no check -/

section
variable {s : State} {g : Nat} (hab : s.genAbsent g = false) (hf : s.genFaulted g = false) (hbar : s.mvBarred g = false)
include hab hf hbar

/-- MV_QUEUE of a move in range, to a generator in control with a FREE slot (R168, R169, R172, R184). -/
theorem cmdMvQueue_takes {target : Int} {vmax : Word} {relative : Bool} (blend : Bool)
    (hnear : ((s.gen g).goal target relative - (s.gen g).startPoint).natAbs < 2 ^ 47) (hv : s.vmaxBad g vmax = false)
    (hst : (s.gen g).gst = .idle ∨ (s.gen g).gst = .run) (hact : s.genActive g = true)
    (hlim : (s.gen g).intoLimit ((s.gen g).goal target relative - (s.gen g).startPoint) = false) (hfree : 0 < (s.gen g).nFree) :
    cmdMvQueue g target vmax relative blend s =
      ({}, s.setGen g ((s.gen g).enqueue ((s.gen g).goal target relative) (speedUnits vmax s.periodNs).toNat blend)) := by
  have hrange : decide ((2 : Int) ^ 47 ≤ (((s.gen g).goal target relative - (s.gen g).startPoint).natAbs : Int)) = false :=
    decide_eq_false (by omega)
  have hgst : (decide ((s.gen g).gst = .idle) || decide ((s.gen g).gst = .run)) = true := by simpa using hst
  unfold Gen.goal at hrange hlim
  simp only [cmdMvQueue, hab, hf, hbar, hrange, hv, hgst, hact, hlim, decide_eq_false hfree.ne']
  rfl

section
variable (hrun : (s.gen g).gst = .run) {m : Move} (hcur : (s.gen g).current = some m)
include hrun hcur

/-- MV_CHANGE of the speed alone (R173). -/
theorem cmdMvChange_speed (target : Int) {vmax : Word} (hv : s.vmaxBad g vmax = false) :
    cmdMvChange g target vmax false true s = ({}, s.setGen g
      ((s.gen g).mapCurrent fun m => { m with vmax := (speedUnits vmax s.periodNs).toNat })) := by
  simp only [cmdMvChange, hab, hf, hbar, hv, hrun, hcur]
  rfl

/-- MV_CHANGE of the target alone, to one at which the move can still stop (R173, R184). -/
theorem cmdMvChange_target {target : Int} (vmax : Word) (hnear : (target - m.start).natAbs < 2 ^ 47)
    (hlim : (s.gen g).intoLimit (target * oneCount - (s.gen g).p) = false)
    (hstop : ((s.profile g).stopDist (s.gen g).v (s.profile g).vstop : Int) ≤
      (s.gen g).dir * (target * oneCount - (s.gen g).p)) :
    cmdMvChange g target vmax true false s =
      ({}, s.setGen g { (s.gen g).mapCurrent fun m => { m with target := target } with braking := false }) := by
  have hrange : decide ((2 : Int) ^ 47 ≤ ((target - m.start).natAbs : Int)) = false := decide_eq_false (by omega)
  simp only [cmdMvChange, hab, hf, hbar, hrun, hcur, Gen.moveStart_of_current hcur, hrange, hlim,
    decide_eq_false (not_lt.mpr hstop)]
  rfl
end

/-- MV_FLUSH outside a homing (R171). -/
theorem cmdMvFlush_takes (hst : (s.gen g).gst ≠ .home) :
    cmdMvFlush g s = ({}, s.setGen g ((s.gen g).flushQueue (s.profile g))) := by
  simp only [cmdMvFlush, hab, hf, hbar, decide_eq_false hst]
  rfl

/-- MV_QSTOP (R178). -/
theorem cmdMvQstop_takes : cmdMvQstop g s = ({}, s.setGen g ((s.gen g).askStop .quick)) := by
  simp only [cmdMvQstop, hab, hf, hbar]
end

/-! ### What each leaves -/

/-- A command that sets one generator leaves the others and the rest of the state. -/
theorem State.setGen_carriedOut {s t : State} {c : Ctx} {opc g : Nat} {x : Gen} (h : s.carriedOut t c opc 0 (s.setGen g x)) :
    (s.carriedOut t c opc 0 { s with gens := t.gens } ∧ ∀ j, j ≠ g → t.gen j = s.gen j) ∧ t.gen g = x := by
  have hgen (j : Nat) := (State.carriedOut_gen h j).trans (s.gen_setGen g j x)
  refine ⟨⟨?_, fun j hj => (hgen j).trans (if_neg hj)⟩, (hgen g).trans (if_pos rfl)⟩
  rw [State.carriedOut_gens h]
  exact h

/-- Settles O22: each command meets no check, and its generator is read off what it leaves. -/
theorem movesAreQueued : Obligations.MovesAreQueued := by
  unfold Obligations.MovesAreQueued
  refine fun s c g hab hf => ⟨fun target vmax relative blend ha hnear hv hst hact hbar hlim hfree =>
      ⟨_, exec_mvQueue s c g target vmax relative blend, ?_⟩,
    fun target vmax m ha hrun hcur hbar hv => ⟨_, exec_mvChange s c g target vmax false true, ?_⟩,
    fun target vmax m ha hrun hcur hbar hnear hlim hstop => ⟨_, exec_mvChange s c g target vmax true false, ?_⟩,
    fun ha hst hbar => ⟨_, exec_mvFlush s c g, ?_⟩, fun ha hbar hrun hstop hhom => ⟨_, exec_mvQstop s c g, ?_⟩⟩
  · exact State.setGen_carriedOut (State.pointAt_carriedOut (cmd := cmdMvQueue g target.toInt vmax relative blend) ha
      fun m wr l un res => cmdMvQueue_takes (s := s.logged m wr l un res) hab hf hbar blend hnear hv hst hact hlim hfree)
  · exact State.setGen_carriedOut (State.pointAt_carriedOut (cmd := cmdMvChange g target.toInt vmax false true) ha
      fun m wr l un res => cmdMvChange_speed (s := s.logged m wr l un res) hab hf hbar hrun hcur target.toInt hv)
  · exact State.setGen_carriedOut (State.pointAt_carriedOut (cmd := cmdMvChange g target.toInt vmax true false) ha
      fun m wr l un res => cmdMvChange_target (s := s.logged m wr l un res) hab hf hbar hrun hcur vmax hnear hlim hstop)
  · have h : s.carriedOut (s.hostCommand c 0x52 [g] (coreMvFlush g)) c 0x52 0
        (s.setGen g ((s.gen g).flushQueue (s.profile g))) := State.pointAt_carriedOut (cmd := cmdMvFlush g) ha
      fun m wr l un res => cmdMvFlush_takes (s := s.logged m wr l un res) hab hf hbar hst
    obtain ⟨honly, hgen⟩ := State.setGen_carriedOut h
    rw [hgen]
    exact ⟨honly, Gen.flushQueue_motion (s.profile g) (s.gen g)⟩
  · have h : s.carriedOut (s.hostCommand c 0x53 [g] (coreMvQstop g)) c 0x53 0 (s.setGen g ((s.gen g).askStop .quick)) :=
      State.pointAt_carriedOut (cmd := cmdMvQstop g) ha
        fun m wr l un res => cmdMvQstop_takes (s := s.logged m wr l un res) hab hf hbar
    rw [Gen.askStop_running .quick hrun hstop hhom] at h
    exact State.setGen_carriedOut h

end Sys2Proof.Machine
end

section
/-! PROOFS. MV_HSTOP, MV_HOME and CH_ENABLE (R172, R179-R181, R186, R187, R204). -/

namespace Sys2Proof.Machine

/-! ### The rows -/

theorem exec_mvHstop (s : State) (c : Ctx) (g : Nat) :
    exec (.mvHstop c g) s = .next (s.hostCommand c 0x54 [g] (coreMvHstop g)) := rfl
theorem exec_mvHome (s : State) (c : Ctx) (g method dir : Nat) (vsearch : Word) (homePos : U64) (range : Word) (fly : Bool) :
    exec (.mvHome c g method dir vsearch homePos range fly) s =
      .next (s.hostCommand c 0x55 [g, method, dir, vsearch.toNat, homePos.toNat, range.toNat, bitNat fly]
        (coreMvHome g method dir vsearch homePos.toInt range.toNat fly)) := rfl
theorem exec_chEnable (s : State) (c : Ctx) (k : Nat) (enable : Bool) :
    exec (.chEnable c k enable) s = .next (s.hostCommand c 0x57 [k, bitNat enable] (coreChEnable k enable)) := rfl

/-! ### The hard stop of a generator and of a channel (R179-R181, R190) -/

/-- `y` is the generator `x` at rest after a hard stop. -/
def Gen.hardStopped (x y : Gen) : Prop :=
  y.v = 0 ∧ y.moves = [] ∧ y.stop = none ∧ y.hstop = true ∧ y.gst = (if x.gst = .track then .track else .idle)

/-- The channel `y` stopped for a cause (R196, R205). -/
def StepChan.stoppedFor (y : StepChan) (cause : Nat) : Prop :=
  y.rate = 0 ∧ y.rateNext = none ∧ y.stopFlag = true ∧ y.stopCause = cause

@[simp] theorem Gen.homeAbort_gst (x : Gen) (code : Nat) : (x.homeAbort code).gst = x.gst := by
  unfold Gen.homeAbort
  split <;> rfl

/-- A hard stop ends a homing first, which leaves GSTATE as it was (R190). -/
theorem Gen.hardStopped_of_abort {x y : Gen} (code : Nat) (h : (x.homeAbort code).hardStopped y) : x.hardStopped y := by
  unfold Gen.hardStopped at h ⊢
  rwa [Gen.homeAbort_gst] at h

/-- The hard stop of a channel stops its generator, which is no longer homed (R180, R190). -/
theorem State.gen_stopChannel (s : State) (k cause : Nat) :
    (s.gen (512 + k)).hardStopped ((s.stopChannel k cause).gen (512 + k)) ∧
      ((s.stopChannel k cause).gen (512 + k)).homed = false := by
  have h : (s.stopChannel k cause).gen (512 + k) = _ := (State.gen_setGen _ _ _ _).trans (if_pos rfl)
  rw [h]
  exact ⟨Gen.hardStopped_of_abort 0x33 ⟨rfl, rfl, rfl, rfl, rfl⟩, rfl⟩

theorem State.gen_stopChannel_other (s : State) (k cause : Nat) {j : Nat} (hj : j ≠ 512 + k) :
    (s.stopChannel k cause).gen j = s.gen j := (State.gen_setGen _ _ j _).trans (if_neg hj)

/-- The hard stop of a channel leaves ENABLED to its caller (R196, R204). -/
theorem State.chan_stopChannel (s : State) (k cause : Nat) :
    ((s.stopChannel k cause).chan k).stoppedFor cause ∧ ((s.stopChannel k cause).chan k).enabled = (s.chan k).enabled := by
  have h : (s.stopChannel k cause).chan k = _ := (s.chan_setChan k k _).trans (if_pos rfl)
  rw [h]
  exact ⟨⟨rfl, rfl, rfl, rfl⟩, rfl⟩

theorem State.chan_stopChannel_other (s : State) (k cause : Nat) {j : Nat} (hj : j ≠ k) :
    (s.stopChannel k cause).chan j = s.chan j := (s.chan_setChan k j _).trans (if_neg hj)

/-! ### A channel turned off and on (R172, R204, R568) -/

/-- A generator in TRACK (R172). -/
def State.trackGen (s : State) (g : Nat) : State := s.setGen g { s.gen g with gst := .track }

/-- A channel turned off: stopped for cause 2, its generator in TRACK (R172, R204). -/
def State.channelOff (s : State) (k : Nat) : State :=
  ((s.setChan k { s.chan k with enabled := false }).stopChannel k 2).trackGen (512 + k)

/-- A channel turned on: its STEP pin driven, its generator idle at rest (R172, R568). -/
def State.channelOn (s : State) (k : Nat) : State :=
  (s.setChan k { s.chan k with enabled := true, driven := true }).setGen (512 + k)
    { s.gen (512 + k) with gst := .idle, v := 0, phase := .rest }

/-- The log stands aside of the channels. -/
theorem State.logged_stopChannel (s : State) (k cause : Nat) (m : Tab Byte) (wr l un : Word) (res : Nat) :
    (s.logged m wr l un res).stopChannel k cause = (s.stopChannel k cause).logged m wr l un res := rfl

theorem State.logged_trackGen (s : State) (g : Nat) (m : Tab Byte) (wr l un : Word) (res : Nat) :
    (s.logged m wr l un res).trackGen g = (s.trackGen g).logged m wr l un res := rfl

theorem State.logged_channelOff (s : State) (k : Nat) (m : Tab Byte) (wr l un : Word) (res : Nat) :
    (s.logged m wr l un res).channelOff k = (s.channelOff k).logged m wr l un res := by
  have hoff : (s.logged m wr l un res).setChan k { (s.logged m wr l un res).chan k with enabled := false } =
      (s.setChan k { s.chan k with enabled := false }).logged m wr l un res := rfl
  rw [State.channelOff, hoff, State.logged_stopChannel, State.logged_trackGen, State.channelOff]

theorem State.channelOff_only (s : State) (k : Nat) : ∃ gens chans,
    s.channelOff k = { s with gens := gens, chans := chans } := cmdChEnable_off_only false k s

theorem State.gen_trackGen (s : State) (g j : Nat) :
    (s.trackGen g).gen j = if j = g then { s.gen g with gst := .track } else s.gen j := s.gen_setGen g j _

theorem State.chan_trackGen (s : State) (g j : Nat) : (s.trackGen g).chan j = s.chan j := rfl

theorem State.gen_channelOff (s : State) (k : Nat) : ((s.channelOff k).gen (512 + k)).gst = .track := by
  rw [State.channelOff, State.gen_trackGen, if_pos rfl]

theorem State.gen_channelOff_other (s : State) (k : Nat) {j : Nat} (hj : j ≠ 512 + k) : (s.channelOff k).gen j = s.gen j := by
  rw [State.channelOff, State.gen_trackGen, if_neg hj, State.gen_stopChannel_other _ k 2 hj]
  rfl

theorem State.chan_channelOff (s : State) (k : Nat) :
    ((s.channelOff k).chan k).stoppedFor 2 ∧ ((s.channelOff k).chan k).enabled = false := by
  obtain ⟨hstopped, hen⟩ := State.chan_stopChannel (s.setChan k { s.chan k with enabled := false }) k 2
  rw [State.chan_setChan, if_pos rfl] at hen
  rw [State.channelOff, State.chan_trackGen]
  exact ⟨hstopped, hen⟩

theorem State.chan_channelOff_other (s : State) (k : Nat) {j : Nat} (hj : j ≠ k) : (s.channelOff k).chan j = s.chan j := by
  rw [State.channelOff, State.chan_trackGen, State.chan_stopChannel_other _ k 2 hj, State.chan_setChan, if_neg hj]

theorem State.gen_channelOn (s : State) (k : Nat) :
    (s.channelOn k).gen (512 + k) = { s.gen (512 + k) with gst := .idle, v := 0, phase := .rest } :=
  (State.gen_setGen _ _ _ _).trans (if_pos rfl)

theorem State.gen_channelOn_other (s : State) (k : Nat) {j : Nat} (hj : j ≠ 512 + k) : (s.channelOn k).gen j = s.gen j :=
  (State.gen_setGen _ _ j _).trans (if_neg hj)

theorem State.chan_channelOn (s : State) (k : Nat) :
    (s.channelOn k).chan k = { s.chan k with enabled := true, driven := true } :=
  (s.chan_setChan k k { s.chan k with enabled := true, driven := true }).trans (if_pos rfl)

theorem State.chan_channelOn_other (s : State) (k : Nat) {j : Nat} (hj : j ≠ k) : (s.channelOn k).chan j = s.chan j :=
  (s.chan_setChan k j { s.chan k with enabled := true, driven := true }).trans (if_neg hj)

/-! ### Homing by the present position (R186, R187) -/

/-- A generator homed where it stands: its present position becomes HOME_POS (R187). -/
def Gen.homedAt (x : Gen) (homePos : Int) : Gen :=
  { x.applyLatch homePos x.raw false with homed := true, homeResult := 0, homing := none, flyWindow := none, toggles := 0 }

theorem Gen.homedAt_offset (x : Gen) (homePos : Int) : (x.homedAt homePos).offset = homePos - x.raw :=
  add_sub_cancel x.offset (homePos - x.raw)

/-- The position in raw units stays: OFFSET and the profile position shift together (R187). -/
theorem Gen.homedAt_rawUnits (x : Gen) (homePos : Int) : (x.homedAt homePos).rawUnits = x.rawUnits := by
  have hp : (x.homedAt homePos).p = x.p + (homePos - x.raw - x.offset) * oneCount := rfl
  rw [Gen.rawUnits, Gen.homedAt_offset, hp, Gen.rawUnits]
  ring

/-! ### What each command answers where it meets no check, and its effect -/

section
variable {s : State} {c : Ctx} {g : Nat} (hab : s.genAbsent g = false) (hf : s.genFaulted g = false)
  (hbar : s.mvBarred g = false)
include hab hf hbar

/-- MV_HSTOP of a servo or a ring stepper (R179, R181): the latter waits for the node's count. -/
theorem cmdMvHstop_axis (hg : g < 512) :
    ∃ y, ((s.gen g).hardStopped y ∧ (s.kindOf g = 2 → y.adopt = true ∧ y.homed = false)) ∧
      cmdMvHstop g s = ({}, s.setGen g y) := by
  simp only [cmdMvHstop, hab, hf, hbar, if_neg (not_le.mpr hg)]
  by_cases hk : s.kindOf g = 2
  · rw [if_pos hk]
    exact ⟨_, ⟨Gen.hardStopped_of_abort 0x33 ⟨rfl, rfl, rfl, rfl, rfl⟩, fun _ => ⟨rfl, rfl⟩⟩, rfl⟩
  · rw [if_neg hk]
    exact ⟨_, ⟨Gen.hardStopped_of_abort 0x33 ⟨rfl, rfl, rfl, rfl, rfl⟩, fun h => absurd h hk⟩, rfl⟩

theorem State.mvHstop_axis_carriedOut (hg : g < 512) (ha : s.admits c 0x54 [g] = true) :
    ∃ u, (∃ y, ((s.gen g).hardStopped y ∧ (s.kindOf g = 2 → y.adopt = true ∧ y.homed = false)) ∧ u = s.setGen g y) ∧
      s.carriedOut (s.hostCommand c 0x54 [g] (coreMvHstop g)) c 0x54 0 u := by
  refine State.pointAt_carriedOut_exists (cmd := cmdMvHstop g) ha fun m wr l un res => ?_
  obtain ⟨y, hy, hcmd⟩ := cmdMvHstop_axis (s := s.logged m wr l un res) hab hf hbar hg
  exact ⟨_, ⟨y, hy, rfl⟩, hcmd⟩

/-- MV_HSTOP of a local channel (R180). -/
theorem cmdMvHstop_channel (hg : 512 ≤ g) : cmdMvHstop g s = ({}, s.stopChannel (g - 512) 1) := by
  simp only [cmdMvHstop, hab, hf, hbar, if_pos hg]

theorem State.mvHstop_channel_carriedOut (hg : 512 ≤ g) (ha : s.admits c 0x54 [g] = true) :
    s.carriedOut (s.hostCommand c 0x54 [g] (coreMvHstop g)) c 0x54 0 (s.stopChannel (g - 512) 1) :=
  State.pointAt_carriedOut (cmd := cmdMvHstop g) ha fun m wr l un res =>
    cmdMvHstop_channel (s := s.logged m wr l un res) hab hf hbar hg

/-- MV_HOME with METHOD 0: the present position becomes HOME_POS (R186, R187). -/
theorem cmdMvHome_present {vsearch : Word} {homePos : Int} {range : Nat} (h1 : 1 ≤ range) (h2 : range < 2 ^ 31)
    (hst : (s.gen g).gst = .idle) :
    cmdMvHome g 0 0 vsearch homePos range false s = ({}, s.setGen g ((s.gen g).homedAt homePos)) := by
  simp only [cmdMvHome, hab, hf, hbar, hst, State.methodAllowed, decide_eq_false (show ¬range = 0 by omega),
    decide_eq_false (not_le.mpr h2)]
  rfl

theorem State.mvHome_carriedOut {vsearch range : Word} {homePos : U64}
    (ha : s.admits c 0x55 [g, 0, 0, vsearch.toNat, homePos.toNat, range.toNat, 0] = true) (h1 : 1 ≤ range.toNat)
    (h2 : range.toNat < 2 ^ 31) (hst : (s.gen g).gst = .idle) :
    s.carriedOut (s.hostCommand c 0x55 [g, 0, 0, vsearch.toNat, homePos.toNat, range.toNat, bitNat false]
      (coreMvHome g 0 0 vsearch homePos.toInt range.toNat false)) c 0x55 0 (s.setGen g ((s.gen g).homedAt homePos.toInt)) :=
  State.pointAt_carriedOut (cmd := cmdMvHome g 0 0 vsearch homePos.toInt range.toNat false) ha fun m wr l un res =>
    cmdMvHome_present (s := s.logged m wr l un res) hab hf hbar h1 h2 hst
end

section
variable {s : State} {c : Ctx} {k : Nat} (hk : k < 16)
include hk

/-- CH_ENABLE of a channel that is off and that no safety function holds (R172, R204, R478). -/
theorem cmdChEnable_on (hoff : (s.chan k).enabled = false) : cmdChEnable false k true s = ({}, s.channelOn k) := by
  simp only [cmdChEnable, decide_eq_false (not_le.mpr hk), hoff]
  rfl

theorem State.chEnable_on_carriedOut (ha : s.admits c 0x57 [k, 1] = true) (hoff : (s.chan k).enabled = false)
    (hfree : s.safetyBlocks k = false) :
    s.carriedOut (s.hostCommand c 0x57 [k, bitNat true] (coreChEnable k true)) c 0x57 0 (s.channelOn k) := by
  refine State.pointAt_carriedOut (cmd := fun x => cmdChEnable (x.safetyBlocks k) k true x) ha fun m wr l un res => ?_
  have hfree' : (s.logged m wr l un res).safetyBlocks k = false := hfree
  rw [hfree']
  exact cmdChEnable_on (s := s.logged m wr l un res) hk hoff

/-- CH_ENABLE with ENABLE 0 (R172, R204). -/
theorem cmdChEnable_off (blocked : Bool) : cmdChEnable blocked k false s = ({}, s.channelOff k) := by
  simp only [cmdChEnable, decide_eq_false (not_le.mpr hk)]
  rfl

theorem State.chEnable_off_carriedOut (ha : s.admits c 0x57 [k, 0] = true) :
    s.carriedOut (s.hostCommand c 0x57 [k, bitNat false] (coreChEnable k false)) c 0x57 0 (s.channelOff k) :=
  State.pointAt_carriedOut (cmd := fun x => cmdChEnable (x.safetyBlocks k) k false x) ha fun m wr l un res => by
    rw [cmdChEnable_off (s := s.logged m wr l un res) hk, State.logged_channelOff]
end

/-! ### What each leaves -/

section
variable {s t u : State} {c : Ctx} {opc : Nat} {detail : Word} (h : s.carriedOut t c opc detail u)
include h

theorem State.carriedOut_chans : t.chans = u.chans := (congrArg State.chans (State.carriedOut_effect h) :)
theorem State.carriedOut_chan (k : Nat) : t.chan k = u.chan k := (congrArg (State.chan · k) (State.carriedOut_effect h) :)

/-- A command that sets generators and channels alone. -/
theorem State.carriedOut_motion (hu : ∃ gens chans, u = { s with gens := gens, chans := chans }) :
    s.carriedOut t c opc detail { s with gens := t.gens, chans := t.chans } := by
  obtain ⟨gens, chans, rfl⟩ := hu
  rw [State.carriedOut_gens h, State.carriedOut_chans h]
  exact h
end

/-- A generator from 512 on that is present is that of a local channel (R162). -/
theorem State.channel_of_genPresent {s : State} {k : Nat} (hab : s.genAbsent (512 + k) = false) : k < 16 := by
  rw [State.genAbsent, if_neg (by omega), decide_eq_false_iff_not] at hab
  omega

/-- Settles O23: each command meets no check, and the generator and the channel are read off what it leaves. -/
theorem stopsAndHoming : Obligations.StopsAndHoming := by
  unfold Obligations.StopsAndHoming
  refine fun s c g hab hf => ⟨fun ha hbar => ⟨_, exec_mvHstop s c g, ?_⟩,
    fun vsearch home range ha h1 h2 hbar hst => ⟨_, exec_mvHome s c g 0 0 vsearch home range false, ?_⟩, ?_⟩
  · by_cases hg : g < 512
    · obtain ⟨_, ⟨y, ⟨⟨hv, hmoves, hstop, hflag, hgst⟩, hkind⟩, rfl⟩, h⟩ :=
        State.mvHstop_axis_carriedOut hab hf hbar hg ha
      obtain ⟨⟨-, hothers⟩, hgen⟩ := State.setGen_carriedOut h
      refine ⟨State.carriedOut_motion h ⟨_, _, rfl⟩, hothers, ?_⟩
      rw [hgen]
      exact ⟨hv, hmoves, hstop, hflag, hgst, fun _ => ⟨(State.carriedOut_chans h :), hkind⟩,
        fun h' => absurd hg (not_lt.mpr h')⟩
    · obtain ⟨k, rfl⟩ := Nat.exists_eq_add_of_le (not_lt.mp hg)
      have h := State.mvHstop_channel_carriedOut hab hf hbar (not_lt.mp hg) ha
      rw [Nat.add_sub_cancel_left] at h ⊢
      obtain ⟨⟨hv, hmoves, hstop, hflag, hgst⟩, hhomed⟩ := s.gen_stopChannel k 1
      obtain ⟨⟨hrate, hnext, hset, hcause⟩, -⟩ := s.chan_stopChannel k 1
      refine ⟨State.carriedOut_motion h (s.stopChannel_only k 1),
        fun j hj => (State.carriedOut_gen h j).trans (s.gen_stopChannel_other k 1 hj), ?_⟩
      rw [State.carriedOut_gen h, State.carriedOut_chan h]
      exact ⟨hv, hmoves, hstop, hflag, hgst, fun h' => absurd h' hg, fun _ => ⟨hrate, hnext, hset, hcause, hhomed,
        fun j hj => (State.carriedOut_chan h j).trans (s.chan_stopChannel_other k 1 hj)⟩⟩
  · have h := State.mvHome_carriedOut hab hf hbar ha h1 h2 hst
    obtain ⟨⟨honly, hothers⟩, hgen⟩ := State.setGen_carriedOut h
    refine ⟨honly, hothers, ?_⟩
    rw [hgen]
    exact ⟨Gen.homedAt_offset _ _, rfl, rfl, Gen.homedAt_rawUnits _ _⟩
  · rintro k rfl
    have hk := State.channel_of_genPresent hab
    refine ⟨fun ha hoff hfree => ⟨_, exec_chEnable s c k true, ?_⟩, fun ha => ⟨_, exec_chEnable s c k false, ?_⟩⟩
    · have h := State.chEnable_on_carriedOut hk ha hoff hfree
      have hchan := (State.carriedOut_chan h k).trans (s.chan_channelOn k)
      have hgen := (State.carriedOut_gen h (512 + k)).trans (s.gen_channelOn k)
      exact ⟨State.carriedOut_motion h ⟨_, _, rfl⟩, congrArg StepChan.enabled hchan, congrArg StepChan.driven hchan,
        congrArg Gen.gst hgen, congrArg Gen.v hgen,
        fun j hj => (State.carriedOut_gen h j).trans (s.gen_channelOn_other k hj),
        fun j hj => (State.carriedOut_chan h j).trans (s.chan_channelOn_other k hj)⟩
    · have h := State.chEnable_off_carriedOut hk ha
      obtain ⟨⟨hrate, -, hset, hcause⟩, hen⟩ := s.chan_channelOff k
      refine ⟨State.carriedOut_motion h (s.channelOff_only k), ?_⟩
      rw [State.carriedOut_chan h, State.carriedOut_gen h]
      exact ⟨hen, hrate, hset, hcause, s.gen_channelOff k,
        fun j hj => (State.carriedOut_gen h j).trans (s.gen_channelOff_other k hj),
        fun j hj => (State.carriedOut_chan h j).trans (s.chan_channelOff_other k hj)⟩

end Sys2Proof.Machine
end

section
/-! PROOFS. The events of the encoders, of their QERR windows and of the serial ports (R216-R218, R221-R223, R225-R230, R233,
R234). -/

namespace Sys2Proof.Machine

/-! ### The rows -/

theorem exec_encoderEdge (s : State) (c : Nat) (lines : PairRun) (stamp : U64) :
    exec (.encoderEdge c lines stamp) s = .next (s.encoderEdge c lines.ab lines.runA lines.runB stamp) := rfl
theorem exec_encoderIndexEdge (s : State) (c : Nat) (seen : IndexRun) :
    exec (.encoderIndexEdge c seen) s = .next (s.encoderIndex c seen.ab seen.line.level seen.line.run seen.stamp) := rfl
theorem exec_qerrWindowClose (s : State) (ch : Nat) : exec (.qerrWindowClose ch) s = .next (s.qerrClose ch) := rfl
theorem exec_qerrLimitReached (s : State) (ch : Nat) : exec (.qerrLimitReached ch) s = .next (s.qerrLimit ch) := rfl
theorem exec_serialDeadline (s : State) (p : Nat) (edge0 : Bool) (samples : List Bool) :
    exec (.serialDeadline p edge0 samples) s = .next (s.serialDeadline p edge0 samples) := rfl
theorem exec_serialFailLimit (s : State) (p : Nat) : exec (.serialFailLimit p) s = .next (s.serialFailLimit p) := rfl

/-! ### The filters (R216, R217) -/

theorem filtered_short {filt run : Nat} (h : run ≤ filt) (old level : Bool) : filtered filt old level run = old :=
  if_neg (not_lt.mpr h)

theorem filtered_long {filt run : Nat} (h : filt < run) (old level : Bool) : filtered filt old level run = level := if_pos h

theorem pair_of_lines (ab : BitVec 2) : BitVec.ofNat 2 (2 * bitNat (ab.getLsbD 1) + bitNat (ab.getLsbD 0)) = ab := by
  revert ab
  decide

theorem filteredAB_short {filt runA runB : Nat} (hA : runA ≤ filt) (hB : runB ≤ filt) (old ab : BitVec 2) :
    filteredAB filt old ab runA runB = old := by
  rw [filteredAB, filtered_short hA, filtered_short hB, pair_of_lines]

theorem filteredAB_long {filt runA runB : Nat} (hA : filt < runA) (hB : filt < runB) (old ab : BitVec 2) :
    filteredAB filt old ab runA runB = ab := by
  rw [filteredAB, filtered_long hA, filtered_long hB, pair_of_lines]

/-! ### The decoding of AB (R218) -/

/-- What holds of the listed pairs of numbers holds of a pair AB and a number that are among them. -/
theorem ab_of_listed {P : BitVec 2 → BitVec 2 → Prop} {l : List (Nat × Nat)}
    (hl : ∀ p ∈ l, P (BitVec.ofNat 2 p.1) (BitVec.ofNat 2 p.2)) {old : BitVec 2} {ab : Nat} (h : (old.toNat, ab) ∈ l) :
    P old (BitVec.ofNat 2 ab) := by
  have hp := hl _ h
  rwa [BitVec.ofNat_toNat, BitVec.setWidth_eq] at hp

theorem decodeAB_forward {old : BitVec 2} {ab : Nat} (rev : Bool) (h : (old.toNat, ab) ∈ [(0, 2), (2, 3), (3, 1), (1, 0)]) :
    decodeAB old (BitVec.ofNat 2 ab) rev = some (if rev then -1 else 1) :=
  ab_of_listed (P := fun old ab => decodeAB old ab rev = some (if rev then -1 else 1)) (by revert rev; decide) h

theorem decodeAB_backward {old : BitVec 2} {ab : Nat} (rev : Bool) (h : (old.toNat, ab) ∈ [(2, 0), (3, 2), (1, 3), (0, 1)]) :
    decodeAB old (BitVec.ofNat 2 ab) rev = some (-(if rev then -1 else 1)) :=
  ab_of_listed (P := fun old ab => decodeAB old ab rev = some (-(if rev then -1 else 1))) (by revert rev; decide) h

theorem decodeAB_both {old : BitVec 2} {ab : Nat} (rev : Bool) (h : (old.toNat, ab) ∈ [(0, 3), (3, 0), (1, 2), (2, 1)]) :
    BitVec.ofNat 2 ab ≠ old ∧ decodeAB old (BitVec.ofNat 2 ab) rev = none :=
  ab_of_listed (P := fun old ab => ab ≠ old ∧ decodeAB old ab rev = none) (by revert rev; decide) h

theorem decodeAB_self (ab : BitVec 2) (rev : Bool) : decodeAB ab ab rev = none := by
  revert ab rev
  decide

/-- `y` is the encoder `x` after an edge of sense `d` at `t` that leaves the pair `ab` (R218, R224). -/
def Enc.counted (x y : Enc) (ab : BitVec 2) (t : U64) (d : Int) : Prop :=
  y.total = x.total + d ∧ y.ab = ab ∧ y.dLast = d ∧ y.tLast = t ∧ y.qerrTotal = x.qerrTotal

theorem Enc.edge_counted (x : Enc) (ab : BitVec 2) (t : U64) (d : Int) (still : Nat) :
    x.counted { x.edge t d still with ab := ab } ab t d := by
  unfold Enc.edge
  dsimp only
  split <;> exact ⟨rfl, rfl, rfl, rfl, rfl⟩

theorem Enc.abChange_same (x : Enc) (t : U64) (rev : Bool) (still : Nat) : x.abChange x.ab t rev still = x := if_pos rfl

theorem Enc.abChange_counted {x : Enc} {ab : BitVec 2} {rev : Bool} {d : Int} (h : decodeAB x.ab ab rev = some d) (t : U64)
    (still : Nat) : x.counted (x.abChange ab t rev still) ab t d := by
  have hne : ab ≠ x.ab := by
    rintro rfl
    rw [decodeAB_self] at h
    cases h
  rw [Enc.abChange, if_neg hne, h]
  exact x.edge_counted ab t d still

/-- A change of both lines (R218, R221). -/
theorem Enc.abChange_error {x : Enc} {ab : BitVec 2} {rev : Bool} (hne : ab ≠ x.ab) (h : decodeAB x.ab ab rev = none) (t : U64)
    (still : Nat) : x.abChange ab t rev still =
      { x with ab := ab, qerrTotal := Nat.min 0xFFFF (x.qerrTotal + 1), qerrNow := x.qerrNow + 1, qerrFlag := true } := by
  rw [Enc.abChange, if_neg hne, h, satAdd_one]

/-! ### An encoder's edge -/

/-- The pair that an encoder shows already counts nothing. -/
theorem State.countEdge_same (s : State) (c : Nat) (stamp : U64) :
    s.countEdge c (BitVec.ofNat 2 (s.enc c).ab.toNat) stamp = s.setEnc c (s.enc c) := by
  rw [State.countEdge, BitVec.ofNat_toNat, BitVec.setWidth_eq, Enc.abChange_same]

/-- `t` is `s` with `x` in encoder `c`, but for the time base. -/
def State.encoderReads (s t : State) (c : Nat) (x : Enc) : Prop :=
  ((∀ j, j ≠ c → t.enc j = s.enc j) ∧ { t with time := s.time, encs := s.encs } = s) ∧ t.enc c = x

theorem State.filterDone_reads (s : State) (c : Nat) (stamp : U64) : s.encoderReads (s.filterDone c stamp) c (s.enc c) :=
  ⟨⟨fun _ _ => rfl, rfl⟩, rfl⟩

theorem State.encoderReads.setEnc {s t : State} {c : Nat} {x : Enc} (h : s.encoderReads t c x) (y : Enc) :
    s.encoderReads (t.setEnc c y) c y := by
  obtain ⟨⟨hothers, hrest⟩, -⟩ := h
  refine ⟨⟨fun j hj => ?_, hrest⟩, (t.enc_setEnc c c y).trans (if_pos rfl)⟩
  exact (t.enc_setEnc c j y).trans ((if_neg hj).trans (hothers j hj))

theorem State.encoderReads.cfgW {s t : State} {c : Nat} {x : Enc} (h : s.encoderReads t c x) (o : Nat) : t.cfgW o = s.cfgW o := by
  obtain ⟨⟨-, hrest⟩, -⟩ := h
  exact (congrArg (State.cfgW · o) hrest :)

section
variable {s : State} {c : Nat} (hc : c < 16) (hp : s.host.phase ≠ .por) (stamp : U64)
include hc hp

theorem State.encoderOff_false : ¬(decide (16 ≤ c) || s.host.phase == .por) = true := by
  rw [Bool.or_eq_true, decide_eq_true_eq, beq_iff_eq]
  exact not_or.mpr ⟨not_le.mpr hc, hp⟩

/-- ENCODER_EDGE (R216-R218): the filtered pair is decoded. -/
theorem State.encoderEdge_reads (ab runA runB : Nat) : s.encoderReads (s.encoderEdge c ab runA runB stamp) c
    ((s.enc c).abChange (filteredAB (s.encFilt c) (s.enc c).ab (BitVec.ofNat 2 ab) runA runB) stamp ((s.cfgW (encOff c 0)).bit 16)
      (s.encStill c)) := by
  rw [State.encoderEdge, if_neg (State.encoderOff_false hc hp)]
  exact (s.filterDone_reads c stamp).setEnc _

/-- Runs that are too short for the filters change nothing (R216). -/
theorem State.encoderEdge_filtered (ab : Nat) {runA runB : Nat} (hA : runA ≤ s.encFilt c) (hB : runB ≤ s.encFilt c) :
    s.encoderReads (s.encoderEdge c ab runA runB stamp) c (s.enc c) := by
  have h := State.encoderEdge_reads hc hp stamp ab runA runB
  rwa [filteredAB_short hA hB, Enc.abChange_same] at h

/-- Runs that pass the filters show their pair (R216, R218). -/
theorem State.encoderEdge_passed (ab : Nat) {runA runB : Nat} (hA : s.encFilt c < runA) (hB : s.encFilt c < runB) :
    s.encoderReads (s.encoderEdge c ab runA runB stamp) c
      ((s.enc c).abChange (BitVec.ofNat 2 ab) stamp ((s.cfgW (encOff c 0)).bit 16) (s.encStill c)) := by
  have h := State.encoderEdge_reads hc hp stamp ab runA runB
  rwa [filteredAB_long hA hB] at h

/-- Runs that show the pair that the encoder had change nothing (R218). -/
theorem State.encoderEdge_samePair {runA runB : Nat} (hA : s.encFilt c < runA) (hB : s.encFilt c < runB) :
    s.encoderReads (s.encoderEdge c (s.enc c).ab.toNat runA runB stamp) c (s.enc c) := by
  have h := State.encoderEdge_passed hc hp stamp (s.enc c).ab.toNat hA hB
  rwa [BitVec.ofNat_toNat, BitVec.setWidth_eq, Enc.abChange_same] at h

/-- Runs that change one line count with the sense of the change (R218). -/
theorem State.encoderEdge_counts {ab : Nat} {runA runB : Nat} (hA : s.encFilt c < runA) (hB : s.encFilt c < runB) {d : Int}
    (hd : decodeAB (s.enc c).ab (BitVec.ofNat 2 ab) ((s.cfgW (encOff c 0)).bit 16) = some d) :
    ∃ y, s.encoderReads (s.encoderEdge c ab runA runB stamp) c y ∧ (s.enc c).counted y (BitVec.ofNat 2 ab) stamp d :=
  ⟨_, State.encoderEdge_passed hc hp stamp ab hA hB, Enc.abChange_counted hd stamp _⟩

/-- ENCODER_INDEX_EDGE without an edge of A or B in its clock (R222): the filtered level is taken, and a rise of it latches. -/
theorem State.encoderIndex_reads (level : Bool) (run : Nat) {new : Bool}
    (hnew : filtered (s.encFilt c) (s.enc c).idxLevel (level ^^ (s.cfgW (encOff c 0)).bit 17) run = new) :
    ∃ v, s.encoderReads v c { s.enc c with idxLevel := new } ∧
      exec (.encoderIndexEdge c ⟨(s.enc c).ab.toNat, ⟨level, run⟩, stamp⟩) s =
        .next (if new = true ∧ (s.enc c).idxLevel = false then v.indexRise c stamp else v) := by
  have hread : (s.filterDone c stamp).enc c = s.enc c := rfl
  have hfilter : filtered ((s.filterDone c stamp).encFilt c) (s.enc c).idxLevel
      (level ^^ ((s.filterDone c stamp).cfgW (encOff c 0)).bit 17) run = new := hnew
  have hcount : s.encoderReads ((s.filterDone c stamp).countEdge c (BitVec.ofNat 2 (s.enc c).ab.toNat) stamp) c (s.enc c) := by
    rw [← hread, State.countEdge_same]
    exact (s.filterDone_reads c stamp).setEnc _
  rw [exec_encoderIndexEdge, State.encoderIndex, if_neg (State.encoderOff_false hc hp)]
  dsimp only
  rw [hread, hfilter, hcount.2]
  by_cases hsame : new = (s.enc c).idxLevel
  · refine ⟨s.filterDone c stamp, by rw [hsame]; exact s.filterDone_reads c stamp, ?_⟩
    rw [if_pos (beq_iff_eq.mpr hsame), if_neg fun ⟨h1, h2⟩ => Bool.noConfusion (h1.symm.trans (hsame.trans h2))]
  · refine ⟨_, hcount.setEnc _, ?_⟩
    rw [if_neg (by rwa [beq_iff_eq])]
    cases new with
    | false => rfl
    | true => rw [if_pos rfl, if_pos ⟨rfl, Bool.eq_false_iff.mpr (Ne.symm hsame)⟩]
end

/-! ### Feedback faults (R146, R234) -/

/-- The reactions that a feedback fault raises stand in the instances. -/
theorem State.raiseFeedback_only (s : State) (ch : Nat) : ∃ axes, s.raiseFeedback ch = { s with axes := axes } := by
  unfold State.raiseFeedback
  refine List.foldlRecOn (motive := fun t : State => ∃ axes, t = { s with axes := axes }) _ _ ⟨s.axes, rfl⟩ ?_
  rintro t ⟨axes, rfl⟩ i -
  split
  · exact ⟨_, rfl⟩
  · exact ⟨_, rfl⟩

theorem State.fbRaise_encoder (s : State) {ch : Nat} (h : ch < 16) (cause : Nat) :
    ∃ axes, s.fbRaise ch cause = { s.setEnc ch { s.enc ch with fault := cause, ended := false } with axes := axes } := by
  rw [State.fbRaise, if_pos h]
  exact State.raiseFeedback_only _ ch

theorem State.fbRaise_serial (s : State) {p : Nat} (h : p < 8) (cause : Nat) :
    ∃ axes, s.fbRaise (16 + p) cause = { s.setSer p { s.ser p with fault := cause, ended := false } with axes := axes } := by
  rw [State.fbRaise, if_neg (by omega), if_pos (by omega), Nat.add_sub_cancel_left]
  exact State.raiseFeedback_only _ (16 + p)

theorem State.fbRaise_remote (s : State) (i cause : Nat) :
    ∃ axes, s.fbRaise (512 + i) cause = { s.setRem i { s.rem i with fault := cause, ended := false } with axes := axes } := by
  rw [State.fbRaise, if_neg (by omega), if_neg (by omega), Nat.add_sub_cancel_left]
  exact State.raiseFeedback_only _ (512 + i)

/-! ### The latch of an index edge (R222, R223) -/

/-- An encoder after a rising index edge, but for the fault of the distance check. -/
def Enc.indexLatched (x : Enc) (t : U64) : Enc :=
  { x with
    idxCount := x.idxCount + 1
    idxTotal := if x.idxThis then x.idxTotal else x.total
    idxStamp := if x.idxThis then x.idxStamp else t
    idxSeq := if x.idxThis then x.idxSeq else x.idxSeq + 1
    idxThis := true
    idxPrev := some x.total
    idxReversal := false }

theorem Enc.index_first {x : Enc} (h : x.idxPrev = none) (t : U64) (check : Bool) (cpr tol : Nat) :
    x.index t check cpr tol = x.indexLatched t := by
  simp only [Enc.index, h]
  rfl

/-- A later index edge is checked, unless a reversal lies before it (R223). -/
theorem Enc.index_later {x : Enc} {prev : Int} (h : x.idxPrev = some prev) (t : U64) (check : Bool) (cpr tol : Nat) :
    x.index t check cpr tol = if (!check || x.idxReversal) = true then x.indexLatched t
      else if tol < (if cpr ≤ (x.total - prev).natAbs then (x.total - prev).natAbs - cpr else cpr - (x.total - prev).natAbs) then
        (x.indexLatched t).raise 2
      else { x.indexLatched t with ended := x.ended || x.fault == 2 } := by
  simp only [Enc.index, h]
  rfl

/-- `y` is the encoder `x` after a rising index edge, whatever the distance check says of its fault. -/
def Enc.latchesIndex (x y : Enc) (t : U64) : Prop :=
  ∃ fault ended, y = { x.indexLatched t with fault := fault, ended := ended }

theorem Enc.latchesIndex.raised {x y : Enc} {t : U64} (h : x.latchesIndex y t) (cause : Nat) :
    x.latchesIndex { y with fault := cause, ended := false } t := by
  obtain ⟨fault, ended, rfl⟩ := h
  exact ⟨cause, false, rfl⟩

theorem Enc.index_latches (x : Enc) (t : U64) (check : Bool) (cpr tol : Nat) : x.latchesIndex (x.index t check cpr tol) t := by
  cases h : x.idxPrev with
  | none => exact ⟨_, _, Enc.index_first h ..⟩
  | some prev =>
    rw [Enc.index_later h]
    generalize (if cpr ≤ _ then _ else _) = off
    split
    · exact ⟨_, _, rfl⟩
    · split
      · exact ⟨_, _, rfl⟩
      · exact ⟨_, _, rfl⟩

theorem Enc.index_unchecked (x : Enc) (t : U64) (cpr tol : Nat) : x.index t false cpr tol = x.indexLatched t := by
  cases h : x.idxPrev with
  | none => exact Enc.index_first h ..
  | some prev => exact (Enc.index_later h ..).trans (if_pos rfl)

/-- A rising index edge latches; where the check fails it raises a fault beside (R222, R223). -/
theorem State.indexRise_cases (s : State) (c : Nat) (stamp : U64) :
    ∃ y, (s.enc c).latchesIndex y stamp ∧
      (s.indexRise c stamp = s.setEnc c y ∨ s.indexRise c stamp = (s.setEnc c y).fbRaise c 2) := by
  refine ⟨_, (s.enc c).index_latches stamp ((s.cfgW (encOff c 0)).bit 18) (s.cfgW (encOff c 4)).toNat
    ((s.cfgW (encOff c 0)).bits 0 16), ?_⟩
  cases h : (s.enc c).idxPrev with
  | none =>
    left
    simp only [State.indexRise, h]
  | some prev =>
    simp only [State.indexRise, h]
    exact (ite_eq_or_eq _ _ _).symm

theorem State.indexRise_latches (s : State) {c : Nat} (hc : c < 16) (stamp : U64) :
    (s.enc c).latchesIndex ((s.indexRise c stamp).enc c) stamp := by
  obtain ⟨y, hy, h | h⟩ := s.indexRise_cases c stamp
  · rw [h, State.enc_setEnc, if_pos rfl]
    exact hy
  · obtain ⟨axes, hraise⟩ := State.fbRaise_encoder (s.setEnc c y) hc 2
    have hread : ((s.indexRise c stamp).enc c) = { y with fault := 2, ended := false } := by
      rw [h, hraise]
      refine (State.enc_setEnc _ c c _).trans ((if_pos rfl).trans ?_)
      rw [State.enc_setEnc, if_pos rfl]
    rw [hread]
    exact hy.raised 2

/-- Without IDX_CHECK the latch is all (R223). -/
theorem State.indexRise_unchecked (s : State) {c : Nat} (stamp : U64) (h : (s.cfgW (encOff c 0)).bit 18 = false) :
    s.indexRise c stamp = s.setEnc c ((s.enc c).indexLatched stamp) := by
  unfold State.indexRise
  dsimp only
  rw [h, Enc.index_unchecked]
  split <;> rfl

/-! ### The QERR windows (R221, R233) -/

/-- Every channel with a QERR window but `ch` reads as before. -/
def State.otherWindows (s t : State) (ch : Nat) : Prop :=
  (∀ j, j ≠ ch → t.enc j = s.enc j) ∧ ∀ j, 512 + j ≠ ch → t.rem j = s.rem j

theorem State.setWindow_encoder (s : State) {ch : Nat} (h : ch < 16) (w : Option QWindow) :
    s.setWindow ch w = s.setEnc ch { s.enc ch with window := w } := if_pos h

theorem State.setWindow_remote (s : State) (i : Nat) (w : Option QWindow) :
    s.setWindow (512 + i) w = s.setRem i { s.rem i with window := w } := by
  rw [State.setWindow, if_neg (by omega), Nat.add_sub_cancel_left]

theorem State.qWindow_encoder (s : State) {ch : Nat} (h : ch < 16) : s.qWindow ch = (s.enc ch).window := if_pos h

theorem State.qWindow_remote (s : State) {i : Nat} (h : i < 512) : s.qWindow (512 + i) = (s.rem i).window := by
  rw [State.qWindow, if_neg (by omega), if_pos (by omega), Nat.add_sub_cancel_left]

theorem State.setEnc_otherWindows (s : State) (ch : Nat) (x : Enc) : s.otherWindows (s.setEnc ch x) ch :=
  ⟨fun j hj => (s.enc_setEnc ch j x).trans (if_neg hj), fun _ _ => rfl⟩

theorem State.setRem_otherWindows (s : State) (i : Nat) (x : Rem) : s.otherWindows (s.setRem i x) (512 + i) :=
  ⟨fun _ _ => rfl, fun j hj => (s.rem_setRem i j x).trans (if_neg fun h => hj (congrArg (512 + ·) h))⟩

/-- A channel that counts quadrature errors is a local encoder or a remote channel (R213, R221). -/
theorem qerrChannel_cases {ch : Nat} (h : ch < 16 ∨ (512 ≤ ch ∧ ch < 1024)) : ch < 16 ∨ ∃ i, i < 512 ∧ ch = 512 + i := by
  refine h.imp_right fun ⟨h1, h2⟩ => ⟨ch - 512, by omega, by omega⟩

theorem State.setWindow_reads (s : State) {ch : Nat} (hch : ch < 16 ∨ (512 ≤ ch ∧ ch < 1024)) (w : Option QWindow) :
    (s.setWindow ch w).qWindow ch = w ∧ s.otherWindows (s.setWindow ch w) ch ∧
      { s.setWindow ch w with encs := s.encs, rems := s.rems } = s := by
  rcases qerrChannel_cases hch with h | ⟨i, hi, rfl⟩
  · rw [State.qWindow_encoder _ h, State.setWindow_encoder _ h, State.enc_setEnc, if_pos rfl]
    exact ⟨rfl, s.setEnc_otherWindows ch _, rfl⟩
  · rw [State.qWindow_remote _ hi, State.setWindow_remote, State.rem_setRem, if_pos rfl]
    exact ⟨rfl, s.setRem_otherWindows i _, rfl⟩

/-- QERR_WINDOW_CLOSE of a channel with a window (R221). -/
theorem State.qerrClose_open {s : State} {ch : Nat} {w : QWindow} (h : s.qWindow ch = some w) :
    s.qerrClose ch = if (s.qerrCfg ch).bits 16 16 ≤ w.passages then s.setWindow ch none else s := by
  rw [State.qerrClose, h]

/-- QERR_LIMIT_REACHED of a channel with a window (R221). -/
theorem State.qerrLimit_open {s : State} {ch : Nat} {w : QWindow} (h : s.qWindow ch = some w) :
    s.qerrLimit ch = if w.raised = false ∧ (s.qerrCfg ch).bits 0 8 ≤ w.count then
      (s.setWindow ch (some { w with raised := true })).fbRaise ch 1 else s := by
  rw [State.qerrLimit, h]
  simp only [Bool.and_eq_true, Bool.not_eq_true', decide_eq_true_eq]

/-- A channel that counts quadrature errors has latched a fault, its window is `w`, and its TOTAL stays (R234). -/
def State.faultLatched (s t : State) (ch cause : Nat) (w : Option QWindow) : Prop :=
  t.qWindow ch = w ∧ s.otherWindows t ch ∧
    (ch < 16 → (t.enc ch).fault = cause ∧ (t.enc ch).ended = false ∧ (t.enc ch).total = (s.enc ch).total) ∧
    (512 ≤ ch → (t.rem (ch - 512)).fault = cause ∧ (t.rem (ch - 512)).ended = false ∧
      (t.rem (ch - 512)).total = (s.rem (ch - 512)).total) ∧
    t.regs = s.regs ∧ t.mem = s.mem ∧ t.gens = s.gens

theorem State.fbRaise_latches (s : State) {ch : Nat} (hch : ch < 16 ∨ (512 ≤ ch ∧ ch < 1024)) (cause : Nat) :
    s.faultLatched (s.fbRaise ch cause) ch cause (s.qWindow ch) := by
  rcases qerrChannel_cases hch with h | ⟨i, hi, rfl⟩
  · obtain ⟨axes, hraise⟩ := s.fbRaise_encoder h cause
    have hread : (s.fbRaise ch cause).enc ch = { s.enc ch with fault := cause, ended := false } := by
      rw [hraise]
      exact (State.enc_setEnc _ ch ch _).trans (if_pos rfl)
    rw [State.faultLatched, State.qWindow_encoder _ h, State.qWindow_encoder _ h, hread, hraise]
    exact ⟨rfl, s.setEnc_otherWindows ch _, fun _ => ⟨rfl, rfl, rfl⟩, fun h' => absurd h (by omega), rfl, rfl, rfl⟩
  · obtain ⟨axes, hraise⟩ := s.fbRaise_remote i cause
    have hread : (s.fbRaise (512 + i) cause).rem i = { s.rem i with fault := cause, ended := false } := by
      rw [hraise]
      exact (State.rem_setRem _ i i _).trans (if_pos rfl)
    rw [State.faultLatched, State.qWindow_remote _ hi, State.qWindow_remote _ hi, Nat.add_sub_cancel_left, hread, hraise]
    exact ⟨rfl, s.setRem_otherWindows i _, fun h' => absurd h' (by omega), fun _ => ⟨rfl, rfl, rfl⟩, rfl, rfl, rfl⟩

theorem State.otherWindows.trans {a b t : State} {ch : Nat} (hab : a.otherWindows b ch) (hbt : b.otherWindows t ch) :
    a.otherWindows t ch :=
  ⟨fun j hj => (hbt.1 j hj).trans (hab.1 j hj), fun j hj => (hbt.2 j hj).trans (hab.2 j hj)⟩

theorem State.setWindow_total (s : State) (ch : Nat) (w : Option QWindow) :
    (∀ j, ((s.setWindow ch w).enc j).total = (s.enc j).total) ∧ ∀ j, ((s.setWindow ch w).rem j).total = (s.rem j).total := by
  unfold State.setWindow
  split
  · refine ⟨fun j => ?_, fun _ => rfl⟩
    rw [State.enc_setEnc]
    split
    next h => rw [h]
    next => rfl
  · refine ⟨fun _ => rfl, fun j => ?_⟩
    rw [State.rem_setRem]
    split
    next h => rw [h]
    next => rfl

/-- A window marked, and the fault raised that it counts towards (R221, R234). -/
theorem State.setWindow_fbRaise_latches (s : State) {ch : Nat} (hch : ch < 16 ∨ (512 ≤ ch ∧ ch < 1024)) (w : Option QWindow)
    (cause : Nat) : s.faultLatched ((s.setWindow ch w).fbRaise ch cause) ch cause w := by
  obtain ⟨hwin, hothers, hsame⟩ := s.setWindow_reads hch w
  obtain ⟨henc, hrem⟩ := s.setWindow_total ch w
  obtain ⟨hwin', hothers', hleft, hright, hregs, hmem, hgens⟩ := (s.setWindow ch w).fbRaise_latches hch cause
  rw [henc] at hleft
  rw [hrem] at hright
  exact ⟨hwin'.trans hwin, hothers.trans hothers', hleft, hright, hregs.trans (congrArg State.regs hsame :),
    hmem.trans (congrArg State.mem hsame :), hgens.trans (congrArg State.gens hsame :)⟩

/-! ### The serial ports (R225-R230, R234) -/

/-- A port that took no position from its word, for the reason `err` (R229). -/
def Ser.lost (x y : Ser) (err : Nat) (warn : Bool) : Prop :=
  y.total = x.total ∧ y.last = x.last ∧ y.fails = Nat.min 0xFFFF (x.fails + 1) ∧ y.failRun = x.failRun + 1 ∧ y.lastErr = err ∧
    y.age = Nat.min 15 (x.age + 1) ∧ y.warns = x.warns + bitNat warn

/-- A port that took the position `pos` and stands at `total` (R230). -/
def Ser.took (x y : Ser) (pos : Nat) (total : Int) : Prop :=
  y.total = total ∧ y.last = some pos ∧ y.age = 0 ∧ y.failRun = 0 ∧ y.fails = x.fails

section
variable (x : Ser) (posBits jump ns : Nat) (ts : U64) (passage : Word)

theorem Ser.hand_fail (err : Nat) (warn : Bool) : x.lost (x.hand (.fail err warn) posBits jump ns ts passage) err warn :=
  ⟨rfl, rfl, satAdd_one .., rfl, rfl, satAdd_one .., rfl⟩

variable {x}

/-- The first valid word sets the position (R230). -/
theorem Ser.hand_first (h : x.last = none) (pos : Nat) (warn : Bool) :
    x.took (x.hand (.pos pos warn) posBits jump ns ts passage) pos pos := by
  simp only [Ser.hand, h]
  exact ⟨rfl, rfl, rfl, rfl, rfl⟩

/-- A later one moves it, by no more than the limit (R230). -/
theorem Ser.hand_near {l pos : Nat} (h : x.last = some l) (hd : (signedDiff posBits ((pos : Int) - l)).natAbs ≤ jump)
    (warn : Bool) : x.took (x.hand (.pos pos warn) posBits jump ns ts passage) pos
      (x.total + signedDiff posBits ((pos : Int) - l)) := by
  simp only [Ser.hand, h, if_neg (not_lt.mpr hd)]
  exact ⟨rfl, rfl, rfl, rfl, rfl⟩

theorem Ser.hand_far {l pos : Nat} (h : x.last = some l) (hd : jump < (signedDiff posBits ((pos : Int) - l)).natAbs)
    (warn : Bool) : x.lost (x.hand (.pos pos warn) posBits jump ns ts passage) 4 warn := by
  simp only [Ser.hand, h, if_pos hd]
  exact ⟨rfl, h.symm, satAdd_one .., rfl, rfl, satAdd_one .., rfl⟩
end

/-- `t` is `s` after port `p` received `word` and became `y` but for the word that it keeps. -/
def State.portReads (s t : State) (p : Nat) (word : Option Nat) (y : Ser) : Prop :=
  ((∀ j, j ≠ p → t.ser j = s.ser j) ∧ (∀ w, word = some w → (t.ser p).word = BitVec.ofNat 64 w) ∧
    (word = none → (t.ser p).word = (s.ser p).word) ∧ { t with time := s.time, sers := s.sers, freeCtr := s.freeCtr } = s) ∧
  ∃ kept, t.ser p = { y with word := kept }

theorem State.setSer_portReads {s v : State} {word : Option Nat} (hs : { v with time := s.time, freeCtr := s.freeCtr } = s)
    (p : Nat) (y : Ser) (kept : U64) (hsome : ∀ w, word = some w → kept = BitVec.ofNat 64 w)
    (hnone : word = none → kept = (s.ser p).word) :
    s.portReads (v.setSer p { y with word := kept }) p word y := by
  have hread : (v.setSer p { y with word := kept }).ser p = { y with word := kept } := (v.ser_setSer p p _).trans (if_pos rfl)
  have hword : ((v.setSer p { y with word := kept }).ser p).word = kept := congrArg Ser.word hread
  refine ⟨⟨fun j hj => ?_, fun w h => hword.trans (hsome w h), fun h => hword.trans (hnone h),
    congrArg (fun z : State => { z with sers := s.sers }) hs⟩, kept, hread⟩
  exact (v.ser_setSer p j _).trans ((if_neg hj).trans (congrArg (State.ser · j) hs :))

/-- Only a LEAD sends its ports' results (R439). -/
theorem State.sendLocalSer_follow {s : State} (h : s.rope.role ≠ 2) (p : Nat) : s.sendLocalSer p = s := if_pos (.inl h)

/-- SERIAL_DEADLINE outside the LEAD (R225-R230): the port is handed the word received, wherever in its window falling edge 0
lies (log 91). -/
theorem State.serialDeadline_hands {s : State} {p : Nat} {edge0 : Bool} {samples : List Bool} {word : Option Nat} (hp : p < 8)
    (hclock : s.tt.clockOn = true) (hrole : s.rope.role ≠ 2)
    (hword : ∀ first, 10 ≤ first → first ≤ 15 → serialReceived (s.cfgW (serOff p 0)) (s.cfgW (serOff p 4))
      (10 * nthD 0 s.image.wiring.serialDeadline p) first edge0 samples = word) :
    ∃ ns ts passage, s.portReads (s.serialDeadline p edge0 samples) p word ((s.ser p).hand (serialWord (s.cfgW (serOff p 0)) word)
      ((s.cfgW (serOff p 0)).bits 16 6) ((s.cfgW (serOff p 8)).bits 0 28) ns ts passage) := by
  have hon : ¬(decide (8 ≤ p) || !s.tt.clockOn) = true := by
    rw [hclock, decide_eq_false (not_le.mpr hp)]
    decide
  have hgot := hword (10 + (Config.free s.tick.1).toNat % 6) (by omega) (by omega)
  rw [State.serialDeadline, if_neg hon]
  dsimp only
  rw [hgot, State.sendLocalSer_follow (by exact hrole)]
  refine ⟨_, _, _, State.setSer_portReads rfl p _ _ ?_ ?_⟩
  · rintro w rfl
    rfl
  · rintro rfl
    rfl

/-- What a port makes of a word does not depend on the word that it keeps. -/
theorem Ser.lost.keep {x y : Ser} {err : Nat} {warn : Bool} (h : x.lost y err warn) (kept : U64) :
    x.lost { y with word := kept } err warn := h

theorem Ser.took.keep {x y : Ser} {pos : Nat} {total : Int} (h : x.took y pos total) (kept : U64) :
    x.took { y with word := kept } pos total := h

/-- The parts of a word of the Treong word format (R227-R229): its CRC, its error bit, its position with the warning bit. -/
theorem serialWord_framed {cfg : Word} (h : cfg.bit 31 = true) (bits : Nat) : serialWord cfg (some bits) =
    if (crc8 (bits / 256) 40 0).toNat ≠ bits % 256 then .fail 2 false
    else if bits.testBit 15 = true then .fail 3 (bits.testBit 14)
    else .pos (bits / 2 ^ 16 % 2 ^ cfg.bits 16 6) (bits.testBit 14) := if_pos h

/-- SERIAL_FAIL_LIMIT (R229, R234). -/
theorem State.serialFailLimit_reached {s : State} {p : Nat} (hp : p < 8) (h1 : 1 ≤ (s.cfgW (serOff p 8)).bits 28 4)
    (hrun : (s.cfgW (serOff p 8)).bits 28 4 ≤ (s.ser p).failRun) (hnew : (s.ser p).fault ≠ 3 ∨ (s.ser p).ended = true) :
    s.serialFailLimit p = s.fbRaise (16 + p) 3 := by
  refine if_pos ?_
  rw [decide_eq_true hp, decide_eq_true h1, decide_eq_true hrun, Bool.true_and, Bool.true_and, Bool.true_and, Bool.or_eq_true,
    bne_iff_ne]
  exact hnew

/-! ### The statement -/

/-- Settles O49, event by event: what the events leave of an encoder, of a window and of a port is read off the lemmas above. -/
theorem encodersAndSerialPorts : Obligations.EncodersAndSerialPorts := by
  unfold Obligations.EncodersAndSerialPorts
  refine ⟨?_, ?_, ?_, ?_⟩
  · intro s c runA runB stamp hc hp x filt sign onlyEnc
    refine ⟨fun ab hA hB => ⟨_, exec_encoderEdge .., State.encoderEdge_filtered hc hp stamp ab hA hB⟩,
      fun hA hB => ⟨⟨_, exec_encoderEdge .., State.encoderEdge_samePair hc hp stamp hA hB⟩, fun ab hab => ?_, fun ab hab => ?_,
        fun ab hab => ?_⟩, fun level hA => ?_, fun level hA hup => ⟨fun hx => ?_, fun hx => ?_⟩, fun level hA hdown => ?_⟩
    · obtain ⟨y, ⟨honly, hread⟩, hy⟩ := State.encoderEdge_counts hc hp stamp hA hB (decodeAB_forward _ hab)
      rw [← hread] at hy
      exact ⟨_, exec_encoderEdge .., honly, hy⟩
    · obtain ⟨y, ⟨honly, hread⟩, hy⟩ := State.encoderEdge_counts hc hp stamp hA hB (decodeAB_backward _ hab)
      rw [← hread] at hy
      exact ⟨_, exec_encoderEdge .., honly, hy⟩
    · obtain ⟨hne, hboth⟩ := decodeAB_both ((s.cfgW (encOff c 0)).bit 16) hab
      obtain ⟨honly, hread⟩ := State.encoderEdge_passed hc hp stamp ab hA hB
      rw [Enc.abChange_error hne hboth] at hread
      refine ⟨_, exec_encoderEdge .., honly, ?_⟩
      rw [hread]
      exact ⟨rfl, rfl, rfl, rfl, rfl⟩
    · obtain ⟨v, hv, heq⟩ := State.encoderIndex_reads hc hp stamp level runA (filtered_short hA _ _)
      rw [if_neg (by simp)] at heq
      exact ⟨v, heq, hv⟩
    · obtain ⟨v, hv, heq⟩ := State.encoderIndex_reads hc hp stamp level runA ((filtered_long hA _ _).trans hup)
      rw [if_neg fun ⟨_, h⟩ => Bool.noConfusion (hx.symm.trans h)] at heq
      have hsame : { s.enc c with idxLevel := true } = s.enc c := congrArg (fun b => { s.enc c with idxLevel := b }) hx.symm
      rw [hsame] at hv
      exact ⟨v, heq, hv⟩
    · obtain ⟨v, hv, heq⟩ := State.encoderIndex_reads hc hp stamp level runA ((filtered_long hA _ _).trans hup)
      rw [if_pos ⟨rfl, hx⟩] at heq
      refine ⟨v.indexRise c stamp, heq, ?_⟩
      obtain ⟨fault, ended, hlatch⟩ := v.indexRise_latches hc stamp
      rw [hlatch, hv.2]
      refine ⟨rfl, rfl, rfl, rfl, fun hthis => ⟨if_neg ?_, if_neg ?_⟩, fun hthis => ⟨if_pos hthis, if_pos hthis⟩, fun h18 => ?_⟩
      · exact Bool.eq_false_iff.mp hthis
      · exact Bool.eq_false_iff.mp hthis
      · rw [v.indexRise_unchecked stamp (by rwa [hv.cfgW])]
        exact (hv.setEnc _).1
    · obtain ⟨v, hv, heq⟩ := State.encoderIndex_reads hc hp stamp level runA ((filtered_long hA _ _).trans hdown)
      rw [if_neg fun ⟨h, _⟩ => Bool.noConfusion h] at heq
      exact ⟨v, heq, hv⟩
  · intro s ch w hch hw others
    refine ⟨fun h => ⟨_, exec_qerrWindowClose s ch, ?_⟩, fun h => ?_, fun hr h => ⟨_, exec_qerrLimitReached s ch, ?_⟩,
      fun h => ?_⟩
    · rw [State.qerrClose_open hw, if_pos h]
      exact s.setWindow_reads hch none
    · rw [exec_qerrWindowClose, State.qerrClose_open hw, if_neg (not_le.mpr h)]
    · rw [State.qerrLimit_open hw, if_pos ⟨hr, h⟩]
      exact s.setWindow_fbRaise_latches hch _ 1
    · rw [exec_qerrLimitReached, State.qerrLimit_open hw, if_neg ?_]
      rintro ⟨hr, hc⟩
      rcases h with h | h
      · rw [hr] at h
        cases h
      · omega
  · intro s p edge0 samples word hp x cfg deadline onlyPort lost taken hclock hrole hword
    obtain ⟨ns, ts, passage, honly, kept, hread⟩ := State.serialDeadline_hands hp hclock hrole hword
    have hlost (err : Nat) (warn : Bool) (h : x.lost (x.hand (serialWord cfg word) (cfg.bits 16 6)
        ((s.cfgW (serOff p 8)).bits 0 28) ns ts passage) err warn) :
        ∃ t, exec (.serialDeadline p edge0 samples) s = .next t ∧ lost t err warn := by
      have hk := h.keep kept
      rw [← hread] at hk
      exact ⟨_, exec_serialDeadline .., honly, hk⟩
    have htook (pos : Nat) (total : Int) (h : x.took (x.hand (serialWord cfg word) (cfg.bits 16 6)
        ((s.cfgW (serOff p 8)).bits 0 28) ns ts passage) pos total) :
        ∃ t, exec (.serialDeadline p edge0 samples) s = .next t ∧ taken t pos total := by
      have hk := h.keep kept
      rw [← hread] at hk
      exact ⟨_, exec_serialDeadline .., honly, hk⟩
    refine ⟨?_, fun err warn h => hlost err warn ?_, fun pos warn h => ⟨fun hl => htook pos pos ?_,
      fun l hl => ⟨fun hd => htook pos _ ?_, fun hd => hlost 4 warn ?_⟩⟩⟩
    · rintro rfl
      exact hlost 1 false (x.hand_fail ..)
    · rw [h]
      exact x.hand_fail ..
    · rw [h]
      exact Ser.hand_first _ _ _ _ _ hl ..
    · rw [h]
      exact Ser.hand_near _ _ _ _ _ hl hd ..
    · rw [h]
      exact Ser.hand_far _ _ _ _ _ hl hd ..
  · intro s cfg bits p
    refine ⟨fun h31 => ?_, fun hp => ?_⟩
    · intro good
      rw [serialWord_framed h31]
      exact ⟨fun h => if_pos h, fun h herr => (if_neg (not_not.mpr h)).trans (if_pos herr),
        fun h herr => (if_neg (not_not.mpr h)).trans (if_neg (by simp [herr]))⟩
    · intro x limit h1 hrun hnew
      obtain ⟨axes, hraise⟩ := s.fbRaise_serial hp 3
      have heq := (State.serialFailLimit_reached hp h1 hrun hnew).trans hraise
      refine ⟨_, (exec_serialFailLimit s p).trans (congrArg Host.Outcome.next heq), ?_, fun j hj => ?_, rfl, rfl, rfl, rfl⟩
      · exact (State.ser_setSer _ p p _).trans (if_pos rfl)
      · exact (State.ser_setSer _ p j _).trans (if_neg hj)

end Sys2Proof.Machine
end

section
/-! PROOFS. FB_CLEAR, RG_REOPEN, RG_RESYNC, RG_ASEND, TIME_STEP and TIME_RATE (R235, R265, R275, R276, R281, R295, R296,
R317). -/

namespace Sys2Proof.Machine

/-! ### The rows -/

theorem exec_fbClear (s : State) (c : Ctx) (ch : Nat) :
    exec (.fbClear c ch) s = .next (s.hostCommand c 0x61 [ch] (coreFbClear ch)) := rfl
theorem exec_rgReopen (s : State) (c : Ctx) (r n : Nat) :
    exec (.rgReopen c r n) s = .next (s.hostCommand c 0x71 [r, n] (coreRgReopen r n)) := rfl
theorem exec_rgResync (s : State) (c : Ctx) (r n : Nat) :
    exec (.rgResync c r n) s = .next (s.hostCommand c 0x72 [r, n] (coreRgResync r n)) := rfl
theorem exec_rgAsend (s : State) (c : Ctx) (r n proto len : Nat) (addr : Word) : exec (.rgAsend c r n proto len addr) s =
    .next (s.hostCommand c 0x73 [r, n, proto, len, addr.toNat] (coreRgAsend r n proto len addr)) := rfl
theorem exec_timeStep (s : State) (c : Ctx) (delta : U64) :
    exec (.timeStep c delta) s = .next (s.hostCommand c 0x80 [delta.toNat] (coreTimeStep delta)) := rfl
theorem exec_timeRate (s : State) (c : Ctx) (rate : Word) :
    exec (.timeRate c rate) s = .next (s.hostCommand c 0x81 [rate.toNat] (coreTimeRate rate)) := rfl

/-! ### What a command carried out leaves of the rings and the time base -/

section
variable {s t u : State} {c : Ctx} {opc : Nat} {detail : Word} (h : s.carriedOut t c opc detail u)
include h

theorem State.carriedOut_rings : t.rings = u.rings := (congrArg State.rings (State.carriedOut_effect h) :)
theorem State.carriedOut_ring (r : Nat) : t.ring r = u.ring r := (congrArg (State.ring · r) (State.carriedOut_effect h) :)
theorem State.carriedOut_time : t.time = u.time := (congrArg State.time (State.carriedOut_effect h) :)
theorem State.carriedOut_fbFault (ch : Nat) : t.fbFault ch = u.fbFault ch :=
  (congrArg (State.fbFault · ch) (State.carriedOut_effect h) :)
theorem State.carriedOut_chAbsent (ch : Nat) : t.chAbsent ch = u.chAbsent ch :=
  (congrArg (State.chAbsent · ch) (State.carriedOut_effect h) :)
end

/-! ### The fault of a channel cleared (R234, R235) -/

/-- The fault of a channel cleared. -/
def State.fbCleared (s : State) (ch : Nat) : State :=
  if ch < 16 then s.setEnc ch { s.enc ch with fault := 0, ended := false }
  else if ch < 24 then s.setSer (ch - 16) { s.ser (ch - 16) with fault := 0, ended := false }
  else s.setRem (ch - 512) { s.rem (ch - 512) with fault := 0, ended := false }

theorem State.logged_fbCleared (s : State) (ch : Nat) (m : Tab Byte) (wr l un : Word) (res : Nat) :
    (s.logged m wr l un res).fbCleared ch = (s.fbCleared ch).logged m wr l un res := by
  unfold State.fbCleared
  (repeat' split) <;> rfl

theorem State.fbCleared_only (s : State) (ch : Nat) : ∃ encs sers rems,
    s.fbCleared ch = { s with encs := encs, sers := sers, rems := rems } := by
  unfold State.fbCleared
  (repeat' split) <;> exact ⟨_, _, _, rfl⟩

/-- A channel that exists is a local encoder, a serial port or a remote channel (R213). -/
theorem State.channel_cases {s : State} {ch : Nat} (h : s.chAbsent ch = false) :
    ch < 16 ∨ (∃ p, p < 8 ∧ ch = 16 + p) ∨ ∃ i, ch = 512 + i := by
  unfold State.chAbsent at h
  split at h
  next hlocal =>
    by_cases henc : ch < 16
    · exact .inl henc
    · exact .inr (.inl ⟨ch - 16, by omega, by omega⟩)
  next =>
    split at h
    next hremote => exact .inr (.inr (Nat.exists_eq_add_of_le hremote.1))
    next => cases h

theorem State.fbFault_encoder (s : State) {ch : Nat} (h : ch < 16) : s.fbFault ch = (s.enc ch).fault := if_pos h

theorem State.fbFault_serial (s : State) {p : Nat} (h : p < 8) : s.fbFault (16 + p) = (s.ser p).fault := by
  rw [State.fbFault, if_neg (by omega), if_pos (by omega), Nat.add_sub_cancel_left]

theorem State.fbFault_remote (s : State) (i : Nat) : s.fbFault (512 + i) = (s.rem i).fault := by
  rw [State.fbFault, if_neg (by omega), if_neg (by omega), Nat.add_sub_cancel_left]

/-- Two states that agree on every channel but `ch` report the same faults of the others (R234). -/
theorem State.fbFault_congr {s t : State} {ch j : Nat} (hj : s.chAbsent j = false) (hne : j ≠ ch)
    (henc : ∀ k, k ≠ ch → t.enc k = s.enc k) (hser : ∀ k, 16 + k ≠ ch → t.ser k = s.ser k)
    (hrem : ∀ k, 512 + k ≠ ch → t.rem k = s.rem k) : t.fbFault j = s.fbFault j := by
  rcases State.channel_cases hj with h | ⟨p, hp, rfl⟩ | ⟨i, rfl⟩
  · rw [t.fbFault_encoder h, s.fbFault_encoder h, henc j hne]
  · rw [t.fbFault_serial hp, s.fbFault_serial hp, hser p hne]
  · rw [t.fbFault_remote, s.fbFault_remote, hrem i hne]

/-- The clear ends the fault of its channel alone (R235). -/
theorem State.fbFault_fbCleared {s : State} {ch : Nat} (hch : s.chAbsent ch = false) :
    (s.fbCleared ch).fbFault ch = 0 ∧ ∀ j, j ≠ ch → s.chAbsent j = false → (s.fbCleared ch).fbFault j = s.fbFault j := by
  rcases State.channel_cases hch with h | ⟨p, hp, rfl⟩ | ⟨i, rfl⟩
  · rw [State.fbCleared, if_pos h, State.fbFault_encoder _ h, State.enc_setEnc, if_pos rfl]
    refine ⟨rfl, fun j hne hj => State.fbFault_congr hj hne (fun k hk => ?_) (fun _ _ => rfl) fun _ _ => rfl⟩
    exact (s.enc_setEnc ch k _).trans (if_neg hk)
  · rw [State.fbCleared, if_neg (by omega), if_pos (by omega), Nat.add_sub_cancel_left, State.fbFault_serial _ hp,
      State.ser_setSer, if_pos rfl]
    refine ⟨rfl, fun j hne hj => State.fbFault_congr hj hne (fun _ _ => rfl) (fun k hk => ?_) fun _ _ => rfl⟩
    exact (s.ser_setSer p k _).trans (if_neg fun e => hk (congrArg (16 + ·) e))
  · rw [State.fbCleared, if_neg (by omega), if_neg (by omega), Nat.add_sub_cancel_left, State.fbFault_remote,
      State.rem_setRem, if_pos rfl]
    refine ⟨rfl, fun j hne hj => State.fbFault_congr hj hne (fun _ _ => rfl) (fun _ _ => rfl) fun k hk => ?_⟩
    exact (s.rem_setRem i k _).trans (if_neg fun e => hk (congrArg (512 + ·) e))

section
variable {s : State} {c : Ctx} {ch : Nat} (hab : s.chAbsent ch = false) (hf : s.fbFault ch ≠ 0) (he : s.fbEnded ch = true)
include hab hf he

/-- FB_CLEAR of a fault whose cause has ended (R235). -/
theorem cmdFbClear_takes : cmdFbClear ch s = ({}, s.fbCleared ch) := by
  simp only [cmdFbClear, hab, he, beq_eq_false_iff_ne.mpr hf]
  rfl

theorem State.fbClear_carriedOut (ha : s.admits c 0x61 [ch] = true) :
    s.carriedOut (s.hostCommand c 0x61 [ch] (coreFbClear ch)) c 0x61 0 (s.fbCleared ch) :=
  State.pointAt_carriedOut (cmd := cmdFbClear ch) ha fun m wr l un res => by
    rw [cmdFbClear_takes (s := s.logged m wr l un res) hab hf he, State.logged_fbCleared]
end

/-! ### The rings' commands (R265, R275, R276, R281) -/

section
variable {s : State} {c : Ctx} {r n : Nat} (hr : r < 4) (h1 : 1 ≤ n) (hn : n ≤ s.nNodes r)
include hr h1 hn

/-- RG_REOPEN of a closed node at the expert level (R265, R281). -/
theorem cmdRgReopen_takes (hlock : ((s.ring r).node n).lock = .closed) (hx : s.ringExpert r = true) : cmdRgReopen r n s =
    ({}, s.setRing r ((s.ring r).setNode n { (s.ring r).node n with lock := .trial, joinRun := 0 })) := by
  have h0 : (n == 0) = false := beq_eq_false_iff_ne.mpr (by omega)
  simp only [cmdRgReopen, decide_eq_false (not_le.mpr hr), h0, decide_eq_false (not_lt.mpr hn), hlock, hx]
  rfl

theorem State.rgReopen_carriedOut (ha : s.admits c 0x71 [r, n] = true) (hlock : ((s.ring r).node n).lock = .closed)
    (hx : s.ringExpert r = true) : s.carriedOut (s.hostCommand c 0x71 [r, n] (coreRgReopen r n)) c 0x71 0
      (s.setRing r ((s.ring r).setNode n { (s.ring r).node n with lock := .trial, joinRun := 0 })) :=
  State.pointAt_carriedOut (cmd := cmdRgReopen r n) ha fun m wr l un res =>
    cmdRgReopen_takes (s := s.logged m wr l un res) hr h1 hn hlock hx

/-- RG_RESYNC of one node of a ring in RUN (R275, R281). -/
theorem cmdRgResync_takes (hff : n ≠ 0xFF) (hst : (s.ring r).st = .run) : cmdRgResync r n s = ({}, s.resyncNode r n) := by
  have h0 : (n == 0) = false := beq_eq_false_iff_ne.mpr (by omega)
  simp only [cmdRgResync, decide_eq_false (not_le.mpr hr), h0, decide_eq_false (not_lt.mpr hn), hst, if_neg hff]
  simp

theorem State.rgResync_carriedOut (ha : s.admits c 0x72 [r, n] = true) (hff : n ≠ 0xFF) (hst : (s.ring r).st = .run) :
    s.carriedOut (s.hostCommand c 0x72 [r, n] (coreRgResync r n)) c 0x72 0 (s.resyncNode r n) :=
  State.pointAt_carriedOut (cmd := cmdRgResync r n) ha fun m wr l un res =>
    cmdRgResync_takes (s := s.logged m wr l un res) hr h1 hn hff hst
end

/-- A read of words that all decode returns their bytes and counts the corrections (R109, R110). -/
theorem State.fetchBytes_readable {s : State} {a n : Nat} (h : ∀ w ∈ wordsOf a n, s.bad.contains w = false) :
    (s.fetchBytes a n).1 = s.mem.bytes a n ∧ s.sameBesideCounts (s.fetchBytes a n).2 := by
  have hnone : (wordsOf a n).filter (fun w => s.bad.contains w) = [] :=
    List.filter_eq_nil_iff.mpr fun w hw => by rw [h w hw]; exact Bool.false_ne_true
  rw [State.fetchBytes, if_pos (.inr (by rw [hnone]; rfl))]
  refine ⟨rfl, ?_⟩
  split
  · exact s.sameBesideCounts_refl
  · exact s.correct_same none _

/-- `u` is `s` with a frame entered in the queue of ring `r`, and stored in the ring buffer's entry in turn (R276; log 122). -/
def State.frameQueued (s u : State) (r n proto : Nat) (payload : List Byte) : Prop :=
  { u.memoryFrom s with rings := s.rings } = s ∧
    s.memorySame u (0x03400000 + 0x80000 * r + 0x4000 + 288 * ((s.ring r).aqWr % 64)) 288 ∧
    u.ring r = { s.ring r with txq := (s.ring r).txq ++ [⟨n, proto, payload⟩], aqWr := (s.ring r).aqWr + 1 } ∧
    ∀ j, j ≠ r → u.ring j = s.ring j

/-- The entry of the ring buffer is 288 bytes long (log 122). -/
theorem queuedBytes_length (n proto : Nat) (payload : List Byte) :
    ((List.range 288).map (Config.queuedByte n proto payload)).length = 288 := by
  rw [List.length_map, List.length_range]

theorem State.store'_memoryFrom (t s : State) (a : Nat) (bs : List Byte) : (t.store' a bs).memoryFrom s = t.memoryFrom s := rfl

theorem State.setRing_memoryFrom (t s : State) (r : Nat) (x : Ring) :
    { (t.setRing r x).memoryFrom s with rings := s.rings } = { t.memoryFrom s with rings := s.rings } := rfl

/-- A frame entered in the queue of a state that differs by its counters (R109, R276). -/
theorem State.frameQueued_of_counts {s v : State} (hsame : s.sameBesideCounts v) (r n proto : Nat) (payload bs : List Byte)
    (hlen : bs.length = 288) : s.frameQueued ((v.setRing r { v.ring r with
      txq := (s.ring r).txq ++ [⟨n, proto, payload⟩], aqWr := (s.ring r).aqWr + 1 }).store'
        (ringBase r + 0x4000 + 288 * ((s.ring r).aqWr % 64)) bs) r n proto payload := by
  have hring (j : Nat) : v.ring j = s.ring j := (congrArg (State.ring · j) hsame :)
  refine ⟨?_, ?_, ?_, fun j hj => ?_⟩
  · rw [State.store'_memoryFrom, State.setRing_memoryFrom, State.memoryFrom, show v.countsFrom s = s from hsame]
  · rw [State.memorySame, ← State.sameBesideCounts_mem hsame, ← hlen]
    exact State.store'_memorySame _ _ bs
  · rw [← hring r]
    exact (State.ring_setRing _ r r _).trans (if_pos rfl)
  · exact (State.ring_setRing _ r j _).trans ((if_neg hj).trans (hring j))

theorem cmdRgAsend_queues {s : State} {r n proto len : Nat} {addr : Word}
    (hbad : ∀ w ∈ wordsOf addr.toNat len, s.bad.contains w = false) :
    s.frameQueued (cmdRgAsend r n proto len addr s).2 r n proto (s.mem.bytes addr.toNat len) := by
  obtain ⟨hbytes, hsame⟩ := State.fetchBytes_readable hbad
  rw [← hbytes]
  exact State.frameQueued_of_counts hsame r n proto _ _ (queuedBytes_length ..)

/-- The queue and the ring buffer stand beside the log. -/
theorem State.frameQueued_unlogged {s v : State} {m : Tab Byte} {wr l un : Word} {res r n proto : Nat} {payload : List Byte}
    (h : (s.logged m wr l un res).frameQueued v r n proto payload) :
    ∃ u, s.frameQueued u r n proto payload ∧ v = u.logged m wr l un res := by
  obtain ⟨hrest, hmem, hring, hothers⟩ := h
  have hstore : v.store = (s.logged m wr l un res).store := (congrArg State.store hrest :)
  exact ⟨{ v with store := s.store }, ⟨congrArg (fun z : State => { z with store := s.store }) hrest, hmem, hring, hothers⟩,
    congrArg (fun x : Store => { v with store := x }) hstore⟩

section
variable {s : State} {c : Ctx} {r n proto len : Nat} {addr : Word} (hr : r < 4) (h1 : 1 ≤ n) (hn : n ≤ s.nNodes r)
  (hlen : len ≤ 256) (hlo : 0x03600000 ≤ addr.toNat) (hhi : addr.toNat + len ≤ 0x03800000)
  (hlock : ((s.ring r).node n).lock = .opened) (hq : (s.ring r).txq.length < 64) (hfree : ((s.ring r).node n).rxFree ≠ 0)
include hr h1 hn hlen hlo hhi hlock hq hfree

/-- RG_ASEND to a node that can receive (R276, R280, R281). -/
theorem cmdRgAsend_accepted : (cmdRgAsend r n proto len addr s).1 = {} := by
  have h0 : (n == 0) = false := beq_eq_false_iff_ne.mpr (by omega)
  simp only [cmdRgAsend, inHostBuffers, decide_eq_false (not_le.mpr hr), h0, decide_eq_false (not_lt.mpr hn),
    decide_eq_false (not_lt.mpr hlen), decide_eq_true (And.intro hlo hhi), hlock, decide_eq_false (not_le.mpr hq),
    beq_eq_false_iff_ne.mpr hfree]
  rfl

theorem State.rgAsend_carriedOut (ha : s.admits c 0x73 [r, n, proto, len, addr.toNat] = true)
    (hbad : ∀ w ∈ wordsOf addr.toNat len, s.bad.contains w = false) :
    ∃ u, s.frameQueued u r n proto (s.mem.bytes addr.toNat len) ∧
      s.carriedOut (s.hostCommand c 0x73 [r, n, proto, len, addr.toNat] (coreRgAsend r n proto len addr)) c 0x73 0 u := by
  refine State.pointAt_carriedOut_exists (cmd := cmdRgAsend r n proto len addr) ha fun m wr l un res => ?_
  obtain ⟨u, hu, heq⟩ := State.frameQueued_unlogged (s := s) (cmdRgAsend_queues (s := s.logged m wr l un res) (r := r) (n := n)
    (proto := proto) hbad)
  exact ⟨u, hu, Prod.ext (cmdRgAsend_accepted (s := s.logged m wr l un res) hr h1 hn hlen hlo hhi hlock hq hfree) heq⟩
end

/-! ### TIME (R295, R296, R317) -/

section
variable {s : State} {c : Ctx}

theorem cmdTimeStep_takes {delta : U64} (hd : delta.toInt.natAbs < 2 ^ 62) (hs : s.stepAllowed delta.toInt = true) :
    cmdTimeStep delta s = ({}, s.stepTime delta.toInt) := by
  have hrange : ¬(2 : Int) ^ 62 ≤ (delta.toInt.natAbs : Int) := by omega
  simp only [cmdTimeStep, decide_eq_false hrange, hs]
  rfl

theorem State.timeStep_carriedOut {delta : U64} (ha : s.admits c 0x80 [delta.toNat] = true) (hd : delta.toInt.natAbs < 2 ^ 62)
    (hs : s.stepAllowed delta.toInt = true) :
    s.carriedOut (s.hostCommand c 0x80 [delta.toNat] (coreTimeStep delta)) c 0x80 0 (s.stepTime delta.toInt) :=
  State.pointAt_carriedOut (cmd := cmdTimeStep delta) ha fun m wr l un res =>
    cmdTimeStep_takes (s := s.logged m wr l un res) hd hs

theorem cmdTimeRate_takes {rate : Word} (hhi : rate.toInt ≤ rateMax) (hlo : -rateMax ≤ rate.toInt) (hf : s.follower = false) :
    cmdTimeRate rate s = ({}, { s with time := { s.time with rate := rate.toInt } }) := by
  simp only [cmdTimeRate, decide_eq_false (not_lt.mpr hhi), decide_eq_false (not_lt.mpr hlo), hf]
  rfl

theorem State.timeRate_carriedOut {rate : Word} (ha : s.admits c 0x81 [rate.toNat] = true) (hhi : rate.toInt ≤ rateMax)
    (hlo : -rateMax ≤ rate.toInt) (hf : s.follower = false) :
    s.carriedOut (s.hostCommand c 0x81 [rate.toNat] (coreTimeRate rate)) c 0x81 0
      { s with time := { s.time with rate := rate.toInt } } :=
  State.pointAt_carriedOut (cmd := cmdTimeRate rate) ha fun m wr l un res =>
    cmdTimeRate_takes (s := s.logged m wr l un res) hhi hlo hf
end

/-- TIME, the start of the passage and the instants of the plant port move by the step; RAW stays (R296, R297; log 38). -/
theorem State.stepTime_moves (s : State) (delta : U64) : ∃ time chans, s.stepTime delta.toInt =
    { s with time := time, chans := chans, tt := { s.tt with start := s.tt.start + delta }, plant := s.plant.shift delta } ∧
      time.time = s.time.time + delta ∧ time.raw = s.time.raw ∧ time.rate = s.time.rate ∧
      time.steps = Nat.min 0xFFFF (s.time.steps + 1) := by
  rw [State.stepTime, State.shiftTime, TimeBase.step, BitVec.ofInt_toInt]
  exact ⟨_, _, rfl, rfl, rfl, rfl, satAdd_one ..⟩

/-! ### The statement -/

/-- Settles O27, command by command: each meets none of its checks, and its effect is the one stated. -/
theorem feedbackRingAndTimeCommands : Obligations.FeedbackRingAndTimeCommands := by
  unfold Obligations.FeedbackRingAndTimeCommands
  refine ⟨fun s c => ⟨fun ch ha hab hf he => ⟨_, exec_fbClear s c ch, ?_⟩,
    fun r n ha hr h1 hn hlock hx => ⟨_, exec_rgReopen s c r n, ?_⟩,
    fun r n ha hr h1 hn hff hst => ⟨_, exec_rgResync s c r n, ?_⟩,
    fun r n proto len addr ha hr h1 hn hlen hlo hhi hlock hq hfree hbad => ?_⟩,
    fun s c => ⟨fun delta ha hd hs => ⟨_, exec_timeStep s c delta, ?_⟩,
      fun rate ha hhi hlo hf => ⟨_, exec_timeRate s c rate, ?_⟩⟩⟩
  · have h := State.fbClear_carriedOut hab hf he ha
    obtain ⟨hclear, hothers⟩ := State.fbFault_fbCleared hab
    obtain ⟨encs, sers, rems, heq⟩ := s.fbCleared_only ch
    refine ⟨(State.carriedOut_fbFault h ch).trans hclear, ?_, fun j hj hpresent => ?_⟩
    · rw [State.carriedOut_encs h, State.carriedOut_sers h, State.carriedOut_rems h]
      rw [heq] at h ⊢
      exact h
    · rw [State.carriedOut_chAbsent h, heq] at hpresent
      exact (State.carriedOut_fbFault h j).trans (hothers j hj hpresent)
  · have h := State.rgReopen_carriedOut hr h1 hn ha hlock hx
    refine ⟨?_, (State.carriedOut_ring h r).trans ?_, fun j hj => (State.carriedOut_ring h j).trans ?_⟩
    · rw [State.carriedOut_rings h]
      exact h
    · exact (State.ring_setRing ..).trans (if_pos rfl)
    · exact (State.ring_setRing ..).trans (if_neg hj)
  · have h := State.rgResync_carriedOut hr h1 hn ha hff hst
    have hread : (s.resyncNode r n).ring r = _ := (State.ring_setRing ..).trans (if_pos rfl)
    refine ⟨?_, ?_, fun j hj => (State.carriedOut_ring h j).trans ?_⟩
    · rw [State.carriedOut_rings h]
      exact h
    · rw [State.carriedOut_ring h, hread, satAdd_one]
      rfl
    · exact (State.ring_setRing ..).trans (if_neg hj)
  · obtain ⟨u, ⟨hrest, hmem, hring, hothers⟩, h⟩ := State.rgAsend_carriedOut hr h1 hn hlen hlo hhi hlock hq hfree ha hbad
    exact ⟨_, u, exec_rgAsend s c r n proto len addr, h, hrest, hmem, (State.carriedOut_ring h r).trans hring,
      fun j hj => (State.carriedOut_ring h j).trans (hothers j hj)⟩
  · have h := State.timeStep_carriedOut ha hd hs
    obtain ⟨time, chans, heq, htime, hraw, hrate, hsteps⟩ := s.stepTime_moves delta
    rw [heq] at h
    refine ⟨?_, ?_, ?_, ?_, State.carriedOut_tt h, ?_⟩
    · rw [State.carriedOut_time h]
      exact htime
    · rw [State.carriedOut_time h]
      exact hraw
    · rw [State.carriedOut_time h]
      exact hrate
    · rw [State.carriedOut_time h]
      exact hsteps
    · rw [State.carriedOut_time h, State.carriedOut_tt h, State.carriedOut_chans h]
      exact h
  · exact State.timeRate_carriedOut ha hhi hlo hf

end Sys2Proof.Machine
end

section
/-! PROOFS. What a frame that a ring's receiver takes changes, pound probes, the nodes of a ring and its fibres (R263-R265, R269,
R270, R274, R275, R278). -/

namespace Sys2Proof.Machine

/-! ### Numbers in frames (R250) -/

/-- A number's low bytes are read back as the number, within their width. -/
theorem natLE_bytesLE_mod (n v : Nat) : natLE (bytesLE n v) = v % 256 ^ n := by
  induction n generalizing v with
  | zero => exact (Nat.mod_one v).symm
  | succ n ih =>
    rw [bytesLE, natLE, ih, BitVec.toNat_ofNat, show 256 ^ (n + 1) = 256 * 256 ^ n from Nat.pow_succ']
    exact Nat.mod_mul.symm

/-- A number written into a frame after `as` is read back there. -/
theorem fieldLE_stored (as bs : List Byte) (n v : Nat) : fieldLE (as ++ (bytesLE n v ++ bs)) as.length n = v % 256 ^ n := by
  rw [fieldLE, List.drop_left, List.take_left' (bytesLE_length n v), natLE_bytesLE_mod]

/-! ### A ring written, and a frame received on it (R251, R263, R287) -/

/-- Ring `r` has become `x`, and nothing else has changed. -/
structure State.RingSet (s t : State) (r : Nat) (x : Ring) : Prop where
  ring : t.ring r = x
  others : ∀ j, j ≠ r → t.ring j = s.ring j
  frame : { t with rings := s.rings } = s

theorem State.setRing_ringSet (s : State) (r : Nat) (x : Ring) : s.RingSet (s.setRing r x) r x :=
  ⟨(State.ring_setRing ..).trans (if_pos rfl), fun _ hj => (State.ring_setRing ..).trans (if_neg hj), s.setRing_frame r x⟩

/-- A frame has come on ring `r`, which is now `x`: beside the ring, TIME has gone on to the arrival and counters have counted. -/
structure State.Hears (s t : State) (r : Nat) (x : Ring) : Prop where
  ring : t.ring r = x
  others : ∀ j, j ≠ r → t.ring j = s.ring j
  frame : { t with time := s.time, rings := s.rings, perf := s.perf } = s

section
variable {s t : State} {r : Nat} {x : Ring}

theorem State.Hears.setRing (h : s.Hears t r x) (y : Ring) : s.Hears (t.setRing r y) r y :=
  have g := t.setRing_ringSet r y
  ⟨g.ring, fun j hj => (g.others j hj).trans (h.others j hj), h.frame⟩

theorem State.Hears.portCount (h : s.Hears t r x) (event q port : Nat) : s.Hears (t.portCount event q port) r x := by
  obtain ⟨perf, hc⟩ := t.count_only event (2 * q + port) 1
  rw [State.portCount, hc]
  exact ⟨h.ring, h.others, h.frame⟩

theorem State.Hears.badCheck (h : s.Hears t r x) (port : Nat) :
    s.Hears (t.badCheck r port) r { x with check := x.check + 1 } := by
  have g := h.setRing { t.ring r with check := (t.ring r).check + 1 }
  rw [h.ring] at g
  unfold State.badCheck
  rw [h.ring]
  exact g.portCount ..

theorem State.Hears.tt (h : s.Hears t r x) : t.tt = s.tt := (congrArg State.tt h.frame :)
theorem State.Hears.rope (h : s.Hears t r x) : t.rope = s.rope := (congrArg State.rope h.frame :)
theorem State.Hears.host (h : s.Hears t r x) : t.host = s.host := (congrArg State.host h.frame :)
theorem State.Hears.store (h : s.Hears t r x) : t.store = s.store := (congrArg State.store h.frame :)
theorem State.Hears.regs (h : s.Hears t r x) : t.regs = s.regs := (congrArg State.regs h.frame :)
theorem State.Hears.units (h : s.Hears t r x) : t.units = s.units := (congrArg State.units h.frame :)
end

/-- TIME goes on to the arrival of a frame, and the frame is counted at its port (R531). -/
theorem State.received_hears (s : State) (r port arrival : Nat) :
    s.Hears ((s.until arrival).portCount 0x0401 r port) r (s.ring r) :=
  have h : s.Hears (s.until arrival) r (s.ring r) := ⟨rfl, fun _ _ => rfl, rfl⟩
  h.portCount ..

/-! ### The rows -/

theorem exec_poundProbeSend (s : State) (r port : Nat) : exec (.poundProbeSend r port) s = .next (s.probeSend r port) := rfl
theorem exec_poundProbe (s : State) (r port : Nat) (bs : List Byte) (arrival : Nat) :
    exec (.poundProbe r port bs arrival) s = .next (s.probe r port bs arrival) := rfl
theorem exec_poundProbeReply (s : State) (r port : Nat) (bs : List Byte) (arrival : Nat) :
    exec (.poundProbeReply r port bs arrival) s = .next (s.probeReply r port bs arrival) := rfl
theorem exec_edgeLimitReached (s : State) (r n : Nat) : exec (.edgeLimitReached r n) s = .next (s.edgeLimitReached r n) := rfl
theorem exec_joinCountReached (s : State) (r n : Nat) : exec (.joinCountReached r n) s = .next (s.joinCountReached r n) := rfl
theorem exec_bargeAbsenceTimeout (s : State) (r n : Nat) : exec (.bargeAbsenceTimeout r n) s = .next (s.bargeAbsence r n) := rfl
theorem exec_creditResync (s : State) (r n : Nat) : exec (.creditResync r n) s = .next (s.creditResync r n) := rfl
theorem exec_blockLockLoss (s : State) (r port : Nat) : exec (.blockLockLoss r port) s = .next (s.blockLockLoss r port) := rfl
theorem exec_headerAbsence (s : State) (r port : Nat) : exec (.headerAbsence r port) s = .next (s.headerAbsence r port) := rfl
theorem exec_blockLockRegained (s : State) (r port : Nat) :
    exec (.blockLockRegained r port) s = .next (s.blockLockRegained r port) := rfl
theorem exec_holeClear (s : State) (r : Nat) : exec (.holeClear r) s = .next (s.holeClear r) := rfl

/-! ### Pound probes (R278) -/

/-- The reply to a probe: its T1, and the stamps T2 and T3 in their places (log 33). -/
def poundReply (r : Nat) (bs : List Byte) (t2 t3 : Nat) : List Byte :=
  withCheck ([0x41#8, BitVec.ofNat 8 (64 * r), 0, 0, 0, 0, 0, 0] ++ (bs.drop 8).take 8 ++ bytesLE 8 t2 ++ bytesLE 8 t3 ++ bytesLE 4 0)

theorem poundReply_kind (r : Nat) (bs : List Byte) (t2 t3 : Nat) : nthD 0 (poundReply r bs t2 t3) 0 = 0x41 := rfl

theorem poundReply_stamps (r : Nat) (bs : List Byte) (t2 t3 : Nat) : ∃ rest,
    poundReply r bs t2 t3 = [0x41#8, BitVec.ofNat 8 (64 * r), 0, 0, 0, 0, 0, 0] ++ (bs.drop 8).take 8 ++ (bytesLE 8 t2 ++ rest) := by
  unfold poundReply withCheck
  simp only [List.append_assoc]
  exact ⟨_, rfl⟩

theorem poundReply_t1 (r : Nat) {bs : List Byte} (h : 16 ≤ bs.length) (t2 t3 : Nat) :
    ((poundReply r bs t2 t3).drop 8).take 8 = (bs.drop 8).take 8 := by
  obtain ⟨rest, hreply⟩ := poundReply_stamps r bs t2 t3
  have hlen : ((bs.drop 8).take 8).length = 8 := by simp; omega
  rw [hreply, List.append_assoc]
  exact List.take_left' hlen

theorem poundReply_t2 (r : Nat) {bs : List Byte} (h : 16 ≤ bs.length) (t2 t3 : Nat) :
    fieldLE (poundReply r bs t2 t3) 16 8 = t2 % 2 ^ 64 := by
  obtain ⟨rest, hreply⟩ := poundReply_stamps r bs t2 t3
  have hlen : ([0x41#8, BitVec.ofNat 8 (64 * r), 0, 0, 0, 0, 0, 0] ++ (bs.drop 8).take 8).length = 16 := by simp; omega
  have hread := fieldLE_stored ([0x41#8, BitVec.ofNat 8 (64 * r), 0, 0, 0, 0, 0, 0] ++ (bs.drop 8).take 8) rest 8 t2
  rw [hlen] at hread
  rw [hreply]
  exact hread

section
variable {s : State} {r port : Nat}

/-- The receiver of a probe or of its reply acts in a part that sends on a ring in use. -/
theorem State.ringPort_on (hs : s.ringSends = true) (hu : s.ringInUse r = true) (hp : port < 2) :
    ¬(!s.ringSends || !s.ringInUse r || decide (2 ≤ port)) = true := by
  rw [hs, hu, decide_eq_false (by omega)]
  exact Bool.false_ne_true

/-- A probe sent: T1 is kept for its reply. -/
theorem State.probeSend_sends (hs : s.ringSends = true) (hu : s.ringInUse r = true) (hp : port < 2) : ∃ frame,
    s.probeSend r port = s.setRing r (if port = 0 then { s.ring r with probe0 := some s.time.time, txLocal := frame }
      else { s.ring r with probe1 := some s.time.time, txLocal := frame }) :=
  ⟨_, if_neg (State.ringPort_on hs hu hp)⟩

/-- A good probe is answered with its T1, with T2 and with T3. -/
theorem State.probe_replies {bs : List Byte} (hs : s.ringSends = true) (hu : s.ringInUse r = true) (hp : port < 2)
    (hl : bs.length = 32) (hok : frameOk bs = true) (hk : nthD 0 bs 0 = 0x40) (arrival : Nat) : ∃ t3,
    s.Hears (s.probe r port bs arrival) r { s.ring r with txLocal := poundReply r bs (arrival / 10) t3 } := by
  have h := s.received_hears r port arrival
  refine ⟨((s.until arrival).portCount 0x0401 r port).time.time.toNat, ?_⟩
  unfold State.probe
  dsimp only
  rw [if_neg (State.ringPort_on hs hu hp), if_neg (by simp [hl, hok]), if_neg (by rw [hk]; decide), h.ring]
  exact h.setRing _

/-- A good reply to the probe in flight: its delay is the port's latest result. -/
theorem State.probeReply_measures {bs : List Byte} {arrival : Nat} (hs : s.ringSends = true) (hu : s.ringInUse r = true)
    (hp : port < 2) (hl : bs.length = 40) (hok : frameOk bs = true) (hk : nthD 0 bs 0 = 0x41) {d : Int}
    (hd : poundDelay (BitVec.ofNat 64 (fieldLE bs 8 8)) (BitVec.ofNat 64 (fieldLE bs 16 8)) (BitVec.ofNat 64 (fieldLE bs 24 8))
      (BitVec.ofNat 64 (arrival / 10)) = d)
    (hprobe : (if port = 0 then (s.ring r).probe0 else (s.ring r).probe1) = some (BitVec.ofNat 64 (fieldLE bs 8 8))) :
    s.Hears (s.probeReply r port bs arrival) r
      (if port = 0 then { s.ring r with probe0 := none, pounds0 := pushResult (s.ring r).pounds0 d }
        else { s.ring r with probe1 := none, pounds1 := pushResult (s.ring r).pounds1 d }) := by
  have h := s.received_hears r port arrival
  unfold State.probeReply
  dsimp only
  rw [if_neg (State.ringPort_on hs hu hp), if_neg (by simp [hl, hok]), if_neg (by rw [hk]; decide), h.ring, if_neg (not_not.mpr hprobe), hd]
  exact h.setRing _
end

/-! ### The nodes of a ring (R264, R265, R274, R275) -/

@[simp] theorem Ring.node_setNode (x : Ring) (n m : Nat) (v : RNode) :
    (x.setNode n v).node m = if m = n then v else x.node m := by simp [Ring.setNode, Ring.node]

/-- Node `n` of ring `r` has become `w`, and nothing else has changed. -/
def State.NodeSet (s t : State) (r n : Nat) (w : RNode) : Prop :=
  (t.ring r).node n = w ∧ (∀ m, m ≠ n → (t.ring r).node m = (s.ring r).node m) ∧
    { t.ring r with nodes := (s.ring r).nodes } = s.ring r ∧ (∀ j, j ≠ r → t.ring j = s.ring j) ∧ { t with rings := s.rings } = s

theorem State.setNode_nodeSet (s : State) (r n : Nat) (w : RNode) : s.NodeSet (s.setRing r ((s.ring r).setNode n w)) r n w := by
  obtain ⟨hring, hothers, hframe⟩ := s.setRing_ringSet r ((s.ring r).setNode n w)
  refine ⟨?_, fun m hm => ?_, ?_, hothers, hframe⟩
  · rw [hring, Ring.node_setNode, if_pos rfl]
  · rw [hring, Ring.node_setNode, if_neg hm]
  · rw [hring]
    rfl

section
variable {s : State} {r n : Nat}

theorem State.edgeLimitReached_closes (hk : s.keepsBooks = true) (hl : ((s.ring r).node n).lock = .opened)
    (he : s.edgeLimit r ≤ ((s.ring r).node n).edgeRun) :
    s.edgeLimitReached r n = s.setRing r ((s.ring r).setNode n { (s.ring r).node n with lock := .closed }) :=
  if_pos (by simp [hk, hl, he])

theorem State.joinCountReached_opens (hk : s.keepsBooks = true) (hl : ((s.ring r).node n).lock = .trial)
    (he : s.joinCount r ≤ ((s.ring r).node n).joinRun) :
    s.joinCountReached r n = s.setRing r ((s.ring r).setNode n { (s.ring r).node n with
      lock := .opened, joinRun := 0, granted := ((s.ring r).node n).gtot, used := ((s.ring r).node n).utot, absence := 0
      inflightRun := 0 }) :=
  if_pos (by simp [hk, hl, he])

theorem State.bargeAbsence_tries (hk : s.keepsBooks = true) (hl : ((s.ring r).node n).lock = .opened)
    (he : 16 ≤ ((s.ring r).node n).absence) :
    s.bargeAbsence r n = s.setRing r ((s.ring r).setNode n { (s.ring r).node n with lock := .trial, joinRun := 0 }) :=
  if_pos (by simp [hk, hl, he])

theorem State.creditResync_resyncs (hk : s.keepsBooks = true) (he : 2 ≤ ((s.ring r).node n).inflightRun) :
    s.creditResync r n = s.resyncNode r n :=
  if_pos (by simp [hk, he])

/-! ### The fibres of a ring (R269, R270) -/

/-- Rings 0 to 3 have ports 0 and 1. -/
theorem ringPort_ok {port : Nat} (hr : r < 4) (hp : port < 2) : ¬(decide (4 ≤ r) || decide (2 ≤ port)) = true := by
  rw [decide_eq_false (by omega), decide_eq_false (by omega)]
  exact Bool.false_ne_true

/-- Ring `x` with block lock lost at a port. -/
def Ring.unlocked (x : Ring) (port : Nat) : Ring :=
  if port = 0 then { x with lock0 := false, good0 := 0 } else { x with lock1 := false, good1 := 0 }

/-- Ring `x` with the receiver of a port taken as dead. -/
def Ring.deadAt (x : Ring) (port : Nat) : Ring := if port = 0 then { x with dead0 := true } else { x with dead1 := true }

theorem Ring.addHole_only (x : Ring) (p : Nat) : ∃ holes heal, x.addHole p = { x with holes := holes, heal := heal } := by
  unfold Ring.addHole
  split
  · exact ⟨x.holes, x.heal, rfl⟩
  · exact ⟨_, _, rfl⟩

/-- A fibre taken as dead: the port is dead, and beside it only the holes and their count change. -/
theorem State.fibreDead_dead (s : State) (r port : Nat) : ∃ holes heal,
    s.RingSet (s.fibreDead r port) r { (s.ring r).deadAt port with holes := holes, heal := heal } := by
  have heq : s.fibreDead r port = s.setRing r
    (if s.heads r then ((s.ring r).deadAt port).addHole (s.ownPound r port) else (s.ring r).deadAt port) := rfl
  rw [heq]
  split
  · obtain ⟨holes, heal, h⟩ := ((s.ring r).deadAt port).addHole_only (s.ownPound r port)
    rw [h]
    exact ⟨holes, heal, s.setRing_ringSet r _⟩
  · exact ⟨_, _, s.setRing_ringSet r _⟩

variable {port : Nat}

theorem State.blockLockLoss_silent (hr : r < 4) (hp : port < 2) (hs : s.ringSends = false) :
    s.blockLockLoss r port = s.setRing r ((s.ring r).unlocked port) := by
  have hs' : (s.setRing r ((s.ring r).unlocked port)).ringSends = false := hs
  refine (if_neg (ringPort_ok hr hp)).trans (if_neg ?_)
  show ¬((s.setRing r ((s.ring r).unlocked port)).ringSends && _) = true
  rw [hs']
  exact Bool.false_ne_true

theorem State.blockLockLoss_sending (hr : r < 4) (hp : port < 2) (hs : s.ringSends = true) (hu : s.ringInUse r = true) :
    s.blockLockLoss r port = (s.setRing r ((s.ring r).unlocked port)).fibreDead r port :=
  (if_neg (ringPort_ok hr hp)).trans (if_pos (Bool.and_eq_true_iff.mpr ⟨hs, hu⟩))

theorem State.headerAbsence_absent (hr : r < 4) (hp : port < 2) (hs : s.ringSends = true)
    (ha : if port = 0 then 2 ≤ (s.ring r).noHdr0 ∧ 2 ≤ (s.ring r).got1 else 2 ≤ (s.ring r).noHdr1 ∧ 2 ≤ (s.ring r).got0) :
    s.headerAbsence r port = s.fibreDead r port := by
  unfold State.headerAbsence
  dsimp only
  rw [if_neg (by simp [hs]; omega)]
  by_cases h0 : port = 0
  · rw [if_pos h0] at ha ⊢
    exact if_pos (by simp [ha.1, ha.2])
  · rw [if_neg h0] at ha ⊢
    exact if_pos (by simp [ha.1, ha.2])

theorem State.blockLockRegained_locks (hr : r < 4) (hp : port < 2) : s.blockLockRegained r port =
    s.setRing r (if port = 0 then { s.ring r with lock0 := true } else { s.ring r with lock1 := true }) :=
  if_neg (ringPort_ok hr hp)

/-- The holes of a ring are forgotten once no folded header has come for two passages, while no receiver is dead. -/
theorem State.holeClear_clears
    (hq : (s.ring r).lastFold = none ∨ ∃ p, (s.ring r).lastFold = some p ∧ 2 ≤ (s.tt.passage - p).toNat)
    (h0 : (s.ring r).dead0 = false) (h1 : (s.ring r).dead1 = false) :
    s.holeClear r = s.setRing r { s.ring r with holes := [], lastFold := none } := by
  unfold State.holeClear
  dsimp only
  rw [h0, h1]
  rcases hq with h | ⟨p, h, hp⟩
  · rw [h]
    rfl
  · rw [h]
    exact if_pos (by simpa using hp)

theorem State.holeClear_dead (h : (s.ring r).dead0 = true ∨ (s.ring r).dead1 = true) : s.holeClear r = s :=
  if_neg (by rcases h with h | h <;> simp [h])
end

/-! ### The statement -/

/-- Settles O53, event by event: what a probe, a node's event and a fibre's event leave is read off the lemmas above. T1, T2 and T3
of a probe and its reply stand where log 33 places them. -/
theorem poundsNodesAndFibres : Obligations.PoundsNodesAndFibres := by
  unfold Obligations.PoundsNodesAndFibres
  refine ⟨fun s r port hs hu hp => ⟨?_, fun bs arrival hl hok hk => ?_, fun bs arrival hl hok hk hprobe => ?_⟩,
    fun s r n port hr hp => ⟨fun hk => ⟨fun hl he => ?_, fun hl he => ?_, fun hl he => ?_, fun he => ?_⟩, fun hs => ?_,
      fun hs hu => ?_, fun hs ha => ?_, ?_, fun hq h0 h1 => ?_, fun h => ?_⟩⟩
  · obtain ⟨frame, h⟩ := State.probeSend_sends hs hu hp
    obtain ⟨hring, hothers, hframe⟩ := s.setRing_ringSet r (if port = 0 then { s.ring r with probe0 := some s.time.time, txLocal := frame }
      else { s.ring r with probe1 := some s.time.time, txLocal := frame })
    rw [exec_poundProbeSend, h]
    refine ⟨_, rfl, ⟨hothers, hframe⟩, ?_⟩
    rw [hring]
    split <;> exact ⟨rfl, rfl⟩
  · obtain ⟨t3, hring, hothers, hframe⟩ := State.probe_replies hs hu hp hl hok hk arrival
    refine ⟨_, exec_poundProbe .., ⟨hothers, hframe⟩, ?_⟩
    rw [hring]
    exact ⟨poundReply_kind .., poundReply_t1 r (by omega) .., poundReply_t2 r (by omega) ..⟩
  · obtain ⟨hring, hothers, hframe⟩ := State.probeReply_measures hs hu hp hl hok hk rfl hprobe
    refine ⟨_, exec_poundProbeReply .., ⟨hothers, hframe⟩, ?_⟩
    rw [hring]
    split <;> rfl
  · exact ⟨_, exec_edgeLimitReached .., State.edgeLimitReached_closes hk hl he ▸ s.setNode_nodeSet r n _⟩
  · exact ⟨_, exec_joinCountReached .., State.joinCountReached_opens hk hl he ▸ s.setNode_nodeSet r n _⟩
  · exact ⟨_, exec_bargeAbsenceTimeout .., State.bargeAbsence_tries hk hl he ▸ s.setNode_nodeSet r n _⟩
  · have hresync : s.RingSet (s.resyncNode r n) r _ := s.setRing_ringSet r _
    obtain ⟨hring, hothers, hframe⟩ := hresync
    rw [exec_creditResync, State.creditResync_resyncs hk he]
    refine ⟨_, rfl, ?_, ?_, ?_, hothers, hframe⟩
    · rw [hring]
      exact (Ring.node_setNode ..).trans (if_pos rfl)
    · rw [hring]
      rfl
    · rw [hring, satAdd_one]
  · obtain ⟨hring, hothers, hframe⟩ := s.setRing_ringSet r ((s.ring r).unlocked port)
    rw [exec_blockLockLoss, State.blockLockLoss_silent hr hp hs]
    exact ⟨_, rfl, hring, hothers, hframe⟩
  · have hset := s.setRing_ringSet r ((s.ring r).unlocked port)
    obtain ⟨holes, heal, hring, hothers, hframe⟩ := (s.setRing r ((s.ring r).unlocked port)).fibreDead_dead r port
    rw [hset.ring] at hring
    rw [exec_blockLockLoss, State.blockLockLoss_sending hr hp hs hu]
    refine ⟨_, rfl, ?_, fun j hj => (hothers j hj).trans (hset.others j hj), ?_⟩
    · rw [hring]
      unfold Ring.unlocked Ring.deadAt
      split <;> exact ⟨rfl, rfl⟩
    · exact Eq.trans (congrArg (fun z : State => { z with rings := s.rings }) hframe) hset.frame
  · obtain ⟨holes, heal, hring, hothers, hframe⟩ := s.fibreDead_dead r port
    rw [exec_headerAbsence, State.headerAbsence_absent hr hp hs ha]
    refine ⟨_, rfl, ?_, hothers, hframe⟩
    rw [hring]
    unfold Ring.deadAt
    split <;> rfl
  · obtain ⟨hring, hothers, hframe⟩ := s.setRing_ringSet r
      (if port = 0 then { s.ring r with lock0 := true } else { s.ring r with lock1 := true })
    rw [exec_blockLockRegained, State.blockLockRegained_locks hr hp]
    exact ⟨_, rfl, hring, hothers, hframe⟩
  · obtain ⟨hring, hothers, hframe⟩ := s.setRing_ringSet r { s.ring r with holes := [], lastFold := none }
    rw [exec_holeClear, State.holeClear_clears hq h0 h1]
    exact ⟨_, rfl, hring, hothers, hframe⟩
  · rw [exec_holeClear, State.holeClear_dead h]

end Sys2Proof.Machine
end

section
/-! PROOFS. PASSAGE_HEADER and COLD_START_HEADER (R255, R269, R279, R290, R458, R462). -/

namespace Sys2Proof.Machine

/-! ### A header received (R255, R263) -/

theorem exec_header (s : State) (r port : Nat) (bs : List Byte) (arrival : Nat) (cold : Bool) :
    exec (if cold then .coldStartHeader r port bs arrival else .passageHeader r port bs arrival) s =
      .next (s.header r port bs arrival cold) := by cases cold <;> rfl

theorem Ring.frameEnd_only (x : Ring) (port arrival len : Nat) : ∃ endX endY,
    x.frameEnd port arrival len = { x with endX := endX, endY := endY } := by
  unfold Ring.frameEnd
  split
  · exact ⟨x.endX, _, rfl⟩
  · exact ⟨_, x.endY, rfl⟩

/-- A frame received: the end of its lane's latest frame moves with it. -/
theorem State.frameEnd_hears (s : State) (r port arrival len : Nat) :
    s.Hears (((s.until arrival).portCount 0x0401 r port).setRing r
      ((((s.until arrival).portCount 0x0401 r port).ring r).frameEnd port arrival len)) r ((s.ring r).frameEnd port arrival len) := by
  have h := s.received_hears r port arrival
  rw [h.ring]
  exact h.setRing _

section
variable {s : State} {r port arrival : Nat} {bs : List Byte} {cold : Bool}

theorem State.header_on (hl : s.ringListens = true) (hu : s.ringInUse r = true) (hp : port < 2) :
    ¬(!s.ringListens || !s.ringInUse r || decide (2 ≤ port)) = true := by
  rw [hl, hu, decide_eq_false (by omega)]
  exact Bool.false_ne_true

/-- A header whose CHECK is wrong is counted (R287). -/
theorem State.header_badCheck (hl : s.ringListens = true) (hu : s.ringInUse r = true) (hp : port < 2)
    (hbad : bs.length ≠ 32 ∨ frameOk bs = false) : ∃ endX endY, s.Hears (s.header r port bs arrival cold) r
      { s.ring r with endX := endX, endY := endY, check := (s.ring r).check + 1 } := by
  obtain ⟨endX, endY, hend⟩ := (s.ring r).frameEnd_only port arrival 32
  have h := (s.frameEnd_hears r port arrival 32).badCheck port
  rw [hend] at h
  refine ⟨endX, endY, ?_⟩
  unfold State.header
  dsimp only
  rw [if_neg (State.header_on hl hu hp), if_pos (by simpa using hbad)]
  exact h

/-- A good header of the ring is seen, and is the part's own, its peer's, or another part's (R255, R279). -/
theorem State.header_good (hl : s.ringListens = true) (hu : s.ringInUse r = true) (hp : port < 2) (hlen : bs.length = 32)
    (hok : frameOk bs = true) (hkind : nthD 0 bs 0 = if cold then 2 else 1) (hring : rlRing (nthD 0 bs 1) = r) :
    ∃ t, s.Hears t r (((s.ring r).frameEnd port arrival 32).headerSeen port) ∧ s.header r port bs arrival cold =
      if fieldLE bs 20 4 = s.ownTag then t.ownHeader r port arrival bs cold
      else if s.isPeer (fieldLE bs 20 4) then t.peerHeader r port bs cold else t.foreignHeader r := by
  have hend := s.frameEnd_hears r port arrival 32
  have h := hend.setRing (((s.ring r).frameEnd port arrival 32).headerSeen port)
  refine ⟨_, h, ?_⟩
  have htag : ∀ u : State, u.store = s.store → u.ownTag = s.ownTag := fun u hu => by rw [State.ownTag, hu, State.ownTag]
  have hpeer : ∀ u : State, u.rope = s.rope → ∀ tag, u.isPeer tag = s.isPeer tag := fun u hu tag => by
    rw [State.isPeer, State.team, hu, State.isPeer, State.team]
  unfold State.header
  dsimp only
  rw [if_neg (State.header_on hl hu hp), if_neg (by simp [hlen, hok]), if_neg (by simpa using ⟨hkind, hring⟩), hend.ring,
    htag _ h.store, hpeer _ h.rope]

/-! ### The part's own header come round (R269, R290, R458) -/

/-- LOOP of an own header: from its DEP_TIME to its arrival. -/
def loopTime (arrival : Nat) (bs : List Byte) : Nat :=
  Nat.min 0xFFFF (BitVec.ofNat 64 (arrival / 10) - BitVec.ofNat 64 (fieldLE bs 8 8)).toNat

/-- Ring `x` with the part's own unfolded header come round on a port. -/
def Ring.ownBack (x : Ring) (port loop : Nat) : Ring :=
  if port = 0 then { x with hdr0 := true, own0 := true, loopY := loop } else { x with hdr1 := true, own1 := true, loopX := loop }

theorem State.ownHeader_unfolded (s : State) (hf : (nthD 0 bs 1).getLsbD 4 = false) : ∃ returned,
    s.ownHeader r port arrival bs cold = ({ s with rope := { s.rope with returned := returned } }).setRing r
      ((s.ring r).ownBack port (loopTime arrival bs)) ∧ (cold = true → s.rope.attempt = true → returned = true) := by
  unfold State.ownHeader
  rw [hf]
  by_cases h : (s.rope.attempt && cold) = true
  · rw [if_pos h]
    exact ⟨true, rfl, fun _ _ => rfl⟩
  · rw [if_neg h]
    exact ⟨s.rope.returned, rfl, fun hc ha => absurd (by rw [hc, ha]; rfl) h⟩

/-! ### Another part's header (R279, R462) -/

/-- A configuration fault silences the part, its ring states kept (R462). -/
theorem State.cfgFault_silences (s : State) (h : s.rope.role ≠ 15) (code : Nat) :
    (s.cfgFault code).rope.role = 15 ∧ (s.cfgFault code).rope.cfg = code ∧ (s.cfgFault code).rope.leadon = false ∧
      (s.cfgFault code).regs = s.regs ∧ (s.cfgFault code).units = s.units ∧
      ∀ g, ((s.cfgFault code).ring g).st = (s.ring g).st := by
  obtain ⟨axes, gens, chans, evios, souts, brks, hrole⟩ :=
    State.takeRole_any { s with rope := { s.rope with cfg := code } } 15
  obtain ⟨m, wr, l, un, res, hlog⟩ := State.logOther_logged
    ((State.takeRole { s with rope := { s.rope with cfg := code } } 15).ringTx false) originSelf 0x90004 code
  have heq : s.cfgFault code = ((State.takeRole { s with rope := { s.rope with cfg := code } } 15).ringTx false).logOther originSelf
    0x90004 code := if_neg h
  rw [heq, hlog, hrole]
  refine ⟨rfl, rfl, rfl, rfl, rfl, fun g => ?_⟩
  refine (congrArg Ring.st (State.ring_ringTx _ false g)).trans ?_
  split <;> rfl

/-- A part outside a team that hears a header of another part is in CONFLICT on the ring, and silent (R279). -/
theorem State.foreignHeader_conflicts (s : State) (r : Nat) (ht : s.team = false) : ∃ conflict, s.foreignHeader r =
    ((State.setRing { s with rope := { s.rope with conflict := conflict } } r { s.ring r with st := .conflict }).cfgFault 1) := by
  have halone : ¬(s.team && s.rope.peer.passage.isNone) = true := by
    rw [ht]
    exact Bool.false_ne_true
  unfold State.foreignHeader
  by_cases ha : s.rope.attempt = true
  · rw [if_pos ha]
    exact ⟨true, if_neg halone⟩
  · rw [if_neg ha]
    exact ⟨s.rope.conflict, if_neg halone⟩
end

/-! ### The statement -/

/-- Settles O50: a header is bad, the part's own, or, outside a team, another part's. -/
theorem headersAreHeard : Obligations.HeadersAreHeard := by
  unfold Obligations.HeadersAreHeard
  intro s r port arrival bs cold hl hu hp
  dsimp only
  rw [exec_header]
  refine ⟨fun hbad => ?_, fun hlen hok hkind hring => ⟨fun htag hf => ?_, fun htag hteam => ?_⟩⟩
  · obtain ⟨endX, endY, h⟩ := State.header_badCheck (cold := cold) (arrival := arrival) hl hu hp hbad
    refine ⟨_, rfl, ?_, ?_, ?_, h.others, h.frame⟩
    all_goals rw [h.ring]
  · obtain ⟨t, h, heq⟩ := State.header_good (arrival := arrival) hl hu hp hlen hok hkind hring
    obtain ⟨returned, hown, hret⟩ := State.ownHeader_unfolded (r := r) (port := port) (arrival := arrival) (cold := cold) t hf
    obtain ⟨endX, endY, hend⟩ := (s.ring r).frameEnd_only port arrival 32
    obtain ⟨hread, hothers, -⟩ := State.setRing_ringSet { t with rope := { t.rope with returned := returned } } r
      ((t.ring r).ownBack port (loopTime arrival bs))
    rw [heq, if_pos htag, hown]
    refine ⟨_, rfl, ?_, ?_, fun hc ha => hret hc (by rw [h.rope]; exact ha), fun j hj => (hothers j hj).trans (h.others j hj), ?_⟩
    · rw [hread, h.ring, hend]
      unfold Ring.ownBack Ring.headerSeen loopTime
      by_cases h0 : port = 0 <;> simp only [h0, if_true, if_false, and_self]
    · rw [hread, h.ring, hend]
      unfold Ring.ownBack Ring.headerSeen
      split <;> rfl
    · exact Eq.trans (congrArg (fun z : State => { z with rope := { z.rope with returned := s.rope.returned } }) h.frame) rfl
  · obtain ⟨t, h, heq⟩ := State.header_good (arrival := arrival) hl hu hp hlen hok hkind hring
    have hrole : t.rope.role ≠ 15 := by
      rw [h.rope]
      intro h15
      simp [State.ringListens, h15] at hl
    have hpeer : s.isPeer (fieldLE bs 20 4) = false := by rw [State.isPeer, hteam]; rfl
    have hteam' : t.team = false := by rw [State.team, h.rope]; exact hteam
    obtain ⟨conflict, hforeign⟩ := t.foreignHeader_conflicts r hteam'
    obtain ⟨hr, hcfg, hlead, hregs, hunits, hst⟩ := State.cfgFault_silences
      (State.setRing { t with rope := { t.rope with conflict := conflict } } r { t.ring r with st := .conflict }) hrole 1
    rw [heq, if_neg htag, hpeer, if_neg Bool.false_ne_true, hforeign]
    exact ⟨_, rfl, (hst r).trans (by rw [State.ring_setRing, if_pos rfl]), hr, hcfg, hlead, hregs.trans h.regs, hunits.trans h.units⟩

end Sys2Proof.Machine
end

section
/-! PROOFS. What a fault of a port and a token of a hardware source leave (R20, R23, R395, R397-R399, R401, R403, R586). -/

namespace Sys2Proof.Machine

/-! ### A contained fault (R20, R23, R24) -/

/-- A fault flagged changes DIAG, the latched faults, and, where it is recorded at once, GCTL's books and the log. -/
theorem State.flag_only (s : State) (level kind identity : Nat) : ∃ du dw dm faults host store, s.flag level kind identity =
    { s with rope := { s.rope with diagUnit := du, diagWord := dw, diagMiss := dm }
             faults := faults, host := host, store := store } := by
  unfold State.flag
  dsimp only
  split
  · exact ⟨_, _, _, _, s.host, s.store, rfl⟩
  · obtain ⟨host, store, h⟩ := State.recordFault_only { s with rope := { s.rope with
      diagUnit := _, diagWord := _, diagMiss := _ } } ⟨level, kind, identity⟩
    rw [h]
    exact ⟨_, _, _, s.faults, host, store, rfl⟩

/-- The fault of a ring port, of the acquisition port, of the host port or of the scheduler is its own (R20). -/
theorem State.unitFault_contained (s : State) (kind : Nat) {identity : Nat} (h : identity / 4096 ∈ [3, 6, 7, 8]) :
    ∃ du dw dm faults host store, s.unitFault kind identity =
      { s with rope := { s.rope with diagUnit := du, diagWord := dw, diagMiss := dm }
               faults := faults, host := host, store := store } := by
  obtain ⟨du, dw, dm, faults, host, store, hflag⟩ := s.flag_only 0 kind identity
  have heq : s.unitFault kind identity = s.unitLatched kind identity := by
    simp only [List.mem_cons, List.not_mem_nil, or_false] at h
    unfold State.unitFault
    dsimp only
    rcases h with h | h | h | h <;> rw [h] <;> rfl
  rw [heq, State.unitLatched, hflag]
  exact ⟨du, dw, dm, _, host, store, rfl⟩

/-! ### The scheduler's own state -/

/-- What a token may change: the scheduler's books and the descriptors, and what a fault of the scheduler flags (R403). No byte below
the descriptor table changes. -/
structure State.Schedules (s t : State) : Prop where
  frame : { t with
    mem := s.mem, bad := s.bad, badSeen := s.badSeen, wrong := s.wrong, sched := s.sched, faults := s.faults, host := s.host
    store := s.store
    rope := { t.rope with diagUnit := s.rope.diagUnit, diagWord := s.rope.diagWord, diagMiss := s.rope.diagMiss } } = s
  below : ∀ z, z < 0x036C0000 → t.mem.byte z = s.mem.byte z

theorem State.Schedules.refl (s : State) : s.Schedules s := ⟨rfl, fun _ _ => rfl⟩

theorem State.Schedules.trans {a b c : State} (h : a.Schedules b) (g : b.Schedules c) : a.Schedules c :=
  ⟨Eq.trans (congrArg (fun z : State => { z with
      mem := a.mem, bad := a.bad, badSeen := a.badSeen, wrong := a.wrong, sched := a.sched, faults := a.faults, host := a.host
      store := a.store
      rope := { z.rope with diagUnit := a.rope.diagUnit, diagWord := a.rope.diagWord, diagMiss := a.rope.diagMiss } }) g.frame)
    h.frame, fun z hz => (g.below z hz).trans (h.below z hz)⟩

section
variable {s t : State} (h : s.Schedules t)
include h

theorem State.Schedules.time : t.time = s.time := (congrArg State.time h.frame :)
theorem State.Schedules.rings : t.rings = s.rings := (congrArg State.rings h.frame :)
theorem State.Schedules.regs : t.regs = s.regs := (congrArg State.regs h.frame :)
theorem State.Schedules.axes : t.axes = s.axes := (congrArg State.axes h.frame :)
theorem State.Schedules.units : t.units = s.units := (congrArg State.units h.frame :)
end

theorem State.foldl_schedules {α : Type} (f : State → α → State) (hf : ∀ (s : State) x, s.Schedules (f s x)) (l : List α) (s : State) :
    s.Schedules (l.foldl f s) :=
  List.foldlRecOn (motive := s.Schedules) l f (.refl s) fun t ht x _ => ht.trans (hf t x)

/-- A store into a descriptor. -/
theorem State.storeDesc_schedules (s : State) (d o : Nat) (bs : List Byte) : s.Schedules (s.store' (descAddr d + o) bs) :=
  ⟨rfl, fun z hz => Mem.byte_setBytes_out s.mem _ z bs (.inl (by unfold descAddr; omega))⟩

theorem State.setDescState_schedules (s : State) (d st : Nat) : s.Schedules (s.setDescState d st) := s.storeDesc_schedules d 20 _

theorem State.setCore_schedules (s : State) (c : Nat) (x : Core) : s.Schedules (s.setCore c x) := ⟨rfl, fun _ _ => rfl⟩

theorem State.prefetchOne_schedules (s : State) (c : Nat) : s.Schedules (s.prefetchOne c) := by
  have hset (d st : Nat) := s.setDescState_schedules d st
  unfold State.prefetchOne
  dsimp only
  split
  · exact .refl s
  · split
    · exact (hset _ _).trans ((State.setDescState_schedules ..).trans (State.setCore_schedules ..))
    · split
      · exact (hset _ _).trans (State.setCore_schedules ..)
      · exact .refl s
  · exact (hset _ _).trans (State.setCore_schedules ..)

theorem State.prefetch_schedules (s : State) : s.Schedules s.prefetch := by
  unfold State.prefetch
  split
  · exact .refl s
  · refine State.foldl_schedules _ (fun t c => ?_) _ s
    split
    · exact (t.prefetchOne_schedules c).trans ((State.prefetchOne_schedules ..).trans (State.prefetchOne_schedules ..))
    · exact .refl t

theorem State.makeReady_schedules (s : State) (d : Nat) (resume : Bool) : s.Schedules (s.makeReady d resume) := by
  have hready := (s.setDescState_schedules d dReady).trans
    (State.storeDesc_schedules (s.setDescState d dReady) d 28 (bytesLE 4 (lo32 (s.setDescState d dReady).time.raw).toNat))
  refine State.Schedules.trans ?_ (State.prefetch_schedules _)
  refine State.Schedules.trans ?_ (State.foldl_schedules _ (fun t c => t.setCore_schedules c _) _ _)
  exact hready.trans ⟨rfl, fun _ _ => rfl⟩

theorem State.checkComplete_schedules (s : State) (d : Nat) : s.Schedules (s.checkComplete d) := by
  unfold State.checkComplete
  split
  · split
    · exact s.makeReady_schedules d false
    · exact .refl s
  · exact .refl s

/-- A descriptor read that does not decode faults the scheduler, or the host port, alone (R403). -/
theorem State.readDesc_schedules (s : State) (d : Nat) : s.Schedules (s.readDesc d) := by
  unfold State.readDesc
  split
  · obtain ⟨du, dw, dm, faults, host, store, h⟩ := s.unitFault_contained 1 (identity := idieUnit (descAddr d)) (by
      rcases idieUnit_port (descAddr d) with h | h | h <;> rw [h] <;> decide)
    have hacq (u : State) : u.acqWordFault (descAddr d) = u := if_neg (by unfold descAddr; omega)
    unfold State.idieFault
    dsimp only
    rw [h, hacq]
    split
    · exact ⟨rfl, fun _ _ => rfl⟩
    · exact ⟨rfl, fun _ _ => rfl⟩
  · exact .refl s

theorem State.token_schedules (s : State) (d j : Nat) (v : Word) : s.Schedules (s.token d j v).1 := by
  have hread := s.readDesc_schedules d
  have hentry (u : State) (m : Option Match) : u.Schedules ((u.setEntry d m).checkComplete d) :=
    State.Schedules.trans (b := u.setEntry d m) ⟨rfl, fun _ _ => rfl⟩ (State.checkComplete_schedules ..)
  unfold State.token
  dsimp only
  split
  · exact hread
  · split
    · exact hread.trans ⟨rfl, fun _ _ => rfl⟩
    · split
      · split
        · exact hread
        · exact hread.trans (hentry ..)
      · split
        · exact hread
        · exact hread.trans (hentry ..)

/-- A token of a hardware source offered (R401). -/
theorem State.offer_schedules (s : State) (k : Nat) : s.Schedules (s.offer k) := by
  have hpending (u : State) (b : Bool) : u.Schedules (u.setPending k b) := by
    unfold State.setPending
    dsimp only
    split
    · exact ⟨rfl, fun _ _ => rfl⟩
    · split
      · exact ⟨rfl, fun _ _ => rfl⟩
      · exact ⟨rfl, fun _ _ => rfl⟩
  exact (s.token_schedules ..).trans (hpending ..)

end Sys2Proof.Machine
end

section
/-! PROOFS. DOWNSTREAM_FRAME and ACYCLIC_FRAME (R251, R268, R272, R280, R441, R456). -/

namespace Sys2Proof.Machine

theorem exec_downstreamFrame (s : State) (r port : Nat) (bs : List Byte) (arrival : Nat) :
    exec (.downstreamFrame r port bs arrival) s = .next (s.downstreamFrame r port bs arrival) := rfl
theorem exec_acyclicFrame (s : State) (r port : Nat) (bs : List Byte) :
    exec (.acyclicFrame r port bs) s = .next (s.acyclicFrame r port bs) := rfl

/-! ### Frames passed on (R251, R269) -/

/-- A frame is repeated but into a dead pound. -/
theorem Ring.repeats_only (x : Ring) (port : Nat) (bs : List Byte) : x.repeats port bs =
    { x with txRepeat := if (if port = 0 then x.dead1 else x.dead0) = true then x.txRepeat else bs } := by
  unfold Ring.repeats
  by_cases h : (if port = 0 then x.dead1 else x.dead0) = true
  · rw [if_pos h, if_pos h]
  · rw [if_neg h, if_neg h]

section
variable {s : State} {r port arrival : Nat} {bs : List Byte}

/-- A SECOND repeats its LEAD's downstream frame and notes the passage it is of (R456). -/
theorem State.downstreamFrame_second (hu : s.ringInUse r = true) (hrun : s.host.phase = .run) (hp : port < 2)
    (h3 : s.rope.role = 3) (hkind : nthD 0 bs 0 = 0x20) (hring : rlRing (nthD 0 bs 1) = r) : ∃ t : State,
    s.Hears t r (((s.ring r).frameEnd port arrival bs.length).repeats port bs) ∧ s.downstreamFrame r port bs arrival =
      { t with rope := { t.rope with
        downSeen := Tab.put none t.rope.downSeen r (some (BitVec.ofNat 32 (fieldLE bs 4 4))) } } := by
  have h := s.received_hears r port arrival
  have hr := h.setRing (((s.ring r).frameEnd port arrival bs.length).repeats port bs)
  refine ⟨_, hr, ?_⟩
  have hmember : s.isMember = true := by simp [State.isMember, h3]
  have h3' : (((s.until arrival).portCount 0x0401 r port).setRing r
      (((s.ring r).frameEnd port arrival bs.length).repeats port bs)).rope.role = 3 := by rw [hr.rope, h3]
  unfold State.downstreamFrame
  dsimp only
  rw [if_neg (by simp [hmember, hrun, hu]; omega), if_neg (by simpa using ⟨hkind, hring⟩), h.ring, if_pos h3']

/-! ### The receive queue (R272, R280) -/

/-- A queue entry of 32 bytes and the frame's payload (R280). -/
def queueEntry (n proto : Byte) (len : Nat) (seq : Byte) (laneY : Bool) (time : Nat) (payload : List Byte) : List Byte :=
  [n, proto] ++ bytesLE 2 len ++ [seq, BitVec.ofNat 8 (bitNat laneY), 0, 0] ++ bytesLE 8 time ++ bytesLE 16 0 ++ payload

theorem queueEntry_head (n proto : Byte) (len : Nat) (seq : Byte) (laneY : Bool) (time : Nat) (payload : List Byte) :
    nthD 0 (queueEntry n proto len seq laneY time payload) 0 = n := rfl

theorem Mem.setBytes_append (m : Mem) (a : Nat) (as bs : List Byte) :
    m.setBytes a (as ++ bs) = (m.setBytes a as).setBytes (a + as.length) bs := by
  induction as generalizing m a with
  | nil => rfl
  | cons b as ih => rw [List.cons_append, Mem.setBytes, ih, Mem.setBytes, List.length_cons, Nat.add_right_comm, Nat.add_assoc]

theorem queueEntry_payload (m : Mem) (a : Nat) (n proto : Byte) (len : Nat) (seq : Byte) (laneY : Bool) (time : Nat)
    (payload : List Byte) :
    (m.setBytes a (queueEntry n proto len seq laneY time payload)).bytes (a + 32) payload.length = payload := by
  have hlen : ([n, proto] ++ bytesLE 2 len ++ [seq, BitVec.ofNat 8 (bitNat laneY), 0, 0] ++ bytesLE 8 time ++ bytesLE 16 0).length = 32 := by
    simp [bytesLE_length]
  rw [queueEntry, Mem.setBytes_append, hlen, Mem.bytes_setBytes]

/-- The queue entry of a node's frame that comes now (R280). -/
def State.acyclicEntry (s : State) (n port : Nat) (bs : List Byte) : List Byte :=
  queueEntry (BitVec.ofNat 8 n) (nthD 0 bs 4) (fieldLE bs 5 2) (nthD 0 bs 3) (decide (port = 0)) s.time.time.toNat
    ((bs.drop 8).take (fieldLE bs 5 2))

/-- The place of the entry that a ring's receive queue takes next (R280). -/
def State.queuePlace (s : State) (r : Nat) : Nat := ringBase r + 0x10000 + 320 * ((s.ring r).arxWr.toNat % 512)

/-- Bytes stored below the scheduler's area and a ring set stay when a token is offered; the registers and axes stay. -/
theorem State.stored_offer (u : State) (a k r : Nat) (bs : List Byte) (x : Ring) {t : State}
    (ht : t = ((u.store' a bs).setRing r x).offer k) :
    (∀ z, z < 0x036C0000 → t.mem.byte z = (u.mem.setBytes a bs).byte z) ∧ (∀ j, t.ring j = if j = r then x else u.ring j) ∧
      t.regs = u.regs ∧ t.axes = u.axes := by
  have h := ((u.store' a bs).setRing r x).offer_schedules k
  rw [← ht] at h
  refine ⟨fun z hz => ?_, fun j => ?_, ?_, ?_⟩
  · rw [h.below z hz, State.setRing_mem]
    rfl
  · rw [State.ring, h.rings]
    exact State.ring_setRing ..
  · rw [h.regs, State.setRing_regs]
    rfl
  · rw [h.axes, State.setRing_axes]
    rfl

/-- Ring `x` with a frame of node `n` in its receive queue. -/
def Ring.queued (x : Ring) (n : Nat) (seq used : Byte) : Ring :=
  { x.setNode n { x.node n with upSeq := some seq, used := used } with arxWr := x.arxWr + 1 }

/-- A frame that a port passes on, or not: at most what is repeated changes. -/
theorem State.Hears.carry {t : State} {x : Ring} (h : s.Hears t r x) : ∃ rep,
    s.Hears (t.carry r port bs) r { x with txRepeat := rep } := by
  unfold State.carry
  split
  · have hset := h.setRing ((t.ring r).repeats port bs)
    rw [h.ring, Ring.repeats_only] at hset
    rw [h.ring, Ring.repeats_only]
    exact ⟨_, hset⟩
  · exact ⟨x.txRepeat, h⟩

/-- A node's frame with a new sequence number is entered in the receive queue where that has room, and posts the ring's token. -/
theorem State.acyclicFrame_enters {n : Nat} (hu : s.ringInUse r = true) (hrun : s.host.phase = .run) (hp : port < 2)
    (h1 : 1 ≤ s.rope.role) (h4 : s.rope.role ≤ 4) (hok : frameOk bs = true) (hkind : nthD 0 bs 0 = 0x30)
    (hring : rlRing (nthD 0 bs 1) = r) (hn : (nthD 0 bs 2).toNat = n) (hmax : fieldLE bs 5 2 ≤ 256)
    (hlen : bs.length = fieldLE bs 5 2 + 12) (hn1 : 1 ≤ n) (hnn : n ≤ s.nNodes r)
    (hseq : ((s.ring r).node n).upSeq ≠ some (nthD 0 bs 3)) (hroom : ((s.ring r).arxWr - (s.ring r).arxRd).toNat < 512) :
    ∃ u rep used, s.Hears u r { s.ring r with txRepeat := rep } ∧ s.acyclicFrame r port bs =
      ((u.store' (s.queuePlace r) (u.acyclicEntry n port bs)).setRing r
        (({ s.ring r with txRepeat := rep } : Ring).queued n (nthD 0 bs 3) used)).offer (96 + r) := by
  have hstart : s.Hears s r (s.ring r) := ⟨rfl, fun _ _ => rfl, rfl⟩
  have hcount := hstart.portCount 0x0401 r port
  obtain ⟨rep, h⟩ := hcount.carry (port := port) (bs := bs)
  refine ⟨_, rep, if s.keepsBooks then ((s.ring r).node n).used + 1 else ((s.ring r).node n).used, h, ?_⟩
  have hpass : (s.portCount 0x0401 r port).passAcyclic r port bs = (s.portCount 0x0401 r port).carry r port bs := by
    unfold State.passAcyclic
    rw [if_neg (by rw [hkind]; decide), if_pos hkind]
  have htakes : ¬(!(s.host.phase == .run && decide (1 ≤ s.rope.role ∧ s.rope.role ≤ 6)) || !s.ringInUse r || decide (2 ≤ port)) =
      true := by
    simp [hrun, hu]
    omega
  have hnodes : ((s.portCount 0x0401 r port).carry r port bs).nNodes r = s.nNodes r := by
    rw [State.nNodes, State.image, h.tt]
    rfl
  have hbooks (a : Nat) (entry : List Byte) : (((s.portCount 0x0401 r port).carry r port bs).store' a entry).keepsBooks =
      s.keepsBooks := by
    have hrope : (((s.portCount 0x0401 r port).carry r port bs).store' a entry).rope = s.rope := h.rope
    rw [State.keepsBooks, hrope, State.keepsBooks]
  have hgood : ¬(nthD 0 bs 0 != 0x30 || decide (256 < fieldLE bs 5 2) || bs.length != fieldLE bs 5 2 + 12 || n == 0 ||
      decide (s.nNodes r < n) || rlRing (nthD 0 bs 1) != r ||
      ((s.ring r).node n).upSeq == some (nthD 0 bs 3) || decide (512 ≤ ((s.ring r).arxWr - (s.ring r).arxRd).toNat)) = true := by
    rw [hkind, decide_eq_false (not_lt.mpr hmax), hlen, hring, decide_eq_false (not_lt.mpr hnn), decide_eq_false (not_le.mpr hroom),
      beq_eq_false_iff_ne.mpr hseq, beq_eq_false_iff_ne.mpr (Nat.ne_of_gt hn1)]
    simp
  unfold State.acyclicFrame
  dsimp only
  rw [if_neg htakes, hok, if_neg (by simp), hcount.rope, if_neg (by omega), hpass, hn, h.ring, hnodes, hbooks]
  exact if_neg hgood

end

/-! ### The statement -/

/-- Settles O52: a SECOND's repeated frame, and a node's frame in the receive queue. -/
theorem framesAreTakenUp : Obligations.FramesAreTakenUp := by
  unfold Obligations.FramesAreTakenUp
  intro s r port bs hu hrun hp
  refine ⟨fun arrival h3 hkind hring => ?_, fun n len h1 h4 hok hkind hring hn hlen hmax hbs hn1 hnn hseq hroom => ?_⟩
  · obtain ⟨endX, endY, hend⟩ := (s.ring r).frameEnd_only port arrival bs.length
    obtain ⟨t, h, heq⟩ := State.downstreamFrame_second (arrival := arrival) hu hrun hp h3 hkind hring
    rw [hend, Ring.repeats_only] at h
    rw [exec_downstreamFrame, heq]
    refine ⟨_, rfl, congrArg Ring.txRepeat h.ring, ?_, h.others, ?_⟩
    · simp only [Tab.get_put, if_pos]
    · exact Eq.trans (congrArg (fun z : State => { z with rope := s.rope }) h.frame) rfl
  · subst hlen
    obtain ⟨u, rep, used, h, heq⟩ := State.acyclicFrame_enters hu hrun hp h1 h4 hok hkind hring hn hmax hbs hn1 hnn hseq hroom
    have hr : r < 4 := by
      simp only [State.ringInUse, Bool.and_eq_true, decide_eq_true_eq] at hu
      exact hu.1
    have hplace : s.queuePlace r + 320 ≤ 0x036C0000 := by
      unfold State.queuePlace ringBase
      omega
    obtain ⟨hbyte, hrings, hregs, haxes⟩ := State.stored_offer u _ _ _ _ _ heq
    rw [exec_acyclicFrame]
    refine ⟨_, rfl, ?_, ?_, fun j hj => ?_, ⟨?_, ?_⟩, hregs.trans h.regs, haxes.trans (congrArg State.axes h.frame :)⟩
    · rw [hrings, if_pos rfl]
      rfl
    · rw [hrings, if_pos rfl]
      exact congrArg RNode.upSeq ((Ring.node_setNode ..).trans (if_pos rfl))
    · rw [hrings, if_neg hj]
      exact h.others j hj
    · change (s.acyclicFrame r port bs).mem.byte (s.queuePlace r) = _
      rw [hbyte _ (by omega), Mem.byte_setBytes, if_pos (by simp [State.acyclicEntry, queueEntry, bytesLE_length]), Nat.sub_self]
      exact queueEntry_head ..
    · refine (Mem.bytes_congr fun x _ hx => hbyte x ?_).trans ?_
      · change x < s.queuePlace r + 32 + fieldLE bs 5 2 at hx
        omega
      · have hread := queueEntry_payload u.mem (s.queuePlace r) (BitVec.ofNat 8 n) (nthD 0 bs 4) (fieldLE bs 5 2) (nthD 0 bs 3)
          (decide (port = 0)) u.time.time.toNat ((bs.drop 8).take (fieldLE bs 5 2))
        rw [show ((bs.drop 8).take (fieldLE bs 5 2)).length = fieldLE bs 5 2 by simp; omega] at hread
        exact hread

end Sys2Proof.Machine
end

section
/-! PROOFS. BARGE: a copy of a node's barge rejected, and one accepted (R258, R263, R287, R442). -/

namespace Sys2Proof.Machine

theorem exec_barge (s : State) (r port : Nat) (bs : List Byte) (arrival : Nat) :
    exec (.barge r port bs arrival) s = .next (s.barge r port bs arrival) := rfl

/-! ### A copy taken into a node's books (R263) -/

/-- Node `x` has become `v` by taking an accepted copy of its barge on a lane. -/
structure RNode.Takes (x v : RNode) (laneY : Bool) (bs : List Byte) : Prop where
  lane : if laneY then v.nowY = true else v.nowX = true
  gtot : v.gtot = nthD 0 bs 4
  utot : v.utot = nthD 0 bs 5
  kept : v.rx.isSome = true
  first : x.rx = none → ∀ rx, v.rx = some rx → rx.recs = (bs.drop 14).take (bs.length - 18) ∧ rx.safe = (bs.drop 6).take 8 ∧
    rx.diverge = false ∧ rx.laneY = laneY

/-- The records that a barge of a good length carries (R258). -/
theorem bargeLength_records {bs : List Byte} (h : bargeLength bs = true) :
    (if (nthD 0 bs 1).getLsbD 0 then 72 else 36) = bs.length - 18 := by
  have hlen : bs.length = if (nthD 0 bs 1).getLsbD 0 then 90 else 54 := by simpa [bargeLength] using h
  rw [hlen]
  split <;> rfl

theorem RNode.copy_takes (x : RNode) (laneY : Bool) (off : Int) {bs : List Byte} (hlen : bargeLength bs = true) :
    x.Takes (x.copy laneY true off bs) laneY bs := by
  have hrecs := bargeLength_records hlen
  refine ⟨?_, rfl, rfl, rfl, fun hnone rx hrx => ?_⟩
  · cases laneY
    · exact Bool.or_true _
    · exact Bool.or_true _
  · have hkept : (x.copy laneY true off bs).rx = some {
        laneY := laneY, recs := (bs.drop 14).take (bs.length - 18), safe := (bs.drop 6).take 8, offset := off, diverge := false } := by
      simp only [RNode.copy, hnone, hrecs]
      rfl
    rw [hkept] at hrx
    obtain rfl := Option.some.inj hrx
    exact ⟨rfl, rfl, rfl, rfl⟩

/-- The copy on the SECOND's lane takes the place of the one kept (R442). -/
theorem RNode.Takes.precedes {x v : RNode} {laneY : Bool} {bs : List Byte} (h : x.Takes v laneY bs) (hlen : bargeLength bs = true)
    {rx : RxBarge} (hrx : v.rx = some rx) (off : Int) :
    x.Takes { v with rx := some { rx with
      laneY := laneY, recs := (bs.drop 14).take (if (nthD 0 bs 1).getLsbD 0 then 72 else 36)
      safe := (bs.drop 6).take 8, offset := off } } laneY bs := by
  refine ⟨h.lane, h.gtot, h.utot, rfl, fun hnone rx' hrx' => ?_⟩
  obtain ⟨_, _, hdiverge, _⟩ := h.first hnone rx hrx
  obtain rfl := Option.some.inj hrx'
  exact ⟨by rw [bargeLength_records hlen], rfl, hdiverge, rfl⟩

theorem State.takeCopy_takes (s : State) (r n : Nat) (laneY : Bool) (off : Int) {bs : List Byte} (hlen : bargeLength bs = true) :
    ∃ v, ((s.ring r).node n).Takes v laneY bs ∧ s.takeCopy r n laneY true off bs = s.setRing r ((s.ring r).setNode n v) := by
  have htakes := ((s.ring r).node n).copy_takes laneY off hlen
  unfold State.takeCopy
  dsimp only
  split
  next rx _ hrx => exact ⟨_, htakes.precedes hlen hrx off, rfl⟩
  next => exact ⟨_, htakes, rfl⟩

/-! ### A barge at a single part's receiver (R263, R442) -/

section
variable {s : State} {r port arrival : Nat} {bs : List Byte}

theorem State.barge_on (hu : s.ringInUse r = true) (hrun : s.host.phase = .run) (h1 : s.rope.role = 1) (hp : port < 2) :
    ¬(!(s.host.phase == .run && decide (1 ≤ s.rope.role ∧ s.rope.role ≤ 6)) || !s.ringInUse r || decide (2 ≤ port)) = true := by
  simp [hu, hrun, h1]
  omega

/-- A barge whose CHECK is wrong is counted and rejected (R263, R287). -/
theorem State.barge_badCheck (hu : s.ringInUse r = true) (hrun : s.host.phase = .run) (h1 : s.rope.role = 1) (hp : port < 2)
    (hbad : frameOk bs = false) : ∃ endX endY, s.Hears (s.barge r port bs arrival) r
      { s.ring r with endX := endX, endY := endY, check := (s.ring r).check + 1, police := (s.ring r).police + 1 } := by
  obtain ⟨endX, endY, hend⟩ := (s.ring r).frameEnd_only port arrival bs.length
  have h := (s.frameEnd_hears r port arrival bs.length).badCheck port
  rw [hend] at h
  have hreject := (h.setRing { s.ring r with
    endX := endX, endY := endY, check := (s.ring r).check + 1, police := (s.ring r).police + 1 }).portCount 0x0404 r port
  refine ⟨endX, endY, ?_⟩
  unfold State.barge
  dsimp only
  rw [if_neg (State.barge_on hu hrun h1 hp), if_neg (by omega), if_pos (by rw [hbad]; rfl), h.ring]
  exact hreject

/-- A barge heard leaves what its window depends on: the guard, ORIGIN, and the pound delays. -/
theorem State.Hears.inWindow {t : State} {endX endY : Nat} (h : s.Hears t r { s.ring r with endX := endX, endY := endY }) (off : Int) :
    t.inWindow r off = s.inWindow r off := by
  have hdelta : t.delta r = s.delta r := by
    rw [State.delta, h.rope, h.ring, State.delta]
    rfl
  rw [State.inWindow, State.guard, State.cfgW, h.regs, h.rope, hdelta, State.inWindow, State.guard, State.cfgW]

/-- A single part passes no barge on (R441). -/
theorem State.Hears.carry_head {t : State} {x : Ring} (h : s.Hears t r x) (h1 : s.rope.role = 1) : t.carry r port bs = t := by
  have hcarries : t.carries port = false := by
    simp [State.carries, State.isMember, h.rope, h1]
  rw [State.carry, hcarries]
  exact if_neg Bool.false_ne_true

/-- A good copy of an OPEN node's barge within its window is taken into the node's books. -/
theorem State.barge_good {n : Nat} (hu : s.ringInUse r = true) (hrun : s.host.phase = .run) (h1 : s.rope.role = 1) (hp : port < 2)
    (hok : frameOk bs = true) (hlen : bargeLength bs = true) (hkind : nthD 0 bs 0 = 0x10) (hring : rlRing (nthD 0 bs 1) = r)
    (hlane : rlLaneY (nthD 0 bs 1) = decide (port = 0)) (htrial : (nthD 0 bs 1).getLsbD 4 = false) (hn : (nthD 0 bs 2).toNat = n)
    (hn1 : 1 ≤ n) (hnn : n ≤ s.nNodes r) (hopen : ((s.ring r).node n).lock = .opened)
    (hin : s.inWindow r (bargeOffset arrival (10 * s.tt.start.toNat +
      slotInstant (zones s.image.period s.periodNs) (s.nNodes r) n (decide (port = 0)))
      (if port = 0 then (s.ring r).endY else (s.ring r).endX)) = true) :
    ∃ v endX endY, ((s.ring r).node n).Takes v (decide (port = 0)) bs ∧
      s.Hears (s.barge r port bs arrival) r (({ s.ring r with endX := endX, endY := endY } : Ring).setNode n v) := by
  obtain ⟨endX, endY, hend⟩ := (s.ring r).frameEnd_only port arrival bs.length
  have h := s.frameEnd_hears r port arrival bs.length
  rw [hend] at h
  unfold State.barge
  dsimp only
  rw [if_neg (State.barge_on hu hrun h1 hp), if_neg (by omega), hok, if_neg (by decide)]
  generalize hheard : (((s.until arrival).portCount 0x0401 r port).setRing r _) = t at h ⊢
  have hnodes : t.nNodes r = s.nNodes r := by rw [State.nNodes, State.image, h.tt]; rfl
  have hfits : ¬(!bargeLength bs || nthD 0 bs 0 != 0x10 || rlRing (nthD 0 bs 1) != r || rlLaneY (nthD 0 bs 1) != decide (port = 0) ||
      n == 0 || decide (t.nNodes r < n)) = true := by
    rw [hlen, hkind, hring, hlane, hnodes, decide_eq_false (not_lt.mpr hnn), beq_eq_false_iff_ne.mpr (Nat.ne_of_gt hn1)]
    simp
  have himage : t.image = s.image := by rw [State.image, h.tt, State.image]
  have hperiod : t.periodNs = s.periodNs := by rw [State.periodNs, himage, State.periodNs]
  have hlock : ((t.ring r).node n).lock = .opened := by rw [h.ring]; exact hopen
  have hbefore := (s.received_hears r port arrival).ring
  simp only [decide_eq_true_eq] at hfits ⊢
  rw [hn, if_neg hfits, htrial, hlock, h.rope, h1, if_neg (show ¬((1 : Nat) = 3 ∨ (1 : Nat) = 4) by decide), himage, hperiod, h.tt, hnodes,
    hbefore, h.inWindow, hin, Bool.or_true,
    show (false && NLock.opened == NLock.trial || !false && NLock.opened == NLock.opened) = true from rfl]
  obtain ⟨v, htakes, hcopy⟩ := t.takeCopy_takes r n (decide (port = 0)) (bargeOffset arrival (10 * s.tt.start.toNat +
    slotInstant (zones s.image.period s.periodNs) (s.nNodes r) n (decide (port = 0)))
    (if port = 0 then (s.ring r).endY else (s.ring r).endX)) hlen
  rw [h.ring] at htakes hcopy
  have hset := h.setRing (({ s.ring r with endX := endX, endY := endY } : Ring).setNode n v)
  refine ⟨v, endX, endY, htakes, ?_⟩
  rw [Bool.and_self, if_pos rfl, Bool.true_or, if_pos rfl, hcopy, hset.carry_head h1]
  exact hset.portCount ..
end

end Sys2Proof.Machine
end

section
/-! PROOFS. RING_IN_HORIZON: what it leaves, and the upstream entries that it writes (R231, R233, R264-R266, R274, R280, R586). -/

namespace Sys2Proof.Machine

theorem exec_ringInHorizon (s : State) : exec .ringInHorizon s = .next s.ringInHorizon := rfl

/-! ### What the steps of the horizon leave -/

/-- The settings of a part: its registers, the timebase's books, the units and its role. -/
structure State.SameSetting (s t : State) : Prop where
  regs : t.regs = s.regs
  tt : t.tt = s.tt
  units : t.units = s.units
  role : t.rope.role = s.rope.role

theorem State.SameSetting.trans {a b c : State} (h : a.SameSetting b) (g : b.SameSetting c) : a.SameSetting c :=
  ⟨g.regs.trans h.regs, g.tt.trans h.tt, g.units.trans h.units, g.role.trans h.role⟩

theorem State.SameSetting.image {s t : State} (h : s.SameSetting t) : t.image = s.image := by
  rw [State.image, h.tt, State.image]

theorem State.SameSetting.nNodes {s t : State} (h : s.SameSetting t) (r : Nat) : t.nNodes r = s.nNodes r := by
  rw [State.nNodes, h.image, State.nNodes]

theorem State.SameSetting.ringInUse {s t : State} (h : s.SameSetting t) (r : Nat) : t.ringInUse r = s.ringInUse r := by
  rw [State.ringInUse, h.image, State.ringInUse]

/-- A step that keeps the settings and the books of every node, and changes no byte outside the addresses from `a` to `b`. -/
structure State.Enters (s t : State) (a b : Nat) : Prop where
  setting : s.SameSetting t
  nodes : ∀ j m, (t.ring j).node m = (s.ring j).node m
  outside : ∀ z, z < a ∨ b ≤ z → t.mem.byte z = s.mem.byte z

theorem State.Enters.refl (s : State) (a b : Nat) : s.Enters s a b := ⟨⟨rfl, rfl, rfl, rfl⟩, fun _ _ => rfl, fun _ _ => rfl⟩

theorem State.Enters.trans {s t u : State} {a b c d : Nat} (h : s.Enters t a b) (g : t.Enters u c d) (hc : a ≤ c) (hd : b ≤ d) :
    s.Enters u a d :=
  ⟨h.setting.trans g.setting, fun j m => (g.nodes j m).trans (h.nodes j m),
    fun z hz => (g.outside z (by omega)).trans (h.outside z (by omega))⟩

/-- Ring `r` written with its nodes' books as they were. -/
theorem State.setRing_enters (s : State) {r : Nat} {x : Ring} (h : x.nodes = (s.ring r).nodes) (a b : Nat) :
    s.Enters (s.setRing r x) a b := by
  refine ⟨⟨rfl, rfl, rfl, rfl⟩, fun j m => ?_, fun _ _ => rfl⟩
  rw [State.ring_setRing]
  split
  next hj => rw [Ring.node, h, ← hj, Ring.node]
  next => rfl

theorem State.store'_enters (s : State) (a : Nat) (bs : List Byte) : s.Enters (s.store' a bs) a (a + bs.length) :=
  ⟨⟨rfl, rfl, rfl, rfl⟩, fun _ _ => rfl, fun z hz => Mem.byte_setBytes_out s.mem a z bs hz⟩

/-- Uncorrectable ring-buffer words read: their ring's port is at fault, and no more (R20, R586). -/
theorem State.seeRingWords_enters (s : State) (ws : List Nat) (a b : Nat) : s.Enters (s.seeRingWords ws) a b := by
  refine List.foldlRecOn (motive := fun t => s.Enters t a b) _ _ (.refl s a b) fun t ht w hw => ht.trans ?_ le_rfl le_rfl
  have hring : inRings w = true := by
    have hboth : (inRings w && s.bad.contains w) = true := (List.mem_filter.mp hw).2
    exact (Bool.and_eq_true_iff.mp hboth).1
  have hport : (0x3000 + 2 * ringOfAddr w) / 4096 ∈ [3, 6, 7, 8] := by
    have hin : 0x03400000 ≤ w ∧ w < 0x03600000 := by simpa [inRings] using hring
    rw [show (0x3000 + 2 * ringOfAddr w) / 4096 = 3 by unfold ringOfAddr; omega]
    decide
  obtain ⟨du, dw, dm, faults, host, store, hfault⟩ := t.unitFault_contained 1 hport
  unfold State.ringWordSeen
  rw [hfault]
  split
  · exact .refl t a b
  · exact ⟨⟨rfl, rfl, rfl, rfl⟩, fun _ _ => rfl, fun _ _ => rfl⟩

theorem State.upContainer_enters (s : State) (r n : Nat) (c : Option (List Byte)) (a b : Nat) :
    s.Enters (s.upContainer r n c) a b := by
  have hsafe (x : Safe) : s.Enters { s with safe := x } a b := ⟨⟨rfl, rfl, rfl, rfl⟩, fun _ _ => rfl, fun _ _ => rfl⟩
  unfold State.upContainer
  split
  · exact .refl s a b
  · dsimp only
    split
    · exact hsafe _
    · exact hsafe _

theorem State.remoteStep_enters (s : State) (r n slot i a b : Nat) : s.Enters (s.remoteStep r n slot i) a b := by
  have hrem (x : Rem) : s.Enters (s.setRem i x) a b := ⟨⟨rfl, rfl, rfl, rfl⟩, fun _ _ => rfl, fun _ _ => rfl⟩
  unfold State.remoteStep
  dsimp only
  split
  · exact hrem _
  · split
    · obtain ⟨axes, h⟩ := State.fbRaise_remote (s.setRem i _) i 4
      rw [h]
      exact ⟨⟨rfl, rfl, rfl, rfl⟩, fun _ _ => rfl, fun _ _ => rfl⟩
    · exact hrem _

theorem State.seeDiverge_enters (s : State) (r : Nat) (used : Option RxBarge) (a b : Nat) : s.Enters (s.seeDiverge r used) a b := by
  unfold State.seeDiverge
  split
  · split
    · exact s.setRing_enters (by rfl) a b
    · exact .refl s a b
  · exact .refl s a b

theorem State.foldl_enters {α : Type} (f : State → α → State) {a b : Nat} (hf : ∀ (s : State) x, s.Enters (f s x) a b) (l : List α)
    (s : State) : s.Enters (l.foldl f s) a b :=
  List.foldlRecOn (motive := fun t => s.Enters t a b) l f (.refl s a b) fun t ht x _ => ht.trans (hf t x) le_rfl le_rfl

/-! ### One upstream entry (R266, R280) -/

/-- The upstream entry of a node's slot. -/
def State.slotAddr (s : State) (r n slot : Nat) : Nat := upAddr r ((n - 1) * perNode s.image.period + slot)

/-- An OPEN node has kept a copy of this passage, with a record for the slot. -/
structure State.HasCopy (s : State) (r n slot : Nat) (rx : RxBarge) : Prop where
  opened : ((s.ring r).node n).lock = .opened
  kept : ((s.ring r).node n).rx = some rx
  long : 36 * slot + 36 ≤ rx.recs.length

/-- The entry at `a` holds a copy's record for a slot, with AGE 0. -/
def Mem.HoldsRecord (m : Mem) (a slot : Nat) (rx : RxBarge) : Prop :=
  m.bytes a 36 = (rx.recs.drop (36 * slot)).take 36 ∧ (m.byte (a + 36)).toNat % 16 = 0

theorem Mem.HoldsRecord.congr {m m' : Mem} {a slot : Nat} {rx : RxBarge} (h : m.HoldsRecord a slot rx)
    (hsame : ∀ z, a ≤ z → z < a + 48 → m'.byte z = m.byte z) : m'.HoldsRecord a slot rx := by
  obtain ⟨hrec, hage⟩ := h
  exact ⟨(Mem.bytes_congr fun z ha hz => hsame z ha (by omega)).trans hrec, by rw [hsame _ (by omega) (by omega), hage]⟩

theorem upEntry_length {rec' : List Byte} (h : rec'.length = 36) (age : Nat) (laneY diverge : Bool) (off : Int) :
    (upEntry rec' age laneY diverge off).length = 48 := by
  simp [upEntry, bytesLE_length, h]

theorem upEntry_age (laneY diverge : Bool) : (BitVec.ofNat 8 (0 + 16 * bitNat laneY + 32 * bitNat diverge)).toNat % 16 = 0 := by
  cases laneY <;> cases diverge <;> rfl

/-- An entry stored from a copy is read back: its record, and AGE 0. -/
theorem Mem.setBytes_upEntry (m : Mem) (a slot : Nat) {rx : RxBarge} (h : 36 * slot + 36 ≤ rx.recs.length) (off : Int) :
    (m.setBytes a (upEntry ((rx.recs.drop (36 * slot)).take 36) 0 rx.laneY rx.diverge off)).HoldsRecord a slot rx := by
  have hlen : ((rx.recs.drop (36 * slot)).take 36).length = 36 := by simp; omega
  have hentry : upEntry ((rx.recs.drop (36 * slot)).take 36) 0 rx.laneY rx.diverge off = (rx.recs.drop (36 * slot)).take 36 ++
      (BitVec.ofNat 8 (0 + 16 * bitNat rx.laneY + 32 * bitNat rx.diverge) :: ([0, 0, 0] ++ (bytesLE 4 (BitVec.ofInt 32 off).toNat ++ bytesLE 4 0))) := by
    simp [upEntry]
  rw [hentry, Mem.setBytes_append, hlen, Mem.setBytes]
  refine ⟨?_, ?_⟩
  · have hread := m.bytes_setBytes a ((rx.recs.drop (36 * slot)).take 36)
    rw [hlen] at hread
    refine (Mem.bytes_congr fun z ha hz => ?_).trans hread
    rw [Mem.byte_setBytes_out _ _ _ _ (.inl (by omega)), Mem.byte_setByte, if_neg (by omega)]
  · rw [Mem.byte_setBytes_out _ _ _ _ (.inl (by omega)), Mem.byte_setByte, if_pos rfl]
    exact upEntry_age ..

theorem State.upEntryStep_copy {s : State} {r n slot : Nat} {rx : RxBarge} (h : s.HasCopy r n slot rx) (hit : List Nat) :
    s.upEntryStep hit r n slot = s.store' (s.slotAddr r n slot)
      (upEntry ((rx.recs.drop (36 * slot)).take 36) 0 rx.laneY rx.diverge (divRound rx.offset 10)) := by
  unfold State.upEntryStep
  dsimp only
  rw [if_pos h.opened, h.kept, Option.filter_some, if_pos (decide_eq_true h.long)]
  rfl

theorem State.upEntryStep_holds {s : State} {r n slot : Nat} {rx : RxBarge} (h : s.HasCopy r n slot rx) (hit : List Nat) :
    (s.upEntryStep hit r n slot).mem.HoldsRecord (s.slotAddr r n slot) slot rx := by
  rw [State.upEntryStep_copy h]
  exact s.mem.setBytes_upEntry _ _ h.long _

theorem State.upEntryStep_enters (s : State) (hit : List Nat) (r n slot : Nat) :
    s.Enters (s.upEntryStep hit r n slot) (s.slotAddr r n slot) (s.slotAddr r n slot + 48) := by
  have hstore (t : State) (bs : List Byte) (hlen : bs.length = 48) :
      t.Enters (t.store' (s.slotAddr r n slot) bs) (s.slotAddr r n slot) (s.slotAddr r n slot + 48) := by
    have h := t.store'_enters (s.slotAddr r n slot) bs
    rwa [hlen] at h
  have hmiss (b : Bool) : s.Enters (if b then s.setRing r { s.ring r with miss := (s.ring r).miss + 1 } else s)
      (s.slotAddr r n slot) (s.slotAddr r n slot + 48) := by
    split
    · exact s.setRing_enters (by rfl) _ _
    · exact .refl s _ _
  unfold State.upEntryStep
  dsimp only
  split
  next rx hrx =>
    have hlong : 36 * slot + 36 ≤ rx.recs.length := by
      split at hrx
      · simpa using (Option.filter_eq_some_iff.mp hrx).2
      · exact absurd hrx (by simp)
    exact hstore s _ (upEntry_length (by simp; omega) ..)
  next =>
    split
    · refine (hmiss _).trans (.trans (State.seeRingWords_enters ..) (hstore _ _ ?_) le_rfl le_rfl) le_rfl le_rfl
      exact upEntry_length (bytesLE_length ..) ..
    · refine (hmiss _).trans (hstore _ _ ?_) le_rfl le_rfl
      simp [Mem.length_bytes]

theorem State.slotAddr_succ (s : State) (r n k : Nat) : s.slotAddr r n (k + 1) = s.slotAddr r n k + 48 := by
  unfold State.slotAddr upAddr
  omega

theorem State.SameSetting.slotAddr {s t : State} (h : s.SameSetting t) (r n slot : Nat) : t.slotAddr r n slot = s.slotAddr r n slot := by
  rw [State.slotAddr, h.image, State.slotAddr]

theorem State.slotAddr_mono (s : State) (r n : Nat) {j k : Nat} (h : j ≤ k) : s.slotAddr r n j ≤ s.slotAddr r n k := by
  unfold State.slotAddr upAddr
  omega

theorem State.HasCopy.of_node {s t : State} {r n slot : Nat} {rx : RxBarge} (h : s.HasCopy r n slot rx)
    (hnode : (t.ring r).node n = (s.ring r).node n) : t.HasCopy r n slot rx :=
  ⟨by rw [hnode]; exact h.opened, by rw [hnode]; exact h.kept, h.long⟩

/-- The first `k` entries of a node, in turn. -/
theorem State.upEntries (s : State) (hit : List Nat) (r n k : Nat) : ∃ t,
    (List.range k).foldl (fun s slot => s.upEntryStep hit r n slot) s = t ∧ s.Enters t (s.slotAddr r n 0) (s.slotAddr r n k) ∧
      ∀ slot rx, slot < k → s.HasCopy r n slot rx → t.mem.HoldsRecord (s.slotAddr r n slot) slot rx := by
  refine ⟨_, rfl, ?_⟩
  induction k with
  | zero => exact ⟨.refl .., fun slot rx h => absurd h (Nat.not_lt_zero slot)⟩
  | succ k ih =>
    obtain ⟨henters, hholds⟩ := ih
    rw [List.range_succ, List.foldl_append, List.foldl_cons, List.foldl_nil]
    generalize (List.range k).foldl (fun s slot => s.upEntryStep hit r n slot) s = t at henters hholds ⊢
    have haddr (slot : Nat) := henters.setting.slotAddr r n slot
    have hstep := t.upEntryStep_enters hit r n k
    rw [haddr] at hstep
    refine ⟨henters.trans hstep (s.slotAddr_mono r n (Nat.zero_le k)) (by rw [State.slotAddr_succ]; omega), fun slot rx hslot hcopy => ?_⟩
    rcases Nat.lt_succ_iff_lt_or_eq.mp hslot with hlt | rfl
    · have hnext := s.slotAddr_mono r n (Nat.succ_le_of_lt hlt)
      rw [Nat.succ_eq_add_one, State.slotAddr_succ] at hnext
      exact (hholds slot rx hlt hcopy).congr fun z _ hz => hstep.outside z (.inl (by omega))
    · rw [← haddr]
      exact State.upEntryStep_holds (hcopy.of_node (henters.nodes r n)) hit

/-! ### The nodes and rings at the horizon (R264-R266) -/

/-- The horizon of the nodes `own`, whose entries lie between `a` and `b`: beside these, settings, nodes and bytes stay. -/
structure State.Horizon (s t : State) (own : Nat → Nat → Prop) (a b : Nat) : Prop where
  setting : s.SameSetting t
  nodes : ∀ j m, ¬own j m → (t.ring j).node m = (s.ring j).node m
  outside : ∀ z, z < a ∨ b ≤ z → t.mem.byte z = s.mem.byte z
  written : ∀ j m slot, own j m → 1 ≤ m → m ≤ s.nNodes j → slot < perNode s.image.period →
    s.slotAddr j m slot + 48 ≤ b ∧ ∀ rx, s.HasCopy j m slot rx → t.mem.HoldsRecord (s.slotAddr j m slot) slot rx

/-- One part of the horizon after another whose entries lie below. -/
theorem State.Horizon.trans {s t u : State} {own own' all : Nat → Nat → Prop} {a b c : Nat} (h : s.Horizon t own a b)
    (g : t.Horizon u own' b c) (hall : ∀ j m, all j m ↔ own j m ∨ own' j m) (hab : a ≤ b) (hbc : b ≤ c) : s.Horizon u all a c := by
  refine ⟨h.setting.trans g.setting, fun j m hm => ?_, fun z hz => ?_, fun j m slot hm h1 hn hslot => ?_⟩
  · rw [hall, not_or] at hm
    exact (g.nodes j m hm.2).trans (h.nodes j m hm.1)
  · exact (g.outside z (by omega)).trans (h.outside z (by omega))
  · by_cases hown : own j m
    · obtain ⟨hbelow, hholds⟩ := h.written j m slot hown h1 hn hslot
      exact ⟨by omega, fun rx hcopy => (hholds rx hcopy).congr fun z _ hz => g.outside z (.inl (by omega))⟩
    · have hown' := ((hall j m).mp hm).resolve_left hown
      have hlast := g.written j m slot hown' h1 (by rwa [h.setting.nNodes]) (by rwa [h.setting.image])
      rw [h.setting.slotAddr] at hlast
      exact ⟨hlast.1, fun rx hcopy => hlast.2 rx (hcopy.of_node (h.nodes j m hown))⟩

/-- A node's upstream entries, its safety container and its feedback at the horizon. -/
theorem State.horizonData_enters (s : State) (hit : List Nat) (r n : Nat) (used : Option RxBarge) : ∃ t,
    s.horizonData hit r n used = t ∧ s.Enters t (s.slotAddr r n 0) (s.slotAddr r n (perNode s.image.period)) ∧
      ∀ slot rx, slot < perNode s.image.period → s.HasCopy r n slot rx → t.mem.HoldsRecord (s.slotAddr r n slot) slot rx := by
  obtain ⟨t, ht, henters, hholds⟩ := s.upEntries hit r n (perNode s.image.period)
  have hcontainer := t.upContainer_enters r n (used.map (·.safe)) (s.slotAddr r n (perNode s.image.period))
    (s.slotAddr r n (perNode s.image.period))
  have hfeedback := State.foldl_enters (a := s.slotAddr r n (perNode s.image.period)) (b := s.slotAddr r n (perNode s.image.period))
    (fun s slot => match s.slotInst r n slot with
    | some i => s.remoteStep r n slot i
    | none => s) (fun u slot => by
      split
      · exact u.remoteStep_enters ..
      · exact .refl u _ _) (List.range (perNode s.image.period)) (t.upContainer r n (used.map (·.safe)))
  have hafter := hcontainer.trans hfeedback le_rfl le_rfl
  refine ⟨_, rfl, ?_⟩
  unfold State.horizonData
  dsimp only
  rw [ht]
  exact ⟨henters.trans hafter (s.slotAddr_mono r n (Nat.zero_le _)) le_rfl,
    fun slot rx hslot hcopy => (hholds slot rx hslot hcopy).congr fun z _ _ => hafter.outside z (by omega)⟩

theorem State.horizonBooks_only (s : State) (r n : Nat) (v : RNode) (guard : Nat) : ∃ w edge,
    s.horizonBooks r n v guard = s.setRing r { (s.ring r).setNode n w with edge := edge } := by
  unfold State.horizonBooks
  dsimp only
  split
  · exact ⟨_, (s.ring r).edge, rfl⟩
  · exact ⟨_, _, rfl⟩

theorem State.nodeHorizon_horizon (s : State) (hit : List Nat) (r n : Nat) : s.Horizon (s.nodeHorizon hit r n)
    (fun j m => j = r ∧ m = n) (s.slotAddr r n 0) (s.slotAddr r n (perNode s.image.period)) := by
  unfold State.nodeHorizon
  dsimp only
  generalize (if ((s.ring r).node n).lock = .opened then ((s.ring r).node n).rx else none) = used
  have hseen := s.seeDiverge_enters r used (s.slotAddr r n 0) (s.slotAddr r n 0)
  obtain ⟨t, ht, hdata, hholds⟩ := (s.seeDiverge r used).horizonData_enters hit r n used
  rw [hseen.setting.image, hseen.setting.slotAddr, hseen.setting.slotAddr] at hdata
  rw [hseen.setting.image] at hholds
  have hall := hseen.trans hdata le_rfl (s.slotAddr_mono r n (Nat.zero_le _))
  obtain ⟨w, edge, hbooks⟩ := t.horizonBooks_only r n ((s.ring r).node n) (if 0 < t.rope.widened then 65535 else t.guard r)
  rw [ht, hbooks]
  refine ⟨hall.setting.trans ⟨rfl, rfl, rfl, rfl⟩, fun j m hm => ?_, hall.outside, fun j m slot hm _ _ hslot => ?_⟩
  · rw [← hall.nodes, State.ring_setRing]
    split
    next hj =>
      rw [hj]
      exact (Ring.node_setNode ..).trans (if_neg fun hmn => hm ⟨hj, hmn⟩)
    next => rfl
  · obtain ⟨rfl, rfl⟩ := hm
    have hlast := s.slotAddr_mono j m (Nat.succ_le_of_lt hslot)
    rw [Nat.succ_eq_add_one, State.slotAddr_succ] at hlast
    refine ⟨hlast, fun rx hcopy => ?_⟩
    rw [← hseen.setting.slotAddr]
    exact hholds slot rx hslot (hcopy.of_node (hseen.nodes j m))

/-- The horizon of a ring's first `k` nodes. -/
theorem State.nodes_horizon (s : State) (hit : List Nat) (r k : Nat) :
    s.Horizon ((List.range k).foldl (fun s j => s.nodeHorizon hit r (j + 1)) s) (fun j m => j = r ∧ 1 ≤ m ∧ m ≤ k) (ringBase r)
      (ringBase r + 48 * (k * perNode s.image.period)) := by
  induction k with
  | zero => exact ⟨⟨rfl, rfl, rfl, rfl⟩, fun _ _ _ => rfl, fun _ _ => rfl, fun j m slot hm _ _ _ => by omega⟩
  | succ k ih =>
    rw [List.range_succ, List.foldl_append, List.foldl_cons, List.foldl_nil]
    generalize (List.range k).foldl (fun s j => s.nodeHorizon hit r (j + 1)) s = t at ih ⊢
    have hnode := t.nodeHorizon_horizon hit r (k + 1)
    rw [ih.setting.image, ih.setting.slotAddr, ih.setting.slotAddr,
      show s.slotAddr r (k + 1) 0 = ringBase r + 48 * (k * perNode s.image.period) from rfl,
      show s.slotAddr r (k + 1) (perNode s.image.period) = ringBase r + 48 * ((k + 1) * perNode s.image.period) by
        rw [Nat.succ_mul k, State.slotAddr, upAddr, Nat.add_sub_cancel]] at hnode
    have hmore : k * perNode s.image.period ≤ (k + 1) * perNode s.image.period := Nat.mul_le_mul_right _ (Nat.le_succ k)
    exact ih.trans hnode (fun j m => by omega) (by omega) (by omega)

/-- The horizon of a ring: its nodes, and a head's grants. -/
def State.ringHorizon (s : State) (hit : List Nat) (r : Nat) : State :=
  if !s.ringInUse r then s
  else
    let s := (List.range (s.nNodes r)).foldl (fun s j => s.nodeHorizon hit r (j + 1)) s
    if s.rope.role = 1 ∨ s.rope.role = 2 then s.grants r else s

theorem perNode_le (code : Nat) : perNode code ≤ 2 := by
  unfold perNode
  split <;> decide

theorem State.ringHorizon_horizon (s : State) (hit : List Nat) (r : Nat) (hn : s.nNodes r ≤ 64) :
    s.Horizon (s.ringHorizon hit r) (fun j _ => j = r) (ringBase r) (ringBase (r + 1)) := by
  have hnodes := s.nodes_horizon hit r (s.nNodes r)
  have hend : ringBase r + 48 * (s.nNodes r * perNode s.image.period) ≤ ringBase (r + 1) := by
    have hmost := Nat.mul_le_mul hn (perNode_le s.image.period)
    unfold ringBase
    omega
  have hring {t : State} (h : s.Horizon t (fun j m => j = r ∧ 1 ≤ m ∧ m ≤ s.nNodes r) (ringBase r)
      (ringBase r + 48 * (s.nNodes r * perNode s.image.period))) (x : Ring) :
      s.Horizon (t.setRing r x) (fun j _ => j = r) (ringBase r) (ringBase (r + 1)) := by
    refine ⟨h.setting.trans ⟨rfl, rfl, rfl, rfl⟩, fun j m hj => ?_, fun z hz => h.outside z (by omega), fun j m slot hj h1 hm hslot => ?_⟩
    · rw [State.ring_setRing, if_neg hj]
      exact h.nodes j m fun hown => hj hown.1
    · obtain ⟨hbelow, hholds⟩ := h.written j m slot ⟨hj, h1, hj ▸ hm⟩ h1 hm hslot
      exact ⟨by omega, hholds⟩
  unfold State.ringHorizon
  split
  next hidle =>
    have hnone : s.nNodes r = 0 := by
      rw [State.nNodes, if_neg]
      simpa [State.ringInUse, imp_iff_not_or] using hidle
    exact ⟨⟨rfl, rfl, rfl, rfl⟩, fun _ _ _ => rfl, fun _ _ => rfl, fun j m slot hj h1 hm _ => by subst hj; omega⟩
  next =>
    dsimp only
    generalize (List.range (s.nNodes r)).foldl (fun s j => s.nodeHorizon hit r (j + 1)) s = t at hnodes ⊢
    split
    · exact hring hnodes _
    · have hset := hring hnodes (t.ring r)
      exact ⟨hnodes.setting, fun j m hj => hnodes.nodes j m fun hown => hj hown.1, hset.outside, hset.written⟩

/-- The horizon of the first `k` rings. -/
theorem State.rings_horizon (s : State) (hit : List Nat) (hn : ∀ j, s.nNodes j ≤ 64) (k : Nat) :
    s.Horizon ((List.range k).foldl (fun s r => s.ringHorizon hit r) s) (fun j _ => j < k) (ringBase 0) (ringBase k) := by
  induction k with
  | zero => exact ⟨⟨rfl, rfl, rfl, rfl⟩, fun _ _ _ => rfl, fun _ _ => rfl, fun j m slot hm _ _ _ => absurd hm (Nat.not_lt_zero j)⟩
  | succ k ih =>
    rw [List.range_succ, List.foldl_append, List.foldl_cons, List.foldl_nil]
    generalize (List.range k).foldl (fun s r => s.ringHorizon hit r) s = t at ih ⊢
    have hring := t.ringHorizon_horizon hit k (by rw [ih.setting.nNodes]; exact hn k)
    exact ih.trans hring (fun j m => by omega) (by unfold ringBase; omega) (by unfold ringBase; omega)

theorem State.ringInHorizon_off {s : State} (h : s.tt.clockOn = false) : s.ringInHorizon = s := by
  unfold State.ringInHorizon
  rw [h]
  rfl

/-- RING_IN_HORIZON on: the rings' horizons, and what a LEAD, a SECOND or a joiner adds. -/
theorem State.ringInHorizon_on {s : State} (h : ¬(!s.tt.clockOn || s.host.phase != .run) = true) : ∃ u time t,
    u = { s with time := time } ∧ (List.range 4).foldl (fun s r => s.ringHorizon u.bad r) u = t ∧
      s.ringInHorizon = if t.rope.role = 2 then t.sendLedger else if t.rope.role = 3 ∨ t.rope.role = 4 then t.installLocals else t :=
  ⟨_, _, _, rfl, rfl, if_neg h⟩

theorem State.ringInHorizon_head {s : State} (h1 : s.rope.role = 1) (hclock : s.tt.clockOn = true) (hrun : s.host.phase = .run)
    (hn : ∀ j, s.nNodes j ≤ 64) : s.Horizon s.ringInHorizon (fun j _ => j < 4) (ringBase 0) (ringBase 4) := by
  obtain ⟨u, time, t, hu, ht, heq⟩ := State.ringInHorizon_on (s := s) (by rw [hclock, hrun]; decide)
  have hstart : s.Horizon u (fun _ _ => False) (ringBase 0) (ringBase 0) := by
    rw [hu]
    exact ⟨⟨rfl, rfl, rfl, rfl⟩, fun _ _ _ => rfl, fun _ _ => rfl, fun _ _ _ h => h.elim⟩
  have hrings := u.rings_horizon u.bad (fun j => (hstart.setting.nNodes j).trans_le (hn j)) 4
  rw [ht] at hrings
  have hrole : t.rope.role = 1 := by rw [hrings.setting.role, hstart.setting.role, h1]
  rw [heq, hrole, if_neg (by decide), if_neg (by decide)]
  exact hstart.trans hrings (fun _ _ => by simp) le_rfl (by decide)

/-- Settles O51: a barge rejected, one accepted, and the horizon that writes the accepted copies into the upstream entries. -/
theorem bargesReachTheHorizon : Obligations.BargesReachTheHorizon := by
  unfold Obligations.BargesReachTheHorizon
  intro s r hu hrun h1
  refine ⟨fun port bs arrival hp hbad => ?_,
    fun port bs arrival hp hok hlen hkind hring hlane htrial => ?_, fun hoff => ?_, fun hclock hn => ?_⟩
  · obtain ⟨endX, endY, h⟩ := State.barge_badCheck (arrival := arrival) hu hrun h1 hp hbad
    rw [exec_barge]
    refine ⟨_, rfl, ?_, ?_, ?_, h.others, h.frame⟩
    · rw [h.ring]
    · rw [h.ring]
    · rw [h.ring]
  · intro n hn1 hnn hopen due hin
    obtain ⟨v, endX, endY, htakes, h⟩ := State.barge_good hu hrun h1 hp hok hlen hkind hring hlane htrial rfl hn1 hnn hopen hin
    have hnode (m : Nat) : ((s.barge r port bs arrival).ring r).node m = if m = n then v else (s.ring r).node m := by
      rw [h.ring]
      exact Ring.node_setNode ..
    have hself := (hnode n).trans (if_pos rfl)
    rw [exec_barge]
    refine ⟨_, rfl, ?_, ?_, ?_, ?_, ?_, ?_, fun m hm => (hnode m).trans (if_neg hm), h.others, h.frame⟩
    · rw [hself]
      simpa using htakes.lane
    · rw [hself, htakes.gtot]
    · rw [hself, htakes.utot]
    · rw [hself, htakes.kept]
    · rw [hself]
      exact htakes.first
    · rw [h.ring]
      rfl
  · rw [exec_ringInHorizon, State.ringInHorizon_off hoff]
  · have h := State.ringInHorizon_head h1 hclock hrun hn
    have hr : r < 4 := by
      simp only [State.ringInUse, Bool.and_eq_true, decide_eq_true_eq] at hu
      exact hu.1
    rw [exec_ringInHorizon]
    refine ⟨_, rfl, fun n slot rx hn1 hnn hslot hopen hrx hlong => ?_, h.setting.regs, by rw [h.setting.tt], h.setting.units⟩
    exact (h.written r n slot hr hn1 hnn hslot).2 rx ⟨hopen, hrx, hlong⟩

end Sys2Proof.Machine
end

section
/-! PROOFS. The host's writes of the fields that the time block, the rings and the acquisition hold themselves (R11, R276, R289,
R303-R307, R311, R321, R322, R339). -/

namespace Sys2Proof.Machine

theorem exec_cmpArm (s : State) {k : Nat} (hk : k < 32) : exec (.cmpArm 0 k) s =
    .next (s.hostWrite 0 (0x50108 + 0x10 * k) (s.keepWord (0x50108 + 0x10 * k) ||| 0x80000000#32)) := congrArg _ (if_pos hk)
theorem exec_evioModeWrite (s : State) {p : Nat} (hp : p < 64) (mode : Nat) : exec (.evioModeWrite 0 p mode) s =
    .next (s.hostWrite 0 (0x51000 + 0x20 * p) ((s.keepWord (0x51000 + 0x20 * p)).setBits 30 2 mode)) := congrArg _ (if_pos hp)
theorem exec_evioQt (s : State) {p : Nat} (hp : p < 64) (target : Word) :
    exec (.evioQt 0 p target) s = .next (s.hostWrite 0 (0x51004 + 0x20 * p) target) := congrArg _ (if_pos hp)
theorem exec_evioQpush (s : State) {p : Nat} (hp : p < 64) (level : Bool) : exec (.evioQpush 0 p level) s =
    .next (s.hostWrite 0 (0x51008 + 0x20 * p) (BitVec.ofNat 32 (bitNat level))) := congrArg _ (if_pos hp)
theorem exec_capRdWrite (s : State) (w : Word) : exec (.capRdWrite 0 w) s = .next (s.hostWrite 0 0x50024 w) := rfl
theorem exec_arxRdWrite (s : State) {r : Nat} (hr : r < 4) (w : Word) :
    exec (.arxRdWrite 0 r w) s = .next (s.hostWrite 0 (0x40054 + 0x4000 * r) w) := congrArg _ (if_pos hr)
theorem exec_strRdWrite (s : State) (w : Word) : exec (.strRdWrite 0 w) s = .next (s.hostWrite 0 0x80024 w) := rfl

/-! ### A write of fields outside the register table (R11, R548) -/

/-- The host's write of a register that holds nothing in the register table, with no flag's bit set. -/
theorem State.hostWrite_fields (s : State) {off : Nat} {w : Word} (hp : s.host.phase ≠ .por) (h1 : 0x40000 ≤ off) (h2 : off < 0x90000)
    (h4 : off % 4 = 0) (hm : maskOf off = some Mask.none') (hf : w &&& w1cOf off = 0) :
    s.hostWrite 0 off w = s.writeOther 0 off w := by
  have hb : hostBarred off = false := decide_eq_false (by omega)
  have hk : s.lkChange off Mask.none' w = false := s.lkChange_of_lk_zero off w rfl
  have hl : s.lockSet off Mask.none' w = false := s.lockSet_of_no_lock off w rfl
  have hr : s.writeLacks (agentOrigin 0) off Mask.none' w = false := by
    have haccess : ¬(0x1000 ≤ off ∧ off < 0x2000) := by omega
    have hstaged : Mask.none'.staged = false := rfl
    simp [State.writeLacks, hk, hl, haccess, hstaged]
  have hpulse : s.pulse off w = s := by
    unfold State.pulse
    rw [if_neg (by omega), if_neg (by omega), if_neg (by omega)]
  have hstay : (s.writeLk 0 off Mask.none' w (s.lockedAt off)) = s := s.writeLk_of_no_change 0 (s.lockedAt off) hk hl
  have hstaged : s.writeStaged 0 off Mask.none' w (s.lockedAt off) = s := rfl
  have hplain : s.writePlain off Mask.none' w = s := rfl
  have hflags : s.clearFlags off w = s := if_pos hf
  have hw : s.writeReg 0 off w = (s.writeOther 0 off w, false) := by
    unfold State.writeReg
    simp [isSoft, hb, hm, hr, hk, hstay, hstaged, hplain, hflags, hpulse]
  rw [s.hostWrite_host w hp (by omega) h4, s.writeAt_host _ (by omega) hw]

theorem maskOf_time {off : Nat} (h : off / 0x10000 = 5) : maskOf off = timeMask (off % 0x10000) := by
  rw [maskOf, if_neg (by omega), h]
  rfl

/-- The registers of comparators and pins (R321, R322). -/
theorem timeMask_fields {o : Nat} (h4 : o % 4 = 0) (h : 0x100 ≤ o ∧ o < 0x300 ∨ 0x1000 ≤ o ∧ o < 0x1800) :
    timeMask o = some Mask.none' := by
  unfold timeMask
  split
  case h_9 =>
    rw [if_neg (by omega)]
    by_cases hc : 0x100 ≤ o ∧ o < 0x300
    · rw [if_pos hc]
    · rw [if_neg hc, if_pos (by omega)]
  all_goals omega

/-! ### CMP_CTRL (R304, R305, R321) -/

theorem bitNat_le_one (b : Bool) : bitNat b ≤ 1 := by cases b <;> decide

theorem bitNat_eq_one (b : Bool) : decide (bitNat b = 1) = b := by cases b <;> rfl

/-- A bit of CMP_CTRL, counted from SKIP: TOKEN over TRIG. -/
theorem Cmp.ctrlWord_bit (c : Cmp) {i : Nat} (hi : i < 32) : c.ctrlWord.bit i = decide ((bitNat c.arm * 2 ^ 31 + bitNat c.fired * 2 ^ 30 +
    bitNat c.token * 2 ^ 29 + bitNat c.trig * 2 ^ 28 + c.skip) / 2 ^ i % 2 = 1) := by
  rw [Word.bit, Cmp.ctrlWord, BitVec.getLsbD_ofNat, decide_eq_true hi, Bool.true_and, Nat.testBit_eq_decide_div_mod_eq]

theorem Cmp.ctrlWord_token {c : Cmp} (h : c.skip < 65536) : c.ctrlWord.bit 29 = c.token := by
  have htoken := bitNat_le_one c.token
  have htrig := bitNat_le_one c.trig
  rw [Cmp.ctrlWord_bit c (by decide)]
  refine (congrArg (fun n => decide (n = 1)) (?_ : _ = bitNat c.token)).trans (bitNat_eq_one c.token)
  omega

theorem Cmp.ctrlWord_trig {c : Cmp} (h : c.skip < 65536) : c.ctrlWord.bit 28 = c.trig := by
  have htrig := bitNat_le_one c.trig
  rw [Cmp.ctrlWord_bit c (by decide)]
  refine (congrArg (fun n => decide (n = 1)) (?_ : _ = bitNat c.trig)).trans (bitNat_eq_one c.trig)
  omega

theorem w1cOf_cmpCtrl {k : Nat} (hk : k < 32) : w1cOf (0x50108 + 0x10 * k) = 0x40000000#32 := by
  unfold w1cOf
  rw [if_neg (by omega), if_neg (by omega), if_neg (by omega), if_neg (by omega), if_neg (by omega), if_pos (by omega),
    if_pos (by omega)]
  rfl

/-- A register that holds nothing in the register table reads what its block holds. -/
theorem State.readReg_fields (s : State) {off : Nat} (hm : maskOf off = some Mask.none') : s.readReg off = s.roWord off := by
  rw [State.readReg, hm]
  simp [Mask.none']

theorem State.keepWord_cmpCtrl (s : State) {k : Nat} (hk : k < 32) :
    s.keepWord (0x50108 + 0x10 * k) = (s.cmp k).ctrlWord &&& ~~~0x40000000#32 := by
  have hread : s.readReg (0x50108 + 0x10 * k) = (s.cmp k).ctrlWord := by
    rw [s.readReg_fields ((maskOf_time (by omega)).trans (timeMask_fields (by omega) (by omega))), State.roWord, if_neg (by omega),
      show (0x50108 + 0x10 * k) / 0x10000 = 5 by omega, show (0x50108 + 0x10 * k) % 0x10000 = 0x108 + 0x10 * k by omega]
    have hword : s.timeWord (0x108 + 0x10 * k) = (s.cmp k).ctrlWord := by
      unfold State.timeWord
      dsimp only
      rw [if_neg (by omega), if_neg (by omega), if_neg (by omega), if_neg (by omega), if_neg (by omega), if_neg (by omega),
        if_neg (by omega), if_pos (by omega), show (0x108 + 0x10 * k - 0x100) / 0x10 = k by omega,
        show (0x108 + 0x10 * k) % 0x10 = 8 by omega]
      rfl
    exact hword
  rw [State.keepWord, hread, w1cOf_cmpCtrl hk]

/-! ### Read counts (R276, R289, R311, R339) -/

section
variable {s : State} (hp : s.host.phase ≠ .por)
include hp

theorem State.capRdWrite_sets (w : Word) : s.hostWrite 0 0x50024 w =
    if (s.time.capWr - w).toNat ≤ 1024 then { s with time := { s.time with capRd := w } } else s :=
  s.hostWrite_fields hp (by decide) (by decide) rfl rfl BitVec.and_zero

theorem State.arxRdWrite_sets {r : Nat} (hr : r < 4) (w : Word) : s.hostWrite 0 (0x40054 + 0x4000 * r) w =
    if ((s.ring r).arxWr - w).toNat ≤ 512 then s.setRing r { s.ring r with arxRd := w } else s := by
  have hmask : maskOf (0x40054 + 0x4000 * r) = some Mask.none' := by
    rw [maskOf_ring (by omega), show (0x40054 + 0x4000 * r) % 0x10000 % 0x4000 = 0x54 by omega]
    rfl
  have hflags : w1cOf (0x40054 + 0x4000 * r) = 0 := by
    unfold w1cOf
    rw [if_neg (by omega), if_neg (by omega), if_neg (by omega), if_neg (by omega), if_neg (by omega), if_neg (by omega),
      if_pos (by omega), if_neg (by omega)]
  rw [s.hostWrite_fields hp (by omega) (by omega) (by omega) hmask (by rw [hflags]; exact BitVec.and_zero)]
  unfold State.writeOther
  rw [if_neg (by omega), if_neg (by omega), if_pos (by omega), show (0x40054 + 0x4000 * r - 0x40000) / 0x4000 = r by omega]

theorem State.strRdWrite_sets (w : Word) (hmode : (s.cfgW 0x80010).bits 30 2 ≠ 2) : s.hostWrite 0 0x80024 w =
    if (s.acq.strWr - w - s.acq.strDrop).toNat ≤ s.streamCap then { s with acq := { s.acq with strRd := w } } else s := by
  rw [s.hostWrite_fields hp (by decide) (by decide) rfl rfl BitVec.and_zero]
  unfold State.writeOther
  dsimp only
  simp [hmode]

/-! ### Comparators (R303, R321) -/

theorem State.hostWrite_cmpCtrl {k : Nat} (hk : k < 32) {w : Word} (hw : w &&& 0x40000000#32 = 0) :
    s.hostWrite 0 (0x50108 + 0x10 * k) w = s.setCmp k { s.cmp k with arm := w.bit 31, token := w.bit 29, trig := w.bit 28 } := by
  rw [s.hostWrite_fields hp (by omega) (by omega) (by omega)
    ((maskOf_time (by omega)).trans (timeMask_fields (by omega) (by omega))) (by rw [w1cOf_cmpCtrl hk]; exact hw)]
  unfold State.writeOther
  rw [if_neg (by omega), if_neg (by omega), if_neg (by omega), if_neg (by omega), if_pos (by omega),
    show (0x50108 + 0x10 * k - 0x50100) / 0x10 = k by omega, show (0x50108 + 0x10 * k) % 0x10 = 8 by omega]
  rfl

/-- A comparator armed by its control word written back with ARM (R303). -/
theorem State.cmpArm_sets {k : Nat} (hk : k < 32) (hskip : (s.cmp k).skip < 65536) :
    s.hostWrite 0 (0x50108 + 0x10 * k) (s.keepWord (0x50108 + 0x10 * k) ||| 0x80000000#32) =
      s.setCmp k { s.cmp k with arm := true } := by
  have hkeep := s.keepWord_cmpCtrl hk
  have hfired : (s.keepWord (0x50108 + 0x10 * k) ||| 0x80000000#32) &&& 0x40000000#32 = 0 := by
    rw [hkeep, BitVec.and_or_distrib_right, BitVec.and_assoc]
    simp
  have hbit {i : Nat} (htop : Word.bit 0x80000000#32 i = false) (hmask : Word.bit (~~~0x40000000#32) i = true) :
      Word.bit (s.keepWord (0x50108 + 0x10 * k) ||| 0x80000000#32) i = (s.cmp k).ctrlWord.bit i := by
    rw [hkeep, Word.bit_or, Word.bit_and, htop, hmask, Bool.and_true, Bool.or_false]
  rw [State.hostWrite_cmpCtrl hp hk hfired, Word.bit_or, show Word.bit 0x80000000#32 31 = true from rfl, Bool.or_true, hbit rfl rfl,
    hbit rfl rfl, Cmp.ctrlWord_token hskip, Cmp.ctrlWord_trig hskip]

/-! ### EVIO pins (R306, R307, R322) -/

omit hp in
theorem State.writeEvio_push (s : State) (agent p : Nat) (w : Word) : s.writeEvio agent p 8 w =
    if (s.evio p).accepts agent s.time.time then
      (s.setEvio p ((s.evio p).push agent (w.bit 0) s.time.time)).sendEvio p 8 true w (Tab.get 0 (s.evio p).latch agent)
    else s.setEvio p ((s.evio p).push agent (w.bit 0) s.time.time) := rfl

theorem State.hostWrite_evio {p o : Nat} (hpin : p < 64) (ho : o ∈ [0, 4, 8]) (w : Word) :
    s.hostWrite 0 (0x51000 + o + 0x20 * p) w = s.writeEvio 0 p o w := by
  have ho : o = 0 ∨ o = 4 ∨ o = 8 := by simpa using ho
  have hflags : w1cOf (0x51000 + o + 0x20 * p) = 0 := by
    unfold w1cOf
    rw [if_neg (by omega), if_neg (by omega), if_neg (by omega), if_neg (by omega), if_pos (by omega), if_neg (by omega)]
  rw [s.hostWrite_fields hp (by omega) (by omega) (by omega)
    ((maskOf_time (by omega)).trans (timeMask_fields (by omega) (by omega))) (by rw [hflags]; exact BitVec.and_zero)]
  unfold State.writeOther
  rw [if_neg (by omega), if_neg (by omega), if_neg (by omega), if_neg (by omega), if_neg (by omega), if_pos (by omega),
    show (0x51000 + o + 0x20 * p - 0x51000) / 0x20 = p by omega, show (0x51000 + o + 0x20 * p) % 0x20 = o by omega]

variable (hrole : s.rope.role ≠ 2)
include hrole

omit hp in
/-- But in a LEAD, a pin's write goes no further (R309). -/
theorem State.setEvio_unsent (p reg : Nat) (push : Bool) (w target : Word) (e : Evio) :
    (s.setEvio p e).sendEvio p reg push w target = s.setEvio p e := if_neg hrole

theorem State.evioMode_sets {p : Nat} (hpin : p < 64) (w : Word) : ∃ drive, s.hostWrite 0 (0x51000 + 0x20 * p) w =
    s.setEvio p { (s.evio p).writeCfg w s.time.time with drive := drive } ∧
      (((s.evio p).writeCfg w s.time.time).mode = 0 → drive = false) := by
  refine ⟨_, (State.hostWrite_evio hp hpin (o := 0) (by simp) w).trans (State.setEvio_unsent hrole ..), fun h => if_pos h⟩

theorem State.evioQpush_pushes {p : Nat} (hpin : p < 64) (level : Bool) :
    s.hostWrite 0 (0x51008 + 0x20 * p) (BitVec.ofNat 32 (bitNat level)) = s.setEvio p ((s.evio p).push 0 level s.time.time) := by
  have hbit : Word.bit (BitVec.ofNat 32 (bitNat level)) 0 = level := by cases level <;> rfl
  refine (State.hostWrite_evio hp hpin (o := 8) (by simp) _).trans ?_
  rw [State.writeEvio_push, hbit]
  split
  · exact State.setEvio_unsent hrole ..
  · rfl
end

/-! ### The modes of a pin (R306, R308) -/

section
variable {e : Evio} {w : Word} {time : U64}

theorem Evio.writeCfg_off (hw : w.bits 30 2 = 0) : (e.writeCfg w time).mode = 0 ∧
    (e.mode ≠ 0 → (e.writeCfg w time).queue = [] ∧ (e.writeCfg w time).fallAt = none) := by
  unfold Evio.writeCfg
  dsimp only
  rw [hw]
  by_cases h : e.mode = 0
  · rw [if_pos (.inr h.symm)]
    exact ⟨h, fun hne => absurd h hne⟩
  · rw [if_neg (by omega), if_neg (by decide), if_neg (by decide)]
    exact ⟨rfl, fun _ => ⟨rfl, rfl⟩⟩

theorem Evio.writeCfg_queued (hw : w.bits 30 2 = 1) (hmode : e.mode ≠ 1) :
    (e.writeCfg w time).mode = 1 ∧ (e.writeCfg w time).queue = [] := by
  unfold Evio.writeCfg
  dsimp only
  rw [hw, if_neg (by omega), if_neg (by decide), if_pos rfl]
  exact ⟨rfl, rfl⟩

theorem Evio.writeCfg_periodic (hw : w.bits 30 2 = 2) (hmode : e.mode ≠ 2)
    (hok : ¬(e.period.toNat < 8 ∨ e.phigh.toNat < 4 ∨ e.period.toNat - 4 < e.phigh.toNat)) :
    (e.writeCfg w time).mode = 2 ∧ (e.writeCfg w time).cfgErr = e.cfgErr := by
  unfold Evio.writeCfg Evio.enterPeriodic
  dsimp only
  rw [hw, if_neg (by omega), if_pos rfl, if_neg hok]
  exact ⟨rfl, rfl⟩

theorem Evio.writeCfg_refused (hw : w.bits 30 2 = 2) (hmode : e.mode ≠ 2)
    (hbad : e.period.toNat < 8 ∨ e.phigh.toNat < 4 ∨ e.period.toNat - 4 < e.phigh.toNat) :
    (e.writeCfg w time).mode = e.mode ∧ (e.writeCfg w time).cfgErr = true := by
  unfold Evio.writeCfg Evio.enterPeriodic
  dsimp only
  rw [hw, if_neg (by omega), if_pos rfl, if_pos hbad]
  exact ⟨rfl, rfl⟩

/-! ### Pushes (R307) -/

theorem Evio.push_queued {level : Bool} (hmode : e.mode = 1) (hroom : e.queue.length < 16)
    (hdue : dueAt time (Tab.get 0 e.latch 0) = false) :
    e.push 0 level time = { e with queue := e.queue ++ [(Tab.get 0 e.latch 0, level)] } := by
  unfold Evio.push
  dsimp only
  rw [if_neg (not_not.mpr hmode), if_neg (by omega), hdue]
  rfl

theorem Evio.push_full {level : Bool} (hmode : e.mode = 1) (hfull : 16 ≤ e.queue.length) :
    e.push 0 level time = { e with ovf := true } := by
  unfold Evio.push
  rw [if_neg (not_not.mpr hmode), if_pos hfull]

theorem Evio.push_ignored {level : Bool} (hmode : e.mode ≠ 1) : e.push 0 level time = e := if_pos hmode
end

/-! ### The host's writes of a pin -/

/-- Nothing but pin `p` has changed. -/
def State.OnlyPin (s t : State) (p : Nat) : Prop :=
  (∀ j, j ≠ p → t.evio j = s.evio j) ∧ { t with time := { t.time with evios := s.time.evios } } = s

theorem State.setEvio_onlyPin (s : State) (p : Nat) (e : Evio) : s.OnlyPin (s.setEvio p e) p :=
  ⟨fun _ hj => (State.evio_setEvio ..).trans (if_neg hj), rfl⟩

theorem State.evio_setEvio_same (s : State) (p : Nat) (e : Evio) : (s.setEvio p e).evio p = e :=
  (State.evio_setEvio ..).trans (if_pos rfl)

end Sys2Proof.Machine
end

section
/-! PROOFS. The time island's events: comparators, timed outputs and captures (R303-R312, R328-R334, R340-R342, R401). -/

namespace Sys2Proof.Machine

theorem exec_cmpFire (s : State) (k : Nat) : exec (.cmpFire k) s = .next (s.cmpFire k) := rfl
theorem exec_evioEntryFire (s : State) (p : Nat) : exec (.evioEntryFire p) s = .next (s.evioFire p) := rfl
theorem exec_evioPeriodicEdge (s : State) (p : Nat) : exec (.evioPeriodicEdge p) s = .next (s.evioEdge p) := rfl
theorem exec_evioCapture (s : State) (p : Nat) (line : LevelRun) (q : Nat) :
    exec (.evioCapture p line q) s = .next (s.evioCapture p line.level line.run q) := rfl

/-! ### TIME brought to an instant (R293, R294) -/

theorem TimeBase.advance_only (t : TimeBase) (target : U64) : ∃ raw time frac,
    t.advance target = { t with raw := raw, time := time, frac := frac } := by
  unfold TimeBase.advance
  split
  · exact ⟨_, _, _, rfl⟩
  · exact ⟨t.raw, t.time, t.frac, rfl⟩

/-! ### What acquisition changes (R328-R334, R340-R342) -/

/-- Nothing but the acquisition's own state has changed. -/
def State.Acquires (s t : State) : Prop := ∃ acq, t = { s with acq := acq }

theorem State.Acquires.trans {a b c : State} (h : a.Acquires b) (g : b.Acquires c) : a.Acquires c := by
  obtain ⟨_, rfl⟩ := h
  obtain ⟨acq, rfl⟩ := g
  exact ⟨acq, rfl⟩

theorem State.Acquires.refl (s : State) : s.Acquires s := ⟨s.acq, rfl⟩

theorem State.foldl_acquires {α : Type} (f : State → α → State) (hf : ∀ (s : State) x, s.Acquires (f s x)) (l : List α) (s : State) :
    s.Acquires (l.foldl f s) :=
  List.foldlRecOn (motive := s.Acquires) l f (.refl s) fun t ht x _ => ht.trans (hf t x)

theorem State.setTrg_acquires (s : State) (u : Nat) (x : Trg) : s.Acquires (s.setTrg u x) := ⟨_, rfl⟩
theorem State.setPriv_acquires (s : State) (b : Nat) (x : Priv) : s.Acquires (s.setPriv b x) := ⟨_, rfl⟩

theorem State.triggerPriv_acquires (s : State) (b : Nat) (t : U64) (n : Word) (sub : Nat) : s.Acquires (s.triggerPriv b t n sub) := by
  unfold State.triggerPriv
  dsimp only
  split
  · exact .refl s
  · split
    · exact s.setPriv_acquires ..
    · split
      · exact s.setPriv_acquires ..
      · exact s.setPriv_acquires ..

theorem State.anchorMask_acquires (s : State) (b : Nat) (n : Word) : s.Acquires (s.anchorMask b n) := by
  unfold State.anchorMask
  dsimp only
  split
  · exact s.setPriv_acquires ..
  · exact .refl s

theorem State.fireUnit_acquires (s : State) (u : Nat) (t : U64) (n : Word) (sub : Nat) : s.Acquires (s.fireUnit u t n sub) := by
  refine (s.setTrg_acquires u _).trans (State.foldl_acquires _ (fun v b => ?_) _ _)
  dsimp only
  have htrigger : v.Acquires (if (v.privCfg b).trg = u then v.triggerPriv b t n sub else v) := by
    split
    · exact v.triggerPriv_acquires ..
    · exact .refl v
  generalize (if (v.privCfg b).trg = u then v.triggerPriv b t n sub else v) = x at htrigger ⊢
  refine htrigger.trans ?_
  split
  · exact State.anchorMask_acquires ..
  · exact .refl _

theorem State.fireNow_acquires (s : State) (u : Nat) (t : U64) : s.Acquires (s.fireNow u t) := by
  unfold State.fireNow
  dsimp only
  split
  · exact s.fireUnit_acquires ..
  · exact s.fireUnit_acquires ..

theorem State.unitLevel_acquires (s : State) (u : Nat) (level : Bool) (q : Nat) : s.Acquires (s.unitLevel u level q) := by
  unfold State.unitLevel
  dsimp only
  split
  · exact (s.setTrg_acquires ..).trans (State.fireNow_acquires ..)
  · exact s.setTrg_acquires ..

/-- Time, the registers, the instances and the units are as they were. -/
structure State.SameDrive (s t : State) : Prop where
  time : t.time = s.time
  regs : t.regs = s.regs
  axes : t.axes = s.axes
  units : t.units = s.units

theorem State.SameDrive.trans {a b c : State} (h : a.SameDrive b) (g : b.SameDrive c) : a.SameDrive c :=
  ⟨g.time.trans h.time, g.regs.trans h.regs, g.axes.trans h.axes, g.units.trans h.units⟩

theorem State.SameDrive.refl (s : State) : s.SameDrive s := ⟨rfl, rfl, rfl, rfl⟩

theorem State.Acquires.sameDrive {s t : State} (h : s.Acquires t) : s.SameDrive t := by
  obtain ⟨_, rfl⟩ := h
  exact ⟨rfl, rfl, rfl, rfl⟩

theorem State.Schedules.sameDrive {s t : State} (h : s.Schedules t) : s.SameDrive t := ⟨h.time, h.regs, h.axes, h.units⟩

theorem State.putSample_sameDrive (s : State) (b : Nat) (c : PrivCfg) (w v : Nat) : s.SameDrive (s.putSample b c w v) := by
  unfold State.putSample
  dsimp only
  split
  · exact ⟨rfl, rfl, rfl, rfl⟩
  · exact ⟨rfl, rfl, rfl, rfl⟩
  · exact ⟨rfl, rfl, rfl, rfl⟩

theorem State.fillFast_sameDrive (s : State) (b : Nat) : s.SameDrive (s.fillFast b) := by
  unfold State.fillFast
  dsimp only
  split
  · exact .refl s
  · refine State.SameDrive.trans ?_ (State.setPriv_acquires ..).sameDrive
    exact List.foldlRecOn (motive := s.SameDrive) _ _ (.refl s) fun t ht j _ => ht.trans (t.putSample_sameDrive ..)

theorem State.fillAll_sameDrive (s : State) : s.SameDrive s.fillAll :=
  List.foldlRecOn (motive := s.SameDrive) _ _ (.refl s) fun t ht b _ => ht.trans (t.fillFast_sameDrive b)

/-- Without a FAST channel nothing is sampled at once. -/
theorem State.fillAll_numeric {s : State} (h : ∀ b, b < 4 → (s.privCfg b).mode = 0) : s.fillAll = s :=
  List.foldlRecOn (motive := fun t => t = s) _ _ rfl fun t ht b hb => by
    subst ht
    exact if_pos (.inl (h b (List.mem_range.mp hb)))

/-! ### Comparators (R303-R305) -/

theorem Cmp.fire_fires (c : Cmp) (now : U64) : (c.fire now).fired = true ∧ (c.fire now).count = c.count + 1 ∧
    (c.period = 0 → (c.fire now).arm = false ∧ (c.fire now).target = c.target) ∧ (c.period ≠ 0 → (c.fire now).arm = c.arm) := by
  unfold Cmp.fire
  dsimp only
  by_cases h : c.period = 0
  · rw [if_pos h]
    exact ⟨rfl, rfl, fun _ => ⟨rfl, rfl⟩, fun hne => absurd h hne⟩
  · rw [if_neg h]
    split
    · exact ⟨rfl, rfl, fun hz => absurd hz h, fun _ => rfl⟩
    · exact ⟨rfl, rfl, fun hz => absurd hz h, fun _ => rfl⟩

theorem State.cmpFire_unarmed {s : State} {k : Nat} (h : (s.cmp k).arm = false) : s.cmpFire k = s := by
  unfold State.cmpFire
  dsimp only
  rw [h]
  exact if_pos (by simp)

/-- The trigger units of comparator `k` at an instant, where it has any (R331). -/
def State.cmpUnits (s : State) (k : Nat) (trig : Bool) (now : U64) : State :=
  if trig then ((s.fillAll.unitsOn 2 k).filter (fun u => (s.trgCfg u).kind == 0)).foldl (fun s u => s.fireNow u (now * 4)) s.fillAll
  else s

theorem State.cmpUnits_sameDrive (s : State) (k : Nat) (trig : Bool) (now : U64) : s.SameDrive (s.cmpUnits k trig now) := by
  unfold State.cmpUnits
  split
  · exact s.fillAll_sameDrive.trans (State.foldl_acquires _ (fun v u => v.fireNow_acquires u _) _ _).sameDrive
  · exact .refl s

/-- An armed comparator comes due: it fires, then its trigger units do, and its token is offered. -/
theorem State.cmpFire_armed {s : State} {k : Nat} (hk : k < 32) (harm : (s.cmp k).arm = true) (hcount : s.time.counting = true) :
    ∃ raw now frac t, t = ({ s with time := { s.time with raw := raw, time := now, frac := frac } } : State).setCmp k ((s.cmp k).fire now) ∧
      s.cmpFire k = if (s.cmp k).token then (t.cmpUnits k (s.cmp k).trig now).offer k else t.cmpUnits k (s.cmp k).trig now := by
  obtain ⟨raw, now, frac, htime⟩ := s.time.advance_only (dueInstant s.time.time (s.cmp k).target)
  have hon : ¬(decide (32 ≤ k) || !(s.cmp k).arm || !s.time.counting) = true := by simp [harm, hcount]; omega
  refine ⟨raw, now, frac, _, rfl, ?_⟩
  unfold State.cmpFire
  dsimp only
  rw [if_neg hon, State.toStamp, htime]
  rfl

theorem State.cmpFire_fires {s : State} {k : Nat} (hk : k < 32) (harm : (s.cmp k).arm = true) (hcount : s.time.counting = true) :
    ∃ now, (∀ j, (s.cmpFire k).cmp j = if j = k then (s.cmp k).fire now else s.cmp j) ∧
      (s.cmpFire k).time.evios = s.time.evios ∧
      ((s.cmp k).token = false → (s.cmp k).trig = false → { s.cmpFire k with time := s.time } = s) := by
  obtain ⟨raw, now, frac, t, ht, heq⟩ := State.cmpFire_armed hk harm hcount
  have hunits := t.cmpUnits_sameDrive k (s.cmp k).trig now
  have hdrive : t.SameDrive (s.cmpFire k) := by
    rw [heq]
    split
    · exact hunits.trans (State.offer_schedules ..).sameDrive
    · exact hunits
  refine ⟨now, fun j => ?_, ?_, fun htoken htrig => ?_⟩
  · rw [State.cmp, hdrive.time, ht]
    exact State.cmp_setCmp ..
  · rw [hdrive.time, ht]
    rfl
  · rw [heq, htoken, htrig, ht]
    rfl

/-! ### Timed outputs (R307, R308) -/

/-- The cycle of an output is never the one in which its pin fired before (R307). -/
theorem State.serveCycle_only (s : State) (e : Evio) : ∃ raw time frac,
    s.serveCycle e = { s with time := { s.time with raw := raw, time := time, frac := frac } } ∧ e.firedAt ≠ some raw := by
  unfold State.serveCycle
  split
  next h =>
    refine ⟨_, _, _, rfl, fun hsame => ?_⟩
    have hnext : s.time.raw = s.time.raw + 1 := Option.some.inj (h.symm.trans hsame)
    exact absurd hnext (by bv_omega)
  next h => exact ⟨s.time.raw, s.time.time, s.time.frac, rfl, h⟩

theorem State.evioFire_fires {s : State} {p : Nat} {g : Word} {l : Bool} {r : List (Word × Bool)} (hp : p < 64)
    (hmode : (s.evio p).mode = 1) (hcount : s.time.counting = true) (hq : (s.evio p).queue = (g, l) :: r) : ∃ raw time frac,
      (s.evio p).firedAt ≠ some raw ∧
      s.evioFire p = ({ s with time := { s.time with raw := raw, time := time, frac := frac } } : State).setEvio p
        { s.evio p with queue := r, out := xor l (s.evio p).inv, firedAt := some raw } := by
  obtain ⟨raw0, time0, frac0, htime⟩ := s.time.advance_only (dueInstant s.time.time g)
  obtain ⟨raw, time, frac, hserve, hfired⟩ := (s.toStamp (dueInstant s.time.time g)).serveCycle_only (s.evio p)
  refine ⟨raw, time, frac, hfired, ?_⟩
  have hqueue : (if 64 ≤ p ∨ (s.evio p).mode ≠ 1 ∨ s.time.counting = false then [] else (s.evio p).queue) = (g, l) :: r := by
    rw [if_neg (by simp [hmode, hcount]; omega), hq]
  unfold State.evioFire
  dsimp only
  rw [hqueue]
  dsimp only
  rw [hserve, Evio.fireHead, hq, State.toStamp, htime]

/-- A rise or a fall of a periodic output at its instant. -/
theorem State.evioEdge_moves {s : State} {p : Nat} (hp : p < 64) (hmode : (s.evio p).mode = 2) (hcount : s.time.counting = true) :
    ∃ raw time frac, s.evioEdge p =
      ({ s with time := { s.time with raw := raw, time := time, frac := frac } } : State).setEvio p (s.evio p).periodicEdge := by
  obtain ⟨raw, time, frac, htime⟩ := s.time.advance_only (s.evio p).nextEdge
  have hon : ¬(decide (64 ≤ p) || (s.evio p).mode != 2 || !s.time.counting) = true := by simp [hmode, hcount]; omega
  refine ⟨raw, time, frac, ?_⟩
  unfold State.evioEdge
  dsimp only
  rw [if_neg hon, State.toStamp, htime]

theorem Evio.periodicEdge_rise {e : Evio} (hfall : e.fallAt = none) (hold : e.oldFalls = []) : e.periodicEdge =
    { e with out := !e.inv, fallAt := some (e.nextRise + e.phigh.setWidth 64), oldFalls := []
             nextRise := e.nextRise + e.period.setWidth 64, pcount := if e.endless then e.pcount else e.pcount - 1 } := by
  have hrises : e.risesNext = true := by
    unfold Evio.risesNext Evio.nextFall
    rw [hfall, hold]
  unfold Evio.periodicEdge
  rw [if_pos hrises, hfall, hold]
  rfl

theorem Evio.periodicEdge_fall {e : Evio} {f : U64} (hmode : e.mode = 2) (hfall : e.fallAt = some f) (hold : e.oldFalls = [])
    (hfirst : 0 ≤ (e.nextRise - f).toInt) : e.periodicEdge =
    { e with out := e.inv, fallAt := none, oldFalls := [], mode := if e.endless = false ∧ e.pcount = 0 then 1 else 2 } := by
  have hnext : e.nextFall = some f := by
    unfold Evio.nextFall
    rw [hfall, hold]
    rfl
  have hfalls : e.risesNext = false := by
    unfold Evio.risesNext
    rw [hnext]
    dsimp only
    rw [decide_eq_false (not_lt.mpr hfirst), Bool.and_false]
  unfold Evio.periodicEdge
  rw [if_neg (by rw [hfalls]; decide), hfall, hnext, hold]
  by_cases hlast : e.endless = false ∧ e.pcount = 0
  · rw [if_pos hlast, if_pos (by simp [hlast, Evio.nextFall])]
    simp
  · rw [if_neg hlast, if_neg (by simpa [Evio.nextFall] using hlast), ← hmode]
    simp

end Sys2Proof.Machine
end

section
/-! PROOFS. Captures, and the statement on the time block (R276, R303-R311, R328, R339). -/

namespace Sys2Proof.Machine

/-! ### The capture queue (R311) -/

/-- The only entry stored where no later one is held: its CAP_WR value is the count with itself (log 45). -/
theorem State.foldl_store_memoryFrom (s : State) (at' : Nat → Nat) (entry : Nat → List Byte) (l : List Nat) {u : State}
    (hu : u.memoryFrom s = s) : (l.foldl (fun u j => u.store' (at' j) (entry j)) u).memoryFrom s = s :=
  List.foldlRecOn (motive := fun u : State => u.memoryFrom s = s) l _ hu fun u hu _ _ => (State.store'_memoryFrom u s ..).trans hu

theorem State.enterCapture_room {s : State} {p q : Nat} {level : Bool} (h : (s.time.capWr - s.time.capRd).toNat < 1024) :
    ∃ u : State, u.memoryFrom s = s ∧ ({ u with time := { s.time with capWr := s.time.capWr + 1 } } : State).Schedules
      (s.enterCapture p level q) ∧ (s.laterCaptures p q = 0 →
        u.mem = s.mem.setBytes (captureAddr s.time.capWr) (captureEntry q p level (s.time.capWr + 1))) := by
  unfold State.enterCapture
  dsimp only
  rw [if_neg (by omega)]
  generalize hu : (List.range (s.laterCaptures p q)).foldl _ _ = u
  have hframe : u.memoryFrom s = s := by
    rw [← hu]
    exact s.foldl_store_memoryFrom _ _ _ (s.store'_memoryFrom s ..)
  refine ⟨u, hframe, ?_, fun hnone => ?_⟩
  · rw [show u.time = s.time from (congrArg State.time hframe :)]
    split
    · exact State.offer_schedules ..
    · exact .refl _
  · have hplace : s.time.capWr - BitVec.ofNat 32 0 + BitVec.ofNat 32 0 = s.time.capWr := by simp
    rw [← hu, hnone, hplace]
    rfl

/-! ### A level accepted (R310, R312) -/

/-- A run that the pin's filter does not pass changes nothing. -/
theorem State.evioCapture_short {s : State} {p run q : Nat} {rising : Bool} (hrun : run ≤ (s.evio p).filt) :
    s.evioCapture p rising run q = s := by
  unfold State.evioCapture
  dsimp only
  rw [filtered_short hrun]
  exact if_pos (by simp)

/-- A level that has passed the filter of its pin: the pin shows it, an enabled edge is entered, and the units on the pin see it. -/
theorem State.evioCapture_accepts {s : State} {p run q : Nat} {rising : Bool} (hp : p < 64) (hrun : (s.evio p).filt < run)
    (hlevel : (s.evio p).level ≠ rising) (hcount : s.time.counting = true) : ∃ u : State,
      (∀ j, u.evio j = if j = p then { s.evio p with level := rising } else s.evio j) ∧
      (u.time.capWr = s.time.capWr ∧ u.time.capRd = s.time.capRd ∧ u.time.capLost = s.time.capLost) ∧
      (u.regs = s.regs ∧ u.axes = s.axes ∧ u.units = s.units) ∧
      ((∀ b, b < 4 → (s.privCfg b).mode = 0) → u.mem = s.mem) ∧
      (if (s.evio p).edge.testBit (if rising then 0 else 1) then u.enterCapture p rising q else u).Acquires
        (s.evioCapture p rising run q) := by
  obtain ⟨raw, time, frac, htime⟩ := s.time.advance_only (BitVec.ofNat 64 ((q + 10 * (s.evio p).filt + 3) / 4))
  have hon : ¬(decide (64 ≤ p) || filtered (s.evio p).filt (s.evio p).level rising run == (s.evio p).level || !s.time.counting) =
      true := by
    rw [filtered_long hrun, hcount, decide_eq_false (by omega), beq_eq_false_iff_ne.mpr hlevel.symm]
    decide
  have hstamp : s.toStamp (BitVec.ofNat 64 ((q + 10 * (s.evio p).filt + 3) / 4)) =
      { s with time := { s.time with raw := raw, time := time, frac := frac } } := by rw [State.toStamp, htime]
  generalize hv : ({ s with time := { s.time with raw := raw, time := time, frac := frac } } : State) = v at hstamp
  have hfill := v.fillAll_sameDrive
  have hevio (j : Nat) : v.fillAll.evio j = s.evio j := by rw [State.evio, hfill.time, ← hv, State.evio]
  refine ⟨v.fillAll.setEvio p { s.evio p with level := rising }, fun j => ?_, ⟨?_, ?_, ?_⟩, ⟨?_, ?_, ?_⟩, fun hnum => ?_, ?_⟩
  · rw [State.evio_setEvio, hevio]
  · exact (congrArg TimeBase.capWr hfill.time).trans (by rw [← hv])
  · exact (congrArg TimeBase.capRd hfill.time).trans (by rw [← hv])
  · exact (congrArg TimeBase.capLost hfill.time).trans (by rw [← hv])
  · exact hfill.regs.trans (by rw [← hv])
  · exact hfill.axes.trans (by rw [← hv])
  · exact hfill.units.trans (by rw [← hv])
  · have hnone : v.fillAll = v := State.fillAll_numeric (by rw [← hv]; exact hnum)
    rw [hnone, ← hv]
    rfl
  · unfold State.evioCapture
    dsimp only
    rw [if_neg hon, hstamp, hevio]
    exact State.foldl_acquires _ (fun x u => x.unitLevel_acquires u rising q) _ _

theorem captureEntry_length (q p : Nat) (level : Bool) (wr : Word) : (captureEntry q p level wr).length = 16 := by
  simp [captureEntry, bytesLE_length]

/-- An entry stored in the capture queue stays while the scheduler acts. -/
theorem captureAddr_below (c : Word) : captureAddr c + 16 ≤ 0x036C0000 := by
  unfold captureAddr
  omega

theorem State.laterCaptures_congr {s u : State} (hmem : u.mem = s.mem) (hwr : u.time.capWr = s.time.capWr)
    (hrd : u.time.capRd = s.time.capRd) (p q : Nat) : u.laterCaptures p q = s.laterCaptures p q := by
  rw [State.laterCaptures, hmem, hwr, hrd, State.laterCaptures]

section
variable {s u : State} {p q : Nat} {level : Bool}

/-- An edge on an enabled sense counts in CAP_WR, or in CAP_LOST where the queue is full; nothing else of the time block changes. -/
theorem State.enterCapture_counts : ∃ capWr capLost,
    (u.enterCapture p level q).time = { u.time with capWr := capWr, capLost := capLost } ∧
      ((u.enterCapture p level q).regs = u.regs ∧ (u.enterCapture p level q).axes = u.axes ∧
        (u.enterCapture p level q).units = u.units) ∧
      (1024 ≤ (u.time.capWr - u.time.capRd).toNat → capWr = u.time.capWr ∧ capLost = u.time.capLost + 1) ∧
      ((u.time.capWr - u.time.capRd).toNat < 1024 → capWr = u.time.capWr + 1 ∧ capLost = u.time.capLost) := by
  by_cases hfull : 1024 ≤ (u.time.capWr - u.time.capRd).toNat
  · have hdrop : u.enterCapture p level q = { u with time := { u.time with capLost := u.time.capLost + 1 } } := if_pos hfull
    rw [hdrop]
    exact ⟨_, _, rfl, ⟨rfl, rfl, rfl⟩, fun _ => ⟨rfl, rfl⟩, fun hroom => absurd hfull (not_le.mpr hroom)⟩
  · obtain ⟨v, hframe, hoffer, _⟩ := u.enterCapture_room (p := p) (q := q) (level := level) (not_le.mp hfull)
    exact ⟨_, _, hoffer.time, ⟨hoffer.regs.trans (congrArg State.regs hframe :), hoffer.axes.trans (congrArg State.axes hframe :),
      hoffer.units.trans (congrArg State.units hframe :)⟩, fun h => absurd h hfull, fun _ => ⟨rfl, rfl⟩⟩

/-- The entry of an edge after which none is held lies where CAP_WR pointed. -/
theorem State.enterCapture_stores (hroom : (u.time.capWr - u.time.capRd).toNat < 1024) (hlater : u.laterCaptures p q = 0) :
    (u.enterCapture p level q).mem.bytes (captureAddr u.time.capWr) 16 = captureEntry q p level (u.time.capWr + 1) := by
  obtain ⟨v, _, hoffer, hmem⟩ := u.enterCapture_room (p := p) (q := q) (level := level) hroom
  have hread := u.mem.bytes_setBytes (captureAddr u.time.capWr) (captureEntry q p level (u.time.capWr + 1))
  rw [captureEntry_length, ← hmem hlater] at hread
  have hbelow := captureAddr_below u.time.capWr
  exact (Mem.bytes_congr fun z _ hz => hoffer.below z (by omega)).trans hread
end

/-- An accepted level: the pin shows it, and its edge is entered where its sense is enabled (R310, R311). -/
theorem State.evioCapture_enters {s : State} {p run q : Nat} {rising : Bool} (hp : p < 64) (hrun : (s.evio p).filt < run)
    (hlevel : (s.evio p).level ≠ rising) (hcount : s.time.counting = true) :
    let t := s.evioCapture p rising run q
    (t.evio p).level = rising ∧
      ((s.evio p).edge.testBit (if rising then 0 else 1) = false → t.time.capWr = s.time.capWr ∧ t.time.capLost = s.time.capLost) ∧
      ((s.evio p).edge.testBit (if rising then 0 else 1) = true →
        (1024 ≤ (s.time.capWr - s.time.capRd).toNat → t.time.capWr = s.time.capWr ∧ t.time.capLost = s.time.capLost + 1) ∧
        ((s.time.capWr - s.time.capRd).toNat < 1024 → t.time.capWr = s.time.capWr + 1 ∧ t.time.capLost = s.time.capLost ∧
          (s.laterCaptures p q = 0 → (∀ b, b < 4 → (s.privCfg b).mode = 0) →
            t.mem.bytes (captureAddr s.time.capWr) 16 = captureEntry q p rising (s.time.capWr + 1)))) ∧
      t.time.capRd = s.time.capRd ∧ (∀ j, j ≠ p → t.evio j = s.evio j) ∧ t.regs = s.regs ∧ t.axes = s.axes ∧ t.units = s.units := by
  intro t
  obtain ⟨u, hevio, ⟨hwr, hrd, hlost⟩, ⟨hregs, haxes, hunits⟩, hmem, hacq⟩ :=
    State.evioCapture_accepts (rising := rising) (q := q) hp hrun hlevel hcount
  have hpins {capWr capLost : Word} (htime : t.time = { u.time with capWr := capWr, capLost := capLost }) (j : Nat) :
      t.evio j = u.evio j := by rw [State.evio, htime, State.evio]
  have hshown : (u.evio p).level = rising := by rw [hevio, if_pos rfl]
  have hothers (j : Nat) (hj : j ≠ p) : u.evio j = s.evio j := (hevio j).trans (if_neg hj)
  by_cases hedge : (s.evio p).edge.testBit (if rising then 0 else 1) = true
  · rw [if_pos hedge] at hacq
    obtain ⟨capWr, capLost, hset, ⟨hregs', haxes', hunits'⟩, hfull, hroom⟩ :=
      State.enterCapture_counts (u := u) (p := p) (q := q) (level := rising)
    rw [hwr, hrd, hlost] at hfull
    rw [hwr, hrd, hlost] at hroom
    have htime := hacq.sameDrive.time.trans hset
    refine ⟨by rw [hpins htime, hshown], fun hno => absurd hedge (by rw [hno]; decide), fun _ => ⟨fun h => ?_, fun h => ?_⟩,
      (congrArg TimeBase.capRd htime).trans hrd, fun j hj => (hpins htime j).trans (hothers j hj),
      hacq.sameDrive.regs.trans (hregs'.trans hregs), hacq.sameDrive.axes.trans (haxes'.trans haxes),
      hacq.sameDrive.units.trans (hunits'.trans hunits)⟩
    · rw [htime]
      exact hfull h
    · rw [htime]
      refine ⟨(hroom h).1, (hroom h).2, fun hlater hnum => ?_⟩
      have hstored := State.enterCapture_stores (u := u) (p := p) (q := q) (level := rising) (by rw [hwr, hrd]; exact h)
        (by rw [State.laterCaptures_congr (hmem hnum) hwr hrd]; exact hlater)
      obtain ⟨acq, heq⟩ := hacq
      rw [show t.mem = (u.enterCapture p rising q).mem from (congrArg State.mem heq :), ← hwr]
      exact hstored
  · rw [if_neg hedge] at hacq
    have htime : t.time = { u.time with capWr := u.time.capWr, capLost := u.time.capLost } := hacq.sameDrive.time
    exact ⟨by rw [hpins htime, hshown], fun _ => ⟨by rw [htime, hwr], by rw [htime, hlost]⟩, fun hyes => absurd hyes hedge,
      (congrArg TimeBase.capRd htime).trans hrd, fun j hj => (hpins htime j).trans (hothers j hj),
      hacq.sameDrive.regs.trans hregs, hacq.sameDrive.axes.trans haxes, hacq.sameDrive.units.trans hunits⟩

/-! ### A pin written, and a pin's output at its instants (R306-R308) -/

section
variable {s : State} {p : Nat}

theorem State.pin_target (hp : s.host.phase ≠ .por) (hpin : p < 64) (w : Word) : ∃ t, exec (.evioQt 0 p w) s = .next t ∧
    s.OnlyPin t p ∧ Tab.get 0 (t.evio p).latch 0 = w ∧
    (∀ a, a ≠ 0 → Tab.get 0 (t.evio p).latch a = Tab.get 0 (s.evio p).latch a) ∧
    { t.evio p with latch := (s.evio p).latch } = s.evio p := by
  have hset : s.hostWrite 0 (0x51004 + 0x20 * p) w = s.setEvio p { s.evio p with latch := Tab.put 0 (s.evio p).latch 0 w } :=
    State.hostWrite_evio hp hpin (o := 4) (by simp) w
  rw [exec_evioQt _ hpin, hset]
  refine ⟨_, rfl, s.setEvio_onlyPin .., ?_⟩
  rw [State.evio_setEvio_same]
  exact ⟨(Tab.get_put ..).trans (if_pos rfl), fun a ha => (Tab.get_put ..).trans (if_neg ha), rfl⟩

theorem State.pin_entryFires {g : Word} {l : Bool} {r : List (Word × Bool)} (hpin : p < 64) (hmode : (s.evio p).mode = 1)
    (hcount : s.time.counting = true) (hq : (s.evio p).queue = (g, l) :: r) : ∃ t, exec (.evioEntryFire p) s = .next t ∧
    (s.evio p).firedAt ≠ some t.time.raw ∧
    t.evio p = { s.evio p with queue := r, out := xor l (s.evio p).inv, firedAt := some t.time.raw } ∧
    (∀ j, j ≠ p → t.evio j = s.evio j) ∧ { t with time := s.time } = s := by
  obtain ⟨raw, time, frac, hfired, hfire⟩ := State.evioFire_fires hpin hmode hcount hq
  rw [exec_evioEntryFire, hfire]
  exact ⟨_, rfl, hfired, State.evio_setEvio_same .., fun j hj => (State.evio_setEvio ..).trans (if_neg hj), rfl⟩

theorem State.pin_edgeMoves (hpin : p < 64) (hmode : (s.evio p).mode = 2) (hcount : s.time.counting = true)
    (hold : (s.evio p).oldFalls = []) : ∃ t, exec (.evioPeriodicEdge p) s = .next t ∧
    ((s.evio p).fallAt = none → (t.evio p).out = !(s.evio p).inv ∧
      (t.evio p).fallAt = some ((s.evio p).nextRise + (s.evio p).phigh.setWidth 64) ∧
      (t.evio p).nextRise = (s.evio p).nextRise + (s.evio p).period.setWidth 64 ∧ (t.evio p).mode = 2 ∧
      (t.evio p).pcount = (if (s.evio p).endless then (s.evio p).pcount else (s.evio p).pcount - 1)) ∧
    (∀ f, (s.evio p).fallAt = some f → 0 ≤ ((s.evio p).nextRise - f).toInt → (t.evio p).out = (s.evio p).inv ∧
      (t.evio p).fallAt = none ∧ (t.evio p).nextRise = (s.evio p).nextRise ∧ (t.evio p).pcount = (s.evio p).pcount ∧
      (t.evio p).mode = (if (s.evio p).endless = false ∧ (s.evio p).pcount = 0 then 1 else 2)) ∧
    (∀ j, j ≠ p → t.evio j = s.evio j) ∧ { t with time := s.time } = s := by
  obtain ⟨raw, time, frac, hedge⟩ := State.evioEdge_moves hpin hmode hcount
  rw [exec_evioPeriodicEdge, hedge]
  refine ⟨_, rfl, ?_, ?_, fun j hj => (State.evio_setEvio ..).trans (if_neg hj), rfl⟩
  · rw [State.evio_setEvio_same]
    intro hfall
    rw [Evio.periodicEdge_rise hfall hold]
    exact ⟨rfl, rfl, rfl, hmode, rfl⟩
  · rw [State.evio_setEvio_same]
    intro f hfall hfirst
    rw [Evio.periodicEdge_fall hmode hfall hold hfirst]
    exact ⟨rfl, rfl, rfl, rfl, rfl⟩

/-- A mode written: the pin is in it, and nothing else has changed. -/
theorem State.pin_mode (hp : s.host.phase ≠ .por) (hrole : s.rope.role ≠ 2) (hpin : p < 64) (mode : Nat) : ∃ t w drive,
    exec (.evioModeWrite 0 p mode) s = .next t ∧ s.OnlyPin t p ∧ Word.bits w 30 2 = mode % 4 ∧
      t.evio p = { (s.evio p).writeCfg w s.time.time with drive := drive } ∧
      (((s.evio p).writeCfg w s.time.time).mode = 0 → drive = false) := by
  obtain ⟨drive, hset, hdrive⟩ := State.evioMode_sets hp hrole hpin ((s.keepWord (0x51000 + 0x20 * p)).setBits 30 2 mode)
  rw [exec_evioModeWrite _ hpin, hset]
  exact ⟨_, _, drive, rfl, s.setEvio_onlyPin .., Word.bits_setBits _ mode (by decide), State.evio_setEvio_same .., hdrive⟩

theorem State.pin_written (hp : s.host.phase ≠ .por) (hrole : s.rope.role ≠ 2) (hpin : p < 64) :
    let e := s.evio p
    (∃ t, exec (.evioModeWrite 0 p 0) s = .next t ∧ s.OnlyPin t p ∧ (t.evio p).mode = 0 ∧ (t.evio p).drive = false ∧
        (e.mode ≠ 0 → (t.evio p).queue = [] ∧ (t.evio p).fallAt = none)) ∧
      (e.mode ≠ 1 → ∃ t, exec (.evioModeWrite 0 p 1) s = .next t ∧ s.OnlyPin t p ∧ (t.evio p).mode = 1 ∧ (t.evio p).queue = []) ∧
      (e.mode ≠ 2 → 8 ≤ e.period.toNat → 4 ≤ e.phigh.toNat → e.phigh.toNat + 4 ≤ e.period.toNat →
        ∃ t, exec (.evioModeWrite 0 p 2) s = .next t ∧ s.OnlyPin t p ∧ (t.evio p).mode = 2 ∧ (t.evio p).cfgErr = e.cfgErr) ∧
      (e.mode ≠ 2 → (e.period.toNat < 8 ∨ e.phigh.toNat < 4 ∨ e.period.toNat < e.phigh.toNat + 4) →
        ∃ t, exec (.evioModeWrite 0 p 2) s = .next t ∧ s.OnlyPin t p ∧ (t.evio p).mode = e.mode ∧ (t.evio p).cfgErr = true) ∧
      (∀ l, e.mode = 1 → e.queue.length < 16 → dueAt s.time.time (Tab.get 0 e.latch 0) = false →
        ∃ t, exec (.evioQpush 0 p l) s = .next t ∧ s.OnlyPin t p ∧
          t.evio p = { e with queue := e.queue ++ [(Tab.get 0 e.latch 0, l)] }) ∧
      (∀ l, e.mode = 1 → 16 ≤ e.queue.length → ∃ t, exec (.evioQpush 0 p l) s = .next t ∧ s.OnlyPin t p ∧
        t.evio p = { e with ovf := true }) ∧
      (∀ l, e.mode ≠ 1 → ∃ t, exec (.evioQpush 0 p l) s = .next t ∧ s.OnlyPin t p ∧ t.evio p = e) := by
  have hmode (mode : Nat) := State.pin_mode hp hrole hpin mode
  have hpush (l : Bool) : ∃ t, exec (.evioQpush 0 p l) s = .next t ∧ s.OnlyPin t p ∧
      t.evio p = (s.evio p).push 0 l s.time.time := by
    rw [exec_evioQpush _ hpin, State.evioQpush_pushes hp hrole hpin]
    exact ⟨_, rfl, s.setEvio_onlyPin .., State.evio_setEvio_same ..⟩
  refine ⟨?_, fun hne => ?_, fun hne hperiod hphigh hlow => ?_, fun hne hbad => ?_, fun l h1 hroom hdue => ?_, fun l h1 hfull => ?_,
    fun l hne => ?_⟩
  · obtain ⟨t, w, drive, hexec, honly, hw, hpinIs, hdrive⟩ := hmode 0
    obtain ⟨hoff, hdiscard⟩ := Evio.writeCfg_off (e := s.evio p) (time := s.time.time) hw
    refine ⟨t, hexec, honly, ?_, ?_, ?_⟩
    · rw [hpinIs, hoff]
    · rw [hpinIs]
      exact hdrive hoff
    · rw [hpinIs]
      exact hdiscard
  · obtain ⟨t, w, drive, hexec, honly, hw, hpinIs, _⟩ := hmode 1
    obtain ⟨hin, hempty⟩ := Evio.writeCfg_queued (time := s.time.time) hw hne
    exact ⟨t, hexec, honly, by rw [hpinIs, hin], by rw [hpinIs, hempty]⟩
  · obtain ⟨t, w, drive, hexec, honly, hw, hpinIs, _⟩ := hmode 2
    obtain ⟨hin, herr⟩ := Evio.writeCfg_periodic (time := s.time.time) hw hne (by omega)
    exact ⟨t, hexec, honly, by rw [hpinIs, hin], by rw [hpinIs, herr]⟩
  · obtain ⟨t, w, drive, hexec, honly, hw, hpinIs, _⟩ := hmode 2
    obtain ⟨hin, herr⟩ := Evio.writeCfg_refused (time := s.time.time) hw hne (by omega)
    exact ⟨t, hexec, honly, by rw [hpinIs, hin], by rw [hpinIs, herr]⟩
  · obtain ⟨t, hexec, honly, hpinIs⟩ := hpush l
    exact ⟨t, hexec, honly, hpinIs.trans (Evio.push_queued h1 hroom hdue)⟩
  · obtain ⟨t, hexec, honly, hpinIs⟩ := hpush l
    exact ⟨t, hexec, honly, hpinIs.trans (Evio.push_full h1 hfull)⟩
  · obtain ⟨t, hexec, honly, hpinIs⟩ := hpush l
    exact ⟨t, hexec, honly, hpinIs.trans (Evio.push_ignored hne)⟩
end

/-! ### The statement -/

/-- Settles O48: comparators and pins written by the host and at their instants, captures (whose entry holds CAP_WR + 1, log 45), and
the read counts. -/
theorem timeBlockActs : Obligations.TimeBlockActs := by
  unfold Obligations.TimeBlockActs
  refine ⟨fun s k hk => ⟨fun hp hskip => ?_, fun harm => ?_, fun harm hcount => ?_⟩, fun s p hpin => ?_, fun s => ⟨?_, ?_, ?_, ?_, ?_⟩⟩
  · rw [exec_cmpArm _ hk, State.cmpArm_sets hp hk hskip]
    exact ⟨_, rfl, (State.cmp_setCmp ..).trans (if_pos rfl), fun j hj => (State.cmp_setCmp ..).trans (if_neg hj), rfl⟩
  · rw [exec_cmpFire, State.cmpFire_unarmed harm]
  · obtain ⟨now, hcmp, hevios, hquiet⟩ := State.cmpFire_fires hk harm hcount
    obtain ⟨hfired, hcounted, honce, hagain⟩ := (s.cmp k).fire_fires now
    have hself : (s.cmpFire k).cmp k = (s.cmp k).fire now := (hcmp k).trans (if_pos rfl)
    rw [exec_cmpFire]
    refine ⟨_, rfl, ?_, ?_, ?_, ?_, fun j hj => (hcmp j).trans (if_neg hj), hevios, hquiet⟩
    · rw [hself, hfired]
    · rw [hself, hcounted]
    · rw [hself]
      exact honce
    · rw [hself]
      exact fun hperiod => (hagain hperiod).trans harm
  · exact ⟨fun hp hrole => State.pin_written hp hrole hpin, fun hp w => State.pin_target hp hpin w,
      fun g l r hmode hcount hq => State.pin_entryFires hpin hmode hcount hq,
      fun hmode hcount hold => State.pin_edgeMoves hpin hmode hcount hold⟩
  · intro p rising run q hrun
    rw [exec_evioCapture, State.evioCapture_short hrun]
  · intro p rising run q hpin hrun hlevel hcount
    rw [exec_evioCapture]
    exact ⟨_, rfl, State.evioCapture_enters hpin hrun hlevel hcount⟩
  · intro w hp
    rw [exec_capRdWrite, State.capRdWrite_sets hp]
    exact ⟨fun h => by rw [if_pos h], fun h => by rw [if_neg (not_le.mpr h)]⟩
  · intro r w hr hp
    rw [exec_arxRdWrite _ hr, State.arxRdWrite_sets hp hr]
    refine ⟨fun h => ?_, fun h => by rw [if_neg (not_le.mpr h)]⟩
    rw [if_pos h]
    obtain ⟨hring, hothers, hframe⟩ := s.setRing_ringSet r { s.ring r with arxRd := w }
    exact ⟨_, rfl, hring, hothers, hframe⟩
  · intro w hp hmode
    rw [exec_strRdWrite, State.strRdWrite_sets hp w hmode]
    exact ⟨fun h => by rw [if_pos h], fun h => by rw [if_neg (not_le.mpr h)]⟩

end Sys2Proof.Machine
end

section
/-! PROOFS. The plant port as a 1588 clock: its servo, the delay measurement, its answers, the best leader and what it does at its
own intervals (R313-R316). -/

namespace Sys2Proof.Machine

/-! ### The rows -/

theorem exec_sync (s : State) (m : PtpMsg) : exec (.sync m) s = .next (s.ptpSync m) := rfl
theorem exec_followUp (s : State) (m : PtpMsg) : exec (.followUp m) s = .next (s.ptpFollowUp m) := rfl
theorem exec_delayReq (s : State) (m : PtpMsg) : exec (.delayReq m) s = .next (s.ptpDelayReq m) := rfl
theorem exec_delayResp (s : State) (m : PtpMsg) : exec (.delayResp m) s = .next (s.ptpDelayResp m) := rfl
theorem exec_pdelayReq (s : State) (m : PtpMsg) : exec (.pdelayReq m) s = .next (s.ptpPdelayReq m) := rfl
theorem exec_pdelayResp (s : State) (m : PtpMsg) : exec (.pdelayResp m) s = .next (s.ptpPdelayResp m) := rfl
theorem exec_pdelayRespFollowUp (s : State) (m : PtpMsg) :
    exec (.pdelayRespFollowUp m) s = .next (s.ptpPdelayFollow m) := rfl
theorem exec_announce (s : State) (m : PtpMsg) : exec (.announce m) s = .next (s.ptpAnnounce m) := rfl
theorem exec_ptpDiscardedMessage (s : State) : exec .ptpDiscardedMessage s = .next s.ptpDiscard := rfl
theorem exec_ptpSyncInterval (s : State) : exec .ptpSyncInterval s = .next s.ptpInterval := rfl
theorem exec_delayReqInterval (s : State) : exec .delayReqInterval s = .next s.ptpRequest := rfl
theorem exec_announceReceiptTimeout (s : State) : exec .announceReceiptTimeout s = .next s.ptpSilent := rfl

/-! ### The stamp of a message moves TIME only: the port and its settings are the state's -/

section
variable (s : State) (stamp : U64)

@[simp] theorem State.plant_toStamp : (s.toStamp stamp).plant = s.plant := rfl
@[simp] theorem State.ptpRole_toStamp : (s.toStamp stamp).ptpRole = s.ptpRole := rfl
@[simp] theorem State.ptpPeer_toStamp : (s.toStamp stamp).ptpPeer = s.ptpPeer := rfl
@[simp] theorem State.fromLeader_toStamp (m : PtpMsg) : (s.toStamp stamp).fromLeader m = s.fromLeader m := rfl
@[simp] theorem State.ingressStamp_toStamp (m : PtpMsg) : (s.toStamp stamp).ingressStamp m = s.ingressStamp m := rfl
@[simp] theorem State.ownClock_toStamp : (s.toStamp stamp).ownClock = s.ownClock := rfl
@[simp] theorem State.ownFirst_toStamp : (s.toStamp stamp).ownFirst = s.ownFirst := rfl
end

/-! ### The servo (R315) -/

section
variable {s : State} {t2 t1 : U64} {correction d : Int} (hd : (t2 - t1).toInt - corrNs correction = d)
  (hnear : (d - s.plant.delay).natAbs ≤ (s.cfgW 0xD0104).bits 16 16 * 1000)
include hd hnear

/-- An offset within STEP_LIMIT asks for no step. The first update has no interval before it and changes no rate (log 39). -/
theorem State.useSync_first (hfirst : s.plant.lastUpdate = none) : s.useSync t2 t1 correction = { s with plant := { s.plant with
    t21 := d, offset := satWord (d - s.plant.delay), lastUpdate := some t2, syncs := (s.plant.syncs + 1) % 65536 } } := by
  subst hd
  unfold State.useSync State.servoUpdate
  dsimp only
  rw [hfirst, if_neg (fun hfar => absurd hfar.1 (not_lt.mpr hnear))]
  exact if_pos rfl

/-- A later update within STEP_LIMIT sets the rate from the interval since the update before. -/
theorem State.useSync_later {last : U64} (hlast : s.plant.lastUpdate = some last) (hne : last ≠ t2) {r : Int × Int × Bool}
    (hrates : servoRates s.plant.rateI (d - s.plant.delay) (t2 - last).toNat ((s.cfgW 0xD0104).bits 0 4)
      ((s.cfgW 0xD0104).bits 8 4) = r) :
    s.useSync t2 t1 correction = { s with
      plant := { s.plant with t21 := d, offset := satWord (d - s.plant.delay), lastUpdate := some t2
                              syncs := (s.plant.syncs + 1) % 65536, rateI := r.1 }
      time := { s.time with rate := r.2.1, slew := r.2.2, stepWait := false } } := by
  subst hd hrates
  have htau : (t2 - last).toNat ≠ 0 := by bv_omega
  have hwait : (s.time.stepWait && !decide (((t2 - t1).toInt - corrNs correction - s.plant.delay).natAbs ≤
      (s.cfgW 0xD0104).bits 16 16 * 1000)) = false := by rw [decide_eq_true hnear, Bool.not_true, Bool.and_false]
  unfold State.useSync State.servoUpdate
  dsimp only
  rw [hlast, if_neg (fun hfar => absurd hfar.1 (not_lt.mpr hnear)), ← hwait]
  exact if_neg htau
end

/-! ### Messages that the port takes (R313-R315) -/

section
variable {s : State} {m : PtpMsg}

theorem State.ptpTakes_stamped (hactive : (s.toStamp m.ingress).ptpActive = true) (hdomain : m.domain = s.ptpDomain) :
    (s.toStamp m.ingress).ptpTakes m = true := by
  unfold State.ptpTakes
  rw [hactive, hdomain]
  exact beq_self_eq_true s.ptpDomain

/-- Only a port that follows a leader, or one that may begin to, uses a Sync. -/
theorem State.ptpSync_ignored (h9 : s.plant.portState ≠ 9) (h4 : s.plant.portState ≠ 4) :
    s.ptpSync m = s.toStamp m.ingress := by
  simp [State.ptpSync, h9, h4]

theorem State.ptpFollowUp_unawaited (hwait : s.plant.twoStep = none) : s.ptpFollowUp m = s.toStamp m.ingress := by
  simp [State.ptpFollowUp, hwait]

theorem State.ptpAnnounce_ignored (hrole : s.ptpRole < 2) : s.ptpAnnounce m = s.toStamp m.ingress := by
  simp [State.ptpAnnounce, hrole]

section
variable (htakes : (s.toStamp m.ingress).ptpTakes m = true)
include htakes

/-! ### Sync and Follow_Up of the leader (R315) -/

/-- A Sync of a two-step leader waits for its Follow_Up with the instant of its ingress. -/
theorem State.ptpSync_waits (hport : s.plant.portState = 9) (hleader : s.fromLeader m = true) (htwo : m.twoStep = true) :
    s.ptpSync m = { s.toStamp m.ingress with plant := { s.plant with
      twoStep := some (m.seq, s.ingressStamp m - BitVec.ofInt 64 (corrNs m.correction)) } } := by
  simp [State.ptpSync, htakes, hport, hleader, htwo]

theorem State.ptpSync_used (hport : s.plant.portState = 9) (hleader : s.fromLeader m = true) (htwo : m.twoStep = false) :
    s.ptpSync m = ({ s.toStamp m.ingress with plant := { s.plant with twoStep := none } } : State).useSync
      (s.ingressStamp m) m.stamp m.correction := by
  simp [State.ptpSync, htakes, hport, hleader, htwo]

theorem State.ptpFollowUp_used {at2 : U64} (hport : s.plant.portState = 9) (hleader : s.fromLeader m = true)
    (hwait : s.plant.twoStep = some (m.seq, at2)) :
    s.ptpFollowUp m = ({ s.toStamp m.ingress with plant := { s.plant with twoStep := none } } : State).useSync at2 m.stamp
      m.correction := by
  simp [State.ptpFollowUp, htakes, hport, hleader, hwait]

/-! ### The delay exchanges (R313, R314) -/

theorem State.ptpDelayReq_answered (hport : s.plant.portState = 6) (hpeer : s.ptpPeer = false) :
    s.ptpDelayReq m = (s.toStamp m.ingress).sendPtp
      ((s.toStamp m.ingress).ptpMessage 9 m.seq (s.ingressStamp m) m.correction m.identity) := by
  simp [State.ptpDelayReq, htakes, hport, hpeer]

theorem State.ptpDelayResp_used {t3 : U64} (hport : s.plant.portState = 9) (hpeer : s.ptpPeer = false)
    (hreq : s.plant.delayReq = some (m.seq, t3)) :
    s.ptpDelayResp m = { s.toStamp m.ingress with plant := { s.plant with
      delayReq := none, delay := divRound (s.plant.t21 + ((m.stamp - t3).toInt - corrNs m.correction)) 2 } } := by
  simp [State.ptpDelayResp, htakes, hport, hpeer, hreq]

section
variable (hpeer : s.ptpPeer = true)
include hpeer

theorem State.ptpPdelayReq_answered :
    let u := s.toStamp m.ingress
    s.ptpPdelayReq m = u.sendPtp
      (u.ptpMessage 3 m.seq 0 (m.correction + (u.egressStamp - s.ingressStamp m).toInt * 65536) m.identity) := by
  simp [State.ptpPdelayReq, htakes, hpeer]

variable {t1 : U64} (hreq : s.plant.pdelayReq = some (m.seq, t1))
include hreq

theorem State.ptpPdelayResp_used (htwo : m.twoStep = false) :
    s.ptpPdelayResp m = { s.toStamp m.ingress with plant := { s.plant with
      pdelayReq := none, delay := divRound ((s.ingressStamp m - t1).toInt - corrNs m.correction) 2 } } := by
  simp [State.ptpPdelayResp, htakes, hpeer, hreq, htwo]

theorem State.ptpPdelayResp_waits (htwo : m.twoStep = true) :
    s.ptpPdelayResp m = { s.toStamp m.ingress with plant := { s.plant with
      pdelayResp := some (m.seq, m.stamp - BitVec.ofInt 64 (corrNs m.correction), s.ingressStamp m) } } := by
  simp [State.ptpPdelayResp, htakes, hpeer, hreq, htwo]

theorem State.ptpPdelayFollow_used {b c : U64} (hresp : s.plant.pdelayResp = some (m.seq, b, c)) :
    s.ptpPdelayFollow m = { s.toStamp m.ingress with plant := { s.plant with
      pdelayReq := none, pdelayResp := none
      delay := divRound ((c - t1).toInt - (m.stamp - b).toInt - corrNs m.correction) 2 } } := by
  simp [State.ptpPdelayFollow, htakes, hpeer, hreq, hresp]
end

/-! ### The first leader heard (R313) -/

variable (hforeign : s.plant.foreign = none)
include hforeign

/-- A follower follows the first leader that it hears. -/
theorem State.ptpAnnounce_follows (hrole : s.ptpRole = 2) :
    s.ptpAnnounce m = { s.toStamp m.ingress with plant := { s.plant with
      foreign := some (m.priority1, m.quality, m.priority2, m.identity), portState := 9
      lastUpdate := if s.plant.portState = 9 then s.plant.lastUpdate else none } } := by
  simp [State.ptpAnnounce, htakes, hrole, hforeign]

/-- Under the best-master algorithm the part leads where its own clock is the better one, and beside a better one follows it, or is
PASSIVE where its own clockClass is one of 1-127 (log 39). -/
theorem State.ptpAnnounce_bestMaster (hrole : s.ptpRole = 3) :
    let x := (m.priority1, m.quality, m.priority2, m.identity)
    ∃ q : Plant, s.ptpAnnounce m = { s.toStamp m.ingress with plant := q } ∧ q.foreign = some x ∧
      q.portState = if betterClock x s.ownClock then (if s.ownFirst then 7 else 9) else 6 := by
  intro x
  refine ⟨_, if_neg (by simp [htakes, hrole]), ?_, ?_⟩
  · simp [hforeign, x]
  · simp only [State.plant_toStamp, hforeign, State.ptpRole_toStamp, hrole, State.ownClock_toStamp, State.ownFirst_toStamp]
    cases betterClock x s.ownClock with
    | false => rfl
    | true => cases s.ownFirst <;> rfl
end
end

/-! ### The port's own intervals (R313, R314, R316) -/

section
variable {s : State}

/-- A port that is not active does nothing at its intervals. -/
theorem State.exec_intervals_inactive (hoff : s.ptpActive = false) :
    ∀ c ∈ [Instr.ptpDiscardedMessage, .ptpSyncInterval, .delayReqInterval, .announceReceiptTimeout], exec c s = .next s := by
  simp [exec_ptpDiscardedMessage, exec_ptpSyncInterval, exec_delayReqInterval, exec_announceReceiptTimeout, State.ptpDiscard,
    State.ptpInterval, State.ptpRequest, State.ptpSilent, hoff]

theorem State.ptpInterval_idle (hport : s.plant.portState ≠ 6) : s.ptpInterval = s := by
  simp [State.ptpInterval, hport]

theorem State.ptpRequest_idle (hpeer : s.ptpPeer = false) (hport : s.plant.portState ≠ 9) : s.ptpRequest = s := by
  simp [State.ptpRequest, hpeer, hport]

theorem State.ptpSilent_idle (hrole : s.ptpRole < 2) : s.ptpSilent = s := by
  simp [State.ptpSilent, hrole]

variable (hactive : s.ptpActive = true)
include hactive

theorem State.ptpDiscard_counts : s.ptpDiscard = { s with plant := { s.plant with discards := s.plant.discards + 1 } } :=
  if_pos hactive

/-- A leader's Sync and its Announce carry one sequence number. -/
theorem State.ptpInterval_leads (hport : s.plant.portState = 6) :
    let sync := s.ptpMessage 0 s.plant.seq s.egressStamp (s.time.frac.toNat / 65536 : Nat) 0
    let announce := s.ptpMessage 11 s.plant.seq 0 0 0
    s.ptpInterval = { s with plant := { s.plant with
      sent := (announce :: ((sync :: s.plant.sent).take 16)).take 16
      seq := (s.plant.seq + 1) % 65536, syncs := (s.plant.syncs + 1) % 65536 } } := by
  intro sync announce
  unfold State.ptpInterval
  rw [if_neg (by simp [hactive, hport])]
  rfl

theorem State.ptpRequest_peer (hpeer : s.ptpPeer = true) :
    s.ptpRequest = { s with plant := { s.plant with
      seq := (s.plant.seq + 1) % 65536, pdelayReq := some (s.plant.seq, s.egressStamp), pdelayResp := none
      sent := (s.ptpMessage 2 s.plant.seq 0 0 0 :: s.plant.sent).take 16 } } := by
  unfold State.ptpRequest
  dsimp only
  rw [if_neg (by simp [hactive]), if_pos hpeer]
  rfl

theorem State.ptpRequest_follower (hpeer : s.ptpPeer = false) (hport : s.plant.portState = 9) :
    s.ptpRequest = { s with plant := { s.plant with
      seq := (s.plant.seq + 1) % 65536, delayReq := some (s.plant.seq, s.egressStamp)
      sent := (s.ptpMessage 1 s.plant.seq s.egressStamp (s.time.frac.toNat / 65536 : Nat) 0 :: s.plant.sent).take 16 } } := by
  unfold State.ptpRequest
  dsimp only
  rw [if_neg (by simp [hactive]), if_neg (by simp [hpeer]), if_pos hport]
  rfl

theorem State.ptpSilent_forgets (hrole : 2 ≤ s.ptpRole) :
    s.ptpSilent = { s with plant := { s.plant with foreign := none, twoStep := none, lastUpdate := none
                                                   portState := if s.ptpRole = 3 then 6 else 4 } } :=
  if_neg (by rw [hactive, decide_eq_false (not_lt.mpr hrole)]; decide)
end

/-! ### The statement -/

/-- Settles O60, message by message and interval by interval. The first update sets the reference alone, a clock of class 1 to 127 is
PASSIVE beside a better one, and clockIdentity is the EUI-64 of the MAC address (log 39); `sent` keeps the latest 16 messages
(log 81). -/
theorem thePlantPort : Obligations.ThePlantPort := by
  unfold Obligations.ThePlantPort
  refine ⟨fun s m => ?_, fun s => ?_⟩
  · intro u p t2 only answers hactive hdomain
    have htakes : (s.toStamp m.ingress).ptpTakes m = true := State.ptpTakes_stamped hactive hdomain
    refine ⟨fun hport hleader htwo => ?_, fun hport hleader htwo hfirst hnear => ?_,
      fun last hport hleader htwo hlast hne hnear => ?_, fun h9 h4 => ?_, fun at2 hport hleader hwait hfirst hnear => ?_,
      fun hwait => ?_, fun hport hpeer => ?_, fun t3 hport hpeer hreq => ?_,
      fun hpeer => ⟨?_, fun t1 hreq => ⟨fun htwo => ?_, fun htwo => ?_, fun b c hresp => ?_⟩⟩,
      fun hrole hforeign => ?_, fun hrole hforeign => ?_, fun hrole => ?_⟩
    · exact ⟨_, exec_sync s m, State.ptpSync_waits htakes hport hleader htwo⟩
    · have hsync := (State.ptpSync_used htakes hport hleader htwo).trans (State.useSync_first rfl hnear hfirst)
      exact ⟨_, exec_sync s m, hsync⟩
    · have hsync := (State.ptpSync_used htakes hport hleader htwo).trans
        (State.useSync_later (s := { u with plant := { p with twoStep := none } }) rfl hnear hlast hne rfl)
      refine ⟨_, exec_sync s m, ?_⟩
      rw [hsync]
      exact ⟨rfl, rfl, rfl⟩
    · exact ⟨_, exec_sync s m, State.ptpSync_ignored h9 h4⟩
    · have hfollow := (State.ptpFollowUp_used htakes hport hleader hwait).trans (State.useSync_first rfl hnear hfirst)
      exact ⟨_, exec_followUp s m, hfollow⟩
    · exact ⟨_, exec_followUp s m, State.ptpFollowUp_unawaited hwait⟩
    · exact ⟨_, exec_delayReq s m, _, State.ptpDelayReq_answered htakes hport hpeer,
        rfl, rfl, rfl, rfl, rfl, rfl, hdomain.symm, rfl⟩
    · exact ⟨_, exec_delayResp s m, State.ptpDelayResp_used htakes hport hpeer hreq⟩
    · exact ⟨_, exec_pdelayReq s m, _, State.ptpPdelayReq_answered htakes hpeer,
        rfl, rfl, rfl, rfl, rfl, rfl, hdomain.symm, rfl⟩
    · exact ⟨_, exec_pdelayResp s m, State.ptpPdelayResp_used htakes hpeer hreq htwo⟩
    · exact ⟨_, exec_pdelayResp s m, State.ptpPdelayResp_waits htakes hpeer hreq htwo⟩
    · exact ⟨_, exec_pdelayRespFollowUp s m, State.ptpPdelayFollow_used htakes hpeer hreq hresp⟩
    · exact ⟨_, exec_announce s m, State.ptpAnnounce_follows htakes hforeign hrole⟩
    · obtain ⟨q, hannounce, hbest, hport⟩ := State.ptpAnnounce_bestMaster htakes hforeign hrole
      refine ⟨_, exec_announce s m, ?_⟩
      rw [hannounce]
      refine ⟨hbest, fun hbetter => ?_, fun hbetter hfirst => ?_, fun hbetter hfirst => ?_, rfl⟩
      · exact hport.trans (if_neg (by rw [hbetter]; decide))
      · exact hport.trans ((if_pos hbetter).trans (if_pos (decide_eq_true hfirst)))
      · exact hport.trans ((if_pos hbetter).trans (if_neg (mt of_decide_eq_true hfirst)))
    · exact ⟨_, exec_announce s m, State.ptpAnnounce_ignored hrole⟩
  · intro p egress frac only isMsg
    refine ⟨State.exec_intervals_inactive, fun hactive => ⟨?_, fun hport => ?_, fun hport => ?_, fun hpeer => ?_,
      fun hpeer hport => ?_, fun hpeer hport => ?_, fun hrole => ?_, fun hrole => ?_⟩⟩
    · exact ⟨_, exec_ptpDiscardedMessage s, State.ptpDiscard_counts hactive⟩
    · exact ⟨_, _, _, exec_ptpSyncInterval s, ⟨rfl, rfl, rfl, rfl, rfl, rfl, rfl, rfl, rfl⟩,
        ⟨rfl, rfl, rfl, rfl, rfl, rfl, rfl, rfl, rfl⟩, rfl, State.ptpInterval_leads hactive hport⟩
    · rw [exec_ptpSyncInterval, State.ptpInterval_idle hport]
    · exact ⟨_, _, exec_delayReqInterval s, ⟨rfl, rfl, rfl, rfl, rfl, rfl, rfl, rfl, rfl⟩, State.ptpRequest_peer hactive hpeer⟩
    · exact ⟨_, _, exec_delayReqInterval s, ⟨rfl, rfl, rfl, rfl, rfl, rfl, rfl, rfl, rfl⟩,
        State.ptpRequest_follower hactive hpeer hport⟩
    · rw [exec_delayReqInterval, State.ptpRequest_idle hpeer hport]
    · exact ⟨_, exec_announceReceiptTimeout s, State.ptpSilent_forgets hactive hrole⟩
    · rw [exec_announceReceiptTimeout, State.ptpSilent_idle hrole]

end Sys2Proof.Machine
end

section
/-! PROOFS. The timeouts and limits of trigger units and privileged channels: TRIGGER_TIMEOUT, POST_REACHED, PRE_VALID and
MASK_LOAD_COMPLETE (R331, R334, R341, R342, R347, R349-R351). -/

namespace Sys2Proof.Machine

theorem exec_triggerTimeout (s : State) (u : Nat) : exec (.triggerTimeout u) s = .next (s.triggerTimeout u) := rfl
theorem exec_postReached (s : State) (b : Nat) : exec (.postReached b) s = .next (s.postReached b) := rfl
theorem exec_preValid (s : State) (b : Nat) : exec (.preValid b) s = .next (s.preValid b) := rfl
theorem exec_maskLoadComplete (s : State) (b : Nat) : exec (.maskLoadComplete b) s = .next (s.maskLoaded b) := rfl

/-! ### The samples of the FAST channels up to the present (R340-R342) -/

/-- Nothing but memory and its marks has changed. -/
def State.Stores (s t : State) : Prop := ∃ mem bad badSeen wrong,
  t = { s with mem := mem, bad := bad, badSeen := badSeen, wrong := wrong }

theorem State.Stores.refl (s : State) : s.Stores s := ⟨s.mem, s.bad, s.badSeen, s.wrong, rfl⟩

theorem State.Stores.trans {a b c : State} (h : a.Stores b) (g : b.Stores c) : a.Stores c := by
  obtain ⟨_, _, _, _, rfl⟩ := h
  obtain ⟨mem, bad, badSeen, wrong, rfl⟩ := g
  exact ⟨mem, bad, badSeen, wrong, rfl⟩

theorem State.putSample_stores (s : State) (b : Nat) (c : PrivCfg) (w v : Nat) : s.Stores (s.putSample b c w v) := by
  unfold State.putSample
  dsimp only
  split
  · exact ⟨_, _, _, _, rfl⟩
  · exact ⟨_, _, _, _, rfl⟩
  · exact ⟨_, _, _, _, rfl⟩

/-- A channel either takes no sample, or its samples are stored and its books brought up to them. -/
theorem State.fillFast_cases (s : State) (b : Nat) :
    s.fillFast b = s ∨ ∃ u x, s.Stores u ∧ s.fillFast b = u.setPriv b x := by
  unfold State.fillFast
  dsimp only
  split
  · exact .inl rfl
  · exact .inr ⟨_, _, List.foldlRecOn (motive := s.Stores) _ _ (.refl s) fun t ht j _ => ht.trans (t.putSample_stores ..), rfl⟩

/-- Nothing but memory, its marks and the privileged channels has changed. -/
def State.Fills (s t : State) : Prop := ∃ mem bad badSeen wrong privs,
  t = { s with mem := mem, bad := bad, badSeen := badSeen, wrong := wrong, acq := { s.acq with privs := privs } }

theorem State.Fills.refl (s : State) : s.Fills s := ⟨s.mem, s.bad, s.badSeen, s.wrong, s.acq.privs, rfl⟩

theorem State.Fills.trans {a b c : State} (h : a.Fills b) (g : b.Fills c) : a.Fills c := by
  obtain ⟨_, _, _, _, _, rfl⟩ := h
  obtain ⟨mem, bad, badSeen, wrong, privs, rfl⟩ := g
  exact ⟨mem, bad, badSeen, wrong, privs, rfl⟩

theorem State.setPriv_fills (s : State) (b : Nat) (x : Priv) : s.Fills (s.setPriv b x) := ⟨_, _, _, _, _, rfl⟩

theorem State.fillFast_fills (s : State) (b : Nat) : s.Fills (s.fillFast b) := by
  rcases s.fillFast_cases b with h | ⟨u, x, ⟨mem, bad, badSeen, wrong, rfl⟩, h⟩
  · rw [h]
    exact .refl s
  · rw [h]
    exact ⟨mem, bad, badSeen, wrong, _, rfl⟩

theorem State.fillAll_fills (s : State) : s.Fills s.fillAll :=
  List.foldlRecOn (motive := s.Fills) _ _ (.refl s) fun t ht b _ => ht.trans (t.fillFast_fills b)

theorem State.priv_fillFast_other (s : State) {b j : Nat} (hj : j ≠ b) : (s.fillFast b).priv j = s.priv j := by
  rcases s.fillFast_cases b with h | ⟨u, x, ⟨mem, bad, badSeen, wrong, rfl⟩, h⟩
  · rw [h]
  · rw [h, State.priv_setPriv, if_neg hj]
    rfl

section
variable {s t : State} (h : s.Fills t)
include h

theorem State.Fills.memoryFrom : { t.memoryFrom s with acq := s.acq } = s := by
  obtain ⟨_, _, _, _, _, rfl⟩ := h
  rfl

theorem State.Fills.memoryFrom_acquires {v : State} (g : t.Acquires v) :
    { v.memoryFrom s with acq := s.acq, time := s.time } = s := by
  obtain ⟨_, _, _, _, _, rfl⟩ := h
  obtain ⟨_, rfl⟩ := g
  rfl

theorem State.Fills.trgs : t.acq.trgs = s.acq.trgs := by
  obtain ⟨_, _, _, _, _, rfl⟩ := h
  rfl

theorem State.Fills.regs : t.regs = s.regs := by
  obtain ⟨_, _, _, _, _, rfl⟩ := h
  rfl

theorem State.Fills.time : t.time = s.time := by
  obtain ⟨_, _, _, _, _, rfl⟩ := h
  rfl

theorem State.Fills.privCfg (b : Nat) : t.privCfg b = s.privCfg b := by
  obtain ⟨_, _, _, _, _, rfl⟩ := h
  rfl
end

/-- A channel brought up to the present, and then given new books. -/
theorem State.fillFast_setPriv (s : State) (b : Nat) (x : Priv) : ((s.fillFast b).setPriv b x).priv b = x ∧
    (∀ j, j ≠ b → ((s.fillFast b).setPriv b x).priv j = s.priv j) ∧
    { ((s.fillFast b).setPriv b x).memoryFrom s with acq := s.acq } = s := by
  refine ⟨(State.priv_setPriv ..).trans (if_pos rfl), fun j hj => ?_, ?_⟩
  · rw [State.priv_setPriv, if_neg hj, s.priv_fillFast_other hj]
  · exact ((s.fillFast_fills b).trans (State.setPriv_fills ..)).memoryFrom

/-! ### POST_REACHED and PRE_VALID (R341, R342) -/

section
variable {s : State} {b : Nat} (hb : b < 4)
include hb

theorem State.postReached_stops (hst : ((s.fillFast b).priv b).st = .triggered)
    (hpost : (s.privCfg b).post ≤ ((s.fillFast b).priv b).postHeld) : s.postReached b =
      (s.fillFast b).setPriv b (((s.fillFast b).priv b).halt 1 (s.privCfg b).pre (s.privCfg b).len) := by
  unfold State.postReached
  dsimp only
  rw [if_neg (by omega), (s.fillFast_fills b).privCfg b, if_pos ⟨hst, hpost⟩]

theorem State.postReached_early (hpost : ((s.fillFast b).priv b).postHeld < (s.privCfg b).post) : s.postReached b = s := by
  unfold State.postReached
  dsimp only
  rw [if_neg (by omega), (s.fillFast_fills b).privCfg b, if_neg fun h => by omega]

theorem State.preValid_holds (hst : ((s.fillFast b).priv b).st = .armed ∨ ((s.fillFast b).priv b).st = .triggered)
    (hpre : (s.privCfg b).pre ≤ ((s.fillFast b).priv b).held) : s.preValid b =
      (s.fillFast b).setPriv b { (s.fillFast b).priv b with preValid := true } := by
  unfold State.preValid
  dsimp only
  rw [if_neg (by omega), (s.fillFast_fills b).privCfg b, if_pos ⟨hst, hpre⟩]
end

/-! ### What a firing changes beside its unit (R334, R342, R347, R349, R350) -/

/-- The units, memory, the registers and the instances are as they were; where every word decodes, nothing outside acquisition has
changed. -/
structure State.KeepsUnits (s t : State) : Prop where
  trgs : t.acq.trgs = s.acq.trgs
  mem : t.mem = s.mem
  bad : t.bad = s.bad
  regs : t.regs = s.regs
  axes : t.axes = s.axes
  decodes : s.bad = [] → { t with acq := s.acq } = s

theorem State.KeepsUnits.refl (s : State) : s.KeepsUnits s := ⟨rfl, rfl, rfl, rfl, rfl, fun _ => rfl⟩

theorem State.KeepsUnits.trans {a b c : State} (h : a.KeepsUnits b) (g : b.KeepsUnits c) : a.KeepsUnits c where
  trgs := g.trgs.trans h.trgs
  mem := g.mem.trans h.mem
  bad := g.bad.trans h.bad
  regs := g.regs.trans h.regs
  axes := g.axes.trans h.axes
  decodes ha := (congrArg (fun z : State => { z with acq := a.acq }) (g.decodes (h.bad.trans ha)) :).trans (h.decodes ha)

theorem State.KeepsUnits.trg {s t : State} (h : s.KeepsUnits t) (u : Nat) : t.trg u = s.trg u := by
  rw [State.trg, h.trgs, State.trg]

/-- What keeps the units after acquisition has changed. -/
theorem State.Acquires.thenKeeps {s a b : State} (h : s.Acquires a) (g : a.KeepsUnits b) : b.mem = s.mem ∧ b.regs = s.regs ∧
    b.axes = s.axes ∧ (s.bad = [] → { b with acq := s.acq } = s) := by
  obtain ⟨_, rfl⟩ := h
  exact ⟨g.mem, g.regs, g.axes, fun hbad => (congrArg (fun z : State => { z with acq := s.acq }) (g.decodes hbad) :)⟩

theorem State.foldl_keepsUnits {α : Type} (f : State → α → State) (hf : ∀ (s : State) x, s.KeepsUnits (f s x)) (l : List α)
    (s : State) : s.KeepsUnits (l.foldl f s) :=
  List.foldlRecOn (motive := s.KeepsUnits) l f (.refl s) fun t ht x _ => ht.trans (hf t x)

theorem State.ite_keepsUnits {p : Prop} [Decidable p] {s a b : State} (ha : p → s.KeepsUnits a) (hb : s.KeepsUnits b) :
    s.KeepsUnits (if p then a else b) := by
  split
  next hp => exact ha hp
  · exact hb

theorem State.setPriv_keepsUnits (s : State) (b : Nat) (x : Priv) : s.KeepsUnits (s.setPriv b x) :=
  ⟨rfl, rfl, rfl, rfl, rfl, fun _ => rfl⟩

theorem State.triggerPriv_keepsUnits (s : State) (b : Nat) (t : U64) (n : Word) (sub : Nat) :
    s.KeepsUnits (s.triggerPriv b t n sub) := by
  unfold State.triggerPriv
  dsimp only
  split
  · exact .refl s
  · split
    · exact s.setPriv_keepsUnits ..
    · split
      · exact s.setPriv_keepsUnits ..
      · exact s.setPriv_keepsUnits ..

theorem State.anchorMask_keepsUnits (s : State) (b : Nat) (n : Word) : s.KeepsUnits (s.anchorMask b n) := by
  unfold State.anchorMask
  dsimp only
  split
  · exact s.setPriv_keepsUnits ..
  · exact .refl s

/-- A firing is entered into its unit, and what it triggers keeps the units. -/
theorem State.fireUnit_keepsUnits (s : State) (u : Nat) (t : U64) (n : Word) (sub : Nat) :
    (s.setTrg u ((s.trg u).fire ((s.trgCfg u).mark && s.tt.tier == 0) t)).KeepsUnits (s.fireUnit u t n sub) := by
  refine State.foldl_keepsUnits _ (fun v b => ?_) _ _
  dsimp only
  have htrigger : v.KeepsUnits (if (v.privCfg b).trg = u then v.triggerPriv b t n sub else v) :=
    State.ite_keepsUnits (fun _ => v.triggerPriv_keepsUnits ..) (.refl v)
  exact State.ite_keepsUnits (fun _ => htrigger.trans (State.anchorMask_keepsUnits ..)) htrigger

/-- A mask point that does not decode is a fault of the acquisition port, and no other word raises one (R347, R349). -/
theorem State.unitFault_keepsUnits {s t : State} (h : s.KeepsUnits t) {a : Nat} (hbad : s.undecodable a = true) :
    s.KeepsUnits (t.unitFault 1 0x6000) := by
  obtain ⟨du, dw, dm, faults, host, store, hfault⟩ := t.unitFault_contained 1 (identity := 0x6000) (by decide)
  rw [hfault]
  refine ⟨h.trgs, h.mem, h.bad, h.regs, h.axes, fun hnil => ?_⟩
  rw [State.undecodable, hnil] at hbad
  exact absurd hbad Bool.false_ne_true

theorem State.maskPoint_keepsUnits (s : State) (b : Nat) (c : PrivCfg) (n : Word) (start : U64) (w : Word) (stale : Bool) :
    s.KeepsUnits (s.maskPoint b c n start w stale) := by
  unfold State.maskPoint
  dsimp only
  split
  · exact .refl s
  next a _ =>
    have hend (x : Priv) : s.KeepsUnits (if c.maskN ≤ (s.priv b).written - 1 - a + 1 then s.setPriv b x else s) :=
      State.ite_keepsUnits (fun _ => s.setPriv_keepsUnits ..) (.refl s)
    have hcount (x y : Priv) := (hend x).trans (State.setPriv_keepsUnits _ b y)
    refine State.ite_keepsUnits (fun _ => .refl s) (State.ite_keepsUnits (fun _ => hend _)
      (State.ite_keepsUnits (fun hbad => State.unitFault_keepsUnits (hend _) hbad) (State.ite_keepsUnits (fun _ => hend _)
        (State.ite_keepsUnits (fun _ => ?_) (State.ite_keepsUnits (fun _ => ?_) ?_)))))
    · exact (hcount _ _).trans (State.triggerPriv_keepsUnits ..)
    · exact (hcount _ _).trans (State.setPriv_keepsUnits ..)
    · exact hcount _ _

theorem State.lateMask_keepsUnits (s : State) (u b : Nat) (n : Word) (start : U64) : s.KeepsUnits (s.lateMask u b n start) := by
  unfold State.lateMask
  dsimp only
  split
  · exact s.maskPoint_keepsUnits ..
  · exact .refl s

/-! ### TRIGGER_TIMEOUT (R331, R334) -/

/-- A stay of unit `u` has timed out once and fired; the other units are as they were. -/
structure State.TimedOut (s t : State) (u : Nat) : Prop where
  timedOut : (t.trg u).timedOut = true
  fired : (t.trg u).fired = true
  count : (t.trg u).count = (s.trg u).count + 1
  others : ∀ w, w ≠ u → t.trg w = s.trg w

/-- Unit `u` with its stay timed out. -/
def State.stayOut (s : State) (u : Nat) : State := s.setTrg u { s.trg u with timedOut := true }

theorem State.fireUnit_timedOut (s : State) (u : Nat) (t : U64) (n : Word) (sub : Nat) :
    s.TimedOut ((s.stayOut u).fireUnit u t n sub) u := by
  have hstay (w : Nat) : (s.stayOut u).trg w = if w = u then { s.trg u with timedOut := true } else s.trg w := State.trg_setTrg ..
  obtain ⟨mark, htrg⟩ : ∃ mark, ∀ w, ((s.stayOut u).fireUnit u t n sub).trg w =
      if w = u then ((s.stayOut u).trg u).fire mark t else (s.stayOut u).trg w :=
    ⟨_, fun w => (((s.stayOut u).fireUnit_keepsUnits u t n sub).trg w).trans (State.trg_setTrg ..)⟩
  have hu := htrg u
  rw [if_pos rfl, hstay, if_pos rfl] at hu
  refine ⟨congrArg Trg.timedOut hu, congrArg Trg.fired hu, congrArg Trg.count hu, fun w hw => ?_⟩
  rw [htrg, if_neg hw, hstay, if_neg hw]

theorem State.TimedOut.keep {s t v : State} {u : Nat} (h : s.TimedOut t u) (g : t.KeepsUnits v) : s.TimedOut v u := by
  have hu := g.trg u
  exact ⟨(congrArg Trg.timedOut hu).trans h.timedOut, (congrArg Trg.fired hu).trans h.fired,
    (congrArg Trg.count hu).trans h.count, fun w hw => (g.trg w).trans (h.others w hw)⟩

theorem State.TimedOut.of_trgs {s x t : State} {u : Nat} (h : x.TimedOut t u) (hx : x.acq.trgs = s.acq.trgs) : s.TimedOut t u := by
  have htrg (w : Nat) : x.trg w = s.trg w := by rw [State.trg, hx, State.trg]
  exact ⟨h.timedOut, h.fired, by rw [h.count, htrg], fun w hw => (h.others w hw).trans (htrg w)⟩

theorem State.fireNow_eq (s : State) (u : Nat) (t : U64) : ∃ n sub, s.fireNow u t = s.fireUnit u t n sub := by
  unfold State.fireNow
  dsimp only
  split
  · exact ⟨_, _, rfl⟩
  · exact ⟨_, _, rfl⟩

/-- A unit that waits for no timeout: not of the kind TIMEOUT, timed out already, or without a transition. -/
theorem State.triggerTimeout_idle {s : State} {u : Nat}
    (h : 16 ≤ u ∨ (s.trgCfg u).kind ≠ 3 ∨ (s.trg u).timedOut = true ∨ (s.trg u).trans = none) : s.triggerTimeout u = s := by
  unfold State.triggerTimeout
  dsimp only
  have hnone (p : Prop) [Decidable p] : (if 16 ≤ u ∨ (s.trgCfg u).kind ≠ 3 ∨ (s.trg u).timedOut = true ∨ p then none
      else (s.trg u).trans) = none := by
    split
    · rfl
    next hno =>
      rcases h with h | h | h | h
      · exact absurd (.inl h) hno
      · exact absurd (.inr (.inl h)) hno
      · exact absurd (.inr (.inr (.inl h))) hno
      · exact h
  rw [hnone]

section
variable {s : State} {u p : Nat} (hu : u < 16) (hkind : (s.trgCfg u).kind = 3) (htimed : (s.trg u).timedOut = false)
  (hstay : (s.trgCfg u).dir = 2 ∨ ((s.trgCfg u).dir = 0 ↔ (s.trg u).cond = true)) (htrans : (s.trg u).trans = some p)
include hu hkind htimed hstay htrans

/-- The condition of a TIMEOUT unit has stayed since the transition at `p`. -/
theorem State.stay_since : (if 16 ≤ u ∨ (s.trgCfg u).kind ≠ 3 ∨ (s.trg u).timedOut = true ∨
    (!((s.trgCfg u).dir == 2 || ((s.trgCfg u).dir == 0) == (s.trg u).cond)) = true then none else (s.trg u).trans) = some p := by
  have hstays : ((s.trgCfg u).dir == 2 || ((s.trgCfg u).dir == 0) == (s.trg u).cond) = true := by
    rcases hstay with h | h
    · rw [h]
      rfl
    · rw [show ((s.trgCfg u).dir == 0) = (s.trg u).cond from Bool.eq_iff_iff.mpr (beq_iff_eq.trans h), beq_self_eq_true,
        Bool.or_true]
  rw [hkind, htimed, hstays, if_neg, htrans]
  rintro (h | h | h | h)
  · omega
  · exact h rfl
  · exact Bool.false_ne_true h
  · exact Bool.false_ne_true h

section
variable {v : Word} {idx : Nat} {start : U64} (hsrc : (s.trgCfg u).srcKind = 0) (hprev : (s.trg u).prev = some (v, idx, start))
include hsrc hprev

/-- A numeric unit whose latest sample lies before the end of the time. -/
theorem State.triggerTimeout_early (h : idx * 256 < p + (s.trgCfg u).w1) : s.triggerTimeout u = s := by
  unfold State.triggerTimeout
  dsimp only
  rw [State.stay_since hu hkind htimed hstay htrans]
  dsimp only
  rw [if_pos hsrc, hprev]
  exact if_pos h

/-- A numeric unit whose latest sample lies at or after the end of the time fires; masks anchored by it take their point. -/
theorem State.triggerTimeout_numeric (h : p + (s.trgCfg u).w1 ≤ idx * 256) : ∃ t n m sub, s.triggerTimeout u =
    (List.range 4).foldl (fun s b => s.lateMask u b n start) ((s.stayOut u).fireUnit u t m sub) := by
  unfold State.triggerTimeout
  dsimp only
  rw [State.stay_since hu hkind htimed hstay htrans]
  dsimp only
  rw [if_pos hsrc]
  split
  next hnone => exact absurd (hprev.symm.trans hnone) (Option.some_ne_none _)
  next heq =>
    obtain ⟨-, rfl, rfl⟩ : v = _ ∧ idx = _ ∧ start = _ := by simpa using hprev.symm.trans heq
    rw [if_neg (by omega)]
    exact ⟨_, _, _, _, rfl⟩
end
end

/-! ### The timeout of an EVIO unit (R331, R332) -/

/-- Where no cycle passes, TIME stays as it is (R293, R294). -/
theorem TimeBase.cycles_zero (t : TimeBase) : t.cycles 0 = t := by
  have hfrac := t.frac.isLt
  have htotal : (t.time.toNat * 2 ^ 32 + t.frac.toNat + (0 : Nat) * t.gain : Int) =
      (t.time.toNat * 2 ^ 32 + t.frac.toNat : Nat) := by
    push_cast
    ring
  have hwhole : ((t.time.toNat * 2 ^ 32 + t.frac.toNat : Nat) : Int) / 2 ^ 32 = (t.time.toNat : Nat) := by omega
  have hrest : BitVec.ofInt 32 (t.time.toNat * 2 ^ 32 + t.frac.toNat : Nat) = t.frac := by
    apply BitVec.eq_of_toNat_eq
    rw [BitVec.ofInt_natCast, BitVec.toNat_ofNat]
    omega
  rw [TimeBase.cycles, htotal, hwhole, hrest, BitVec.ofInt_natCast, BitVec.ofNat_toNat, BitVec.setWidth_eq, BitVec.add_zero]

/-- Brought to an instant that has passed, TIME stays as it is (R299). -/
theorem TimeBase.advance_passed (t : TimeBase) {target : U64} (h : target.toNat ≤ t.time.toNat) (hlt : t.time.toNat < 2 ^ 62) :
    t.advance target = t := by
  have hd : (target - t.time).toInt ≤ 0 := by
    rw [BitVec.toInt_sub, BitVec.toInt_eq_toNat_of_lt (by omega), BitVec.toInt_eq_toNat_of_lt (by omega),
      Int.bmod_eq_of_le (by omega) (by omega)]
    omega
  have hcycles : t.cyclesTo target = 0 := if_pos hd
  unfold TimeBase.advance
  split
  · rw [hcycles, t.cycles_zero]
  · rfl

/-- An EVIO unit whose condition has stayed for its time fires at the end of it, TIME and the FAST channels being at the present. -/
theorem State.triggerTimeout_evio {s : State} {u p : Nat} (hu : u < 16) (hkind : (s.trgCfg u).kind = 3)
    (htimed : (s.trg u).timedOut = false) (hstay : (s.trgCfg u).dir = 2 ∨ ((s.trgCfg u).dir = 0 ↔ (s.trg u).cond = true))
    (htrans : (s.trg u).trans = some p) (hsrc : (s.trgCfg u).srcKind ≠ 0)
    (hend : p + 10 * (s.trgCfg u).w1 ≤ 4 * s.time.time.toNat) (hlt : s.time.time.toNat < 2 ^ 62) :
    ∃ n sub, s.triggerTimeout u =
      (s.fillAll.stayOut u).fireUnit u (BitVec.ofNat 64 (p + 10 * (s.trgCfg u).w1)) n sub := by
  have hstamp : (BitVec.ofNat 64 ((p + 10 * (s.trgCfg u).w1 + 3) / 4)).toNat ≤ s.time.time.toNat := by
    rw [BitVec.toNat_ofNat]
    omega
  have htime : s.toStamp (BitVec.ofNat 64 ((p + 10 * (s.trgCfg u).w1 + 3) / 4)) = s := by
    rw [State.toStamp, s.time.advance_passed hstamp hlt]
  have hpast : ¬ (s.fillAll.time.time * 4).toNat < p + 10 * (s.trgCfg u).w1 := by
    rw [s.fillAll_fills.time, BitVec.toNat_mul, show (4 : U64).toNat = 4 from rfl]
    omega
  have htrg : s.fillAll.trg u = s.trg u := by rw [State.trg, s.fillAll_fills.trgs, State.trg]
  unfold State.triggerTimeout
  dsimp only
  rw [State.stay_since hu hkind htimed hstay htrans]
  dsimp only
  rw [if_neg hsrc, htime, if_neg hpast, ← htrg]
  exact State.fireNow_eq ..

/-! ### MASK_LOAD_COMPLETE (R347, R351) -/

/-- The staged mask as it stands in the active area: `n` bytes copied, and beside them no byte, no register, no axis and nothing of
acquisition has changed. -/
structure State.CopiesMask (s t : State) (b n : Nat) : Prop where
  copied : t.mem.bytes (maskActive b) n = s.mem.bytes (maskStage b) n
  memory : s.memorySame t (maskActive b) n
  acq : t.acq = s.acq
  regs : t.regs = s.regs
  axes : t.axes = s.axes

/-- The staged words of a mask that do not decode (R347). -/
def State.lostMask (s : State) (b : Nat) : List Nat :=
  (wordsOf (maskStage b) (8 * (s.privCfg b).maskN)).filter (fun w => s.bad.contains w)

theorem State.mem_lostMask {s : State} {b w : Nat} : w ∈ s.lostMask b ↔
    w ∈ wordsOf (maskStage b) (8 * (s.privCfg b).maskN) ∧ s.undecodable w = true := by
  rw [State.lostMask, List.mem_filter]
  exact and_congr_right fun hw => by rw [State.undecodable, wordOf_of_mem_wordsOf hw]

theorem State.lostMask_eq_nil {s : State} {b : Nat} :
    s.lostMask b = [] ↔ (wordsOf (maskStage b) (8 * (s.privCfg b).maskN)).any s.undecodable = false := by
  rw [List.eq_nil_iff_forall_not_mem, List.any_eq_false]
  exact forall_congr' fun w => by rw [State.mem_lostMask, not_and]

/-- The staged mask of a channel read and stored in the active area (R109, R351). -/
def State.maskCopied (s : State) (b : Nat) : State :=
  (s.correct none (wordsOf (maskStage b) (8 * (s.privCfg b).maskN))).store' (maskActive b)
    (s.mem.bytes (maskStage b) (8 * (s.privCfg b).maskN))

/-- Words of the active area that do not decode (log 125). -/
def State.maskMarked (s : State) (b : Nat) (lost : List Nat) : State :=
  lost.foldl (fun s w => { s with bad := addNew (w - maskStage b + maskActive b) s.bad }) s

theorem State.maskCopied_copies (s : State) (b : Nat) : s.CopiesMask (s.maskCopied b) b (8 * (s.privCfg b).maskN) := by
  have hsame := s.correct_same none (wordsOf (maskStage b) (8 * (s.privCfg b).maskN))
  have hlen := s.mem.length_bytes (maskStage b) (8 * (s.privCfg b).maskN)
  refine ⟨?_, ?_, (congrArg State.acq hsame :), (congrArg State.regs hsame :), (congrArg State.axes hsame :)⟩
  · have hstored := State.store'_bytes (s.correct none (wordsOf (maskStage b) (8 * (s.privCfg b).maskN))) (maskActive b)
      (s.mem.bytes (maskStage b) (8 * (s.privCfg b).maskN))
    rw [hlen] at hstored
    exact hstored
  · have hsaved := State.store'_memorySame (s.correct none (wordsOf (maskStage b) (8 * (s.privCfg b).maskN))) (maskActive b)
      (s.mem.bytes (maskStage b) (8 * (s.privCfg b).maskN))
    rw [hlen, State.memorySame, State.sameBesideCounts_mem hsame] at hsaved
    exact hsaved

theorem State.maskCopied_memoryFrom (s : State) (b : Nat) : (s.maskCopied b).memoryFrom s = s := by
  rw [State.maskCopied, State.store'_memoryFrom, State.memoryFrom, show State.countsFrom _ s = s from s.correct_same none _]

theorem State.maskMarked_eq (s : State) (b : Nat) (lost : List Nat) : s.maskMarked b lost =
    { s with bad := (lost.map fun w => w - maskStage b + maskActive b).foldl (fun bad w => addNew w bad) s.bad } := by
  induction lost generalizing s with
  | nil => rfl
  | cons w r ih => exact ih _

section
variable {s : State} {b : Nat} (hb : b < 4) (hload : (s.priv b).maskLoading = true)
include hb hload

theorem State.maskLoaded_loads : s.maskLoaded b =
    (if (s.lostMask b).isEmpty then (s.maskCopied b).maskMarked b (s.lostMask b)
      else ((s.maskCopied b).maskMarked b (s.lostMask b)).unitFault 1 0x6000).setPriv b { s.priv b with maskLoading := false } := by
  unfold State.maskLoaded
  dsimp only
  rw [if_neg (not_or.mpr ⟨not_le.mpr hb, fun h => Bool.false_ne_true (h.symm.trans hload)⟩)]
  rfl

/-- The mask is copied. A staged word that does not decode faults the acquisition port and stays uncorrectable in the active area (R347;
log 125); where there is none, nothing beside memory and the counters changes. -/
theorem State.maskLoaded_leaves : ∃ v : State, s.maskLoaded b = v.setPriv b { s.priv b with maskLoading := false } ∧
    s.CopiesMask v b (8 * (s.privCfg b).maskN) ∧
    (∀ w ∈ s.lostMask b, 0x6000 ∈ v.faults.units ∧ w - maskStage b + maskActive b ∈ v.bad) ∧
    (s.lostMask b = [] → v.memoryFrom s = s) := by
  have hcopies := s.maskCopied_copies b
  rw [State.maskLoaded_loads hb hload]
  split
  next hnone =>
    rw [List.isEmpty_iff.mp hnone]
    exact ⟨s.maskCopied b, rfl, hcopies, fun w hw => absurd hw List.not_mem_nil, fun _ => s.maskCopied_memoryFrom b⟩
  next hlost =>
    have hmarked := (s.maskCopied b).maskMarked_eq b (s.lostMask b)
    have hunit := (((s.maskCopied b).maskMarked b (s.lostMask b)).unitFault_port 1 0x6000 (.inl rfl)).2
    obtain ⟨_, _, _, _, _, _, hfault⟩ := ((s.maskCopied b).maskMarked b (s.lostMask b)).unitFault_contained 1
      (identity := 0x6000) (by decide)
    refine ⟨_, rfl, ?_, fun w hw => ⟨hunit, ?_⟩, fun hnil => absurd (List.isEmpty_iff.mpr hnil) hlost⟩
    · rw [hfault, hmarked]
      exact ⟨hcopies.copied, hcopies.memory, hcopies.acq, hcopies.regs, hcopies.axes⟩
    · rw [hfault, hmarked]
      exact mem_foldl_addNew _ _ (List.mem_map_of_mem hw)
end

theorem State.maskLoaded_idle {s : State} {b : Nat} (hload : (s.priv b).maskLoading = false) : s.maskLoaded b = s :=
  if_pos (.inr hload)

/-- A channel's books set in a state with the acquisition of `s`. -/
theorem State.priv_setPriv_of_acq {s v : State} (h : v.acq = s.acq) (b : Nat) (x : Priv) :
    (v.setPriv b x).priv b = x ∧ ∀ j, j ≠ b → (v.setPriv b x).priv j = s.priv j := by
  refine ⟨(State.priv_setPriv ..).trans (if_pos rfl), fun j hj => ?_⟩
  rw [State.priv_setPriv, if_neg hj, State.priv, h, State.priv]

/-- Settles O54, row by row. A staged mask word that does not decode faults the acquisition port and stays uncorrectable in the active
area (log 125). -/
theorem triggersAndChannels : Obligations.TriggersAndChannels := by
  unfold Obligations.TriggersAndChannels
  intro s
  refine ⟨fun u p v idx start hu hkind htimed hstay htrans hsrc hprev =>
      ⟨fun hend => ⟨_, exec_triggerTimeout s u, ?_⟩, fun hend => ?_⟩,
    fun u p hu hkind htimed hstay htrans hsrc hend hlt => ⟨_, exec_triggerTimeout s u, ?_⟩, fun u hidle => ?_, fun b hb => ?_⟩
  · obtain ⟨t, n, m, sub, hfires⟩ := State.triggerTimeout_numeric hu hkind htimed hstay htrans hsrc hprev hend
    have hmasks := State.foldl_keepsUnits (fun s b => s.lateMask u b n start) (fun v b => v.lateMask_keepsUnits u b n start)
      (List.range 4) ((s.stayOut u).fireUnit u t m sub)
    have hout := (s.fireUnit_timedOut u t m sub).keep hmasks
    have hfired : s.Acquires ((s.stayOut u).fireUnit u t m sub) := (s.setTrg_acquires u _).trans (State.fireUnit_acquires ..)
    rw [hfires]
    exact ⟨hout.timedOut, hout.fired, hout.count, hout.others, hfired.thenKeeps hmasks⟩
  · rw [exec_triggerTimeout, State.triggerTimeout_early hu hkind htimed hstay htrans hsrc hprev hend]
  · have hstored := s.fillAll_fills
    obtain ⟨n, sub, hfires⟩ := State.triggerTimeout_evio hu hkind htimed hstay htrans hsrc hend hlt
    have hout := (s.fillAll.fireUnit_timedOut u (BitVec.ofNat 64 (p + 10 * (s.trgCfg u).w1)) n sub).of_trgs hstored.trgs
    rw [hfires]
    exact ⟨hout.timedOut, hout.fired, hout.count, hout.others,
      hstored.memoryFrom_acquires ((State.setTrg_acquires ..).trans (State.fireUnit_acquires ..))⟩
  · rw [exec_triggerTimeout, State.triggerTimeout_idle hidle]
  · refine ⟨fun hst hpost => ⟨_, exec_postReached s b, ?_⟩, fun _ hpost => ?_, fun hst hpre => ⟨_, exec_preValid s b, ?_⟩,
      fun hload => ⟨_, exec_maskLoadComplete s b, ?_⟩, fun hload => ?_⟩
    · rw [State.postReached_stops hb hst hpost]
      exact s.fillFast_setPriv b _
    · rw [exec_postReached, State.postReached_early hb hpost]
    · rw [State.preValid_holds hb hst hpre]
      exact s.fillFast_setPriv b _
    · obtain ⟨v, hloaded, hcopies, hlost, hdecodes⟩ := State.maskLoaded_leaves hb hload
      obtain ⟨hpriv, hothers⟩ := State.priv_setPriv_of_acq hcopies.acq b { s.priv b with maskLoading := false }
      rw [hloaded]
      exact ⟨hcopies.copied, hcopies.memory, hpriv, hothers, hcopies.regs, hcopies.axes,
        fun w hw hbad => hlost w (State.mem_lostMask.mpr ⟨hw, hbad⟩),
        fun hgood => (congrArg (fun z : State => { z with acq := s.acq }) (hdecodes (State.lostMask_eq_nil.mpr hgood)) :)⟩
    · rw [exec_maskLoadComplete, State.maskLoaded_idle hload]

end Sys2Proof.Machine
end

section
/-! PROOFS. ACQ_COMMIT, ACQ_ARM, ACQ_DISARM, ACQ_FORCE, ACQ_READ and ACQ_MASK_LOAD (R341-R347, R351, R352). -/

namespace Sys2Proof.Machine

theorem exec_acqCommit (s : State) (c : Ctx) : exec (.acqCommit c) s = .next (s.hostCommand c 0x90 [] coreAcqCommit) := rfl
theorem exec_acqArm (s : State) (c : Ctx) (b : Nat) : exec (.acqArm c b) s = .next (s.hostCommand c 0x91 [b] (coreAcqArm b)) := rfl
theorem exec_acqDisarm (s : State) (c : Ctx) (b : Nat) :
    exec (.acqDisarm c b) s = .next (s.hostCommand c 0x92 [b] (coreAcqDisarm b)) := rfl
theorem exec_acqForce (s : State) (c : Ctx) (b : Nat) :
    exec (.acqForce c b) s = .next (s.hostCommand c 0x93 [b] (coreAcqForce b)) := rfl
theorem exec_acqRead (s : State) (c : Ctx) (b : Nat) (first count : Word) (addr : U64) : exec (.acqRead c b first count addr) s =
    .next (s.hostCommand c 0x94 [b, first.toNat, count.toNat, addr.toNat] (coreAcqRead b first count addr)) := rfl
theorem exec_acqMaskLoad (s : State) (c : Ctx) (b : Nat) :
    exec (.acqMaskLoad c b) s = .next (s.hostCommand c 0x95 [b] (coreAcqMaskLoad b)) := rfl

/-! ### What a command on one channel leaves -/

section
variable {s t u : State} {c : Ctx} {opc : Nat} {detail : Word} (h : s.carriedOut t c opc detail u)
include h

theorem State.carriedOut_acq : t.acq = u.acq := (congrArg State.acq (State.carriedOut_effect h) :)
theorem State.carriedOut_hostMemory : t.host.memory = u.host.memory := (congrArg (fun z : State => z.host.memory) h.2.2 :)
theorem State.carriedOut_priv (b : Nat) : t.priv b = u.priv b := by rw [State.priv, State.carriedOut_acq h, State.priv]

/-- A command that changes acquisition alone. -/
theorem State.carriedOut_acquires (hu : s.Acquires u) : s.carriedOut t c opc detail { s with acq := t.acq } := by
  obtain ⟨_, rfl⟩ := hu
  rw [State.carriedOut_acq h]
  exact h

/-- DETAIL lies in bytes 8 to 11 of the result record (R519). -/
theorem State.carriedOut_detail : t.mem.bytes (recordAt c + 8) 4 = bytesLE 4 detail.toNat := by
  have hslice : t.mem.bytes (recordAt c + 8) 4 = ((t.mem.bytes (recordAt c) 16).drop 8).take 4 := rfl
  rw [hslice, h.1]
  rfl
end

/-- A command that sets one channel leaves the others and the rest of the state. -/
theorem State.setPriv_carriedOut {s t : State} {c : Ctx} {opc b : Nat} {x : Priv} (h : s.carriedOut t c opc 0 (s.setPriv b x)) :
    s.carriedOut t c opc 0 { s with acq := t.acq } ∧ t.priv b = x ∧ ∀ j, j ≠ b → t.priv j = s.priv j := by
  have hpriv (j : Nat) := (State.carriedOut_priv h j).trans (s.priv_setPriv b j x)
  exact ⟨State.carriedOut_acquires h (s.setPriv_acquires b x), (hpriv b).trans (if_pos rfl), fun j hj => (hpriv j).trans (if_neg hj)⟩

/-- A NUMERIC channel takes no sample at once. -/
theorem State.fillFast_numeric {s : State} {b : Nat} (h : (s.privCfg b).mode = 0) : s.fillFast b = s := if_pos (.inl h)

/-! ### ACQ_COMMIT (R345, R346) -/

theorem State.refreshTrg_acquires (s : State) (u : Nat) : s.Acquires (s.refreshTrg u) := s.setTrg_acquires u _

/-- The FAST channels are brought up to the present, the page is committed, and the rest concerns acquisition alone. -/
theorem cmdAcqCommit_commits (s : State) : (s.fillAll.commitRegs acqStagedOffs).Acquires (cmdAcqCommit s).2 := by
  unfold cmdAcqCommit
  dsimp only
  generalize s.fillAll.commitRegs acqStagedOffs = v
  have hfolds (l m : List Nat) : v.Acquires (m.foldl (fun s u => s.refreshTrg u)
      (l.foldl (fun s b => s.setPriv b ((s.priv b).restart s.fastTicks s.tt.passage)) v)) :=
    (State.foldl_acquires _ (fun s b => s.setPriv_acquires b _) l v).trans
      (State.foldl_acquires _ (fun s u => s.refreshTrg_acquires u) m _)
  split
  · exact (hfolds _ _).trans ⟨_, rfl⟩
  · exact hfolds _ _

/-- The settings of acquisition are committed, and instances, generators, TIME and rings are as they were. -/
structure State.AcqCommitted (s t : State) : Prop where
  cfgW : ∀ o, t.cfgW o = if acqStagedOffs.contains o then s.stgW o else s.cfgW o
  axes : t.axes = s.axes
  gens : t.gens = s.gens
  time : t.time = s.time
  rings : t.rings = s.rings

theorem cmdAcqCommit_committed (s : State) : s.AcqCommitted (cmdAcqCommit s).2 := by
  have hfill := s.fillAll_fills
  obtain ⟨regs, hregs⟩ := s.fillAll.commitRegs_eq acqStagedOffs
  obtain ⟨acq, hacq⟩ := cmdAcqCommit_commits s
  rw [hregs] at hacq
  have hcfg (o : Nat) := State.cfgW_of_committed hregs (congrArg State.regs hacq) o
  have hframe := hfill.memoryFrom
  refine ⟨fun o => (hcfg o).trans ?_, (congrArg State.axes hacq).trans (congrArg State.axes hframe :),
    (congrArg State.gens hacq).trans (congrArg State.gens hframe :), (congrArg State.time hacq).trans hfill.time,
    (congrArg State.rings hacq).trans (congrArg State.rings hframe :)⟩
  rw [State.stgW, State.cfgW, hfill.regs, State.stgW, State.cfgW]

/-! ### ACQ_COMMIT that meets no check (R345, R352) -/

section
variable {s : State} (hfree : ∀ b, b < 4 → (privCfgOf s.stgW b).guarded (s.privCfg b) = false ∧
    (privCfgOf s.stgW b).pre + (privCfgOf s.stgW b).post ≤ (privCfgOf s.stgW b).len) (hr : s.acqInRange = true)
  (hmap : ∀ k, k < 64 → (s.stgW (0x80100 + 4 * k)).bit 31 = true → s.mapped ((s.stgW (0x80100 + 4 * k)).bits 16 9) = true)
include hfree hr hmap

/-- Staged settings in range, of mapped instances, that change nothing which R345 guards meet no check. -/
theorem cmdAcqCommit_accepted : (cmdAcqCommit s).1 = {} := by
  have hpresent : ((List.range 64).any fun k => (s.stgW (0x80100 + 4 * k)).bit 31 &&
      !s.mapped ((s.stgW (0x80100 + 4 * k)).bits 16 9)) = false :=
    List.any_eq_false.mpr fun k hk hbit => by
      obtain ⟨hon, hoff⟩ := Bool.and_eq_true_iff.mp hbit
      rw [hmap k (List.mem_range.mp hk) hon] at hoff
      exact Bool.false_ne_true hoff
  have hlength : ((List.range 4).any fun b => decide ((privCfgOf s.stgW b).len <
      (privCfgOf s.stgW b).pre + (privCfgOf s.stgW b).post)) = false :=
    List.any_eq_false.mpr fun b hb hlt => absurd (hfree b (List.mem_range.mp hb)).2 (not_le.mpr (of_decide_eq_true hlt))
  have hguard (p : Nat → Bool) : ((List.range 4).any fun b => (privCfgOf s.stgW b).guarded (s.privCfg b) && p b) = false :=
    List.any_eq_false.mpr fun b hb hbit => by
      rw [(hfree b (List.mem_range.mp hb)).1] at hbit
      exact Bool.false_ne_true hbit
  simp only [cmdAcqCommit, hpresent, hlength, hr, hguard]
  rfl

theorem State.acqCommit_committed {c : Ctx} (ha : s.admits c 0x90 [] = true) :
    s.AcqCommitted (s.hostCommand c 0x90 [] coreAcqCommit) := by
  obtain ⟨m, wr, l, un, res, _, _, _, _, _, _, _, ht⟩ := s.hostCommand_accepted c 0x90 [] coreAcqCommit ha
    fun m wr l un res => ⟨cmdAcqCommit_accepted (s := s.logged m wr l un res) hfree hr hmap, rfl⟩
  have h := cmdAcqCommit_committed (s.logged m wr l un res)
  rw [ht, show (coreAcqCommit (s.logged m wr l un res)).state = (cmdAcqCommit (s.logged m wr l un res)).2 from rfl]
  generalize (cmdAcqCommit (s.logged m wr l un res)).2 = v at h
  exact ⟨h.cfgW, h.axes, h.gens, h.time, h.rings⟩
end

/-! ### ACQ_ARM, ACQ_DISARM, ACQ_FORCE and ACQ_MASK_LOAD (R341, R342, R351) -/

/-- A channel armed afresh, keeping what the latest read copied. -/
def State.armedPriv (s : State) (b : Nat) : Priv :=
  Priv.restart { st := .armed, copied := (s.priv b).copied } s.fastTicks s.tt.passage

/-- A trigger unit that takes its condition afresh where `p` holds (R329). -/
def State.refreshIf (s : State) (p : Prop) [Decidable p] (u : Nat) : State := if p then s.refreshTrg u else s

theorem State.refreshIf_acquires (s : State) (p : Prop) [Decidable p] (u : Nat) : s.Acquires (s.refreshIf p u) := by
  unfold State.refreshIf
  split
  · exact s.refreshTrg_acquires u
  · exact .refl s

theorem State.priv_refreshIf (s : State) (p : Prop) [Decidable p] (u j : Nat) : (s.refreshIf p u).priv j = s.priv j := by
  unfold State.refreshIf
  split
  · rfl
  · rfl

theorem State.logged_refreshIf (s : State) (p : Prop) [Decidable p] (u : Nat) (m : Tab Byte) (wr l un : Word) (res : Nat) :
    (s.logged m wr l un res).refreshIf p u = (s.refreshIf p u).logged m wr l un res :=
  (apply_ite (fun v : State => v.logged m wr l un res) p (s.refreshTrg u) s).symm

/-- A channel armed, and the units that it names refreshed (R329, R341, R349). -/
def State.armPriv (s : State) (b : Nat) : State :=
  ((s.setPriv b (s.armedPriv b)).refreshIf ((s.privCfg b).trg < 16) (s.privCfg b).trg).refreshIf
    (((s.privCfg b).maskEn && (s.privCfg b).maskTrg != (s.privCfg b).trg) = true) (s.privCfg b).maskTrg

theorem State.armPriv_acquires (s : State) (b : Nat) : s.Acquires (s.armPriv b) :=
  (s.setPriv_acquires b _).trans ((State.refreshIf_acquires ..).trans (State.refreshIf_acquires ..))

theorem State.priv_armPriv (s : State) (b j : Nat) : (s.armPriv b).priv j = if j = b then s.armedPriv b else s.priv j := by
  rw [State.armPriv, State.priv_refreshIf, State.priv_refreshIf, State.priv_setPriv]

theorem State.logged_armPriv (s : State) (b : Nat) (m : Tab Byte) (wr l un : Word) (res : Nat) :
    (s.logged m wr l un res).armPriv b = (s.armPriv b).logged m wr l un res := by
  rw [State.armPriv, State.armPriv, ← State.logged_refreshIf, ← State.logged_refreshIf]
  rfl

section
variable {s : State} {b : Nat} (hb : b < 4)
include hb

section
variable (harmed : (s.priv b).st ≠ .armed) (htriggered : (s.priv b).st ≠ .triggered) (hload : (s.priv b).maskLoading = false)
include harmed htriggered hload

/-- ACQ_ARM of a channel that neither samples nor loads its mask (R341, R351). -/
theorem cmdAcqArm_takes : cmdAcqArm b s = ({}, s.armPriv b) := by
  refine Prod.ext ?_ rfl
  simp only [cmdAcqArm, decide_eq_false (not_le.mpr hb), decide_eq_false harmed, decide_eq_false htriggered, hload]
  rfl

theorem State.acqArm_carriedOut {c : Ctx} (ha : s.admits c 0x91 [b] = true) :
    s.carriedOut (s.hostCommand c 0x91 [b] (coreAcqArm b)) c 0x91 0 (s.armPriv b) :=
  State.pointAt_carriedOut (cmd := cmdAcqArm b) ha fun m wr l un res => by
    rw [cmdAcqArm_takes (s := s.logged m wr l un res) hb harmed htriggered hload, State.logged_armPriv]

/-- ACQ_MASK_LOAD of a mask none of whose intervals is empty (R351). -/
theorem cmdAcqMaskLoad_takes (hmask : ∀ j, j < (s.privCfg b).maskN → realLt
      (sampleReal (s.privCfg b).sel (s.mem.word (maskStage b + 8 * j + 4)))
      (sampleReal (s.privCfg b).sel (s.mem.word (maskStage b + 8 * j))) = false) :
    cmdAcqMaskLoad b s = ({}, s.setPriv b { s.priv b with maskLoading := true }) := by
  have hrange : ((List.range (s.privCfg b).maskN).any fun j => !s.undecodable (maskStage b + 8 * j) &&
      realLt (sampleReal (s.privCfg b).sel (s.mem.word (maskStage b + 8 * j + 4)))
        (sampleReal (s.privCfg b).sel (s.mem.word (maskStage b + 8 * j)))) = false :=
    List.any_eq_false.mpr fun j hj hbit => by
      rw [hmask j (List.mem_range.mp hj), Bool.and_false] at hbit
      exact Bool.false_ne_true hbit
  simp only [cmdAcqMaskLoad, hrange, decide_eq_false (not_le.mpr hb), decide_eq_false harmed, decide_eq_false htriggered, hload]
  rfl

theorem State.acqMaskLoad_carriedOut {c : Ctx} (hmask : ∀ j, j < (s.privCfg b).maskN → realLt
      (sampleReal (s.privCfg b).sel (s.mem.word (maskStage b + 8 * j + 4)))
      (sampleReal (s.privCfg b).sel (s.mem.word (maskStage b + 8 * j))) = false) (ha : s.admits c 0x95 [b] = true) :
    s.carriedOut (s.hostCommand c 0x95 [b] (coreAcqMaskLoad b)) c 0x95 0 (s.setPriv b { s.priv b with maskLoading := true }) :=
  State.pointAt_carriedOut (cmd := cmdAcqMaskLoad b) ha
    fun m wr l un res => cmdAcqMaskLoad_takes (s := s.logged m wr l un res) hb harmed htriggered hload hmask
end

section
variable (hmode : (s.privCfg b).mode = 0)
include hmode

/-- ACQ_DISARM of a NUMERIC channel (R341). -/
theorem cmdAcqDisarm_takes : cmdAcqDisarm b s = ({}, s.setPriv b { s.priv b with st := .idle, stop := 3 }) := by
  simp only [cmdAcqDisarm, State.fillFast_numeric hmode, decide_eq_false (not_le.mpr hb)]

theorem State.acqDisarm_carriedOut {c : Ctx} (ha : s.admits c 0x92 [b] = true) :
    s.carriedOut (s.hostCommand c 0x92 [b] (coreAcqDisarm b)) c 0x92 0 (s.setPriv b { s.priv b with st := .idle, stop := 3 }) :=
  State.pointAt_carriedOut (cmd := cmdAcqDisarm b) ha
    fun m wr l un res => cmdAcqDisarm_takes (s := s.logged m wr l un res) hb hmode

/-- ACQ_FORCE of an armed NUMERIC channel that holds PRE samples: it triggers at the present passage (R342; log 42). -/
theorem cmdAcqForce_takes (harmed : (s.priv b).st = .armed) (hvalid : (s.priv b).preValid = true) : cmdAcqForce b s =
    ({}, s.setPriv b ((s.priv b).trigger ((s.priv b).indexOf s.tt.passage) 256 (s.tt.start * 4) s.tt.passage)) := by
  simp only [cmdAcqForce, State.fillFast_numeric hmode, State.triggerPriv, harmed, hvalid, hmode, decide_eq_false (not_le.mpr hb)]
  rfl

theorem State.acqForce_carriedOut {c : Ctx} (harmed : (s.priv b).st = .armed) (hvalid : (s.priv b).preValid = true)
    (ha : s.admits c 0x93 [b] = true) : s.carriedOut (s.hostCommand c 0x93 [b] (coreAcqForce b)) c 0x93 0
      (s.setPriv b ((s.priv b).trigger ((s.priv b).indexOf s.tt.passage) 256 (s.tt.start * 4) s.tt.passage)) :=
  State.pointAt_carriedOut (cmd := cmdAcqForce b) ha
    fun m wr l un res => cmdAcqForce_takes (s := s.logged m wr l un res) hb hmode harmed hvalid
end
end

/-! ### ACQ_READ (R344, R347) -/

/-- Samples of a NUMERIC channel go to the host as 4 bytes each (R344). -/
theorem packSamples_numeric (l : List Nat) {fuel : Nat} (h : l.length < fuel) : packSamples 0 fuel l = l.flatMap (bytesLE 4) := by
  induction l generalizing fuel with
  | nil =>
    obtain ⟨n, rfl⟩ : ∃ n, fuel = n + 1 := ⟨fuel - 1, by omega⟩
    rfl
  | cons v r ih =>
    obtain ⟨n, rfl⟩ : ∃ n, fuel = n + 1 := ⟨fuel - 1, by omega⟩
    rw [List.flatMap_cons, ← ih (Nat.lt_of_succ_lt_succ h)]
    rfl

/-- Numbers taken as integers one by one. -/
theorem flatMap_intCast (l : List Nat) (f : Int → List Byte) :
    List.flatMap f (do let a ← l; pure (a : Int)) = l.flatMap fun j : Nat => f j := by
  rw [List.bind_eq_flatMap, List.flatMap_assoc]
  simp only [List.pure_def, List.flatMap_singleton]

/-- The number of samples that ACQ_READ copies: those from FIRST on that are held, COUNT at most (R344). -/
def Priv.readable (p : Priv) (first count : Word) : Nat :=
  if -(p.preHeld : Int) ≤ first.toInt ∧ first.toInt < p.postHeld then min count.toNat ((p.postHeld : Int) - first.toInt).toNat else 0

theorem Priv.readable_le (p : Priv) (first count : Word) : p.readable first count ≤ count.toNat := by
  unfold Priv.readable
  split
  · exact Nat.min_le_left ..
  · exact Nat.zero_le _

/-- `n` samples of a channel from FIRST on, as the host gets them from a NUMERIC channel (R344). -/
def State.readBytes (s : State) (b : Nat) (first : Word) (n : Nat) : List Byte :=
  (List.range n).flatMap fun (j : Nat) => bytesLE 4 (s.getSample b (s.privCfg b) (((s.priv b).trigW : Int) + first.toInt + j).toNat)

/-- The same bytes with the sample's number taken as an integer first. -/
theorem State.readBytes_cast (s : State) (b : Nat) (first : Word) (n : Nat) : s.readBytes b first n =
    List.flatMap (fun j : Int => bytesLE 4 (s.getSample b (s.privCfg b) (((s.priv b).trigW : Int) + first.toInt + j).toNat))
      (do let j ← List.range n; pure (j : Int)) := by
  rw [flatMap_intCast]
  rfl

/-- What ACQ_READ leaves of a channel whose `n` samples all decode: the count, and the bytes in host memory. -/
def State.readOut (s : State) (b : Nat) (first : Word) (addr : U64) (n : Nat) : State :=
  (s.setPriv b { s.priv b with copied := n }).dma addr.toNat (s.readBytes b first n)

theorem State.logged_dma (s : State) (a : Nat) (bs : List Byte) (m : Tab Byte) (wr l un : Word) (res : Nat) :
    (s.logged m wr l un res).dma a bs = (s.dma a bs).logged m wr l un res :=
  (apply_ite (fun v : State => v.logged m wr l un res) (s.dmaUp = true)
    { s with host := { s.host with memory := hostBytes s.host.memory a bs } } s).symm

theorem State.logged_readOut (s : State) (b : Nat) (first : Word) (addr : U64) (n : Nat) (m : Tab Byte) (wr l un : Word) (res : Nat) :
    (s.logged m wr l un res).readOut b first addr n = (s.readOut b first addr n).logged m wr l un res :=
  State.logged_dma (s.setPriv b { s.priv b with copied := n }) addr.toNat (s.readBytes b first n) m wr l un res

theorem State.readOut_only (s : State) (b : Nat) (first : Word) (addr : U64) (n : Nat) : s.readOut b first addr n =
    { s.setPriv b { s.priv b with copied := n } with
      host := { s.host with
        memory := (if s.dmaUp then hostBytes s.host.memory addr.toNat (s.readBytes b first n) else s.host.memory) } } := by
  unfold State.readOut State.dma
  rw [show (s.setPriv b { s.priv b with copied := n }).dmaUp = s.dmaUp from rfl]
  split
  · rfl
  · rfl

section
variable {s : State} {b : Nat} {first count : Word} (addr : U64) (hb : b < 4) (hst : (s.priv b).st = .stopped)
  (hmode : (s.privCfg b).mode = 0) (hcount : count.toNat ≤ (s.privCfg b).len) (hbad : s.bad = [])
include hb hst hmode hcount hbad

/-- ACQ_READ of a stopped NUMERIC channel whose words all decode (R344). -/
theorem coreAcqRead_takes : coreAcqRead b first count addr s =
    { refusals := {}, detail := BitVec.ofNat 32 ((s.priv b).readable first count)
      state := s.readOut b first addr ((s.priv b).readable first count) } := by
  have hgood (n : Nat) (f : Nat → Nat) :
      ((List.range n).takeWhile fun j => !s.undecodable (sampleAddr b (s.privCfg b) (f j))).length = n := by
    rw [List.takeWhile_eq_self_iff.mpr fun j _ => by rw [State.undecodable, hbad]; rfl, List.length_range]
  have hpack (n : Nat) (f : Nat → Nat) :
      packSamples 0 (n + 1) ((List.range n).map f) = (List.range n).flatMap fun j => bytesLE 4 (f j) := by
    rw [packSamples_numeric _ (by rw [List.length_map, List.length_range]; omega), List.flatMap_map]
  have hnumeric : decide ((s.privCfg b).mode = 1) = false := decide_eq_false (by omega)
  unfold coreAcqRead
  dsimp only
  rw [hgood, hnumeric, hmode, hpack, if_neg (Nat.lt_irrefl _)]
  simp only [decide_eq_false (not_le.mpr hb), decide_eq_false (not_lt.mpr hcount), decide_eq_false (not_not.mpr hst), Bool.false_and,
    if_neg Bool.false_ne_true]
  rfl

theorem State.acqRead_carriedOut {c : Ctx} (ha : s.admits c 0x94 [b, first.toNat, count.toNat, addr.toNat] = true) :
    s.carriedOut (s.hostCommand c 0x94 [b, first.toNat, count.toNat, addr.toNat] (coreAcqRead b first count addr)) c 0x94
      (BitVec.ofNat 32 ((s.priv b).readable first count)) (s.readOut b first addr ((s.priv b).readable first count)) := by
  have hcore (m : Tab Byte) (wr l un : Word) (res : Nat) :=
    coreAcqRead_takes (s := s.logged m wr l un res) (first := first) addr hb hst hmode hcount hbad
  refine s.hostCommand_carriedOut _ c 0x94 _ _ _ ha (fun m wr l un res => ?_) fun m wr l un res => ?_
  · rw [hcore]
    exact ⟨rfl, rfl⟩
  · rw [hcore]
    exact ⟨rfl, m, wr, l, un, res, State.logged_readOut ..⟩
end

/-- Settles O28, command by command: each meets no check, and its effect is read off what it leaves. A staged mask word that does not
decode is not judged (log 125), a stream channel with EN = 0 is not checked (log 40), and ACQ_FORCE triggers at the present passage
(log 42). -/
theorem acquisitionCommands : Obligations.AcquisitionCommands := by
  unfold Obligations.AcquisitionCommands
  intro s c
  refine ⟨fun ha hfree hr hmap => ⟨_, exec_acqCommit s c, ?_⟩, fun b hb ha harmed htriggered hload => ⟨_, exec_acqArm s c b, ?_⟩,
    fun b hb ha hmode => ⟨_, exec_acqDisarm s c b, ?_⟩, fun b hb ha harmed hmode hvalid => ⟨_, exec_acqForce s c b, ?_⟩,
    fun b first count addr hb ha hst hmode hcount hbad => ⟨_, exec_acqRead s c b first count addr, ?_⟩,
    fun b hb ha harmed htriggered hload hmask => ⟨_, exec_acqMaskLoad s c b, ?_⟩⟩
  · have h := State.acqCommit_committed hfree hr hmap ha
    exact ⟨h.cfgW, h.axes, h.gens, h.time, h.rings⟩
  · have h := State.acqArm_carriedOut hb harmed htriggered hload ha
    have hpriv (j : Nat) := (State.carriedOut_priv h j).trans (s.priv_armPriv b j)
    have harm := (hpriv b).trans (if_pos rfl)
    exact ⟨State.carriedOut_acquires h (s.armPriv_acquires b), congrArg Priv.st harm, congrArg Priv.written harm,
      congrArg Priv.preValid harm, (congrArg Priv.copied harm :), fun j hj => (hpriv j).trans (if_neg hj)⟩
  · exact State.setPriv_carriedOut (State.acqDisarm_carriedOut hb hmode ha)
  · obtain ⟨honly, hpriv, hothers⟩ := State.setPriv_carriedOut (State.acqForce_carriedOut hb hmode harmed hvalid ha)
    exact ⟨honly, congrArg Priv.st hpriv, congrArg Priv.evTime hpriv, congrArg Priv.decision hpriv, hothers⟩
  · have h := State.acqRead_carriedOut addr hb hst hmode hcount hbad ha
    have hn := Nat.lt_of_le_of_lt ((s.priv b).readable_le first count) count.isLt
    have hdetail := State.carriedOut_detail h
    rw [BitVec.toNat_ofNat, Nat.mod_eq_of_lt hn] at hdetail
    have hsame := h.2.1
    have hpriv := State.carriedOut_priv h
    have haxes := State.carriedOut_axes h
    have hregs := State.carriedOut_regs h
    have hmemory := State.carriedOut_hostMemory h
    rw [s.readOut_only, s.readBytes_cast] at hsame hpriv haxes hregs hmemory
    have hchannel (j : Nat) := (hpriv j).trans (s.priv_setPriv b j _)
    exact ⟨congrArg Priv.copied ((hchannel b).trans (if_pos rfl)), hdetail, fun j hj => (hchannel j).trans (if_neg hj), haxes, hregs,
      hsame, hmemory⟩
  · exact State.setPriv_carriedOut (State.acqMaskLoad_carriedOut hb harmed htriggered hload hmask ha)

end Sys2Proof.Machine
end

section
/-! PROOFS. How an instruction of a Luestox unit completes that changes the registers of its unit alone, or that leaves the sequence
of its code (R361, R371-R373, R384, R387). -/

namespace Sys2Proof.Machine

/-! ### Units (R361) -/

theorem LuxOp.on_core (o : LuxOp) {u : Nat} (hu : 80 ≤ u) : o.on u = o.score := by
  rw [LuxOp.on, unitKind, if_neg (by omega), if_neg (by omega)]

theorem LuxOp.on_every (o : LuxOp) (u : Nat) (ha : o.ae = true) (hd : o.dsp = true) (hs : o.score = true) : o.on u = true := by
  rcases Nat.lt_or_ge u 80 with h | h
  · exact o.on_tUnit h ha hd
  · rw [o.on_core h, hs]

/-- An instruction whose fields are registers of their classes and an immediate within its mask (R364, R365). -/
theorem LuxOp.legal_of_operands {o : LuxOp} {u d a b n F : Nat} {i mask : Word} {D A B : Cls} (x : Lux) (hon : o.on u = true)
    (huses : o.uses = { d := D, a := A, b := B, f := F, imm := mask }) (hco : o.coissue = false) (hd : d < D.limit)
    (ha : a < A.limit) (hb : b < B.limit) (hF : within n F = true) (hn : n < 16) (hi : i &&& ~~~mask = 0) :
    o.legal u ⟨d, a, b, 0, 0, n, i⟩ x = true :=
  LuxOp.legal_of_fits hon (huses ▸ Uses.fits_literal hd ha hb hF hn hi) (LuxOp.coissueOk_of_not hco ..)

/-- Every immediate is within the mask of all its bits. -/
theorem Word.within_all (i : Word) : i &&& ~~~0xFFFFFFFF#32 = 0 := Word.and_not_mask (n := 32) i.isLt

/-- There are eight S-cores, and one of them that acts runs a task. -/
theorem State.unitReady_core {s : State} {u : Nat} (ha : s.unitReady u = true) (hu : 80 ≤ u) : u < 88 := by
  have hacts : s.unitActs u = true := (Bool.and_eq_true_iff.mp ha).1
  rw [State.unitActs, if_neg (by omega)] at hacts
  simp only [Bool.and_eq_true, decide_eq_true_eq] at hacts
  exact hacts.1.1

section
variable {s t : State} {u : Nat} {o : LuxOp} {f : Fields} (hready : s.unitReady u = true) (hl : o.legal u f (s.lux u) = true)
include hready

/-- Beside its effect an instruction changes the counters alone. -/
theorem State.luxRun_same : (s.luxRun u o f).sameBesideCounts (s.luxStep u o f) :=
  State.sameBesideCounts_trans (s.luxCount_same u o f _) (s.luxStep_ready u o f hready)

include hl

/-- An instruction that changes the registers of its unit alone. -/
theorem State.luxStep_onUnit (h : Lux → Lux) {y : Lux} {cost : Nat} (hr : o.run u f s = s.onUnit u h) (hy : h (s.lux u) = y)
    (hc : (if o.coissue && f.p then 0 else o.cost f) = cost) (hplace : (s.lux u).inPlace y = y) :
    s.executes (s.luxStep u o f) u cost y ∧ s.onlyUnit (s.luxStep u o f) u :=
  ⟨s.luxStep_executes _ u cost o f y hready hl hr ((State.lux_setLux ..).trans ((if_pos rfl).trans hy)) hc hplace,
    s.luxStep_onlyUnit u o f h hready hl hr⟩

/-- A branch taken, after its instruction has written the registers of its unit (R384). -/
theorem State.luxStep_jump {y : Lux} {pc : Nat} (hr : o.run u f s = .jump t pc) (ht : s.onlyUnit t u) (hy : t.lux u = y) :
    s.onlyUnit (s.luxStep u o f) u ∧ (s.luxStep u o f).lux u = { y with pc := pc, mac := false } := by
  have hrun : s.luxRun u o f = t.setLux u { t.lux u with pc := pc, mac := false } := by
    simp only [State.luxRun, hl, hr, if_true]
  have hsame := State.luxRun_same (o := o) (f := f) hready
  rw [hrun] at hsame
  refine ⟨State.onlyUnit_counted (State.onlyUnit_setLux ht _) hsame, ?_⟩
  rw [State.sameBesideCounts_lux hsame, State.lux_setLux, if_pos rfl, hy]

/-- A LOOP body skipped: the instruction after it follows in sequence (R372). -/
theorem State.luxStep_skip {pc : Nat} (hr : o.run u f s = .skip s pc) :
    s.onlyUnit (s.luxStep u o f) u ∧
      (s.luxStep u o f).lux u = (s.lux u).follow pc false (if o.coissue && f.p then 0 else o.cost f) := by
  have hrun : s.luxRun u o f = s.followAt u pc false (if o.coissue && f.p then 0 else o.cost f) := by
    simp only [State.luxRun, hl, hr, if_true]
  have hsame := State.luxRun_same (o := o) (f := f) hready
  rw [hrun] at hsame
  refine ⟨State.onlyUnit_counted (State.onlyUnit_setLux (s.onlyUnit_refl u) _) hsame, ?_⟩
  rw [State.sameBesideCounts_lux hsame, State.followAt, State.lux_setLux, if_pos rfl]

/-- An S-core's instruction after which its task goes no further (R387). -/
theorem State.luxStep_over (hu : 80 ≤ u) (hr : o.run u f s = .over t) : t.sameBesideCounts (s.luxStep u o f) := by
  have hrun : s.luxRun u o f = t := by
    simp only [State.luxRun, hl, hr, if_true]
    exact if_neg (by omega)
  have hsame := State.luxRun_same (o := o) (f := f) hready
  rwa [hrun] at hsame

end

end Sys2Proof.Machine
end

section
/-! PROOFS. ADD to ABS, DIV and DIVU (R376). -/

namespace Sys2Proof.Machine

/-! ### The words computed -/

/-- The high word of a signed product. -/
theorem Word.mulh_eq (p q : Word) :
    BitVec.ofInt 32 (p.toInt * q.toInt / 2 ^ 32) = (p.signExtend 64 * q.signExtend 64).extractLsb' 32 32 := by
  have hprod : p.signExtend 64 * q.signExtend 64 = BitVec.ofInt 64 (p.toInt * q.toInt) := (BitVec.ofInt_mul ..).symm
  apply BitVec.eq_of_toNat_eq
  rw [hprod, BitVec.extractLsb'_toNat, BitVec.toNat_ofInt, BitVec.toNat_ofInt, Nat.shiftRight_eq_div_pow]
  generalize p.toInt * q.toInt = z
  omega

theorem Word.min_eq (p q : Word) : (if q.slt p then q else p) = if p.toInt ≤ q.toInt then p else q := by
  by_cases h : p.toInt ≤ q.toInt
  · rw [if_pos h, if_neg (by simpa [BitVec.slt] using h)]
  · rw [if_neg h, if_pos (by simpa [BitVec.slt] using h)]

theorem Word.max_eq (p q : Word) : (if p.slt q then q else p) = if p.toInt ≤ q.toInt then q else p := by
  rcases lt_trichotomy p.toInt q.toInt with h | h | h
  · rw [if_pos (by simpa [BitVec.slt] using h), if_pos (by omega)]
  · rw [BitVec.eq_of_toInt_eq h, ite_self, ite_self]
  · rw [if_neg (by simp [BitVec.slt]; omega), if_neg (by omega)]

theorem Word.slt_eq (p q : Word) : (if p.slt q then 1 else 0 : Word) = if p.toInt < q.toInt then 1 else 0 := by
  simp only [BitVec.slt, decide_eq_true_eq]

theorem Word.ult_eq (p q : Word) : (if p.ult q then 1 else 0 : Word) = if p.toNat < q.toNat then 1 else 0 := by
  simp only [BitVec.ult, decide_eq_true_eq]

/-- Saturation to a word, and whether it saturated. -/
theorem satInt_eq (z : Int) : satInt z =
    (if z < -2147483648 then 0x80000000 else if 2147483647 < z then 0x7FFFFFFF else BitVec.ofInt 32 z,
      decide (z < -2147483648 ∨ 2147483647 < z)) := by
  have hbits : satBits 32 z =
      if z < -2 ^ 31 then (-2 ^ 31, true) else if 2 ^ 31 - 1 < z then (2 ^ 31 - 1, true) else (z, false) := rfl
  rw [satInt, hbits]
  by_cases hlow : z < -2147483648
  · rw [if_pos (by omega), if_pos hlow, decide_eq_true (Or.inl hlow)]
    rfl
  · by_cases hhigh : 2147483647 < z
    · rw [if_neg (by omega), if_pos (by omega), if_neg hlow, if_pos hhigh, decide_eq_true (Or.inr hhigh)]
      rfl
    · rw [if_neg (by omega), if_neg (by omega), if_neg hlow, if_neg hhigh, decide_eq_false (by omega)]

theorem Lux.raiseSat_decide (x : Lux) (sat : Prop) [Decidable sat] :
    x.raiseSat (decide sat) = { x with flg := x.flg ||| (if sat then 1 else 0) } := by
  rw [Lux.raiseSat, Lux.raise_sat]
  simp only [decide_eq_true_eq]

/-! ### The instructions -/

section
variable {s : State} {u opc d a b : Nat} {imm : Word} (hready : s.unitReady u = true) (hd : d < 16) (ha : a < 16)
include hready hd ha

/-- An instruction of three scalars. -/
theorem State.luxStep_scalar3 (hb : b < 16) {cost : Nat} {h : Word → Word → Word} {y : Word}
    (hy : h ((s.lux u).s a) ((s.lux u).s b) = y) :
    s.executes (s.luxStep u (scalar3 opc cost h) ⟨d, a, b, 0, 0, 0, 0⟩) u cost ((s.lux u).setS d y) ∧
      s.onlyUnit (s.luxStep u (scalar3 opc cost h) ⟨d, a, b, 0, 0, 0, 0⟩) u := by
  have hl : (scalar3 opc cost h).legal u ⟨d, a, b, 0, 0, 0, 0⟩ (s.lux u) = true :=
    LuxOp.legal_of_operands _ (LuxOp.on_every _ u rfl rfl rfl) rfl rfl hd ha hb rfl (by decide) rfl
  exact State.luxStep_onUnit hready hl (fun x => x.setS d (h (x.s a) (x.s b))) rfl (congrArg ((s.lux u).setS d) hy) rfl rfl

/-- An instruction of two scalars and an immediate. -/
theorem State.luxStep_scalarImm {mask : Word} {h : Word → Word → Word} {y : Word} (hi : imm &&& ~~~mask = 0)
    (hy : h ((s.lux u).s a) imm = y) :
    s.executes (s.luxStep u (scalarImm opc mask h) ⟨d, a, 0, 0, 0, 0, imm⟩) u 1 ((s.lux u).setS d y) ∧
      s.onlyUnit (s.luxStep u (scalarImm opc mask h) ⟨d, a, 0, 0, 0, 0, imm⟩) u := by
  have hl : (scalarImm opc mask h).legal u ⟨d, a, 0, 0, 0, 0, imm⟩ (s.lux u) = true :=
    LuxOp.legal_of_operands _ (LuxOp.on_every _ u rfl rfl rfl) rfl rfl hd ha Nat.one_pos rfl (by decide) hi
  exact State.luxStep_onUnit hready hl (fun x => x.setS d (h (x.s a) imm)) rfl (congrArg ((s.lux u).setS d) hy) rfl rfl

/-- An instruction of three scalars that may saturate. -/
theorem State.luxStep_scalar3Sat (hb : b < 16) {ae : Bool} {h : Word → Word → Word × Bool} {y : Word} {sat : Prop} [Decidable sat]
    (hon : (scalar3Sat opc ae h).on u = true) (hy : h ((s.lux u).s a) ((s.lux u).s b) = (y, decide sat)) :
    s.executes (s.luxStep u (scalar3Sat opc ae h) ⟨d, a, b, 0, 0, 0, 0⟩) u 1
        { (s.lux u).setS d y with flg := (s.lux u).flg ||| (if sat then 1 else 0) } ∧
      s.onlyUnit (s.luxStep u (scalar3Sat opc ae h) ⟨d, a, b, 0, 0, 0, 0⟩) u := by
  have hl : (scalar3Sat opc ae h).legal u ⟨d, a, b, 0, 0, 0, 0⟩ (s.lux u) = true :=
    LuxOp.legal_of_operands _ hon rfl rfl hd ha hb rfl (by decide) rfl
  refine State.luxStep_onUnit hready hl (fun x => (x.setS d (h (x.s a) (x.s b)).1).raiseSat (h (x.s a) (x.s b)).2) rfl ?_ rfl rfl
  dsimp only
  rw [hy]
  exact Lux.raiseSat_decide ..

end

/-- Settles O7, instruction by instruction: those of three scalars, those with an immediate, and those that saturate. -/
theorem scalarsCompute : Obligations.ScalarsCompute := by
  unfold Obligations.ScalarsCompute
  refine ⟨fun s u d a b imm hready hd ha hb => ?_, fun s u d a b hready hd ha hb => ?_⟩
  · intro x p q n i
    have three {opc cost : Nat} {h : Word → Word → Word} {y : Word} (hy : h p q = y) :=
      State.luxStep_scalar3 (opc := opc) (cost := cost) hready hd ha hb hy
    have imms {opc : Nat} {mask : Word} {h : Word → Word → Word} {y : Word} (hi : imm &&& ~~~mask = 0) (hy : h p imm = y) :=
      State.luxStep_scalarImm (opc := opc) hready hd ha hi hy
    have hall := Word.within_all imm
    have hon {o : LuxOp} (ha : o.ae = true) (hd : o.dsp = true) (hs : o.score = true) := o.on_every u ha hd hs
    have hlow (hi : i < 32) : shiftOf imm = i := Nat.mod_eq_of_lt hi
    simp only [List.forall_mem_cons, List.not_mem_nil, IsEmpty.forall_iff, implies_true, and_true]
    refine ⟨⟨⟨_, rfl, three rfl⟩, ⟨_, rfl, three rfl⟩, ⟨_, rfl, three rfl⟩, ⟨_, rfl, three rfl⟩, ⟨_, rfl, three rfl⟩,
      ⟨_, rfl, three rfl⟩, ⟨_, rfl, three rfl⟩, ⟨_, rfl, three rfl⟩, ⟨_, rfl, three rfl⟩, ⟨_, rfl, three (Word.mulh_eq p q)⟩,
      ⟨_, rfl, three (Word.min_eq p q)⟩, ⟨_, rfl, three (Word.max_eq p q)⟩, ⟨_, rfl, three (Word.slt_eq p q)⟩,
      ⟨_, rfl, three (Word.ult_eq p q)⟩, ⟨_, rfl, imms hall rfl⟩, ⟨_, rfl, ?_⟩, ⟨_, rfl, imms hall rfl⟩⟩,
      fun hi => ⟨⟨_, rfl, imms (Word.and_not_mask (n := 5) hi) ?_⟩, ⟨_, rfl, imms (Word.and_not_mask (n := 5) hi) ?_⟩,
        ⟨_, rfl, imms (Word.and_not_mask (n := 5) hi) ?_⟩⟩, fun hi => ⟨_, rfl, ?_⟩⟩
    · have hl : luxMovi.legal u ⟨d, 0, 0, 0, 0, 0, imm⟩ x = true :=
        LuxOp.legal_of_operands x (hon rfl rfl rfl) rfl rfl hd Nat.one_pos Nat.one_pos rfl (by decide) hall
      exact State.luxStep_onUnit hready hl (fun x => x.setS d imm) rfl rfl rfl rfl
    · exact congrArg (p <<< ·) (hlow hi)
    · exact congrArg (p >>> ·) (hlow hi)
    · exact congrArg p.sshiftRight (hlow hi)
    · have hl : luxSelz.legal u ⟨d, a, b, 0, 0, 0, imm⟩ x = true :=
        LuxOp.legal_of_operands x (hon rfl rfl rfl) rfl rfl hd ha hb rfl (by decide) (Word.and_not_mask (n := 4) hi)
      have hsel : imm.bits 0 4 = i := Word.bits_low (n := 4) hi
      refine State.luxStep_onUnit hready hl (fun x => x.setS d (if x.s (imm.bits 0 4) ≠ 0 then x.s a else x.s b)) rfl ?_ rfl rfl
      rw [hsel]
  · intro x p q sat ofl
    have three {opc : Nat} {h : Word → Word → Word × Bool} {z : Int} (hy : h p q = satInt z) :=
      State.luxStep_scalar3Sat (opc := opc) hready hd ha hb (LuxOp.on_every (scalar3Sat opc true h) u rfl rfl rfl)
        (hy.trans (satInt_eq z))
    have score {opc : Nat} {h : Word → Word → Word × Bool} {y : Word} {sat : Prop} [Decidable sat] (hu : 80 ≤ u)
        (hy : h p q = (y, decide sat)) :=
      (State.luxStep_scalar3Sat (opc := opc) hready hd ha hb (LuxOp.on_core (scalar3Sat opc false h) hu) hy).symm
    simp only [List.forall_mem_cons, List.not_mem_nil, IsEmpty.forall_iff, implies_true, and_true]
    refine ⟨⟨⟨_, rfl, three rfl⟩, ⟨_, rfl, three rfl⟩, ⟨_, rfl, ?_⟩⟩, fun hu => ⟨⟨_, rfl, ?_⟩, ⟨_, rfl, ?_⟩⟩⟩
    · have hl : luxAbs.legal u ⟨d, a, 0, 0, 0, 0, 0⟩ x = true :=
        LuxOp.legal_of_operands x (LuxOp.on_every _ u rfl rfl rfl) rfl rfl hd ha Nat.one_pos rfl (by decide) rfl
      refine State.luxStep_onUnit hready hl
        (fun x => (x.setS d (satInt (x.s a).toInt.natAbs).1).raiseSat (satInt (x.s a).toInt.natAbs).2) rfl ?_ rfl rfl
      rw [satInt_eq]
      exact Lux.raiseSat_decide ..
    · by_cases hq : q = 0
      · rw [if_pos hq, if_pos hq]
        exact score (sat := True) hu (if_pos hq)
      · rw [if_neg hq, if_neg hq]
        exact score hu ((if_neg hq).trans (satInt_eq _))
    · by_cases hq : q = 0
      · rw [if_pos hq, if_pos hq]
        exact score (sat := True) hu (if_pos hq)
      · rw [if_neg hq, if_neg hq]
        exact score (sat := False) hu ((if_neg hq).trans (congrArg (·, false) (BitVec.udiv_def)))

end Sys2Proof.Machine
end

section
/-! PROOFS. NOP, END, LOOP, RDF, CLRF, the branches, JAL and JR (R372, R373, R375, R384). -/

namespace Sys2Proof.Machine

/-! ### END (R373) -/

@[simp] theorem State.count_rope (s : State) (event unit n : Nat) : (s.count event unit n).rope = s.rope := by
  obtain ⟨perf, h⟩ := s.count_only event unit n
  rw [h]

theorem State.luxCount_rope (s : State) (u : Nat) (o : LuxOp) (f : Fields) (t : State) : (s.luxCount u o f t).rope = t.rope := by
  unfold State.luxCount
  simp only [apply_ite State.rope, State.count_rope, ite_self]

/-- A T unit fetches nothing from memory, so that beside its effect an instruction changes the performance counters alone. -/
theorem State.luxStep_rope {s : State} {u : Nat} (hready : s.unitReady u = true) (hu : u < 80) (o : LuxOp) (f : Fields) :
    (s.luxStep u o f).rope = (s.luxRun u o f).rope := by
  have hacts : s.unitActs u = true := (Bool.and_eq_true_iff.mp hready).1
  have hfetch : s.fetchFault u = none := if_pos hu
  have hfetched (t : State) : s.fetched u t = t := if_pos hu
  rw [State.luxStep, hacts, if_neg (by decide), hfetch]
  dsimp only
  rw [hfetched, State.luxCount_rope]

theorem State.perf_of_same {s t : State} (h : s.sameBesideCounts t) (hrope : t.rope = s.rope) : { t with perf := s.perf } = s :=
  Eq.trans (by rw [← hrope]) h

/-- A block's end: its unit idles, and its RUN entry, if it has one, is open no more. -/
theorem State.endBlock_only (s : State) (u : Nat) : ∃ entries,
    s.endBlock u = { s.setLux u { s.lux u with running := false, loops := [], mac := false } with
      tt := { s.tt with openEntries := entries } } ∧
    (∀ i, s.openRun (if u < 64 then u / 4 else u - 64) (if u < 64 then u % 4 else 4) = some i →
      entries = s.tt.openEntries.filter (· != (if u < 64 then u / 4 else u - 64, i))) ∧
    (s.openRun (if u < 64 then u / 4 else u - 64) (if u < 64 then u % 4 else 4) = none → entries = s.tt.openEntries) := by
  have hopen (k unit : Nat) (x : Lux) : (s.setLux u x).openRun k unit = s.openRun k unit :=
    State.openRun_of_tt (State.setLux_tt ..) k unit
  unfold State.endBlock
  dsimp only
  rw [hopen]
  cases s.openRun (if u < 64 then u / 4 else u - 64) (if u < 64 then u % 4 else 4) with
  | none => exact ⟨_, rfl, nofun, fun _ => rfl⟩
  | some i => exact ⟨_, rfl, fun _ hi => Option.some.inj hi ▸ rfl, nofun⟩

theorem State.luxRun_end (s : State) {u : Nat} (hu : u < 80) : s.luxRun u luxEnd noFields = s.endBlock u := by
  unfold State.luxRun
  dsimp only
  rw [if_pos (luxEnd_legal hu _)]
  exact if_pos hu

/-! ### LOOP (R372) -/

theorem loopBack_of_ne {g : LoopFrame} {pc : Nat} (h : pc ≠ g.stop) (r : List LoopFrame) :
    loopBack (g :: r) pc = (g :: r, pc, false) := by
  rw [loopBack, if_neg h]

/-- A LOOP that breaks no rule: its body starts, or it is skipped. -/
theorem luxLoop_run {s : State} {u : Nat} {f : Fields} {stop : Nat} (hlen : 0 < f.imm.bits 16 12)
    (hstop : (s.lux u).pc + 8 + 8 * f.imm.bits 16 12 = stop) (hdepth : (s.lux u).loops.length < 4)
    (hin : ∀ g ∈ (s.lux u).loops, stop ≤ g.stop) (hend : s.bodyHasEnd u ((s.lux u).pc + 8) (f.imm.bits 16 12) = false) :
    luxLoop.run u f s = if f.imm.bits 0 16 = 0 then .skip s stop
      else .done (s.setLux u { s.lux u with loops := ⟨(s.lux u).pc + 8, stop, f.imm.bits 0 16⟩ :: (s.lux u).loops }) := by
  have hany : ((s.lux u).loops.any fun g => decide (g.stop < stop)) = false :=
    List.any_eq_false.mpr fun g hg => by simpa using hin g hg
  dsimp only [luxLoop]
  rw [hstop, hend, hany, decide_eq_false (by omega), beq_eq_false_iff_ne.mpr (by omega)]
  rfl

/-- LOOP's count and length in its immediate. -/
theorem Word.bits_loop {imm : Word} (h : imm.toNat / 2 ^ 16 < 4096) :
    imm.bits 0 16 = imm.toNat % 2 ^ 16 ∧ imm.bits 16 12 = imm.toNat / 2 ^ 16 :=
  ⟨by rw [Word.bits, Nat.pow_zero, Nat.div_one], Nat.mod_eq_of_lt h⟩

/-! ### Branches (R384) -/

/-- A branch's target is counted in instructions from its own place. -/
theorem branchTo_eq (pc : Nat) (imm : Word) : branchTo pc imm = (((pc : Int) + 8 * imm.toInt) % 2 ^ 32).toNat := by
  have hsum : BitVec.ofNat 32 pc + 8 * imm = BitVec.ofInt 32 (pc + 8 * imm.toInt) := by
    rw [BitVec.ofInt_add, BitVec.ofInt_mul, BitVec.ofInt_natCast, BitVec.ofInt_toInt]
    rfl
  rw [branchTo, hsum, BitVec.toNat_ofInt]
  rfl

/-- A branch on two scalars: taken, or the next instruction follows. -/
theorem State.luxStep_branchOp {s : State} {u opc a b : Nat} {imm : Word} {test : Word → Word → Bool} {c : Bool}
    (hready : s.unitReady u = true) (hu : 80 ≤ u) (ha : a < 16) (hb : b < 16)
    (hc : test ((s.lux u).s a) ((s.lux u).s b) = c) :
    let t := s.luxStep u (branchOp opc test) ⟨0, a, b, 0, 0, 0, imm⟩
    s.onlyUnit t u ∧
      (c = true → t.lux u = { s.lux u with pc := (((s.lux u).pc + 8 * imm.toInt) % 2 ^ 32).toNat, mac := false }) ∧
      (c = false → s.executes t u 1 (s.lux u)) := by
  intro t
  have hl : (branchOp opc test).legal u ⟨0, a, b, 0, 0, 0, imm⟩ (s.lux u) = true :=
    LuxOp.legal_of_operands _ (LuxOp.on_core _ hu) rfl rfl Nat.one_pos ha hb rfl (by decide) (Word.within_all imm)
  cases c with
  | false =>
    have hrun : (branchOp opc test).run u ⟨0, a, b, 0, 0, 0, imm⟩ s = .done s := if_neg (by rw [hc]; decide)
    obtain ⟨hexec, -, -, honly, -⟩ := State.luxStep_completes (t := s) hready hl hrun rfl rfl rfl
    exact ⟨honly (s.onlyUnit_refl u), nofun, fun _ => hexec⟩
  | true =>
    have hrun : (branchOp opc test).run u ⟨0, a, b, 0, 0, 0, imm⟩ s = .jump s (branchTo (s.lux u).pc imm) := if_pos hc
    rw [branchTo_eq] at hrun
    obtain ⟨honly, hlux⟩ := State.luxStep_jump hready hl hrun (s.onlyUnit_refl u) rfl
    exact ⟨honly, fun _ => hlux, nofun⟩

/-- Settles O8: the control instructions, and those that leave the sequence of their code. -/
theorem controlAndBranches : Obligations.ControlAndBranches := by
  unfold Obligations.ControlAndBranches
  refine ⟨fun s u d imm hready hd => ?_, fun s u a b d imm hready hu ha hb hd => ?_⟩
  · intro x
    have hon {o : LuxOp} (ha : o.ae = true) (hd : o.dsp = true) (hs : o.score = true) := o.on_every u ha hd hs
    refine ⟨⟨_, rfl, ?_⟩, ⟨_, rfl, ?_⟩, fun hi => ⟨_, rfl, ?_⟩, fun hu => ⟨_, rfl, ?_⟩, ?_⟩
    · have hl : luxNop.legal u noFields x = true :=
        LuxOp.legal_of_operands x (hon rfl rfl rfl) rfl rfl Nat.one_pos Nat.one_pos Nat.one_pos rfl (by decide) rfl
      obtain ⟨hexec, -, -, honly, -⟩ := State.luxStep_completes (t := s) hready hl rfl rfl rfl rfl
      exact ⟨hexec, honly (s.onlyUnit_refl u)⟩
    · have hl : luxRdf.legal u ⟨d, 0, 0, 0, 0, 0, 0⟩ x = true :=
        LuxOp.legal_of_operands x (hon rfl rfl rfl) rfl rfl hd Nat.one_pos Nat.one_pos rfl (by decide) rfl
      exact State.luxStep_onUnit hready hl (fun x => x.setS d (x.flg.setWidth 32)) rfl rfl rfl rfl
    · have hl : luxClrf.legal u ⟨0, 0, 0, 0, 0, 0, imm⟩ x = true :=
        LuxOp.legal_of_operands x (hon rfl rfl rfl) rfl rfl Nat.one_pos Nat.one_pos Nat.one_pos rfl (by decide)
          (Word.and_not_mask (n := 4) hi)
      exact State.luxStep_onUnit hready hl (fun x => x.clearFlags (imm.setWidth 4)) rfl rfl rfl rfl
    · have hsame := State.luxRun_same (o := luxEnd) (f := noFields) hready
      have hrope := State.luxStep_rope hready hu luxEnd noFields
      rw [s.luxRun_end hu] at hsame hrope
      obtain ⟨entries, hblock, hsome, hnone⟩ := s.endBlock_only u
      have hperf := State.perf_of_same hsame hrope
      rw [hblock] at hsame hperf
      refine ⟨(State.sameBesideCounts_lux hsame u).trans ((State.lux_setLux ..).trans (if_pos rfl)),
        fun v hv => (State.sameBesideCounts_lux hsame v).trans ((State.lux_setLux ..).trans (if_neg hv)), ?_, ?_⟩
      · exact congrArg (fun z : State => { z with units := s.units, perf := s.perf, tt := { z.tt with
          openEntries := s.tt.openEntries } }) hperf
      · refine (congrArg Tt.openEntries (State.sameBesideCounts_tt hsame)).trans ?_
        split
        next i hi => exact hsome i hi
        next hi => exact hnone hi
    · intro count len stop hpos hlen hdepth hin hend
      have hl : luxLoop.legal u ⟨0, 0, 0, 0, 0, 0, imm⟩ x = true :=
        LuxOp.legal_of_operands x (hon rfl rfl rfl) rfl rfl Nat.one_pos Nat.one_pos Nat.one_pos rfl (by decide)
          (Word.and_not_mask (n := 28) (by omega))
      obtain ⟨hcount, hbody⟩ := Word.bits_loop hlen
      have hrun := luxLoop_run (s := s) (u := u) (f := ⟨0, 0, 0, 0, 0, 0, imm⟩) (stop := stop) (by rw [hbody]; exact hpos)
        (by rw [hbody]) hdepth hin (by rw [hbody]; exact hend)
      dsimp only at hrun
      rw [hcount] at hrun
      refine ⟨_, rfl, ?_⟩
      rcases Nat.eq_zero_or_pos count with h0 | h0
      · rw [if_pos h0] at hrun
        obtain ⟨honly, hlux⟩ := State.luxStep_skip hready hl hrun
        refine ⟨honly, by rw [hlux]; rfl, fun h => absurd h0 (by omega), fun _ hnil => ?_⟩
        rw [hlux, Lux.follow, hnil]
        exact ⟨rfl, rfl⟩
      · rw [if_neg (by omega)] at hrun
        obtain ⟨mac, hsame⟩ := State.luxStep_done s _ u luxLoop _ hready hl hrun
        have hlux := State.sameBesideCounts_lux hsame u
        have honly := State.onlyUnit_counted (State.onlyUnit_setLux (State.onlyUnit_setLux (s.onlyUnit_refl u) _) _) hsame
        have hstart : x.pc + 8 ≠ stop := by omega
        rw [State.followAt, State.lux_setLux, if_pos rfl, State.lux_setLux, if_pos rfl, Lux.follow, loopBack_of_ne hstart] at hlux
        exact ⟨honly, by rw [hlux]; rfl, fun _ => by rw [hlux]; exact ⟨rfl, rfl⟩, fun h => absurd h (by omega)⟩
  · intro x p q target f
    have branch {opc : Nat} {test : Word → Word → Bool} {c : Bool} (hc : test p q = c) :=
      State.luxStep_branchOp (opc := opc) (imm := imm) hready hu ha hb hc
    simp only [List.forall_mem_cons, List.not_mem_nil, IsEmpty.forall_iff, implies_true, and_true]
    refine ⟨⟨⟨_, rfl, branch ?_⟩, ⟨_, rfl, branch ?_⟩, ⟨_, rfl, branch rfl⟩, ⟨_, rfl, branch ?_⟩, ⟨_, rfl, branch rfl⟩,
      ⟨_, rfl, branch ?_⟩⟩, ⟨_, rfl, ?_⟩, fun hp => ⟨_, rfl, ?_⟩⟩
    · exact Bool.beq_eq_decide_eq p q
    · exact (congrArg Bool.not (Bool.beq_eq_decide_eq p q)).trans (decide_not ..).symm
    · exact BitVec.sle_eq_not_slt.symm
    · exact (BitVec.ule_eq_not_ult q p).symm
    · have hl : luxJal.legal u ⟨d, 0, 0, 0, 0, 0, imm⟩ x = true :=
        LuxOp.legal_of_operands x (LuxOp.on_core _ hu) rfl rfl hd Nat.one_pos Nat.one_pos rfl (by decide) (Word.within_all imm)
      have hrun : luxJal.run u ⟨d, 0, 0, 0, 0, 0, imm⟩ s =
          .jump (s.setLux u (x.setS d (BitVec.ofNat 32 (x.pc + 8)))) target := congrArg (LuxRes.jump _) (branchTo_eq x.pc imm)
      exact State.luxStep_jump hready hl hrun (State.onlyUnit_setLux (s.onlyUnit_refl u) _) ((State.lux_setLux ..).trans (if_pos rfl))
    · have hl : luxJr.legal u ⟨0, a, 0, 0, 0, 0, 0⟩ x = true :=
        LuxOp.legal_of_operands x (LuxOp.on_core _ hu) rfl rfl Nat.one_pos ha Nat.one_pos rfl (by decide) rfl
      exact State.luxStep_jump hready hl (if_pos hp) (s.onlyUnit_refl u) rfl

end Sys2Proof.Machine
end

section
/-! PROOFS. XMOV, XADDI, SFROMX, PMOV, PADDI and SFROMP (R365, R377). -/

namespace Sys2Proof.Machine

/-- An index register written wraps at its width (R359). -/
theorem Lux.setX_eq (x : Lux) (u d : Nat) (v : Int) : x.setX u d v = if d = 0 then x
    else { x with xr := Tab.put 0 x.xr d (v % ((if u < 64 then 2 ^ 13 else 2 ^ 15 : Nat) : Int)).toNat } := by
  have hwidth : (2 : Int) ^ xWidth u = ((if u < 64 then 2 ^ 13 else 2 ^ 15 : Nat) : Int) := by
    unfold xWidth
    split <;> rfl
  rw [Lux.setX, hwidth]

theorem Lux.inPlace_setX (x : Lux) (u d : Nat) (v : Int) : x.inPlace (x.setX u d v) = x.setX u d v := by
  unfold Lux.setX
  split <;> rfl

/-- Settles O9, instruction by instruction. -/
theorem indicesAndPointers : Obligations.IndicesAndPointers := by
  unfold Obligations.IndicesAndPointers
  intro s u d a imm hready x n setIndex
  have hset (v : Int) : x.setX u d v = setIndex (v % (n : Int)).toNat := x.setX_eq u d v
  refine ⟨fun hu hd ha => ⟨_, rfl, ?_⟩, fun hu hd ha => ⟨_, rfl, ?_⟩, fun hu hd ha => ⟨_, rfl, ?_⟩, fun hu hd ha => ⟨_, rfl, ?_⟩,
    fun hu hd ha => ⟨_, rfl, ?_⟩, fun hu hd ha => ⟨_, rfl, ?_⟩⟩
  · have hl : luxXmov.legal u ⟨d, a, 0, 0, 0, 0, 0⟩ x = true :=
      LuxOp.legal_of_operands x (luxXmov.on_tUnit hu rfl rfl) rfl rfl hd ha Nat.one_pos rfl (by decide) rfl
    rw [← Int.toNat_natCast ((x.s a).toNat % n), Int.natCast_mod, ← hset]
    exact State.luxStep_onUnit hready hl (fun x => x.setX u d (x.s a).toNat) rfl rfl rfl (x.inPlace_setX ..)
  · have hl : luxXaddi.legal u ⟨d, a, 0, 0, 0, 0, imm⟩ x = true :=
      LuxOp.legal_of_operands x (luxXaddi.on_tUnit hu rfl rfl) rfl rfl hd ha Nat.one_pos rfl (by decide) (Word.within_all imm)
    rw [← hset]
    exact State.luxStep_onUnit hready hl (fun x => x.setX u d (x.x a + imm.toInt)) rfl rfl rfl (x.inPlace_setX ..)
  · have hl : luxSfromx.legal u ⟨d, a, 0, 0, 0, 0, 0⟩ x = true :=
      LuxOp.legal_of_operands x (luxSfromx.on_tUnit hu rfl rfl) rfl rfl hd ha Nat.one_pos rfl (by decide) rfl
    have hzero : (if a = 0 then 0 else x.x a) = x.x a := ite_eq_right_iff.mpr fun h => (if_pos h).symm
    rw [hzero]
    exact State.luxStep_onUnit hready hl (fun x => x.setS d (BitVec.ofNat 32 (x.x a))) rfl rfl rfl rfl
  · have hl : luxPmov.legal u ⟨d, a, 0, 0, 0, 0, 0⟩ x = true :=
      LuxOp.legal_of_operands x (luxPmov.on_core hu) rfl rfl hd ha Nat.one_pos rfl (by decide) rfl
    exact State.luxStep_onUnit hready hl (fun x => x.setP d (x.s a)) rfl rfl rfl rfl
  · have hl : luxPaddi.legal u ⟨d, a, 0, 0, 0, 0, imm⟩ x = true :=
      LuxOp.legal_of_operands x (luxPaddi.on_core hu) rfl rfl hd ha Nat.one_pos rfl (by decide) (Word.within_all imm)
    exact State.luxStep_onUnit hready hl (fun x => x.setP d (x.p a + imm)) rfl rfl rfl rfl
  · have hl : luxSfromp.legal u ⟨d, a, 0, 0, 0, 0, 0⟩ x = true :=
      LuxOp.legal_of_operands x (luxSfromp.on_core hu) rfl rfl hd ha Nat.one_pos rfl (by decide) rfl
    exact State.luxStep_onUnit hready hl (fun x => x.setS d (x.p a)) rfl rfl rfl rfl

end Sys2Proof.Machine
end

section
/-! PROOFS. VCMP, VSQRT and SINCOS (R380-R382). -/

namespace Sys2Proof.Machine

/-! ### VCMP: comparison by exact value (R380) -/

theorem Lux.inPlace_setS (x : Lux) (d : Nat) (w : Word) : x.inPlace (x.setS d w) = x.setS d w := rfl

/-- The value of a mantissa at an exponent (R8). -/
def exactValue (m : BitVec 24) (e : Int) : ℚ := (m.toInt : ℚ) * 2 ^ e

/-- On one scale two mantissas are their values times the same power of two. -/
theorem exactValue_sameScale (m n : BitVec 24) (e g : Int) :
    exactValue m e = ((sameScale m e n g).1 : ℚ) * 2 ^ min e g ∧ exactValue n g = ((sameScale m e n g).2 : ℚ) * 2 ^ min e g := by
  have hscale (k : BitVec 24) {i l : Int} (h : l ≤ i) :
      exactValue k i = ((k.toInt * 2 ^ (i - l).toNat : Int) : ℚ) * 2 ^ l := by
    have hpow : (2 : ℚ) ^ i = 2 ^ (i - l).toNat * 2 ^ l := by
      rw [← zpow_natCast, Int.toNat_of_nonneg (by omega), ← zpow_add₀ (by decide), Int.sub_add_cancel]
    rw [exactValue, hpow, Int.cast_mul, Int.cast_pow, mul_assoc]
    rfl
  exact ⟨hscale m (min_le_left e g), hscale n (min_le_right e g)⟩

/-- One lane of VCMP is the condition on the exact values. -/
theorem cmpLane_iff {cond : Nat} (hc : cond < 4) (m n : BitVec 24) (e g : Int) :
    cmpLane cond m e n g = true ↔
      (cond = 0 ∧ exactValue m e < exactValue n g) ∨ (cond = 1 ∧ exactValue m e ≤ exactValue n g) ∨
      (cond = 2 ∧ exactValue m e = exactValue n g) ∨ (cond = 3 ∧ |exactValue n g| < |exactValue m e|) := by
  obtain ⟨hm, hn⟩ := exactValue_sameScale m n e g
  have hpos : (0 : ℚ) < 2 ^ min e g := zpow_pos (by decide) _
  rw [hm, hn, abs_mul, abs_mul, mul_lt_mul_iff_left₀ hpos, mul_le_mul_iff_left₀ hpos, mul_left_inj' hpos.ne',
    mul_lt_mul_iff_left₀ (abs_pos.mpr hpos.ne'), Int.cast_lt, Int.cast_le, Int.cast_inj, ← Int.cast_abs, ← Int.cast_abs, Int.cast_lt,
    Int.abs_eq_natAbs, Int.abs_eq_natAbs, Int.ofNat_lt]
  obtain rfl | rfl | rfl | rfl : cond = 0 ∨ cond = 1 ∨ cond = 2 ∨ cond = 3 := by omega
  all_goals simp [cmpLane]

/-- The lanes' bits as the word that VCMP leaves. -/
theorem getLsbD_laneBits (v : Lanes Bool) (k : Nat) :
    (BitVec.ofNat 32 ((v.toList.mapIdx fun j c => bitNat c * 2 ^ j).foldl (· + ·) 0)).getLsbD k = (decide (k < 8) && v.get k) := by
  have hsum : (v.toList.mapIdx fun j c => bitNat c * 2 ^ j).foldl (· + ·) 0 = Nat.ofBits fun i : Fin 8 => v.get i := by
    have hbit (c : Bool) : bitNat c = c.toNat := by cases c <;> rfl
    simp only [hbit]
    simp [Lanes.toList, Nat.ofBits, Fin.foldr_succ, Lanes.get]
    omega
  rw [hsum, BitVec.getLsbD_ofNat]
  by_cases hk : k < 8
  · rw [Nat.testBit_ofBits_lt _ k hk, decide_eq_true hk, decide_eq_true (by omega)]
  · rw [Nat.testBit_ofBits_ge _ k (by omega), decide_eq_false hk, Bool.and_false, Bool.false_and]

theorem Lanes.get_zip {α β γ : Type} (f : α → β → γ) (v : Lanes α) (w : Lanes β) (k : Nat) :
    (v.zip f w).get k = f (v.get k) (w.get k) := by
  unfold Lanes.get
  split <;> rfl

/-- The word that VCMP leaves: each lane's condition on the exact values (R380). -/
def cmpWord (cond : Nat) (v w : Stage) : Word := BitVec.ofNat 32
  (((Lanes.zip (fun m n => cmpLane cond m v.e.toInt n w.e.toInt) v.m w.m).toList.mapIdx fun j c => bitNat c * 2 ^ j).foldl (· + ·) 0)

theorem getLsbD_cmpWord (cond : Nat) (v w : Stage) (k : Nat) : (cmpWord cond v w).getLsbD k =
    (decide (k < 8) && cmpLane cond (v.m.get k) v.e.toInt (w.m.get k) w.e.toInt) := by
  rw [cmpWord, getLsbD_laneBits, Lanes.get_zip]

theorem exec_vcmp (s : State) (u : Nat) (f : Fields) : exec (.vcmp u f) s = .next (s.luxStep u luxVcmp f) := rfl

theorem luxVcmp_run (u : Nat) (f : Fields) (s : State) :
    luxVcmp.run u f s = s.onUnit u fun x => x.setS f.d (cmpWord (f.f % 4) (x.v f.a) (x.v f.b)) := rfl

/-- Settles O13: on the smaller of the two exponents, the model's comparison of integers is that of the exact values. -/
theorem vcmpComparesExactly : Obligations.VcmpComparesExactly := by
  unfold Obligations.VcmpComparesExactly
  intro s u d a b cond hready hu hd ha hb hcond x value p q
  have hl : luxVcmp.legal u ⟨d, a, b, 0, 0, cond, 0⟩ x = true := LuxOp.legal_of_operands x (luxVcmp.on_engine hu) rfl rfl hd ha hb
    (within_low (k := 2) hcond) (by omega) rfl
  have hy : x.setS d (cmpWord (cond % 4) (x.v a) (x.v b)) = x.setS d (cmpWord cond (x.v a) (x.v b)) := by
    rw [Nat.mod_eq_of_lt hcond]
  obtain ⟨hexec, honly⟩ := State.luxStep_onUnit hready hl _ (luxVcmp_run ..) hy rfl (x.inPlace_setS d _)
  refine ⟨_, _, exec_vcmp s u _, hexec, honly, fun k hk => ?_, fun k hk => ?_⟩
  · rw [getLsbD_cmpWord, decide_eq_false (by omega), Bool.false_and]
  · rw [getLsbD_cmpWord, decide_eq_true hk, Bool.true_and]
    exact cmpLane_iff hcond ..

/-! ### VSQRT: the root rounded down (R381) -/

theorem eq_sqrt_of_bracket {n lo hi : Nat} (hlo : lo * lo ≤ n) (hhi : n < hi * hi) (h : hi ≤ lo + 1) : lo = Nat.sqrt n :=
  Nat.eq_sqrt.mpr ⟨hlo, hhi.trans_le (Nat.mul_le_mul h h)⟩

/-- Bisection between a number whose square is at most `n` and one whose square is above it ends at the root. -/
theorem isqrtAux_eq {n fuel lo hi : Nat} (hlo : lo * lo ≤ n) (hhi : n < hi * hi) (hfuel : hi ≤ lo + 2 ^ fuel) :
    isqrtAux n fuel lo hi = Nat.sqrt n := by
  induction fuel generalizing lo hi with
  | zero => exact eq_sqrt_of_bracket hlo hhi hfuel
  | succ fuel ih =>
    rw [Nat.pow_succ] at hfuel
    rw [isqrtAux]
    dsimp only
    split
    next h => exact eq_sqrt_of_bracket hlo hhi h
    next h =>
      split
      next hmid => exact ih hmid hhi (by omega)
      next hmid => exact ih hlo (Nat.lt_of_not_le hmid) (by omega)

theorem isqrt_eq (n : Nat) : isqrt n = Nat.sqrt n := by
  have hlog : n < 2 ^ (Nat.log2 n + 1) := Nat.lt_log2_self
  refine isqrtAux_eq (Nat.zero_le n) (by nlinarith) ?_
  rw [show Nat.log2 n + 2 = Nat.log2 n + 1 + 1 from rfl, Nat.pow_succ]
  omega

/-- One lane of VSQRT: the root at 22 or 23 further bits. -/
def rootLane (r : Nat) (m : BitVec 24) : BitVec 24 :=
  if m.toInt < 0 then 0 else mant (isqrt (m.toInt.toNat * 2 ^ (22 + r)))

theorem rootLane_of_neg {r : Nat} {m : BitVec 24} (h : m.toInt < 0) : (rootLane r m).toInt = 0 := by
  rw [rootLane, if_pos h]
  rfl

theorem rootLane_toInt {r : Nat} {m : BitVec 24} (hr : r ≤ 1) (h : 0 ≤ m.toInt) :
    (rootLane r m).toInt = (Nat.sqrt (m.toInt.toNat * 2 ^ (22 + r)) : Nat) := by
  have hm : m.toInt < 2 ^ 23 := m.toInt_lt
  have hpow : 2 ^ (22 + r) ≤ 2 ^ 23 := Nat.pow_le_pow_right (by decide) (by omega)
  have hroot : Nat.sqrt (m.toInt.toNat * 2 ^ (22 + r)) < 2 ^ 23 :=
    Nat.sqrt_lt.mpr (Nat.mul_lt_mul_of_lt_of_le (by omega) hpow (by decide))
  rw [rootLane, if_neg (by omega), mant, isqrt_eq]
  exact BitVec.toInt_ofInt_eq_self (by decide) (by omega) (by omega)

/-- The stage that VSQRT leaves, at half the exponent. -/
def rootStage (v : Stage) : Stage :=
  let r : Nat := if v.e.toInt % 2 = 0 then 1 else 0
  ⟨v.m.map (rootLane r), BitVec.ofInt 8 ((v.e.toInt + 1 - r) / 2)⟩

theorem luxVsqrt_run (u : Nat) (f : Fields) (s : State) : luxVsqrt.run u f s = s.onUnit u fun x =>
    (x.setV f.d (rootStage (x.v f.a))).raiseSat ((x.v f.a).m.toList.any fun m => decide (m.toInt < 0)) := rfl

theorem exec_vsqrt (s : State) (u : Nat) (f : Fields) : exec (.vsqrt u f) s = .next (s.luxStep u luxVsqrt f) := rfl

/-- Settles O14: each lane is the model's bisection, which is the root rounded down. -/
theorem vsqrtRoundsDown : Obligations.VsqrtRoundsDown := by
  unfold Obligations.VsqrtRoundsDown
  intro s u d a hready hu hd ha x v r
  have hr : r ≤ 1 := by
    dsimp only [r]
    split <;> omega
  have hl : luxVsqrt.legal u ⟨d, a, 0, 0, 0, 0, 0⟩ x = true :=
    LuxOp.legal_of_operands x (luxVsqrt.on_engine hu) rfl rfl hd ha Nat.one_pos rfl (by decide) rfl
  have hy : (x.setV d (rootStage v)).raiseSat (v.m.toList.any fun m => decide (m.toInt < 0)) =
      { x.setV d (rootStage v) with flg := x.flg ||| (if v.m.toList.any (fun m => m.slt 0) then 1 else 0) } := Lux.raise_sat ..
  obtain ⟨hexec, honly⟩ := State.luxStep_onUnit hready hl _ (luxVsqrt_run ..) hy rfl rfl
  have he := v.e.toInt_lt
  have he' := v.e.le_toInt
  refine ⟨_, rootStage v, exec_vsqrt s u _, honly, hexec, BitVec.toInt_ofInt_eq_self (by decide) (by omega) (by omega), fun k hk => ?_⟩
  intro m q
  have hq : q = (rootLane r (v.m.get k)).toInt := congrArg BitVec.toInt (Lanes.get_map ..)
  refine ⟨fun hm => hq.trans (rootLane_of_neg hm), fun hm => ?_⟩
  obtain ⟨n, hn⟩ := Int.eq_ofNat_of_zero_le hm
  have hroot : q = (Nat.sqrt (n * 2 ^ (22 + r)) : Nat) := by
    have hnat : (v.m.get k).toInt.toNat = n := by rw [show (v.m.get k).toInt = n from hn, Int.toNat_natCast]
    rw [hq, rootLane_toInt hr hm, hnat]
  have hle := Nat.sqrt_le (n * 2 ^ (22 + r))
  have hlt := Nat.lt_succ_sqrt (n * 2 ^ (22 + r))
  rw [hroot, hn]
  exact ⟨Int.natCast_nonneg _, by exact_mod_cast hle, by exact_mod_cast hlt⟩

/-! ### SINCOS: the quarter-wave table (R382) -/

/-- The stage of a sine and a cosine. -/
def sinCosStage (r : Int × Int) : Stage :=
  ⟨⟨mant r.2, mant r.1, mant (-r.1), mant r.2, mant r.2, mant r.1, mant (-r.1), mant r.2⟩, 1⟩

theorem luxSincos_run (u : Nat) (f : Fields) (s : State) :
    luxSincos.run u f s = s.onUnit u fun x => x.setV f.d (sinCosStage (sinCos (x.s f.a))) := rfl

theorem exec_sincos (s : State) (u : Nat) (f : Fields) : exec (.sincos u f) s = .next (s.luxStep u luxSincos f) := rfl

theorem Lux.inPlace_setV (x : Lux) (d : Nat) (st : Stage) : x.inPlace (x.setV d st) = x.setV d st := rfl

/-- Settles O15: the sine and the cosine are those of the quarter that the angle lies in. -/
theorem sincosLanes : Obligations.SincosLanes := by
  unfold Obligations.SincosLanes
  intro s u d a hready hu hd ha x angle b p n sin cos lane
  have hl : luxSincos.legal u ⟨d, a, 0, 0, 0, 0, 0⟩ x = true :=
    LuxOp.legal_of_operands x (luxSincos.on_engine hu) rfl rfl hd ha Nat.one_pos rfl (by decide) rfl
  have hsc : sinCos (x.s a) = (sin, cos) := by
    have hlt : angle < 2 ^ 32 := (x.s a).isLt
    have hquarter : angle / 2 ^ 30 = 0 ∨ angle / 2 ^ 30 = 1 ∨ angle / 2 ^ 30 = 2 ∨ angle / 2 ^ 30 = 3 := by omega
    have hsin : sinCos (x.s a) = match angle / 2 ^ 30 with
      | 0 => (p, n)
      | 1 => (n, -p)
      | 2 => (-p, -n)
      | _ => (-n, p) := rfl
    rw [hsin]
    rcases hquarter with h | h | h | h <;> simp only [sin, cos, h]
  have hy : x.setV d (sinCosStage (sinCos (x.s a))) = x.setV d (sinCosStage (sin, cos)) := by rw [hsc]
  obtain ⟨hexec, honly⟩ := State.luxStep_onUnit hready hl _ (luxSincos_run ..) hy rfl (x.inPlace_setV d _)
  exact ⟨_, exec_sincos s u _, honly, hexec⟩

end Sys2Proof.Machine
end

section
/-! PROOFS. Words of memory as the bytes of a row (R64, R385). -/

namespace Sys2Proof.Machine

/-- A number is stored as its low bytes alone. -/
theorem bytesLE_mod (n v : Nat) : bytesLE n (v % 256 ^ n) = bytesLE n v := by
  induction n generalizing v with
  | zero => rfl
  | succ n ih =>
    have hlow : BitVec.ofNat 8 (v % 256 ^ (n + 1)) = BitVec.ofNat 8 v := by
      apply BitVec.eq_of_toNat_eq
      rw [BitVec.toNat_ofNat, BitVec.toNat_ofNat, Nat.pow_succ']
      exact Nat.mod_mul_right_mod v 256 (256 ^ n)
    rw [bytesLE, hlow, Nat.pow_succ', Nat.mod_mul_right_div_self, ih]
    rfl

/-- Two numbers stored one after the other. -/
theorem bytesLE_append (m n v w : Nat) (h : v < 256 ^ m) : bytesLE (m + n) (v + 256 ^ m * w) = bytesLE m v ++ bytesLE n w := by
  induction m generalizing v with
  | zero =>
    obtain rfl : v = 0 := by omega
    simp [bytesLE]
  | succ m ih =>
    have hhigh : (v + 256 ^ (m + 1) * w) / 256 = v / 256 + 256 ^ m * w := by
      rw [Nat.pow_succ', Nat.mul_assoc, Nat.add_mul_div_left _ _ (by decide)]
    have hlow : BitVec.ofNat 8 (v + 256 ^ (m + 1) * w) = BitVec.ofNat 8 v := by
      apply BitVec.eq_of_toNat_eq
      rw [BitVec.toNat_ofNat, BitVec.toNat_ofNat, Nat.pow_succ', Nat.mul_assoc]
      exact Nat.add_mul_mod_self_left ..
    rw [Nat.succ_add, bytesLE, hlow, hhigh, ih (v / 256) (by rw [Nat.pow_succ] at h; omega)]
    rfl

/-- A number stored after the bytes `pre` of a row is read there as a word. -/
theorem Mem.word_stored (m : Mem) (a : Nat) (pre post : List Byte) (v : Nat) :
    (m.setBytes a (pre ++ (bytesLE 4 v ++ post))).word (a + pre.length) = BitVec.ofNat 32 v := by
  have hbyte {j : Nat} (hj : j < 4) : nthD 0 (pre ++ (bytesLE 4 v ++ post)) (pre.length + j) = nthD 0 (bytesLE 4 v) j := by
    have hlen : (bytesLE 4 v).length = 4 := bytesLE_length 4 v
    rw [nthD_eq_getD, nthD_eq_getD, List.getD_append_right _ _ _ _ (by omega), Nat.add_sub_cancel_left,
      List.getD_append _ _ _ _ (by omega)]
  have hfirst := hbyte (j := 0) (by decide)
  rw [Nat.add_zero] at hfirst
  rw [m.word_setBytes _ (by rw [List.length_append, List.length_append, bytesLE_length]; omega), hbyte (by decide),
    hbyte (by decide), hbyte (by decide), hfirst, ← bytesLE_mod]
  exact Word.ofNat_bytes (BitVec.ofNat 32 v)

theorem length_wordBytes (ws : List Word) : (ws.flatMap fun w => bytesLE 4 w.toNat).length = 4 * ws.length := by
  simp [List.length_flatMap, bytesLE_length, Nat.mul_comm]

/-- A row of words stored from `a`. -/
theorem Mem.word_storedWords (m : Mem) (a : Nat) (ws : List Word) (post : List Byte) {j : Nat} (h : j < ws.length) :
    (m.setBytes a (ws.flatMap (fun w => bytesLE 4 w.toNat) ++ post)).word (a + 4 * j) = ws[j] := by
  have hsplit : ws.flatMap (fun w => bytesLE 4 w.toNat) ++ post = (ws.take j).flatMap (fun w => bytesLE 4 w.toNat) ++
      (bytesLE 4 ws[j].toNat ++ ((ws.drop (j + 1)).flatMap (fun w => bytesLE 4 w.toNat) ++ post)) := by
    conv_lhs => rw [← List.take_append_drop j ws, List.drop_eq_getElem_cons h]
    simp only [List.flatMap_append, List.flatMap_cons, List.append_assoc]
  rw [hsplit, show 4 * j = ((ws.take j).flatMap fun w => bytesLE 4 w.toNat).length by
    rw [length_wordBytes, List.length_take_of_le (by omega)], Mem.word_stored, BitVec.ofNat_toNat, BitVec.setWidth_eq]

theorem Mem.toNat_word (m : Mem) (a : Nat) : (m.word a).toNat = (m.byte a).toNat +
    256 * ((m.byte (a + 1)).toNat + 256 * ((m.byte (a + 2)).toNat + 256 * (m.byte (a + 3)).toNat)) := by
  have h0 := (m.byte a).isLt
  have h1 := (m.byte (a + 1)).isLt
  have h2 := (m.byte (a + 2)).isLt
  simp only [Mem.word, BitVec.toNat_append]
  rw [← Nat.shiftLeft_add_eq_or_of_lt h2, ← Nat.shiftLeft_add_eq_or_of_lt h1, ← Nat.shiftLeft_add_eq_or_of_lt h0]
  simp only [Nat.shiftLeft_eq]
  omega

/-- A word apart from the bytes stored. -/
theorem Mem.word_setBytes_out (m : Mem) {a b : Nat} (bs : List Byte) (h : b + 4 ≤ a ∨ a + bs.length ≤ b) :
    (m.setBytes a bs).word b = m.word b := by
  have hbyte {z : Nat} (hz : b ≤ z) (hz' : z < b + 4) : (m.setBytes a bs).byte z = m.byte z :=
    m.byte_setBytes_out a z bs (by omega)
  rw [Mem.word, hbyte (by omega) (by omega), hbyte (by omega) (by omega), hbyte (by omega) (by omega),
    hbyte (Nat.le_refl b) (by omega)]
  rfl

/-- The bytes of a word are those of its number. -/
theorem Mem.natLE_bytes_four (m : Mem) (a : Nat) : natLE (m.bytes a 4) = (m.word a).toNat := by
  rw [m.toNat_word]
  rfl

theorem Mem.natLE_bytes_eight (m : Mem) (a : Nat) :
    natLE (m.bytes a 8) = (m.word a).toNat + 2 ^ 32 * (m.word (a + 4)).toNat := by
  have hsplit : natLE (m.bytes a 8) = (m.byte a).toNat + 256 * ((m.byte (a + 1)).toNat + 256 * ((m.byte (a + 2)).toNat +
      256 * ((m.byte (a + 3)).toNat + 256 * natLE (m.bytes (a + 4) 4)))) := rfl
  rw [hsplit, m.natLE_bytes_four, m.toNat_word a]
  omega

end Sys2Proof.Machine
end

section
/-! PROOFS. LDW, LDBU, LDD, STW, STB, STD, AMOADD, RGR and RGW (R385, R392, R504). -/

namespace Sys2Proof.Machine

/-! ### Accesses of an S-core to memory (R385, R388, R392) -/

/-- The address of an access is counted modulo 2^32. -/
theorem Lux.sAddr_eq (x : Lux) (f : Fields) : x.sAddr f = ((((x.p f.x).toNat : Int) + f.imm.toInt) % 2 ^ 32).toNat := by
  have hsum : x.p f.x + f.imm = BitVec.ofInt 32 ((x.p f.x).toNat + f.imm.toInt) := by
    rw [BitVec.ofInt_add, BitVec.ofInt_natCast, BitVec.ofNat_toNat, BitVec.setWidth_eq, BitVec.ofInt_toInt]
  rw [Lux.sAddr, hsum, BitVec.toNat_ofInt]
  rfl

theorem Uses.fits_pointer {B : Cls} {d b k : Nat} {imm : Word} (hd : d < 16) (hb : b < B.limit) (hk : k < 8) :
    Uses.fits { d := .s, b := B, ptr := true, imm := 0xFFFFFFFF#32 } ⟨d, 0, b, k, 0, 0, imm⟩ = true := by
  have hs : Cls.s.limit = 16 := rfl
  have hnone : Cls.none.limit = 1 := rfl
  simp [Uses.fits, hs, hnone, hd, hb, hk, within]

theorem State.sCheck_read {s : State} {a n : Nat} (halign : a % n = 0) (hopen : s.softReads a = true) : s.sCheck a n false = none := by
  rw [State.sCheck, if_neg (not_not.mpr halign)]
  exact if_neg (by rw [if_neg Bool.false_ne_true, hopen]; decide)

theorem State.sCheck_write {s : State} {a n : Nat} (halign : a % n = 0) (hopen : s.softWrites a = true) : s.sCheck a n true = none := by
  rw [State.sCheck, if_neg (not_not.mpr halign), if_pos rfl, hopen]
  rfl

theorem State.unitAndMemory_store' {s t : State} {u : Nat} (h : s.unitAndMemory t u) (a : Nat) (bs : List Byte) :
    s.unitAndMemory (t.store' a bs) u := h

/-- The bytes read from a word that decodes, outside the matching store. -/
theorem State.sRead_decodes {s : State} {a : Nat} (hmatch : inMatching a = false) (hgood : s.undecodable a = false) (n : Nat) :
    s.sRead a n = (some (s.mem.bytes a n), s.correct none (wordsOf a n)) := by
  rw [State.sRead, if_neg (by rw [hmatch]; decide), if_neg (by rw [hgood]; decide)]

section
variable {s : State} {u n opc d k : Nat} {imm : Word} {o : LuxOp} {run : Nat → Fields → State → LuxRes} (hop : o = softMem opc run)
  (hready : s.unitReady u = true) (hu : 80 ≤ u) (hd : d < 16) (hk : k < 8)
include hop hu hd hk

theorem LuxOp.legal_softMem (x : Lux) : o.legal u ⟨d, 0, 0, k, 0, 0, imm⟩ x = true := by
  subst hop
  exact LuxOp.legal_of_fits (LuxOp.on_core _ hu) (Uses.fits_pointer (B := .none) hd Nat.one_pos hk) (LuxOp.coissueOk_of_not rfl ..)

include hready

/-- A load from a word that decodes and that the soft plane may read. -/
theorem State.luxStep_load (h : Nat → Lux → Lux) {a : Nat} {y : Lux}
    (hrun : o.run u ⟨d, 0, 0, k, 0, 0, imm⟩ s = s.sLoad u ⟨d, 0, 0, k, 0, 0, imm⟩ n h)
    (ha : (s.lux u).sAddr ⟨d, 0, 0, k, 0, 0, imm⟩ = a) (halign : a % n = 0) (hopen : s.softReads a = true)
    (hmatch : inMatching a = false) (hgood : s.undecodable a = false) (hy : h (natLE (s.mem.bytes a n)) (s.lux u) = y)
    (hplace : (s.lux u).inPlace y = y) :
    s.onlyUnit (s.luxStep u o ⟨d, 0, 0, k, 0, 0, imm⟩) u ∧ s.executes (s.luxStep u o ⟨d, 0, 0, k, 0, 0, imm⟩) u 1 y := by
  have hl := LuxOp.legal_softMem (imm := imm) hop hu hd hk (s.lux u)
  have hsame := s.correct_same none (wordsOf a n)
  have hload : o.run u ⟨d, 0, 0, k, 0, 0, imm⟩ s = .done ((s.correct none (wordsOf a n)).setLux u y) := by
    rw [hrun, State.sLoad, ha, State.sCheck_read halign hopen]
    dsimp only
    rw [State.sRead_decodes hmatch hgood]
    dsimp only
    rw [State.sameBesideCounts_lux hsame, hy]
  obtain ⟨hexec, -, -, honly, -⟩ := State.luxStep_completes (cost := 1) hready hl hload ((State.lux_setLux ..).trans (if_pos rfl))
    (by rw [hop]; rfl) hplace
  exact ⟨honly (State.onlyUnit_setLux (State.onlyUnit_counted (s.onlyUnit_refl u) hsame) y), hexec⟩

/-- A store to bytes that the soft plane may write. -/
theorem State.luxStep_store {v a : Nat} (hrun : o.run u ⟨d, 0, 0, k, 0, 0, imm⟩ s = s.sStore u ⟨d, 0, 0, k, 0, 0, imm⟩ n v)
    (ha : (s.lux u).sAddr ⟨d, 0, 0, k, 0, 0, imm⟩ = a) (halign : a % n = 0) (hopen : s.softWrites a = true) :
    let t := s.luxStep u o ⟨d, 0, 0, k, 0, 0, imm⟩
    s.executes t u 1 (s.lux u) ∧ s.stored t u a n ∧ t.mem = s.mem.setBytes a (bytesLE n v) := by
  intro t
  have hl := LuxOp.legal_softMem (imm := imm) hop hu hd hk (s.lux u)
  have hstore : o.run u ⟨d, 0, 0, k, 0, 0, imm⟩ s = .done (s.store' a (bytesLE n v)) := by
    rw [hrun, State.sStore, ha, State.sCheck_write halign hopen]
  obtain ⟨hexec, hmem, -, -, hframe⟩ := State.luxStep_completes (cost := 1) (y := s.lux u) hready hl hstore rfl (by rw [hop]; rfl) rfl
  refine ⟨hexec, ⟨?_, hframe ⟨fun _ _ => rfl, rfl⟩⟩, hmem⟩
  have hsame := s.store'_memorySame a (bytesLE n v)
  rw [bytesLE_length] at hsame
  rw [State.memorySame, hmem]
  exact hsame

end

/-- AMOADD at a word that decodes and that the soft plane may write. -/
theorem luxAmoadd_run {s : State} {u : Nat} {f : Fields} {a : Nat} (ha : (s.lux u).sAddr f = a) (halign : a % 4 = 0)
    (hopen : s.softWrites a = true) (hgood : s.undecodable a = false) : luxAmoadd.run u f s =
      .done (((s.correct none (wordsOf a 4)).store' a (bytesLE 4 (s.mem.word a + (s.lux u).s f.b).toNat)).setLux u
        ((s.lux u).setS f.d (s.mem.word a))) := by
  dsimp only [luxAmoadd]
  rw [ha, State.sCheck_write halign hopen]
  dsimp only
  rw [hgood]
  rfl

/-- A word stored is the word read. -/
theorem Mem.word_setBytes_word (m : Mem) (a : Nat) (w : Word) : (m.setBytes a (bytesLE 4 w.toNat)).word a = w := by
  have h := m.word_stored a [] [] w.toNat
  rw [BitVec.ofNat_toNat, BitVec.setWidth_eq] at h
  rwa [List.append_nil] at h

theorem Mem.word_of_bytes (m : Mem) (a : Nat) : BitVec.ofNat 32 (natLE (m.bytes a 4)) = m.word a := by
  rw [m.natLE_bytes_four, BitVec.ofNat_toNat, BitVec.setWidth_eq]

theorem Mem.words_of_bytes (m : Mem) (a : Nat) : BitVec.ofNat 32 (natLE (m.bytes a 8)) = m.word a ∧
    BitVec.ofNat 32 (natLE (m.bytes a 8) / 2 ^ 32) = m.word (a + 4) := by
  have hlow := (m.word a).isLt
  have hhigh := (m.word (a + 4)).isLt
  rw [m.natLE_bytes_eight]
  constructor <;> apply BitVec.eq_of_toNat_eq <;> rw [BitVec.toNat_ofNat] <;> omega

/-- Two words stored one after the other are the words read. -/
theorem Mem.word_setBytes_words (m : Mem) (a : Nat) (v w : Word) :
    (m.setBytes a (bytesLE 8 (v.toNat + 2 ^ 32 * w.toNat))).word a = v ∧
      (m.setBytes a (bytesLE 8 (v.toNat + 2 ^ 32 * w.toNat))).word (a + 4) = w := by
  have hbytes : bytesLE 8 (v.toNat + 2 ^ 32 * w.toNat) = [v, w].flatMap (fun w => bytesLE 4 w.toNat) ++ [] :=
    bytesLE_append 4 4 v.toNat w.toNat v.isLt
  rw [hbytes]
  exact ⟨m.word_storedWords a [v, w] [] (j := 0) Nat.two_pos, m.word_storedWords a [v, w] [] (j := 1) Nat.one_lt_two⟩

/-! ### Registers (R385, R504) -/

/-- A register that an S-core may read. -/
theorem State.readBy_soft (s : State) {agent off : Nat} (hagent : isSoft agent = true) (h : off < 0x100000)
    (hbox : off < 0x2000 ∨ 0x20C0 ≤ off) : s.readBy agent off = (s.readReg off, s, false) := by
  have hopen : (decide (0x100000 ≤ off) || decide (0x2000 ≤ off ∧ off < 0x20C0)) = false := by
    rw [decide_eq_false (by omega), decide_eq_false (by omega)]
    rfl
  rw [State.readBy, hagent, hopen]
  rfl

/-- Settles O18, access by access. -/
theorem softPlaneAccesses : Obligations.SoftPlaneAccesses := by
  unfold Obligations.SoftPlaneAccesses
  refine ⟨fun s u d b k imm hready hu hd hb hk => ?_, fun s u d imm hready hu hd halign hoff hbox => ?_⟩
  · intro x a f
    have ha : x.sAddr f = a := x.sAddr_eq f
    refine ⟨fun hopen hmatch hgood => ⟨fun halign => ⟨_, rfl, ?_⟩, ⟨_, rfl, ?_⟩, fun halign heven => ⟨_, rfl, ?_⟩⟩,
      fun hopen => ⟨fun halign => ⟨_, rfl, ?_⟩, ⟨_, rfl, ?_⟩, fun halign heven => ⟨_, rfl, ?_⟩, fun halign hgood => ⟨_, rfl, ?_⟩⟩⟩
    · exact State.luxStep_load (o := luxLdw) rfl hready hu hd hk (fun v x => x.setS d (BitVec.ofNat 32 v)) rfl ha halign hopen hmatch
        hgood (congrArg (x.setS d) (s.mem.word_of_bytes a)) rfl
    · have hbyte : BitVec.ofNat 32 (natLE (s.mem.bytes a 1)) = (s.mem.byte a).setWidth 32 := BitVec.ofNat_toNat ..
      exact State.luxStep_load (o := luxLdbu) rfl hready hu hd hk (fun v x => x.setS d (BitVec.ofNat 32 v)) rfl ha (Nat.mod_one a) hopen
        hmatch hgood (congrArg (x.setS d) hbyte) rfl
    · obtain ⟨hlow, hhigh⟩ := s.mem.words_of_bytes a
      refine State.luxStep_load (o := luxLdd) rfl hready hu hd hk
        (fun v x => (x.setS d (BitVec.ofNat 32 v)).setS (d + 1) (BitVec.ofNat 32 (v / 2 ^ 32))) (if_neg (by dsimp only; omega)) ha halign
        hopen hmatch hgood ?_ rfl
      rw [hlow, hhigh]
    · obtain ⟨hexec, hstored, hmem⟩ := State.luxStep_store (o := luxStw) rfl hready hu hd hk rfl ha halign hopen
      exact ⟨hexec, hstored, by rw [hmem, Mem.word_setBytes_word]⟩
    · obtain ⟨hexec, hstored, hmem⟩ := State.luxStep_store (o := luxStb) rfl hready hu hd hk rfl ha (Nat.mod_one a) hopen
      refine ⟨hexec, hstored, ?_⟩
      rw [hmem, Mem.byte_setBytes, bytesLE_length, if_pos (by omega), Nat.sub_self]
      exact BitVec.ofNat_toNat ..
    · obtain ⟨hexec, hstored, hmem⟩ := State.luxStep_store (o := luxStd) (n := 8) rfl hready hu hd hk (if_neg (by dsimp only; omega)) ha
        halign hopen
      obtain ⟨hlow, hhigh⟩ := s.mem.word_setBytes_words a (x.s d) (x.s (d + 1))
      exact ⟨hexec, hstored, by rw [hmem]; exact hlow, by rw [hmem]; exact hhigh⟩
    · have hl : luxAmoadd.legal u ⟨d, 0, b, k, 0, 0, imm⟩ x = true :=
        LuxOp.legal_of_fits (luxAmoadd.on_core hu) (Uses.fits_pointer (B := .s) hd hb hk) (LuxOp.coissueOk_of_not rfl ..)
      have hsame := s.correct_same none (wordsOf a 4)
      obtain ⟨hexec, hmem, -, -, hframe⟩ := State.luxStep_completes (cost := 1) hready hl
        (luxAmoadd_run (f := ⟨d, 0, b, k, 0, 0, imm⟩) ha halign hopen hgood) ((State.lux_setLux ..).trans (if_pos rfl)) rfl
        (x.inPlace_setS d _)
      have hthere : s.unitAndMemory (s.correct none (wordsOf a 4)) u :=
        (State.onlyUnit_counted (s.onlyUnit_refl u) hsame).unitAndMemory
      have hbytes : (s.luxStep u luxAmoadd ⟨d, 0, b, k, 0, 0, imm⟩).mem =
          s.mem.setBytes a (bytesLE 4 (s.mem.word a + x.s b).toNat) := by
        rw [hmem, ← State.sameBesideCounts_mem hsame]
        rfl
      refine ⟨hexec, ⟨fun z hz => ?_, hframe (State.unitAndMemory_setLux (State.unitAndMemory_store' hthere ..) _)⟩, ?_⟩
      · rw [hbytes]
        exact Mem.byte_setBytes_out _ _ _ _ (by rw [bytesLE_length]; exact hz)
      · rw [hbytes, Mem.word_setBytes_word]
  · intro x
    have h88 := State.unitReady_core hready hu
    have hagent : isSoft (u - 79) = true := decide_eq_true (by omega)
    have hall := Word.within_all imm
    refine ⟨⟨_, rfl, ?_⟩, fun r hr => ⟨_, rfl, ?_⟩⟩
    · have hl : luxRgr.legal u ⟨d, 0, 0, 0, 0, 0, imm⟩ x = true :=
        LuxOp.legal_of_operands x (luxRgr.on_core hu) rfl rfl hd Nat.one_pos Nat.one_pos rfl (by decide) hall
      have hrun : luxRgr.run u ⟨d, 0, 0, 0, 0, 0, imm⟩ s = s.onUnit u fun x => x.setS d (s.readReg imm.toNat) := by
        dsimp only [luxRgr]
        rw [if_neg (by omega), s.readBy_soft hagent hoff hbox]
        rfl
      exact (State.luxStep_onUnit hready hl _ hrun rfl rfl (x.inPlace_setS d _)).symm
    · have hl : luxRgw.legal u ⟨d, 0, 0, 0, 0, 0, imm⟩ x = true :=
        LuxOp.legal_of_operands x (luxRgw.on_core hu) rfl rfl hd Nat.one_pos Nat.one_pos rfl (by decide) hall
      have hrun : luxRgw.run u ⟨d, 0, 0, 0, 0, 0, imm⟩ s = .done r := by
        dsimp only [luxRgw]
        rw [if_neg (by omega), hr]
        rfl
      obtain ⟨mac, hsame⟩ := State.luxStep_done s r u luxRgw _ hready hl hrun
      have hlux := State.sameBesideCounts_lux hsame u
      rw [State.followAt, State.lux_setLux, if_pos rfl] at hlux
      refine ⟨State.onlyUnit_counted (State.onlyUnit_setLux (r.onlyUnit_refl u) _) hsame, by rw [hlux]; rfl, fun hnil hx => ?_⟩
      rw [hlux, Lux.follow, hx, hnil]
      rfl

end Sys2Proof.Machine
end

section
/-! PROOFS. TEND, TPOST, TDLY and FLT (R387, R389, R390, R394, R395, R400). -/

namespace Sys2Proof.Machine

/-! ### What the scheduler keeps -/

section
variable {s t : State} (h : s.sameBesideCounts t)
include h

theorem State.sameBesideCounts_sched : t.sched = s.sched := (congrArg State.sched h :)

theorem State.sameBesideCounts_memoryFrom (r : State) : t.memoryFrom r = s.memoryFrom r :=
  (congrArg (fun z : State => z.memoryFrom r) h :)

theorem State.sameBesideCounts_core (c : Nat) : t.core c = s.core c := by
  rw [State.core, State.core, State.sameBesideCounts_sched h]

theorem State.sameBesideCounts_descState (k : Nat) : t.descState k = s.descState k := by
  rw [State.descState, State.descState, State.descByte, State.descByte, State.sameBesideCounts_mem h]

end

theorem State.descState_setDescState (s : State) (k : Nat) {st : Nat} (h : st < 8) : (s.setDescState k st).descState k = st := by
  have hbyte : (s.setDescState k st).mem.byte (descAddr k + 20) = BitVec.ofNat 8 st := by
    refine (Mem.byte_setBytes ..).trans ((if_pos ⟨Nat.le_refl _, Nat.lt_succ_self _⟩).trans ?_)
    rw [Nat.sub_self]
    rfl
  rw [State.descState, State.descByte, hbyte, BitVec.toNat_ofNat]
  omega

theorem State.setDescState_memorySame (s : State) (k st : Nat) : s.memorySame (s.setDescState k st) (descAddr k + 20) 1 :=
  s.store'_memorySame (descAddr k + 20) [BitVec.ofNat 8 st]

theorem State.core_setDescState (s : State) (k st c : Nat) : (s.setDescState k st).core c = s.core c := rfl

/-- A task's end, where no token has come for its descriptor meanwhile (R395). -/
theorem State.endTask_idle {s : State} {c k : Nat} (htask : (s.core c).task = some k) (hentry : s.entry k = none) :
    s.endTask c = (s.setCore c { s.core c with task := none }).setDescState k dIdle := by
  have hnone : ((s.setCore c { s.core c with task := none }).setDescState k dIdle).entry k = none := hentry
  rw [State.endTask, htask]
  dsimp only
  rw [State.checkComplete, hnone]

/-! ### TPOST (R395, R401) -/

theorem State.entry_setEntry (s : State) (k j : Nat) (m : Option Match) : (s.setEntry k m).entry j = if j = k then m else s.entry j := by
  simp [State.setEntry, State.entry]

/-- A descriptor of two tokens or more is not complete by its first one. -/
theorem Match.complete_first {n slot : Nat} (v : Option Word) (h4 : slot < 4) (hn : 2 ≤ n) :
    (({} : Match).setSlot slot v).complete n = false := by
  obtain ⟨j, hj, hnone⟩ : ∃ j, j < 2 ∧ (({} : Match).setSlot slot v).slot j = none := by
    match slot, h4 with
    | 0, _ => exact ⟨1, by decide, rfl⟩
    | 1, _ | 2, _ | 3, _ => exact ⟨0, by decide, rfl⟩
  refine List.all_eq_false.mpr ⟨j, List.mem_range.mpr (by omega), ?_⟩
  rw [hnone]
  decide

theorem State.readDesc_decodes {s : State} {k : Nat} (h : s.undecodable (descAddr k) = false) : s.readDesc k = s :=
  if_neg (by rw [h]; decide)

section
variable {s : State} {k slot : Nat} (v : Word) (hgood : s.undecodable (descAddr k) = false) (hfault : s.sched.fault = false)
  (hvalid : s.descState k ≠ 0) (hslot : slot < s.descNtok k)
include hgood hfault hvalid hslot

/-- The first token for a valid descriptor takes an entry of the matching store. -/
theorem State.token_first (hentry : s.entry k = none) : s.token k slot v = if s.freeMatches = 0 then (s, .refused)
    else ((s.setEntry k (some (({} : Match).setSlot slot (some v)))).checkComplete k, .taken) := by
  have hopen : ¬(s.descState k = dInvalid ∨ s.descNtok k ≤ slot) := not_or.mpr ⟨hvalid, by omega⟩
  rw [State.token, State.readDesc_decodes hgood, if_neg (by rw [hfault]; decide), if_neg hopen, hentry]

/-- A later token for a valid descriptor goes to its slot of the entry, if that is empty. -/
theorem State.token_later {m : Match} (hentry : s.entry k = some m) : s.token k slot v =
    if m.complete (s.descNtok k) || (m.slot slot).isSome then (s, .refused)
    else ((s.setEntry k (some (m.setSlot slot (some v)))).checkComplete k, .taken) := by
  have hopen : ¬(s.descState k = dInvalid ∨ s.descNtok k ≤ slot) := not_or.mpr ⟨hvalid, by omega⟩
  rw [State.token, State.readDesc_decodes hgood, if_neg (by rw [hfault]; decide), if_neg hopen, hentry]

theorem State.token_taken (h4 : slot < 4) (htwo : 2 ≤ s.descNtok k) (hentry : s.entry k = none)
    (hfree : s.sched.entries.length < 1024) :
    s.token k slot v = (s.setEntry k (some (({} : Match).setSlot slot (some v))), .taken) := by
  have hfirst : (s.setEntry k (some (({} : Match).setSlot slot (some v)))).entry k = some (({} : Match).setSlot slot (some v)) :=
    (State.entry_setEntry ..).trans (if_pos rfl)
  have hntok : (s.setEntry k (some (({} : Match).setSlot slot (some v)))).descNtok k = s.descNtok k := rfl
  rw [State.token_first v hgood hfault hvalid hslot hentry, if_neg (by unfold State.freeMatches; omega), State.checkComplete, hfirst]
  dsimp only
  rw [hntok, Match.complete_first _ h4 htwo, Bool.and_false, if_neg Bool.false_ne_true]

theorem State.token_refused {m : Match} (hentry : s.entry k = some m) (hfilled : (m.slot slot).isSome = true) :
    s.token k slot v = (s, .refused) := by
  rw [State.token_later v hgood hfault hvalid hslot hentry, hfilled, Bool.or_true, if_pos rfl]

end

/-- TPOST after its token: a refused one is counted. -/
theorem luxTpost_run {s r : State} {u : Nat} {f : Fields} {res : TokenRes} (hk : ((s.lux u).s f.a).toNat < 4096)
    (htoken : s.token ((s.lux u).s f.a).toNat (f.imm.bits 0 2) ((s.lux u).s f.b) = (r, res)) : luxTpost.run u f s =
      if res = .refused then
        .done (State.setLux { r with sched := { r.sched with bpTpost := satAdd 0xFFFF r.sched.bpTpost 1 } } u
          ((r.lux u).setS f.d (BitVec.ofNat 32 codeBackpressure)))
      else .done (r.setLux u ((r.lux u).setS f.d 0)) := by
  dsimp only [luxTpost]
  rw [if_neg (by omega), htoken]
  cases res <;> rfl

/-- An instruction that completes after it has changed more than its unit. -/
theorem State.luxStep_after {s r : State} {u : Nat} {o : LuxOp} {f : Fields} {y : Lux} (hready : s.unitReady u = true)
    (hl : o.legal u f (s.lux u) = true) (hr : o.run u f s = .done (r.setLux u y)) : r.onlyUnit (s.luxStep u o f) u := by
  obtain ⟨mac, hsame⟩ := s.luxStep_done _ u o f hready hl hr
  exact State.onlyUnit_counted (State.onlyUnit_setLux (State.onlyUnit_setLux (r.onlyUnit_refl u) y) _) hsame

theorem State.onlyUnit_sched {s t : State} {u : Nat} (h : s.onlyUnit t u) : t.sched = s.sched := (congrArg State.sched h.2 :)

/-! ### TDLY (R387, R400) -/

/-- The words of a context (R400): the scalars, the pointers, and where the task continues. -/
def contextWords (x : Lux) (next : Nat) : List Word := (List.range 16).map x.s ++ ((List.range 8).map x.p ++ [BitVec.ofNat 32 next])

/-- The 128 bytes of a context. -/
def contextBytes (x : Lux) (next : Nat) : List Byte := (contextWords x next).flatMap (fun w => bytesLE 4 w.toNat) ++ bytesLE 28 0

theorem length_contextWords (x : Lux) (next : Nat) : (contextWords x next).length = 25 := rfl

theorem length_contextBytes (x : Lux) (next : Nat) : (contextBytes x next).length = 128 := by
  rw [contextBytes, List.length_append, length_wordBytes, length_contextWords, bytesLE_length]

theorem contextWords_scalar (x : Lux) (next : Nat) {j : Nat} (h : j < 16) :
    (contextWords x next)[j]'(by rw [length_contextWords]; omega) = x.s j := by
  simp [contextWords, h]

theorem contextWords_pointer (x : Lux) (next : Nat) {j : Nat} (h : j < 8) :
    (contextWords x next)[16 + j]'(by rw [length_contextWords]; omega) = x.p j := by
  simp [contextWords, h]

section
variable (s : State) (c k d n next : Nat) (micro : Bool)

/-- The state that holds a task's context and the books of its delay. -/
def State.delayBooked : State := { s.store' (s.descWord k 12).toNat (contextBytes (s.lux (80 + c)) next) with
  sched := { s.sched with
    dlyReg := Tab.put 0 s.sched.dlyReg k d
    dlyPassage := if micro then s.sched.dlyPassage else insertDelay k n s.sched.dlyPassage
    dlyMicro := if micro then insertDelay k (s.time.raw.toNat / 1000 + n) s.sched.dlyMicro else s.sched.dlyMicro } }

/-- A task suspended: its delay is booked, its core is free, and its descriptor is DELAYED. -/
theorem State.delayTask_eq : s.delayTask c k d n micro next =
    ((s.delayBooked c k d n next micro).setCore c
      { (s.delayBooked c k d n next micro).core c with task := none }).setDescState k dDelayed := by
  have hnext : bytesLE 4 (BitVec.ofNat 32 next).toNat = bytesLE 4 next := by
    rw [BitVec.toNat_ofNat]
    exact bytesLE_mod 4 next
  have hbytes : ((List.range 16).map (fun k => Tab.get 0 (s.lux (80 + c)).sr k)).flatMap (fun w => bytesLE 4 w.toNat) ++
      ((List.range 8).map (fun k => Tab.get 0 (s.lux (80 + c)).pr k)).flatMap (fun w => bytesLE 4 w.toNat) ++ bytesLE 4 next ++
      bytesLE 28 0 = contextBytes (s.lux (80 + c)) next := by
    rw [contextBytes, contextWords, List.flatMap_append, List.flatMap_append, List.flatMap_singleton, hnext, ← List.append_assoc]
    rfl
  unfold State.delayTask
  dsimp only
  rw [hbytes]
  unfold State.delayBooked
  dsimp only [State.store']

/-- The bytes of a suspended task: its context, and its descriptor's STATE. -/
theorem State.mem_delayTask : (s.delayTask c k d n micro next).mem =
    (s.mem.setBytes (s.descWord k 12).toNat (contextBytes (s.lux (80 + c)) next)).setBytes (descAddr k + 20)
      [BitVec.ofNat 8 dDelayed] := by
  rw [State.delayTask_eq]
  dsimp only [State.setDescState, State.store', State.setCore, State.delayBooked]

/-- The words of a context that lies apart from its descriptor. -/
theorem State.word_delayTask {x : Lux} (hx : s.lux (80 + c) = x)
    (h : (s.descWord k 12).toNat + 128 ≤ descAddr k ∨ descAddr k + 32 ≤ (s.descWord k 12).toNat) {j : Nat}
    (hj : j < (contextWords x next).length) :
    (s.delayTask c k d n micro next).mem.word ((s.descWord k 12).toNat + 4 * j) = (contextWords x next)[j] := by
  have hlen := length_contextWords x next
  rw [State.mem_delayTask, Mem.word_setBytes_out _ _ (by rw [List.length_singleton]; omega), contextBytes, hx, Mem.word_storedWords]

theorem State.byte_delayTask {z : Nat} (h : z < (s.descWord k 12).toNat ∨ (s.descWord k 12).toNat + 128 ≤ z)
    (hz : z ≠ descAddr k + 20) : (s.delayTask c k d n micro next).mem.byte z = s.mem.byte z := by
  rw [State.mem_delayTask, Mem.byte_setBytes_out _ _ _ _ (by rw [List.length_singleton]; omega),
    Mem.byte_setBytes_out _ _ _ _ (by rw [length_contextBytes]; exact h)]

theorem State.core_delayTask (j : Nat) :
    (s.delayTask c k d n micro next).core j = if j = c then { s.core c with task := none } else s.core j := by
  have hcore (i : Nat) : (s.delayBooked c k d n next micro).core i = s.core i := by
    rw [State.core, State.core]
    dsimp only [State.delayBooked, State.store']
  rw [State.delayTask_eq, State.core_setDescState, State.core_setCore, hcore, hcore]

/-- The books of a suspended task (R400), beside its core's. -/
theorem State.sched_delayTask : { (s.delayTask c k d n micro next).sched with cores := s.sched.cores } = { s.sched with
    dlyReg := Tab.put 0 s.sched.dlyReg k d
    dlyPassage := if micro then s.sched.dlyPassage else insertDelay k n s.sched.dlyPassage
    dlyMicro := if micro then insertDelay k (s.time.raw.toNat / 1000 + n) s.sched.dlyMicro else s.sched.dlyMicro } := by
  rw [State.delayTask_eq, State.setDescState_sched]
  dsimp only [State.setCore, State.delayBooked, State.store']

theorem State.frame_delayTask : { (s.delayTask c k d n micro next).memoryFrom s with sched := s.sched } = s := by
  rw [State.delayTask_eq]
  dsimp only [State.memoryFrom, State.countsFrom, State.setCore, State.setDescState, State.store', State.delayBooked]

end

theorem State.descState_delayTask (s : State) (c k d n next : Nat) (micro : Bool) :
    (s.delayTask c k d n micro next).descState k = 5 := by
  rw [State.delayTask_eq]
  exact State.descState_setDescState _ k (by decide)

/-- A delay of a count in range, where its descriptor names a context area. -/
theorem luxTdly_run {s : State} {u k : Nat} {f : Fields} (htask : (s.core (u - 80)).task = some k)
    (h1 : 1 ≤ ((s.lux u).s f.a).toNat) (h24 : ((s.lux u).s f.a).toNat < 2 ^ 24) (hctx : (s.descWord k 12).toNat ≠ 0) :
    luxTdly.run u f s =
      .over (s.delayTask (u - 80) k f.d ((s.lux u).s f.a).toNat (f.f == 1) ((s.lux u).pc + 8)) := by
  have hword : s.descWord k 12 ≠ 0 := fun h => hctx (congrArg BitVec.toNat h)
  dsimp only [luxTdly]
  rw [htask, Option.getD_some, if_neg (not_or.mpr ⟨by omega, not_or.mpr ⟨by omega, hword⟩⟩)]

/-- A delay of a count out of range. -/
theorem luxTdly_range {s : State} {u : Nat} {f : Fields} (h : ((s.lux u).s f.a) = 0 ∨ 2 ^ 24 ≤ ((s.lux u).s f.a).toNat) :
    luxTdly.run u f s = s.onUnit u fun x => x.setS f.d 2 := by
  dsimp only [luxTdly]
  exact if_pos (h.imp (congrArg BitVec.toNat) Or.inl)

theorem mem_insertDelay (d n : Nat) (l : List (Nat × Nat)) : (d, n) ∈ insertDelay d n l := by
  induction l with
  | nil => exact List.mem_singleton_self _
  | cons p r ih =>
    rw [insertDelay]
    split
    · exact List.mem_cons_self
    · exact List.mem_cons_of_mem _ ih

/-! ### FLT (R389, R390) -/

/-- A record for which there is no room is counted as lost. -/
theorem State.putRecord_full {s : State} {c : Nat} (cause code addr : Nat) (instr : U64)
    (h : 63 ≤ (s.mem.word (faultRing c) - s.mem.word (faultRing c + 4)).toNat) : s.putRecord c cause code addr instr =
      s.store' (faultRing c + 8) (bytesLE 4 (s.mem.word (faultRing c + 8) + 1).toNat) := if_pos h

theorem length_faultRecord (c cause code pc : Nat) (instr : U64) (addr task : Nat) (passage time : Word) :
    (faultRecord c cause code pc instr addr task passage time).length = 32 := by
  simp only [faultRecord, List.length_append, bytesLE_length, List.length_cons, List.length_nil]

/-- A record written: its 32 bytes at its place, and the count of records written. -/
def State.recorded (s : State) (c : Nat) (r : List Byte) : State :=
  (s.store' (faultRing c + 32 * (1 + (s.mem.word (faultRing c)).toNat % 63)) r).store' (faultRing c)
    (bytesLE 4 (s.mem.word (faultRing c) + 1).toNat)

theorem State.recorded_sched (s : State) (c : Nat) (r : List Byte) : (s.recorded c r).sched = s.sched := rfl

theorem State.recorded_units (s : State) (c : Nat) (r : List Byte) : (s.recorded c r).units = s.units := rfl

theorem State.recorded_unitAndMemory (s : State) (c u : Nat) (r : List Byte) : s.unitAndMemory (s.recorded c r) u :=
  State.unitAndMemory_store' (State.unitAndMemory_store' (s.onlyUnit_refl u).unitAndMemory ..) ..

theorem State.recorded_lux (s : State) (c u : Nat) (r : List Byte) : (s.recorded c r).lux u = s.lux u := rfl

theorem State.putRecord_room {s : State} {c : Nat} (cause code addr : Nat) (instr : U64)
    (h : (s.mem.word (faultRing c) - s.mem.word (faultRing c + 4)).toNat < 63) :
    (s.recorded c (faultRecord c cause code (s.lux (80 + c)).pc instr addr ((s.core c).task.getD 0) s.tt.passage
      (lo32 s.time.time))).sameBesideCounts (s.putRecord c cause code addr instr) := by
  have hput : s.putRecord c cause code addr instr = (s.recorded c (faultRecord c cause code (s.lux (80 + c)).pc instr addr
      ((s.core c).task.getD 0) s.tt.passage (lo32 s.time.time))).count 0x0304 c 1 := if_neg (by omega)
  rw [hput]
  exact State.count_same ..

/-- A record changes neither the books of the scheduler nor a unit. -/
theorem State.putRecord_keeps (s : State) (c cause code addr : Nat) (instr : U64) :
    (s.putRecord c cause code addr instr).sched = s.sched ∧ (s.putRecord c cause code addr instr).units = s.units := by
  by_cases h : 63 ≤ (s.mem.word (faultRing c) - s.mem.word (faultRing c + 4)).toNat
  · rw [State.putRecord_full _ _ _ _ h]
    exact ⟨rfl, rfl⟩
  · have hroom := s.putRecord_room (c := c) cause code addr instr (by omega)
    exact ⟨(State.sameBesideCounts_sched hroom).trans (State.recorded_sched ..),
      (State.sameBesideCounts_units hroom).trans (State.recorded_units ..)⟩

section
variable (s : State) (c : Nat) {r : List Byte} (hr : r.length = 32)
include hr

theorem State.bytes_recorded :
    (s.recorded c r).mem.bytes (faultRing c + 32 * (1 + (s.mem.word (faultRing c)).toNat % 63)) 32 = r := by
  have hapart (z : Nat) (hz : faultRing c + 32 * (1 + (s.mem.word (faultRing c)).toNat % 63) ≤ z) : (s.recorded c r).mem.byte z =
      (s.mem.setBytes (faultRing c + 32 * (1 + (s.mem.word (faultRing c)).toNat % 63)) r).byte z :=
    Mem.byte_setBytes_out _ _ z _ (by rw [bytesLE_length]; omega)
  rw [Mem.bytes_congr fun z hz _ => hapart z hz]
  have hread := Mem.bytes_setBytes s.mem (faultRing c + 32 * (1 + (s.mem.word (faultRing c)).toNat % 63)) r
  rwa [hr] at hread

theorem State.byte_recorded {z : Nat} (h : z < faultRing c ∨ faultRing c + 4 ≤ z)
    (hplace : z < faultRing c + 32 * (1 + (s.mem.word (faultRing c)).toNat % 63) ∨
      faultRing c + 32 * (1 + (s.mem.word (faultRing c)).toNat % 63) + 32 ≤ z) :
    (s.recorded c r).mem.byte z = s.mem.byte z :=
  (Mem.byte_setBytes_out _ _ z _ (by rw [bytesLE_length]; exact h)).trans
    (Mem.byte_setBytes_out _ _ z _ (by rw [hr]; exact hplace))

end

theorem State.word_recorded (s : State) (c : Nat) (r : List Byte) :
    (s.recorded c r).mem.word (faultRing c) = s.mem.word (faultRing c) + 1 := Mem.word_setBytes_word ..

/-- The word of FLT (R389), where it goes on. -/
theorem toNat_wordOfFields_flt (code : Word) :
    (wordOfFields 0xA3 ⟨0, 0, 0, 0, 0, 0, code⟩).toNat = 0xA3 * 2 ^ 56 + code.toNat := by
  rw [wordOfFields, BitVec.toNat_ofNat]
  dsimp only
  omega

/-- Settles O19, instruction by instruction. -/
theorem taskInstructions : Obligations.TaskInstructions := by
  unfold Obligations.TaskInstructions
  intro s u d a b hready hu hd ha hb x
  have hunit : 80 + (u - 80) = u := by omega
  refine ⟨fun k htask hentry => ⟨_, rfl, ?_⟩, fun slot h4 => ?_, fun k micro htask => ?_, fun n hn hrange => ⟨_, rfl, ?_⟩,
    fun code hcode => ?_⟩
  · have hl : luxTend.legal u ⟨0, 0, 0, 0, 0, 0, 0⟩ x = true :=
      LuxOp.legal_of_operands x (luxTend.on_core hu) rfl rfl Nat.one_pos Nat.one_pos Nat.one_pos rfl (by decide) rfl
    have hrun : luxTend.run u ⟨0, 0, 0, 0, 0, 0, 0⟩ s =
        .over ((s.setCore (u - 80) { s.core (u - 80) with task := none }).setDescState k dIdle) :=
      congrArg LuxRes.over (State.endTask_idle htask hentry)
    have hsame := State.luxStep_over hready hl hu hrun
    refine ⟨?_, ?_, fun c hc => ?_, fun z hz => ?_, ?_⟩
    · rw [State.sameBesideCounts_core hsame]
      rw [State.core_setDescState, State.core_setCore, if_pos rfl]
    · rw [State.sameBesideCounts_descState hsame]
      exact State.descState_setDescState _ k (by decide)
    · rw [State.sameBesideCounts_core hsame]
      rw [State.core_setDescState, State.core_setCore, if_neg hc]
    · rw [State.sameBesideCounts_mem hsame]
      exact State.setDescState_memorySame (s.setCore (u - 80) { s.core (u - 80) with task := none }) k dIdle z hz
    · rw [State.sameBesideCounts_memoryFrom hsame, State.sameBesideCounts_sched hsame]
      dsimp only [State.memoryFrom, State.countsFrom, State.setCore, State.setDescState, State.store']
  · intro k f hk hgood hfault hvalid hslot
    have himm : (BitVec.ofNat 32 slot).toNat = slot := by
      rw [BitVec.toNat_ofNat]
      omega
    have hlow : Word.bits (BitVec.ofNat 32 slot) 0 2 = slot := (Word.bits_low (n := 2) (by omega)).trans himm
    have hl : luxTpost.legal u f x = true := LuxOp.legal_of_operands x (luxTpost.on_core hu) rfl rfl hd ha hb rfl (by decide)
      (Word.and_not_mask (n := 2) (by omega))
    have hsame (v : Word) : s.token k (f.imm.bits 0 2) v = s.token k slot v := congrArg (s.token k · v) hlow
    refine ⟨fun htwo hentry hfree => ⟨_, rfl, ?_⟩, fun m hentry hfilled => ⟨_, rfl, ?_⟩⟩
    · have htoken := State.token_taken (x.s b) hgood hfault hvalid hslot h4 htwo hentry hfree
      have hrun := (luxTpost_run (f := f) (res := .taken) hk ((hsame _).trans htoken)).trans (if_neg nofun)
      have honly := State.luxStep_after hready hl hrun
      have hentries (j : Nat) : (s.luxStep u luxTpost f).entry j = if j = k then some (({} : Match).setSlot slot (some (x.s b)))
          else s.entry j := by
        rw [State.entry, State.onlyUnit_sched honly]
        exact State.entry_setEntry ..
      refine ⟨s.luxStep_executes _ u 1 luxTpost f _ hready hl hrun ((State.lux_setLux ..).trans (if_pos rfl)) rfl (x.inPlace_setS d 0),
        (hentries k).trans (if_pos rfl), fun j hj => (hentries j).trans (if_neg hj), ?_⟩
      rw [State.onlyUnit_sched honly]
      exact honly
    · have htoken := State.token_refused (x.s b) hgood hfault hvalid hslot hentry hfilled
      have hrun := (luxTpost_run (f := f) (res := .refused) hk ((hsame _).trans htoken)).trans (if_pos rfl)
      rw [satAdd_one] at hrun
      exact ⟨s.luxStep_executes _ u 1 luxTpost f _ hready hl hrun ((State.lux_setLux ..).trans (if_pos rfl)) rfl (x.inPlace_setS d _),
        State.luxStep_after hready hl hrun⟩
  · intro n ctx h1 h24 hctx hapart
    have hl : luxTdly.legal u ⟨d, a, 0, 0, 0, bitNat micro, 0⟩ x = true :=
      LuxOp.legal_of_operands x (luxTdly.on_core hu) rfl rfl hd ha Nat.one_pos (by cases micro <;> rfl) (by cases micro <;> decide) rfl
    have hmicro : (bitNat micro == 1) = micro := by cases micro <;> rfl
    have hrun := luxTdly_run (f := ⟨d, a, 0, 0, 0, bitNat micro, 0⟩) htask h1 h24 hctx
    dsimp only at hrun
    rw [hmicro] at hrun
    have hsame := State.luxStep_over hready hl hu hrun
    have hbooks := s.sched_delayTask (u - 80) k d n (x.pc + 8) micro
    have hword {j : Nat} (hj : j < 25) : (s.luxStep u luxTdly ⟨d, a, 0, 0, 0, bitNat micro, 0⟩).mem.word (ctx + 4 * j) =
        (contextWords x (x.pc + 8))[j]'hj := by
      rw [State.sameBesideCounts_mem hsame]
      exact s.word_delayTask (u - 80) k d n (x.pc + 8) micro (congrArg s.lux hunit) hapart hj
    refine ⟨_, rfl, ?_, ?_, ?_, ?_, ?_, fun j hj => ?_, fun j hj => ?_, ?_, fun c hc => ?_, fun z hz hstate => ?_, ?_⟩
    · rw [State.sameBesideCounts_core hsame, State.core_delayTask, if_pos rfl]
    · rw [State.sameBesideCounts_descState hsame, State.descState_delayTask]
    · rintro rfl
      rw [State.sameBesideCounts_sched hsame]
      exact ⟨(congrArg Sched.dlyPassage hbooks).symm ▸ mem_insertDelay k n _, (congrArg Sched.dlyMicro hbooks :)⟩
    · rintro rfl
      rw [State.sameBesideCounts_sched hsame]
      exact ⟨(congrArg Sched.dlyMicro hbooks).symm ▸ mem_insertDelay k _ _, (congrArg Sched.dlyPassage hbooks :)⟩
    · rw [State.sameBesideCounts_sched hsame]
      exact (congrArg (fun z : Sched => Tab.get 0 z.dlyReg k) hbooks).trans ((Tab.get_put ..).trans (if_pos rfl))
    · rw [hword (by omega)]
      exact contextWords_scalar x _ hj
    · rw [show ctx + 64 + 4 * j = ctx + 4 * (16 + j) by omega, hword (by omega)]
      exact contextWords_pointer x _ hj
    · exact hword (j := 24) (by decide)
    · rw [State.sameBesideCounts_core hsame, State.core_delayTask, if_neg hc]
    · rw [State.sameBesideCounts_mem hsame, State.byte_delayTask s _ _ _ _ _ _ hz hstate]
    · rw [State.sameBesideCounts_memoryFrom hsame, State.sameBesideCounts_sched hsame]
      have hsched : ({ (s.delayTask (u - 80) k d n micro (x.pc + 8)).sched with
          cores := s.sched.cores, dlyReg := s.sched.dlyReg, dlyPassage := s.sched.dlyPassage, dlyMicro := s.sched.dlyMicro } : Sched) =
          s.sched := congrArg (fun z : Sched => { z with
        dlyReg := s.sched.dlyReg, dlyPassage := s.sched.dlyPassage, dlyMicro := s.sched.dlyMicro }) hbooks
      rw [hsched]
      exact s.frame_delayTask ..
  · have hl : luxTdly.legal u ⟨d, a, 0, 0, 0, 0, 0⟩ x = true :=
      LuxOp.legal_of_operands x (luxTdly.on_core hu) rfl rfl hd ha Nat.one_pos rfl (by decide) rfl
    exact State.luxStep_onUnit hready hl _ (luxTdly_range (f := ⟨d, a, 0, 0, 0, 0, 0⟩) (hn ▸ hrange)) rfl rfl (x.inPlace_setS d 2)
  · intro c ring written place
    have hl {n : Nat} (hn : n < 2) : luxFlt.legal u ⟨0, 0, 0, 0, 0, n, code⟩ x = true :=
      LuxOp.legal_of_operands x (luxFlt.on_core hu) rfl rfl Nat.one_pos Nat.one_pos Nat.one_pos (within_low (k := 1) hn) (by omega)
        (Word.and_not_mask (n := 16) hcode)
    refine ⟨fun hfull => ⟨_, rfl, ?_⟩, fun k htask hk hentry => ⟨_, rfl, ?_⟩, fun hroom => ⟨_, rfl, ?_⟩⟩
    · have hrun : luxFlt.run u ⟨0, 0, 0, 0, 0, 0, code⟩ s =
          .done (s.store' (ring + 8) (bytesLE 4 (s.mem.word (ring + 8) + 1).toNat)) :=
        congrArg LuxRes.done (State.putRecord_full 6 code.toNat 0 _ hfull)
      obtain ⟨hexec, hmem, -, -, hframe⟩ := State.luxStep_completes (y := x) hready (hl Nat.two_pos) hrun rfl rfl rfl
      refine ⟨hexec, ?_, fun z hz => ?_, hframe (State.unitAndMemory_store' (s.onlyUnit_refl u).unitAndMemory ..)⟩
      · rw [hmem]
        exact Mem.word_setBytes_word ..
      · rw [hmem]
        exact Mem.byte_setBytes_out _ _ _ _ (by rw [bytesLE_length]; exact hz)
    · obtain ⟨hsched, hunits⟩ := s.putRecord_keeps c 6 code.toNat 0 (wordOfFields 0xA3 ⟨0, 0, 0, 0, 0, 1, code⟩)
      have hcores (j : Nat) : (s.putRecord c 6 code.toNat 0 (wordOfFields 0xA3 ⟨0, 0, 0, 0, 0, 1, code⟩)).core j = s.core j := by
        rw [State.core, hsched, State.core]
      have hrun : luxFlt.run u ⟨0, 0, 0, 0, 0, 1, code⟩ s = .over (State.endTask (s.putRecord c 6 code.toNat 0
          (wordOfFields 0xA3 ⟨0, 0, 0, 0, 0, 1, code⟩)) c) := rfl
      generalize s.putRecord c 6 code.toNat 0 (wordOfFields 0xA3 ⟨0, 0, 0, 0, 0, 1, code⟩) = p at hsched hunits hcores hrun
      have hsame := State.luxStep_over hready (hl Nat.one_lt_two) hu hrun
      rw [State.endTask_idle ((congrArg Core.task (hcores c)).trans htask) (by rw [State.entry, hsched]; exact hentry)] at hsame
      refine ⟨?_, ?_, ?_, fun j hj => ?_⟩
      · rw [State.sameBesideCounts_core hsame, State.core_setDescState, State.core_setCore, if_pos rfl]
      · rw [State.sameBesideCounts_descState hsame, State.descState_setDescState _ k (by decide)]
        rfl
      · rw [State.sameBesideCounts_units hsame, State.setDescState_units, State.setCore_units, hunits]
      · rw [State.sameBesideCounts_core hsame, State.core_setDescState, State.core_setCore, if_neg hj, hcores]
    · have hrec := s.putRecord_room (c := c) 6 code.toNat 0 (wordOfFields 0xA3 ⟨0, 0, 0, 0, 0, 0, code⟩) hroom
      have hrun : luxFlt.run u ⟨0, 0, 0, 0, 0, 0, code⟩ s =
          .done (s.putRecord c 6 code.toNat 0 (wordOfFields 0xA3 ⟨0, 0, 0, 0, 0, 0, code⟩)) := rfl
      generalize s.putRecord c 6 code.toNat 0 (wordOfFields 0xA3 ⟨0, 0, 0, 0, 0, 0, code⟩) = p at hrec hrun
      obtain ⟨hexec, hmem, -, -, hframe⟩ := State.luxStep_completes (y := x) hready (hl Nat.two_pos) hrun
        ((State.sameBesideCounts_lux hrec u).trans (State.recorded_lux ..)) rfl rfl
      have hbytes := hmem.trans (State.sameBesideCounts_mem hrec)
      have hlen := length_faultRecord c 6 code.toNat (s.lux (80 + c)).pc (wordOfFields 0xA3 ⟨0, 0, 0, 0, 0, 0, code⟩) 0
        ((s.core c).task.getD 0) s.tt.passage (lo32 s.time.time)
      refine ⟨hexec, ?_, ?_, fun z hz hplace => ?_,
        hframe (State.unitAndMemory_counted (State.recorded_unitAndMemory ..) hrec)⟩
      · rw [hbytes]
        exact State.word_recorded ..
      · rw [hbytes]
        refine (State.bytes_recorded s c hlen).trans ?_
        rw [faultRecord, toNat_wordOfFields_flt, lo32, BitVec.toNat_setWidth, hunit]
      · rw [hbytes]
        exact State.byte_recorded s c hlen hz hplace

end Sys2Proof.Machine
end
